-- ==== Sys2Proof/Word.lean ====
section
/-! DEFINITION. The words of the part (R12): bytes of 8 bits, words of 32, lines of 128; and the two
scales every instant is kept in. -/

namespace Sys2Proof

/-- A byte (R12). -/
abbrev Byte := BitVec 8

/-- A 32-bit word (R12), the width of a BAR0 register (R283). -/
abbrev Word := BitVec 32

/-- A 128-bit line of Big Top (R338), and the width of a Seesaw item (R347). -/
abbrev Line := BitVec 128

/-- Nanoseconds in a second (R246). -/
abbrev nsPerS : Nat := 1000000000

/-- Units of the counter's hidden fraction in a nanosecond (R246). -/
abbrev fracPerNs : Nat := 4294967296

end Sys2Proof
end

