-- ==== Sys2Proof/Syntax.lean ====
section
/-! DEFINITION. The commands of the part: one constructor for each row of the table of operations and events, with what
each carries. An operand holds what comes from outside the model: the arguments of a command, what a pin or a
medium shows, and the outcome of physics and of cryptography. -/

namespace Sys2Proof

/-- The CAP envelope of a request (R356): the session it arrives on and the client's Tag. -/
structure CapReq where
  sess : Nat
  tag : Nat
deriving DecidableEq, Repr

/-- An Epmeir container as the part sees it (R375). `signer` is the public key under which the signature verifies,
0 when it verifies under none. -/
structure Epmeir where
  magicOk : Bool
  typ : Nat
  version : Nat
  targetKind : Nat
  target : Nat
  counter : Nat
  lengthOk : Bool
  hashOk : Bool
  signer : Nat
deriving DecidableEq, Repr

/-- What the part finds on its board and in its fuses as it starts (R2, R297, R306, R412, R415, R471): `lostIngest` the sequences of
ingest entries and `lostRecords` the tags of registry copies that NAND does not give back (R424). -/
structure Board where
  fuseOk : Bool
  fuseVariant : Nat
  pllOk : Bool
  ddrGiB : Nat
  ddrCacheOk : Bool
  bist0Ok : Bool
  bist1Ok : Bool
  entropyOk : Bool
  nandOk : Bool
  mirrorsOk : Bool
  nandErased : Bool
  chipEnables : Nat
  ceMiB : Nat
  goodBlocks : Nat
  unitsPerBlock : Nat
  pcieGen : Nat
  pcieWidth : Nat
  startMs : Nat
  lostIngest : List Nat
  lostRecords : List Nat
deriving DecidableEq, Repr

/-- A native address (R40). -/
structure Native where
  ntype : Nat
  addr : Nat
deriving DecidableEq, Repr

/-- A detection (R66): where, when and how strong. `freqOff` in Hz from its channel's centre; `power` in 0.1 dB against a sine at full
scale (R61); `symNs` the symbol period of its mode; `sync` the sync word of a Pendant frame (R74); `unsupported` a format
of R65. -/
structure Det where
  port : Nat
  grid : Nat
  channel : Nat
  mode : Nat
  syncNs : Nat
  freqOff : Int
  metric : Nat
  power : Int
  symNs : Nat
  sync : Nat
  unsupported : Bool
deriving DecidableEq, Repr

/-- What a receiver decoded of a frame (R70, R71, R127): its stamps, its link header and its measures. `suite` is the bit
of its security suite in the blob's Usage (R148), 7 or more for a kind that R165 does not list; `rssi` on radio in 0.1 dB against
a sine at full scale (R61), on a lane as in its descriptor; `frame` its bytes as received, as one little-endian number;
`copies` the soft values of the copies of a Pendant frame, whose bytes and link header the part decodes from them (R74 to R77). -/
structure RxInfo where
  syncNs : Nat
  endNs : Nat
  native : Native
  counter : Nat
  suite : Nat
  ackReq : Bool
  rssi : Int
  esn0 : Int
  modeParam : Nat
  length : Nat
  frame : Nat
  copies : List (List Int)
deriving DecidableEq, Repr

/-- One element of the application layer, as group 1 reads it from a frame (R172, R173, R175). `timeKind`: 0 none, 1 UTC
date-time, 2 local civil time; `time` its seconds from 1970-01-01 00:00:00 in that scale, `leap` an inserted
second 23:59:60; `powerOff`: the endpoint marks the value with a power-off (Status bit 4 of R175; DEDUCED, log entry 75).
`event`: 0 reading, 1 outage, 2 restoration, 3 alarm, 4 tamper, 5 acceptance of emergency credit, 6 application
acknowledgement of the staged item `code`, 7 missing block of campaign `aux`, 8 campaign `aux` complete, 9 tariff
register of rate `aux` (R218). -/
structure Element where
  proto : Nat
  ident : Nat
  value : Int
  scaler : Int
  timeKind : Nat
  time : Nat
  leap : Bool
  interval : Nat
  supported : Bool
  powerOff : Bool
  event : Nat
  code : Nat
  aux : Nat
deriving DecidableEq, Repr

/-- A staged downlink item as StageItem carries it (R93). -/
structure ItemArg where
  tag : Nat
  cls : Nat
  prio : Nat
  length : Nat
  notBefore : Nat
  expiry : Nat
  flags : Nat
  payload : Nat
deriving DecidableEq, Repr

/-- The campaign header of R103. -/
structure CampaignArg where
  campaign : Nat
  tenant : Nat
  blockSize : Nat
  flags : Nat
  imageLength : Nat
  manufacturer : Nat
  deviceType : Nat
  version : Nat
  cellMask : Nat
  startTai : Nat
  endTai : Nat
  imageCrc : Nat
  imageHash : Nat
deriving DecidableEq, Repr

/-- A data symbol of a Chain burst as received (R115, R124): the samples of its FFT window, the pilot-derived noise of each data carrier
in 1/65,536 µV², and its soft values by data carrier and plane, negative for a 1. -/
structure BurstSymbol where
  samples : List Int
  noise : List Nat
  soft : List Int
deriving DecidableEq, Repr

/-- What a power-line frame adds to `RxInfo`. `clipped`: the ADC clipped during it (R127). The others are read from standard frames
only: `modulation` announced, as R127 codes it (R111); `sender` the short address of its last sender (R138); `busyNs` the busy
time that its standard assigns from its end (R130); `toneMap` and `toneMapRequest` what it carries of them (R111). -/
structure PlcInfo where
  chain : Bool
  clipped : Bool
  modulation : Nat
  sender : Nat
  busyNs : Nat
  toneMap : Option (Nat × Nat)
  toneMapRequest : Bool
deriving DecidableEq, Repr

/-- A frame the part sends on a lane (R132, R136): `kind` 0 Chain, 1 standard; `prio` 0 to 2 for Chain, 1 high or 2
normal for standard; `stage` the StageSequence of the staged item it carries, 0 for none; `payload` its `bytes` bytes after the MAC
header. -/
structure PlcTx where
  kind : Nat
  prio : Nat
  dest : Nat
  stage : Nat
  bytes : Nat
  payload : Nat
deriving DecidableEq, Repr

/-- The admission image (R45), as its fields. -/
structure Image where
  tag : Nat
  native : Native
  cell : Nat
  tenant : Nat
  flags : Nat
  billingHome : Nat
  calendar : Nat
  phase : Nat
  topology : Nat
  channelMask : Nat
  channelConfig : List Nat
  previousTag : Nat
deriving DecidableEq, Repr

/-- A move export (R49) beside the certificate that comes with it. `certOk`: the certificate chains to the manufacturing
root; `certSerial`: the serial its subject names; `signatureOk`: the export's signature verifies under it. -/
structure MoveExport where
  version : Nat
  tenant : Nat
  serial : Nat
  tag : Nat
  energy : List Int
  credit : Int
  emergency : Int
  debt : Int
  topUpCounter : Nat
  lastTopUp : Nat
  stateSince : Nat
  creditState : Nat
  tflags : Nat
  share : Nat
  periodSpend : Int
  switchSeq : Nat
  lastAmount : Int
  remainder : Nat
  certOk : Bool
  certSerial : Nat
  signatureOk : Bool
deriving DecidableEq, Repr

/-- One entry of a KEY_UPDATE after decryption (R157); `key` its KeyMaterial of 32 bytes. -/
structure KeyEntry where
  kind : Nat
  keyKind : Nat
  generation : Nat
  slot : Nat
  usage : Nat
  tag : Nat
  key : Nat
deriving DecidableEq, Repr

/-- A KEY_UPDATE payload (R157): its clear fields, whether key agreement and the GCM tag pass, and its entries. -/
structure KeyUpdate where
  version : Nat
  entryCount : Nat
  tenant : Nat
  serial : Nat
  keyHashOk : Bool
  decrypts : Bool
  entries : List KeyEntry
deriving DecidableEq, Repr

/-- One trust anchor entry (R377). -/
structure AnchorEntry where
  action : Nat
  role : Nat
  tenant : Nat
  slot : Nat
  keyKind : Nat
  key : Nat
deriving DecidableEq, Repr

/-- A SEAL payload (R383). -/
structure SealArg where
  action : Nat
  reason : Nat
  serial : Nat
  expectedBreaks : Nat
  operator : Nat
deriving DecidableEq, Repr

/-- A switching request as SwitchSubmit carries it (R231), with the tenant of the DTLS principal that sends it. -/
structure SwitchArg where
  tag : Nat
  kind : Nat
  tenant : Nat
  flags : Nat
  notBefore : Nat
  expiry : Nat
  limitW : Nat
  durationS : Nat
  cellMask : Nat
  reference : Nat
deriving DecidableEq, Repr

/-- A topology node as NodeWrite carries it (R235). -/
structure NodeArg where
  id : Nat
  parent : Nat
  kind : Nat
  tenant : Nat
  flags : Nat
  minWh : Nat
  permille : Nat
  name : Nat
deriving DecidableEq, Repr

/-- A received Ethernet frame at its end (R273): its bytes from the destination address to the FCS, the first one lowest. -/
structure EthRx where
  length : Nat
  data : Nat
deriving DecidableEq, Repr

/-- The header of a CAP request for a plain object (R356, R357): `total` is its TotalLength. -/
structure CapMsg where
  version : Nat
  index : Nat
  sub : Nat
  offset : Nat
  whole : Bool
  total : Nat
  lengthAgrees : Bool
deriving DecidableEq, Repr

/-- One object of a catalogue bundle (R367). -/
structure BundleEntry where
  index : Nat
  sub : Nat
  length : Nat
  value : Int
deriving DecidableEq, Repr

/-- A FIRMWARE container's payload as the part sees it (R380, R381). -/
structure FirmwareArg where
  legalHash : Nat
  bringsModule : Bool
  readBackOk : Bool
deriving DecidableEq, Repr

/-- The commands of the part: one constructor for each row of the table of operations and events. -/
inductive Instr where
  /-- PORST_N_RELEASE (R412): Release of PORST_N starts the start-up sequence, which runs through steps 0x01 to 0x0C
      until the part is Ready. -/
  | porstNRelease (b : Board)
  /-- PORST_N_ASSERT (R452): Assertion of PORST_N stops the part at once, including during the power-fail sequence. -/
  | porstNAssert
  /-- PFI_N_ASSERT (R419): The filtered assertion of PFI_N starts the power-fail sequence: commits stop, the gate
      stops, erases are suspended and the buffer is flushed. -/
  | pfiNAssert
  /-- PWR_SAFE_ASSERT (R419): Once the buffer is programmed, the battery-domain copies are written, the ActiveMark is
      cleared and PWR_SAFE is asserted. -/
  | pwrSafeAssert
  /-- PFI_N_RELEASE (R421): Release of PFI_N before PWR_SAFE lets the sequence run on, and it arms the restart delay
      of 100 ms. -/
  | pfiNRelease
  /-- INTERNAL_RESTART (R421): Once PWR_SAFE is asserted, or 100 ms after PFI_N releases, the part restarts internally
      at step 1 of start-up. -/
  | internalRestart (b : Board)
  /-- RAILS_LOST (R416): Loss of the main rails after PWR_SAFE puts the part in Sleep with only the battery domain
      running. -/
  | railsLost
  /-- POWER_STATE_SET_ACTIVE (R417): PowerStateSet 0 returns the part from Standby to Active by running start-up steps
      11 and 12. -/
  | powerStateSetActive (r : CapReq)
  /-- POWER_STATE_SET_STANDBY (R417): PowerStateSet 1 stops new ingest commits and completes the frames past step 4
      before entering Standby. -/
  | powerStateSetStandby (r : CapReq)
  /-- STANDBY_ENTERED (R417): When the last committed frame completes, the receivers are held in reset and Juggler
      groups 0 to 2 are stopped. -/
  | standbyEntered
  /-- POWER_STATE_SET_SLEEP (R418): PowerStateSet 2 runs the power-fail sequence without the last gasp and then waits
      for the rails to be removed. -/
  | powerStateSetSleep (r : CapReq)
  /-- POWER_STATE_SET_RESTART (R418): PowerStateSet 3 runs the power-fail sequence and then restarts internally once
      any paired-store program has finished. -/
  | powerStateSetRestart (r : CapReq)
  /-- WAKE_ALARM (R418): The RTC reaching WakeAlarm drives WAKE_REQ high. -/
  | wakeAlarm
  /-- VBAT_LOW (R418): VBAT falling below 2.4 V drives WAKE_REQ high. -/
  | vbatLow
  /-- BATTERY_CHANGE_OVER (R453): The battery domain changes its supply between VDDIO_3V3 and VBAT as VDDIO_3V3
      crosses its thresholds. -/
  | batteryChangeOver (vio3v3Mv : Nat) (vbatPresent : Bool)
  /-- DDR_UNCORRECTABLE (R424): A detected uncorrectable DDR error is handled as an uncorrectable internal error, with
      abort, flush and restart. -/
  | ddrUncorrectable (frames : List Nat)
  /-- IQ_RETRAIN (R59): The IqRetrain command retrains an IQ port against the training pattern. -/
  | iqRetrain (r : CapReq) (port : Nat)
  /-- IQ_TRAINING_PASS (R59): After 1,024 consecutive correct samples on all lanes, the port is up. -/
  | iqTrainingPass (port : Nat)
  /-- IQ_TRAINING_TIMEOUT (R59): Training not passed within 10 ms leaves the port in the failed state, with the
      failing lane named. -/
  | iqTrainingTimeout (port : Nat) (lanes : Nat)
  /-- FRAME_SLIP (R60): A misplaced frame marker on four consecutive samples aborts the port's frames, dissolves its
      groups and logs the fault. -/
  | frameSlip (port : Nat)
  /-- LOSS_OF_CLOCK (R60): A missing receive clock or one outside 1 % aborts the port's frames and logs the fault. -/
  | lossOfClock (port : Nat)
  /-- CLOCK_RESTORED (R60): After the clock has been present and within tolerance for 1 ms, the port retrains. -/
  | clockRestored (port : Nat)
  /-- CLIPPED_MILLISECOND (R61): At the end of each millisecond whose clip count exceeds ClipFlagThreshold, the frames
      on air on the port are flagged Clipped. -/
  | clippedMillisecond (port : Nat) (clipped : Nat)
  /-- DETECTION (R66): A preamble followed by a valid sync word raises a detection, and a demodulator is assigned to
      it. `ds` the detections of one RADIO cycle. -/
  | detection (ds : List Det)
  /-- FRAME_DELIVERY (R70): A demodulated frame that passes its checks is written as a descriptor and pushed to its
      cell's queue as step 1. -/
  | frameDelivery (dem : Nat) (ok : Bool) (i : RxInfo)
  /-- SYNC_LOST (R69): Loss of sync releases the frame's demodulator. -/
  | syncLost (dem : Nat)
  /-- DEMOD_MAX_HOLD (R69): A frame that has held its demodulator for DemodMaxHoldS is abandoned and the demodulator
      released. -/
  | demodMaxHold (dem : Nat)
  /-- CANCELLATION_PASS (R81): A completed cancellation pass subtracts the strongest decoded member and retries the
      undecoded ones. -/
  | cancellationPass (group : Nat) (decoded : List (Nat × RxInfo))
  /-- FAST_PATH_RESPONSE (R89): A response request makes the composer select staged items, check the duty budget, and
      build and secure the response. `length` the bytes of its secured frame, `airUs` its air time but for Pendant, without
      ResponsePreambleExtra, `widthHz` the width it occupies. -/
  | fastPathResponse (frame length airUs widthHz : Nat)
  /-- LAUNCH_DEADLINE (R90): At 50 µs before the launch, an unfinished response is missed and the working slot is
      purged. -/
  | launchDeadline (frame : Nat)
  /-- RESPONSE_LAUNCH (R89): At the launch instant, the response's first preamble bit leaves the transmit pins, unless
      the modulator is busy. -/
  | responseLaunch (frame : Nat)
  /-- LBT_LISTEN_END (R97): At the end of the listen, a busy channel abandons a response or moves a broadcast to an
      alternate frequency. `power` the highest measured during the listen, in 0.1 dBm. -/
  | lbtListenEnd (port : Nat) (power : Int)
  /-- MODULATOR_TX_END (R86): A transmission ends and its modulator becomes free. -/
  | modulatorTxEnd (port : Nat)
  /-- PENDANT_RESPONSE_LAUNCH (R98): 2.000 s after a Pendant frame's EndStamp, the Pendant response is launched with
      PendantResponseCopies copies. -/
  | pendantResponseLaunch (frame : Nat)
  /-- STAGE_ITEM (R94): The StageItem command stages a downlink item, or refuses it with queue-full. -/
  | stageItem (r : CapReq) (a : ItemArg)
  /-- STAGE_WITHDRAW (R95): The StageWithdraw command removes a named item unless a modulator holds it. -/
  | stageWithdraw (r : CapReq) (tag seq : Nat)
  /-- ITEM_EXPIRY (R95): An item that reaches its Expiry is removed and logged; a class 2 item is reported to the
      gate. -/
  | itemExpiry (seq : Nat)
  /-- DUTY_BUCKET_ROLL (R96): Each minute, the oldest on-air bucket of each port and sub-band is replaced. -/
  | dutyBucketRoll
  /-- BROADCAST_WINDOW (R100): A broadcast transmission of a plan entry falls due within its window. -/
  | broadcastWindow (entry : Nat) (airUs widthHz : Nat)
  /-- CAMPAIGN_START (R103): The CampaignStart command stages a firmware campaign header, whose image follows by bulk
      transfer. -/
  | campaignStart (r : CapReq) (a : CampaignArg) (image : Nat)
  /-- CAMPAIGN_BEGIN (R102): At StartTai, the campaign starts sending its blocks. -/
  | campaignBegin (campaign : Nat)
  /-- CAMPAIGN_END (R102): At EndTai, a running campaign ends, and endpoints still incomplete are reported. -/
  | campaignEnd (campaign : Nat)
  /-- THERMAL_TRIP (R107): Assertion of PLC_x_THERM_N drops DRVEN, aborts the transmission and logs the trip. -/
  | thermalTrip (lane : Nat)
  /-- THERMAL_HOLDOFF_END (R107): ThermalHoldoffMs after the flag releases, the lane may transmit again. -/
  | thermalHoldoffEnd (lane : Nat)
  /-- ZC_EDGE (R122): A zero-crossing edge is stamped and checked against its prediction, and tracking may lock. -/
  | zcEdge (lane : Nat) (atNs : Nat) (rising : Bool)
  /-- ZC_MISSING_EDGE (R122): A predicted edge that does not arrive is taken at the prediction. -/
  | zcMissingEdge (lane : Nat)
  /-- HALF_CYCLE (R123): At each half-cycle, the noise-map slots are averaged and the automatic receive gain is set. -/
  | halfCycle (lane : Nat) (power : List Nat) (rmsDb : Int)
  /-- PLC_PREAMBLE_DETECTION (R121): A standard or Chain preamble is detected and binds the lane to the frame. -/
  | plcPreambleDetection (lane : Nat) (chain : Bool)
  /-- CHAIN_HEADER_DECODE (R113): A Chain header is decoded, giving the burst timing; a bad CRC or reserved value
      releases the lane. -/
  | chainHeaderDecode (lane syncNs : Nat) (soft : List Int)
  /-- CHAIN_BURST (R121): An announced Chain burst is received; pilots missing in two consecutive bursts release the
      lane. -/
  | chainBurst (lane : Nat) (pilots : Bool) (before : List Int) (symbols : List BurstSymbol)
  /-- PLC_FRAME_DELIVERY (R127): A power-line frame that passes its checks is delivered to its cell's queue. -/
  | plcFrameDelivery (lane : Nat) (ok : Bool) (i : RxInfo) (p : PlcInfo)
  /-- MEDIUM_IDLE (R129): The lane's medium becomes idle, which fixes the idle instant for contention. -/
  | mediumIdle (lane power : Nat)
  /-- VIRTUAL_BUSY_END (R130): The virtual busy time set by a decoded frame ends. -/
  | virtualBusyEnd (lane : Nat)
  /-- PLC_FRAME_QUEUED (R136): A frame of the part is queued on a lane and selected for contention by class. -/
  | plcFrameQueued (lane : Nat) (t : PlcTx)
  /-- CHAIN_SLOT_START (R131): At the drawn slot, with the medium idle throughout, a Chain frame starts its preamble. -/
  | chainSlotStart (lane : Nat)
  /-- STANDARD_CSMA_TX (R136): A standard frame wins CSMA/CA under its standard and is transmitted. -/
  | standardCsmaTx (lane : Nat)
  /-- PLC_TX_END (R126): A power-line transmission ends; too many current-limit samples mark it degraded for a retry. -/
  | plcTxEnd (lane : Nat) (isenseMv : List Nat)
  /-- CHAIN_ACK_SEND (R134): ChainAckGapUs after a received unicast frame's EndStamp, the Chain acknowledgement is
      sent. -/
  | chainAckSend (lane : Nat)
  /-- CHAIN_ACK_RECEIVED (R135): A Chain acknowledgement whose CRC bits match confirms the hop. -/
  | chainAckReceived (lane : Nat)
  /-- ACK_TIMEOUT (R135): No matching acknowledgement within ChainAckGapUs plus SlotUs leads to a retry with route
      penalties. -/
  | ackTimeout (lane : Nat)
  /-- LOADNG_MESSAGE (R137): A LOADng route request, reply, error or link-cost message updates the mesh routes. -/
  | loadngMessage (lane kind origin target next cost : Nat)
  /-- EAP_PSK_BOOTSTRAP (R137): A bootstrapping exchange is served as PAN coordinator, keyed through Locket. -/
  | eapPskBootstrap (lane tag : Nat) (ok : Bool)
  /-- LINK_QUALITY_READ (R143): The LinkQualityRead command returns the links of a short address. -/
  | linkQualityRead (r : CapReq) (lane short : Nat)
  /-- TUNNELLED_DATAGRAM (R38): A tunnelled datagram is taken into its bound cell, or is discarded and counted in
      TunnelUnmatched. -/
  | tunnelledDatagram (source : Nat) (i : RxInfo)
  /-- LINK_LAYER (R43): At step 2, the frame is looked up and its duplicate and counter checks are made. -/
  | linkLayer (frame : Nat)
  /-- UNWRAP (R150): At step 3, the blob is checked and unwrapped, and the frame is authenticated and decrypted. -/
  | unwrap (frame : Nat) (authentic tagged : Bool)
  /-- INGEST_COMMIT (R27): At step 4, the authenticated frame is entered in the ingest journal and becomes durable. -/
  | ingestCommit (frame : Nat)
  /-- PARSE (R172): At step 5, the committed frame is parsed into readings through ParseMap. -/
  | parse (frame : Nat) (elements : List Element)
  /-- VALIDATION (R178): At step 6, Assay evaluates the step-6 rules and decides the reading's status. -/
  | validation (frame : Nat)
  /-- BILLING (R204): At step 7, Booth attributes the reading to a rate and updates the registers, the demand and the
      credit. -/
  | billing (frame : Nat)
  /-- SCALES_ADD (R237): At step 8, the reading's interval energy is added to its node's balance. -/
  | scalesAdd (frame : Nat)
  /-- RESULT_COMMIT (R28): At step 9, readings, deltas, balance additions and event records are committed as one
      entry. -/
  | resultCommit (frame : Nat)
  /-- UPLINK_RECORD (R22): At step 10, the committed result is placed in the tenant's batch or host queue. -/
  | uplinkRecord (frame : Nat)
  /-- UPLINK_BATCH (R194): At the end of UplinkIntervalS, or at 64 KiB, the batch is sent and kept until confirmed. -/
  | uplinkBatch (tenant : Nat)
  /-- BATCH_CONFIRMATION (R194): The head end's confirmation releases a retained batch. -/
  | batchConfirmation (tenant : Nat) (sequence : Nat)
  /-- ENDPOINT_ADMIT (R45): The EndpointAdmit command checks an image and admits the endpoint, returning its tag. -/
  | endpointAdmit (r : CapReq) (image : Image)
  /-- ENDPOINT_ADMIT_MOVE (R49): The EndpointAdmitMove command verifies a move export and admits the endpoint with its
      billing snapshot. -/
  | endpointAdmitMove (r : CapReq) (image : Image) (x : MoveExport)
  /-- ENDPOINT_REMOVE (R50): The EndpointRemove command deletes the hash entries and the blob, closes billing and
      returns the move export. -/
  | endpointRemove (r : CapReq) (tag : Nat)
  /-- ENDPOINT_READ (R40): The EndpointRead command returns the registry record of a tag. -/
  | endpointRead (r : CapReq) (tag : Nat)
  /-- QUARANTINE_END (R50): After IndexQuarantineDays, a removed index may be reassigned. -/
  | quarantineEnd (tag : Nat)
  /-- TAI_MIDNIGHT (R47): At TAI midnight, HeardCells are aged, suspicion scores decay and a new balance interval
      length applies. -/
  | taiMidnight
  /-- CASCADE_SESSION_START (R51): A cascade TLS session is authenticated against SubordinateTable, and unconfirmed
      frames are resent. -/
  | cascadeSessionStart (number serial keyHash : Nat)
  /-- CASCADE_SESSION_LOSS (R54): The cascade link goes down, and the field part keeps forwarded frames in its
      journal. -/
  | cascadeSessionLoss (number : Nat)
  /-- FORWARDED_FRAME (R31): A type-1 cascade message brings a forwarded frame, which is looked up by Endpoint Tag. -/
  | forwardedFrame (number sequence tag cell : Nat) (i : RxInfo)
  /-- INGEST_CONFIRMATION (R54): A cumulative type-2 confirmation releases frames from the forwarding journal. -/
  | ingestConfirmation (sequence : Nat)
  /-- DOWNWARD_COMMAND (R52): A type-3 cascade message carries a command, possibly a broadcast, to the concentrators
      below. -/
  | downwardCommand (broadcast : Bool) (target tag length payload : Nat)
  /-- UPLINK_RECORD_BATCH (R52): A type-4 cascade message carries uplink records upward. -/
  | uplinkRecordBatch (number : Nat) (records : List (Nat × Nat))
  /-- KEY_UPDATE_SUBMIT (R158): A KEY_UPDATE container is verified in order and its entries are applied in one commit. -/
  | keyUpdateSubmit (r : CapReq) (e : Epmeir) (u : KeyUpdate)
  /-- REWRAP (R153): A blob of a draining slot's previous generation is rewrapped under the current generation at
      RewrapRate. -/
  | rewrap (tag : Nat)
  /-- REKEY_MARK (R154): RekeyPending is set in a record that names a revoked generation. -/
  | rekeyMark (tag : Nat)
  /-- KEY_HELD_RELEASE (R156): A key-held frame is processed once its endpoint has a usable blob again. -/
  | keyHeldRelease (sequence : Nat) (authentic : Bool)
  /-- ATTEST_REQUEST (R161): The AttestRequest command returns a signed statement for a key generated inside, or
      refuses. -/
  | attestRequest (r : CapReq) (tenant kind slot generation nonce : Nat)
  /-- MASK_REFRESH (R147): The sweep re-randomises the two shares of a key SRAM word. -/
  | maskRefresh (word : Nat)
  /-- ENTROPY_FAILURE (R166): A failed health test sets entropy failure, logs it and restarts the source. -/
  | entropyFailure
  /-- ENTROPY_RECOVERED (R166): After 1,024 passing start-up samples, generation and signing are permitted again. -/
  | entropyRecovered
  /-- ZEROIZE_RELEASE (R167): Release of the zeroize line rederives the level-1 keys and leaves the part
      unprovisioned. -/
  | zeroizeRelease
  /-- GUARANTEE_WINDOW_START (R186): At each guarantee window, cap and the tenants' reservations are computed. -/
  | guaranteeWindowStart (level1 level2 : Nat)
  /-- COMMAND_LATENCY_MISS (R187): A command that passes its CommandLatencyTargetMs is recorded as a level-5 breach. -/
  | commandLatencyMiss (tenant displacedBy due onTime : Nat)
  /-- STORM_WINDOW_END (R191): At the end of a storm window, summaries are emitted and a storm key may leave storm
      mode. -/
  | stormWindowEnd (concentrator cell : Nat)
  /-- DEFERRED_RULE (R179): After DeferredDelayS, a deferred rule runs for an interval and may amend its readings. -/
  | deferredRule (tag channel rule intervalEnd : Nat)
  /-- GAP_ESTIMATION (R182): A gap between known values is filled by the linear or profile-shaped method. -/
  | gapEstimation (tag channel t0 : Nat)
  /-- PROFILE_FORWARD_FILL (R182): When V1 has not arrived EstimateWaitS after the first missing end, the intervals so
      far are filled forward. -/
  | profileForwardFill (tag channel t0 : Nat)
  /-- TARIFF_SET_SUBMIT (R200): A TARIFF_SET container is checked and writes passive images in one commit. -/
  | tariffSetSubmit (r : CapReq) (e : Epmeir) (images : List Nat)
  /-- BILLING_BOUNDARY (R209): A calendar boundary on the billing clock is processed and recorded in one boundary
      commit. -/
  | billingBoundary (calendar : Nat)
  /-- CLOSE_SWEEP (R212): For one endpoint, pending deferred items are run, a snapshot is written and Demand and
      StateFlags are reset. -/
  | closeSweep (calendar tag : Nat)
  /-- BILLING_READ (R219): The BillingRead command returns an endpoint's billing state. -/
  | billingRead (r : CapReq) (tag : Nat)
  /-- SNAPSHOT_READ (R219): The SnapshotRead command returns a period's snapshot. -/
  | snapshotRead (r : CapReq) (tag period : Nat)
  /-- TOP_UP (R224): The TopUp command restores Credit, recovers debt and records a TOP_UP legal record. -/
  | topUp (r : CapReq) (tag : Nat) (amount : Int) (sequence : Nat)
  /-- DEBT_SET (R224): The DebtSet command sets Debt, and optionally the recovery share, under the top-up sequence. -/
  | debtSet (r : CapReq) (tag : Nat) (debt : Int) (sequence share : Nat)
  /-- LOCK_OUT_SET (R229): The LockOutSet command sets or clears LockOut, with a legal record. -/
  | lockOutSet (r : CapReq) (tag : Nat) (on : Nat)
  /-- SWITCH_SUBMIT (R231): The SwitchSubmit command forms a head-end switching request and hands it to the gate. -/
  | switchSubmit (r : CapReq) (a : SwitchArg)
  /-- EMERGENCY_ACCEPT (R226): The EmergencyAccept command grants emergency credit in state 2. -/
  | emergencyAccept (r : CapReq) (tag : Nat)
  /-- EMERGENCY_OFFER_EXPIRY (R225): EmergencyOfferS passes unaccepted, and the endpoint moves to state 4. -/
  | emergencyOfferExpiry (tag : Nat)
  /-- NODE_WRITE (R235): The NodeWrite command writes a topology node, or refuses it. -/
  | nodeWrite (r : CapReq) (a : NodeArg)
  /-- NODE_READ (R245): The NodeRead command returns a node, its RunLength and its last balance. -/
  | nodeRead (r : CapReq) (node : Nat)
  /-- SCORE_RESET (R243): The ScoreReset command sets an endpoint's score to zero and logs it. -/
  | scoreReset (r : CapReq) (tag : Nat)
  /-- BALANCE_EVALUATION (R238): BalanceDelayS after an interval ends, each node's balance is evaluated and recorded. -/
  | balanceEvaluation (node : Nat)
  /-- COUNTER_SECOND_ROLLOVER (R246): When the nanoseconds reach 10^9, they wrap and the seconds advance. -/
  | counterSecondRollover
  /-- TIME_STEP (R248): The write of HIF_TIME_STEP's upper word steps the counter at the next TIME cycle, or refuses
      the step. -/
  | timeStep (upper : Word)
  /-- TIME_INCR_WRITE (R247): The write of HIF_TIME_INCR_INT loads both halves of the increment, clamped to ±500 ppm. -/
  | timeIncrWrite (int : Word)
  /-- HOST_BEAT (R254): A write of HIF_TIME_HOST_BEAT is a heartbeat and states the host servo's lock claim. -/
  | hostBeat (v : Word)
  /-- HOST_HEARTBEAT_LAPSE (R257): No heartbeat within HostHeartbeatMs: the host source is lost and the mean increment
      is loaded. -/
  | hostHeartbeatLapse
  /-- SNAP_CAPTURE (R250): SnapCapture captures the counter, the short stamp and the status into HIF_TIME_SNAP in one
      cycle. -/
  | snapCapture
  /-- TSQ_POP (R261): A read of word 0x0C of HIF_TSQ_ENTRY removes the head timestamp entry. -/
  | tsqPop (port : Nat)
  /-- PPS_EDGE (R255): A rising edge of PPS_IN is captured and checked against PpsWindowUs. -/
  | ppsEdge
  /-- PTP_SYNC (R256): A Sync message of the selected master feeds the servo. -/
  | ptpSync (port : Nat) (offsetNs : Int)
  /-- PTP_ANNOUNCE (R267): An announce message may supply the first TAI-UTC offset or count a mismatch. -/
  | ptpAnnounce (port : Nat) (utcOffset : Int) (valid : Bool)
  /-- LOCK_QUALIFIED (R266): After the offset has stayed within LockThresholdNs for LockQualifyS, the billing clock
      becomes locked. -/
  | lockQualified
  /-- SOURCE_LOST (R266): Loss of the selected source, or an offset beyond UnlockThresholdNs, puts a locked clock into
      holdover. -/
  | sourceLost
  /-- HOLDOVER_LIMIT (R266): After HoldoverLimitS in holdover, the billing clock becomes free-running. -/
  | holdoverLimit
  /-- LEAP_INSTANT (R267): At a leap instant on billing TAI, TaiUtcOffsetS changes and the previous offset is kept. -/
  | leapInstant (flag : Int)
  /-- RTC_HOURLY_WRITE (R258): While locked, the counter is written to the RTC once an hour at a second boundary. -/
  | rtcHourlyWrite
  /-- TIME_SET (R259): The TimeSet command steps the counter by the difference when no source is selected, and writes
      the RTC. -/
  | timeSet (r : CapReq) (sec ns : Nat)
  /-- SERVO_OWNER_CHANGE (R254): A write of ServoOwner changes the servo owner and puts a locked clock into holdover. -/
  | servoOwnerChange (r : CapReq) (owner : Nat)
  /-- TAI_UTC_OFFSET_WRITE (R267): A write of TaiUtcOffsetS makes the offset known, or is taken as a billing step. -/
  | taiUtcOffsetWrite (r : CapReq) (offset : Int)
  /-- LINK_UP (R269): An Ethernet link trains in its PortMode and comes up. -/
  | linkUp (port : Nat) (autoNegotiated partnerPause : Bool)
  /-- LINK_DOWN (R270): A link going down discards the transmit FIFO, completes its descriptors with LinkDown and logs
      the event. -/
  | linkDown (port : Nat)
  /-- RX_SFD (R272): At a frame's SFD, the frame is admitted into the receive FIFO or dropped whole. -/
  | rxSfd (port : Nat)
  /-- RX_FRAME_END (R273): At the end of a frame, its length and FCS are checked, and it is filtered to a queue or
      dropped. -/
  | rxFrameEnd (port : Nat) (f : EthRx)
  /-- RX_DISPATCH (R276): The head frame of the FIFO is written to n reserved descriptors of its ring. -/
  | rxDispatch (port : Nat)
  /-- RX_STARVE_TIMEOUT (R276): After RxStarveWaitUs without enough descriptors, the head frame is dropped and a
      starve event raised. -/
  | rxStarveTimeout (port : Nat)
  /-- TX_FRAME_SENT (R278): A transmit frame is sent in strict queue priority, and its descriptors are completed with
      the SFD stamp. -/
  | txFrameSent (port : Nat)
  /-- PAUSE_RECEIVED (R279): A received PAUSE frame stops the transmitter for its quanta, or resumes it with quanta 0. -/
  | pauseReceived (port quanta : Nat)
  /-- PAUSE_QUANTA_EXPIRY (R279): The pause quanta expire, and transmission resumes. -/
  | pauseQuantaExpiry (port : Nat)
  /-- PAUSE_WATCHDOG (R279): A continuous pause reaching PauseWatchdogMs resumes transmission and ignores PAUSE for a
      time. -/
  | pauseWatchdog (port : Nat)
  /-- PAUSE_IGNORE_END (R279): After PauseWatchdogMs of ignoring, PAUSE frames are honoured again. -/
  | pauseIgnoreEnd (port : Nat)
  /-- PAUSE_REPEAT (R280): While free space stays below PauseXonBytes, the PAUSE frame is repeated every half pause. -/
  | pauseRepeat (port : Nat)
  /-- PCIE_LINK_UP (R282): The PCIe link trains and the host side becomes available. -/
  | pcieLinkUp (gen width : Nat)
  /-- PCIE_LINK_DOWN (R293): Link down, reset or loss of Bus Master Enable stops the host queues and ends the mailbox
      session. -/
  | pcieLinkDown
  /-- DMA_FAULT (R293): A failed DMA access faults its queue and raises the Fault interrupt. -/
  | dmaFault (queue : Nat)
  /-- HQ_DOORBELL (R286): A write of HIF_DB_HQ sets a host queue's tail, or is ignored as a doorbell error. -/
  | hqDoorbell (queue : Nat) (tail : Word) (posted : List (Nat × Nat))
  /-- HOST_QUEUE_ENABLE (R289): Setting Enable binds a host queue, draining a Midway ring first, or refuses the
      binding. -/
  | hostQueueEnable (queue : Nat) (ctrl : Word)
  /-- HOST_QUEUE_DISABLE (R289): Clearing Enable returns the ring to the firmware after a drain. -/
  | hostQueueDisable (queue : Nat)
  /-- DRAIN_COMPLETE (R289): When the draining owner has completed its frames, the ring passes over and Running is
      set. -/
  | drainComplete (queue : Nat)
  /-- QUEUE_DONE_COALESCE (R288): CoalesceUs or CoalesceCount is reached, and the host queue's QueueDone bit is set. -/
  | queueDoneCoalesce (queue : Nat)
  /-- MAILBOX_DOORBELL (R287): A write of HIF_MB_DOORBELL takes a CAP request from the mailbox, or is ignored. -/
  | mailboxDoorbell (length : Word)
  /-- MAILBOX_RESPONSE_FREE (R287): Writing 1 to ResponseValid frees the response buffer. -/
  | mailboxResponseFree
  /-- INT_CAUSE_CLEAR (R285): A W1C write to HIF_INT_CAUSE clears cause bits. -/
  | intCauseClear (v : Word)
  /-- INT_ENABLE_WRITE (R285): A write to HIF_INT_ENABLE enables causes, and sends a message for each set bit it newly
      enables. -/
  | intEnableWrite (v : Word)
  /-- LOG_READ_CMD (R328): Read in HIF_LOG_CMD copies the record at HIF_LOG_POSITION into HIF_LOG_RECORD. -/
  | logReadCmd (autoIncrement : Bool) (media : Nat)
  /-- LOG_BOUNDS_CMD (R329): Bounds in HIF_LOG_CMD writes the bounds block into HIF_LOG_RECORD. -/
  | logBoundsCmd
  /-- LOG_FREEZE_CMD (R332): Freeze in HIF_LOG_CMD freezes the legal log for the host, or returns Refused. -/
  | logFreezeCmd
  /-- LOG_THAW_CMD (R332): Thaw in HIF_LOG_CMD appends the held records and ends the host's freeze. -/
  | logThawCmd
  /-- BAR0_BAD_ACCESS (R283): A BAR0 access of a wrong size or alignment has no effect, and a read of it returns all
      ones. -/
  | bar0BadAccess (read : Bool)
  /-- REGISTER_WRITE (R14): A write to a register without a row of its own is applied by its field access codes,
      including W1C bits. -/
  | registerWrite (offset : Nat) (v : Word)
  /-- RC_READ (R15): A read of an RC register field returns its value and clears it. -/
  | rcRead (offset : Nat)
  /-- NAND_PROGRAM_COMPLETE (R302): A NAND program of buffer data completes, lowering the unprogrammed bytes so that
      waiting commits proceed. -/
  | nandProgramComplete (partition : Nat) (units : List Nat) (ok : Bool)
  /-- GARBAGE_COLLECTION (R308): With the free pool low, a victim is chosen and its valid units are copied into stream
      4. -/
  | garbageCollection
  /-- GC_GROUP_WRITE (R309): When the copies are programmed, the group of conditional MAP records is written. -/
  | gcGroupWrite
  /-- ERASE_PENDING_WRITE (R309): When the group is programmed, ERASE_PENDING is written for the victim. -/
  | erasePendingWrite
  /-- BLOCK_ERASE (R309): When ERASE_PENDING is programmed, the victim is erased. -/
  | blockErase
  /-- ERASE_COMPLETE (R309): After the erase, ERASED is written and the block returns to the free pool. -/
  | eraseComplete (ok : Bool)
  /-- READ_REFRESH (R299): A block marked for refresh has its valid units relocated like garbage collection. -/
  | readRefresh (block : Nat)
  /-- WEAR_LEVELLING (R312): An erase-count spread above WearSpreadLimit moves the least-worn block's data. -/
  | wearLevelling
  /-- CHECKPOINT (R305): After CheckpointJournalMiB of journal, the whole map is written between BEGIN and END
      records. -/
  | checkpoint
  /-- CASKET_ROOT_UPDATE (R305): Once the checkpoint is written, the Casket root is updated and older journal blocks
      are freed. -/
  | casketRootUpdate
  /-- ARCHIVE_DISCARD (R301): Readings older than ArchiveRetentionDays, or the oldest when the archive is full, are
      discarded. -/
  | archiveDiscard
  /-- STORAGE_READ (R299): The StorageRead command reads units of partition 6 through the decode ladder. -/
  | storageRead (r : CapReq) (unit count level : Nat)
  /-- STORAGE_WRITE (R313): The StorageWrite command writes units of partition 6. -/
  | storageWrite (r : CapReq) (unit count : Nat) (data : List Nat)
  /-- STORAGE_DISCARD (R314): The StorageDiscard command unmaps units, or hints them in AK64 mode. -/
  | storageDiscard (r : CapReq) (unit count : Nat)
  /-- STORAGE_FORMAT (R317): The StorageFormat command erases every mounted block while unsealed. -/
  | storageFormat (r : CapReq) (v : Nat)
  /-- BATTERY_RING_READ (R316): The BatteryRingRead command returns one slot of the battery-domain ring. -/
  | batteryRingRead (r : CapReq) (slot : Nat)
  /-- BATTERY_RING_ACK (R316): The BatteryRingAck command acknowledges the ring, so that the storage alarm may clear. -/
  | batteryRingAck (r : CapReq) (v : Nat)
  /-- REPEAT_WINDOW_END (R324): RepeatWindowS after its EventTai, the open record closes and is programmed. -/
  | repeatWindowEnd (log : Nat)
  /-- LOG_READ (R328): The LogRead command returns a result code and the record at a position. -/
  | logRead (r : CapReq) (log position media : Nat)
  /-- LOG_BOUNDS (R329): The LogBounds command returns the bounds block of a log. -/
  | logBounds (r : CapReq) (log : Nat)
  /-- LEGAL_FREEZE (R332): LegalFreeze with 1 freezes the legal log for the session, or answers BUSY. -/
  | legalFreeze (r : CapReq)
  /-- LEGAL_THAW (R332): LegalFreeze with 0 ends the session's freeze and appends the held records. -/
  | legalThaw (r : CapReq)
  /-- LEGAL_EXPORT (R334): The LegalExport command returns a signed range of legal records under a freeze. -/
  | legalExport (r : CapReq) (first last : Nat)
  /-- OPERATING_TIME_COPY (R323): Operating time is copied to battery-domain SRAM every second and to the paired store
      hourly. -/
  | operatingTimeCopy (hourly : Bool)
  /-- BIG_TOP_ALIAS_WRITE (R340): A write to the bit-set or bit-clear alias modifies a line as one access. `addr` is the offset of
      the line in Big Top; `other` the other port's write to that line in the same cycle: 0 plain, 1 bit-set, 2 bit-clear. -/
  | bigTopAliasWrite (portB clear : Bool) (addr : Nat) (data : Line) (enables : BitVec 16) (other : Option (Nat × Line × BitVec 16))
  /-- BIG_TOP_SCRUB (R341): The scrubber reads a line and writes back a correction unless a port has written the line. `addr` as
      for an alias write; `portWrote` the line as the port left it. -/
  | bigTopScrub (addr : Nat) (corrected : Line) (portWrote : Option Line)
  /-- BIG_TOP_UNCORRECTABLE (R342): A read with an uncorrectable error returns poisoned data and is logged. -/
  | bigTopUncorrectable (addr : Nat) (committed : Bool) (frames : List Nat)
  /-- ADDRESS_FAULT (R337): An access outside every region, or a forbidden Caravan access, returns zeros and is
      counted. -/
  | addressFault (addr : Nat) (requester : Nat)
  /-- BANK_POWER_OFF (R343): A requested bank powers off once no access is pending. -/
  | bankPowerOff (bank : Nat)
  /-- BANK_WAKE (R344): A bank wakes on request or on access and starts clearing every line. -/
  | bankWake (bank : Nat) (onAccess : Bool)
  /-- BANK_CLEAR_COMPLETE (R344): After 32,768 cycles the bank is clear and stalled accesses proceed. -/
  | bankClearComplete (bank : Nat)
  /-- CARAVAN_UNCORRECTABLE (R345): An uncorrectable Caravan error stops the engine, which is handled as a failed
      engine. -/
  | caravanUncorrectable (engine : Nat)
  /-- SEESAW_PUSH (R348): A 128-bit push by a port with credit enters the fill bank; any other push is counted as an
      error. -/
  | seesawPush (queue port width : Nat) (item : Line)
  /-- SEESAW_POP (R350): A pop serves the head of the drain bank, or the idle item. -/
  | seesawPop (queue : Nat) (error : Nat)
  /-- CAP_SESSION_START (R363): A DTLS handshake with a client certificate opens a CAP session for a principal. -/
  | capSessionStart (session role tenant : Nat)
  /-- CAP_SESSION_END (R363): After CapIdleS, or on DTLS close, the session ends and its freeze and transfer are
      released. -/
  | capSessionEnd (session : Nat)
  /-- RS485_FRAME (R364): A framed CAP message arrives on the service port, or is discarded on a CRC or gap error. -/
  | rs485Frame (frame : List Nat) (gapOk : Bool)
  /-- CAP_READ (R357): A Read request returns an object's value, or a whole record, from one committed state. -/
  | capRead (r : CapReq) (m : CapMsg)
  /-- CAP_WRITE (R355): A Write request is checked and applied wholly on its commit. -/
  | capWrite (r : CapReq) (m : CapMsg) (length : Nat) (value : Int) (more : Bool)
  /-- CAP_BULK_DATA (R358): A BulkData segment continues the open transfer, and the last segment executes it. -/
  | capBulkData (r : CapReq) (m : CapMsg) (length : Nat) (value : Int) (more : Bool)
  /-- CAP_RESULT_READ (R358): A ResultRead request reads the session's held result. -/
  | capResultRead (r : CapReq) (offset : Nat)
  /-- CAP_ABORT (R357): An Abort request abandons the session's open bulk transfer. -/
  | capAbort (r : CapReq)
  /-- BULK_IDLE_TIMEOUT (R358): A transfer with no segment for BulkIdleS is abandoned with TIMEOUT. -/
  | bulkIdleTimeout (session : Nat)
  /-- CATALOGUE_BUNDLE_SUBMIT (R367): A CATALOGUE_BUNDLE container sets many objects in one commit. -/
  | catalogueBundleSubmit (r : CapReq) (e : Epmeir) (entries : List BundleEntry) (failed : Option Nat)
  /-- STORE_BANK_PROGRAMMED (R371): A paired-store bank image is read back and commits, is retried, or fails. -/
  | storeBankProgrammed (store : Nat) (ok : Bool)
  /-- SEAL_SUBMIT (R384): A SEAL container opens or closes the legal seal after its checks. -/
  | sealSubmit (r : CapReq) (e : Epmeir) (a : SealArg) (burnOk : Bool)
  /-- TRUST_ANCHOR_SUBMIT (R378): A TRUST_ANCHOR container installs or removes anchors in one commit. -/
  | trustAnchorSubmit (r : CapReq) (e : Epmeir) (entries : List AnchorEntry)
  /-- FIRMWARE_SUBMIT (R381): A FIRMWARE container is checked and written to the slot not in force. -/
  | firmwareSubmit (r : CapReq) (e : Epmeir) (f : FirmwareArg)
  /-- FIRMWARE_EPOCH_COMMIT (R381): The FirmwareEpochCommit command raises FirmwareEpoch to the epoch of the image in
      force. -/
  | firmwareEpochCommit (r : CapReq) (v : Nat)
  /-- TAMPER_ACTIVATION (R387): A tamper source activates and Clasp records, alarms or zeroizes as configured. -/
  | tamperActivation (source : Nat)
  /-- TAMPER_STUCK (R390): An input active for 24 h is flagged stuck with a record of kind 2. -/
  | tamperStuck (source : Nat)
  /-- TAMPER_RELEASE (R390): Release of a stuck input writes a record of kind 3 and re-arms it. -/
  | tamperRelease (source : Nat)
  /-- CLASP_ALARM_CLEAR (R387): The ClaspAlarmClear command clears the alarm bits written as 1. -/
  | claspAlarmClear (r : CapReq) (mask : Nat)
  /-- GATE_REQUEST (R397): Pair 0 checks a switching request with its evidence and digest, then releases or refuses
      it. -/
  | gateRequest (sequence authTag : Nat) (digests : List Nat)
  /-- GATE_CONFIRMATION (R400): Pair 0 confirms the composer's digest and tag before a class 2 item is emitted. -/
  | gateConfirmation (stage windowTag digest : Nat)
  /-- ITEM_REPORT (R401): A reported or acknowledged item drops its digest and places a switching outcome in the
      uplink. -/
  | itemReport (stage outcome : Nat)
  /-- LOCKSTEP_MISMATCH (R407): A lockstep comparison mismatch closes the gate until a restart. -/
  | lockstepMismatch (pair : Nat)
  /-- RINGMASTER_SCRUB (R407): The 1 s scrub of Ringmaster memory corrects errors, and an uncorrectable one closes the
      gate. -/
  | ringmasterScrub (pair : Nat) (uncorrectable : Bool)
  /-- RINGMASTER_DAILY_TEST (R395): At RingmasterTestHour, each pair in turn runs its BIST while the other holds both
      roles. -/
  | ringmasterDailyTest (pair0Ok pair1Ok : Bool)
  /-- GATE_REOPEN (R404): The GateReopen command runs the BIST of both pairs and reopens the gate, or is refused. -/
  | gateReopen (r : CapReq) (v : Nat) (pair0Ok pair1Ok : Bool)
  /-- GATE_PROOF_TEST (R411): The GateProofTest command closes the gate with cause 12. -/
  | gateProofTest (r : CapReq) (v : Nat)
  /-- ENGINE_WATCHDOG (R407): A Juggler silent for 5 ms is detected by its watchdog. -/
  | engineWatchdog (engine : Nat)
  /-- BIST_SLICE (R440): A BIST slice of at most 500 µs runs between items, spaced at least 10 ms apart. -/
  | bistSlice (signatureOk : Bool)
  /-- BIST_START (R439): The BistStart command starts a test of one target, or is refused with busy. -/
  | bistStart (r : CapReq) (target : Nat)
  /-- BIST_COMPLETE (R441): A test ends in pass, fail or aborted and writes a BIST_RESULT record. -/
  | bistComplete (result failingSet : Nat) (signatures : List Nat)
  /-- TEMPERATURE_SAMPLE (R429): Every 10 ms, the junction sensors are sampled and JunctionTempDeciC is updated. -/
  | temperatureSample (sensors : List Int)
  /-- PATINA_MEASURE (R436): An hourly ageing measurement raises VDD or lowers the ceiling, or declares end of life. -/
  | patinaMeasure (margins : List Int)
  /-- VDD_SETTLE (R436): 200 µs after a setpoint change, the monitors are measured again. -/
  | vddSettle (margins : List Int)
  /-- PATINA_MEASURE_CMD (R436): The PatinaMeasure command measures the monitors now. -/
  | patinaMeasureCmd (r : CapReq) (v : Nat) (margins : List Int)
  /-- PATINA_RECALIBRATE (R437): The PatinaRecalibrate command resets the setpoint and the ceiling from the next
      start. -/
  | patinaRecalibrate (r : CapReq) (v : Nat)
  /-- PLC_THERM_N_RELEASE (R107): Release of a lane's driver thermal flag starts the ThermalHoldoffMs holdoff, during
      which the lane starts no transmission. -/
  | plcThermNRelease (lane : Nat)
  /-- MEDIUM_BUSY (R129): Power over the active carriers rising above the noise-map level by CsMarginDb makes the
      lane's medium busy, deferring a contending Chain frame. -/
  | mediumBusy (lane power : Nat)
  /-- LENGTH_FIELD_EXCEEDED (R69): A frame's decoded length field that exceeds its mode's maximum releases the
      demodulator. -/
  | lengthFieldExceeded (dem : Nat)
  /-- PTP_DELAY_RESP (R256): A Delay_Resp or Pdelay_Resp message of the master completes a path-delay measurement for
      the servo. -/
  | ptpDelayResp (port : Nat) (delayNs : Int)
  /-- PTP_PDELAY_REQ (R281): With TcEnable set and the peer-to-peer profile, a Pdelay_Req received on port 0 or 1 is
      answered and the link delay measured. -/
  | ptpPdelayReq (port : Nat) (delayNs : Int)
  /-- DDR_PATROL_SCRUB (R460): The patrol scrub reads and corrects every DDR line once in 24 h. -/
  | ddrPatrolScrub
  /-- LQT_AGEING (R138): Each hour, unrefreshed link entries lose quality, and entries at zero or too old are removed. -/
  | lqtAgeing
  /-- DRBG_RESEED (R166): Each second, the DRBG reseeds from the entropy source. -/
  | drbgReseed
  /-- FREEZE_MAX_EXPIRY (R333): A freeze that has lasted FreezeMaxS is ended by the part, with FreezeBroken set. -/
  | freezeMaxExpiry
  /-- SEAL_N_ASSERT (R389): A filtered assertion of SEAL_N is stamped, and stuck or storm states are recorded. -/
  | sealNAssert
  /-- SEAL_N_RELEASE (R385): Release of SEAL_N ends an unsealed state with SEAL_CLOSED. -/
  | sealNRelease
  /-- UNSEAL_MAX_EXPIRY (R385): UnsealMaxS after an open, the part seals again. -/
  | unsealMaxExpiry
  /-- FANOUT_TIMER_EXPIRY (R402): The 10 ms fan-out timer expiring first is a dangerous failure detected. -/
  | fanoutTimerExpiry
  /-- CLOCK_MONITOR_FAULT (R407): A SEC or ENG clock outside ±5 % closes the gate until a restart. -/
  | clockMonitorFault
  /-- JUGGLER_ROTATION_TEST (R440): Every 10 minutes, pair 1 starts the sliced BIST of the next engine. -/
  | jugglerRotationTest
  /-- GOVERNOR_EVALUATION (R431): Every GovernorStepS, or at a trip sample, GovernorSteps is raised or lowered. -/
  | governorEvaluation
  /-- THERMAL_ALARM_CLEAR (R433): After 60 s at 5.0 °C below the limit, ThermalAlarm clears. -/
  | thermalAlarmClear
deriving DecidableEq, Repr

end Sys2Proof
end

