-- ==== Sys2Proof/Config.lean ====
section
/-! DEFINITION. What a part's manufacture fixes, and the free values: constants without a body, so that nothing can
evaluate them or prove a value of them. -/

namespace Sys2Proof

/-- DeviceSerial, from the one-time-programmable fuses (R5, 0x1000.01). -/
opaque Config.deviceSerial : Nat

/-- The die revision of HIF_ID (R284). -/
opaque Config.dieRevision : Nat

/-- The MacAddress of a port as the fuses hold it (R294). -/
opaque Config.mac : Nat → Nat

/-- AttestationCertificate and DeviceIdentityCertificate, from manufacture (R169). -/
opaque Config.attestationCertificate : Nat

/-- DeviceIdentityCertificate, from manufacture (R169). -/
opaque Config.identityCertificate : Nat

/-- The public key under whose hash in the fuses FIRMWARE containers verify (R376). -/
opaque Config.firmwareKey : Nat

/-- The provisioning key under which TRUST_ANCHOR containers verify while no Owner is installed (R376). -/
opaque Config.provisioningKey : Nat

/-- DESIGN CHOICE, safe (log entry 11): the size in MiB that a partition has when PartitionSizeMiB was never written: the manual says 'per partition' (R318). -/
opaque Config.partitionMiB : Nat → Nat

/-- DESIGN CHOICE, safe: a free value (log entry 6), draw number n of a value that the spec leaves open (a DRBG draw of R166, an unstated result, a counter past
its width, the data of a read that the spec calls undefined). -/
opaque Config.free : Nat → Nat

/-- DESIGN CHOICE, safe (log entry 8): the TypeCode of an event for which the spec names a log and no type (R276, R326, R333, R371), by a number of the model: one
code for each such event, so that its repeats fold (R324). -/
opaque Config.typeCode : Nat → Nat

/-- DESIGN CHOICE, safe (log entry 100): the bytes that framing and security take of a response in a mode (R87, R89, R95): they belong to
standards outside the spec. -/
opaque Config.responseOverhead : Nat → Nat

/-- DESIGN CHOICE, safe (log entry 101): the time in ns from the first bit of a transmission in a mode to the first bit after its sync word
(R101), for the modes whose preamble and sync word the spec does not give. -/
opaque Config.syncAirNs : Nat → Nat

/-- The fixed delay of a modulator in ns (R101): the spec gives none. -/
opaque Config.modulatorDelayNs : Nat

/-- DESIGN CHOICE, safe (log entry 108): the PAN of a lane (R140): the spec gives no object for it. -/
opaque Config.panId : Nat → Nat

/-- DESIGN CHOICE, safe (log entry 92): the normalisation of the min-sum decoder of R124, in units of 1/256: the spec gives none. -/
opaque Config.minSum : Nat

/-- DESIGN CHOICE, safe (log entry 111): the level-1 keys of R144 as OTP and PUF give them, 48 bytes each: 0 device root, 1 identity,
2 agreement, 3 attestation. -/
opaque Config.deviceKey : Nat → Nat

/-- DESIGN CHOICE, safe (log entry 111): the public half of a private key of a KeyKind (R157): its coordinates, or the Ed25519 key. -/
opaque Config.publicKey : Nat → Nat → Nat

/-- DESIGN CHOICE, safe (log entry 111): the ECDSA P-384 signature of a private key over bytes, its nonce derived under RFC 6979 and
hedged with 32 bytes (R164). -/
opaque Config.signature : Nat → Nat → Nat → Nat

/-- The dedicated key of an association (R144), derived from the endpoint's key and the frame that brings it. -/
opaque Config.dedicatedKey : Nat → Nat → Nat

/-- DESIGN CHOICE, safe (log entry 10): the unsecured application data unit of a switching request, for SwitchKind and LimitW (R231), as one little-endian
number, and its length in bytes: the standards that lay it out are outside the spec. -/
opaque Config.switchPayload : Nat → Nat → Nat

/-- The length in bytes of `Config.switchPayload`. -/
opaque Config.switchPayloadLength : Nat → Nat → Nat

end Sys2Proof
end

