-- ==== Sys2Proof/Machine/Bits.lean ====
section
/-! DEFINITION. Bit fields, little-endian layouts, checksums and the civil calendar, over plain numbers. -/

namespace Sys2Proof.Machine

/-- Bits [hi:lo] of a number (R12). -/
def bits (w hi lo : Nat) : Nat := (w / 2 ^ lo) % 2 ^ (hi + 1 - lo)

/-- Bit n of a number. -/
def bit (w n : Nat) : Bool := Nat.testBit w n

/-- A number with bit n set or cleared. -/
def setBit (w n : Nat) (b : Bool) : Nat :=
  if bit w n = b then w else if b then w + 2 ^ n else w - 2 ^ n

/-- 1 for true. -/
def b2n (b : Bool) : Nat := if b then 1 else 0

/-- Byte i of a little-endian value (R353). -/
def byteAt (w i : Nat) : Nat := (w / 256 ^ i) % 256

/-- The n bytes of a little-endian value from byte i (R353). -/
def bytesAt (w i n : Nat) : Nat := (w / 256 ^ i) % 256 ^ n

/-- Two's complement of a value over n bytes, as a number (R353). -/
def enc (n : Nat) (v : Int) : Nat := (v % ((256 : Int) ^ n)).toNat

/-- The signed reading of an n-byte number (R353). -/
def sgn (n : Nat) (w : Nat) : Int :=
  let m := w % 256 ^ n
  if m < 256 ^ n / 2 then (m : Int) else (m : Int) - 256 ^ n

/-- A layout in ascending offset: each field its size in bytes and its value, little-endian (R12). -/
def pack : List (Nat × Nat) → Nat
  | [] => 0
  | (n, v) :: t => v % 256 ^ n + 256 ^ n * pack t

/-- The bytes of a number, lowest first. -/
def toBytes : Nat → Nat → List Nat
  | 0, _ => []
  | n + 1, w => w % 256 :: toBytes n (w / 256)

/-- The number of bytes, lowest first. -/
def ofBytes (l : List Nat) : Nat := l.foldr (fun b n => b % 256 + 256 * n) 0

/-- One byte into a reflected CRC register of polynomial `poly` (R42, R321). -/
def crcByte (poly reg byte : Nat) : Nat :=
  (List.range 8).foldl (fun r _ => if r % 2 = 1 then (r / 2) ^^^ poly else r / 2) (reg ^^^ byte)

/-- CRC-32C over bytes, the register starting at `seed`, final inversion kept (R42). -/
def crc32c (seed : Nat) (bytes : List Nat) : Nat :=
  (bytes.foldl (crcByte 0x82F63B78) seed) ^^^ 0xFFFFFFFF

/-- CRC-32C over the first n bytes of a little-endian value (R321). -/
def crcOf (n w : Nat) : Nat := crc32c 0xFFFFFFFF (toBytes n w)

/-- One byte into the CRC-16 of R364: polynomial x^16 + x^12 + x^5 + 1, most significant bit first. -/
def crc16Byte (reg byte : Nat) : Nat :=
  (List.range 8).foldl
    (fun r _ => if r / 0x8000 % 2 = 1 then ((r * 2) % 65536) ^^^ 0x1021 else (r * 2) % 65536) (reg ^^^ (byte * 256))

/-- The CRC-16 of R364. -/
def crc16 (bytes : List Nat) : Nat := bytes.foldl crc16Byte 0xFFFF

/-- The quotient rounded up. -/
def ceilDiv (a b : Nat) : Nat := (a + b - 1) / b

/-- floor(a / b + 1/2) for a positive b: the nearest integer, halves up. -/
def roundDiv (a : Int) (b : Nat) : Int := (2 * a + b) / (2 * b)

/-- A value held within bounds. -/
def clamp (lo hi v : Int) : Int := if v < lo then lo else if hi < v then hi else v

/-- Addition that stays at a maximum (saturating counts). -/
def satAdd (max a b : Nat) : Nat := Nat.min max (a + b)

/-- Days from 1970-01-01 to the first of a month of a year from 1970 (proleptic Gregorian). -/
def daysFromCivil (y m d : Nat) : Nat :=
  let y' := if m ≤ 2 then y - 1 else y
  let era := y' / 400
  let yoe := y' % 400
  let mp := (m + 9) % 12
  let doy := (153 * mp + 2) / 5 + d - 1
  let doe := yoe * 365 + yoe / 4 - yoe / 100 + doy
  era * 146097 + doe - 719468

/-- Year, month and day of a day counted from 1970-01-01 (proleptic Gregorian). -/
def civilFromDays (z0 : Nat) : Nat × Nat × Nat :=
  let z := z0 + 719468
  let era := z / 146097
  let doe := z % 146097
  let yoe := (doe - doe / 1460 + doe / 36524 - doe / 146096) / 365
  let doy := doe - (365 * yoe + yoe / 4 - yoe / 100)
  let mp := (5 * doy + 2) / 153
  let d := doy - (153 * mp + 2) / 5 + 1
  let m := if mp < 10 then mp + 3 else mp - 9
  ((yoe + era * 400) + (if m ≤ 2 then 1 else 0), m, d)

/-- The day of the week of a day counted from 1970-01-01: 0 Monday to 6 Sunday. -/
def weekday (days : Nat) : Nat := (days + 3) % 7

/-! ### The digest of a gate image (R398)

SHA-256 of the one length that the part digests, 144 bytes: three blocks. The constants come from their definition, the fractional
parts of roots of primes, instead of tables. -/

/-- The greatest r below 2^n with r ^ k at most x. -/
def rootBelow (k x : Nat) : Nat → Nat → Nat
  | 0, r => r
  | n + 1, r => rootBelow k x n (if (r + 2 ^ n) ^ k ≤ x then r + 2 ^ n else r)

/-- The first 32 bits after the point of the k-th root of a number. -/
def rootFraction (k p : Nat) : Nat := rootBelow k (p * 2 ^ (32 * k)) 40 0 % 2 ^ 32

/-- The primes up to 311, of which there are 64. -/
def digestPrimes : List Nat := (List.range 312).filter fun n => Nat.ble 2 n && (List.range 18).all fun d => Nat.ble d 1 || n % d != 0 || n == d

/-- A 32-bit word turned to the right. -/
def turn (n x : Nat) : Nat := x / 2 ^ n + x % 2 ^ n * 2 ^ (32 - n)

/-- Three turns of a word combined. -/
def turns (i j k x : Nat) : Nat := turn i x ^^^ turn j x ^^^ turn k x

/-- The words of a block followed by the 48 that extend it, oldest first. -/
def digestWords : Nat → List Nat → List Nat
  | 0, w => w
  | n + 1, w =>
    let back (i : Nat) := w.getD (w.length - i) 0
    let near := turn 17 (back 2) ^^^ turn 19 (back 2) ^^^ back 2 / 1024
    let far := turn 7 (back 15) ^^^ turn 18 (back 15) ^^^ back 15 / 8
    digestWords n (w ++ [(near + back 7 + far + back 16) % 2 ^ 32])

/-- The eight chained words after a word of the schedule and its constant, given as their sum. -/
def digestMix (v : List Nat) (kw : Nat) : List Nat :=
  let at_ (i : Nat) := v.getD i 0
  let pick := at_ 6 ^^^ (at_ 4 &&& (at_ 5 ^^^ at_ 6))
  let most := (at_ 0 &&& (at_ 1 ||| at_ 2)) ||| (at_ 1 &&& at_ 2)
  let up := at_ 7 + turns 6 11 25 (at_ 4) + pick + kw
  (List.range 8).map fun i =>
    if i = 0 then (up + turns 2 13 22 (at_ 0) + most) % 2 ^ 32
    else if i = 4 then (at_ 3 + up) % 2 ^ 32
    else at_ (i - 1)

/-- The chained words after a block of 64 bytes. -/
def digestBlock (v : List Nat) (bytes : List Nat) : List Nat :=
  let words := (List.range 16).map fun i => ((bytes.drop (4 * i)).take 4).foldl (fun n b => 256 * n + b) 0
  let ks := digestPrimes.map (rootFraction 3)
  let after := (List.zipWith (· + ·) ks (digestWords 48 words)).foldl digestMix v
  List.zipWith (fun x y => (x + y) % 2 ^ 32) v after

/-- The digest of a gate image of 144 bytes: the first 8 bytes of its SHA-256, read little-endian (R398). -/
def gateDigest (image : Nat) : Nat :=
  let message := toBytes 144 image ++ [0x80] ++ List.replicate 45 0 ++ [0x04, 0x80]
  let start := (digestPrimes.take 8).map (rootFraction 2)
  let v := (List.range 3).foldl (fun v i => digestBlock v ((message.drop (64 * i)).take 64)) start
  let first := [v.getD 0 0, v.getD 1 0].flatMap fun w => (toBytes 4 w).reverse
  first.foldr (fun b n => b + 256 * n) 0

end Sys2Proof.Machine
end

