-- ==== Sys2Proof/Machine/Aes.lean ====
section
/-! DEFINITION. AES-256 (FIPS 197) and its key wrap KW (NIST SP 800-38F), which R144, R145, R148 to R150 and R161 name. A block and a key
are numbers with byte 0 lowest; a word holds four bytes likewise. -/

namespace Sys2Proof.Machine

/-- The substitution of FIPS 197 as one number, byte x the value of x. -/
def subTable : Nat := 0x16BB54B00F2D99416842E6BF0D89A18CDF2855CEE9871E9B948ED9691198F8E19E1DC186B95735610EF6034866B53E708A8BBD4B1F74DDE8C6B4A61C2E2578BA08AE7A65EAF4566CA94ED58D6D37C8E779E4959162ACD3C25C2406490A3A32E0DB0B5EDE14B8EE4688902A22DC4F816073195D643D7EA7C41744975FEC130CCDD2F3FF1021DAB6BCF5389D928F40A351A89F3C507F02F94585334D43FBAAEFD0CF584C4A39BECB6A5BB1FC20ED00D153842FE329B3D63B52A05A6E1B1A2C830975B227EBE28012079A059618C323C7041531D871F1E5A534CCF73F362693FDB7C072A49CAFA2D4ADF04759FA7DC982CA76ABD7FE2B670130C56F6BF27B777C63

/-- Its inverse. -/
def unsubTable : Nat := 0x7D0C2155631469E126D677BA7E042B17619953833CBBEBC8B0F52AAE4D3BE0A0EF9CC9939F7AE52D0D4AB519A97F51605FEC8027591012B131C7078833A8DD1FF45ACD78FEC0DB9A2079D2C64B3E56FC1BBE18AA0E62B76F89C5291D711AF1476EDF751CE837F9E28535ADE72274AC9673E6B4F0CECFF297EADC674F4111913A6B8A130103BDAFC1020F3FCA8F1E2CD00645B3B80558E4F70AD3BC8C00ABD890849D8DA75746155EDAB9EDFD5048706C92B6655DCC5CA4D41698688664F6F87225D18B6D49A25B76B224D92866A12E084EC3FA420B954CEE3D23C2A632947B54CBE9DEC444438E3487FF2F9B8239E37CFBD7F3819EA340BF38A53630D56A0952

/-- A table's value of each byte of a word. -/
def subWith (tab w : Nat) : Nat :=
  let at_ (i : Nat) : Nat := (tab >>> (8 * ((w >>> (8 * i)) % 256))) % 256
  at_ 0 + at_ 1 <<< 8 + at_ 2 <<< 16 + at_ 3 <<< 24

/-- A word with byte r taken from byte r + n. -/
def rotBytes (n w : Nat) : Nat := w >>> (8 * n) + (w % 2 ^ (8 * n)) <<< (32 - 8 * n)

/-- Each byte of a word times x in the field of FIPS 197. -/
def xtimes (w : Nat) : Nat := ((w &&& 0x7F7F7F7F) <<< 1) ^^^ (((w >>> 7) &&& 0x01010101) * 0x1B)

/-- MixColumns of a column. -/
def mixColumn (w : Nat) : Nat := xtimes (w ^^^ rotBytes 1 w) ^^^ rotBytes 1 w ^^^ rotBytes 2 w ^^^ rotBytes 3 w

/-- The inverse of `mixColumn`. -/
def unmixColumn (w : Nat) : Nat := mixColumn (w ^^^ xtimes (xtimes (w ^^^ rotBytes 2 w)))

/-- A block's columns. -/
def columns (b : Nat) : List Nat := (List.range 4).map fun i => (b >>> (32 * i)) % 2 ^ 32

/-- Columns as a block. -/
def ofColumns (c : List Nat) : Nat := c.foldr (fun w n => w + n <<< 32) 0

/-- ShiftRows, row r by r columns, or by 4 − r where it is undone. -/
def shiftRows (undo : Bool) (c : List Nat) : List Nat :=
  (List.range 4).map fun j => ((List.range 4).map fun r =>
    let k := if undo then j + 4 - r else j + r
    ((c.getD (k % 4) 0) >>> (8 * r) % 256) <<< (8 * r)).sum

/-- The next words of the key schedule, the newest first: word i from the one before and the one eight before. -/
def scheduleFrom : Nat → Nat → List Nat → List Nat
  | 0, _, ws => ws
  | n + 1, i, ws =>
    let t := ws.headD 0
    let t := if i % 8 = 0 then subWith subTable (rotBytes 1 t) ^^^ 2 ^ (i / 8 - 1) else if i % 8 = 4 then subWith subTable t else t
    scheduleFrom n (i + 1) ((ws.getD 7 0 ^^^ t) :: ws)

/-- The fifteen round keys of a 256-bit key, as columns. -/
def roundKeys (key : Nat) : List (List Nat) :=
  let first := (List.range 8).map fun i => (key >>> (32 * i)) % 2 ^ 32
  let ws := (scheduleFrom 52 8 first.reverse).reverse
  (List.range 15).map fun r => (ws.drop (4 * r)).take 4

/-- Columns with a round key added. -/
def addKey (c k : List Nat) : List Nat := List.zipWith (· ^^^ ·) c k

/-- A block encrypted under round keys. -/
def aesEncrypt (ks : List (List Nat)) (b : Nat) : Nat :=
  let start := addKey (columns b) (ks.headD [])
  let mid := ((ks.drop 1).take 13).foldl (fun c k => addKey ((shiftRows false (c.map (subWith subTable))).map mixColumn) k) start
  ofColumns (addKey (shiftRows false (mid.map (subWith subTable))) (ks.getD 14 []))

/-- A block decrypted under round keys. -/
def aesDecrypt (ks : List (List Nat)) (b : Nat) : Nat :=
  let undo (c : List Nat) : List Nat := (shiftRows true c).map (subWith unsubTable)
  let start := undo (addKey (columns b) (ks.getD 14 []))
  let mid := ((ks.drop 1).take 13).reverse.foldl (fun c k => undo ((addKey c k).map unmixColumn)) start
  ofColumns (addKey mid (ks.headD []))

/-- The initial value of KW. -/
def kwInitial : Nat := 0xA6A6A6A6A6A6A6A6

/-- One pass of KW over its semiblocks: the register, the step count, the semiblocks passed newest first. -/
def kwPass (ks : List (List Nat)) (a : Nat × Nat) (r : List Nat) : (Nat × Nat) × List Nat :=
  let out := r.foldl (fun (x : (Nat × Nat) × List Nat) semi =>
    let b := aesEncrypt ks (x.1.1 + semi <<< 64)
    ((b % 2 ^ 64 ^^^ (x.1.2 + 1) <<< 56, x.1.2 + 1), b >>> 64 :: x.2)) (a, [])
  (out.1, out.2.reverse)

/-- A number cut in n semiblocks of 64 bits. -/
def semiblocks (n w : Nat) : List Nat := (List.range n).map fun i => (w >>> (64 * i)) % 2 ^ 64

/-- Semiblocks as a number. -/
def ofSemiblocks (l : List Nat) : Nat := l.foldr (fun w n => w + n <<< 64) 0

/-- KW of n semiblocks under a key: n + 1 semiblocks. -/
def kwWrap (key n plain : Nat) : Nat :=
  let ks := roundKeys key
  let out := (List.range 6).foldl (fun (x : (Nat × Nat) × List Nat) _ => kwPass ks x.1 x.2) ((kwInitial, 0), semiblocks n plain)
  out.1.1 + ofSemiblocks out.2 <<< 64

/-- One pass undone, the semiblocks last first. -/
def kwUnpass (ks : List (List Nat)) (a : Nat × Nat) (r : List Nat) : (Nat × Nat) × List Nat :=
  r.reverse.foldl (fun (x : (Nat × Nat) × List Nat) semi =>
    let b := aesDecrypt ks ((x.1.1 ^^^ x.1.2 <<< 56) + semi <<< 64)
    ((b % 2 ^ 64, x.1.2 - 1), b >>> 64 :: x.2)) (a, [])

/-- The n semiblocks wrapped under a key, none where the check of KW fails. -/
def kwUnwrap (key n wrapped : Nat) : Option Nat :=
  let ks := roundKeys key
  let out := (List.range 6).foldl (fun (x : (Nat × Nat) × List Nat) _ => kwUnpass ks x.1 x.2)
    ((wrapped % 2 ^ 64, 6 * n), semiblocks n (wrapped >>> 64))
  if out.1.1 = kwInitial then some (ofSemiblocks out.2) else none

/-- A block times x in the field of CMAC, its byte 0 the highest (NIST SP 800-38B). -/
def cmacDouble (b : Nat) : Nat :=
  let n := (toBytes 16 b).foldl (fun m y => 256 * m + y) 0
  let d := (2 * n) % 2 ^ 128 ^^^ (if Nat.testBit n 127 then 0x87 else 0)
  ofBytes (toBytes 16 d).reverse

/-- AES-256 CMAC of the n bytes of a message under a key: the last block takes the first subkey where it is whole, else a padding bit and
the second. -/
def cmac (key n w : Nat) : Nat :=
  let ks := roundKeys key
  let sub := cmacDouble (aesEncrypt ks 0)
  let whole := (n - 1) / 16
  let last := w / 256 ^ (16 * whole)
  let last := if n % 16 = 0 ∧ n ≠ 0 then last ^^^ sub else last + 0x80 * 256 ^ (n % 16) ^^^ cmacDouble sub
  let c := (List.range whole).foldl (fun (c i : Nat) => aesEncrypt ks (c ^^^ w / 256 ^ (16 * i) % 256 ^ 16)) 0
  aesEncrypt ks (c ^^^ last)

end Sys2Proof.Machine
end

