-- ==== Sys2Proof/Machine/Parts.lean ====
section
/-! DEFINITION. The parts of the state that every family shares: catalogue store, time, power, host interface, Ethernet
ports, storage, event recorder, memory, CAP sessions, seal and tamper, gate, keys. Plain data throughout. -/

namespace Sys2Proof.Machine

/-- A sparse table: (key, value) pairs, keys strictly rising. -/
abbrev Tab (α : Type) := List (Nat × α)

/-- The captured time of HIF_TIME_SNAP (R250). -/
structure Snap where
  sec : Nat
  ns : Nat
  short : Nat
  status : Nat
deriving DecidableEq, Repr

/-- An entry of a transmit timestamp queue (R261). -/
structure TsEntry where
  sec : Nat
  ns : Nat
  seqId : Nat
  msgType : Nat
  domain : Nat
deriving DecidableEq, Repr

/-- A port's transmit timestamp queue, head first, with HIF_TSQ_STATUS and the lost ring, newest first (R250, R261,
R262). -/
structure TsQueue where
  entries : List TsEntry
  lost : Bool
  lostCount : Nat
  ring : List Nat
deriving DecidableEq, Repr

/-- One PTP port: consecutive Syncs of its master (R255), its measured path delay and link delay (R256, R281). -/
structure PtpPort where
  syncs : Nat
  pathDelay : Int
  linkDelay : Int
deriving DecidableEq, Repr

/-- Calliope (R246 to R268). `sec`, `ns`, `frac` are the counter; `incr` the increment in force, in units of 2^-32 ns;
`incrFrac`, `incrInt`, `stepLo`, `stepHi` the registers as written; `step` a step requested and not yet applied; `lag` is λ in units of 10^-6 × 2^-32 ns, so that slewing
is exact; `qtr` counts TIME cycles to the next short-stamp tick; `ppsShort` is the short stamp of the last edge of PPS_IN (R21). -/
structure Calliope where
  sec : Nat
  ns : Nat
  frac : Nat
  incr : Nat
  incrFrac : Nat
  incrInt : Nat
  incrClamped : Bool
  stepLo : Nat
  stepHi : Nat
  step : Option Int
  short : Nat
  qtr : Nat
  snap : Snap
  tsq : List TsQueue
  lag : Int
  ptp : List PtpPort
  ppsEdges : Nat
  ppsLast : Nat
  ppsShort : Nat
  secondsKnown : Bool
  lockSince : Option Nat
  holdoverSince : Nat
  locked : List (Nat × Nat)
  beatBit : Bool
  beatAt : Option Nat
  subMs : Nat
deriving DecidableEq, Repr

/-- A record of the event recorder (R321), without its CRC, which is computed where a record is read. `payload` holds its
32 bytes as one little-endian number. -/
structure EvRec where
  code : Nat
  rep : Nat
  rtc : Bool
  ring : Bool
  form : Nat
  log : Nat
  tenant : Nat
  tai : Nat
  time : Nat
  pos : Nat
  payload : Nat
deriving DecidableEq, Repr

/-- A log (R319): its records, newest first, the position the next record takes, and whether its last record is open
(R324). -/
structure EvLog where
  recs : List EvRec
  next : Nat
  isOpen : Bool
deriving DecidableEq, Repr

/-- Who holds a freeze of the legal log (R332): 0 the host, n + 1 session n. -/
structure Freeze where
  holder : Nat
  fin : Nat
  since : Nat
deriving DecidableEq, Repr

/-- A tamper source of Clasp (R386, R387, R390). `secAt`, `inSec`: the second of the counter and the activations
in it. -/
structure Source where
  count : Nat
  storm : Nat
  first : Nat
  last : Nat
  active : Bool
  since : Nat
  secAt : Nat
  inSec : Nat
deriving DecidableEq, Repr

/-- A tamper event queued in sleep (R388): its source, its response, the RTC second, its count, its repeats. -/
structure SleepEvent where
  source : Nat
  kind : Nat
  response : Nat
  context : Nat
  tai : Nat
  count : Nat
  storm : Nat
  first : Nat
  last : Nat
  rep : Nat
deriving DecidableEq, Repr

/-- The battery domain: RTC (R258, ticks of 1/32,768 s and a phase), the marks and copies it holds (R160, R316, R323, R427),
the key-store salt (R145, R167), Clasp (R386 to R390) and its supply (R453). -/
structure Battery where
  rtc : Nat
  rtcPhase : Nat
  rtcValid : Bool
  lost : Bool
  activeMark : Bool
  opTime : Nat
  keyCounters : List Nat
  ring : List EvRec
  ringOpen : Bool
  ringRead : List Nat
  ringAck : Bool
  legalLost : Nat
  alarm : Bool
  salt : Nat
  sources : List Source
  sleepQueue : List SleepEvent
  claspAlarm : Nat
  stuck : Nat
  tamperEnable : Nat
  tamperResponse : List Nat
  filterSamples : List Nat
  wakeAlarm : Nat
  onVbat : Bool
  vbat : Bool
deriving DecidableEq, Repr

/-- The pins whose level the model keeps: inputs PORST_N, PFI_N, SEAL_N, PLC_x_THERM_N and TAMPERn_N as asserted or not;
outputs SAFE_N, PWR_SAFE, WAKE_REQ, VDD_VID (R418, R419, R445, R455). `pfiStamp`, `sealStamp`: the short stamps of the last filtered edges
of PFI_N and SEAL_N (R21). -/
structure Pins where
  porst : Bool
  pfi : Bool
  sealN : Bool
  therm : List Bool
  safe : Bool
  pwrSafe : Bool
  wakeReq : Bool
  vddVid : Nat
  pfiStamp : Nat
  sealStamp : Nat
deriving DecidableEq, Repr

/-- Start-up and power (R412 to R427). `cause`: why the power-fail sequence runs: 0 it does not, 1 PFI_N, 2 PowerStateSet 2, 3
PowerStateSet 3, 4 a fault. `releasedAt`: when PFI_N was released. `standby`: Standby was requested. `held`: the start waits at step 5
for PFI_N. `lost`: poison took a commit not yet programmed (R425). `faultTimes`: operating times, in ms, of the restarts of the
last hour; `stopped`: why the part last stopped, a `cause`, or 5 where PORST_N or the rails cut it off; `gasps`: the last-gasp records
sent over TLS uplinks, with their tenants, newest first (R420); `replaying`: frames are replayed, and the boundaries wait for it
(R211); `placed`: the registry is laid out for regional role (R470). -/
structure Power where
  rails : Bool
  stage : Nat
  held : Option Board
  board : Option Board
  cause : Nat
  pfiAt : Nat
  releasedAt : Option Nat
  standby : Bool
  regional : Bool
  carousel : Bool
  tightrope : Bool
  lost : Bool
  faultTimes : List Nat
  stopped : Nat
  gasps : List (Nat × Nat)
  replaying : Bool
  stoppedByLimit : Bool
  placed : Bool
deriving DecidableEq, Repr

/-- A host-queue descriptor as completed (R290); `data`: the bytes written to its buffer. -/
structure Desc where
  addr : Nat
  length : Nat
  flags : Nat
  status : Nat
  stamp : Nat
  cls : Nat
  word : Nat
  data : Nat
deriving DecidableEq, Repr

/-- A host queue (R288, R289). `posted`: buffer address and length, oldest first, with the flags of a kind 5 poster in
the length's bits above 16; `given`: kind-1 batches not handed back, as (count after which they are, tenant, sequence);
`uncounted`: completions not yet signalled. -/
structure HostQueue where
  ctrl : Nat
  select : Nat
  base : Nat
  size : Nat
  head : Nat
  tail : Nat
  fault : Bool
  doorbellError : Bool
  starved : Bool
  draining : Bool
  bindRefused : Bool
  running : Bool
  releasing : Bool
  posted : List (Nat × Nat)
  done : List Desc
  given : List (Nat × Nat × Nat)
  uncounted : Nat
  logNext : List Nat
deriving DecidableEq, Repr

/-- The mailbox (R287). -/
structure Mailbox where
  busy : Bool
  valid : Bool
  respLength : Nat
  request : List Nat
  response : Nat
deriving DecidableEq, Repr

/-- The registers of BAR0 that no other part of the state holds (R283 to R288, R328). `msix` is the MSI-X table by word,
`pba` the pending bits, `sent` how many messages each vector has sent. -/
structure HostIf where
  scratch : Nat
  cause : Nat
  enable : Nat
  msix : Tab Nat
  pba : Nat
  sent : Tab Nat
  mb : Mailbox
  hq : List HostQueue
  busMaster : Bool
  logSelect : Nat
  logPos : Nat
  logAuto : Bool
  logResult : Nat
  logRecord : Nat
  freezeBroken : Bool
  logStatus : Nat
  batchSeq : Tab Nat
  lastRead : Nat
deriving DecidableEq, Repr

/-- A frame in a port's receive FIFO (R272, R276). -/
structure RxFifoFrame where
  frame : EthRx
  queue : Nat
  filter : Nat
  truncated : Bool
  tcCopy : Bool
  stamp : Nat
deriving DecidableEq, Repr

/-- A frame queued to a transmit ring (R275, R278): `hq` the host queue that posted it, 16 for firmware; `ndesc` its
descriptors; `kind` 0 plain, 1 one-step, 2 two-step, 3 forwarded by the transparent clock; `data` the bytes of a forwarded frame. -/
structure TxFrame where
  queue : Nat
  length : Nat
  hq : Nat
  ndesc : Nat
  kind : Nat
  toCorrection : Bool
  seqId : Nat
  what : Nat
  ingress : Nat
  ptp : Nat
  data : Option Nat
deriving DecidableEq, Repr

/-- A frame as it left a port: the TIME and short stamp of its SFD, what was added to its correctionField, in units of
2^-16 ns (R260, R261), and the bytes of a forwarded frame as sent. -/
structure SentFrame where
  frame : TxFrame
  time : Nat
  stamp : Nat
  correction : Int
  data : Option Nat
deriving DecidableEq, Repr

/-- A Midway port (R269 to R281). `arriving`: bytes reserved for the frame now arriving, with the short stamp and the counter
at its SFD and the filter entries then in force; `headNs` the counter when the head of `rx` became it; `tx` the frames queued in
the part, `lastTx` the one last sent; `pauseOut` the quanta of the PAUSE frames sent, newest first, `pauseNs` the counter at the
last. -/
structure Port where
  up : Bool
  aneg : Bool
  partnerPause : Bool
  rx : List RxFifoFrame
  arriving : Option Nat
  arrivalStamp : Nat
  arrivalNs : Nat
  filters : Option (List Nat)
  headNs : Nat
  tx : List TxFrame
  lastTx : Option SentFrame
  pausedUntil : Option Nat
  pauseFrom : Option Nat
  ignoreUntil : Option Nat
  xoffSent : Bool
  pauseOut : List Nat
  pauseNs : Nat
deriving DecidableEq, Repr

/-- One bank of a paired store (R369, R370): 0 blank, 1 erased, 2 passes its check, 3 fails it. -/
structure Bank where
  state : Nat
  seq : Nat
  entries : Tab Int
deriving DecidableEq, Repr

/-- A write waiting for a store's image (R371): the request it answers (its kind 2, or 4 for a bulk transfer's last segment),
its object and value. -/
structure Waiter where
  sess : Nat
  tag : Nat
  kind : Nat
  key : Nat
  val : Int
deriving DecidableEq, Repr

/-- A paired store (R368 to R371). `force`: 0 bank A, 1 bank B, 2 defaults. `prog`: the writes of the image being
programmed; `tries` its failed attempts; `gathered` the writes of the next image. -/
structure PStore where
  a : Bank
  b : Bank
  force : Nat
  prog : List Waiter
  tries : Nat
  gathered : List Waiter
deriving DecidableEq, Repr

/-- The response to a completed request (R356), kept for its repeat (R360): `value` and `length` what there is of the object's value from
`offset` on, `total` its whole length. -/
structure Resp where
  tag : Nat
  kind : Nat
  index : Nat
  sub : Nat
  status : Nat
  detail : Nat
  offset : Nat
  total : Nat
  value : Nat
  length : Nat
deriving DecidableEq, Repr

/-- An open bulk transfer (R358). -/
structure Bulk where
  tag : Nat
  index : Nat
  sub : Nat
  total : Nat
  got : Nat
  value : Int
  lastAt : Nat
deriving DecidableEq, Repr

/-- A CAP session (R359 to R366). Session 0 is the mailbox, 1 to 16 DTLS, 17 the RS-485 port. `role`: 0 Administrator, 1 tenant head
end, 2 Reader. `resp` is the last response sent; `held` a result held, with its length; `closing`: the session ended with a
request in progress. -/
structure Session where
  role : Nat
  tenant : Nat
  lastAt : Nat
  kept : List Resp
  resp : Option Resp
  bulk : Option Bulk
  held : Option (Nat × Nat)
  closing : Bool
deriving DecidableEq, Repr

/-- A NAND block (R300, R303, R307 to R311). `state`: 0 free, 1 open, 2 full, 3 erase pending, 4 grown bad, 5 legal
reserve. `filled`: the order in which blocks filled; `used`: units written; `refresh`: marked under R299. -/
structure Block where
  state : Nat
  erases : Nat
  stream : Nat
  used : Nat
  filled : Nat
  refresh : Bool
deriving DecidableEq, Repr

/-- A relocation in progress (R309, R310, R312): its victim, its phase (1 copied, 2 group written, 3 ERASE_PENDING written, 4
erasing), the copies as (logical key, old unit, new unit), and why (0 collection, 1 refresh, 2 wear). -/
structure Reloc where
  victim : Nat
  phase : Nat
  copies : List (Nat × Nat × Nat)
  why : Nat
deriving DecidableEq, Repr

/-- The metadata of a physical unit (R298): LogicalUnit, Partition, Stream, WriteSequence. -/
structure UnitMeta where
  unit : Nat
  part : Nat
  stream : Nat
  seq : Nat
deriving DecidableEq, Repr

/-- Casket's working state (R296 to R317). The map is keyed by partition × 2^32 + logical unit (R303), `units` holds the metadata of the
physical units that are programmed, by number. `dirty` is the bytes
of the protected write buffer not yet programmed; `journal` the map-journal records since the checkpoint named by the
root; `ckpt` the checkpoint written and not yet named. -/
structure Casket where
  map : Tab Nat
  units : Tab UnitMeta
  hinted : List Nat
  blocks : Tab Block
  journalSeq : Nat
  journal : Nat
  ckpt : Option Nat
  reloc : Option Reloc
  fillSeq : Nat
  wearMoves : Nat
  wearHour : Nat
  dirty : Nat
  dirtyLimit : Nat
  unitsPerBlock : Nat
  reserveBytes : Nat
  logicalUnits : Nat
  suspended : Bool
deriving DecidableEq, Repr

/-- A write of a line of Big Top (R338, R340): `kind` 0 plain, 1 bit-set, 2 bit-clear. -/
structure LineWrite where
  line : Nat
  kind : Nat
  data : Line
  enables : BitVec 16
deriving DecidableEq, Repr

/-- Seesaw queue (R346 to R351): the two banks, head first; which fills; the credits and the next sequence of its producer
ports; items that a port without credit keeps; the item last delivered. -/
structure Seesaw where
  bank0 : List Line
  bank1 : List Line
  fill : Nat
  credits : List Nat
  seqs : List Nat
  waiting : List (Nat × Line)
  ports : Nat
  depth : Nat
  poison : Bool
  corrected : Nat
  out : Line
deriving DecidableEq, Repr

/-- Big Top, the Caravans and Seesaw (R336 to R351). Lines are listed by number when not zero; `banks` holds each bank's state: 0 on,
1 clearing, 2 off; `stalled` the writes that wait for a bank to be clear; `caravan` the words of the Caravans that are not
zero; `turns` by set of tenant queues the tenant that its consumer served last (R170). -/
structure Memory where
  lines : Tab Line
  poisoned : List Nat
  banks : List Nat
  stalled : List LineWrite
  caravan : Tab (BitVec 64)
  queues : Tab Seesaw
  turns : List Nat
deriving DecidableEq, Repr

/-- Firmware images and the legal-module slots (R379 to R381). -/
structure Firmware where
  okA : Bool
  counterA : Nat
  hashA : Nat
  okB : Bool
  counterB : Nat
  hashB : Nat
  inForce : Nat
  matched : Nat
deriving DecidableEq, Repr

/-- Hallmark and the one-time-programmable fuses (R381, R384, R385). -/
structure Hallmark where
  openAt : Nat
  writes : Nat
  fuses : Nat
  epoch : Nat
deriving DecidableEq, Repr

/-- A trust anchor (R377). -/
structure Anchor where
  role : Nat
  tenant : Nat
  slot : Nat
  kind : Nat
  key : Nat
deriving DecidableEq, Repr

/-- A switching request at the gate or stored with its staged item (R231, R396). `formed`: the instant
it was formed or handed on to the gate. -/
structure SwitchReq where
  seq : Nat
  origin : Nat
  kind : Nat
  tenant : Nat
  tag : Nat
  flags : Nat
  notBefore : Nat
  expiry : Nat
  limitW : Nat
  durationS : Nat
  cellMask : Nat
  reference : Nat
  formed : Nat
deriving DecidableEq, Repr

/-- The command gate and Ringmaster (R392 to R408). `kept`: StageSequence and digest of released items; `confirmed`
the items that may be emitted (R400); `sheds`: the CellMasks of the head-end load sheds released; `engines`: 20
Jugglers, 0 in service, 1 under test, 2 retired; `bistDay`: the TAI day of the last daily test; `pairOk`: how each pair's last
BIST ended; `corrected`: errors of Ringmaster memory corrected. Pair 0 holds the gate role, pair 1 the monitors. -/
structure Gate where
  queue : List SwitchReq
  kept : List (Nat × Nat)
  confirmed : List Nat
  sheds : List Nat
  engines : List Nat
  bistDay : Nat
  pairOk : List Bool
  corrected : Nat
deriving DecidableEq, Repr

/-- Thermal governor, Patina and self-test (R429 to R441). `peak`: the highest sample of the period; `trip`: a sample has just
reached the trip; `evalAt`: the last evaluation; `hot`: the hot ceiling holds; `coolSince`: since when the junction is cool
under R433; `history`: hourly measurements, newest first (operating ms, setpoint, lowest ENG margin); `wEng` that margin at the last measurement; `waiting`: a measurement goes on
after a change; `measuredHour`: the operating hour after that of the last hourly measurement, 0 at start; `target`, `origin`, `slices`, `sliceAt`, `failing`: the
test running (R439, R440); `rotation`, `rotatedAt`: the next engine in rotation and the last start; `failures`: tests that each engine failed in
succession. -/
structure Patina where
  peak : Int
  hot : Bool
  trip : Bool
  evalAt : Nat
  coolSince : Option Nat
  history : List (Nat × Nat × Int)
  wEng : Int
  waiting : Bool
  measuredHour : Nat
  target : Option Nat
  origin : Nat
  slices : Nat
  sliceAt : Nat
  failing : Option Nat
  rotation : Nat
  rotatedAt : Nat
  failures : List Nat
deriving DecidableEq, Repr

/-- A KEK slot (R153): current and previous generation, each with its key and whether it was generated inside. -/
structure KekSlot where
  cur : Option (Nat × Nat × Bool)
  prev : Option (Nat × Nat × Bool)
deriving DecidableEq, Repr

/-- The keys of levels 2 to 4 that Locket holds (R144, R145). `keks` is keyed by tenant × 64 + slot, `proto` by tenant × 32 + slot,
`ident` by tenant × 16 + slot (kind, private key). -/
structure KeySet where
  masters : Tab Nat
  keks : Tab KekSlot
  proto : Tab Nat
  ident : Tab (Nat × Nat)
deriving DecidableEq, Repr

/-- What a KEY_UPDATE commits for the Locket store while it has not been written (R159): the keys, the salt under whose storage key they
are wrapped, and KeyUpdateCounter of each tenant. -/
structure KeyCommit where
  keys : KeySet
  salt : Nat
  counters : List Nat
deriving DecidableEq, Repr

/-- Locket (R144 to R169). `device` the level-1 keys, `keys` levels 2 to 4 in key SRAM; `stored` as persisted in store 5, under
`storedSalt`; `working` by slot the frame that holds it and its key, `responding` the frames that hold one for a response; `dedicated` by
endpoint its dedicated key, oldest first, `traffic` by session its traffic keys (level 5): CAP sessions by number, the cascade session of
concentrator n under 256 + n; `drbg` the state of the DRBG, `gateKey` the gate key (R396); `masks` the first share of each word of key SRAM (R147), 0 where not
listed; `rekey` the records still to mark (R154). -/
structure Locket where
  device : List Nat
  keys : KeySet
  stored : KeySet
  storedSalt : Nat
  anchors : List Anchor
  working : Tab (Nat × Nat)
  responding : List Nat
  masks : Tab Nat
  entropyFailed : Bool
  zeroizing : Bool
  drbg : Nat
  gateKey : Nat
  reseeds : Nat
  rekey : List Nat
  dedicated : List (Nat × Nat)
  traffic : Tab Nat
deriving DecidableEq, Repr

end Sys2Proof.Machine
end

