-- ==== Sys2Proof/Machine/Catalog.lean ====
section
/-! DEFINITION. The Parameter Catalogue: the objects of every home chapter (R16, R353, R373) as one table, and a name for
each object's key, index × 256 + subindex. -/

namespace Sys2Proof.Machine

/-- The type of an object (R16, R353); `u` and `i` carry their size in bytes. -/
inductive Ty where
  | bool
  | u (bytes : Nat)
  | i (bytes : Nat)
  | time
  | civil
  | octets (n : Nat)
deriving DecidableEq, Repr

/-- The access right of an object (R16, R354); `rc` is a read-only counter that a read clears (R15). -/
inductive Acc where
  | ro
  | rw
  | rws
  | cmd
  | rc
deriving DecidableEq, Repr

/-- The persistence class of an object (R16, R355). -/
inductive Pers where
  | vol
  | paired
  | seal
deriving DecidableEq, Repr

/-- A row of a catalogue table: the indices and subindices it covers, its type, access right, persistence, default, and
the range its Meaning column gives, where it gives one. -/
structure ObjRow where
  lo : Nat
  hi : Nat
  subLo : Nat
  subHi : Nat
  ty : Ty
  acc : Acc
  pers : Pers
  dflt : Int
  range : Option (Int × Int)
deriving DecidableEq, Repr

/-- Catalogue rows of the indices 0x0000 to 0x13FF. -/
def Cat.rows0 : List ObjRow := [
  ⟨0x1000, 0x1000, 1, 1, .u 8, .ro, .vol, 0, none⟩,
  ⟨0x1001, 0x1001, 0, 0, .u 1, .ro, .vol, 8, none⟩,
  ⟨0x1001, 0x1001, 1, 1, .u 1, .ro, .vol, 0, none⟩,
  ⟨0x1001, 0x1001, 2, 2, .u 1, .ro, .vol, 0, none⟩,
  ⟨0x1001, 0x1001, 3, 3, .u 4, .ro, .vol, 0, none⟩,
  ⟨0x1001, 0x1001, 4, 4, .i 2, .ro, .vol, 0, none⟩,
  ⟨0x1001, 0x1001, 5, 5, .u 2, .ro, .vol, 0, none⟩,
  ⟨0x1001, 0x1001, 6, 6, .u 2, .ro, .vol, 0, none⟩,
  ⟨0x1001, 0x1001, 7, 7, .u 1, .rw, .paired, 1, some (1, 2)⟩,
  ⟨0x1001, 0x1001, 8, 8, .u 1, .ro, .vol, 0, none⟩,
  ⟨0x1020, 0x1020, 1, 1, .u 4, .rc, .vol, 0, none⟩,
  ⟨0x1020, 0x1020, 2, 2, .u 4, .rc, .vol, 0, none⟩,
  ⟨0x1020, 0x1020, 3, 3, .u 4, .rc, .vol, 0, none⟩,
  ⟨0x1020, 0x1020, 4, 4, .u 4, .rc, .vol, 0, none⟩,
  ⟨0x1020, 0x1020, 5, 5, .u 4, .rc, .vol, 0, none⟩,
  ⟨0x1020, 0x1020, 6, 6, .u 4, .rc, .vol, 0, none⟩,
  ⟨0x1021, 0x1021, 1, 20, .u 4, .rc, .vol, 0, none⟩,
  ⟨0x1022, 0x1022, 1, 16, .u 2, .rw, .paired, 512, some (16, 4096)⟩,
  ⟨0x1022, 0x1022, 17, 96, .u 2, .rw, .paired, 256, some (16, 4096)⟩,
  ⟨0x1023, 0x1023, 1, 96, .u 2, .ro, .vol, 0, none⟩,
  ⟨0x1024, 0x1024, 1, 1, .u 4, .rc, .vol, 0, none⟩,
  ⟨0x1024, 0x1024, 2, 2, .u 4, .rc, .vol, 0, none⟩,
  ⟨0x1030, 0x1030, 1, 1, .u 2, .rw, .paired, 49222, some (1024, 65535)⟩,
  ⟨0x1030, 0x1030, 2, 2, .u 1, .rw, .paired, 16, some (1, 16)⟩,
  ⟨0x1030, 0x1030, 3, 3, .u 2, .rw, .paired, 300, some (10, 3600)⟩,
  ⟨0x1030, 0x1030, 4, 4, .u 2, .rw, .paired, 30, some (5, 600)⟩,
  ⟨0x1030, 0x1030, 5, 5, .u 1, .rw, .paired, 1, some (0, 2)⟩,
  ⟨0x1030, 0x1030, 6, 6, .u 4, .rw, .paired, 115200, none⟩,
  ⟨0x1031, 0x1031, 1, 1, .octets 64, .cmd, .vol, 0, none⟩,
  ⟨0x1031, 0x1031, 2, 2, .u 8, .ro, .paired, 0, none⟩,
  ⟨0x1032, 0x1032, 1, 16, .octets 8, .ro, .vol, 0, none⟩,
  ⟨0x1033, 0x1033, 1, 1, .u 4, .rc, .vol, 0, none⟩,
  ⟨0x1033, 0x1033, 2, 2, .u 4, .rc, .vol, 0, none⟩,
  ⟨0x1033, 0x1033, 3, 3, .u 4, .rc, .vol, 0, none⟩,
  ⟨0x1033, 0x1033, 4, 4, .u 4, .ro, .vol, 0, none⟩,
  ⟨0x1033, 0x1033, 5, 5, .u 4, .rc, .vol, 0, none⟩,
  ⟨0x1040, 0x1040, 1, 1, .octets 2048, .ro, .paired, 0, none⟩]

/-- Catalogue rows of the indices 0x1400 to 0x1FFF, part 1. -/
def Cat.rows1a : List ObjRow := [
  ⟨0x1400, 0x1400, 1, 1, .i 2, .ro, .vol, 0, none⟩,
  ⟨0x1400, 0x1400, 2, 2, .i 2, .rw, .paired, 1050, some (850, 1230)⟩,
  ⟨0x1400, 0x1400, 3, 3, .u 2, .rw, .paired, 30, some (10, 100)⟩,
  ⟨0x1400, 0x1400, 4, 4, .u 1, .rw, .paired, 2, some (1, 60)⟩,
  ⟨0x1400, 0x1400, 5, 5, .u 2, .rw, .paired, 500, some (500, 900)⟩,
  ⟨0x1400, 0x1400, 6, 6, .u 1, .ro, .vol, 0, none⟩,
  ⟨0x1400, 0x1400, 7, 7, .u 2, .ro, .vol, 0, none⟩,
  ⟨0x1400, 0x1400, 8, 8, .bool, .ro, .vol, 0, none⟩,
  ⟨0x1400, 0x1400, 9, 9, .u 4, .rc, .vol, 0, none⟩,
  ⟨0x1401, 0x1401, 1, 1, .u 2, .ro, .paired, 800, none⟩,
  ⟨0x1401, 0x1401, 2, 2, .u 2, .ro, .paired, 1000, none⟩,
  ⟨0x1401, 0x1401, 3, 3, .u 2, .rw, .paired, 80, some (40, 200)⟩,
  ⟨0x1401, 0x1401, 4, 4, .u 2, .rw, .paired, 40, some (20, 100)⟩,
  ⟨0x1401, 0x1401, 5, 5, .i 2, .ro, .vol, 0, none⟩,
  ⟨0x1401, 0x1401, 6, 6, .u 1, .ro, .vol, 0, none⟩,
  ⟨0x1401, 0x1401, 7, 7, .u 4, .ro, .vol, 4294967295, none⟩,
  ⟨0x1401, 0x1401, 8, 8, .bool, .ro, .paired, 0, none⟩,
  ⟨0x1401, 0x1401, 9, 9, .bool, .cmd, .vol, 0, none⟩,
  ⟨0x1401, 0x1401, 10, 10, .bool, .cmd, .vol, 0, none⟩,
  ⟨0x1402, 0x1402, 1, 24, .i 2, .ro, .vol, 0, none⟩,
  ⟨0x1410, 0x1410, 1, 1, .u 4, .rw, .paired, 0, none⟩,
  ⟨0x1420, 0x1420, 1, 1, .u 1, .ro, .vol, 2, none⟩,
  ⟨0x1420, 0x1420, 2, 2, .u 1, .cmd, .vol, 0, none⟩,
  ⟨0x1420, 0x1420, 3, 3, .time, .rw, .paired, 0, none⟩,
  ⟨0x1420, 0x1420, 4, 4, .u 1, .rw, .paired, 3, some (1, 10)⟩,
  ⟨0x1420, 0x1420, 5, 5, .u 1, .ro, .vol, 0, none⟩,
  ⟨0x1421, 0x1421, 1, 1, .u 1, .rw, .paired, 255, none⟩,
  ⟨0x1430, 0x1430, 1, 1, .u 4, .ro, .paired, 0, none⟩,
  ⟨0x1430, 0x1430, 2, 2, .u 4, .ro, .paired, 0, none⟩,
  ⟨0x1430, 0x1430, 3, 3, .u 4, .ro, .vol, 0, none⟩,
  ⟨0x1430, 0x1430, 4, 4, .u 4, .ro, .vol, 0, none⟩,
  ⟨0x1430, 0x1430, 5, 5, .u 4, .ro, .vol, 0, none⟩,
  ⟨0x1800, 0x1800, 1, 1, .u 1, .rw, .paired, 0, some (0, 1)⟩,
  ⟨0x1800, 0x1800, 2, 2, .octets 4, .rw, .paired, 1, none⟩,
  ⟨0x1800, 0x1800, 3, 3, .u 4, .rw, .paired, 100000, some (1000, 1000000000)⟩,
  ⟨0x1800, 0x1800, 4, 4, .u 4, .rw, .paired, 1000, some (50, 1000000)⟩,
  ⟨0x1800, 0x1800, 5, 5, .u 4, .rw, .paired, 10000, none⟩,
  ⟨0x1800, 0x1800, 6, 6, .u 2, .rw, .paired, 60, some (1, 3600)⟩,
  ⟨0x1800, 0x1800, 7, 7, .u 4, .rw, .paired, 86400, some (60, 2592000)⟩,
  ⟨0x1800, 0x1800, 8, 8, .u 2, .rw, .paired, 2000, some (100, 60000)⟩]

/-- Catalogue rows of the indices 0x1400 to 0x1FFF, part 2. -/
def Cat.rows1b : List ObjRow := [
  ⟨0x1800, 0x1800, 9, 9, .time, .cmd, .vol, 0, none⟩,
  ⟨0x1801, 0x1801, 1, 1, .u 1, .rw, .paired, 0, none⟩,
  ⟨0x1801, 0x1801, 2, 2, .u 1, .rw, .paired, 1, some (1, 2)⟩,
  ⟨0x1801, 0x1801, 3, 3, .u 1, .rw, .paired, 1, none⟩,
  ⟨0x1801, 0x1801, 4, 4, .u 1, .rw, .paired, 0, none⟩,
  ⟨0x1801, 0x1801, 5, 5, .bool, .rw, .paired, 0, none⟩,
  ⟨0x1801, 0x1801, 6, 6, .u 4, .rw, .paired, 10, some (1, 100000)⟩,
  ⟨0x1802, 0x1802, 1, 4, .i 4, .rw, .paired, 0, none⟩,
  ⟨0x1803, 0x1803, 1, 1, .u 4, .rws, .seal, 1000, some (0, 10000)⟩,
  ⟨0x1803, 0x1803, 2, 2, .u 2, .rws, .seal, 1000, some (100, 5000)⟩,
  ⟨0x1803, 0x1803, 3, 3, .u 4, .rws, .seal, 3600, some (60, 86400)⟩,
  ⟨0x1803, 0x1803, 4, 4, .i 2, .rw, .paired, (-32768), some (0, 255)⟩,
  ⟨0x1803, 0x1803, 5, 5, .octets 8, .rw, .paired, 0, none⟩,
  ⟨0x1810, 0x1810, 1, 1, .u 1, .ro, .vol, 3, none⟩,
  ⟨0x1810, 0x1810, 2, 2, .u 1, .ro, .vol, 0, none⟩,
  ⟨0x1810, 0x1810, 3, 3, .i 8, .ro, .vol, 0, none⟩,
  ⟨0x1810, 0x1810, 4, 4, .time, .ro, .vol, 0, none⟩,
  ⟨0x1810, 0x1810, 5, 5, .civil, .ro, .vol, 0, none⟩,
  ⟨0x1810, 0x1810, 6, 6, .bool, .ro, .vol, 0, none⟩,
  ⟨0x1820, 0x1820, 1, 1, .u 4, .rc, .vol, 0, none⟩,
  ⟨0x1820, 0x1820, 2, 2, .u 4, .rc, .vol, 0, none⟩,
  ⟨0x1820, 0x1820, 3, 3, .u 4, .rc, .vol, 0, none⟩,
  ⟨0x1820, 0x1820, 4, 4, .u 4, .rc, .vol, 0, none⟩,
  ⟨0x1820, 0x1820, 5, 5, .u 4, .rc, .vol, 0, none⟩,
  ⟨0x1820, 0x1820, 6, 6, .u 4, .rc, .vol, 0, none⟩,
  ⟨0x1821, 0x1821, 1, 4, .u 4, .rc, .vol, 0, none⟩]

/-- Catalogue rows of the indices 0x1400 to 0x1FFF. -/
def Cat.rows1 : List ObjRow := Cat.rows1a ++ Cat.rows1b

/-- Catalogue rows of the indices 0x2000 to 0x23FF, part 1. -/
def Cat.rows2a : List ObjRow := [
  ⟨0x2000, 0x2000, 1, 1, .u 1, .rw, .paired, 0, none⟩,
  ⟨0x2000, 0x2000, 2, 2, .u 2, .rw, .paired, 120, some (1, 600)⟩,
  ⟨0x2000, 0x2000, 3, 3, .u 4, .rw, .paired, 65536, some (4096, 1048576)⟩,
  ⟨0x2000, 0x2000, 4, 4, .u 4, .rw, .paired, 67108864, some (65536, 536870912)⟩,
  ⟨0x2000, 0x2000, 5, 5, .u 2, .rw, .paired, 512, some (0, 512)⟩,
  ⟨0x2001, 0x2004, 1, 1, .u 1, .rw, .paired, 0, some (0, 3)⟩,
  ⟨0x2001, 0x2004, 2, 2, .u 4, .rw, .paired, 868000000, none⟩,
  ⟨0x2001, 0x2004, 3, 3, .u 1, .rw, .paired, 63, none⟩,
  ⟨0x2001, 0x2004, 4, 4, .u 2, .rw, .paired, 0, none⟩,
  ⟨0x2001, 0x2004, 5, 5, .u 2, .rw, .paired, 0, none⟩,
  ⟨0x2001, 0x2004, 6, 6, .i 2, .rw, .paired, (-200), none⟩,
  ⟨0x2001, 0x2004, 7, 7, .u 2, .rw, .paired, 16, none⟩,
  ⟨0x2001, 0x2004, 8, 8, .bool, .cmd, .vol, 0, none⟩,
  ⟨0x2001, 0x2004, 9, 9, .u 1, .ro, .vol, 0, none⟩,
  ⟨0x2001, 0x2004, 10, 10, .u 4, .rc, .vol, 0, none⟩,
  ⟨0x2008, 0x200B, 1, 6, .u 4, .rw, .paired, 868950000, none⟩,
  ⟨0x2010, 0x2010, 1, 1, .u 1, .rw, .paired, 4, some (0, 5)⟩,
  ⟨0x2010, 0x2010, 2, 2, .u 1, .rw, .paired, 5, some (0, 5)⟩,
  ⟨0x2010, 0x2010, 3, 3, .u 1, .rw, .paired, 5, some (0, 5)⟩,
  ⟨0x2010, 0x2010, 4, 4, .u 1, .rw, .paired, 0, some (0, 5)⟩,
  ⟨0x2010, 0x2010, 5, 5, .u 1, .rw, .paired, 0, some (0, 5)⟩,
  ⟨0x2010, 0x2010, 6, 6, .u 1, .rw, .paired, 2, some (0, 5)⟩,
  ⟨0x2010, 0x2010, 7, 7, .u 1, .rw, .paired, 4, some (0, 5)⟩,
  ⟨0x2010, 0x2010, 8, 8, .u 1, .rw, .paired, 5, some (0, 5)⟩,
  ⟨0x2010, 0x2010, 9, 9, .u 1, .rw, .paired, 5, some (0, 5)⟩,
  ⟨0x2010, 0x2010, 10, 10, .u 1, .rw, .paired, 5, some (0, 5)⟩,
  ⟨0x2010, 0x2010, 11, 11, .u 1, .rw, .paired, 4, some (0, 5)⟩,
  ⟨0x2010, 0x2010, 12, 12, .u 1, .rw, .paired, 3, some (0, 5)⟩,
  ⟨0x2010, 0x2010, 13, 13, .u 1, .rw, .paired, 0, some (0, 5)⟩,
  ⟨0x2020, 0x2023, 1, 6, .u 4, .rc, .vol, 0, none⟩,
  ⟨0x2020, 0x2023, 7, 7, .u 4, .rc, .vol, 0, none⟩,
  ⟨0x2020, 0x2023, 8, 8, .u 4, .rc, .vol, 0, none⟩,
  ⟨0x2020, 0x2023, 9, 9, .u 4, .rc, .vol, 0, none⟩,
  ⟨0x2020, 0x2023, 10, 10, .u 4, .rc, .vol, 0, none⟩,
  ⟨0x2020, 0x2023, 11, 11, .u 4, .rc, .vol, 0, none⟩,
  ⟨0x2020, 0x2023, 12, 12, .u 4, .rc, .vol, 0, none⟩,
  ⟨0x2030, 0x2030, 1, 1, .u 4, .rc, .vol, 0, none⟩,
  ⟨0x2030, 0x2030, 2, 2, .u 4, .rc, .vol, 0, none⟩,
  ⟨0x2030, 0x2030, 3, 3, .u 4, .rc, .vol, 0, none⟩,
  ⟨0x2030, 0x2030, 4, 4, .u 4, .rc, .vol, 0, none⟩]

/-- Catalogue rows of the indices 0x2000 to 0x23FF, part 2. -/
def Cat.rows2b : List ObjRow := [
  ⟨0x2030, 0x2030, 5, 5, .u 4, .rc, .vol, 0, none⟩,
  ⟨0x2030, 0x2030, 6, 6, .u 4, .rc, .vol, 0, none⟩,
  ⟨0x2040, 0x2040, 1, 13, .u 2, .rw, .paired, 1500, some (500, 1500)⟩,
  ⟨0x2041, 0x2041, 1, 1, .u 1, .rw, .paired, 1, some (1, 13)⟩,
  ⟨0x2041, 0x2041, 2, 2, .u 1, .rw, .paired, 1, some (1, 13)⟩,
  ⟨0x2041, 0x2041, 3, 3, .u 1, .rw, .paired, 3, some (1, 13)⟩,
  ⟨0x2041, 0x2041, 4, 4, .u 1, .rw, .paired, 4, some (1, 13)⟩,
  ⟨0x2041, 0x2041, 5, 5, .u 1, .rw, .paired, 5, some (1, 13)⟩,
  ⟨0x2041, 0x2041, 6, 6, .u 1, .rw, .paired, 6, some (1, 13)⟩,
  ⟨0x2041, 0x2041, 7, 7, .u 1, .rw, .paired, 7, some (1, 13)⟩,
  ⟨0x2041, 0x2041, 8, 8, .u 1, .rw, .paired, 8, some (1, 13)⟩,
  ⟨0x2041, 0x2041, 9, 9, .u 1, .rw, .paired, 9, some (1, 13)⟩,
  ⟨0x2041, 0x2041, 10, 10, .u 1, .rw, .paired, 10, some (1, 13)⟩,
  ⟨0x2041, 0x2041, 11, 11, .u 1, .rw, .paired, 11, some (1, 13)⟩,
  ⟨0x2041, 0x2041, 12, 12, .u 1, .rw, .paired, 12, some (1, 13)⟩,
  ⟨0x2041, 0x2041, 13, 13, .u 1, .rw, .paired, 13, some (1, 13)⟩,
  ⟨0x2042, 0x2042, 1, 1, .i 4, .rw, .paired, 0, none⟩,
  ⟨0x2042, 0x2042, 2, 2, .i 4, .rw, .paired, -650000, none⟩,
  ⟨0x2042, 0x2042, 3, 3, .i 4, .rw, .paired, 575000, none⟩,
  ⟨0x2042, 0x2042, 4, 13, .i 4, .rw, .paired, 0, none⟩,
  ⟨0x2043, 0x2043, 1, 13, .u 2, .rw, .paired, 0, some (0, 1024)⟩,
  ⟨0x2044, 0x2044, 1, 1, .u 1, .rw, .paired, 1, some (0, 30)⟩,
  ⟨0x2044, 0x2044, 2, 2, .u 1, .rw, .paired, 2, some (1, 4)⟩,
  ⟨0x2045, 0x2045, 1, 1, .octets 128, .cmd, .vol, 0, none⟩,
  ⟨0x2045, 0x2045, 2, 2, .octets 12, .cmd, .vol, 0, none⟩,
  ⟨0x2045, 0x2045, 3, 3, .u 1, .rw, .paired, 8, some (1, 8)⟩,
  ⟨0x2045, 0x2045, 4, 4, .u 1, .rw, .paired, 3, some (1, 15)⟩,
  ⟨0x2045, 0x2045, 5, 5, .u 4, .ro, .vol, 0, none⟩,
  ⟨0x2046, 0x2046, 1, 16, .octets 16, .rw, .paired, 0, none⟩,
  ⟨0x2047, 0x2047, 1, 16, .octets 48, .rw, .paired, 0, none⟩,
  ⟨0x2048, 0x2048, 1, 1, .octets 64, .cmd, .vol, 0, none⟩,
  ⟨0x2048, 0x2048, 2, 5, .octets 32, .ro, .vol, 0, none⟩,
  ⟨0x2050, 0x2053, 1, 1, .u 4, .rc, .vol, 0, none⟩,
  ⟨0x2050, 0x2053, 2, 2, .u 4, .rc, .vol, 0, none⟩,
  ⟨0x2050, 0x2053, 3, 3, .u 4, .rc, .vol, 0, none⟩,
  ⟨0x2050, 0x2053, 4, 4, .u 4, .rc, .vol, 0, none⟩,
  ⟨0x2050, 0x2053, 5, 5, .u 4, .rc, .vol, 0, none⟩]

/-- Catalogue rows of the indices 0x2000 to 0x23FF. -/
def Cat.rows2 : List ObjRow := Cat.rows2a ++ Cat.rows2b

/-- Catalogue rows of the indices 0x2400 to 0x27FF, part 1. -/
def Cat.rows3a : List ObjRow := [
  ⟨0x2400, 0x2400, 1, 1, .u 1, .rw, .paired, 0, none⟩,
  ⟨0x2400, 0x2400, 2, 2, .u 1, .rw, .paired, 0, none⟩,
  ⟨0x2401, 0x2403, 1, 1, .u 1, .rw, .paired, 0, some (0, 2)⟩,
  ⟨0x2401, 0x2403, 2, 2, .u 1, .rw, .paired, 1, some (1, 2)⟩,
  ⟨0x2401, 0x2403, 3, 3, .bool, .rw, .paired, 0, none⟩,
  ⟨0x2401, 0x2403, 4, 4, .octets 16, .rw, .paired, 340282366920938463463374607431768211455, none⟩,
  ⟨0x2401, 0x2403, 5, 5, .u 1, .rw, .paired, 0, some (0, 30)⟩,
  ⟨0x2401, 0x2403, 6, 6, .u 1, .rw, .paired, 12, some (0, 30)⟩,
  ⟨0x2401, 0x2403, 7, 7, .u 2, .rw, .paired, 64, none⟩,
  ⟨0x2401, 0x2403, 8, 8, .u 2, .rw, .paired, 800, some (100, 1000)⟩,
  ⟨0x2401, 0x2403, 9, 9, .u 1, .rw, .paired, 20, some (5, 200)⟩,
  ⟨0x2401, 0x2403, 10, 10, .u 2, .rw, .paired, 1000, some (100, 60000)⟩,
  ⟨0x2401, 0x2403, 11, 11, .u 1, .rw, .paired, 40, some (20, 100)⟩,
  ⟨0x2401, 0x2403, 12, 12, .u 1, .rw, .paired, 25, some (5, 100)⟩,
  ⟨0x2401, 0x2403, 13, 13, .u 1, .rw, .paired, 10, some (3, 30)⟩,
  ⟨0x2401, 0x2403, 14, 14, .u 1, .rw, .paired, 64, some (8, 255)⟩,
  ⟨0x2401, 0x2403, 15, 15, .u 1, .rw, .paired, 1, some (0, 1)⟩,
  ⟨0x2401, 0x2403, 16, 16, .u 1, .rw, .paired, 255, none⟩,
  ⟨0x2401, 0x2403, 17, 17, .u 2, .rw, .paired, 0, some (0, 999)⟩,
  ⟨0x2410, 0x2412, 1, 1, .u 1, .ro, .vol, 0, none⟩,
  ⟨0x2410, 0x2412, 2, 2, .u 4, .rc, .vol, 0, none⟩,
  ⟨0x2410, 0x2412, 3, 3, .u 4, .rc, .vol, 0, none⟩,
  ⟨0x2410, 0x2412, 4, 4, .u 4, .rc, .vol, 0, none⟩,
  ⟨0x2410, 0x2412, 5, 5, .u 4, .rc, .vol, 0, none⟩,
  ⟨0x2410, 0x2412, 6, 6, .u 4, .rc, .vol, 0, none⟩,
  ⟨0x2410, 0x2412, 7, 7, .u 4, .rc, .vol, 0, none⟩,
  ⟨0x2410, 0x2412, 8, 8, .u 4, .rc, .vol, 0, none⟩,
  ⟨0x2410, 0x2412, 9, 9, .u 4, .rc, .vol, 0, none⟩,
  ⟨0x2410, 0x2412, 10, 10, .u 4, .rc, .vol, 0, none⟩,
  ⟨0x2418, 0x2418, 1, 3, .octets 128, .ro, .vol, 0, none⟩,
  ⟨0x2420, 0x2420, 1, 1, .u 2, .rw, .paired, 1120, some (400, 2000)⟩,
  ⟨0x2420, 0x2420, 2, 2, .u 2, .rw, .paired, 560, some (200, 2000)⟩,
  ⟨0x2420, 0x2420, 3, 3, .u 1, .rw, .paired, 2, some (1, 8)⟩,
  ⟨0x2420, 0x2420, 4, 4, .u 1, .rw, .paired, 4, some (1, 16)⟩,
  ⟨0x2420, 0x2420, 5, 5, .u 1, .rw, .paired, 8, some (1, 64)⟩,
  ⟨0x2420, 0x2420, 6, 6, .u 1, .rw, .paired, 6, some (3, 20)⟩,
  ⟨0x2420, 0x2420, 7, 7, .u 2, .rw, .paired, 2000, some (1000, 5000)⟩,
  ⟨0x2420, 0x2420, 8, 8, .u 1, .rw, .paired, 4, some (0, 7)⟩,
  ⟨0x2421, 0x2421, 1, 1, .u 1, .rw, .paired, 72, none⟩,
  ⟨0x2421, 0x2421, 2, 2, .u 1, .rw, .paired, 100, none⟩]

/-- Catalogue rows of the indices 0x2400 to 0x27FF, part 2. -/
def Cat.rows3b : List ObjRow := [
  ⟨0x2421, 0x2421, 3, 3, .u 1, .rw, .paired, 92, none⟩,
  ⟨0x2421, 0x2421, 4, 4, .u 1, .rw, .paired, 32, some (0, 255)⟩,
  ⟨0x2421, 0x2421, 5, 5, .u 2, .rw, .paired, 168, some (1, 2160)⟩,
  ⟨0x2421, 0x2421, 6, 6, .octets 4, .cmd, .vol, 0, none⟩,
  ⟨0x2422, 0x2422, 1, 1, .u 2, .rw, .paired, 1000, some (100, 3000)⟩,
  ⟨0x2422, 0x2422, 2, 2, .u 1, .rw, .paired, 5, some (1, 32)⟩,
  ⟨0x2428, 0x242A, 1, 1, .u 4, .rc, .vol, 0, none⟩,
  ⟨0x2428, 0x242A, 2, 2, .u 4, .rc, .vol, 0, none⟩,
  ⟨0x2428, 0x242A, 3, 3, .u 4, .rc, .vol, 0, none⟩,
  ⟨0x2428, 0x242A, 4, 4, .u 4, .rc, .vol, 0, none⟩,
  ⟨0x2428, 0x242A, 5, 5, .u 4, .rc, .vol, 0, none⟩,
  ⟨0x2428, 0x242A, 6, 6, .u 4, .ro, .vol, 0, none⟩,
  ⟨0x2428, 0x242A, 7, 7, .u 4, .rc, .vol, 0, none⟩,
  ⟨0x2428, 0x242A, 8, 8, .u 4, .rc, .vol, 0, none⟩,
  ⟨0x2428, 0x242A, 9, 9, .u 4, .rc, .vol, 0, none⟩]

/-- Catalogue rows of the indices 0x2400 to 0x27FF. -/
def Cat.rows3 : List ObjRow := Cat.rows3a ++ Cat.rows3b

/-- Catalogue rows of the indices 0x2800 to 0x2FFF. -/
def Cat.rows4 : List ObjRow := [
  ⟨0x2800, 0x2800, 1, 1, .u 1, .rw, .paired, 0, none⟩,
  ⟨0x2801, 0x2804, 1, 1, .u 1, .rw, .paired, 0, some (0, 4)⟩,
  ⟨0x2801, 0x2804, 2, 2, .u 2, .rw, .paired, 1522, some (1518, 9216)⟩,
  ⟨0x2801, 0x2804, 3, 3, .octets 6, .rw, .paired, 0, none⟩,
  ⟨0x2801, 0x2804, 4, 4, .u 1, .rw, .paired, 0, none⟩,
  ⟨0x2801, 0x2804, 5, 5, .u 1, .rw, .paired, 0, some (0, 7)⟩,
  ⟨0x2801, 0x2804, 6, 6, .u 1, .rw, .paired, 3, none⟩,
  ⟨0x2801, 0x2804, 7, 7, .u 2, .rw, .paired, 50, some (1, 1000)⟩,
  ⟨0x2801, 0x2804, 8, 8, .u 2, .rw, .paired, 8192, some (2048, 30720)⟩,
  ⟨0x2801, 0x2804, 9, 9, .u 2, .rw, .paired, 16384, some (2048, 30720)⟩,
  ⟨0x2801, 0x2804, 10, 10, .u 2, .rw, .paired, 100, some (0, 10000)⟩,
  ⟨0x2801, 0x2804, 11, 11, .octets 96, .rw, .paired, 0, none⟩,
  ⟨0x2801, 0x2804, 12, 12, .u 1, .ro, .vol, 0, none⟩,
  ⟨0x2810, 0x2813, 1, 64, .u 8, .rw, .paired, 0, none⟩,
  ⟨0x2820, 0x2823, 1, 1, .u 4, .rc, .vol, 0, none⟩,
  ⟨0x2820, 0x2823, 2, 2, .u 4, .rc, .vol, 0, none⟩,
  ⟨0x2820, 0x2823, 3, 3, .u 4, .rc, .vol, 0, none⟩,
  ⟨0x2820, 0x2823, 4, 4, .u 4, .rc, .vol, 0, none⟩,
  ⟨0x2820, 0x2823, 5, 5, .u 4, .rc, .vol, 0, none⟩,
  ⟨0x2820, 0x2823, 6, 6, .u 4, .rc, .vol, 0, none⟩,
  ⟨0x2820, 0x2823, 7, 7, .u 4, .rc, .vol, 0, none⟩,
  ⟨0x2820, 0x2823, 8, 8, .u 4, .rc, .vol, 0, none⟩,
  ⟨0x2820, 0x2823, 9, 9, .u 4, .rc, .vol, 0, none⟩,
  ⟨0x2820, 0x2823, 10, 10, .u 4, .rc, .vol, 0, none⟩,
  ⟨0x2820, 0x2823, 11, 11, .u 4, .rc, .vol, 0, none⟩,
  ⟨0x2820, 0x2823, 12, 12, .u 4, .rc, .vol, 0, none⟩,
  ⟨0x2820, 0x2823, 13, 13, .u 4, .rc, .vol, 0, none⟩,
  ⟨0x2820, 0x2823, 14, 14, .u 4, .rc, .vol, 0, none⟩,
  ⟨0x2C00, 0x2C00, 1, 1, .bool, .rw, .paired, 1, none⟩,
  ⟨0x2C00, 0x2C00, 2, 2, .u 1, .ro, .vol, 0, none⟩,
  ⟨0x2C00, 0x2C00, 3, 3, .bool, .rw, .paired, 1, none⟩,
  ⟨0x2C00, 0x2C00, 4, 4, .u 1, .rw, .paired, 1, some (0, 1)⟩,
  ⟨0x2C10, 0x2C10, 1, 1, .u 4, .rc, .vol, 0, none⟩,
  ⟨0x2C10, 0x2C10, 2, 2, .u 4, .rc, .vol, 0, none⟩,
  ⟨0x2C10, 0x2C10, 3, 3, .u 4, .rc, .vol, 0, none⟩,
  ⟨0x2C10, 0x2C10, 4, 4, .u 4, .rc, .vol, 0, none⟩]

/-- Catalogue rows of the indices 0x3000 to 0x3FFF, part 1. -/
def Cat.rows5a : List ObjRow := [
  ⟨0x3000, 0x3000, 1, 1, .u 1, .ro, .vol, 0, none⟩,
  ⟨0x3000, 0x3000, 2, 2, .octets 64, .cmd, .vol, 0, none⟩,
  ⟨0x3000, 0x3000, 3, 3, .octets 16, .ro, .vol, 0, none⟩,
  ⟨0x3001, 0x3001, 1, 8, .u 8, .ro, .paired, 0, none⟩,
  ⟨0x3002, 0x3002, 1, 8, .u 1, .ro, .vol, 0, none⟩,
  ⟨0x3010, 0x3017, 1, 64, .octets 8, .ro, .vol, 0, none⟩,
  ⟨0x3018, 0x301F, 1, 16, .octets 97, .ro, .vol, 0, none⟩,
  ⟨0x3020, 0x3020, 1, 1, .u 4, .rw, .paired, 200000, none⟩,
  ⟨0x3020, 0x3020, 2, 2, .u 4, .ro, .vol, 0, none⟩,
  ⟨0x3020, 0x3020, 3, 3, .u 4, .ro, .vol, 0, none⟩,
  ⟨0x3020, 0x3020, 4, 4, .u 2, .rw, .paired, 256, some (16, 1024)⟩,
  ⟨0x3021, 0x3021, 1, 1, .octets 48, .cmd, .vol, 0, none⟩,
  ⟨0x3021, 0x3021, 2, 2, .octets 1024, .ro, .vol, 0, none⟩,
  ⟨0x3021, 0x3021, 3, 3, .octets 1024, .ro, .vol, 0, none⟩,
  ⟨0x3030, 0x3030, 1, 1, .u 4, .rc, .vol, 0, none⟩,
  ⟨0x3030, 0x3030, 2, 2, .u 4, .rc, .vol, 0, none⟩,
  ⟨0x3030, 0x3030, 3, 3, .u 4, .rc, .vol, 0, none⟩,
  ⟨0x3030, 0x3030, 4, 4, .u 4, .rc, .vol, 0, none⟩,
  ⟨0x3030, 0x3030, 5, 5, .u 4, .rc, .vol, 0, none⟩,
  ⟨0x3030, 0x3030, 6, 6, .u 4, .rc, .vol, 0, none⟩,
  ⟨0x3030, 0x3030, 7, 7, .u 4, .rc, .vol, 0, none⟩,
  ⟨0x3030, 0x3030, 8, 8, .u 4, .ro, .vol, 0, none⟩,
  ⟨0x3030, 0x3030, 9, 9, .u 4, .rc, .vol, 0, none⟩,
  ⟨0x3400, 0x3400, 1, 1, .u 1, .ro, .vol, 0, none⟩,
  ⟨0x3400, 0x3400, 2, 2, .u 1, .ro, .vol, 0, none⟩,
  ⟨0x3400, 0x3400, 3, 3, .octets 64, .cmd, .vol, 0, none⟩,
  ⟨0x3400, 0x3400, 4, 4, .u 8, .ro, .seal, 0, none⟩,
  ⟨0x3400, 0x3400, 5, 5, .u 4, .rws, .seal, 3600, some (60, 86400)⟩,
  ⟨0x3401, 0x3401, 1, 1, .octets 64, .cmd, .vol, 0, none⟩,
  ⟨0x3401, 0x3401, 2, 2, .u 8, .ro, .paired, 0, none⟩,
  ⟨0x3402, 0x3402, 1, 1, .octets 64, .cmd, .vol, 0, none⟩,
  ⟨0x3402, 0x3402, 2, 2, .bool, .cmd, .vol, 0, none⟩,
  ⟨0x3402, 0x3402, 3, 3, .u 1, .ro, .vol, 0, none⟩,
  ⟨0x3402, 0x3402, 4, 4, .octets 32, .ro, .vol, 0, none⟩,
  ⟨0x3403, 0x3403, 1, 80, .octets 105, .ro, .vol, 0, none⟩,
  ⟨0x3410, 0x3410, 1, 1, .u 2, .rws, .paired, 4032, none⟩,
  ⟨0x3411, 0x3411, 1, 9, .u 1, .rws, .paired, 1, some (0, 2)⟩,
  ⟨0x3412, 0x3412, 1, 12, .octets 20, .ro, .vol, 0, none⟩,
  ⟨0x3413, 0x3413, 1, 1, .u 2, .ro, .vol, 0, none⟩,
  ⟨0x3413, 0x3413, 2, 2, .u 2, .cmd, .vol, 0, none⟩]

/-- Catalogue rows of the indices 0x3000 to 0x3FFF, part 2. -/
def Cat.rows5b : List ObjRow := [
  ⟨0x3413, 0x3413, 3, 3, .u 2, .ro, .vol, 0, none⟩,
  ⟨0x3414, 0x3414, 1, 4, .u 1, .rws, .paired, 4, some (1, 255)⟩,
  ⟨0x3414, 0x3414, 5, 5, .u 1, .rws, .paired, 20, some (5, 255)⟩,
  ⟨0x3414, 0x3414, 6, 6, .u 1, .rws, .paired, 20, some (4, 255)⟩,
  ⟨0x3414, 0x3414, 7, 7, .u 1, .rws, .paired, 40, some (4, 255)⟩]

/-- Catalogue rows of the indices 0x3000 to 0x3FFF. -/
def Cat.rows5 : List ObjRow := Cat.rows5a ++ Cat.rows5b

/-- Catalogue rows of the indices 0x4000 to 0x5FFF. -/
def Cat.rows6 : List ObjRow := [
  ⟨0x4000, 0x4000, 1, 1, .u 2, .rw, .paired, 0, none⟩,
  ⟨0x4001, 0x4001, 1, 9, .octets 20, .rw, .paired, 0, none⟩,
  ⟨0x4002, 0x4002, 1, 1, .u 2, .rw, .paired, 0, none⟩,
  ⟨0x4002, 0x4002, 2, 2, .u 1, .rw, .paired, 0, none⟩,
  ⟨0x4002, 0x4002, 3, 3, .u 2, .rw, .paired, 49223, none⟩,
  ⟨0x4003, 0x4003, 1, 1, .u 8, .rw, .paired, 4294967296, some (268435456, 68719476736)⟩,
  ⟨0x4003, 0x4003, 2, 2, .u 2, .rw, .paired, 90, some (1, 3650)⟩,
  ⟨0x4004, 0x4004, 1, 1, .u 4, .rc, .vol, 0, none⟩,
  ⟨0x4004, 0x4004, 2, 2, .u 4, .rc, .vol, 0, none⟩,
  ⟨0x4010, 0x4011, 1, 128, .octets 32, .rw, .paired, 0, none⟩,
  ⟨0x4020, 0x4020, 1, 1, .octets 256, .cmd, .vol, 0, none⟩,
  ⟨0x4020, 0x4020, 2, 2, .u 8, .cmd, .vol, 0, none⟩,
  ⟨0x4020, 0x4020, 3, 3, .u 8, .cmd, .vol, 0, none⟩,
  ⟨0x4020, 0x4020, 4, 4, .octets 2304, .cmd, .vol, 0, none⟩,
  ⟨0x5000, 0x5000, 1, 8, .u 1, .rw, .paired, 1, some (1, 2)⟩,
  ⟨0x5001, 0x5001, 1, 8, .u 1, .rw, .paired, 8, some (0, 96)⟩,
  ⟨0x5002, 0x5002, 1, 8, .u 4, .rw, .paired, 86400, some (900, 2592000)⟩,
  ⟨0x5003, 0x5003, 1, 8, .u 1, .rw, .paired, 4, some (1, 8)⟩,
  ⟨0x5004, 0x5004, 1, 1, .u 4, .rw, .paired, 3600, some (60, 86400)⟩,
  ⟨0x5010, 0x5017, 1, 64, .octets 32, .rw, .paired, 0, none⟩,
  ⟨0x5018, 0x501F, 1, 255, .octets 12, .rw, .paired, 0, none⟩,
  ⟨0x5020, 0x5020, 1, 1, .u 4, .rw, .paired, 1000, some (10, 1048576)⟩,
  ⟨0x5020, 0x5020, 2, 2, .u 4, .rw, .paired, 100, none⟩,
  ⟨0x5020, 0x5020, 3, 3, .u 2, .rw, .paired, 1000, some (100, 10000)⟩,
  ⟨0x5020, 0x5020, 4, 4, .u 2, .ro, .vol, 0, none⟩,
  ⟨0x5030, 0x5030, 1, 8, .u 4, .rc, .vol, 0, none⟩,
  ⟨0x5031, 0x5031, 1, 8, .u 4, .rc, .vol, 0, none⟩,
  ⟨0x5032, 0x5032, 1, 8, .u 4, .rc, .vol, 0, none⟩,
  ⟨0x5033, 0x5033, 1, 8, .u 4, .rc, .vol, 0, none⟩,
  ⟨0x5034, 0x5034, 1, 8, .u 4, .rc, .vol, 0, none⟩,
  ⟨0x5035, 0x5035, 1, 8, .u 4, .rc, .vol, 0, none⟩,
  ⟨0x5036, 0x5036, 1, 1, .u 4, .ro, .vol, 0, none⟩]

/-- Catalogue rows of the indices 0x6000 to 0x6FFF, part 1. -/
def Cat.rows7a : List ObjRow := [
  ⟨0x6000, 0x6000, 1, 1, .octets 64, .cmd, .vol, 0, none⟩,
  ⟨0x6000, 0x6000, 2, 2, .octets 16, .ro, .vol, 0, none⟩,
  ⟨0x6000, 0x6000, 3, 3, .u 8, .ro, .seal, 0, none⟩,
  ⟨0x6000, 0x6000, 4, 4, .u 4, .rws, .seal, 300, some (1, 3600)⟩,
  ⟨0x6000, 0x6000, 5, 5, .u 4, .rws, .seal, 10, none⟩,
  ⟨0x6100, 0x6101, 1, 128, .octets 1600, .rws, .seal, 0, none⟩,
  ⟨0x6102, 0x6103, 1, 128, .octets 1600, .rws, .seal, 0, none⟩,
  ⟨0x6104, 0x6105, 1, 128, .octets 1600, .ro, .seal, 0, none⟩,
  ⟨0x6110, 0x6111, 1, 128, .octets 16, .ro, .vol, 0, none⟩,
  ⟨0x6120, 0x6120, 1, 1, .u 8, .cmd, .vol, 0, none⟩,
  ⟨0x6120, 0x6120, 2, 2, .octets 12, .cmd, .vol, 0, none⟩,
  ⟨0x6130, 0x6130, 1, 1, .u 4, .rc, .vol, 0, none⟩,
  ⟨0x6130, 0x6130, 2, 2, .u 4, .rc, .vol, 0, none⟩,
  ⟨0x6130, 0x6130, 3, 3, .u 4, .rc, .vol, 0, none⟩,
  ⟨0x6130, 0x6130, 4, 4, .u 4, .rc, .vol, 0, none⟩,
  ⟨0x6130, 0x6130, 5, 5, .u 4, .rc, .vol, 0, none⟩,
  ⟨0x6130, 0x6130, 6, 6, .u 4, .rc, .vol, 0, none⟩,
  ⟨0x6130, 0x6130, 7, 7, .u 4, .ro, .vol, 0, none⟩,
  ⟨0x6800, 0x6800, 1, 8, .i 8, .rw, .paired, 5000, none⟩,
  ⟨0x6801, 0x6801, 1, 8, .u 1, .rw, .paired, 0, some (0, 2)⟩,
  ⟨0x6802, 0x6802, 1, 8, .i 8, .rw, .paired, 0, some (0, 9223372036854775807)⟩,
  ⟨0x6803, 0x6803, 1, 8, .u 4, .rw, .paired, 86400, some (60, 604800)⟩,
  ⟨0x6804, 0x6804, 1, 8, .u 4, .rw, .paired, 600, some (0, 604800)⟩,
  ⟨0x6805, 0x6805, 1, 8, .i 8, .rw, .paired, 0, some (0, 9223372036854775807)⟩,
  ⟨0x6806, 0x6806, 1, 8, .u 2, .rw, .paired, 0, some (0, 1000)⟩,
  ⟨0x6807, 0x6807, 1, 8, .u 4, .rw, .paired, 86400, some (60, 604800)⟩,
  ⟨0x6810, 0x6810, 1, 1, .octets 32, .cmd, .vol, 0, none⟩,
  ⟨0x6810, 0x6810, 2, 2, .octets 32, .cmd, .vol, 0, none⟩,
  ⟨0x6810, 0x6810, 3, 3, .octets 12, .cmd, .vol, 0, none⟩,
  ⟨0x6810, 0x6810, 4, 4, .octets 64, .cmd, .vol, 0, none⟩,
  ⟨0x6810, 0x6810, 5, 5, .u 8, .cmd, .vol, 0, none⟩,
  ⟨0x6820, 0x6821, 1, 128, .octets 272, .ro, .paired, 0, none⟩,
  ⟨0x6822, 0x6823, 1, 128, .octets 272, .rw, .paired, 0, none⟩,
  ⟨0x6824, 0x6825, 1, 128, .octets 272, .ro, .paired, 0, none⟩,
  ⟨0x6830, 0x6830, 1, 1, .u 4, .rc, .vol, 0, none⟩,
  ⟨0x6830, 0x6830, 2, 2, .u 4, .rc, .vol, 0, none⟩,
  ⟨0x6830, 0x6830, 3, 3, .u 4, .rc, .vol, 0, none⟩,
  ⟨0x6830, 0x6830, 4, 4, .u 4, .rc, .vol, 0, none⟩,
  ⟨0x6830, 0x6830, 5, 5, .u 4, .rc, .vol, 0, none⟩,
  ⟨0x6830, 0x6830, 6, 6, .u 4, .rc, .vol, 0, none⟩]

/-- Catalogue rows of the indices 0x6000 to 0x6FFF, part 2. -/
def Cat.rows7b : List ObjRow := [
  ⟨0x6830, 0x6830, 7, 7, .u 4, .rc, .vol, 0, none⟩]

/-- Catalogue rows of the indices 0x6000 to 0x6FFF. -/
def Cat.rows7 : List ObjRow := Cat.rows7a ++ Cat.rows7b

/-- Catalogue rows of the indices 0x7000 to 0x7FFF, part 1. -/
def Cat.rows8a : List ObjRow := [
  ⟨0x7000, 0x7000, 1, 1, .bool, .rw, .paired, 0, none⟩,
  ⟨0x7000, 0x7000, 2, 2, .u 1, .rw, .paired, 15, none⟩,
  ⟨0x7000, 0x7000, 3, 3, .u 4, .rw, .paired, 3600, some (900, 86400)⟩,
  ⟨0x7000, 0x7000, 4, 4, .u 1, .rw, .paired, 4, some (1, 96)⟩,
  ⟨0x7000, 0x7000, 5, 5, .u 2, .rw, .paired, 1000, some (1, 65535)⟩,
  ⟨0x7000, 0x7000, 6, 6, .u 2, .rw, .paired, 50, some (0, 65535)⟩,
  ⟨0x7001, 0x7001, 1, 1, .u 2, .rw, .paired, 20, none⟩,
  ⟨0x7001, 0x7001, 2, 2, .u 2, .rw, .paired, 200, none⟩,
  ⟨0x7001, 0x7001, 3, 3, .u 2, .rw, .paired, 500, none⟩,
  ⟨0x7001, 0x7001, 4, 4, .u 2, .rw, .paired, 300, none⟩,
  ⟨0x7010, 0x7010, 1, 1, .octets 32, .cmd, .vol, 0, none⟩,
  ⟨0x7010, 0x7010, 2, 2, .u 2, .cmd, .vol, 0, none⟩,
  ⟨0x7010, 0x7010, 3, 3, .u 8, .cmd, .vol, 0, none⟩,
  ⟨0x7011, 0x7011, 1, 1, .u 2, .ro, .vol, 0, none⟩,
  ⟨0x7020, 0x7020, 1, 1, .u 4, .rc, .vol, 0, none⟩,
  ⟨0x7020, 0x7020, 2, 2, .u 4, .rc, .vol, 0, none⟩,
  ⟨0x7020, 0x7020, 3, 3, .u 4, .rc, .vol, 0, none⟩,
  ⟨0x7020, 0x7020, 4, 4, .u 4, .rc, .vol, 0, none⟩,
  ⟨0x7020, 0x7020, 5, 5, .u 4, .rc, .vol, 0, none⟩,
  ⟨0x7020, 0x7020, 6, 6, .u 4, .rc, .vol, 0, none⟩,
  ⟨0x7020, 0x7020, 7, 7, .u 4, .rc, .vol, 0, none⟩,
  ⟨0x7100, 0x717F, 1, 128, .octets 8, .rws, .seal, 0, none⟩,
  ⟨0x7800, 0x7800, 1, 1, .u 1, .ro, .vol, 0, none⟩,
  ⟨0x7800, 0x7800, 2, 2, .bool, .ro, .paired, 0, none⟩,
  ⟨0x7800, 0x7800, 3, 3, .u 4, .ro, .vol, 0, none⟩,
  ⟨0x7800, 0x7800, 4, 4, .u 4, .ro, .vol, 0, none⟩,
  ⟨0x7800, 0x7800, 5, 5, .u 4, .ro, .vol, 0, none⟩,
  ⟨0x7800, 0x7800, 6, 6, .u 4, .ro, .vol, 0, none⟩,
  ⟨0x7800, 0x7800, 7, 7, .u 4, .ro, .vol, 0, none⟩,
  ⟨0x7801, 0x7801, 1, 1, .u 2, .rw, .paired, 800, some (200, 800)⟩,
  ⟨0x7801, 0x7801, 2, 2, .u 1, .rw, .paired, 7, some (1, 15)⟩,
  ⟨0x7801, 0x7801, 3, 3, .u 2, .rw, .paired, 8, some (1, 100)⟩,
  ⟨0x7801, 0x7801, 4, 4, .u 2, .rw, .paired, 20, some (5, 200)⟩,
  ⟨0x7801, 0x7801, 5, 5, .u 2, .rw, .paired, 5, some (1, 50)⟩,
  ⟨0x7801, 0x7801, 6, 6, .u 2, .rw, .paired, 200, some (50, 5000)⟩,
  ⟨0x7801, 0x7801, 7, 7, .u 2, .rw, .paired, 60, some (1, 3600)⟩,
  ⟨0x7801, 0x7801, 8, 8, .u 2, .rw, .paired, 64, some (16, 1024)⟩,
  ⟨0x7801, 0x7801, 9, 9, .u 1, .rw, .paired, 0, some (0, 1)⟩,
  ⟨0x7801, 0x7801, 10, 10, .u 2, .rw, .paired, 457, some (31, 3650)⟩,
  ⟨0x7801, 0x7801, 11, 11, .u 2, .rw, .paired, 70, some (20, 300)⟩]

/-- Catalogue rows of the indices 0x7000 to 0x7FFF, part 2. -/
def Cat.rows8b : List ObjRow := [
  ⟨0x7802, 0x7802, 1, 7, .u 4, .rw, .paired, 0, none⟩,
  ⟨0x7810, 0x7810, 1, 1, .octets 8, .cmd, .vol, 0, none⟩,
  ⟨0x7810, 0x7810, 2, 2, .octets 8, .cmd, .vol, 0, none⟩,
  ⟨0x7810, 0x7810, 3, 3, .octets 8, .cmd, .vol, 0, none⟩,
  ⟨0x7810, 0x7810, 4, 4, .bool, .cmd, .vol, 0, none⟩,
  ⟨0x7810, 0x7810, 5, 5, .u 1, .cmd, .vol, 0, none⟩,
  ⟨0x7810, 0x7810, 6, 6, .bool, .cmd, .vol, 0, none⟩,
  ⟨0x7820, 0x7820, 1, 1, .u 4, .rc, .vol, 0, none⟩,
  ⟨0x7820, 0x7820, 2, 2, .u 4, .rc, .vol, 0, none⟩,
  ⟨0x7820, 0x7820, 3, 3, .u 4, .ro, .paired, 0, none⟩,
  ⟨0x7820, 0x7820, 4, 4, .u 4, .rc, .vol, 0, none⟩,
  ⟨0x7820, 0x7820, 5, 5, .u 4, .rc, .vol, 0, none⟩,
  ⟨0x7820, 0x7820, 6, 6, .u 4, .rc, .vol, 0, none⟩,
  ⟨0x7820, 0x7820, 7, 7, .u 4, .ro, .vol, 0, none⟩,
  ⟨0x7C00, 0x7C00, 1, 1, .u 4, .rw, .paired, 0, none⟩,
  ⟨0x7C00, 0x7C00, 2, 2, .u 4, .rw, .paired, 1048576, some (65536, 67108864)⟩,
  ⟨0x7C00, 0x7C00, 3, 3, .u 4, .rw, .paired, 4194304, some (65536, 67108864)⟩,
  ⟨0x7C00, 0x7C00, 4, 4, .u 4, .rw, .paired, 1048576, some (65536, 67108864)⟩,
  ⟨0x7C00, 0x7C00, 5, 5, .u 4, .rw, .paired, 3600, some (1, 86400)⟩,
  ⟨0x7C00, 0x7C00, 6, 6, .u 2, .rw, .paired, 600, some (10, 3600)⟩,
  ⟨0x7C01, 0x7C01, 1, 1, .octets 9, .cmd, .vol, 0, none⟩,
  ⟨0x7C01, 0x7C01, 2, 2, .u 1, .cmd, .vol, 0, none⟩,
  ⟨0x7C01, 0x7C01, 3, 3, .bool, .cmd, .vol, 0, none⟩,
  ⟨0x7C01, 0x7C01, 4, 4, .octets 16, .cmd, .vol, 0, none⟩,
  ⟨0x7C10, 0x7C10, 1, 4, .u 8, .ro, .vol, 0, none⟩,
  ⟨0x7C10, 0x7C10, 5, 5, .u 8, .ro, .vol, 0, none⟩,
  ⟨0x7C10, 0x7C10, 6, 6, .u 2, .ro, .vol, 0, none⟩,
  ⟨0x7C10, 0x7C10, 7, 7, .u 8, .ro, .vol, 1, none⟩,
  ⟨0x7C20, 0x7C20, 1, 4, .u 4, .rc, .vol, 0, none⟩,
  ⟨0x7C20, 0x7C20, 5, 5, .u 4, .rc, .vol, 0, none⟩,
  ⟨0x7C20, 0x7C20, 6, 6, .u 4, .rc, .vol, 0, none⟩,
  ⟨0x7C20, 0x7C20, 7, 7, .u 4, .rc, .vol, 0, none⟩]

/-- Catalogue rows of the indices 0x7000 to 0x7FFF. -/
def Cat.rows8 : List ObjRow := Cat.rows8a ++ Cat.rows8b

/-- Catalogue rows of the indices 0x8000 to 0xFFFF. -/
def Cat.rows9 : List ObjRow := [
  ⟨0x8000, 0x8000, 1, 1, .u 1, .rw, .paired, 1, none⟩,
  ⟨0x8000, 0x8000, 2, 2, .u 2, .rw, .paired, 1000, some (100, 10000)⟩,
  ⟨0x8000, 0x8000, 3, 3, .u 4, .ro, .vol, 2500000, none⟩,
  ⟨0x8001, 0x8001, 1, 8, .u 2, .rw, .paired, 0, none⟩,
  ⟨0x8002, 0x8002, 1, 8, .u 4, .rw, .paired, 0, none⟩,
  ⟨0x8003, 0x8003, 1, 8, .u 4, .rw, .paired, 60000, some (10, 86400000)⟩,
  ⟨0x8004, 0x8004, 1, 8, .u 2, .rw, .paired, 60, some (1, 3600)⟩,
  ⟨0x8005, 0x8005, 1, 8, .octets 20, .rw, .paired, 0, none⟩,
  ⟨0x8010, 0x8010, 1, 8, .u 4, .rc, .vol, 0, none⟩,
  ⟨0x8011, 0x8011, 1, 8, .u 4, .rc, .vol, 0, none⟩,
  ⟨0x8012, 0x8012, 1, 8, .u 4, .rc, .vol, 0, none⟩,
  ⟨0x9000, 0x9000, 1, 1, .u 1, .ro, .vol, 3, none⟩,
  ⟨0x9000, 0x9000, 2, 2, .u 1, .ro, .vol, 0, none⟩,
  ⟨0x9000, 0x9000, 3, 3, .bool, .cmd, .vol, 0, none⟩,
  ⟨0x9000, 0x9000, 4, 4, .bool, .cmd, .vol, 0, none⟩,
  ⟨0x9000, 0x9000, 5, 5, .u 1, .rw, .paired, 3, some (0, 23)⟩,
  ⟨0x9001, 0x9001, 1, 1, .bool, .rw, .paired, 0, none⟩,
  ⟨0x9002, 0x9002, 1, 16, .octets 8, .rw, .paired, 0, none⟩,
  ⟨0x9010, 0x9010, 1, 1, .u 4, .rc, .vol, 0, none⟩,
  ⟨0x9010, 0x9010, 2, 2, .u 4, .rc, .vol, 0, none⟩,
  ⟨0x9010, 0x9010, 3, 3, .u 4, .rc, .vol, 0, none⟩,
  ⟨0x9010, 0x9010, 4, 4, .u 4, .rc, .vol, 0, none⟩,
  ⟨0x9010, 0x9010, 5, 5, .u 4, .ro, .vol, 0, none⟩,
  ⟨0x9010, 0x9010, 6, 6, .u 4, .rc, .vol, 0, none⟩,
  ⟨0xA000, 0xA000, 1, 1, .u 1, .cmd, .vol, 0, none⟩,
  ⟨0xA000, 0xA000, 2, 2, .octets 32, .ro, .vol, 0, none⟩,
  ⟨0xA000, 0xA000, 3, 3, .u 4, .rc, .vol, 0, none⟩,
  ⟨0xA000, 0xA000, 4, 4, .u 4, .ro, .vol, 0, none⟩]

/-- Every row of the catalogue (R373). -/
def Cat.rows : List ObjRow :=
  Cat.rows0 ++ Cat.rows1 ++ Cat.rows2 ++ Cat.rows3 ++ Cat.rows4 ++ Cat.rows5 ++ Cat.rows6 ++ Cat.rows7 ++ Cat.rows8 ++ Cat.rows9

/-- The rows among which an index lies (R373). -/
def Cat.rowsOf (idx : Nat) : List ObjRow :=
  if Nat.blt idx 0x1400 then Cat.rows0
  else if Nat.blt idx 0x2000 then Cat.rows1
  else if Nat.blt idx 0x2400 then Cat.rows2
  else if Nat.blt idx 0x2800 then Cat.rows3
  else if Nat.blt idx 0x3000 then Cat.rows4
  else if Nat.blt idx 0x4000 then Cat.rows5
  else if Nat.blt idx 0x6000 then Cat.rows6
  else if Nat.blt idx 0x7000 then Cat.rows7
  else if Nat.blt idx 0x8000 then Cat.rows8
  else Cat.rows9

/-- Whether a row covers an index and a subindex. -/
def ObjRow.has (r : ObjRow) (idx sub : Nat) : Bool :=
  Nat.ble r.lo idx && Nat.ble idx r.hi && Nat.ble r.subLo sub && Nat.ble sub r.subHi

/-- The row of the object with a key (R373), none for an index or subindex that no home chapter defines. -/
def Cat.row (k : Nat) : Option ObjRow := (Cat.rowsOf (k / 256)).find? fun r => r.has (k / 256) (k % 256)

/-- Whether an index is a RECORD, which has a subindex 0 holding its count of subindices (R16). -/
def Cat.count (idx : Nat) : Option Nat :=
  let rs := (Cat.rowsOf idx).filter fun r => Nat.ble r.lo idx && Nat.ble idx r.hi
  if rs.isEmpty then none else some (rs.foldl (fun m r => max m r.subHi) 0)

/-- DeviceSerial (0x1000.01). -/
abbrev Obj.deviceSerial : Nat := 0x100001
/-- VariantCode (0x1001.01). -/
abbrev Obj.variantCode : Nat := 0x100101
/-- RolesEnabled (0x1001.02). -/
abbrev Obj.rolesEnabled : Nat := 0x100102
/-- RegistryLimit (0x1001.03). -/
abbrev Obj.registryLimit : Nat := 0x100103
/-- JunctionMaxDeciC (0x1001.04). -/
abbrev Obj.junctionMaxDeciC : Nat := 0x100104
/-- EngineCeilingMHz (0x1001.05). -/
abbrev Obj.engineCeilingMHz : Nat := 0x100105
/-- EngineHotCeilingMHz (0x1001.06). -/
abbrev Obj.engineHotCeilingMHz : Nat := 0x100106
/-- RoleSelect (0x1001.07). -/
abbrev Obj.roleSelect : Nat := 0x100107
/-- ConfigurationSize (0x1001.08). -/
abbrev Obj.configurationSize : Nat := 0x100108
/-- CellEnable (0x4000.01). -/
abbrev Obj.cellEnable : Nat := 0x400001
/-- TunnelBinding (0x4001.01 + i). -/
abbrev Obj.tunnelBinding (i : Nat) : Nat := 0x400101 + i
/-- ConcentratorNumber (0x4002.01). -/
abbrev Obj.concentratorNumber : Nat := 0x400201
/-- DomainNumber (0x4002.02). -/
abbrev Obj.domainNumber : Nat := 0x400202
/-- CascadePort (0x4002.03). -/
abbrev Obj.cascadePort : Nat := 0x400203
/-- ForwardJournalLimit (0x4003.01). -/
abbrev Obj.forwardJournalLimit : Nat := 0x400301
/-- IndexQuarantineDays (0x4003.02). -/
abbrev Obj.indexQuarantineDays : Nat := 0x400302
/-- TunnelUnmatched (0x4004.01). -/
abbrev Obj.tunnelUnmatched : Nat := 0x400401
/-- UnknownAddressFrames (0x4004.02). -/
abbrev Obj.unknownAddressFrames : Nat := 0x400402
/-- SubordinateTable (0x4010.01, item n of 128 an index). -/
abbrev Obj.subordinateTable (n : Nat) : Nat := 0x401001 + 256 * (n / 128) + n % 128
/-- EndpointAdmit (0x4020.01). -/
abbrev Obj.endpointAdmit : Nat := 0x402001
/-- EndpointRemove (0x4020.02). -/
abbrev Obj.endpointRemove : Nat := 0x402002
/-- EndpointRead (0x4020.03). -/
abbrev Obj.endpointRead : Nat := 0x402003
/-- EndpointAdmitMove (0x4020.04). -/
abbrev Obj.endpointAdmitMove : Nat := 0x402004
/-- CarouselEnable (0x2000.01). -/
abbrev Obj.carouselEnable : Nat := 0x200001
/-- DemodMaxHoldS (0x2000.02). -/
abbrev Obj.demodMaxHoldS : Nat := 0x200002
/-- SnippetChipLimit (0x2000.03). -/
abbrev Obj.snippetChipLimit : Nat := 0x200003
/-- SnippetMaxBytes (0x2000.04). -/
abbrev Obj.snippetMaxBytes : Nat := 0x200004
/-- SnippetSpillSize (0x2000.05). -/
abbrev Obj.snippetSpillSize : Nat := 0x200005
/-- SampleRate (0x2001.01, index + i). -/
abbrev Obj.sampleRate (i : Nat) : Nat := 0x200101 + 256 * i
/-- CentreHz (0x2001.02, index + i). -/
abbrev Obj.centreHz (i : Nat) : Nat := 0x200102 + 256 * i
/-- GridEnable (0x2001.03, index + i). -/
abbrev Obj.gridEnable (i : Nat) : Nat := 0x200103 + 256 * i
/-- ModeEnable (0x2001.04, index + i). -/
abbrev Obj.modeEnable (i : Nat) : Nat := 0x200104 + 256 * i
/-- DemodReserve (0x2001.05, index + i). -/
abbrev Obj.demodReserve (i : Nat) : Nat := 0x200105 + 256 * i
/-- RssiOffsetDeciDbm (0x2001.06, index + i). -/
abbrev Obj.rssiOffsetDeciDbm (i : Nat) : Nat := 0x200106 + 256 * i
/-- ClipFlagThreshold (0x2001.07, index + i). -/
abbrev Obj.clipFlagThreshold (i : Nat) : Nat := 0x200107 + 256 * i
/-- IqRetrain (0x2001.08, index + i). -/
abbrev Obj.iqRetrain (i : Nat) : Nat := 0x200108 + 256 * i
/-- IqPortStatus (0x2001.09, index + i). -/
abbrev Obj.iqPortStatus (i : Nat) : Nat := 0x200109 + 256 * i
/-- ClipCount (0x2001.0A, index + i). -/
abbrev Obj.clipCount (i : Nat) : Nat := 0x20010A + 256 * i
/-- GridOrigin (0x2008.01, index + i, subindex + j). -/
abbrev Obj.gridOrigin (i j : Nat) : Nat := 0x200801 + 256 * i + j
/-- ModeGrid (0x2010.01 + i). -/
abbrev Obj.modeGrid (i : Nat) : Nat := 0x201001 + i
/-- DemodBusyDrops (0x2020.01, index + i, subindex + j). -/
abbrev Obj.demodBusyDrops (i j : Nat) : Nat := 0x202001 + 256 * i + j
/-- Detections (0x2020.07, index + i). -/
abbrev Obj.detections (i : Nat) : Nat := 0x202007 + 256 * i
/-- Delivered (0x2020.08, index + i). -/
abbrev Obj.delivered (i : Nat) : Nat := 0x202008 + 256 * i
/-- CrcFail (0x2020.09, index + i). -/
abbrev Obj.crcFail (i : Nat) : Nat := 0x202009 + 256 * i
/-- MergedDetections (0x2020.0A, index + i). -/
abbrev Obj.mergedDetections (i : Nat) : Nat := 0x20200A + 256 * i
/-- UnsupportedFormat (0x2020.0B, index + i). -/
abbrev Obj.unsupportedFormat (i : Nat) : Nat := 0x20200B + 256 * i
/-- PortFaults (0x2020.0C, index + i). -/
abbrev Obj.portFaults (i : Nat) : Nat := 0x20200C + 256 * i
/-- GroupsFormed (0x2030.01). -/
abbrev Obj.groupsFormed : Nat := 0x203001
/-- FramesRecovered (0x2030.02). -/
abbrev Obj.framesRecovered : Nat := 0x203002
/-- FramesLost (0x2030.03). -/
abbrev Obj.framesLost : Nat := 0x203003
/-- GroupOverflow (0x2030.04). -/
abbrev Obj.groupOverflow : Nat := 0x203004
/-- SnippetNoSpace (0x2030.05). -/
abbrev Obj.snippetNoSpace : Nat := 0x203005
/-- SnippetTooLong (0x2030.06). -/
abbrev Obj.snippetTooLong : Nat := 0x203006
/-- ResponseOffsetUs (0x2040.01 + i). -/
abbrev Obj.responseOffsetUs (i : Nat) : Nat := 0x204001 + i
/-- ResponseMode (0x2041.01 + i). -/
abbrev Obj.responseMode (i : Nat) : Nat := 0x204101 + i
/-- ResponseFreqOffsetHz (0x2042.01 + i). -/
abbrev Obj.responseFreqOffsetHz (i : Nat) : Nat := 0x204201 + i
/-- ResponsePreambleExtra (0x2043.01 + i). -/
abbrev Obj.responsePreambleExtra (i : Nat) : Nat := 0x204301 + i
/-- TxBackoffDb (0x2044.01). -/
abbrev Obj.txBackoffDb : Nat := 0x204401
/-- PendantResponseCopies (0x2044.02). -/
abbrev Obj.pendantResponseCopies : Nat := 0x204402
/-- StageItem (0x2045.01). -/
abbrev Obj.stageItem : Nat := 0x204501
/-- StageWithdraw (0x2045.02). -/
abbrev Obj.stageWithdraw : Nat := 0x204502
/-- StageMaxPerEndpoint (0x2045.03). -/
abbrev Obj.stageMaxPerEndpoint : Nat := 0x204503
/-- StageMaxSends (0x2045.04). -/
abbrev Obj.stageMaxSends : Nat := 0x204504
/-- StagedItems (0x2045.05). -/
abbrev Obj.stagedItems : Nat := 0x204505
/-- DutyBand (0x2046.01 + i). -/
abbrev Obj.dutyBand (i : Nat) : Nat := 0x204601 + i
/-- BroadcastPlan (0x2047.01 + i). -/
abbrev Obj.broadcastPlan (i : Nat) : Nat := 0x204701 + i
/-- CampaignStart (0x2048.01). -/
abbrev Obj.campaignStart : Nat := 0x204801
/-- CampaignStatus (0x2048.02 + i). -/
abbrev Obj.campaignStatus (i : Nat) : Nat := 0x204802 + i
/-- ResponsesSent (0x2050.01, index + i). -/
abbrev Obj.responsesSent (i : Nat) : Nat := 0x205001 + 256 * i
/-- ResponsesMissed (0x2050.02, index + i). -/
abbrev Obj.responsesMissed (i : Nat) : Nat := 0x205002 + 256 * i
/-- DutyRefused (0x2050.03, index + i). -/
abbrev Obj.dutyRefused (i : Nat) : Nat := 0x205003 + 256 * i
/-- LbtBusy (0x2050.04, index + i). -/
abbrev Obj.lbtBusy (i : Nat) : Nat := 0x205004 + 256 * i
/-- TxNoSubband (0x2050.05, index + i). -/
abbrev Obj.txNoSubband (i : Nat) : Nat := 0x205005 + 256 * i
/-- TightropeEnable (0x2400.01). -/
abbrev Obj.tightropeEnable : Nat := 0x240001
/-- MainsHz (0x2400.02). -/
abbrev Obj.mainsHz : Nat := 0x240002
/-- LaneProfile (0x2401.01, index + i). -/
abbrev Obj.laneProfile (i : Nat) : Nat := 0x240101 + 256 * i
/-- LaneStandard (0x2401.02, index + i). -/
abbrev Obj.laneStandard (i : Nat) : Nat := 0x240102 + 256 * i
/-- ChainEnable (0x2401.03, index + i). -/
abbrev Obj.chainEnable (i : Nat) : Nat := 0x240103 + 256 * i
/-- ToneMask (0x2401.04, index + i). -/
abbrev Obj.toneMask (i : Nat) : Nat := 0x240104 + 256 * i
/-- TxAttenDb (0x2401.05, index + i). -/
abbrev Obj.txAttenDb (i : Nat) : Nat := 0x240105 + 256 * i
/-- TxAttenMaxDb (0x2401.06, index + i). -/
abbrev Obj.txAttenMaxDb (i : Nat) : Nat := 0x240106 + 256 * i
/-- ClipThreshold (0x2401.07, index + i). -/
abbrev Obj.clipThreshold (i : Nat) : Nat := 0x240107 + 256 * i
/-- IsenseThresholdMv (0x2401.08, index + i). -/
abbrev Obj.isenseThresholdMv (i : Nat) : Nat := 0x240108 + 256 * i
/-- DrvLeadUs (0x2401.09, index + i). -/
abbrev Obj.drvLeadUs (i : Nat) : Nat := 0x240109 + 256 * i
/-- ThermalHoldoffMs (0x2401.0A, index + i). -/
abbrev Obj.thermalHoldoffMs (i : Nat) : Nat := 0x24010A + 256 * i
/-- ImpulseFactorDeci (0x2401.0B, index + i). -/
abbrev Obj.impulseFactorDeci (i : Nat) : Nat := 0x24010B + 256 * i
/-- SymbolEraseShare (0x2401.0C, index + i). -/
abbrev Obj.symbolEraseShare (i : Nat) : Nat := 0x24010C + 256 * i
/-- CarrierEraseMarginDb (0x2401.0D, index + i). -/
abbrev Obj.carrierEraseMarginDb (i : Nat) : Nat := 0x24010D + 256 * i
/-- NoiseMapTau (0x2401.0E, index + i). -/
abbrev Obj.noiseMapTau (i : Nat) : Nat := 0x24010E + 256 * i
/-- ChainModulationDefault (0x2401.0F, index + i). -/
abbrev Obj.chainModulationDefault (i : Nat) : Nat := 0x24010F + 256 * i
/-- RxGainFixedDb (0x2401.10, index + i). -/
abbrev Obj.rxGainFixedDb (i : Nat) : Nat := 0x240110 + 256 * i
/-- ZcDelayUs (0x2401.11, index + i). -/
abbrev Obj.zcDelayUs (i : Nat) : Nat := 0x240111 + 256 * i
/-- LaneStatus (0x2410.01, index + i). -/
abbrev Obj.laneStatus (i : Nat) : Nat := 0x241001 + 256 * i
/-- Delivered (0x2410.02, index + i). -/
abbrev Obj.plcDelivered (i : Nat) : Nat := 0x241002 + 256 * i
/-- CrcFail (0x2410.03, index + i). -/
abbrev Obj.plcCrcFail (i : Nat) : Nat := 0x241003 + 256 * i
/-- UnsupportedFormat (0x2410.04, index + i). -/
abbrev Obj.plcUnsupportedFormat (i : Nat) : Nat := 0x241004 + 256 * i
/-- TxFrames (0x2410.05, index + i). -/
abbrev Obj.plcTxFrames (i : Nat) : Nat := 0x241005 + 256 * i
/-- TxDegraded (0x2410.06, index + i). -/
abbrev Obj.txDegraded (i : Nat) : Nat := 0x241006 + 256 * i
/-- ThermalTrips (0x2410.07, index + i). -/
abbrev Obj.thermalTrips (i : Nat) : Nat := 0x241007 + 256 * i
/-- ZcIgnored (0x2410.08, index + i). -/
abbrev Obj.zcIgnored (i : Nat) : Nat := 0x241008 + 256 * i
/-- ZcLost (0x2410.09, index + i). -/
abbrev Obj.zcLost (i : Nat) : Nat := 0x241009 + 256 * i
/-- ErasedSymbols (0x2410.0A, index + i). -/
abbrev Obj.erasedSymbols (i : Nat) : Nat := 0x24100A + 256 * i
/-- NoiseMap (0x2418.01 + i). -/
abbrev Obj.noiseMap (i : Nat) : Nat := 0x241801 + i
/-- SlotUs (0x2420.01). -/
abbrev Obj.slotUs : Nat := 0x242001
/-- ChainIfsUs (0x2420.02). -/
abbrev Obj.chainIfsUs : Nat := 0x242002
/-- P0Slots (0x2420.03). -/
abbrev Obj.p0Slots : Nat := 0x242003
/-- P1Slots (0x2420.04). -/
abbrev Obj.p1Slots : Nat := 0x242004
/-- P2Slots (0x2420.05). -/
abbrev Obj.p2Slots : Nat := 0x242005
/-- CsMarginDb (0x2420.06). -/
abbrev Obj.csMarginDb : Nat := 0x242006
/-- ChainAckGapUs (0x2420.07). -/
abbrev Obj.chainAckGapUs : Nat := 0x242007
/-- ChainRetryLimit (0x2420.08). -/
abbrev Obj.chainRetryLimit : Nat := 0x242008
/-- LqMin (0x2421.01). -/
abbrev Obj.lqMin : Nat := 0x242101
/-- LqGood (0x2421.02). -/
abbrev Obj.lqGood : Nat := 0x242102
/-- LqQpsk (0x2421.03). -/
abbrev Obj.lqQpsk : Nat := 0x242103
/-- RetryPenalty (0x2421.04). -/
abbrev Obj.retryPenalty : Nat := 0x242104
/-- LqtMaxAgeH (0x2421.05). -/
abbrev Obj.lqtMaxAgeH : Nat := 0x242105
/-- LinkQualityRead (0x2421.06). -/
abbrev Obj.linkQualityRead : Nat := 0x242106
/-- PhaseTolUs (0x2422.01). -/
abbrev Obj.phaseTolUs : Nat := 0x242201
/-- PhaseVotes (0x2422.02). -/
abbrev Obj.phaseVotes : Nat := 0x242202
/-- ContentionDeferrals (0x2428.01, index + i). -/
abbrev Obj.contentionDeferrals (i : Nat) : Nat := 0x242801 + 256 * i
/-- AckTimeouts (0x2428.02, index + i). -/
abbrev Obj.ackTimeouts (i : Nat) : Nat := 0x242802 + 256 * i
/-- RetriesExhausted (0x2428.03, index + i). -/
abbrev Obj.retriesExhausted (i : Nat) : Nat := 0x242803 + 256 * i
/-- RouteChanges (0x2428.04, index + i). -/
abbrev Obj.routeChanges (i : Nat) : Nat := 0x242804 + 256 * i
/-- NoRoute (0x2428.05, index + i). -/
abbrev Obj.noRoute (i : Nat) : Nat := 0x242805 + 256 * i
/-- LinkEntries (0x2428.06, index + i). -/
abbrev Obj.linkEntries (i : Nat) : Nat := 0x242806 + 256 * i
/-- PhaseObservations (0x2428.07, index + i). -/
abbrev Obj.phaseObservations (i : Nat) : Nat := 0x242807 + 256 * i
/-- PhaseRejected (0x2428.08, index + i). -/
abbrev Obj.phaseRejected (i : Nat) : Nat := 0x242808 + 256 * i
/-- PhaseChanges (0x2428.09, index + i). -/
abbrev Obj.phaseChanges (i : Nat) : Nat := 0x242809 + 256 * i
/-- LocketStatus (0x3000.01). -/
abbrev Obj.locketStatus : Nat := 0x300001
/-- KeyUpdateSubmit (0x3000.02). -/
abbrev Obj.keyUpdateSubmit : Nat := 0x300002
/-- KeyUpdateResult (0x3000.03). -/
abbrev Obj.keyUpdateResult : Nat := 0x300003
/-- KeyUpdateCounter (0x3001.01 + i). -/
abbrev Obj.keyUpdateCounter (i : Nat) : Nat := 0x300101 + i
/-- TenantKeyState (0x3002.01 + i). -/
abbrev Obj.tenantKeyState (i : Nat) : Nat := 0x300201 + i
/-- KekSlotInfo (0x3010.01, index + i, subindex + j). -/
abbrev Obj.kekSlotInfo (i j : Nat) : Nat := 0x301001 + 256 * i + j
/-- TenantPublicKey (0x3018.01, index + i, subindex + j). -/
abbrev Obj.tenantPublicKey (i j : Nat) : Nat := 0x301801 + 256 * i + j
/-- RewrapRate (0x3020.01). -/
abbrev Obj.rewrapRate : Nat := 0x302001
/-- RewrapPending (0x3020.02). -/
abbrev Obj.rewrapPending : Nat := 0x302002
/-- RekeyMarkPending (0x3020.03). -/
abbrev Obj.rekeyMarkPending : Nat := 0x302003
/-- ResponseSlotLimit (0x3020.04). -/
abbrev Obj.responseSlotLimit : Nat := 0x302004
/-- AttestRequest (0x3021.01). -/
abbrev Obj.attestRequest : Nat := 0x302101
/-- AttestationCertificate (0x3021.02). -/
abbrev Obj.attestationCertificate : Nat := 0x302102
/-- DeviceIdentityCertificate (0x3021.03). -/
abbrev Obj.deviceIdentityCertificate : Nat := 0x302103
/-- NoBlobRefusals (0x3030.01). -/
abbrev Obj.noBlobRefusals : Nat := 0x303001
/-- NoKekRefusals (0x3030.02). -/
abbrev Obj.noKekRefusals : Nat := 0x303002
/-- StaleBlobRefusals (0x3030.03). -/
abbrev Obj.staleBlobRefusals : Nat := 0x303003
/-- BlobIntegrityFail (0x3030.04). -/
abbrev Obj.blobIntegrityFail : Nat := 0x303004
/-- BlobMismatch (0x3030.05). -/
abbrev Obj.blobMismatch : Nat := 0x303005
/-- UnsupportedSecurity (0x3030.06). -/
abbrev Obj.unsupportedSecurity : Nat := 0x303006
/-- WorkingSlotWaits (0x3030.07). -/
abbrev Obj.workingSlotWaits : Nat := 0x303007
/-- KeyHeldFrames (0x3030.08). -/
abbrev Obj.keyHeldFrames : Nat := 0x303008
/-- EntropyFailures (0x3030.09). -/
abbrev Obj.entropyFailures : Nat := 0x303009
/-- EstimateMethod (0x5000.01 + i). -/
abbrev Obj.estimateMethod (i : Nat) : Nat := 0x500001 + i
/-- MaxEstimateIntervals (0x5001.01 + i). -/
abbrev Obj.maxEstimateIntervals (i : Nat) : Nat := 0x500101 + i
/-- EstimateWaitS (0x5002.01 + i). -/
abbrev Obj.estimateWaitS (i : Nat) : Nat := 0x500201 + i
/-- ProfileWeeks (0x5003.01 + i). -/
abbrev Obj.profileWeeks (i : Nat) : Nat := 0x500301 + i
/-- DeferredDelayS (0x5004.01). -/
abbrev Obj.deferredDelayS : Nat := 0x500401
/-- RuleTable (0x5010.01, index + i, subindex + j). -/
abbrev Obj.ruleTable (i j : Nat) : Nat := 0x501001 + 256 * i + j
/-- ParseMap (0x5018.01, index + i, subindex + j). -/
abbrev Obj.parseMap (i j : Nat) : Nat := 0x501801 + 256 * i + j
/-- StormEnterCount (0x5020.01). -/
abbrev Obj.stormEnterCount : Nat := 0x502001
/-- StormExitCount (0x5020.02). -/
abbrev Obj.stormExitCount : Nat := 0x502002
/-- StormWindowMs (0x5020.03). -/
abbrev Obj.stormWindowMs : Nat := 0x502003
/-- StormKeysActive (0x5020.04). -/
abbrev Obj.stormKeysActive : Nat := 0x502004
/-- ParseUnsupported (0x5030.01 + i). -/
abbrev Obj.parseUnsupported (i : Nat) : Nat := 0x503001 + i
/-- ParseSkipped (0x5031.01 + i). -/
abbrev Obj.parseSkipped (i : Nat) : Nat := 0x503101 + i
/-- DuplicateReadings (0x5032.01 + i). -/
abbrev Obj.duplicateReadings (i : Nat) : Nat := 0x503201 + i
/-- ReadingsRejected (0x5033.01 + i). -/
abbrev Obj.readingsRejected (i : Nat) : Nat := 0x503301 + i
/-- ReadingsEstimated (0x5034.01 + i). -/
abbrev Obj.readingsEstimated (i : Nat) : Nat := 0x503401 + i
/-- ReadingsAmended (0x5035.01 + i). -/
abbrev Obj.readingsAmended (i : Nat) : Nat := 0x503501 + i
/-- DeferredPending (0x5036.01). -/
abbrev Obj.deferredPending : Nat := 0x503601
/-- TenantEnable (0x8000.01). -/
abbrev Obj.tenantEnable : Nat := 0x800001
/-- GuaranteeWindowMs (0x8000.02). -/
abbrev Obj.guaranteeWindowMs : Nat := 0x800002
/-- RatedIngest (0x8000.03). -/
abbrev Obj.ratedIngest : Nat := 0x800003
/-- IngestShareMille (0x8001.01 + i). -/
abbrev Obj.ingestShareMille (i : Nat) : Nat := 0x800101 + i
/-- RegistryShare (0x8002.01 + i). -/
abbrev Obj.registryShare (i : Nat) : Nat := 0x800201 + i
/-- CommandLatencyTargetMs (0x8003.01 + i). -/
abbrev Obj.commandLatencyTargetMs (i : Nat) : Nat := 0x800301 + i
/-- UplinkIntervalS (0x8004.01 + i). -/
abbrev Obj.uplinkIntervalS (i : Nat) : Nat := 0x800401 + i
/-- UplinkTarget (0x8005.01 + i). -/
abbrev Obj.uplinkTarget (i : Nat) : Nat := 0x800501 + i
/-- IngestRefused (0x8010.01 + i). -/
abbrev Obj.ingestRefused (i : Nat) : Nat := 0x801001 + i
/-- ReserveBreaches (0x8011.01 + i). -/
abbrev Obj.reserveBreaches (i : Nat) : Nat := 0x801101 + i
/-- LatencyBreaches (0x8012.01 + i). -/
abbrev Obj.latencyBreaches (i : Nat) : Nat := 0x801201 + i
/-- TariffSetSubmit (0x6000.01). -/
abbrev Obj.tariffSetSubmit : Nat := 0x600001
/-- TariffSetResult (0x6000.02). -/
abbrev Obj.tariffSetResult : Nat := 0x600002
/-- TariffSetCounter (0x6000.03). -/
abbrev Obj.tariffSetCounter : Nat := 0x600003
/-- BillingStepToleranceS (0x6000.04). -/
abbrev Obj.billingStepToleranceS : Nat := 0x600004
/-- ShadowTolerance (0x6000.05). -/
abbrev Obj.shadowTolerance : Nat := 0x600005
/-- CalendarActive (0x6100.01, item n of 128 an index). -/
abbrev Obj.calendarActive (n : Nat) : Nat := 0x610001 + 256 * (n / 128) + n % 128
/-- CalendarPassive (0x6102.01, item n of 128 an index). -/
abbrev Obj.calendarPassive (n : Nat) : Nat := 0x610201 + 256 * (n / 128) + n % 128
/-- CalendarRetired (0x6104.01, item n of 128 an index). -/
abbrev Obj.calendarRetired (n : Nat) : Nat := 0x610401 + 256 * (n / 128) + n % 128
/-- CalendarState (0x6110.01, item n of 128 an index). -/
abbrev Obj.calendarState (n : Nat) : Nat := 0x611001 + 256 * (n / 128) + n % 128
/-- BillingRead (0x6120.01). -/
abbrev Obj.billingRead : Nat := 0x612001
/-- SnapshotRead (0x6120.02). -/
abbrev Obj.snapshotRead : Nat := 0x612002
/-- ReadingsClamped (0x6130.01). -/
abbrev Obj.readingsClamped : Nat := 0x613001
/-- DemandLate (0x6130.02). -/
abbrev Obj.demandLate : Nat := 0x613002
/-- DemandMisaligned (0x6130.03). -/
abbrev Obj.demandMisaligned : Nat := 0x613003
/-- ShadowMismatches (0x6130.04). -/
abbrev Obj.shadowMismatches : Nat := 0x613004
/-- BoundariesReplayed (0x6130.05). -/
abbrev Obj.boundariesReplayed : Nat := 0x613005
/-- DefaultTariffReadings (0x6130.06). -/
abbrev Obj.defaultTariffReadings : Nat := 0x613006
/-- CloseSweepPending (0x6130.07). -/
abbrev Obj.closeSweepPending : Nat := 0x613007
/-- LowCreditThreshold (0x6800.01 + i). -/
abbrev Obj.lowCreditThreshold (i : Nat) : Nat := 0x680001 + i
/-- EmergencyMode (0x6801.01 + i). -/
abbrev Obj.emergencyMode (i : Nat) : Nat := 0x680101 + i
/-- EmergencyLimit (0x6802.01 + i). -/
abbrev Obj.emergencyLimit (i : Nat) : Nat := 0x680201 + i
/-- EmergencyOfferS (0x6803.01 + i). -/
abbrev Obj.emergencyOfferS (i : Nat) : Nat := 0x680301 + i
/-- DisconnectDelayS (0x6804.01 + i). -/
abbrev Obj.disconnectDelayS (i : Nat) : Nat := 0x680401 + i
/-- ReconnectThreshold (0x6805.01 + i). -/
abbrev Obj.reconnectThreshold (i : Nat) : Nat := 0x680501 + i
/-- RecoveryShareDefault (0x6806.01 + i). -/
abbrev Obj.recoveryShareDefault (i : Nat) : Nat := 0x680601 + i
/-- DisconnectExpiryS (0x6807.01 + i). -/
abbrev Obj.disconnectExpiryS (i : Nat) : Nat := 0x680701 + i
/-- TopUp (0x6810.01). -/
abbrev Obj.topUp : Nat := 0x681001
/-- DebtSet (0x6810.02). -/
abbrev Obj.debtSet : Nat := 0x681002
/-- LockOutSet (0x6810.03). -/
abbrev Obj.lockOutSet : Nat := 0x681003
/-- SwitchSubmit (0x6810.04). -/
abbrev Obj.switchSubmit : Nat := 0x681004
/-- EmergencyAccept (0x6810.05). -/
abbrev Obj.emergencyAccept : Nat := 0x681005
/-- PriceCurrent (0x6820.01, item n of 128 an index). -/
abbrev Obj.priceCurrent (n : Nat) : Nat := 0x682001 + 256 * (n / 128) + n % 128
/-- PricePending (0x6822.01, item n of 128 an index). -/
abbrev Obj.pricePending (n : Nat) : Nat := 0x682201 + 256 * (n / 128) + n % 128
/-- PricePrevious (0x6824.01, item n of 128 an index). -/
abbrev Obj.pricePrevious (n : Nat) : Nat := 0x682401 + 256 * (n / 128) + n % 128
/-- TopUpsApplied (0x6830.01). -/
abbrev Obj.topUpsApplied : Nat := 0x683001
/-- TopUpsRefused (0x6830.02). -/
abbrev Obj.topUpsRefused : Nat := 0x683002
/-- DisconnectsRequested (0x6830.03). -/
abbrev Obj.disconnectsRequested : Nat := 0x683003
/-- DisconnectsWithheld (0x6830.04). -/
abbrev Obj.disconnectsWithheld : Nat := 0x683004
/-- ReconnectsLockedOut (0x6830.05). -/
abbrev Obj.reconnectsLockedOut : Nat := 0x683005
/-- SwitchWithdrawn (0x6830.06). -/
abbrev Obj.switchWithdrawn : Nat := 0x683006
/-- PriceHistoryShort (0x6830.07). -/
abbrev Obj.priceHistoryShort : Nat := 0x683007
/-- ScalesEnable (0x7000.01). -/
abbrev Obj.scalesEnable : Nat := 0x700001
/-- BalanceIntervalMin (0x7000.02). -/
abbrev Obj.balanceIntervalMin : Nat := 0x700002
/-- BalanceDelayS (0x7000.03). -/
abbrev Obj.balanceDelayS : Nat := 0x700003
/-- ImbalanceRunMin (0x7000.04). -/
abbrev Obj.imbalanceRunMin : Nat := 0x700004
/-- ScoreAlarm (0x7000.05). -/
abbrev Obj.scoreAlarm : Nat := 0x700005
/-- ScoreDecayPerDay (0x7000.06). -/
abbrev Obj.scoreDecayPerDay : Nat := 0x700006
/-- ImbalancePoints (0x7001.01). -/
abbrev Obj.imbalancePoints : Nat := 0x700101
/-- ReverseFlowPoints (0x7001.02). -/
abbrev Obj.reverseFlowPoints : Nat := 0x700102
/-- TamperPoints (0x7001.03). -/
abbrev Obj.tamperPoints : Nat := 0x700103
/-- PhaseChangePoints (0x7001.04). -/
abbrev Obj.phaseChangePoints : Nat := 0x700104
/-- NodeWrite (0x7010.01). -/
abbrev Obj.nodeWrite : Nat := 0x701001
/-- NodeRead (0x7010.02). -/
abbrev Obj.nodeRead : Nat := 0x701002
/-- ScoreReset (0x7010.03). -/
abbrev Obj.scoreReset : Nat := 0x701003
/-- NodesUsed (0x7011.01). -/
abbrev Obj.nodesUsed : Nat := 0x701101
/-- LossModel (0x7100.01, item n of 128 an index). -/
abbrev Obj.lossModel (n : Nat) : Nat := 0x710001 + 256 * (n / 128) + n % 128
/-- BalancesEvaluated (0x7020.01). -/
abbrev Obj.balancesEvaluated : Nat := 0x702001
/-- BalancesIncomplete (0x7020.02). -/
abbrev Obj.balancesIncomplete : Nat := 0x702002
/-- BalanceLate (0x7020.03). -/
abbrev Obj.balanceLate : Nat := 0x702003
/-- BalanceMisaligned (0x7020.04). -/
abbrev Obj.balanceMisaligned : Nat := 0x702004
/-- BalancesNegative (0x7020.05). -/
abbrev Obj.balancesNegative : Nat := 0x702005
/-- NodeFaults (0x7020.06). -/
abbrev Obj.nodeFaults : Nat := 0x702006
/-- ScoreAlarms (0x7020.07). -/
abbrev Obj.scoreAlarms : Nat := 0x702007
/-- ServoOwner (0x1800.01). -/
abbrev Obj.servoOwner : Nat := 0x180001
/-- SourcePriority (0x1800.02). -/
abbrev Obj.sourcePriority : Nat := 0x180002
/-- StepThresholdNs (0x1800.03). -/
abbrev Obj.stepThresholdNs : Nat := 0x180003
/-- LockThresholdNs (0x1800.04). -/
abbrev Obj.lockThresholdNs : Nat := 0x180004
/-- UnlockThresholdNs (0x1800.05). -/
abbrev Obj.unlockThresholdNs : Nat := 0x180005
/-- LockQualifyS (0x1800.06). -/
abbrev Obj.lockQualifyS : Nat := 0x180006
/-- HoldoverLimitS (0x1800.07). -/
abbrev Obj.holdoverLimitS : Nat := 0x180007
/-- HostHeartbeatMs (0x1800.08). -/
abbrev Obj.hostHeartbeatMs : Nat := 0x180008
/-- TimeSet (0x1800.09). -/
abbrev Obj.timeSet : Nat := 0x180009
/-- PtpDomain (0x1801.01). -/
abbrev Obj.ptpDomain : Nat := 0x180101
/-- PtpProfile (0x1801.02). -/
abbrev Obj.ptpProfile : Nat := 0x180102
/-- PtpTransport (0x1801.03). -/
abbrev Obj.ptpTransport : Nat := 0x180103
/-- PtpPortEnable (0x1801.04). -/
abbrev Obj.ptpPortEnable : Nat := 0x180104
/-- TcEnable (0x1801.05). -/
abbrev Obj.tcEnable : Nat := 0x180105
/-- PpsWindowUs (0x1801.06). -/
abbrev Obj.ppsWindowUs : Nat := 0x180106
/-- DelayAsymmetryNs (0x1802.01 + i). -/
abbrev Obj.delayAsymmetryNs (i : Nat) : Nat := 0x180201 + i
/-- BillingSlewThresholdMs (0x1803.01). -/
abbrev Obj.billingSlewThresholdMs : Nat := 0x180301
/-- BillingSlewPpm (0x1803.02). -/
abbrev Obj.billingSlewPpm : Nat := 0x180302
/-- BillingForwardLimitS (0x1803.03). -/
abbrev Obj.billingForwardLimitS : Nat := 0x180303
/-- TaiUtcOffsetS (0x1803.04). -/
abbrev Obj.taiUtcOffsetS : Nat := 0x180304
/-- LeapSchedule (0x1803.05). -/
abbrev Obj.leapSchedule : Nat := 0x180305
/-- ClockStatus (0x1810.01). -/
abbrev Obj.clockStatus : Nat := 0x181001
/-- SelectedSource (0x1810.02). -/
abbrev Obj.selectedSource : Nat := 0x181002
/-- OffsetNs (0x1810.03). -/
abbrev Obj.offsetNs : Nat := 0x181003
/-- TimeNow (0x1810.04). -/
abbrev Obj.timeNow : Nat := 0x181004
/-- BillingClockNow (0x1810.05). -/
abbrev Obj.billingClockNow : Nat := 0x181005
/-- RtcValid (0x1810.06). -/
abbrev Obj.rtcValid : Nat := 0x181006
/-- StepsApplied (0x1820.01). -/
abbrev Obj.stepsApplied : Nat := 0x182001
/-- StepsRefused (0x1820.02). -/
abbrev Obj.stepsRefused : Nat := 0x182002
/-- BillingSteps (0x1820.03). -/
abbrev Obj.billingSteps : Nat := 0x182003
/-- PpsIgnored (0x1820.04). -/
abbrev Obj.ppsIgnored : Nat := 0x182004
/-- TcCorrected (0x1820.05). -/
abbrev Obj.tcCorrected : Nat := 0x182005
/-- TaiUtcMismatch (0x1820.06). -/
abbrev Obj.taiUtcMismatch : Nat := 0x182006
/-- TsQueueLost (0x1821.01 + i). -/
abbrev Obj.tsQueueLost (i : Nat) : Nat := 0x182101 + i
/-- MidwayEnable (0x2800.01). -/
abbrev Obj.midwayEnable : Nat := 0x280001
/-- PortMode (0x2801.01, index + i). -/
abbrev Obj.portMode (i : Nat) : Nat := 0x280101 + 256 * i
/-- MaxFrameBytes (0x2801.02, index + i). -/
abbrev Obj.maxFrameBytes (i : Nat) : Nat := 0x280102 + 256 * i
/-- MacAddress (0x2801.03, index + i). -/
abbrev Obj.macAddress (i : Nat) : Nat := 0x280103 + 256 * i
/-- RxControl (0x2801.04, index + i). -/
abbrev Obj.rxControl (i : Nat) : Nat := 0x280104 + 256 * i
/-- DefaultQueue (0x2801.05, index + i). -/
abbrev Obj.defaultQueue (i : Nat) : Nat := 0x280105 + 256 * i
/-- PauseControl (0x2801.06, index + i). -/
abbrev Obj.pauseControl (i : Nat) : Nat := 0x280106 + 256 * i
/-- PauseWatchdogMs (0x2801.07, index + i). -/
abbrev Obj.pauseWatchdogMs (i : Nat) : Nat := 0x280107 + 256 * i
/-- PauseXoffBytes (0x2801.08, index + i). -/
abbrev Obj.pauseXoffBytes (i : Nat) : Nat := 0x280108 + 256 * i
/-- PauseXonBytes (0x2801.09, index + i). -/
abbrev Obj.pauseXonBytes (i : Nat) : Nat := 0x280109 + 256 * i
/-- RxStarveWaitUs (0x2801.0A, index + i). -/
abbrev Obj.rxStarveWaitUs (i : Nat) : Nat := 0x28010A + 256 * i
/-- MulticastList (0x2801.0B, index + i). -/
abbrev Obj.multicastList (i : Nat) : Nat := 0x28010B + 256 * i
/-- LinkStatus (0x2801.0C, index + i). -/
abbrev Obj.linkStatus (i : Nat) : Nat := 0x28010C + 256 * i
/-- FilterEntry (0x2810.01, index + i, subindex + j). -/
abbrev Obj.filterEntry (i j : Nat) : Nat := 0x281001 + 256 * i + j
/-- RxFrames (0x2820.01, index + i). -/
abbrev Obj.rxFrames (i : Nat) : Nat := 0x282001 + 256 * i
/-- RxFcsErrors (0x2820.02, index + i). -/
abbrev Obj.rxFcsErrors (i : Nat) : Nat := 0x282002 + 256 * i
/-- RxRunts (0x2820.03, index + i). -/
abbrev Obj.rxRunts (i : Nat) : Nat := 0x282003 + 256 * i
/-- RxTruncated (0x2820.04, index + i). -/
abbrev Obj.rxTruncated (i : Nat) : Nat := 0x282004 + 256 * i
/-- RxStarved (0x2820.05, index + i). -/
abbrev Obj.rxStarved (i : Nat) : Nat := 0x282005 + 256 * i
/-- RxFifoDrops (0x2820.06, index + i). -/
abbrev Obj.rxFifoDrops (i : Nat) : Nat := 0x282006 + 256 * i
/-- RxFiltered (0x2820.07, index + i). -/
abbrev Obj.rxFiltered (i : Nat) : Nat := 0x282007 + 256 * i
/-- RxMacControl (0x2820.08, index + i). -/
abbrev Obj.rxMacControl (i : Nat) : Nat := 0x282008 + 256 * i
/-- TxFrames (0x2820.09, index + i). -/
abbrev Obj.ethTxFrames (i : Nat) : Nat := 0x282009 + 256 * i
/-- TxLinkDownDiscards (0x2820.0A, index + i). -/
abbrev Obj.txLinkDownDiscards (i : Nat) : Nat := 0x28200A + 256 * i
/-- TxOversizeRefused (0x2820.0B, index + i). -/
abbrev Obj.txOversizeRefused (i : Nat) : Nat := 0x28200B + 256 * i
/-- PauseReceived (0x2820.0C, index + i). -/
abbrev Obj.pauseReceived (i : Nat) : Nat := 0x28200C + 256 * i
/-- PauseBroken (0x2820.0D, index + i). -/
abbrev Obj.pauseBroken (i : Nat) : Nat := 0x28200D + 256 * i
/-- LinkDowns (0x2820.0E, index + i). -/
abbrev Obj.linkDowns (i : Nat) : Nat := 0x28200E + 256 * i
/-- HostEnable (0x2C00.01). -/
abbrev Obj.hostEnable : Nat := 0x2C0001
/-- HostLink (0x2C00.02). -/
abbrev Obj.hostLink : Nat := 0x2C0002
/-- MailboxCapEnable (0x2C00.03). -/
abbrev Obj.mailboxCapEnable : Nat := 0x2C0003
/-- MailboxBusyWrites (0x2C10.01). -/
abbrev Obj.mailboxBusyWrites : Nat := 0x2C1001
/-- DmaFaults (0x2C10.02). -/
abbrev Obj.dmaFaults : Nat := 0x2C1002
/-- DoorbellErrors (0x2C10.03). -/
abbrev Obj.doorbellErrors : Nat := 0x2C1003
/-- HostLinkDowns (0x2C10.04). -/
abbrev Obj.hostLinkDowns : Nat := 0x2C1004
/-- MediaState (0x7800.01). -/
abbrev Obj.mediaState : Nat := 0x780001
/-- CasketAlarm (0x7800.02). -/
abbrev Obj.casketAlarm : Nat := 0x780002
/-- AttachedRawMiB (0x7800.03). -/
abbrev Obj.attachedRawMiB : Nat := 0x780003
/-- MountedRawMiB (0x7800.04). -/
abbrev Obj.mountedRawMiB : Nat := 0x780004
/-- SpareBlocks (0x7800.05). -/
abbrev Obj.spareBlocks : Nat := 0x780005
/-- LegalReserveFree (0x7800.06). -/
abbrev Obj.legalReserveFree : Nat := 0x780006
/-- EraseCountSpread (0x7800.07). -/
abbrev Obj.eraseCountSpread : Nat := 0x780007
/-- NandRateMTs (0x7801.01). -/
abbrev Obj.nandRateMTs : Nat := 0x780101
/-- ReadRetryLevels (0x7801.02). -/
abbrev Obj.readRetryLevels : Nat := 0x780102
/-- RefreshBitsPermille (0x7801.03). -/
abbrev Obj.refreshBitsPermille : Nat := 0x780103
/-- GcLowPermille (0x7801.04). -/
abbrev Obj.gcLowPermille : Nat := 0x780104
/-- GcCriticalPermille (0x7801.05). -/
abbrev Obj.gcCriticalPermille : Nat := 0x780105
/-- WearSpreadLimit (0x7801.06). -/
abbrev Obj.wearSpreadLimit : Nat := 0x780106
/-- WearMovesPerHour (0x7801.07). -/
abbrev Obj.wearMovesPerHour : Nat := 0x780107
/-- CheckpointJournalMiB (0x7801.08). -/
abbrev Obj.checkpointJournalMiB : Nat := 0x780108
/-- DiscardMode (0x7801.09). -/
abbrev Obj.discardMode : Nat := 0x780109
/-- ArchiveRetentionDays (0x7801.0A). -/
abbrev Obj.archiveRetentionDays : Nat := 0x78010A
/-- OverprovisionPermille (0x7801.0B). -/
abbrev Obj.overprovisionPermille : Nat := 0x78010B
/-- PartitionSizeMiB (0x7802.01 + i). -/
abbrev Obj.partitionSizeMiB (i : Nat) : Nat := 0x780201 + i
/-- StorageRead (0x7810.01). -/
abbrev Obj.storageRead : Nat := 0x781001
/-- StorageWrite (0x7810.02). -/
abbrev Obj.storageWrite : Nat := 0x781002
/-- StorageDiscard (0x7810.03). -/
abbrev Obj.storageDiscard : Nat := 0x781003
/-- StorageFormat (0x7810.04). -/
abbrev Obj.storageFormat : Nat := 0x781004
/-- BatteryRingRead (0x7810.05). -/
abbrev Obj.batteryRingRead : Nat := 0x781005
/-- BatteryRingAck (0x7810.06). -/
abbrev Obj.batteryRingAck : Nat := 0x781006
/-- Uncorrectable (0x7820.01). -/
abbrev Obj.uncorrectable : Nat := 0x782001
/-- MirrorRepairs (0x7820.02). -/
abbrev Obj.mirrorRepairs : Nat := 0x782002
/-- GrownBadBlocks (0x7820.03). -/
abbrev Obj.grownBadBlocks : Nat := 0x782003
/-- GcVictims (0x7820.04). -/
abbrev Obj.gcVictims : Nat := 0x782004
/-- ReadOnlyRefusals (0x7820.05). -/
abbrev Obj.readOnlyRefusals : Nat := 0x782005
/-- ArchiveEarlyDiscards (0x7820.06). -/
abbrev Obj.archiveEarlyDiscards : Nat := 0x782006
/-- LegalRecordsLost (0x7820.07). -/
abbrev Obj.legalRecordsLost : Nat := 0x782007
/-- LogCapacity (0x7C00.01 + i). -/
abbrev Obj.logCapacity (i : Nat) : Nat := 0x7C0001 + i
/-- RepeatWindowS (0x7C00.05). -/
abbrev Obj.repeatWindowS : Nat := 0x7C0005
/-- FreezeMaxS (0x7C00.06). -/
abbrev Obj.freezeMaxS : Nat := 0x7C0006
/-- LogRead (0x7C01.01). -/
abbrev Obj.logRead : Nat := 0x7C0101
/-- LogBounds (0x7C01.02). -/
abbrev Obj.logBounds : Nat := 0x7C0102
/-- LegalFreeze (0x7C01.03). -/
abbrev Obj.legalFreeze : Nat := 0x7C0103
/-- LegalExport (0x7C01.04). -/
abbrev Obj.legalExport : Nat := 0x7C0104
/-- NextPosition (0x7C10.01 + i). -/
abbrev Obj.nextPosition (i : Nat) : Nat := 0x7C1001 + i
/-- OperatingTimeMs (0x7C10.05). -/
abbrev Obj.operatingTimeMs : Nat := 0x7C1005
/-- PowerCycles (0x7C10.06). -/
abbrev Obj.powerCycles : Nat := 0x7C1006
/-- NextSequence (0x7C10.07). -/
abbrev Obj.nextSequence : Nat := 0x7C1007
/-- RecordsOverwritten (0x7C20.01 + i). -/
abbrev Obj.recordsOverwritten (i : Nat) : Nat := 0x7C2001 + i
/-- RepeatsSaturated (0x7C20.05). -/
abbrev Obj.repeatsSaturated : Nat := 0x7C2005
/-- RecordCrcFail (0x7C20.06). -/
abbrev Obj.recordCrcFail : Nat := 0x7C2006
/-- FreezesBroken (0x7C20.07). -/
abbrev Obj.freezesBroken : Nat := 0x7C2007
/-- BigTopBankOff (0x1410.01). -/
abbrev Obj.bigTopBankOff : Nat := 0x141001
/-- BigTopCorrected (0x1020.01). -/
abbrev Obj.bigTopCorrected : Nat := 0x102001
/-- BigTopUncorrectable (0x1020.02). -/
abbrev Obj.bigTopUncorrectable : Nat := 0x102002
/-- WriteCollisions (0x1020.03). -/
abbrev Obj.writeCollisions : Nat := 0x102003
/-- BankWakes (0x1020.04). -/
abbrev Obj.bankWakes : Nat := 0x102004
/-- BankWakeOnAccess (0x1020.05). -/
abbrev Obj.bankWakeOnAccess : Nat := 0x102005
/-- AddressFaults (0x1020.06). -/
abbrev Obj.addressFaults : Nat := 0x102006
/-- CaravanCorrected (0x1021.01 + i). -/
abbrev Obj.caravanCorrected (i : Nat) : Nat := 0x102101 + i
/-- SeesawDepth (0x1022.01 + i). -/
abbrev Obj.seesawDepth (i : Nat) : Nat := 0x102201 + i
/-- SeesawCorrected (0x1023.01 + i). -/
abbrev Obj.seesawCorrected (i : Nat) : Nat := 0x102301 + i
/-- SeesawPoison (0x1024.01). -/
abbrev Obj.seesawPoison : Nat := 0x102401
/-- SeesawPortErrors (0x1024.02). -/
abbrev Obj.seesawPortErrors : Nat := 0x102402
/-- CapUdpPort (0x1030.01). -/
abbrev Obj.capUdpPort : Nat := 0x103001
/-- CapMaxSessions (0x1030.02). -/
abbrev Obj.capMaxSessions : Nat := 0x103002
/-- CapIdleS (0x1030.03). -/
abbrev Obj.capIdleS : Nat := 0x103003
/-- BulkIdleS (0x1030.04). -/
abbrev Obj.bulkIdleS : Nat := 0x103004
/-- ServicePortMode (0x1030.05). -/
abbrev Obj.servicePortMode : Nat := 0x103005
/-- ServicePortBaud (0x1030.06). -/
abbrev Obj.servicePortBaud : Nat := 0x103006
/-- CatalogueBundleSubmit (0x1031.01). -/
abbrev Obj.catalogueBundleSubmit : Nat := 0x103101
/-- CatalogueBundleCounter (0x1031.02). -/
abbrev Obj.catalogueBundleCounter : Nat := 0x103102
/-- StoreStatus (0x1032.01 + i). -/
abbrev Obj.storeStatus (i : Nat) : Nat := 0x103201 + i
/-- CapRequests (0x1033.01). -/
abbrev Obj.capRequests : Nat := 0x103301
/-- CapErrors (0x1033.02). -/
abbrev Obj.capErrors : Nat := 0x103302
/-- RsFrameErrors (0x1033.03). -/
abbrev Obj.rsFrameErrors : Nat := 0x103303
/-- StoreDefaultsTaken (0x1033.04). -/
abbrev Obj.storeDefaultsTaken : Nat := 0x103304
/-- StoreWrites (0x1033.05). -/
abbrev Obj.storeWrites : Nat := 0x103305
/-- HostCapRole (0x2C00.04). -/
abbrev Obj.hostCapRole : Nat := 0x2C0004
/-- SealState (0x3400.01). -/
abbrev Obj.sealState : Nat := 0x340001
/-- SealCounter (0x3400.02). -/
abbrev Obj.sealCounter : Nat := 0x340002
/-- SealSubmit (0x3400.03). -/
abbrev Obj.sealSubmit : Nat := 0x340003
/-- SealContainerCounter (0x3400.04). -/
abbrev Obj.sealContainerCounter : Nat := 0x340004
/-- UnsealMaxS (0x3400.05). -/
abbrev Obj.unsealMaxS : Nat := 0x340005
/-- TrustAnchorSubmit (0x3401.01). -/
abbrev Obj.trustAnchorSubmit : Nat := 0x340101
/-- TrustAnchorCounter (0x3401.02). -/
abbrev Obj.trustAnchorCounter : Nat := 0x340102
/-- TrustAnchorList (0x3403.01 + i). -/
abbrev Obj.trustAnchorList (i : Nat) : Nat := 0x340301 + i
/-- FirmwareSubmit (0x3402.01). -/
abbrev Obj.firmwareSubmit : Nat := 0x340201
/-- FirmwareEpochCommit (0x3402.02). -/
abbrev Obj.firmwareEpochCommit : Nat := 0x340202
/-- FirmwareEpoch (0x3402.03). -/
abbrev Obj.firmwareEpoch : Nat := 0x340203
/-- FirmwareStatus (0x3402.04). -/
abbrev Obj.firmwareStatus : Nat := 0x340204
/-- TamperEnable (0x3410.01). -/
abbrev Obj.tamperEnable : Nat := 0x341001
/-- TamperResponse (0x3411.01 + i). -/
abbrev Obj.tamperResponse (i : Nat) : Nat := 0x341101 + i
/-- TamperSourceState (0x3412.01 + i). -/
abbrev Obj.tamperSourceState (i : Nat) : Nat := 0x341201 + i
/-- ClaspAlarm (0x3413.01). -/
abbrev Obj.claspAlarm : Nat := 0x341301
/-- ClaspAlarmClear (0x3413.02). -/
abbrev Obj.claspAlarmClear : Nat := 0x341302
/-- ClaspStuck (0x3413.03). -/
abbrev Obj.claspStuck : Nat := 0x341303
/-- FilterSamples (0x3414.01 + i). -/
abbrev Obj.filterSamples (i : Nat) : Nat := 0x341401 + i
/-- GateState (0x9000.01). -/
abbrev Obj.gateState : Nat := 0x900001
/-- GateCloseCause (0x9000.02). -/
abbrev Obj.gateCloseCause : Nat := 0x900002
/-- GateReopen (0x9000.03). -/
abbrev Obj.gateReopen : Nat := 0x900003
/-- GateProofTest (0x9000.04). -/
abbrev Obj.gateProofTest : Nat := 0x900004
/-- RingmasterTestHour (0x9000.05). -/
abbrev Obj.ringmasterTestHour : Nat := 0x900005
/-- ShedCascade (0x9001.01). -/
abbrev Obj.shedCascade : Nat := 0x900101
/-- ShedPlan (0x9002.01 + i). -/
abbrev Obj.shedPlan (i : Nat) : Nat := 0x900201 + i
/-- GateReleased (0x9010.01). -/
abbrev Obj.gateReleased : Nat := 0x901001
/-- GateRefusedExpired (0x9010.02). -/
abbrev Obj.gateRefusedExpired : Nat := 0x901002
/-- DangerousDetected (0x9010.03). -/
abbrev Obj.dangerousDetected : Nat := 0x901003
/-- ShedFanouts (0x9010.04). -/
abbrev Obj.shedFanouts : Nat := 0x901004
/-- ShedFanoutMaxUs (0x9010.05). -/
abbrev Obj.shedFanoutMaxUs : Nat := 0x901005
/-- EngineFaults (0x9010.06). -/
abbrev Obj.engineFaults : Nat := 0x901006
/-- DdrTrainingCache (0x1040.01). -/
abbrev Obj.ddrTrainingCache : Nat := 0x104001
/-- PowerState (0x1420.01). -/
abbrev Obj.powerState : Nat := 0x142001
/-- PowerStateSet (0x1420.02). -/
abbrev Obj.powerStateSet : Nat := 0x142002
/-- WakeAlarm (0x1420.03). -/
abbrev Obj.wakeAlarm : Nat := 0x142003
/-- FaultRestartLimit (0x1420.04). -/
abbrev Obj.faultRestartLimit : Nat := 0x142004
/-- ShutdownClass (0x1420.05). -/
abbrev Obj.shutdownClass : Nat := 0x142005
/-- LastGaspEnable (0x1421.01). -/
abbrev Obj.lastGaspEnable : Nat := 0x142101
/-- UncleanShutdowns (0x1430.01). -/
abbrev Obj.uncleanShutdowns : Nat := 0x143001
/-- FaultRestarts (0x1430.02). -/
abbrev Obj.faultRestarts : Nat := 0x143002
/-- ReplayedFrames (0x1430.03). -/
abbrev Obj.replayedFrames : Nat := 0x143003
/-- ReplayLost (0x1430.04). -/
abbrev Obj.replayLost : Nat := 0x143004
/-- StartTimeMs (0x1430.05). -/
abbrev Obj.startTimeMs : Nat := 0x143005
/-- JunctionTempDeciC (0x1400.01). -/
abbrev Obj.junctionTempDeciC : Nat := 0x140001
/-- GovernorTripDeciC (0x1400.02). -/
abbrev Obj.governorTripDeciC : Nat := 0x140002
/-- GovernorHystDeciC (0x1400.03). -/
abbrev Obj.governorHystDeciC : Nat := 0x140003
/-- GovernorStepS (0x1400.04). -/
abbrev Obj.governorStepS : Nat := 0x140004
/-- GovernorFloorMHz (0x1400.05). -/
abbrev Obj.governorFloorMHz : Nat := 0x140005
/-- GovernorSteps (0x1400.06). -/
abbrev Obj.governorSteps : Nat := 0x140006
/-- EngineClockMHz (0x1400.07). -/
abbrev Obj.engineClockMHz : Nat := 0x140007
/-- ThermalAlarm (0x1400.08). -/
abbrev Obj.thermalAlarm : Nat := 0x140008
/-- GovernorEvents (0x1400.09). -/
abbrev Obj.governorEvents : Nat := 0x140009
/-- VddSetpointMv (0x1401.01). -/
abbrev Obj.vddSetpointMv : Nat := 0x140101
/-- PatinaCeilingMHz (0x1401.02). -/
abbrev Obj.patinaCeilingMHz : Nat := 0x140102
/-- MarginTargetPermille (0x1401.03). -/
abbrev Obj.marginTargetPermille : Nat := 0x140103
/-- MarginGuardPermille (0x1401.04). -/
abbrev Obj.marginGuardPermille : Nat := 0x140104
/-- WorstMarginPermille (0x1401.05). -/
abbrev Obj.worstMarginPermille : Nat := 0x140105
/-- WorstMonitor (0x1401.06). -/
abbrev Obj.worstMonitor : Nat := 0x140106
/-- ProjectedLifeH (0x1401.07). -/
abbrev Obj.projectedLifeH : Nat := 0x140107
/-- EndOfLife (0x1401.08). -/
abbrev Obj.endOfLife : Nat := 0x140108
/-- PatinaMeasure (0x1401.09). -/
abbrev Obj.patinaMeasure : Nat := 0x140109
/-- PatinaRecalibrate (0x1401.0A). -/
abbrev Obj.patinaRecalibrate : Nat := 0x14010A
/-- MonitorMarginPermille (0x1402.01 + i). -/
abbrev Obj.monitorMarginPermille (i : Nat) : Nat := 0x140201 + i
/-- BistStart (0xA000.01). -/
abbrev Obj.bistStart : Nat := 0xA00001
/-- BistResult (0xA000.02). -/
abbrev Obj.bistResult : Nat := 0xA00002
/-- BistFailures (0xA000.03). -/
abbrev Obj.bistFailures : Nat := 0xA00003
/-- EnginesRetired (0xA000.04). -/
abbrev Obj.enginesRetired : Nat := 0xA00004

end Sys2Proof.Machine
end

