-- ==== Sys2Proof/Machine/Metering.lean ====
section
/-! DEFINITION. The parts of the state that hold endpoints and their readings: registry, billing, prepayment, balances,
validation, tenants, storms, the frames on the path, the cascade. Plain data throughout. -/

namespace Sys2Proof.Machine

/-- An entry of HeardCells (R47); an unused entry is not listed. -/
structure Heard where
  cell : Nat
  quality : Nat
  frames : Nat
deriving DecidableEq, Repr

/-- EventSummary (R327). -/
structure Summary where
  outages : Nat
  restorations : Nat
  lastOutage : Nat
  lastRestoration : Nat
  alarms : Nat
  lastAlarmCode : Nat
  lastAlarm : Nat
  flags : Nat
deriving DecidableEq, Repr

/-- A registry record (R40), by its fields; `removedAt` is the removal time it keeps after R50, `slot` its place (R41, R470),
`scoreArmed` whether the score alarm is armed (R243), `bad` whether its stored copy fails RecordCrc, `counted` whether an ingest commit has set UplinkCounter (R30). -/
structure Record where
  tag : Nat
  state : Nat
  ntype : Nat
  cell : Nat
  tenant : Nat
  naddr : Nat
  flags : Nat
  billingHome : Nat
  kekGen : Nat
  blob : Option Nat
  upCounter : Nat
  lastHeard : Nat
  lastCell : Nat
  lastQuality : Nat
  heard : List Heard
  calendar : Nat
  phase : Nat
  node : Nat
  score : Nat
  chanMask : Nat
  chanConfig : List Nat
  tamperCount : Nat
  tamperFirst : Nat
  tamperLast : Nat
  tamperCode : Nat
  summary : Summary
  admittedAt : Nat
  moves : Nat
  serving : Nat
  bucket : Nat
  downPending : Nat
  downCounter : Nat
  prevTag : Nat
  removedAt : Nat
  slot : Nat
  scoreArmed : Bool
  bad : Bool
  counted : Bool
deriving DecidableEq, Repr

/-- An entry of the hash table (R42): its bucket, type (1 to 4 native address, 0xF tag, 0xE deleted), signature and
record slot. -/
structure HashEntry where
  bucket : Nat
  typ : Nat
  sig : Nat
  slot : Nat
deriving DecidableEq, Repr

/-- The Turnstile area (R220). -/
structure Turn where
  credit : Int
  granted : Int
  debt : Int
  topUpCounter : Nat
  lastTopUp : Nat
  since : Nat
  state : Nat
  flags : Nat
  share : Nat
  spend : Int
  switchSeq : Nat
  lastAmount : Int
  remainder : Nat
deriving DecidableEq, Repr

/-- The billing state of an endpoint (R205). `energy`: 32 registers, channel-major; `demand`: (MaxDemand, MaxAtMinutes) per
rate; `ring`: energies of twelve sub-intervals, newest first. -/
structure Bill where
  tag : Nat
  calendar : Nat
  rate : Nat
  flags : Nat
  period : Nat
  lastBoundary : Nat
  energy : List Int
  demand : List (Int × Nat)
  ringBase : Nat
  ring : List Int
  ringOff : Nat
  ringNoDemand : Nat
  seed : Nat
  turn : Turn
deriving DecidableEq, Repr

/-- A billing snapshot (R213): the period closed, its bounds, and the state at its close. -/
structure Shot where
  bill : Bill
  start : Nat
  fin : Nat
deriving DecidableEq, Repr

/-- A boundary commit of a calendar (R209): its instant, whether a sub-interval ends at it, whether the period closes
at it, whether it is local midnight, and the rate from it; `off`: replayed after power-off; `noDemand`: its sub-interval overlaps an
invalid span. -/
structure Boundary where
  at_ : Nat
  demand : Bool
  closed : Bool
  midnight : Bool
  off : Bool
  noDemand : Bool
  rate : Nat
deriving DecidableEq, Repr

/-- What Booth keeps for a calendar (R209, R212, R214, R222): the watermark W, the period number and its start, the last
boundary processed, the commits not yet applied to every endpoint (oldest first), the endpoints still to sweep, with the
close instant, the start of the period it closes and the count swept, the instant and clock status at which the close was processed,
and an active image written while unsealed with the instant it takes effect (R201). -/
structure CalState where
  w : Nat
  period : Nat
  periodStart : Nat
  last : Nat
  commits : List Boundary
  sweep : List Nat
  sweepAt : Nat
  sweepFrom : Nat
  swept : Nat
  closedAt : Nat
  closedIn : Nat
  activate : Option Nat
  written : Nat
deriving DecidableEq, Repr

/-- A reading record (R175). -/
structure Reading where
  key : Nat
  time : Nat
  interval : Nat
  status : Nat
  rule : Nat
  tenant : Nat
  origin : Nat
  value : Int
  delta : Int
deriving DecidableEq, Repr

/-- How Booth booked a reading (R195, R204, R214, R217): its billing channel, the start of its consumption, the rate, whether
it was clamped and whether it was billed under DefaultRate. -/
structure Booked where
  key : Nat
  time : Nat
  interval : Nat
  start : Nat
  rate : Nat
  delta : Int
  bch : Nat
  clamped : Bool
  dflt : Bool
deriving DecidableEq, Repr

/-- A topology node (R235) with its run length and last balance (R240, R241). -/
structure Node where
  parent : Nat
  kind : Nat
  tenant : Nat
  flags : Nat
  minWh : Nat
  permille : Nat
  name : Nat
  run : Nat
  last : Nat
  lastEnd : Nat
  faulted : Bool
  touched : List Nat
deriving DecidableEq, Repr

/-- An endpoint's energy in a balance interval (R237): net import in mWh per channel, the minutes covered by each channel, and
whether it holds estimated, rejected or power-off readings. -/
structure NodeEnergy where
  tag : Nat
  fin : Nat
  imp : Int
  exp_ : Int
  impMin : Nat
  expMin : Nat
  estimated : Bool
  rejected : Bool
  off : Bool
deriving DecidableEq, Repr

/-- A deferred work item (R179, R182): rule 64 is gap estimation, 65 the profile-forward fill, and `by_` the rule that started them. -/
structure Deferred where
  tag : Nat
  channel : Nat
  rule : Nat
  fin : Nat
  due : Nat
  by_ : Nat
deriving DecidableEq, Repr

/-- The notifications of one kind of a storm key in one window `k`, by tenant (R189, R191): how many in all and since the last
summary, the offsets of the first and last in ms, the endpoints that changed, and whether a summary of the window went out. -/
structure StormWin where
  k : Nat
  kind : Nat
  tenant : Nat
  total : Nat
  count : Nat
  first : Nat
  last : Nat
  changed : Nat
  summed : Bool
deriving DecidableEq, Repr

/-- A storm key (R189): serving concentrator and cell, which kinds are in storm mode, its windows, the endpoints counted as
changed in the storm, and (endpoint, kind, window) of notifications seen. -/
structure StormKey where
  serving : Nat
  cell : Nat
  outage : Bool
  restoration : Bool
  wins : List StormWin
  changed : List (Nat × Nat)
  seen : List (Nat × Nat × Nat)
deriving DecidableEq, Repr

/-- Admission of a tenant in a window (R186): original reservation, reservation, frames taken under it, spare frames taken, frames
offered. -/
structure Admit where
  orig : Nat
  res : Nat
  used : Nat
  best : Nat
  offered : Nat
deriving DecidableEq, Repr

/-- The guarantee window (R186): its start, its capacity, what was taken by levels 1 and 2, the spare, the spent, and the
clock in force at its start. -/
structure Window where
  started : Bool
  start : Nat
  ms : Nat
  cap : Nat
  taken1 : Nat
  taken2 : Nat
  mhz : Nat
  spare : Nat
  spent : Nat
  tenants : List Admit
  breached : List (Nat × Nat)
deriving DecidableEq, Repr

/-- An event that step 5 found in a frame (R173, R189, R327), to be committed with its result. -/
structure FrameEvent where
  kind : Nat
  code : Nat
  aux : Nat
  storm : Bool
deriving DecidableEq, Repr

/-- A record of an uplink batch: RecordType, RecordLength and the record as one little-endian number (R291). -/
structure UpRec where
  ty : Nat
  len : Nat
  data : Nat
deriving DecidableEq, Repr

/-- A frame on the path of a reading (R22). `stage`: the step completed, 1 to 9, or 11 where only its response remains; `forwarded`: type-1 cascade message of
a subordinate, by its number, with its sequence; `resp`: a fast-path response is due; `retx`: a
candidate retransmission (R30); `desc` its descriptor of R71 as one little-endian number; `stageSeen` the StageSequence
reached when its lookup started (R94); `ups` the uplink records of its result commit, placed at step 10: tenant, record,
journal sequence; `down`: the DownlinkCounter that its response advanced, 0 for none, which its result commit commits (R92);
`missed`: its response was missed (R90); `journal` its ingest-journal sequence; `bill` and `status` the billing time and clock
status of its stamp (R264). -/
structure Frame where
  id : Nat
  stage : Nat
  cell : Nat
  quality : Nat
  native : Native
  tag : Nat
  tenant : Nat
  counter : Nat
  suite : Nat
  ackReq : Bool
  syncNs : Nat
  endNs : Nat
  length : Nat
  bytes : Nat
  mode : Nat
  channel : Nat
  forwarded : Option (Nat × Nat)
  resp : Bool
  retx : Bool
  missed : Bool
  journal : Nat
  bill : Nat
  status : Nat
  storm : Bool
  readings : List Reading
  compare : List (Nat × Nat × Int × Nat)
  events : List FrameEvent
  rejectedRules : List Nat
  books : List Booked
  replay : Bool
  inPlc : Bool
  port : Nat
  centreHz : Nat
  rxPass : Nat
  desc : Nat
  stageSeen : Nat
  ups : List (Nat × UpRec × Nat)
  item : Line
  ask : Line
  down : Nat
deriving DecidableEq, Repr

/-- An entry of the ingest journal (R27, R28, R156): the frame as received with its sequence, stamps, billing time and
status; `held`: key-held. -/
structure Ingest where
  seq : Nat
  frame : Frame
  held : Bool
  programmed : Bool
deriving DecidableEq, Repr

/-- A cascade message queued towards another concentrator (R52): its type, flags, sender, target, sequence, tag, frame stamp in
ns, cell, quality, payload length and payload. -/
structure CascadeMsg where
  typ : Nat
  flags : Nat
  source : Nat
  target : Nat
  seq : Nat
  tag : Nat
  time : Nat
  cell : Nat
  quality : Nat
  length : Nat
  payload : Nat
deriving DecidableEq, Repr

/-- An entry of the forwarding journal (R33, R54, R55): its ingest-commit sequence, the bytes it takes, and its type-1
message. -/
structure Forward where
  seq : Nat
  size : Nat
  msg : CascadeMsg
deriving DecidableEq, Repr

/-- A cascade session (R51, R54): up, the serial and number of its peer, and the lowest sequence of the frames it brought that left the
path without a commit since the session began. -/
structure Cascade where
  up : Bool
  serial : Nat
  number : Nat
  failed : Option Nat
deriving DecidableEq, Repr

/-- What a regional part has committed of a subordinate's frames (R54): the sequence confirmed, and those above it committed. -/
structure Brought where
  confirmed : Nat
  done : List Nat
deriving DecidableEq, Repr

/-- A staged downlink item (R93): the 128-byte item's fields; `held`: a modulator holds it (R95); `request` the
switching request that it carries (R405). -/
structure Item where
  seq : Nat
  tag : Nat
  cls : Nat
  prio : Nat
  length : Nat
  notBefore : Nat
  expiry : Nat
  sends : Nat
  flags : Nat
  payload : Nat
  held : Bool
  request : Option SwitchReq
deriving DecidableEq, Repr

end Sys2Proof.Machine
end

