-- ==== Sys2Proof/Machine/Radio.lean ====
section
/-! DEFINITION. The parts of the state of the receivers and transmitters: IQ ports, demodulators and collision groups,
modulators, responses, broadcasts and campaigns, power-line lanes with their tables. Plain data throughout. -/

namespace Sys2Proof.Machine

/-- What an IQ port keeps beside IqPortStatus (R59, R60): since when it trains, since when it sends the training pattern, and
whether its clock is present. -/
structure IqPort where
  trainAt : Nat
  patternAt : Nat
  clock : Bool
deriving DecidableEq, Repr

/-- A snippet (R78): its bytes, and whether it has moved to the spill region. -/
structure Snip where
  bytes : Nat
  spilled : Bool
deriving DecidableEq, Repr

/-- An assigned demodulator (R66 to R69, R78). `hz` the centre of its channel (R63); `reserved`: taken from its port's reservation;
`group`: its collision group, 0 none; `phase`: 0 on air, 1 ended and decoded, 2 ended and not decoded; `snip`: its snippet, none
where the frame is demodulated live only (R79, R80); `done`: subtracted in its group (R81). -/
structure Demod where
  id : Nat
  det : Det
  hz : Nat
  at_ : Nat
  reserved : Bool
  group : Nat
  clipped : Bool
  phase : Nat
  snip : Option Snip
  done : Bool
deriving DecidableEq, Repr

/-- A collision group (R80, R81): its channel, its members in order of detection, whether it is closed, and its passes. -/
structure Group where
  id : Nat
  port : Nat
  grid : Nat
  channel : Nat
  members : List Nat
  closed : Bool
  passes : Nat
deriving DecidableEq, Repr

/-- Carousel (R56 to R85). -/
structure Carousel where
  ports : List IqPort
  demods : List Demod
  groups : List Group
  nextDemod : Nat
  nextGroup : Nat
deriving DecidableEq, Repr

/-- A response of the fast path or to a Pendant frame (R89 to R98): `items` the StageSequences it carries, `mode` its downlink
mode, `counter` the DownlinkCounter that secures it, `airUs` its air time and `widthHz` the width it occupies; `listened`: its
channel was found clear (R97). -/
structure Response where
  frame : Nat
  tag : Nat
  port : Nat
  pendant : Bool
  centreHz : Nat
  mode : Nat
  launch : Nat
  items : List Nat
  counter : Nat
  handed : Bool
  airUs : Nat
  widthHz : Nat
  listened : Bool
deriving DecidableEq, Repr

/-- A broadcast transmission that listens or waits (R88, R97, R100): its plan entry, its length and width, the alternate frequency it
uses (0 the entry's own), and the TAI second at which its window ends, none for a load shed, which has none (R402). -/
structure Cast where
  entry : Nat
  airUs : Nat
  widthHz : Nat
  alt : Nat
  fin : Option Nat
deriving DecidableEq, Repr

/-- What a modulator sends (R86, R98, R101 to R103, R402): a response under its DownlinkCounter; the TAI in ns of the first bit after the
sync word with UTC offset and DST rule (12 bytes of a calendar); a calendar image; the announcement of a campaign with its
ImageHash; a block of one, with its number and data; a load shed. -/
inductive OnAir where
  | response (pendant : Bool) (counter : Nat)
  | time (tai rule : Nat)
  | tariff (image : Nat)
  | announce (campaign hash : Nat)
  | block (campaign number data : Nat)
  | shed
deriving DecidableEq, Repr

/-- A broadcast's listen (R97): since when, and how long with its random addition, in ns. -/
structure Listen where
  cast : Cast
  since : Nat
  span : Nat
deriving DecidableEq, Repr

/-- A modulator (R86): what is on air, and the listen in progress. -/
structure Modulator where
  sending : Option OnAir
  listen : Option Listen
deriving DecidableEq, Repr

/-- A firmware campaign (R102, R103): its image as one little-endian number; `announced`: its announcement was sent; `next` the next
block, `missing` blocks to resend, `addressed` its endpoints and `complete` those that reported complete. -/
structure Campaign where
  header : CampaignArg
  image : Nat
  announced : Bool
  state : Nat
  sent : Nat
  resends : Nat
  next : Nat
  missing : List Nat
  addressed : List Nat
  complete : List Nat
  changed : Nat
deriving DecidableEq, Repr

/-- Radio downlink (R86 to R104). `duty` is keyed by port × 16 + sub-band: 60 one-minute buckets, newest first (R96); `ackDue`
the endpoints whose acknowledgement waits for the next downlink opportunity (R90); `castCounters` the broadcast counter of
each tenant and cell, by tenant × 16 + cell (R165); `repeats` by plan entry the start of its last window in TAI seconds and the
transmissions that fell due in it (R100). -/
structure Downlink where
  mods : List Modulator
  responses : List Response
  waiting : List Cast
  duty : Tab (List Nat)
  campaigns : Tab Campaign
  ackDue : List Nat
  castCounters : Tab Nat
  repeats : Tab (Nat × Nat)
deriving DecidableEq, Repr

/-- A directed link (R138): its quality, the TAI second of its last refresh, and the one up to which it has aged. -/
structure Link where
  src : Nat
  dst : Nat
  q : Nat
  at_ : Nat
  aged : Nat
deriving DecidableEq, Repr

/-- A LOADng route (R137): least recently used first in its table. -/
structure MeshRoute where
  dest : Nat
  next : Nat
  cost : Nat
deriving DecidableEq, Repr

/-- A frame of the part queued on a lane (R132 to R139). `penalties` its route penalties (from, to, sum); `route` the route of
its last attempt; `force` the modulation a degraded retry prescribes (R126): 0 BPSK, 1 QPSK for Chain, else as R127
codes a standard mode; `degraded`: its next attempt is a degraded retry; `atten` the attenuation of its next attempt. What its
last attempt sent: `direct` without a route block (R140); `startSlot` of R120; `header` its Chain header (R113), `mpdu` its bytes, `crc`
the CRC-32C of its information field (R116); `spans` when its samples began and ended, burst by burst; `endNs` its EndStamp, none for a
standard frame, whose length its standard gives. -/
structure PlcOut where
  t : PlcTx
  retries : Nat
  penalties : List (Nat × Nat × Nat)
  route : Option (List Nat)
  modulation : Nat
  force : Option Nat
  degraded : Bool
  atten : Nat
  direct : Bool
  startSlot : Nat
  header : Nat
  mpdu : List Nat
  crc : Nat
  spans : List (Nat × Nat)
  endNs : Option Nat
deriving DecidableEq, Repr

/-- Zero-crossing tracking of a lane (R122): the last accepted edge, the last 16 half-periods newest first, edges filled in
a row, whether it is locked, the last rising edge (R141), and the short stamp of the last edge (R21). -/
structure Zc where
  last : Nat
  halves : List Nat
  filled : Nat
  locked : Bool
  rise : Nat
  stamp : Nat
deriving DecidableEq, Repr

/-- The settings of a lane that a change replaces at the next half-cycle (R128). -/
structure LaneCfg where
  profile : Nat
  standard : Nat
  chain : Bool
  mask : Nat
deriving DecidableEq, Repr

/-- The timing objects of R143, which a write replaces at the next idle instant. -/
structure LaneTiming where
  slotUs : Nat
  ifsUs : Nat
  p0 : Nat
  p1 : Nat
  p2 : Nat
  ackGapUs : Nat
deriving DecidableEq, Repr

/-- A Chain unicast frame whose acknowledgement is awaited (R135); `seen`: a preamble that may be its acknowledgement's was detected in
time. -/
structure Await where
  o : PlcOut
  seen : Bool
deriving DecidableEq, Repr

/-- A power-line lane (R105 to R143). `held` and `timing`: the settings and timing in force while a change waits (R128, R143).
`bound`: 0 no frame, 1 standard, 2 Chain preamble, 3 Chain bursts; of the Chain frame it is bound to: `header` its word, `syncNs` its
sync instant, `bursts` announced ones that have passed, `missed` those in a row without pilots (R121), `soft` the soft values of its
symbols, `erased` carrier-symbols erased (R124). `window`: the last 256 samples received that were not blanked, newest first
(R124). `virtual`: when the virtual busy time ends (R130); `power`: busy by power; `idleAt` the idle instant; `drawn` when the slot starts
that the contending frame drew (R131); `onAir` the frame being sent, `tail` until when the driver stays enabled after the last one, and
`sent` when samples were sent (R107, R123); `awaiting` the Chain frames whose acknowledgement is awaited; `ackFor` CRC bits, priority and
instant of the acknowledgement due (R134); `hold`: thermal holdoff, with the instant the flag was released; `noise` in
1/65,536 µV² per slot; `frozen`: R122; `toneMaps` by short address map and modulation (R111); `joined` by endpoint its short address
(R137). -/
structure Lane where
  held : Option LaneCfg
  timing : Option LaneTiming
  bound : Nat
  header : Option Nat
  syncNs : Nat
  bursts : Nat
  missed : Nat
  soft : List (List Int)
  erased : Nat
  window : List Int
  virtual : Option Nat
  power : Bool
  idleAt : Nat
  queue : List PlcOut
  contending : Option PlcOut
  drawn : Option Nat
  onAir : Option PlcOut
  tail : Nat
  sent : List (Nat × Nat)
  awaiting : List Await
  ackFor : Option (Nat × Nat × Nat)
  hold : Option (Option Nat)
  zc : Zc
  noise : List Nat
  frozen : Bool
  gain : Nat
  links : List Link
  routes : List MeshRoute
  toneMaps : Tab (Nat × Nat)
  joined : Tab Nat
deriving DecidableEq, Repr

end Sys2Proof.Machine
end

