-- ==== Sys2Proof/Machine/State.lean ====
section
/-! DEFINITION. The state of the part, the reasons a command can stop (none does), and the state at reset. -/

namespace Sys2Proof.Machine

/-- A CAP command ordered like a frame of each endpoint it names (R25, R159) that waits for the frames before it: its request, its
session as it was, the endpoints, the command, and the last ingest-journal sequence before it. -/
structure Parked where
  req : CapReq
  ses : Session
  tags : List Nat
  journal : Nat
  cmd : Instr
deriving DecidableEq, Repr

/-- An uplink batch of a tenant (R194, R291): its records, newest first. -/
structure Batch where
  tenant : Nat
  seq : Nat
  recs : List UpRec
  bytes : Nat
  journal : Nat
  sent : Bool
  redelivered : Bool
deriving DecidableEq, Repr

/-- What NAND and the protected write buffer hold (R301, R423): the logs and the hold buffer, the sealed partition, uplink
batches, the user store; the registry by tag with its hash table, blobs by slot, billing states by tag, snapshots by tag × 2^32 +
period, calendars, invalid spans newest first, stored readings and how each was booked, topology nodes and balances,
deferred work, the ingest and forwarding journals, what is committed of each subordinate's frames, withheld requests, staged items; the series of RequestSequence,
StageSequence and the ingest journal; the balance interval in force, the one before it and the second it took effect; the last TAI day processed. -/
structure Nand where
  logs : List EvLog
  hold : List EvRec
  sealedVals : Tab Int
  anchors : List Anchor
  legalSlots : List (Option Nat)
  user : Tab Nat
  open_ : List Batch
  retained : List Batch
  recs : Tab Record
  hash : List HashEntry
  blobs : Tab Nat
  keyUp : Option KeyCommit
  bills : Tab Bill
  shots : Tab Shot
  cals : Tab CalState
  spans : List (Nat × Option Nat)
  archive : List Reading
  booked : List Booked
  nodes : Tab Node
  energies : List NodeEnergy
  deferred : List Deferred
  ingest : List Ingest
  forward : List Forward
  brought : Tab Brought
  withheld : List SwitchReq
  items : List Item
  requestSeq : Nat
  stageSeq : Nat
  ingestSeq : Nat
  balanceMin : Nat
  balanceOld : Nat
  balanceFrom : Nat
  day : Nat
deriving DecidableEq, Repr

/-- The state of the part. `pending` holds the commands that wait, first in first out; `free` counts the free values drawn (the
model's own field); `cat` the catalogue objects that are not at their defaults; `inForce` the objects whose written
value waits for the next start, with the value that runs; `unknown` the ring of R44 (address, cell, quality, stamp in ns),
newest first; `relayed` by tag the sender, cell and quality of the last forwarded copy discarded under R26; `cascadeOut`, `cascadeIn` the cascade messages sent, and the downward commands received; `parked` the commands that wait for a frame of their endpoint (R25); `upHold` the uplink records of a
result commit while it is made; `votes` the phase votes of an endpoint (R142): phase and how many agree; `nandProg` what NAND holds of
`nand` once the buffer is lost. -/
structure State where
  pending : List Instr
  free : Nat
  cat : Tab Int
  inForce : Tab Int
  stores : List PStore
  time : Calliope
  bat : Battery
  pins : Pins
  pw : Power
  hif : HostIf
  ports : List Port
  sessions : Tab Session
  cask : Casket
  mem : Memory
  fw : Firmware
  hall : Hallmark
  gate : Gate
  pat : Patina
  loc : Locket
  freeze : Option Freeze
  frames : List Frame
  nextFrame : Nat
  win : Window
  storms : List StormKey
  unknown : List (Native × Nat × Nat × Nat)
  relayed : Tab (Nat × Nat × Nat)
  cascades : Tab Cascade
  cascadeOut : List CascadeMsg
  cascadeIn : List CascadeMsg
  car : Carousel
  dl : Downlink
  lanes : List Lane
  votes : Tab (Nat × Nat)
  parked : List Parked
  upHold : Option (List (Nat × UpRec × Nat))
  nand : Nand
  nandProg : Nand
deriving DecidableEq, Repr

/-- Reasons a command stops with a fault: none, every command of the part has an effect. -/
inductive Fault where
deriving DecidableEq, Repr

/-- Reasons a command is refused by the model. -/
inductive Refusal where
  /-- A command without a meaning yet, by its mnemonic; raised by Machine/Dispatch.lean alone. Safe: nothing is claimed of
  such a command. -/
  | notModelled (mnemonic : String)
deriving DecidableEq, Repr

/-- An erased log. -/
def EvLog.blank : EvLog := { recs := [], next := 0, isOpen := false }

/-- A blank bank of a paired store (R369). -/
def Bank.blank : Bank := { state := 0, seq := 0, entries := [] }

/-- A paired store on blank NOR (R369): its defaults in force. -/
def PStore.blank : PStore := { a := .blank, b := .blank, force := 2, prog := [], tries := 0, gathered := [] }

/-- Calliope at reset (R246, R247, R251): counter at the epoch, increment 4 ns. -/
def Calliope.reset : Calliope :=
  { sec := 0, ns := 0, frac := 0, incr := 4 * 4294967296, incrFrac := 0, incrInt := 4, incrClamped := false, stepLo := 0,
    stepHi := 0, step := none, short := 0, qtr := 0, snap := { sec := 0, ns := 0, short := 0, status := 0 },
    tsq := List.replicate 4 { entries := [], lost := false, lostCount := 0, ring := [0, 0, 0, 0] }, lag := 0,
    ptp := List.replicate 4 { syncs := 0, pathDelay := 0, linkDelay := 0 }, ppsEdges := 0, ppsLast := 0, ppsShort := 0,
    secondsKnown := false, lockSince := none, holdoverSince := 0, locked := [], beatBit := false, beatAt := none,
    subMs := 0 }

/-- The battery domain at its first supply: nothing kept, the RTC not valid (R258), VDD_VID at 16 (R455). -/
def Battery.reset : Battery :=
  { rtc := 0, rtcPhase := 0, rtcValid := false, lost := false, activeMark := false, opTime := 0,
    keyCounters := List.replicate 8 0, ring := [], ringOpen := false, ringRead := [], ringAck := false, legalLost := 0,
    alarm := false, salt := 0,
    sources := List.replicate 12 { count := 0, storm := 0, first := 0, last := 0, active := false, since := 0, secAt := 0,
                                   inSec := 0 },
    sleepQueue := [], claspAlarm := 0, stuck := 0, tamperEnable := 0x0FC0, tamperResponse := List.replicate 9 1,
    filterSamples := [4, 4, 4, 4, 20, 20, 40], wakeAlarm := 0, onVbat := false, vbat := true }

/-- A host queue at reset (R288): registers 0, nothing posted. -/
def HostQueue.reset : HostQueue :=
  { ctrl := 0, select := 0, base := 0, size := 0, head := 0, tail := 0, fault := false, doorbellError := false,
    starved := false, draining := false, bindRefused := false, running := false, releasing := false, posted := [],
    done := [], given := [], uncounted := 0, logNext := [0, 0, 0, 0] }

/-- The host interface at reset (R283 to R288, R328). -/
def HostIf.reset : HostIf :=
  { scratch := 0, cause := 0, enable := 0, msix := [], pba := 0, sent := [],
    mb := { busy := false, valid := false, respLength := 0, request := [], response := 0 },
    hq := List.replicate 16 .reset, busMaster := false, logSelect := 0, logPos := 0, logAuto := false, logResult := 0,
    logRecord := 0, freezeBroken := false, logStatus := 0, batchSeq := [], lastRead := 0 }

/-- A Midway port at reset: link down, nothing in its FIFOs. -/
def Port.reset : Port :=
  { up := false, aneg := false, partnerPause := false, rx := [], arriving := none, arrivalStamp := 0, arrivalNs := 0,
    filters := none, headNs := 0, tx := [], lastTx := none, pausedUntil := none, pauseFrom := none, ignoreUntil := none, xoffSent := false, pauseOut := [],
    pauseNs := 0 }

/-- Casket with nothing mounted. -/
def Casket.reset : Casket :=
  { map := [], units := [], hinted := [], blocks := [], journalSeq := 0, journal := 0, ckpt := none, reloc := none, fillSeq := 0,
    wearMoves := 0, wearHour := 0, dirty := 0, dirtyLimit := 0, unitsPerBlock := 0, reserveBytes := 0,
    logicalUnits := 0, suspended := false }

/-- On-chip memory at reset: every line and word 0, every bank on, the queues made at start (R344, R346). -/
def Memory.reset : Memory :=
  { lines := [], poisoned := [], banks := List.replicate 32 0, stalled := [], caravan := [], queues := [], turns := List.replicate 7 7 }

/-- No key held. -/
def KeySet.empty : KeySet := { masters := [], keks := [], proto := [], ident := [] }

/-- Locket at reset: unprovisioned. -/
def Locket.reset : Locket :=
  { device := [], keys := .empty, stored := .empty, storedSalt := 0, anchors := [], working := [], responding := [], masks := [],
    entropyFailed := false, zeroizing := false, drbg := 0, gateKey := 0, reseeds := 0, rekey := [], dedicated := [], traffic := [] }

/-- A lane at reset (R105 to R143). -/
def Lane.reset : Lane :=
  { held := none, timing := none, bound := 0, header := none, syncNs := 0, bursts := 0, missed := 0, soft := [], erased := 0, window := [],
    virtual := none, power := false, idleAt := 0, queue := [], contending := none, drawn := none, onAir := none, tail := 0, sent := [],
    awaiting := [], ackFor := none, hold := none,
    zc := { last := 0, halves := [], filled := 0, locked := false, rise := 0, stamp := 0 }, noise := [], frozen := false, gain := 0,
    links := [], routes := [], toneMaps := [], joined := [] }

/-- NAND that was never written. -/
def Nand.reset : Nand :=
  { logs := List.replicate 4 .blank, hold := [], sealedVals := [], anchors := [], legalSlots := [none, none], user := [],
    open_ := (List.range 8).map fun t =>
      { tenant := t, seq := 0, recs := [], bytes := 0, journal := 0, sent := false, redelivered := false },
    retained := [], recs := [], hash := [], blobs := [], keyUp := none, bills := [], shots := [], cals := [], spans := [], archive := [],
    booked := [], nodes := [], energies := [], deferred := [], ingest := [], forward := [], brought := [], withheld := [], items := [],
    requestSeq := 0, stageSeq := 0, ingestSeq := 0, balanceMin := 0, balanceOld := 0, balanceFrom := 0, day := 0 }

/-- The part at its first supply, held in reset: PORST_N asserted, SAFE_N asserted (R404), nothing stored, no command
waiting. DESIGN CHOICE, unsafe: what the spec gives no reset value is 0, empty or not asserted (log entries 12 to 15). -/
def State.reset : State :=
  { pending := [], free := 0, cat := [], inForce := [], stores := List.replicate 16 .blank, time := .reset,
    bat := .reset,
    pins := { porst := true, pfi := false, sealN := false, therm := [false, false, false], safe := true, pwrSafe := false,
              wakeReq := false, vddVid := 16, pfiStamp := 0, sealStamp := 0 },
    pw := { rails := true, stage := 0, held := none, board := none, cause := 0, pfiAt := 0, releasedAt := none,
            standby := false, regional := false, carousel := false, tightrope := false, lost := false,
            faultTimes := [], stopped := 0, gasps := [], replaying := false, stoppedByLimit := false, placed := false },
    hif := .reset, ports := List.replicate 4 .reset, sessions := [], cask := .reset, mem := .reset,
    fw := { okA := true, counterA := 0, hashA := 0, okB := false, counterB := 0, hashB := 0, inForce := 0, matched := 0 },
    hall := { openAt := 0, writes := 0, fuses := 0, epoch := 0 },
    gate := { queue := [], kept := [], confirmed := [], sheds := [], engines := List.replicate 20 0, bistDay := 0,
              pairOk := [true, true], corrected := 0 },
    pat := { peak := 0, hot := false, trip := false, evalAt := 0, coolSince := none, history := [], wEng := 0, waiting := false,
             measuredHour := 0, target := none, origin := 0, slices := 0, sliceAt := 0, failing := none, rotation := 0,
             rotatedAt := 0, failures := List.replicate 20 0 },
    loc := .reset, freeze := none, frames := [], nextFrame := 1,
    win := { started := false, start := 0, ms := 0, cap := 0, taken1 := 0, taken2 := 0, mhz := 0, spare := 0, spent := 0,
             tenants := [], breached := [] },
    storms := [], unknown := [], relayed := [], cascades := [], cascadeOut := [], cascadeIn := [],
    car := { ports := List.replicate 4 { trainAt := 0, patternAt := 0, clock := true }, demods := [], groups := [],
             nextDemod := 1, nextGroup := 1 },
    dl := { mods := List.replicate 4 { sending := none, listen := none }, responses := [], waiting := [], duty := [],
            campaigns := [], ackDue := [], castCounters := [], repeats := [] },
    lanes := List.replicate 3 .reset, votes := [], parked := [], upHold := none, nand := .reset, nandProg := .reset }

end Sys2Proof.Machine
end

