-- ==== Sys2Proof/Machine/Ops.lean ====
section
/-! DEFINITION. The named operations over the state that every family uses: sparse tables, the catalogue store, free values,
counters, time, interrupts, host-queue completion, the event recorder, uplink records, paired and sealed commits. -/

namespace Sys2Proof.Machine

/-! ### Sparse tables -/

/-- The value at a key. -/
def tget {α : Type} : Tab α → Nat → Option α
  | [], _ => none
  | (k, v) :: t, x => if Nat.beq k x then some v else tget t x

/-- A table with a key set to a value, keys kept rising. -/
def tput {α : Type} : Tab α → Nat → α → Tab α
  | [], x, v => [(x, v)]
  | (k, w) :: t, x, v =>
    if Nat.blt x k then (x, v) :: (k, w) :: t
    else if Nat.beq k x then (x, v) :: t
    else (k, w) :: tput t x v

/-- A table without a key. -/
def tdel {α : Type} : Tab α → Nat → Tab α
  | [], _ => []
  | (k, w) :: t, x => if Nat.beq k x then tdel t x else (k, w) :: tdel t x

/-- A table with the value at a key, where there is one, changed. -/
def tmod {α : Type} (t : Tab α) (k : Nat) (f : α → α) : Tab α :=
  match tget t k with
  | some v => tput t k (f v)
  | none => t

/-- Whether a table's keys strictly rise. -/
def Tab.rising {α : Type} : Tab α → Bool
  | [] => true
  | [_] => true
  | (a, _) :: (b, w) :: t => Nat.blt a b && Tab.rising ((b, w) :: t)

/-- A list with element i changed, unchanged where there is none. -/
def lmod {α : Type} : List α → Nat → (α → α) → List α
  | [], _, _ => []
  | a :: t, 0, f => f a :: t
  | a :: t, n + 1, f => a :: lmod t n f

/-! ### The catalogue store (R16, R353) -/

/-- The default of an object (R16): the table's, but for MacAddress, which the fuses give (R294), and PartitionSizeMiB, whose
defaults the spec does not list (R318). -/
def catDefault (k : Nat) : Int :=
  if Nat.ble 0x280103 k && Nat.ble k 0x280403 && Nat.beq (k % 256) 3 then Config.mac (k / 256 - 0x2801)
  else if Nat.ble 0x780201 k && Nat.ble k 0x780207 then Config.partitionMiB (k - 0x780201)
  else match Cat.row k with
    | some r => r.dflt
    | none => 0

/-- The catalogue store with an object set. An object at its default has no entry, so that equal catalogues are equal
data. -/
def catPut (c : Tab Int) (k : Nat) (v : Int) : Tab Int :=
  if v = catDefault k then tdel c k else tput c k v

/-- The value of an object in a store. -/
def catGet (c : Tab Int) (k : Nat) : Int := (tget c k).getD (catDefault k)

/-- Whether a store has its canonical form: keys rising, no entry at its default. -/
def Cat.wf (c : Tab Int) : Bool := Tab.rising c && c.all fun e => e.2 != catDefault e.1

/-- The value of a catalogue object. -/
def State.get (s : State) (k : Nat) : Int := catGet s.cat k

/-- The value of a catalogue object as a number. -/
def State.nat (s : State) (k : Nat) : Nat := (s.get k).toNat

/-- Whether a catalogue object is not 0. -/
def State.flag (s : State) (k : Nat) : Bool := s.nat k != 0

/-- Bit n of a catalogue object. -/
def State.bitOf (s : State) (k n : Nat) : Bool := bit (s.nat k) n

/-- The state with a catalogue object set. -/
def State.set (s : State) (k : Nat) (v : Int) : State := { s with cat := catPut s.cat k v }

/-- The value in force of an object that takes effect at the next start (R355): the one copied at the last start. -/
def State.forced (s : State) (k : Nat) : Nat := (catGet s.inForce k).toNat

/-- A free value and the state that has drawn it. -/
def State.draw (s : State) : Nat × State := (Config.free s.free, { s with free := s.free + 1 })

/-- A counter raised by n (R15). Past its 32 bits its value is free: the spec states none. -/
def State.bumpBy (s : State) (k n : Nat) : State :=
  let v := s.nat k + n
  if v < 4294967296 then s.set k v
  else let (x, s) := s.draw; s.set k (x % 4294967296 : Nat)

/-- A counter of four bytes raised by 1; past them its value is free. -/
def State.countUp (s : State) (n : Nat) : Nat × State :=
  if n + 1 < 4294967296 then (n + 1, s)
  else let (x, s) := s.draw; (x % 4294967296, s)

/-- A counter raised by 1. -/
def State.bump (s : State) (k : Nat) : State := s.bumpBy k 1

/-! ### Time (R246, R264) -/

/-- The counter in nanoseconds since the epoch. -/
def State.now (s : State) : Nat := s.time.sec * nsPerS + s.time.ns

/-- Whether the part runs at all: rails on, PORST_N released, not asleep (R416). -/
def State.awake (s : State) : Bool := s.pw.rails && !s.pins.porst

/-- Whether start-up is over (R412), in Active or Standby (R416). -/
def State.up (s : State) : Bool := s.awake && s.pw.stage == 0x0D && Nat.ble (s.nat Obj.powerState) 1

/-- Whether the part is Active (R416), so that everything runs. -/
def State.serving (s : State) : Bool := s.awake && s.pw.stage == 0x0D && s.nat Obj.powerState == 0

/-- Whether the thermal governor defers best-effort work (R431). -/
def State.governed (s : State) : Bool := s.nat Obj.governorSteps != 0

/-- The TAI seconds of the counter. -/
def State.tai (s : State) : Nat := s.time.sec

/-- Units of the lag in a nanosecond. -/
abbrev lagUnit : Int := 4294967296000000

/-- The lag λ in ns (R264). -/
def State.lagNs (s : State) : Int := s.time.lag / lagUnit

/-- Billing TAI in ns of an instant of the counter: B = C - λ (R264). -/
def State.billAt (s : State) (c : Nat) : Nat := ((c : Int) - s.lagNs).toNat

/-- Billing TAI now, in ns. -/
def State.billNow (s : State) : Nat := s.billAt s.now

/-- Billing TAI now, in seconds. -/
def State.billSec (s : State) : Nat := s.billNow / nsPerS

/-- The billing clock status (R266): 0 locked, 1 holdover, 2 free-running, 3 invalid. -/
def State.clock (s : State) : Nat := s.nat Obj.clockStatus

/-- A TIME of the counter as 10 bytes: seconds, then nanoseconds (R353). -/
def State.timeNow (s : State) : Nat := s.time.sec + 2 ^ 48 * s.time.ns

/-! ### Interrupts (R285) -/

/-- Whether the PCIe link is up (R282). -/
def State.hostUp (s : State) : Bool := s.nat Obj.hostLink != 0

/-- Whether the host can reach BAR0 (R282, R283). -/
def State.bar (s : State) : Bool := s.awake && s.hostUp

/-- A message on an MSI-X vector: sent, or pending while the vector is masked; none while the link is down (R282,
R285). -/
def State.msi (s : State) (n : Nat) : State :=
  if !s.hostUp then s
  else if ((tget s.hif.msix (4 * n + 3)).getD 1) % 2 = 1 then { s with hif.pba := setBit s.hif.pba n true }
  else { s with hif.sent := tput s.hif.sent n ((tget s.hif.sent n).getD 0 + 1) }

/-- An event sets bit n of HIF_INT_CAUSE; an enabled bit that goes from 0 to 1 sends a message (R285). -/
def State.raise (s : State) (n : Nat) : State :=
  if bit s.hif.cause n then s
  else
    let s := { s with hif.cause := setBit s.hif.cause n true }
    if bit s.hif.enable n then s.msi n else s

/-! ### Host-queue completion (R286, R288, R290) -/

/-- The counters of a host queue that a read clears: completed, starved, dropped (R288), kept beside the catalogue under keys
of no catalogue object. -/
abbrev hqKey (q off : Nat) : Nat := 0xFF0000 + 256 * q + off

/-- A host queue changed. -/
def State.modHq (s : State) (q : Nat) (f : HostQueue → HostQueue) : State :=
  { s with hif.hq := lmod s.hif.hq q f }

/-- The host queue with a number. -/
def State.hqOf (s : State) (q : Nat) : Option HostQueue := s.hif.hq[q]?

/-- The number of posted descriptors whose buffers first sum to at least a length (R276), none when the posted ones do not. -/
def descsFor : List (Nat × Nat) → Nat → Option Nat
  | _, 0 => some 0
  | [], _ + 1 => none
  | (_, l) :: t, n + 1 => (descsFor t (n + 1 - l % 65536)).map (· + 1)

/-- Buffers filled in order with the `len` bytes of `data`: First on the first, Last on the last (R276, R290). -/
def fillDescs (stamp cls word status extra : Nat) : List (Nat × Nat) → Nat → Nat → Bool → List Desc
  | [], _, _, _ => []
  | (a, l) :: t, len, data, first =>
    let n := Nat.min len (l % 65536)
    let last := t.isEmpty
    { addr := a, length := n, flags := (if first then 0x4000 else 0) + (if last then 0x2000 else 0) + extra,
      status, stamp, cls, word, data := data % 256 ^ n } :: fillDescs stamp cls word status extra t (len - n) (data / 256 ^ n) false

/-- Signal a queue's completions (R285, R288): QueueDone at once when both coalescing fields are 0 or when CoalesceCount is
reached. -/
def State.hqSignal (s : State) (q : Nat) : State :=
  match s.hqOf q with
  | none => s
  | some h =>
    let us := bits h.ctrl 31 20
    let n := bits h.ctrl 19 12
    if h.uncounted = 0 then s
    else if (us = 0 ∧ n = 0) ∨ (n ≠ 0 ∧ n ≤ h.uncounted) then (s.modHq q fun h => { h with uncounted := 0 }).raise q
    else s

/-- Complete the first n posted descriptors of a queue with the `len` bytes of `data` (R290): the head moves, the completed counter
rises, QueueDone is signalled under the coalescing. -/
def State.hqCompleteAt (s : State) (stamp q n len cls word status extra data : Nat) : State :=
  match s.hqOf q with
  | none => s
  | some h =>
    let ds := fillDescs stamp cls word status extra (h.posted.take n) len data true
    let s := s.modHq q fun h => { h with posted := h.posted.drop n, done := h.done ++ ds,
                                         head := (h.head + n) % 4294967296, uncounted := h.uncounted + n }
    (s.bumpBy (hqKey q 0x20) n).hqSignal q

/-- Completion with the short stamp of the completion (R290). -/
def State.hqComplete (s : State) (q n len cls word status extra data : Nat) : State :=
  s.hqCompleteAt s.time.short q n len cls word status extra data

/-- The records of a batch, in order (R291): each its RecordType, its RecordLength and its bytes. -/
def packRecs : List UpRec → Nat
  | [] => 0
  | r :: t => pack [(2, r.ty), (2, r.len), (r.len, r.data)] + 256 ^ (4 + r.len) * packRecs t

/-- A batch as its `len` bytes (R291): the header of 32 bytes with its CRC, then the records, the first one first. -/
def packBatch (seq source flags len journal : Nat) (recs : List UpRec) : Nat :=
  let w := pack [(8, seq), (1, source), (1, flags), (2, recs.length), (4, len), (8, journal), (4, 0), (4, 0)] + 256 ^ 32 * packRecs recs
  w + 256 ^ 28 * crcOf len w

/-- Whether a host queue runs with a kind (R289). -/
def HostQueue.isKind (h : HostQueue) (k : Nat) : Bool := h.running && bits h.ctrl 4 1 == k

/-- A queue finds too few descriptors (R276, R291): Starved is set, the counter rises, the Starve interrupt is raised. -/
def State.hqStarve (s : State) (q : Nat) : State :=
  ((s.modHq q fun h => { h with starved := true }).bump (hqKey q 0x24)).raise 18

/-! ### Paired and sealed commits (R355, R359, R368 to R371) -/

/-- The paired store of an object (R368). -/
def storeOf (k : Nat) : Nat :=
  let i := k / 256
  if i < 0x1800 then 0
  else if i < 0x2000 then 1
  else if i < 0x2400 then 2
  else if i < 0x2800 then 3
  else if i < 0x3000 then 4
  else if i < 0x3400 then 5
  else if i < 0x4000 then 14
  else if i < 0x5000 then 7
  else if i < 0x6000 then 8
  else if 0x6820 ≤ i ∧ i < 0x6826 then
    match ((i % 2) * 128 + (k % 256 - 1)) / 64 with
    | 0 => 6
    | 1 => 9
    | 2 => 10
    | _ => 15
  else if i < 0x7800 then 13
  else if i < 0x7C00 then 11
  else if i < 0x8000 then 12
  else if i < 0x9000 then 13
  else 14

/-- The size in bytes of a type's value (R353). -/
def Ty.size : Ty → Nat
  | .bool => 1
  | .u n => n
  | .i n => n
  | .time => 10
  | .civil => 8
  | .octets n => n

/-- The bytes of a store entry: 8 and the value, padded to a multiple of 4 (R369). -/
def entryBytes (k : Nat) : Nat :=
  match Cat.row k with
  | some r => 8 + ceilDiv r.ty.size 4 * 4
  | none => 16

/-- The payload bytes of a bank (R369). -/
def bankBytes (t : Tab Int) : Nat := t.foldl (fun n e => n + entryBytes e.1) 0

/-- The bank a store takes its contents from: none while it has taken its defaults (R370). -/
def PStore.winner (p : PStore) : Option Bank :=
  match p.force with
  | 0 => some p.a
  | 1 => some p.b
  | _ => none

/-- The contents of the winning bank (R371). -/
def PStore.entries (p : PStore) : Tab Int := (p.winner.map (·.entries)).getD []

/-! ### Values (R353) -/

/-- The range of values a type can hold (R353); a TIME is written seconds first, its nanoseconds checked apart. -/
def Ty.bounds : Ty → Int × Int
  | .bool => (0, 1)
  | .u n => (0, (256 ^ n : Nat) - 1)
  | .i n => (-(256 ^ n / 2 : Nat), (256 ^ n / 2 : Nat) - 1)
  | .time => (0, 2 ^ 80 - 1)
  | .civil => (0, 2 ^ 64 - 1)
  | .octets n => (0, (256 ^ n : Nat) - 1)

/-- Whether a value of the right length breaks its type (R353): a BOOL other than 0 or 1, nanoseconds of 10^9 or more, a CIVIL
field outside its range. -/
def Ty.breaks (t : Ty) (v : Int) : Bool :=
  decide (v < t.bounds.1) || decide (t.bounds.2 < v) ||
  match t with
  | .time => Nat.ble nsPerS (v.toNat / 2 ^ 48)
  | .civil =>
    let w := v.toNat
    let y := w % 65536
    let m := byteAt w 2
    let d := byteAt w 3
    !(Nat.ble 2000 y && Nat.ble y 2199 && Nat.ble 1 m && Nat.ble m 12 && Nat.ble 1 d && Nat.ble d 31 &&
      Nat.ble (byteAt w 4) 23 && Nat.ble (byteAt w 5) 59 && Nat.ble (byteAt w 6) 60)
  | _ => false

/-- Whether an entry of a bank stands when it is loaded (R372): one of an object that is not defined is kept as it stands, one of a
defined object when its value is within type and range. -/
def entryOk (e : Nat × Int) : Bool :=
  match Cat.row e.1 with
  | none => true
  | some r => !r.ty.breaks e.2 && (r.range.map fun b => decide (b.1 ≤ e.2 ∧ e.2 ≤ b.2)).getD true

/-- What a new image starts from (R371, R372): the contents of the winning bank without the entries that do not stand. -/
def PStore.kept (p : PStore) : Tab Int := p.entries.filter entryOk

/-- A new image programmed into the other bank and read back (R371 steps 1, 2, 4 and 5): it wins, and the bank that lost is
erased. -/
def PStore.commit (p : PStore) (changes : List (Nat × Int)) : PStore :=
  let image := changes.foldl (fun (t : Tab Int) (c : Nat × Int) => catPut t c.1 c.2) p.kept
  let seq := (p.winner.map (·.seq + 1)).getD 1 % 4294967296
  let new : Bank := { state := 2, seq, entries := image }
  let erased : Bank := { state := 1, seq := 0, entries := [] }
  match p.force with
  | 0 => { p with a := erased, b := new, force := 1 }
  | _ => { p with a := new, b := erased, force := 0 }

/-- A commit of changes to paired objects by the part's own blocks (R355, R359): every store they touch takes a new image, and
the catalogue shows the values. From the assertion of PFI_N no bank program starts (R371), and the values do not last. -/
def State.commitPaired (s : State) (changes : List (Nat × Int)) : State :=
  if s.pins.pfi || s.pw.cause != 0 then
    { s with cat := changes.foldl (fun (c : Tab Int) (e : Nat × Int) => catPut c e.1 e.2) s.cat }
  else
    let touched := (List.range 16).filter fun p => changes.any fun c => storeOf c.1 == p
    let stores := touched.foldl (fun st p => lmod st p (·.commit (changes.filter fun c => storeOf c.1 == p))) s.stores
    let s := { s with stores := stores, cat := changes.foldl (fun (c : Tab Int) (e : Nat × Int) => catPut c e.1 e.2) s.cat }
    s.bumpBy Obj.storeWrites touched.length

/-- One paired object committed. -/
def State.setPaired (s : State) (k : Nat) (v : Int) : State := s.commitPaired [(k, v)]

/-- A sealed object committed into the sealed partition (R355). -/
def State.setSealed (s : State) (k : Nat) (v : Int) : State :=
  { s with nand.sealedVals := catPut s.nand.sealedVals k v }.set k v

/-! ### The event recorder (R319 to R327) -/

/-- Whether the part is in the large configuration (R4). -/
def State.large (s : State) : Bool := s.flag Obj.configurationSize

/-- A record's 64 bytes (R321), with its CRC. -/
def EvRec.pack (r : EvRec) (isOpen : Bool) : Nat :=
  let flags := r.log + 4 * r.form + 8 * b2n r.ring + 16 * b2n r.rtc + 32 * b2n isOpen
  let w := Machine.pack [(2, r.code), (2, r.rep), (1, flags), (1, r.tenant), (6, r.tai), (8, r.time), (8, r.pos),
    (32, r.payload)]
  w + 256 ^ 60 * crcOf 60 w

/-- A log changed. -/
def State.modLog (s : State) (l : Nat) (f : EvLog → EvLog) : State :=
  { s with nand.logs := lmod s.nand.logs l f }

/-- The log with a code (R319). -/
def State.logOf (s : State) (l : Nat) : EvLog := (s.nand.logs[l]?).getD { recs := [], next := 0, isOpen := false }

/-- The time field of a record committed now (R323) and the state after: the large configuration takes a number of the
sequence. -/
def State.timeField (s : State) : Nat × State :=
  if s.large then
    let n := s.nat Obj.nextSequence
    (n, s.set Obj.nextSequence (n + 1))
  else (s.nat Obj.operatingTimeMs % 2 ^ 48 * 65536 + s.nat Obj.powerCycles % 65536, s)

/-- A new record of a log at a position (R321). -/
def State.newRec (s : State) (log code tenant payload pos : Nat) (ring rtc : Bool) (tai : Nat) : EvRec × State :=
  let form := b2n s.large
  let (t, s) := s.timeField
  ({ code, rep := 0, rtc, ring, form, log, tenant, tai, time := t, pos, payload := payload % 256 ^ 32 }, s)

/-- Whether an event repeats a record (R324): the same TypeCode, Tenant and Payload bytes 0 to 7, within RepeatWindowS of its
EventTai. -/
def State.repeats (s : State) (r : EvRec) (code tenant payload : Nat) : Bool :=
  r.code == code && r.tenant == tenant && r.payload % 256 ^ 8 == payload % 256 ^ 8 &&
  decide (s.tai < r.tai + s.nat Obj.repeatWindowS)

/-- One more repeat of a record (R324): saturating, the excess counted in RepeatsSaturated. -/
def State.fold (s : State) (r : EvRec) : EvRec × State :=
  if r.rep < 65535 then ({ r with rep := r.rep + 1 }, s) else (r, s.bump Obj.repeatsSaturated)

/-- Deliver to a kind-2 host queue the closed records of a log that it has not had (R289, R291): one batch, taking its
descriptors at once, or Starved. -/
def State.pumpLogTo (s : State) (q log : Nat) : State :=
  match s.hqOf q with
  | none => s
  | some h =>
    let l := s.logOf log
    let from_ := h.logNext.getD log 0
    let closed := (if l.isOpen then l.recs.drop 1 else l.recs).filter fun r => Nat.ble from_ r.pos
    if !(h.isKind 2 && bit h.select log) || closed.isEmpty then s
    else
      let recs := closed.reverse.take 963
      let len := 32 + 68 * recs.length
      match descsFor h.posted len with
      | none => if h.starved then s else s.hqStarve q
      | some n =>
        let seq := (tget s.hif.batchSeq (256 + log)).getD 0 + 1
        let s := { s with hif.batchSeq := tput s.hif.batchSeq (256 + log) seq }
        let s := s.modHq q fun h => { h with logNext := h.logNext.set log ((recs.getLast?.map (·.pos + 1)).getD from_) }
        let batch := packBatch seq log 0 len 0 (recs.map fun r => { ty := 7, len := 64, data := r.pack false })
        s.hqComplete q n len log (seq % 4294967296) 0 0 batch

/-- Deliver a log's records to every kind-2 queue that selects it. -/
def State.pumpLog (s : State) (log : Nat) : State :=
  (List.range 16).foldl (fun s q => s.pumpLogTo q log) s

/-- HIF_LOG_STATUS as its bits (R328), without Busy, which no command leaves set. -/
def State.logStatusWord (s : State) : Nat :=
  s.hif.logResult + 256 * b2n s.freeze.isSome + 512 * b2n s.hif.freezeBroken + 65536 * s.nand.hold.length

/-- Every change of HIF_LOG_STATUS sets bit 19 of HIF_INT_CAUSE (R328). -/
def State.logChanged (s : State) : State :=
  if s.logStatusWord = s.hif.logStatus then s
  else { s with hif.logStatus := s.logStatusWord }.raise 19

/-- Whether records other than legal ones can be stored (R315, R316): otherwise a write refused under R315 is counted while
the media is read-only, and nothing can be written while nothing is mounted. -/
def State.storeOther (s : State) (log code tenant payload : Nat) (rtc : Bool) (tai : Nat) : State :=
  let l := s.logOf log
  let add (s : State) : State :=
    let (r, s) := s.newRec log code tenant payload l.next false rtc tai
    let cap := s.forced (Obj.logCapacity log)
    let wraps := decide (cap < l.recs.length + 1)
    let s := s.modLog log fun l => { recs := (r :: l.recs).take cap, next := l.next + 1, isOpen := true }
    if wraps then s.bump (Obj.recordsOverwritten log) else s
  let s := match l.recs with
    | r :: t =>
      if l.isOpen && s.repeats r code tenant payload then
        let (r, s) := s.fold r
        s.modLog log fun l => { l with recs := r :: t }
      else add s
    | [] => add s
  s.pumpLog log

/-- An event of the security, operational or diagnostic log (R319, R320, R324), with the TAI second it is stamped with. -/
def State.logAt (s : State) (log code tenant payload : Nat) (rtc : Bool) (tai : Nat) : State :=
  match s.nat Obj.mediaState with
  | 0 => s.storeOther log code tenant payload rtc tai
  | 1 => s.bump Obj.readOnlyRefusals
  | 2 => s.bump Obj.readOnlyRefusals
  | _ => s

/-- An event of the security log (R319). -/
def State.logSec (s : State) (code tenant payload : Nat) : State := s.logAt 1 code tenant payload false s.tai

/-- An event of the operational log (R319). -/
def State.logOp (s : State) (code tenant payload : Nat) : State := s.logAt 2 code tenant payload false s.tai

/-- An event of the diagnostic log (R319). -/
def State.logDiag (s : State) (code tenant payload : Nat) : State := s.logAt 3 code tenant payload false s.tai

/-- An operational record of an event for which the spec names no type (R276, R333, R371): its code is open among those of the
log (R326). -/
def State.logOpFree (s : State) (event payload : Nat) : State :=
  s.logOp (0x3001 + Config.typeCode event % 14) 0xFF payload

/-- A diagnostic record of an event for which the spec names no type (R342, R351, R408): its code is open among those of the
log (R326). -/
def State.logDiagFree (s : State) (event payload : Nat) : State :=
  s.logDiag (0x4001 + Config.typeCode event % 4) 0xFF payload

/-- The end of a freeze (R332): the held records join the log under the positions they carry; only a READINGS_CLAMPED record
that is the last stays open. -/
def State.endFreeze (s : State) : State :=
  let held := s.nand.hold
  let last := (held.head?.map fun r => r.code == 0x1015).getD false
  let s := { s with freeze := none, nand.hold := [] }
  (s.modLog 0 fun l => { l with recs := held ++ l.recs, isOpen := last }).pumpLog 0

/-- The part ends a freeze itself (R333): FreezeBroken is set and counted, the held records are appended, an operational record is
written. -/
def State.breakFreeze (s : State) : State :=
  if s.freeze.isNone then s
  else
    let s := { s.endFreeze with hif.freezeBroken := true }
    ((s.bump Obj.freezesBroken).logOpFree 0 0).logChanged

/-- Whether the free pool is empty (R316). -/
def State.poolEmpty (s : State) : Bool := !(s.cask.blocks.any fun b => b.2.state == 0)

/-- Assert the storage alarm (R316): the Casket root, battery-domain SRAM and CasketAlarm show it. -/
def State.storageAlarm (s : State) : State :=
  let s := { s with bat.alarm := true }
  if s.flag Obj.casketAlarm then s else s.setPaired Obj.casketAlarm 1

/-- Store a legal record in the battery-domain ring, or count it lost when the ring is full (R316). -/
def State.ringLegal (s : State) (code tenant payload : Nat) (rtc : Bool) (tai : Nat) : State :=
  match s.bat.ring.getLast? with
  | some r =>
    if s.bat.ringOpen && code == 0x1015 && s.repeats r code tenant payload then
      let (r, s) := s.fold r
      { s with bat.ring := s.bat.ring.dropLast ++ [r] }
    else if 64 ≤ s.bat.ring.length then
      let n := s.bat.legalLost + 1
      { s with bat.legalLost := n }
    else
      let (r, s) := s.newRec 0 code tenant payload (s.logOf 0).next true rtc tai
      let s := s.modLog 0 fun l => { l with next := l.next + 1 }
      { s with bat.ring := s.bat.ring ++ [r], bat.ringOpen := code == 0x1015, bat.ringAck := false }.storageAlarm
  | none =>
    let (r, s) := s.newRec 0 code tenant payload (s.logOf 0).next true rtc tai
    let s := s.modLog 0 fun l => { l with next := l.next + 1 }
    { s with bat.ring := [r], bat.ringOpen := code == 0x1015, bat.ringAck := false }.storageAlarm

/-- Append a legal record to the log (R319, R324): only a READINGS_CLAMPED record folds, and only it stays open. -/
def State.appendLegal (s : State) (code tenant payload : Nat) (rtc : Bool) (tai : Nat) : State :=
  let l := s.logOf 0
  let add (s : State) : State :=
    let (r, s) := s.newRec 0 code tenant payload l.next false rtc tai
    s.modLog 0 fun l => { recs := r :: l.recs, next := l.next + 1, isOpen := code == 0x1015 }
  match l.recs with
  | r :: t =>
    if l.isOpen && code == 0x1015 && s.repeats r code tenant payload then
      let (r, s) := s.fold r
      s.modLog 0 fun l => { l with recs := r :: t }
    else add s
  | [] => add s

/-- Take 64 bytes of the legal reserve for a record (R316); false when the reserve is exhausted, which sets
MediaState 2. -/
def State.takeReserve (s : State) : Bool × State :=
  if 64 ≤ s.cask.reserveBytes then (true, { s with cask.reserveBytes := s.cask.reserveBytes - 64 })
  else if s.nat Obj.legalReserveFree = 0 then (false, s.set Obj.mediaState 2)
  else (true, { s with cask.reserveBytes := 4032 }.set Obj.legalReserveFree (s.get Obj.legalReserveFree - 1))

/-- Commit a legal record into the hold buffer of a freeze (R332): repeats of READINGS_CLAMPED fold into its last record. -/
def State.holdLegal (s : State) (code tenant payload : Nat) (rtc : Bool) (tai : Nat) : State :=
  let add (s : State) : State :=
    let (r, s) := s.newRec 0 code tenant payload (s.logOf 0).next false rtc tai
    let s := s.modLog 0 fun l => { l with next := l.next + 1 }
    { s with nand.hold := r :: s.nand.hold }.logChanged
  match s.nand.hold with
  | r :: t =>
    if code == 0x1015 && r.code == 0x1015 && s.repeats r code tenant payload then
      let (r, s) := s.fold r
      { s with nand.hold := r :: t }
    else add s
  | [] => add s

/-- An event of the legal log (R316, R319, R332, R333): held while the log is frozen, into the reserve while the media is
read-only or the pool empty, into the battery-domain ring when the reserve is exhausted or nothing is mounted. -/
def State.legalAt (s : State) (code tenant payload : Nat) (rtc : Bool) (tai : Nat) : State :=
  let s := if s.freeze.isSome && Nat.ble 4096 s.nand.hold.length then s.breakFreeze else s
  match s.nat Obj.mediaState with
  | 0 =>
    if s.freeze.isSome then s.holdLegal code tenant payload rtc tai
    else if s.poolEmpty then
      match s.takeReserve with
      | (true, s) => (s.appendLegal code tenant payload rtc tai).pumpLog 0
      | (false, s) => s.ringLegal code tenant payload rtc tai
    else (s.appendLegal code tenant payload rtc tai).pumpLog 0
  | 1 =>
    match s.takeReserve with
    | (true, s) =>
      if s.freeze.isSome then s.holdLegal code tenant payload rtc tai
      else (s.appendLegal code tenant payload rtc tai).pumpLog 0
    | (false, s) => s.ringLegal code tenant payload rtc tai
  | _ => s.ringLegal code tenant payload rtc tai

/-- An event of the legal log, stamped now. -/
def State.logLegal (s : State) (code tenant payload : Nat) : State := s.legalAt code tenant payload false s.tai

/-! ### Uplink records and notices (R194, R291, R292) -/

/-- The tenants enabled (R194). -/
def State.tenants (s : State) : List Nat := (List.range 8).filter fun t => s.bitOf Obj.tenantEnable t

/-- Close a tenant's batch: it takes the next BatchSequence and is retained until it is confirmed (R194, R291). An empty batch
does not leave. -/
def State.closeBatch (s : State) (t : Nat) : State :=
  match s.nand.open_[t]? with
  | none => s
  | some b =>
    if b.recs.isEmpty then s
    else
      let seq := (tget s.hif.batchSeq t).getD 0 + 1
      { s with hif.batchSeq := tput s.hif.batchSeq t seq,
               nand.retained := s.nand.retained ++ [{ b with seq := seq }],
               nand.open_ := s.nand.open_.set t { b with recs := [], bytes := 0, journal := 0 } }

/-- A record into a tenant's batch (R22 step 10, R194): it opens a new batch when the present one would pass 64 KiB. -/
def State.uplinkNow (s : State) (t : Nat) (r : UpRec) (journal : Nat) : State :=
  match s.nand.open_[t]? with
  | none => s
  | some b =>
    let s := if 65536 < b.bytes + r.len + 4 then s.closeBatch t else s
    { s with nand.open_ := lmod s.nand.open_ t fun b =>
        { b with recs := r :: b.recs, bytes := b.bytes + r.len + 4, journal := Nat.max b.journal journal } }

/-- A record for a tenant's uplink: kept with the frame while its result commit is made, which places it at step 10. -/
def State.uplink (s : State) (t : Nat) (r : UpRec) (journal : Nat) : State :=
  match s.upHold with
  | some h => { s with upHold := some (h ++ [(t, r, journal)]) }
  | none => s.uplinkNow t r journal

/-- An uplink notice of R292 to one tenant: `rest` holds bytes 4 to 31. -/
def State.notice (s : State) (t kind code rest : Nat) : State :=
  s.uplink t { ty := 6, len := 32, data := pack [(2, kind), (1, t), (1, code), (28, rest)] } 0

/-- A notice that concerns no tenant: one copy to every enabled tenant (R292). -/
def State.noticeAll (s : State) (kind code rest : Nat) : State :=
  s.tenants.foldl (fun s t => s.notice t kind code rest) s

/-! ### Commits (R302, R304) -/

/-- A commit into the protected write buffer: `n` bytes not yet programmed, and its map-journal group of `k` records with
its GROUP_COMMIT, 32 bytes each (R302, R304). -/
def State.commit (s : State) (n k : Nat) : State :=
  { s with cask.dirty := s.cask.dirty + n, cask.journal := s.cask.journal + 32 * (k + 1),
           cask.journalSeq := s.cask.journalSeq + k + 1 }

/-- Whether a commit of n bytes stays within DirtyLimit (R302), the media taking writes (R315). -/
def State.fits (s : State) (n : Nat) : Bool :=
  Nat.ble (s.cask.dirty + n) s.cask.dirtyLimit && Nat.beq (s.nat Obj.mediaState) 0

end Sys2Proof.Machine
end

