-- ==== Sys2Proof/Machine/Operands.lean ====
section
/-! DEFINITION. The operand forms of the commands: the CAP envelope of a request (R356 to R366), the value types of an
object (R353), the Epmeir container (R375, R376), times and stamps. -/

namespace Sys2Proof.Machine

/-! ### The CAP envelope -/

/-- The outcome of a request: Status and Detail of R362, the value from an offset, its length and the length of the whole. -/
structure CapOut where
  status : Nat
  detail : Nat
  offset : Nat
  total : Nat
  value : Nat
  length : Nat
deriving DecidableEq, Repr

/-- Status OK without a value. -/
def capOk : CapOut := { status := 0, detail := 0, offset := 0, total := 0, value := 0, length := 0 }

/-- Status OK with a value. -/
def capVal (length value : Nat) : CapOut := { status := 0, detail := 0, offset := 0, total := length, value, length }

/-- Status OK with what a value of a length holds from an offset on (R357, R358). -/
def capFrom (length value offset : Nat) : CapOut :=
  { status := 0, detail := 0, offset, total := length, value := value / 256 ^ offset, length := length - offset }

/-- A refusal with a code of R362. -/
def capErr (status detail : Nat) : CapOut := { status, detail, offset := 0, total := 0, value := 0, length := 0 }

/-- The largest value a transport carries (R363, R364, R365), by session number. -/
def capLimit (sess : Nat) : Nat := if sess = 0 then 488 else if sess = 17 then 232 else 1024

/-- The bytes of a response (R356): the header, whose Kind has bit 7 set and whose More says that bytes of the value follow, and as much of
the value as the transport carries. -/
def Resp.message (r : Resp) (limit : Nat) : Nat :=
  let n := Nat.min r.length limit
  pack [(1, 1), (1, r.kind + 128), (2, r.tag), (2, r.index), (1, r.sub), (1, b2n (Nat.blt n r.length)), (4, r.offset), (4, r.total), (2, n),
    (2, r.status), (4, r.detail), (n, r.value)]

/-- The requests that a session may have outstanding (R359, R364). DEDUCED (log entry 123): the service port refuses a second one. -/
def capDepth (sess : Nat) : Nat := if sess = 17 then 1 else 8

/-- Requests of a session not answered yet: those waiting for a store's image (R359, R371) or for a frame (R25). -/
def State.outstanding (s : State) (sess : Nat) : Nat :=
  (s.parked.filter fun p => p.req.sess == sess).length +
  (s.stores.map fun p => ((p.prog ++ p.gathered).filter fun w => w.sess == sess && w.tag != 65536).length).sum

/-- Whether the start-up step at which the catalogue becomes ready has passed (R361, R412, R426). -/
def State.catalogueReady (s : State) : Bool :=
  s.pw.rails && !s.pins.porst && (s.pw.stage == 0x0D || (Nat.ble 0x8A s.pw.stage && Nat.ble s.pw.stage 0x8C)) &&
  s.nat Obj.powerState != 3 && !s.pins.pfi

/-- Whether CAP runs at all, for reads of the 0x1000 range (R361, R412): from step 5, until PFI_N asserts. -/
def State.capRuns (s : State) : Bool :=
  s.pw.rails && !s.pins.porst && !s.pins.pfi && s.nat Obj.powerState != 3 &&
  (s.pw.stage == 0x0D || (Nat.ble 0x86 s.pw.stage && Nat.ble s.pw.stage 0x8C))

/-- Whether the boot ROM is in recovery, where CAP accepts FirmwareSubmit alone (R379). -/
def State.recovering (s : State) : Bool := s.awake && s.pw.stage == 0xF0

/-- The principal of the mailbox (R366). -/
def State.mailboxRole (s : State) : Nat := if s.nat Obj.hostCapRole = 1 then 0 else 2

/-- A session opened for a principal (R363). -/
def State.openSession (s : State) (n role tenant : Nat) : State :=
  let ses : Session :=
    { role, tenant, lastAt := s.now, kept := [], resp := none, bulk := none, held := none, closing := false }
  { s with sessions := tput s.sessions n ses }

/-- The response of a session's request leaves (R287, R359, R360): it is kept with the last eight, an error is counted, and
on the mailbox it is written into HIF_MB_RESPONSE, unless the link went down meanwhile (R293). -/
def State.respond (s : State) (sess : Nat) (r : Resp) (keep : Bool) : State :=
  match tget s.sessions sess with
  | none => s
  | some ses =>
    let lim := capLimit sess
    let held := if r.kind = 3 ∧ lim < r.length then some (r.value, r.length) else ses.held
    let ses := { ses with kept := if keep then (r :: ses.kept).take 8 else ses.kept, resp := some r, held := held }
    let s := if r.status = 0 then s else s.bump Obj.capErrors
    if ses.closing then
      let s := { s with sessions := tdel s.sessions sess }
      if sess ≠ 0 then s
      else
        let s := { s with hif.mb.busy := false }
        if s.hostUp then s.openSession 0 s.mailboxRole 0xFF else s
    else
      let s := { s with sessions := tput s.sessions sess ses }
      if sess = 0 then
        { s with hif.mb.busy := false, hif.mb.valid := true, hif.mb.respLength := 24 + Nat.min r.length lim,
                 hif.mb.response := r.message lim }.raise 16
      else s

/-- The response to a request from its outcome. -/
def CapOut.toResp (o : CapOut) (tag kind index sub : Nat) : Resp :=
  { tag, kind, index, sub, status := o.status, detail := o.detail, offset := o.offset, total := o.total, value := o.value, length := o.length }

/-- The rejection of a request that the part does not carry out in its present state (R359, R361). -/
def State.capGate (s : State) (sess kind index : Nat) : Option CapOut :=
  if Nat.ble (capDepth sess) (s.outstanding sess) then some (capErr 6 0)
  else if s.catalogueReady then none
  else if s.recovering && kind == 3 && index == 0x3402 then none
  else if kind == 1 && s.capRuns && Nat.beq (index / 0x400) 4 then none
  else some (capErr 19 s.pw.stage)

/-- A request on a session (R356 to R362): counted; a repeat of a kept request gets the kept response again; refused with
BUSY beyond what a session may have outstanding, with NOT_READY while the part is not ready, with DENIED when the principal lacks the
right; otherwise carried out. `none` from the body: the response follows at the commit (R355). Without its session, or
on the mailbox without a request taken, there is no request. -/
def State.capRun (s : State) (r : CapReq) (kind index sub : Nat) (allow : Session → Bool)
    (body : Session → State → Option CapOut × State) : State :=
  match tget s.sessions r.sess with
  | none => s
  | some ses =>
    if ses.closing || (r.sess == 0 && !s.hif.mb.busy) then s
    else
      let s := s.bump Obj.capRequests
      let s := { s with sessions := tput s.sessions r.sess { ses with lastAt := s.now } }
      match ses.kept.find? fun p => p.tag == r.tag && p.kind == kind && p.index == index && p.sub == sub with
      | some p => s.respond r.sess p false
      | none =>
        match s.capGate r.sess kind index with
        | some o => s.respond r.sess (o.toResp r.tag kind index sub) true
        | none =>
          if !allow ses then s.respond r.sess ((capErr 3 0).toResp r.tag kind index sub) true
          else
            match body ses s with
            | (some o, s) => s.respond r.sess (o.toResp r.tag kind index sub) true
            | (none, s) => s

/-- The commands a tenant head end may execute (R366). -/
def headEndMay : List Nat :=
  [Obj.keyUpdateSubmit, Obj.endpointRead, Obj.billingRead, Obj.snapshotRead, Obj.endpointAdmit, Obj.endpointAdmitMove,
   Obj.endpointRemove, Obj.stageItem, Obj.stageWithdraw, Obj.topUp, Obj.debtSet, Obj.lockOutSet, Obj.emergencyAccept,
   Obj.switchSubmit]

/-- The commands a Reader may execute (R366). -/
def readerMay : List Nat :=
  [Obj.endpointRead, Obj.billingRead, Obj.snapshotRead, Obj.nodeRead, Obj.linkQualityRead, Obj.logRead, Obj.logBounds,
   Obj.legalFreeze, Obj.legalExport, Obj.batteryRingRead]

/-- Whether a principal may execute a command (R366). -/
def Session.mayExec (ses : Session) (k : Nat) : Bool :=
  match ses.role with
  | 0 => k != Obj.switchSubmit
  | 1 => headEndMay.contains k
  | _ => readerMay.contains k

/-- Whether a principal may act on an endpoint of a tenant (R366). -/
def Session.mayTenant (ses : Session) (t : Nat) : Bool := ses.role != 1 || ses.tenant == t

/-- An Execute of a command object (R354, R357, R358): the session's held result ends. -/
def State.capExec (s : State) (r : CapReq) (k : Nat) (body : Session → State → CapOut × State) : State :=
  s.capRun r 3 (k / 256) (k % 256) (·.mayExec k) fun ses s =>
    let s := { s with sessions := tmod s.sessions r.sess fun p => { p with held := none } }
    let (o, s) := body ses s
    (some o, s)

/-- Whether a frame of an endpoint is between steps 4 and 9 (R25). -/
def State.endpointBusy (s : State) (tag : Nat) : Bool :=
  s.frames.any fun f => f.tag == tag && Nat.ble 4 f.stage && Nat.ble f.stage 8

/-- An Execute of a command ordered like a frame of each endpoint it names (R25, R159): it waits while one of their frames is between
steps 4 and 9. -/
def State.capOrdered (s : State) (r : CapReq) (k : Nat) (tags : List Nat) (c : Instr) (body : Session → State → CapOut × State) : State :=
  s.capRun r 3 (k / 256) (k % 256) (·.mayExec k) fun ses s =>
    let s := { s with sessions := tmod s.sessions r.sess fun p => { p with held := none } }
    if tags.any s.endpointBusy then (none, { s with parked := s.parked ++ [{ req := r, ses, tags, journal := s.nand.ingestSeq, cmd := c }] })
    else
      let (o, s) := body ses s
      (some o, s)

/-- A command that waited (R25) carried out and answered. -/
def State.finishOrdered (s : State) (p : Parked) (k : Nat) (body : Session → State → CapOut × State) : State :=
  let (o, s) := body p.ses s
  s.respond p.req.sess (o.toResp p.req.tag 3 (k / 256) (k % 256)) true

/-- A command that commits into NAND, refused and counted while the media is read-only (R315). -/
def State.mediaGate (s : State) (body : State → CapOut × State) : CapOut × State :=
  if s.nat Obj.mediaState = 0 then body s else (capErr 15 0, s.bump Obj.readOnlyRefusals)

/-! ### Containers -/

/-- Whether a container's target is this part: its serial, or where the type allows it its device class (R375, R376). -/
def State.targetOk (s : State) (e : Epmeir) (classAllowed : Bool) : Bool :=
  (e.targetKind == 1 && e.target == Config.deviceSerial) ||
  (classAllowed && e.targetKind == 0 && bits e.target 15 0 == 0x1048 && Nat.beq (e.target / 2 ^ 24) 0 &&
    (bits e.target 23 16 == 0 || bits e.target 23 16 == s.nat Obj.variantCode))

/-- The checks that every container has first: type and version, target, length and hash (R376): the number of the first
that fails. -/
def State.containerCheck (s : State) (e : Epmeir) (typ : Nat) (classAllowed : Bool) : Option Nat :=
  if !(e.magicOk && e.typ == typ && e.version == 1) then some 1
  else if !s.targetOk e classAllowed then some 2
  else if !(e.lengthOk && e.hashOk) then some 3
  else none

/-- Every trust anchor installed: roles 1 to 4 in the Locket store, roles 5 and 6 in partition 5 (R378). -/
def State.allAnchors (s : State) : List Anchor := s.loc.anchors ++ s.nand.anchors

/-- Whether a public key is that of an anchor of a role, for roles 3 and 4 of a tenant (R376, R377). -/
def State.anchorHas (s : State) (role tenant key : Nat) : Bool :=
  key != 0 && s.allAnchors.any fun a =>
    a.role == role && a.key == key && (a.tenant == tenant || !(role == 3 || role == 4))

/-- The number of the first failing check in a list, from 1. -/
def firstFail (checks : List Bool) : Option Nat := (checks.findIdx? fun b => !b).map (· + 1)

/-! ### Times -/

/-- Whether the time since an instant of the counter has reached a number of seconds. -/
def State.elapsedS (s : State) (since seconds : Nat) : Bool := Nat.ble (since + seconds * nsPerS) s.now

end Sys2Proof.Machine
end

