-- ==== Sys2Proof/Machine/Bist.lean ====
section
/-! DEFINITION. What a failed engine and the end of a self-test do (R344, R408, R439 to R441), used wherever one can happen. -/

namespace Sys2Proof.Machine

/-- The words of an engine's Caravan, 256 KiB of 64-bit words, cleared (R344, R345). -/
def State.clearCaravan (s : State) (e : Nat) : State :=
  { s with mem.caravan := s.mem.caravan.filter fun w => !(Nat.ble (e * 32768) w.1 && Nat.blt w.1 ((e + 1) * 32768)) }

/-- A Juggler out of service, its items back in their queues, its Caravan cleared, under test (R408); counted, with a diagnostic
record. The test starts at once where none runs. -/
def State.engineOut (s : State) (e : Nat) : State :=
  let s := { s with gate.engines := s.gate.engines.set e 1 }.clearCaravan e
  let s := if s.pat.target.isNone then
      { s with pat.target := some e, pat.origin := 1, pat.slices := 0, pat.failing := none } else s
  (s.bump Obj.engineFaults).logDiagFree 7 e

/-- A Juggler in service fails (R408); one retired or under test is not in service. -/
def State.engineFails (s : State) (e : Nat) : State :=
  if s.awake && Nat.blt e 20 && (s.gate.engines[e]?).getD 2 == 0 then s.engineOut e else s

/-- The payload of BIST_RESULT. -/
def bistPayload (target result origin failingSet : Nat) (signatures : List Nat) : Nat :=
  pack ([(1, target), (1, result), (1, origin), (1, failingSet)] ++
    (List.range 5).map fun i => (4, signatures.getD i 0))

/-- The end of the test that runs (R441): its record and BistResult; a failure is counted. -/
def State.bistEnd (s : State) (target result failingSet : Nat) (signatures : List Nat) : State :=
  let p := bistPayload target result s.pat.origin failingSet signatures
  let s := { s with pat.target := none, pat.slices := 0, pat.failing := none }
  let s := (s.set Obj.bistResult p).logDiag 0x4001 0xFF p
  if result = 1 then s.bump Obj.bistFailures else s

/-- A test that PFI_N or the zeroize line ends (R441): aborted, nothing counted; its engine is back in service. -/
def State.bistAbort (s : State) : State :=
  match s.pat.target with
  | none => s
  | some t =>
    let s := s.bistEnd t 2 0xFF []
    if (s.gate.engines[t]?).getD 0 == 1 then { s with gate.engines := s.gate.engines.set t 0 } else s

end Sys2Proof.Machine
end

