-- ==== Sys2Proof/Machine/RegistryOps.lean ====
section
/-! DEFINITION. The endpoint registry: records and their layout (R9, R40, R41), the hash table and its lookups (R42, R43),
HeardCells (R47), the fields that other units keep in a record. -/

namespace Sys2Proof.Machine

/-- The record of a tag (R40), none where no record holds it. -/
def State.record (s : State) (tag : Nat) : Option Record := tget s.nand.recs tag

/-- A record changed. -/
def State.modRecord (s : State) (tag : Nat) (f : Record → Record) : State :=
  { s with nand.recs := tmod s.nand.recs tag f }

/-- Flag n of a record (R40). -/
def Record.flag (r : Record) (n : Nat) : Bool := bit r.flags n

/-- Whether a record is admitted, active or suspended, so that its endpoint is served (R40, R50). -/
def Record.live (r : Record) : Bool := r.state == 1 || r.state == 2 || r.state == 3

/-- HashSalt, kept in store 7 beside the catalogue objects (R42, R368). -/
abbrev Obj.hashSalt : Nat := 0x4000F0

/-- Buckets of the hash table in the role that runs (R42). -/
def State.buckets (s : State) : Nat := if s.pw.regional then 1048576 else 65536

/-- The endpoints that the registry takes in the role that runs (R4, R7, R31): RegistryLimit, in field role 65,536 at most. -/
def State.registryMax (s : State) : Nat :=
  if s.pw.regional then s.nat Obj.registryLimit else Nat.min 65536 (s.nat Obj.registryLimit)

/-- The endpoint index of a tag (R9). -/
def tagIndex (tag : Nat) : Nat := tag % 1048576

/-- The concentrator number of a tag (R9). -/
def tagConcentrator (tag : Nat) : Nat := tag / 1048576 % 65536

/-- The domain number of a tag (R9). -/
def tagDomain (tag : Nat) : Nat := tag / 68719476736 % 256

/-- An Endpoint Tag from its parts (R9). -/
def mkTag (domain concentrator index : Nat) : Nat :=
  (domain % 256) * 68719476736 + (concentrator % 65536) * 1048576 + index % 1048576

/-- A Reading Key (R9). -/
def mkKey (tag channel : Nat) : Nat := tag * 16 + channel % 16

/-- The signature of an address (R42): CRC-32C of the type byte and 16 address bytes, seeded with HashSalt. -/
def State.signature (s : State) (typ addr : Nat) : Nat :=
  crc32c (s.nat Obj.hashSalt % 4294967296) (typ % 256 :: toBytes 16 addr)

/-- The bucket i places after the home bucket of a signature, wrapping (R42). -/
def State.bucketAt (s : State) (sig i : Nat) : Nat := (sig + i) % s.buckets

/-- The record that holds a slot. -/
def State.bySlot (s : State) (slot : Nat) : Option Record :=
  (s.nand.recs.find? fun e => e.2.slot == slot && e.2.state != 0).map (·.2)

/-- A lookup through eight buckets (R43): in each, the first entry that `typOk` and the signature select whose record
`full` accepts; it ends at a bucket with a free entry. -/
def State.probe (s : State) (sig : Nat) (typOk : Nat → Bool) (full : Record → Bool) : List Nat → Option Record
  | [] => none
  | i :: is =>
    let es := s.nand.hash.filter fun e => e.bucket == s.bucketAt sig i
    let found := es.findSome? fun e =>
      if typOk e.typ && e.sig == sig then (s.bySlot e.slot).filter full else none
    match found with
    | some r => some r
    | none => if es.length < 8 then none else s.probe sig typOk full is

/-- The lookup of a native address (R43). -/
def State.lookupNative (s : State) (n : Native) : Option Record :=
  s.probe (s.signature n.ntype n.addr) (fun t => Nat.ble 1 t && Nat.ble t 4)
    (fun r => r.ntype == n.ntype && r.naddr == n.addr && r.state != 4) (List.range 8)

/-- The lookup of a tag (R43): in field role the slot is the index; in regional role through the tag entries. -/
def State.lookupTag (s : State) (tag : Nat) : Option Record :=
  if s.pw.regional then
    s.probe (s.signature 0 tag) (· == 0xF) (fun r => r.tag == tag && r.state != 4) (List.range 8)
  else (s.record tag).filter fun r => r.state != 4 && r.state != 0

/-- Room for an entry among the eight buckets of a signature (R42, R45): the first bucket with a free or a deleted entry. -/
def State.hashRoom (s : State) (hash : List HashEntry) (sig : Nat) : Option Nat :=
  ((List.range 8).map (s.bucketAt sig)).find? fun b =>
    decide ((hash.filter fun e => e.bucket == b && e.typ != 0xE).length < 8)

/-- An entry placed in the table, in place of a deleted entry of its bucket where there is one (R42). -/
def hashPlace (hash : List HashEntry) (e : HashEntry) : List HashEntry :=
  match hash.findIdx? fun x => x.bucket == e.bucket && x.typ == 0xE with
  | some i => hash.set i e
  | none => hash ++ [e]

/-- The entries a record needs placed in the table (R42, R43): its native-address entry, and in regional role its tag entry;
none when one of them finds no room. The bucket is that of the native-address entry. -/
def State.placeRecord (s : State) (hash : List HashEntry) (slot tag : Nat) (n : Native) :
    Option (List HashEntry × Nat) :=
  let sig := s.signature n.ntype n.addr
  match s.hashRoom hash sig with
  | none => none
  | some b =>
    let hash := hashPlace hash { bucket := b, typ := n.ntype, sig, slot }
    if s.pw.regional then
      let tsig := s.signature 0 tag
      match s.hashRoom hash tsig with
      | none => none
      | some c => some (hashPlace hash { bucket := c, typ := 0xF, sig := tsig, slot }, b)
    else some (hash, b)

/-- A removed record's entries become deleted entries (R50). -/
def hashRemove (hash : List HashEntry) (slot : Nat) : List HashEntry :=
  hash.map fun e => if e.slot == slot then { e with typ := 0xE, sig := 0 } else e

/-- Whether a native type may be heard on a cell (R41). -/
def typeOnCell (ntype cell : Nat) : Bool :=
  if ntype == 1 || ntype == 2 then Nat.ble cell 3 || (Nat.ble 7 cell && Nat.ble cell 15)
  else if ntype == 3 || ntype == 4 then Nat.ble 4 cell && Nat.ble cell 6
  else false

/-- HeardCells after a frame on a cell with a quality (R47). -/
def heardUpdate (h : List Heard) (cell q : Nat) : List Heard :=
  if h.any fun e => e.cell == cell then
    h.map fun (e : Heard) =>
      if e.cell == cell then
        ({ e with quality := ((e.quality : Int) + ((q : Int) - e.quality) / 4).toNat, frames := satAdd 65535 e.frames 1 } : Heard)
      else e
  else
    let new : Heard := { cell, quality := q, frames := 1 }
    if h.length < 4 then h ++ [new]
    else
      match h with
      | [] => [new]
      | a :: t =>
        let worst := t.foldl (fun (m : Heard) (e : Heard) =>
          if e.quality < m.quality || (e.quality == m.quality && m.cell < e.cell) then e else m) a
        if worst.quality < q then h.map fun e => if e.cell == worst.cell then new else e else h

/-- The cell of HeardCells with the highest quality, ties to the lower number (R47). -/
def heardBest : List Heard → Option Heard
  | [] => none
  | a :: t => some (t.foldl (fun (m : Heard) (e : Heard) =>
      if m.quality < e.quality || (m.quality == e.quality && e.cell < m.cell) then e else m) a)

/-- A record with HeardCells as they are now (R47): Cell is the best of them; a record with Cell 0xFF keeps its Cell and MoveCount. -/
def Record.withHeard (r : Record) (heard : List Heard) : Record :=
  match heardBest heard with
  | none => { r with heard }
  | some b =>
    if r.cell == 0xFF || b.cell == r.cell then { r with heard }
    else { r with heard, cell := b.cell, moves := satAdd 65535 r.moves 1 }

/-- A record after a frame of it passed step 3, or a copy was discarded under R26 (R47). -/
def Record.hear (r : Record) (cell q : Nat) : Record := r.withHeard (heardUpdate r.heard cell q)

/-- HeardCells at TAI midnight (R47): entries without a frame go, the others' counts start again. -/
def heardAge (h : List Heard) : List Heard :=
  (h.filter fun e => e.frames != 0).map fun e => ({ e with frames := 0 } : Heard)

/-- HeardCells after n TAI midnights (R47): a second midnight without a frame between leaves none. -/
def heardAges (n : Nat) (h : List Heard) : List Heard := if n = 0 then h else if n = 1 then heardAge h else []

/-- HeardCells as its 16 bytes (R40). -/
def heardPack (h : List Heard) : Nat :=
  pack (((h ++ List.replicate 4 ({ cell := 0xFF, quality := 0, frames := 0 } : Heard)).take 4).flatMap fun e =>
    [(1, e.cell), (1, e.quality), (2, e.frames)])

/-- EventSummary as its 32 bytes (R327). -/
def Summary.pack (e : Summary) : Nat :=
  Machine.pack [(2, e.outages), (2, e.restorations), (6, e.lastOutage), (6, e.lastRestoration), (2, e.alarms),
    (2, e.lastAlarmCode), (6, e.lastAlarm), (1, e.flags), (5, 0)]

/-- A record as its 256 bytes, with its CRC (R40). -/
def Record.pack (r : Record) : Nat :=
  let w := Machine.pack ([(8, r.tag), (1, r.state), (1, r.ntype), (1, r.cell), (1, r.tenant), (16, r.naddr), (4, r.flags),
      (2, r.billingHome), (2, r.kekGen), (4, r.blob.getD 0xFFFFFFFF), (8, r.upCounter), (6, r.lastHeard), (1, r.lastCell),
      (1, r.lastQuality), (16, heardPack r.heard), (1, r.calendar), (1, r.phase), (2, r.node), (2, r.score), (2, r.chanMask)] ++
    ((List.range 16).map fun i => (2, r.chanConfig.getD i 0)) ++
    [(4, r.tamperCount), (6, r.tamperFirst), (6, r.tamperLast), (2, r.tamperCode), (2, 0), (32, r.summary.pack),
      (6, r.admittedAt), (2, r.moves), (2, r.serving), (2, 0), (4, r.bucket), (4, r.downPending), (8, r.downCounter),
      (8, r.prevTag), (52, 0)])
  w + 256 ^ 252 * crcOf 252 w

/-- The quantity code of a channel (R174). -/
def Record.quantity (r : Record) (ch : Nat) : Nat := r.chanConfig.getD ch 0 / 16

/-- The decimal scale of a channel, −8 to +7 (R174). -/
def Record.scale (r : Record) (ch : Nat) : Int :=
  let n := r.chanConfig.getD ch 0 % 16
  if n < 8 then n else (n : Int) - 16

/-- The channel of a quantity code: the lowest configured one that carries it (R173, R195). -/
def Record.channelOf (r : Record) (q : Nat) : Option Nat :=
  (List.range 16).find? fun n => bit r.chanMask n && r.quantity n == q

/-- Whether a quantity is a register (R174). -/
def isRegister (q : Nat) : Bool := [1, 2, 3, 4, 0x30, 0x31, 0x40].contains q

/-- Whether a quantity code is defined (R174). -/
def quantityOk (q : Nat) : Bool := isRegister q || [0x10, 0x11, 0x12, 0x41, 0xF0].contains q

/-- An endpoint whose record fails its CRC (R40): nothing is processed against it, an operational record is written, the
record is reloaded from its NAND copy. -/
def State.badRecord (s : State) (r : Record) : State :=
  (s.logOp 0x300A r.tenant r.tag).modRecord r.tag fun r => { r with bad := false }

/-- A record of the part that was never used. -/
def Record.blank : Record :=
  { tag := 0, state := 0, ntype := 0, cell := 0, tenant := 0, naddr := 0, flags := 0, billingHome := 0, kekGen := 0,
    blob := none, upCounter := 0, lastHeard := 0, lastCell := 0, lastQuality := 0, heard := [], calendar := 0, phase := 0,
    node := 0xFFFF, score := 0, chanMask := 0, chanConfig := [], tamperCount := 0, tamperFirst := 0, tamperLast := 0,
    tamperCode := 0,
    summary := { outages := 0, restorations := 0, lastOutage := 0, lastRestoration := 0, alarms := 0, lastAlarmCode := 0,
                 lastAlarm := 0, flags := 0 },
    admittedAt := 0, moves := 0, serving := 0, bucket := 0, downPending := 0, downCounter := 0, prevTag := 0,
    removedAt := 0, slot := 0, scoreArmed := true, bad := false, counted := false }

end Sys2Proof.Machine
end

