-- ==== Sys2Proof/Machine/Tariff.lean ====
section
/-! DEFINITION. Calendars: UTC and leap seconds (R267), local civil time (R202), images and their validity (R196 to R201),
the rate and the friendly flag in force (R203, R227), boundaries (R209), price tables (R221). -/

namespace Sys2Proof.Machine

/-! ### UTC (R264, R267) -/

/-- The offset before the last leap, kept beside TaiUtcOffsetS in store 1 (R267). -/
abbrev Obj.prevOffset : Nat := 0x1803F0

/-- The billing TAI second of the last leap, 0 for none (R267). -/
abbrev Obj.lastLeap : Nat := 0x1803F1

/-- A leap instant that was already past when LeapSchedule was written, 0 for none: it never comes (R267). -/
abbrev Obj.skippedLeap : Nat := 0x1803F2

/-- Whether TaiUtcOffsetS is known (R267). -/
def State.offsetKnown (s : State) : Bool := decide (0 ≤ s.get Obj.taiUtcOffsetS)

/-- The leap of LeapSchedule not yet applied: its instant and new offset (R267). -/
def State.pendingLeap (s : State) : Option (Nat × Int) :=
  let w := s.nat Obj.leapSchedule
  let t := bits w 47 0
  let new := sgn 2 (w / 2 ^ 48)
  if t = 0 ∨ t = s.nat Obj.lastLeap ∨ t = s.nat Obj.skippedLeap ∨ new < 0 ∨ 255 < new then none else some (t, new)

/-- The TAI-UTC offset at a billing TAI second, 0 while it is unknown (R175, R267). -/
def State.offsetAt (s : State) (t : Nat) : Int :=
  if !s.offsetKnown then 0
  else
    match s.pendingLeap with
    | some (l, new) => if l ≤ t then new
        else if t < s.nat Obj.lastLeap then s.get Obj.prevOffset else s.get Obj.taiUtcOffsetS
    | none => if t < s.nat Obj.lastLeap then s.get Obj.prevOffset else s.get Obj.taiUtcOffsetS

/-- UTC seconds of a billing TAI second, and whether it is an inserted 23:59:60, which shares the count of 23:59:59. -/
def State.utcOf (s : State) (t : Nat) : Nat × Bool :=
  let o := s.offsetAt t
  if s.offsetAt (t + 1) = o + 1 then (((t : Int) - o - 1).toNat, true) else (((t : Int) - o).toNat, false)

/-- TAI seconds of a UTC date-time (R175); `leap` for an inserted second 23:59:60, whose count is the following 00:00:00. -/
def State.taiOfUtc (s : State) (u : Nat) (leap : Bool) : Nat :=
  let x : Int := (u : Int) - b2n leap
  if !s.offsetKnown then u
  else
    let cur := s.get Obj.taiUtcOffsetS
    let o := match s.pendingLeap with
      | some (l, new) => if (l : Int) - new ≤ x then new
          else if x < (s.nat Obj.lastLeap : Int) - cur then s.get Obj.prevOffset else cur
      | none => if x < (s.nat Obj.lastLeap : Int) - cur then s.get Obj.prevOffset else cur
    ((u : Int) + o).toNat

/-! ### Images (R196 to R199) -/

/-- The reserved fields of an image as (offset, size, reserved bits of each byte), 0xFF for a whole byte (R197, R198). -/
def imgReserved : List (Nat × Nat × Nat) :=
  [(13, 1, 0xFF), (60, 4, 0xFF), (1552, 44, 0xFF)] ++ ((List.range 4).map fun i => (64 + 4 * i + 3, 1, 0xFF)) ++
  ((List.range 8).map fun i => (80 + 8 * i + 7, 1, 0xFF)) ++ ((List.range 192).map fun i => (144 + 4 * i + 3, 1, 0xFE)) ++
  ((List.range 64).map fun i => (912 + 8 * i + 5, 3, 0xFF)) ++ ((List.range 32).map fun i => (1424 + 4 * i + 3, 1, 0xFF))

/-- The reserved bits of an image. -/
def imgReservedMask : Nat :=
  imgReserved.foldl (fun (m : Nat) (e : Nat × Nat × Nat) =>
    m + (List.range e.2.1).foldl (fun (n : Nat) (i : Nat) => n + e.2.2 * 256 ^ (e.1 + i)) 0) 0

/-- An image as it is kept: its reserved bits read as 0 (R13). -/
def imgUsed (g : Nat) : Nat := g &&& (256 ^ 1600 - 1 - imgReservedMask)

/-- The image of a calendar in a bank: 0 active, 1 passive, 2 retired; 0 where there is none. -/
def State.image (s : State) (bank c : Nat) : Nat :=
  if bank = 0 then s.nat (Obj.calendarActive c)
  else if bank = 1 then s.nat (Obj.calendarPassive c)
  else s.nat (Obj.calendarRetired c)

/-- ActivationTai of an image. -/
def imgActivation (g : Nat) : Nat := bytesAt g 22 6

/-- L of an image, at least 1. -/
def imgL (g : Nat) : Nat := Nat.max 1 (byteAt g 3)

/-- S of an image, at least 1. -/
def imgS (g : Nat) : Nat := Nat.max 1 (byteAt g 4)

/-- UtcOffsetMin of an image. -/
def imgUtcOffset (g : Nat) : Int := sgn 2 (bytesAt g 10 2)

/-- The quantity code of a billing channel (R195). -/
def imgQuantity (g b : Nat) : Nat := bytesAt g (52 + 2 * b) 2

/-- A passive image is present (R219): an ActivationTai other than 0. -/
def State.passive (s : State) (c : Nat) : Option Nat :=
  let g := s.image 1 c
  if imgActivation g = 0 then none else some g

/-- The image in force at a billing TAI second (R203). -/
def State.imageAt (s : State) (c t : Nat) : Option Nat :=
  let a := s.image 0 c
  if a = 0 then none
  else if t < imgActivation a ∧ s.image 2 c ≠ 0 then some (s.image 2 c)
  else some a

/-- Days in a month. -/
def monthDays (y m : Nat) : Nat :=
  if m = 2 then (if (y % 4 = 0 ∧ y % 100 ≠ 0) ∨ y % 400 = 0 then 29 else 28)
  else if m = 4 ∨ m = 6 ∨ m = 9 ∨ m = 11 then 30 else 31

/-- Whether a date exists in some year, 29 February included. -/
def dayExists (m d : Nat) : Bool := Nat.ble 1 m && Nat.ble m 12 && Nat.ble 1 d && Nat.ble d (monthDays 2000 m)

/-- The local day on which a daylight-saving rule falls in a year: month, week (5 the last) and weekday. -/
def ruleDay (y m wk wd : Nat) : Nat :=
  let first := daysFromCivil y m 1
  let d := 1 + (wd - 1 + 7 - weekday first) % 7
  let d := if wk = 5 then (if d + 28 ≤ monthDays y m then d + 28 else d + 21) else d + 7 * (wk - 1)
  first + d - 1

/-- UTC seconds of a daylight-saving rule in a year, its hour taken at an offset from UTC in minutes. -/
def ruleUtc (y rule : Nat) (off : Int) : Int :=
  (ruleDay y (byteAt rule 0) (byteAt rule 1) (byteAt rule 2) : Int) * 86400 + (byteAt rule 3 : Int) * 3600 - off * 60

/-- Local civil time. `hold`: in the second occurrence of a repeated hour, the last minute of day whose switching points
have already taken effect (R202). -/
structure LocalTime where
  year : Nat
  month : Nat
  day : Nat
  minute : Nat
  wd : Nat
  hold : Option Nat
  sec : Nat
deriving DecidableEq, Repr

/-- Local civil time of UTC seconds under an image (R202). -/
def localOf (g u : Nat) (leap : Bool) : LocalTime :=
  let off := imgUtcOffset g
  let dst := byteAt g 12
  let std := (u : Int) + off * 60
  let y := (civilFromDays (std / 86400).toNat).1
  let st := ruleUtc y (bytesAt g 14 4) off
  let en := ruleUtc y (bytesAt g 18 4) (off + dst)
  let on := if dst = 0 then false
    else if st ≤ en then decide (st ≤ u) && decide ((u : Int) < en) else decide (st ≤ u) || decide ((u : Int) < en)
  let again := dst != 0 && !on && decide (en ≤ u) && decide ((u : Int) < en + dst * 60)
  let loc := (if on then std + dst * 60 else std).toNat
  let c := civilFromDays (loc / 86400)
  { year := c.1, month := c.2.1, day := c.2.2, minute := loc % 86400 / 60, wd := weekday (loc / 86400),
    hold := if again then some ((byteAt (bytesAt g 18 4) 3 * 60 + 1439) % 1440) else none,
    sec := if leap then 60 else loc % 60 }

/-- Local civil time of a billing TAI second under an image. -/
def State.localAt (s : State) (g t : Nat) : LocalTime :=
  let (u, leap) := s.utcOf t
  localOf g u leap

/-- Seasons of an image: (start month, start day, week profile), those used. -/
def imgSeasons (g : Nat) : List (Nat × Nat × Nat) :=
  ((List.range 4).map fun i => (byteAt g (64 + 4 * i), byteAt g (65 + 4 * i), byteAt g (66 + 4 * i))).filter
    fun e => e.1 != 0

/-- The day profile of a local date (R203). -/
def dayProfile (g : Nat) (l : LocalTime) : Nat :=
  let dated := (List.range 64).find? fun i =>
    bytesAt g (912 + 8 * i) 2 == l.year && byteAt g (914 + 8 * i) == l.month && byteAt g (915 + 8 * i) == l.day
  match dated with
  | some i => byteAt g (916 + 8 * i)
  | none =>
    match (List.range 32).find? fun i => byteAt g (1424 + 4 * i) == l.month && byteAt g (1425 + 4 * i) == l.day with
    | some i => byteAt g (1426 + 4 * i)
    | none =>
      let ss := imgSeasons g
      let key (e : Nat × Nat × Nat) : Nat := e.1 * 32 + e.2.1
      let latest (es : List (Nat × Nat × Nat)) : Option (Nat × Nat × Nat) :=
        es.foldl (fun (b : Option (Nat × Nat × Nat)) (e : Nat × Nat × Nat) =>
          match b with
          | none => some e
          | some x => if key x < key e then some e else some x) none
      let wk := match latest (ss.filter fun e => Nat.ble (key e) (l.month * 32 + l.day)) with
        | some e => e.2.2
        | none => ((latest ss).map (·.2.2)).getD 0
      byteAt g (80 + 8 * wk + l.wd)

/-- The switching point that a local time selects (R203): its rate and PointFlags; none where the day profile has no point at
or before the minute. -/
def pointOf (g : Nat) (l : LocalTime) : Option (Nat × Nat) :=
  let d := dayProfile g l
  let lim := Nat.max l.minute (l.hold.getD 0)
  let pts := (List.range 12).filter fun i =>
    let m := bytesAt g (144 + 48 * d + 4 * i) 2
    m != 0xFFFF && Nat.ble m lim
  pts.getLast?.map fun i => (byteAt g (146 + 48 * d + 4 * i), byteAt g (147 + 48 * d + 4 * i))

/-! ### Rate and friendly hours (R203, R217, R227) -/

/-- Whether a billing TAI instant in ns lies in an invalid span (R217). -/
def State.inSpan (s : State) (b : Nat) : Bool :=
  s.nand.spans.any fun e => Nat.ble e.1 b && (match e.2 with | none => true | some f => Nat.blt b f)

/-- Whether [a, b) in billing TAI seconds overlaps an invalid span (R217). -/
def State.overlapsSpan (s : State) (a b : Nat) : Bool :=
  s.nand.spans.any fun e => decide (e.1 < b * nsPerS) &&
    (match e.2 with | none => true | some f => decide (a * nsPerS < f))

/-- DefaultRate of the image in force (R217). -/
def State.defaultRate (s : State) (c t : Nat) : Nat := ((s.imageAt c t).map fun g => byteAt g 8).getD 0

/-- rate_at(c, t) of R203. -/
def State.rateAt (s : State) (c t : Nat) : Nat :=
  if s.inSpan (t * nsPerS) then s.defaultRate c t
  else
    match s.imageAt c t with
    | none => 0
    | some g => ((pointOf g (s.localAt g t)).map (·.1)).getD (byteAt g 8)

/-- Whether a billing TAI second is friendly by the calendar alone (R227). -/
def State.friendlyPoint (s : State) (c t : Nat) : Bool :=
  match s.imageAt c t with
  | none => false
  | some g => ((pointOf g (s.localAt g t)).map fun p => bit p.2 0).getD false

/-- Whether an instant is friendly (R227): every instant is while the billing clock is free-running or invalid. -/
def State.friendly (s : State) (c t : Nat) : Bool := Nat.ble 2 s.clock || s.friendlyPoint c t

/-- ChangeTai of a table. -/
def tableChange (w : Nat) : Nat := bytesAt w 264 6

/-! ### Boundaries (R201, R202, R209) -/

/-- The first billing TAI second from t at which a UTC minute begins whose count is a multiple of 5: S, L, CloseMinute and every
local offset are multiples of 5 minutes. -/
def State.fiveMinutes (s : State) : Nat → Nat → Nat
  | 0, t => t
  | n + 1, t =>
    let (u, leap) := s.utcOf t
    if !leap && u % 300 == 0 then t
    else if leap || u % 60 == 59 then s.fiveMinutes n (t + 1)
    else s.fiveMinutes n (t + Nat.max 1 (Nat.min (299 - u % 300) (59 - u % 60)))

/-- What begins at a second under the calendar (R202, R209): a demand boundary, a period close, a local midnight. -/
def State.marksAt (s : State) (c t : Nat) : Bool × Bool × Bool :=
  match s.imageAt c t with
  | none => (false, false, false)
  | some g =>
    let l := s.localAt g t
    let p := s.localAt ((s.imageAt c (t - 1)).getD g) (t - 1)
    let demand := l.sec == 0 && l.minute % imgS g == 0
    let sameDay := p.year == l.year && p.month == l.month && p.day == l.day
    let cm := bytesAt g 6 2
    let closes (x : LocalTime) : Bool := x.day == (if byteAt g 5 = 0 then monthDays x.year x.month else byteAt g 5)
    let jumped := if sameDay then closes l && decide (p.minute < cm) && decide (cm < l.minute)
      else (closes p && decide (p.minute < cm)) || (closes l && decide (cm < l.minute))
    let close := l.sec == 0 && l.hold.isNone && ((closes l && l.minute == cm) || jumped)
    let midnight := l.hold.isNone && !sameDay && decide (p.year * 512 + p.month * 32 + p.day <
      l.year * 512 + l.month * 32 + l.day)
    (demand, close, midnight)

/-- The instants waiting for a calendar beside its marks: the activation of the passive image, that of an active image written
(R201), and the ChangeTai of the pending price table (R221). -/
def State.activations (s : State) (c : Nat) : List Nat :=
  ((s.passive c).map imgActivation).toList ++ ((tget s.nand.cals c).bind (·.activate)).toList ++
  (if tableChange (s.nat (Obj.pricePending c)) = 0 then [] else [tableChange (s.nat (Obj.pricePending c))])

/-- The first boundary of a calendar after a second, from its active image: candidates every five minutes. -/
def State.nextMark (s : State) (c : Nat) : Nat → Nat → Option Nat
  | 0, _ => none
  | n + 1, t =>
    let x := s.fiveMinutes 14 (t + 1)
    let m := s.marksAt c x
    if m.1 || m.2.1 || m.2.2 then some x else s.nextMark c n x

/-- The first boundary of a calendar after a second (R209), none where it has none. -/
def State.nextBoundary (s : State) (c t : Nat) : Option Nat :=
  let act := ((s.activations c).filter (Nat.blt t ·)).foldl
    (fun (b : Option Nat) (x : Nat) => some (match b with | none => x | some y => Nat.min x y)) none
  let mark := if s.image 0 c = 0 then none else s.nextMark c 40 t
  match act, mark with
  | some a, some m => some (Nat.min a m)
  | some a, none => some a
  | none, m => m

/-- Whether an instant begins a local minute that is a multiple of L (R201). -/
def State.onL (s : State) (g t : Nat) : Bool :=
  let l := s.localAt g t
  l.sec == 0 && l.minute % imgL g == 0

/-- Whether an activation instant suits an image and the image it replaces (R201). -/
def State.suits (s : State) (g active t : Nat) : Bool := s.onL g t && (active == 0 || s.onL active t)

/-- The next instant after t that suits an image and the one it replaces (R201). -/
def State.nextSuits (s : State) (g active : Nat) : Nat → Nat → Option Nat
  | 0, _ => none
  | n + 1, t =>
    let x := s.fiveMinutes 14 (t + 1)
    if s.suits g active x then some x else s.nextSuits g active n x

/-- The start of the next friendly span after t (R227, R228): found at the calendar's demand boundaries. -/
def State.nextFriendly (s : State) (c : Nat) : Nat → Nat → Option Nat
  | 0, _ => none
  | n + 1, t =>
    match s.nextMark c 40 t with
    | none => none
    | some x => if s.friendlyPoint c x then some x else s.nextFriendly c n x

/-! ### Validity (R199) -/

/-- The checks of a calendar image in ascending offset: (byte offset, whether it holds). -/
def imageChecks (g : Nat) : List (Nat × Bool) :=
  let L := byteAt g 3
  let S := byteAt g 4
  let mode := byteAt g 2
  let rates := byteAt g 9
  let dst := byteAt g 12
  let rule (o : Nat) : List (Nat × Bool) :=
    if dst = 0 then []
    else [(o, Nat.ble 1 (byteAt g o) && Nat.ble (byteAt g o) 12), (o + 1, Nat.ble 1 (byteAt g (o + 1)) && Nat.ble (byteAt g (o + 1)) 5),
      (o + 2, Nat.ble 1 (byteAt g (o + 2)) && Nat.ble (byteAt g (o + 2)) 7), (o + 3, Nat.ble (byteAt g (o + 3)) 23)]
  let seasons := (List.range 4).map fun i => (64 + 4 * i, byteAt g (64 + 4 * i), byteAt g (65 + 4 * i), byteAt g (66 + 4 * i))
  let used := seasons.filter fun e => e.2.1 != 0
  let dayUsed (d : Nat) : Bool :=
    ((List.range 8).any fun w => (List.range 7).any fun k => byteAt g (80 + 8 * w + k) == d) ||
    ((List.range 64).any fun i => bytesAt g (912 + 8 * i) 2 != 0 && byteAt g (916 + 8 * i) == d) ||
    ((List.range 32).any fun i => byteAt g (1424 + 4 * i) != 0 && byteAt g (1426 + 4 * i) == d)
  let point (d i : Nat) : List (Nat × Bool) :=
    let o := 144 + 48 * d + 4 * i
    let m := bytesAt g o 2
    let prev := if i = 0 then 0 else bytesAt g (o - 4) 2
    let order := if i = 0 then (!dayUsed d || m == 0) else (m == 0xFFFF || (prev != 0xFFFF && Nat.blt prev m))
    [(o, (m == 0xFFFF || (Nat.ble m 1439 && m % Nat.max 1 S == 0)) && order), (o + 2, m == 0xFFFF || Nat.blt (byteAt g (o + 2)) rates)]
  [(1, byteAt g 1 == 1), (2, Nat.ble mode 1), (3, [5, 10, 15, 30, 60].contains L),
   (4, if mode = 1 then [5, 10, 15, 30].contains S && L % Nat.max 1 S == 0 && Nat.ble 2 (L / Nat.max 1 S) && Nat.ble (L / Nat.max 1 S) 12
       else S == L),
   (5, Nat.ble (byteAt g 5) 28), (6, Nat.ble (bytesAt g 6 2) 1439 && bytesAt g 6 2 % Nat.max 1 L == 0),
   (8, Nat.blt (byteAt g 8) rates), (9, Nat.ble 1 rates && Nat.ble rates 8),
   (10, decide (-720 ≤ imgUtcOffset g) && decide (imgUtcOffset g ≤ 840) && decide (imgUtcOffset g % 15 = 0)),
   (12, dst == 0 || (Nat.ble 15 dst && Nat.ble dst 120 && dst % 15 == 0))] ++ rule 14 ++ rule 18 ++
  ((List.range 4).map fun b => (52 + 2 * b, imgQuantity g b == 0 || [1, 2, 3, 4, 0x30, 0x31, 0x40].contains (imgQuantity g b))) ++
  [(64, !used.isEmpty)] ++
  (seasons.flatMap fun e =>
    [(e.1, e.2.1 == 0 || (dayExists e.2.1 e.2.2.1 &&
        (seasons.filter fun f => f.1 < e.1 && f.2.1 == e.2.1 && f.2.2.1 == e.2.2.1).isEmpty)),
     (e.1 + 2, e.2.1 == 0 || Nat.ble e.2.2.2 7)]) ++
  ((List.range 56).map fun i => (80 + 8 * (i / 7) + i % 7, Nat.ble (byteAt g (80 + 8 * (i / 7) + i % 7)) 15)) ++
  ((List.range 16).flatMap fun d => (List.range 12).flatMap (point d)) ++
  ((List.range 64).flatMap fun i =>
    let o := 912 + 8 * i
    let y := bytesAt g o 2
    if y = 0 then [] else [(o, Nat.ble 2000 y && Nat.ble y 2199),
      (o + 2, Nat.ble 1 (byteAt g (o + 2)) && Nat.ble (byteAt g (o + 2)) 12),
      (o + 3, Nat.ble 1 (byteAt g (o + 3)) && Nat.ble (byteAt g (o + 3)) (monthDays y (byteAt g (o + 2)))), (o + 4, Nat.ble (byteAt g (o + 4)) 15)]) ++
  ((List.range 32).flatMap fun i =>
    let o := 1424 + 4 * i
    if byteAt g o = 0 then [] else [(o, Nat.ble (byteAt g o) 12), (o + 1, dayExists (byteAt g o) (byteAt g (o + 1))),
      (o + 2, Nat.ble (byteAt g (o + 2)) 15)]) ++
  [(1596, bytesAt g 1596 4 == crcOf 1596 g)]

/-- The byte offset of the first field of an image that fails R199, none for a valid image. -/
def imageFails (g : Nat) : Option Nat := (imageChecks g).findSome? fun e => if e.2 then none else some e.1

/-- An image with its ActivationTai and its CRC set. -/
def imgWithActivation (g t : Nat) : Nat :=
  let body := g % 256 ^ 22 + 256 ^ 22 * (t % 256 ^ 6) + 256 ^ 28 * (g / 256 ^ 28 % 256 ^ 1568)
  body + 256 ^ 1596 * crcOf 1596 body

/-- An image with its SourceCounter and its CRC set (R197). -/
def imgWithSource (g n : Nat) : Nat :=
  let body := g % 256 ^ 28 + 256 ^ 28 * (n % 256 ^ 8) + 256 ^ 36 * (g / 256 ^ 36 % 256 ^ 1560)
  body + 256 ^ 1596 * crcOf 1596 body

/-! ### Prices (R221, R222) -/

/-- A price of a table: billing channel b, rate r. -/
def tablePrice (w b r : Nat) : Int := sgn 8 (bytesAt w (8 * (8 * b + r)) 8)

/-- StandingChargeDaily of a table. -/
def tableStanding (w : Nat) : Int := sgn 8 (bytesAt w 256 8)

/-- The price table in force at a billing TAI second, and whether the second lies before the previous table's ChangeTai
(R222). -/
def State.tableAt (s : State) (c t : Nat) : Nat × Bool :=
  let cur := s.nat (Obj.priceCurrent c)
  if tableChange cur ≤ t then (cur, false)
  else
    let prev := s.nat (Obj.pricePrevious c)
    (prev, decide (t < tableChange prev))

/-- What Booth keeps for a calendar, blank where it keeps nothing. -/
def State.calState (s : State) (c : Nat) : CalState :=
  (tget s.nand.cals c).getD { w := 0, period := 0, periodStart := 0, last := 0, commits := [], sweep := [], sweepAt := 0, sweepFrom := 0,
                               swept := 0, closedAt := 0, closedIn := 0, activate := none, written := 0 }

/-- What Booth keeps for a calendar changed. -/
def State.modCal (s : State) (c : Nat) (f : CalState → CalState) : State :=
  { s with nand.cals := tput s.nand.cals c (f (s.calState c)) }

end Sys2Proof.Machine
end

