-- ==== Sys2Proof/Machine/Items.lean ====
section
/-! DEFINITION. Staged downlink items (R93 to R95), switching requests and what the gate keeps of them (R231, R399, R401). -/

namespace Sys2Proof.Machine

/-- A value held in an n-byte two's complement field; one that falls outside it is a free value of that field. -/
def State.fitInt (s : State) (n : Nat) (v : Int) : Int × State :=
  if decide (-(256 ^ n / 2 : Nat) ≤ v) && decide (v < (256 ^ n / 2 : Nat)) then (v, s)
  else
    let (x, s) := s.draw
    (sgn n x, s)

/-- The items staged for an endpoint. -/
def State.itemsOf (s : State) (tag : Nat) : List Item := s.nand.items.filter fun i => i.tag == tag

/-- StagedItems and DownlinkPending follow the items held (R40, R104). -/
def State.countItems (s : State) (tag : Nat) : State :=
  let n := (s.itemsOf tag).length
  (s.modRecord tag fun r => { r with downPending := n }).set Obj.stagedItems s.nand.items.length

/-- Whether one more item fits the part and its endpoint (R94). -/
def State.itemRoom (s : State) (tag : Nat) : Bool :=
  Nat.blt s.nand.items.length 262144 && Nat.blt (s.itemsOf tag).length (s.nat Obj.stageMaxPerEndpoint)

/-- An item staged under the next StageSequence (R93, R94): 128 bytes committed. -/
def State.stage (s : State) (i : Item) : Nat × State :=
  let n := s.nand.stageSeq + 1
  let s := { s with nand.items := s.nand.items ++ [{ i with seq := n }], nand.stageSeq := n }
  (n, (s.countItems i.tag).commit 128 1)

/-- An item taken out of the store. -/
def State.unstage (s : State) (seq tag : Nat) : State :=
  { s with nand.items := s.nand.items.filter fun i => i.seq != seq }.countItems tag

/-- The switching-outcome notice of R401: outcome 1 acknowledged, 2 expired, 3 abandoned, 4 withdrawn (R292). -/
def State.switchOutcome (s : State) (q : SwitchReq) (outcome : Nat) : State :=
  s.notice q.tenant 0x0102 outcome
    (pack [(4, q.seq), (8, if q.kind = 4 then 0 else q.tag), (8, q.reference), (6, s.tai), (1, q.kind), (1, 0)])

/-- TurnstileFlags bit b of an endpoint cleared (R228, R230). -/
def State.clearTurnFlag (s : State) (tag b : Nat) : State :=
  { s with nand.bills := tmod s.nand.bills tag fun (x : Bill) => { x with turn.flags := setBit x.turn.flags b false } }

/-- A switching request is over (R228, R230, R401): the gate drops the digest, the tenant's uplink gets the outcome, and a
Turnstile disconnect that is not acknowledged frees the endpoint to form another. -/
def State.endRequest (s : State) (q : SwitchReq) (stage outcome : Nat) : State :=
  let s := { s with gate.kept := s.gate.kept.filter fun e => e.1 != stage }
  let s := if q.origin = 1 ∧ q.kind = 1 then s.clearTurnFlag q.tag 0 else s
  s.switchOutcome q outcome

/-- An item leaves unacknowledged (R95): it is written to the operational log; one of class 2 is reported to the gate. -/
def State.dropItem (s : State) (i : Item) (outcome : Nat) : State :=
  let s := s.unstage i.seq i.tag
  let tenant := ((s.record i.tag).map (·.tenant)).getD 0xFF
  let s := s.logOp 0x3008 tenant (pack [(8, i.tag), (4, i.seq), (1, i.cls), (1, outcome)])
  match i.request with
  | some q => s.endRequest q i.seq outcome
  | none => s

/-- A request withdrawn by Turnstile or the gate (R233, R399, R403): from the gate's queue or the stage, unless a modulator
holds the item, or where `unsent` is asked it was already sent. The count tells how many were withdrawn. -/
def State.withdrawRequests (s : State) (unsent : Bool) (p : SwitchReq → Bool) : Nat × State :=
  let qs := s.gate.queue.filter p
  let s := { s with gate.queue := s.gate.queue.filter fun q => !p q }
  let s := qs.foldl (fun (s : State) (q : SwitchReq) => s.endRequest q 0 4) s
  let is := s.nand.items.filter fun i => !i.held && !(unsent && i.sends != 0) && (i.request.map p).getD false
  let s := is.foldl (fun (s : State) (i : Item) => s.dropItem i 4) s
  (qs.length + is.length, s)

/-- The next RequestSequence (R231). -/
def State.nextRequest (s : State) : Nat × State :=
  let n := s.nand.requestSeq + 1
  (n, { s with nand.requestSeq := n })

/-- A request handed to the gate, load shed first (R231, R397). -/
def State.submit (s : State) (q : SwitchReq) : State :=
  if q.kind = 4 then { s with gate.queue := (s.gate.queue.filter (·.kind == 4)) ++ [q] ++ (s.gate.queue.filter (·.kind != 4)) }
  else { s with gate.queue := s.gate.queue ++ [q] }

/-- Whether an endpoint is a DLMS/COSEM endpoint, which alone can be switched (R231): NativeType 2 carries EN 13757-3. -/
def Record.dlms (r : Record) : Bool := r.ntype != 2

/-- A Turnstile request (R228, R230, R231): it takes the next RequestSequence, which the endpoint's Turnstile area keeps. -/
def State.turnRequest (s : State) (r : Record) (kind expiry : Nat) : State :=
  let (n, s) := s.nextRequest
  let s := { s with nand.bills := tmod s.nand.bills r.tag fun (x : Bill) => { x with turn.switchSeq := n } }
  s.submit { seq := n, origin := 1, kind, tenant := r.tenant, tag := r.tag, flags := 0, notBefore := s.billSec, expiry,
             limitW := 0, durationS := 0, cellMask := 0, reference := 0, formed := s.now }

end Sys2Proof.Machine
end

