-- ==== Sys2Proof/Machine/Credit.lean ====
section
/-! DEFINITION. Turnstile (R220 to R234): charging, credit states, emergency credit, the requests it forms. -/

namespace Sys2Proof.Machine

/-- An endpoint's billing state. -/
def State.bill (s : State) (tag : Nat) : Option Bill := tget s.nand.bills tag

/-- An endpoint's billing state changed. -/
def State.modBill (s : State) (tag : Nat) (f : Bill → Bill) : State := { s with nand.bills := tmod s.nand.bills tag f }

/-- The charge q of a consumption d at price p and scale sc (R222): exact, rounded toward zero for a negative scale. -/
def chargeOf (d p sc : Int) : Int :=
  if 0 ≤ sc then d * p * (10 ^ sc.toNat : Nat) else Int.tdiv (d * p) (10 ^ (-sc).toNat : Nat)

/-- The largest I64. -/
abbrev i64Max : Int := 9223372036854775807

/-- Credit moved by -x (R222): saturating, with TurnstileFlags bit 3; true when it saturated. -/
def Turn.debit (t : Turn) (x : Int) : Turn × Bool :=
  let c := t.credit - x
  if c < -i64Max - 1 then ({ t with credit := -i64Max - 1, flags := setBit t.flags 3 true }, true)
  else if i64Max < c then ({ t with credit := i64Max, flags := setBit t.flags 3 true }, true)
  else ({ t with credit := c }, false)

/-- The saturation record of R222. -/
def State.saturated (s : State) (r : Record) : State := s.logOp 0x300E r.tenant r.tag

/-- A charge of q units of 10^-6 milli-currency (R222). -/
def State.charge (s : State) (r : Record) (q : Int) : State :=
  match s.bill r.tag with
  | none => s
  | some b =>
    let t := (b.turn.remainder : Int) + q
    let whole := t / 1000000
    let (turn, sat) := b.turn.debit whole
    let (spend, s) := s.fitInt 8 (b.turn.spend + whole)
    let turn := { turn with remainder := (t - 1000000 * whole).toNat, spend := spend }
    let s := s.modBill r.tag fun (x : Bill) => { x with turn := turn }
    if sat then s.saturated r else s

/-- The standing charge of a local day (R223). -/
def State.standing (s : State) (r : Record) (x : Int) : State :=
  match s.bill r.tag with
  | none => s
  | some b =>
    let (turn, sat) := b.turn.debit x
    let (spend, s) := s.fitInt 8 (b.turn.spend + x)
    let s := s.modBill r.tag fun (y : Bill) => { y with turn := { turn with spend := spend } }
    if sat then s.saturated r else s

/-- The credit state that a Turnstile area goes to (R225), its emergency credit as it stands after R226. -/
def creditNext (t : Turn) (low k : Int) (mode : Nat) : Nat :=
  let up : Nat := if low ≤ t.credit then 0 else 1
  if t.state = 5 ∨ t.state = 4 then (if 0 < t.credit ∧ k ≤ t.credit then up else t.state)
  else if low ≤ t.credit then 0
  else if 0 < t.credit then 1
  else if mode = 2 ∧ bit t.flags 2 = false then 2
  else if bit t.flags 2 ∧ -t.granted < t.credit then 3
  else 4

/-- An automatic grant of emergency credit, and the end of an episode (R226). -/
def emergencyStep (t : Turn) (limit : Int) (mode : Nat) : Turn :=
  if 0 < t.credit then { t with granted := 0, flags := setBit t.flags 2 false }
  else if mode = 1 ∧ t.state ≤ 3 ∧ bit t.flags 2 = false then { t with granted := limit, flags := setBit t.flags 2 true }
  else t

/-- The uplink notice of a credit state (R225, R292), bytes 4 to 31. -/
def creditNotice (r : Record) (old : Nat) (t : Turn) : Nat :=
  pack [(1, old), (3, 0), (8, r.tag), (8, enc 8 t.credit), (6, t.since), (2, 0)]

/-- A reconnect formed at once, unless lock-out is set (R229, R230). -/
def State.formReconnect (s : State) (r : Record) : State :=
  if r.flag 3 then s else s.turnRequest r 2 (s.billSec + s.nat (Obj.disconnectExpiryS r.tenant))

/-- A change of CreditState at an instant (R225, R230, R233): StateSince, a class 3 credit notice for the endpoint, an uplink
record; out of state 5 a reconnect is due, out of state 4 a pending disconnect is withdrawn. -/
def State.creditMove (s : State) (r : Record) (old new at_ : Nat) : State :=
  let s := s.modBill r.tag fun (x : Bill) => { x with turn := { x.turn with state := new, since := at_ } }
  match s.bill r.tag with
  | none => s
  | some b =>
    let rest := creditNotice r old b.turn
    let notice := pack [(2, 0x0104), (1, r.tenant), (1, new), (28, rest)]
    let item : Item :=
      { seq := 0, tag := r.tag, cls := 3, prio := 3, length := 32, notBefore := s.tai, expiry := 281474976710655,
        sends := 0, flags := 0, payload := notice, held := false, request := none }
    let s := if s.itemRoom r.tag then (s.stage item).2 else s
    let s := s.notice r.tenant 0x0104 new rest
    if old = 5 ∧ new < 2 then
      let s := s.modBill r.tag fun (x : Bill) => { x with turn.flags := setBit x.turn.flags 1 true }
      s.formReconnect r
    else if old = 4 ∧ new < 2 then
      let (n, s) := s.withdrawRequests true fun q => q.tag == r.tag && q.kind == 1 && q.origin == 1
      s.bumpBy Obj.switchWithdrawn n
    else s

/-- CreditState after a charge, a debt change or a boundary at an instant (R225, R226). -/
def State.creditUpdate (s : State) (r : Record) (at_ : Nat) : State :=
  if !r.flag 6 then s
  else
    match s.bill r.tag with
    | none => s
    | some b =>
      let mode := s.nat (Obj.emergencyMode r.tenant)
      let t := emergencyStep b.turn (s.get (Obj.emergencyLimit r.tenant)) mode
      let s := s.modBill r.tag fun (x : Bill) => { x with turn := t }
      let new := creditNext t (s.get (Obj.lowCreditThreshold r.tenant)) (s.get (Obj.reconnectThreshold r.tenant)) mode
      if new = t.state then s else s.creditMove r t.state new at_

/-- The test of R228: a disconnect request for an exhausted endpoint; one that friendliness alone stops is counted. -/
def State.disconnectTest (s : State) (r : Record) : State :=
  match s.bill r.tag with
  | none => s
  | some b =>
    let now := s.billSec
    if !(r.flag 6 && b.turn.state == 4 && !bit b.turn.flags 0 && r.dlms &&
        Nat.ble (b.turn.since + s.nat (Obj.disconnectDelayS r.tenant)) now) then s
    else if s.friendly b.calendar now then s.bump Obj.disconnectsWithheld
    else
      let lapse := now + s.nat (Obj.disconnectExpiryS r.tenant)
      let expiry := match s.nextFriendly b.calendar 1024 now with
        | some f => Nat.min f lapse
        | none => lapse
      let s := s.modBill r.tag fun (x : Bill) => { x with turn.flags := setBit x.turn.flags 0 true }
      (s.turnRequest r 1 expiry).bump Obj.disconnectsRequested

/-- A grant of emergency credit on acceptance in state 2 (R226). -/
def State.acceptEmergency (s : State) (r : Record) : State :=
  match s.bill r.tag with
  | none => s
  | some b =>
    if !(r.flag 6 && b.turn.state == 2) then s
    else
      let e := s.get (Obj.emergencyLimit r.tenant)
      let s := s.modBill r.tag fun (x : Bill) =>
        { x with turn := { x.turn with granted := e, flags := setBit x.turn.flags 2 true } }
      s.creditUpdate r s.billSec

/-- The acknowledgement by an endpoint of a released disconnect or reconnect (R225, R230). A disconnect that Turnstile did not
request leaves CreditState. -/
def State.switchAcked (s : State) (r : Record) (q : SwitchReq) : State :=
  match s.bill r.tag with
  | none => s
  | some b =>
    if q.kind = 2 then s.modBill r.tag fun (x : Bill) => { x with turn.flags := setBit x.turn.flags 1 false }
    else if q.kind = 1 then
      let s := s.modBill r.tag fun (x : Bill) => { x with turn.flags := setBit (setBit x.turn.flags 1 false) 0 false }
      if q.origin = 1 ∧ r.flag 6 then
        if b.turn.state = 4 then s.creditMove r 4 5 s.billSec
        else
          let s := s.modBill r.tag fun (x : Bill) => { x with turn.flags := setBit x.turn.flags 1 true }
          s.formReconnect r
      else s
    else s

end Sys2Proof.Machine
end

