-- ==== Sys2Proof/Machine/Booth.lean ====
section
/-! DEFINITION. Booth's registers, demand and boundaries as they act on one endpoint (R195, R204 to R214, R217, R218). -/

namespace Sys2Proof.Machine

/-- The billing state that an endpoint opens with (R45, R205, R220): every value 0, the tenant's default recovery share. -/
def Bill.opened (tag calendar last : Nat) : Bill :=
  { tag, calendar, rate := 0, flags := 0, period := 0, lastBoundary := last, energy := List.replicate 32 0,
    demand := List.replicate 8 (0, 0), ringBase := last / 60, ring := List.replicate 12 0, ringOff := 0,
    ringNoDemand := 0, seed := 0,
    turn := { credit := 0, granted := 0, debt := 0, topUpCounter := 0, lastTopUp := 0, since := 0, state := 0, flags := 0,
              share := 0xFFFF, spend := 0, switchSeq := 0, lastAmount := 0, remainder := 0 } }

/-- The Turnstile area as its 72 bytes (R220). -/
def Turn.pack (t : Turn) : Nat :=
  Machine.pack [(8, enc 8 t.credit), (8, enc 8 t.granted), (8, enc 8 t.debt), (8, t.topUpCounter), (6, t.lastTopUp),
    (6, t.since), (1, t.state), (1, t.flags), (2, t.share), (8, enc 8 t.spend), (4, t.switchSeq), (8, enc 8 t.lastAmount),
    (4, t.remainder)]

/-- Energy registers and demand as bytes (R205). -/
def Bill.registers (b : Bill) : Nat :=
  Machine.pack (((List.range 32).map fun i => (8, enc 8 (b.energy.getD i 0))) ++
    ((List.range 8).flatMap fun i => [(8, enc 8 (b.demand.getD i (0, 0)).1), (4, (b.demand.getD i (0, 0)).2)]))

/-- The billing state as its 512 bytes (R205). -/
def Bill.pack (b : Bill) : Nat :=
  let w := Machine.pack ([(8, b.tag), (1, b.calendar), (1, b.rate), (2, b.flags), (4, b.period), (6, b.lastBoundary), (2, 0),
      (352, b.registers), (4, b.ringBase)] ++ ((List.range 12).map fun i => (4, enc 4 (b.ring.getD i 0))) ++
    [(2, b.ringOff), (2, b.ringNoDemand), (4, b.seed), (72, b.turn.pack)])
  w + 256 ^ 508 * crcOf 508 w

/-- The billing snapshot as its 512 bytes (R213). -/
def Shot.pack (x : Shot) : Nat :=
  let w := Machine.pack [(8, x.bill.tag), (4, x.bill.period), (1, x.bill.calendar), (1, x.bill.flags % 16), (2, 0), (6, x.start),
    (6, x.fin), (4, 0), (352, x.bill.registers), (72, x.bill.turn.pack), (52, 0)]
  w + 256 ^ 508 * crcOf 508 w

/-- The period open for an endpoint: its number in the calendar and its start; until its sweep step that is the period which
the sweep closes (R212). -/
def State.openPeriod (s : State) (b : Bill) : Nat × Nat :=
  let k := s.calState b.calendar
  if k.sweep.contains b.tag then (k.period - 1, k.sweepFrom) else (k.period, k.periodStart)

/-! ### Demand (R206 to R208) -/

/-- The UTC second at which the newest sub-interval of an endpoint's ring starts (R205): the one of RingBaseMinute that begins a UTC
minute, as every demand boundary does (R202). -/
def State.ringStart (s : State) (b : Bill) : Nat :=
  let u := (s.utcOf (b.ringBase * 60 + 59)).1
  u - u % 60

/-- The start in billing TAI seconds of sub-interval k of an endpoint's ring: sub-intervals are S minutes of UTC, so that one
with a leap second keeps its place. -/
def State.subStart (s : State) (b : Bill) (S k : Nat) : Nat := s.taiOfUtc (s.ringStart b - k * S * 60) false

/-- The window that ends with closed sub-interval j (R207): evaluated when it lies wholly in the ring and no entry of it has
its RingNoDemand bit set. -/
def State.evalWindow (s : State) (b : Bill) (j : Nat) : Bill :=
  match s.imageAt b.calendar b.lastBoundary with
  | none => b
  | some g =>
    let S := imgS g
    let n := if byteAt g 2 = 1 then imgL g / S else 1
    let ks := (List.range n).map (· + j)
    if 12 < j + n || ks.any fun k => bit b.ringNoDemand k then b
    else
      let sum := ks.foldl (fun (t : Int) (k : Nat) => t + b.ring.getD k 0) 0
      let d := sum * 60 / (imgL g : Int)
      let r := s.rateAt b.calendar (s.subStart b S (j + n - 1))
      if (b.demand.getD r (0, 0)).1 < d then
        { b with demand := b.demand.set r (d, (s.subStart b S (j - 1) - (s.openPeriod b).2) / 60) }
      else b

/-- A consumption of billing channel 0 enters the demand ring (R206, R208), or is counted. -/
def State.demandAdd (s : State) (tag start fin interval : Nat) (delta : Int) : State :=
  match s.bill tag with
  | none => s
  | some b =>
    match s.imageAt b.calendar b.lastBoundary with
    | none => s.bump Obj.demandMisaligned
    | some g =>
      let S := imgS g
      let ub := s.ringStart b
      let us := (s.utcOf start).1
      let ue := (s.utcOf fin).1
      let k := if ub ≤ us then 0 else ceilDiv (ub - us) (S * 60)
      let a := ub - k * S * 60
      if interval = 0 ∨ S % interval ≠ 0 ∨ us < a ∨ a + S * 60 < ue then s.bump Obj.demandMisaligned
      else if 11 < k then s.bump Obj.demandLate
      else
        let (x, s) := s.fitInt 4 (b.ring.getD k 0 + delta)
        let b := { b with ring := b.ring.set k x }
        let n := if byteAt g 2 = 1 then imgL g / S else 1
        let js := (List.range n).filterMap fun i => if i < k then some (k - i) else none
        let b := js.foldl (fun (b : Bill) (j : Nat) => s.evalWindow b j) b
        s.modBill tag fun _ => b

/-! ### Booking (R195, R204, R214, R217, R222) -/

/-- The billing channel of an endpoint's channel under the calendar in force at an instant (R195). -/
def State.billingChannel (s : State) (r : Record) (c t ch : Nat) : Option Nat :=
  match s.imageAt c t with
  | none => none
  | some g => (List.range 4).find? fun b => imgQuantity g b != 0 && r.channelOf (imgQuantity g b) == some ch

/-- How a consumption that starts at `start` is booked with the watermark w (R195, R204, R214, R217); `dflt`: the frame's
stamp lies in an invalid span. -/
def State.bookOf (s : State) (r : Record) (w start : Nat) (x : Reading) (delta : Int) (dflt : Bool) : Option Booked :=
  match s.bill r.tag with
  | none => none
  | some b =>
    let at_ := Nat.max w start
    match s.billingChannel r b.calendar at_ (x.key % 16) with
    | none => none
    | some bch =>
      some { key := x.key, time := x.time, interval := x.interval, start, delta, bch, clamped := decide (start < w), dflt,
             rate := if dflt then s.defaultRate b.calendar at_ else s.rateAt b.calendar at_ }

/-- A booking carried out (R204, R208, R214, R217, R222): registers, demand, flags, counters, charge, credit state. -/
def State.bookNow (s : State) (r : Record) (w : Nat) (k : Booked) : State :=
  match s.bill r.tag with
  | none => s
  | some b =>
    let i := 8 * k.bch + k.rate
    let (e, s) := s.fitInt 8 (b.energy.getD i 0 + k.delta)
    let flags := if k.dflt then setBit b.flags 0 true else b.flags
    let flags := if k.clamped then setBit flags 1 true else flags
    let s := s.modBill r.tag fun (x : Bill) => { x with energy := x.energy.set i e, flags := flags }
    let s := if k.dflt then s.bump Obj.defaultTariffReadings else s
    let s := if k.clamped then
        (s.bump Obj.readingsClamped).logLegal 0x1015 0xFF
          (pack [(1, b.calendar), (3, 0), (4, (s.openPeriod b).1)])
      else if k.bch = 0 then s.demandAdd r.tag k.start k.time k.interval k.delta
      else s
    if !r.flag 6 then s
    else
      let (table, short) := s.tableAt b.calendar (Nat.max w k.start)
      let s := if short then s.bump Obj.priceHistoryShort else s
      let s := s.charge r (chargeOf k.delta (tablePrice table k.bch k.rate) (r.scale (k.key % 16)))
      (s.creditUpdate r s.billSec).disconnectTest r

/-- A correction by a signed difference (R179, R183, R214, R222): under the rate of the booking it corrects, clamped where
its start lies before the watermark. -/
def State.correct (s : State) (r : Record) (w start : Nat) (x : Reading) (diff : Int) : State :=
  if diff = 0 then s
  else
    let old := s.nand.booked.find? fun k => k.key == x.key && k.time == x.time && k.interval == x.interval
    match s.bookOf r w start x diff (((old.map (·.dflt)).getD false) && !decide (start < w)) with
    | none => s
    | some k =>
      let k := match old with
        | some o => if k.clamped then k else { k with rate := o.rate, bch := o.bch, dflt := o.dflt }
        | none => k
      s.bookNow r w k

/-! ### Boundaries on an endpoint (R205, R207, R209, R211, R217, R223, R225) -/

/-- The sub-interval that ends at a boundary closes (R207, R210 step 1). -/
def State.closeSub (s : State) (r : Record) (d : Boundary) : State :=
  match s.bill r.tag with
  | none => s
  | some b =>
    if !d.demand then s
    else
      let sameS := match s.imageAt b.calendar (d.at_ - 1), s.imageAt b.calendar d.at_ with
        | some g, some h => imgS g == imgS h
        | _, _ => true
      let off := (b.ringOff ||| b2n d.off) * 2 % 4096
      let no := (b.ringNoDemand ||| b2n d.noDemand) * 2 % 4096
      let flags := if d.off then setBit b.flags 2 true else b.flags
      let closed := { b with ring := 0 :: b.ring.take 11, ringOff := off, ringNoDemand := no, lastBoundary := d.at_,
                             ringBase := d.at_ / 60, flags := flags }
      let closed := if sameS then s.evalWindow closed 1
        else { closed with ring := List.replicate 12 0, ringOff := 0, ringNoDemand := 0 }
      s.modBill r.tag fun _ => closed

/-- The rate switches at a boundary, a local midnight debits the standing charge, the credit state follows (R209, R223,
R225). -/
def State.beginSub (s : State) (r : Record) (d : Boundary) : State :=
  match s.bill r.tag with
  | none => s
  | some b =>
    let s := s.modBill r.tag fun (x : Bill) => { x with rate := d.rate, lastBoundary := d.at_ }
    if !r.flag 6 then s
    else
      let s := if d.midnight then s.standing r (tableStanding (s.tableAt b.calendar d.at_).1) else s
      s.creditUpdate r d.at_

/-- The committed boundaries that an endpoint has not had, oldest first, up to an instant (R209). -/
def State.dueBoundaries (s : State) (b : Bill) (t : Nat) : List Boundary :=
  (s.calState b.calendar).commits.filter fun d => Nat.blt b.lastBoundary d.at_ && Nat.ble d.at_ t

/-! ### Shadow comparison (R218) -/

/-- A comparand of an endpoint's own register: billing channel, rate, value and time (R218). -/
def State.shadow (s : State) (r : Record) (ch rate time : Nat) (value : Int) : State :=
  match s.bill r.tag with
  | none => s
  | some b =>
    match s.billingChannel r b.calendar time ch with
    | none => s
    | some bch =>
      let key := mkKey r.tag ch
      let held := (s.nand.archive.any fun x => x.key == key && x.time == time && x.status % 4 != 3) &&
        !(s.nand.deferred.any fun d => d.tag == r.tag && d.channel == ch && Nat.ble 64 d.rule && Nat.ble d.fin time)
      if !((s.marksAt b.calendar time).1 && held) then s
      else
        let i := 8 * bch + rate
        if !bit b.seed i then
          let s := s.modBill r.tag fun (x : Bill) => { x with energy := x.energy.set i value, seed := setBit x.seed i true }
          s.logLegal 0x101A r.tenant (pack [(8, r.tag), (1, bch), (1, rate), (6, time), (8, enc 8 value)])
        else
          let mine := b.energy.getD i 0
          if (s.get Obj.shadowTolerance) < (mine - value).natAbs then
            let s := s.modBill r.tag fun (x : Bill) => { x with flags := setBit x.flags 3 true }
            (s.bump Obj.shadowMismatches).logOp 0x300D r.tenant
              (pack [(8, r.tag), (1, bch), (1, rate), (6, time), (8, enc 8 mine), (8, enc 8 value)])
          else s

end Sys2Proof.Machine
end

