-- ==== Sys2Proof/Machine/ScalesOps.lean ====
section
/-! DEFINITION. Scales' additions, the suspicion score, and what happens at TAI midnight (R47, R237, R238, R242, R243, R245). -/

namespace Sys2Proof.Machine

/-- The balance interval in force at a second, in minutes (R237, R245): a change takes effect at a TAI midnight. -/
def State.balanceB (s : State) (t : Nat) : Nat :=
  if s.nand.balanceMin = 0 then s.nat Obj.balanceIntervalMin
  else if t < s.nand.balanceFrom ∧ s.nand.balanceOld ≠ 0 then s.nand.balanceOld
  else s.nand.balanceMin

/-- The end of the balance interval that holds a second (R237): half-open, aligned to TAI midnight. -/
def State.balanceEnd (s : State) (t : Nat) : Nat :=
  let w := s.balanceB t * 60
  t - t % 86400 % w + w

/-- A Delta in mWh, rounded toward zero (R237). -/
def milliWh (delta sc : Int) : Int :=
  if 0 ≤ sc + 3 then delta * (10 ^ (sc + 3).toNat : Nat) else Int.tdiv delta (10 ^ (-(sc + 3)).toNat : Nat)

/-- An energy of an endpoint in an interval changed, opened at 0 where there is none. -/
def State.modEnergy (s : State) (tag fin : Nat) (f : NodeEnergy → NodeEnergy) : State :=
  if s.nand.energies.any fun e => e.tag == tag && e.fin == fin then
    { s with nand.energies := s.nand.energies.map fun e => if e.tag == tag && e.fin == fin then f e else e }
  else
    let e : NodeEnergy :=
      { tag, fin, imp := 0, exp_ := 0, impMin := 0, expMin := 0, estimated := false, rejected := false, off := false }
    { s with nand.energies := f e :: s.nand.energies }

/-- Whether the balance of an endpoint's node for an interval has been evaluated (R238). -/
def State.balanced (s : State) (node fin : Nat) : Bool :=
  match tget s.nand.nodes node with
  | some n => n.kind != 0 && Nat.ble fin n.lastEnd
  | none => false

/-- Whether a reading lies wholly within one balance interval (R237). -/
def State.aligned (s : State) (x : Reading) : Bool :=
  x.interval != 0 && Nat.ble x.time (s.balanceEnd (x.time - x.interval * 60))

/-- Whether a reading is a value of its channel for p and t_p (R177, R178): every status but rejected. -/
def Reading.counts (x : Reading) : Bool := x.status % 4 != 3

/-- Whether an endpoint's reading belongs to a balance (R236, R237): a node, and its import or its export channel. -/
def Record.inBalance (r : Record) (ch : Nat) : Bool := r.node != 0xFFFF && (r.channelOf 1 == some ch || r.channelOf 2 == some ch)

/-- A reading as it is stored, or a change of one from a Delta to another, enters its balance (R237, R238): `minutes` is what it adds to
its channel's cover; the marks of the interval are those of the readings stored for it. -/
def State.scalesPut (s : State) (r : Record) (x : Reading) (was now minutes : Int) : State :=
  let ch := x.key % 16
  let isImp := r.channelOf 1 == some ch
  let isExp := r.channelOf 2 == some ch
  if !(r.inBalance ch && s.aligned x) then s
  else
    let fin := s.balanceEnd (x.time - x.interval * 60)
    if s.balanced r.node fin then s.bump Obj.balanceLate
    else
      let m := milliWh now (r.scale ch) - milliWh was (r.scale ch)
      let held := s.nand.archive.filter fun y =>
        y.key / 16 == x.key / 16 && r.inBalance (y.key % 16) && s.aligned y && s.balanceEnd (y.time - y.interval * 60) == fin
      s.modEnergy r.tag fin fun e =>
        { e with imp := if isImp then e.imp + m else e.imp, exp_ := if isExp then e.exp_ + m else e.exp_,
                 impMin := if isImp then ((e.impMin : Int) + minutes).toNat else e.impMin,
                 expMin := if isExp then ((e.expMin : Int) + minutes).toNat else e.expMin,
                 estimated := held.any fun y => y.status % 4 == 1, rejected := held.any fun y => y.status % 4 == 3,
                 off := held.any fun y => bit y.status 4 }

/-- A reading enters its balance for the first time (R237): one that lies in no balance interval is counted. -/
def State.scalesEnter (s : State) (r : Record) (x : Reading) : State :=
  let s := if r.inBalance (x.key % 16) && !s.aligned x then s.bump Obj.balanceMisaligned else s
  s.scalesPut r x 0 (if x.counts then x.delta else 0) (if x.counts then x.interval else 0)

/-- A score set lower; below half of ScoreAlarm the alarm is armed again (R243). -/
def State.scoreLower (s : State) (tag score : Nat) : State :=
  s.modRecord tag fun r =>
    { r with score := score, scoreArmed := r.scoreArmed || decide (2 * score < s.nat Obj.scoreAlarm) }

/-! ### TAI midnight (R47, R243, R245) -/

/-- Every score lowered by an amount (R243). -/
def State.decayScores (s : State) (by_ : Nat) : State :=
  s.nand.recs.foldl (fun (s : State) (e : Nat × Record) => s.scoreLower e.1 (e.2.score - by_)) s

/-- The balance interval that takes effect at a midnight (R245): run lengths start again at 0 with a new one. -/
def State.balanceMidnight (s : State) (t : Nat) : State :=
  let b := s.nat Obj.balanceIntervalMin
  if b = s.nand.balanceMin then s
  else
    { s with nand.balanceOld := s.nand.balanceMin, nand.balanceMin := b, nand.balanceFrom := t,
             nand.nodes := s.nand.nodes.map fun (e : Nat × Node) => (e.1, ({ e.2 with run := 0 } : Node)) }

/-- TAI_MIDNIGHT (R47, R243, R245): once for the TAI days that have begun; every midnight passed lowers the scores. -/
def State.taiMidnight (s : State) : State :=
  let day := s.tai / 86400
  if !s.up ∨ day ≤ s.nand.day then s
  else
    let n := day - s.nand.day
    let s := { s with nand.day := day,
                      nand.recs := s.nand.recs.map fun (e : Nat × Record) => (e.1, e.2.withHeard (heardAges n e.2.heard)) }
    ((s.decayScores (n * s.nat Obj.scoreDecayPerDay)).balanceMidnight (day * 86400)).commit 64 1

/-- Points added to a score (R242), after the decay of a midnight that has passed, with the alarm of R243; `event` is the one that its
notice names. -/
def State.scoreAdd (s : State) (tag points event : Nat) : State :=
  let s := s.taiMidnight
  match s.record tag with
  | none => s
  | some r =>
    let score := satAdd 65535 r.score points
    let alarm := s.nat Obj.scoreAlarm
    if r.score < alarm ∧ alarm ≤ score ∧ r.scoreArmed then
      let s := s.modRecord tag fun r => { r with score := score, scoreArmed := false }
      let s := s.notice r.tenant 0x0101 event (pack [(2, score), (2, alarm), (8, tag), (6, s.tai), (10, 0)])
      (s.logOp 0x3007 r.tenant (pack [(8, tag), (2, score), (2, alarm), (1, event)])).bump Obj.scoreAlarms
    else s.modRecord tag fun r => { r with score := score }

end Sys2Proof.Machine
end

