-- ==== Sys2Proof/Machine/Assay.lean ====
section
/-! DEFINITION. Assay: validation at step 6 (R176 to R181), the stored readings, amendments and replacements (R179, R183), deferred
rules and gap estimation (R182). -/

namespace Sys2Proof.Machine

/-! ### Stored readings -/

/-- Whether a reading is an estimate (R175, R183). -/
def Reading.estimate (x : Reading) : Bool := x.status % 4 == 1

/-- The value of a channel with the latest time before t (R177), among some readings. -/
def latestBefore (xs : List Reading) (key t : Nat) : Option Reading :=
  xs.foldl (fun (b : Option Reading) (x : Reading) =>
    if x.key == key && x.counts && Nat.blt x.time t then
      match b with
      | none => some x
      | some y => if y.time < x.time then some x else some y
    else b) none

/-- The value of a channel with the earliest time after t. -/
def earliestAfter (xs : List Reading) (key t : Nat) : Option Reading :=
  xs.foldl (fun (b : Option Reading) (x : Reading) =>
    if x.key == key && x.counts && Nat.blt t x.time then
      match b with
      | none => some x
      | some y => if x.time < y.time then some x else some y
    else b) none

/-- The stored reading of a channel at a time with an interval (R177, R183). -/
def State.stored (s : State) (key time interval : Nat) : Option Reading :=
  s.nand.archive.find? fun x => x.key == key && x.time == time && x.interval == interval

/-- A reading put into the archive in place of one of the same key, time and interval. -/
def State.store (s : State) (x : Reading) : State :=
  { s with nand.archive := x :: s.nand.archive.filter fun y => !(y.key == x.key && y.time == x.time && y.interval == x.interval) }

/-! ### Rules (R176 to R178) -/

/-- Rule i of a tenant as its 32 bytes. -/
def State.rule (s : State) (t i : Nat) : Nat := s.nat (Obj.ruleTable t i)

/-- ParamA of a rule. -/
def ruleA (w : Nat) : Int := sgn 8 (bytesAt w 8 8)

/-- ParamB of a rule. -/
def ruleB (w : Nat) : Int := sgn 8 (bytesAt w 16 8)

/-- ParamC of a rule. -/
def ruleC (w : Nat) : Nat := bytesAt w 24 4

/-- Whether a rule applies to a channel of an endpoint (R176). -/
def ruleApplies (w : Nat) (r : Record) (ch : Nat) : Bool :=
  let q := bytesAt w 2 2 % 4096
  let m := bytesAt w 4 2
  byteAt w 0 != 0 && (q == 0 || q == r.quantity ch) && (m == 0 || bit m ch)

/-- The rules of a tenant that apply to a channel, ascending, with the numbers (R178). -/
def State.rulesFor (s : State) (r : Record) (ch : Nat) : List (Nat × Nat) :=
  ((List.range 64).map fun i => (i, s.rule r.tenant i)).filter fun e => ruleApplies e.2 r ch

/-- The Delta of a register value v after p (R174, R177): the change, with the rollover of the first rule of kind 3 that
finds one. -/
def deltaOf (rules : List (Nat × Nat)) (v p : Int) : Int :=
  match rules.find? fun e => byteAt e.2 0 == 3 && decide (0 < ruleB e.2) && decide (ruleB e.2 < 2 * (p - v)) with
  | some e => v + ruleB e.2 - p
  | none => v - p

/-- How many stored intervals of a channel, back from a time, have a Delta of 0 in a row (R177 kind 8). -/
def zeroRun (xs : List Reading) (key interval : Nat) : Nat → Nat → Nat
  | 0, _ => 0
  | n + 1, t =>
    match xs.find? fun x => x.key == key && x.time == t && x.interval == interval && x.counts with
    | some x => if x.delta = 0 then 1 + zeroRun xs key interval n (t - interval * 60) else 0
    | none => 0

/-- Whether a step-6 rule fails for a reading (R177). `known`: the readings stored and those before it in its frame; `p` the value
before it; `f` the frame stamp in ns. -/
def ruleFails (w : Nat) (known : List Reading) (r : Record) (x : Reading) (p : Option Reading) (f : Nat) : Bool :=
  let v := x.value
  let a := ruleA w
  let reg := isRegister (r.quantity (x.key % 16))
  match byteAt w 0 with
  | 1 => decide (v < a) || decide (ruleB w < v)
  | 2 =>
    match p with
    | some y => decide (y.time < x.time) && decide (a * ((x.time : Int) - y.time) < ((v - y.value).natAbs : Int) * 3600)
    | none => false
  | 3 =>
    match p with
    | some y => decide (v < y.value - a) && !(decide (0 < ruleB w) && decide (ruleB w < 2 * (y.value - v)))
    | none => false
  | 5 => known.any fun y => y.key == x.key && y.time == x.time && y.interval == x.interval && !y.estimate && y.value != v
  | 7 => !(decide ((f : Int) - a * nsPerS ≤ (x.time : Int) * nsPerS) && decide ((x.time : Int) * nsPerS < (f : Int) + ruleB w * nsPerS))
  | 8 => reg && x.interval != 0 && x.delta == 0 && p.isSome &&
      decide (a ≤ (1 + zeroRun known x.key x.interval a.toNat (x.time - x.interval * 60) : Nat))
  | 9 => if reg then p.isSome && decide (x.delta < -a) else r.quantity (x.key % 16) == 0x10 && decide (v < -a)
  | _ => false

/-- A reading judged at step 6 (R178), its Delta set; `kinds` the kinds of rule that are evaluated. -/
def State.judge (s : State) (known : List Reading) (r : Record) (f : Nat) (kinds : List Nat) (x : Reading) : Reading :=
  let rules := s.rulesFor r (x.key % 16)
  let p := latestBefore known x.key x.time
  let reg := isRegister (r.quantity (x.key % 16))
  let x := { x with delta := match p with
                      | some y => if reg then deltaOf rules x.value y.value else 0
                      | none => 0 }
  let fails := rules.filter fun e => kinds.contains (byteAt e.2 0) && ruleFails e.2 known r x p f
  let base := x.status / 4 * 4
  match fails.find? fun e => byteAt e.2 1 == 1 with
  | some e => { x with status := base + 3, rule := e.1 }
  | none =>
    match fails.head? with
    | some e => { x with status := base + 2, rule := e.1 }
    | none => { x with status := base, rule := 0xFF }

/-- Whether a reading fails a rule of kind 9 (R178, R242). -/
def State.reverse (s : State) (known : List Reading) (r : Record) (f : Nat) (x : Reading) : Bool :=
  (s.rulesFor r (x.key % 16)).any fun e =>
    byteAt e.2 0 == 9 && ruleFails e.2 known r x (latestBefore known x.key x.time) f

/-- The linear value between two known ones (R182). -/
def linear (v0 v1 : Int) (k n1 : Nat) : Int := v0 + (v1 - v0) * k / n1

/-- Immediate estimation (R181): a rejected register reading of a profile with accepted neighbours on both sides in its frame
becomes the linear estimate, of Assay's origin (R175), unless an accepted value is stored for its interval (R183). -/
def State.immediate (s : State) (r : Record) (xs : List Reading) (x : Reading) : Reading :=
  let d := x.interval * 60
  let near (t : Nat) : Option Reading :=
    xs.find? fun y => y.key == x.key && y.interval == x.interval && y.time == t && y.counts
  let held := ((s.stored x.key x.time x.interval).map Reading.counts).getD false
  if x.status % 4 == 3 && x.interval != 0 && isRegister (r.quantity (x.key % 16)) && !held then
    match near (x.time - d), near (x.time + d) with
    | some a, some b => { x with value := linear a.value b.value 1 2, status := x.status / 16 * 16 + 5, origin := 2 }
    | _, _ => x
  else x

/-! ### Results and corrections (R179, R183) -/

/-- The uplink record of a reading (R22 step 10, R175, R291). -/
def Reading.uplinkRec (x : Reading) : UpRec :=
  { ty := 1, len := 40,
    data := pack [(8, x.key), (6, x.time), (2, x.interval), (1, x.status), (1, x.rule), (1, x.tenant), (1, x.origin), (4, 0),
      (8, enc 8 x.value), (8, enc 8 x.delta)] }

/-- The start of a reading's consumption (R204): none for a spot value without one before it. -/
def consumptionStart (x : Reading) (p : Option Reading) : Option Nat :=
  if x.interval != 0 then some (x.time - x.interval * 60) else p.map (·.time)

/-- A stored reading changed by Assay after its step 6 (R179, R183): its record is uplinked again, and Booth and Scales take
the difference between what was billed and what now is. -/
def State.restate (s : State) (r : Record) (w journal : Nat) (old new : Reading) : State :=
  let was := if old.counts then old.delta else 0
  let now := if new.counts then new.delta else 0
  let cover := (if new.counts then new.interval else 0 : Int) - (if old.counts then old.interval else 0)
  let s := (s.store new).uplink r.tenant new.uplinkRec journal
  let s := s.bump (Obj.readingsAmended r.tenant)
  let s := match consumptionStart new (latestBefore s.nand.archive new.key new.time) with
    | some st => if isRegister (r.quantity (new.key % 16)) then s.correct r w st new (now - was) else s
    | none => s
  s.scalesPut r new was now cover

/-- The later value's Delta recomputed after a change of what stands before it (R183). -/
def State.recompute (s : State) (r : Record) (w journal key t : Nat) : State :=
  match earliestAfter s.nand.archive key t with
  | none => s
  | some y =>
    if !isRegister (r.quantity (key % 16)) then s
    else
      match latestBefore s.nand.archive key y.time with
      | none => s
      | some p =>
        let d := deltaOf (s.rulesFor r (key % 16)) y.value p.value
        if d = y.delta then s else s.restate r w journal y { y with delta := d }

/-- A reading's first booking (R195, R204, R237): Booth and Scales take its Delta. -/
def State.bookFirst (s : State) (r : Record) (w : Nat) (x : Reading) (dflt : Bool) : State :=
  let s := s.scalesEnter r x
  if !x.counts || !isRegister (r.quantity (x.key % 16)) then s
  else
    match consumptionStart x (latestBefore s.nand.archive x.key x.time) with
    | none => s
    | some st =>
      match s.bookOf r w st x x.delta dflt with
      | none => s
      | some k =>
        let s := { s with nand.booked := k :: s.nand.booked.filter fun b => !(b.key == k.key && b.time == k.time && b.interval == k.interval) }
        s.bookNow r w k

/-- Deferred items of DeferredPending. -/
def State.countDeferred (s : State) : State := s.set Obj.deferredPending s.nand.deferred.length

/-- A deferred item added, once. -/
def State.defer (s : State) (d : Deferred) : State :=
  if s.nand.deferred.any fun e => e.tag == d.tag && e.channel == d.channel && e.rule == d.rule && e.fin == d.fin then s
  else { s with nand.deferred := s.nand.deferred ++ [d] }.countDeferred

/-- A deferred item done. -/
def State.undefer (s : State) (d : Deferred) : State :=
  { s with nand.deferred := s.nand.deferred.filter fun e =>
      !(e.tag == d.tag && e.channel == d.channel && e.rule == d.rule && e.fin == d.fin) }.countDeferred

/-- The deferred rules that a reading calls for (R177 kinds 4 and 6, R179): each due DeferredDelayS after the last interval it
needs has ended. -/
def State.deferFor (s : State) (r : Record) (x : Reading) : State :=
  if x.interval = 0 then s
  else
    let delay := s.nat Obj.deferredDelayS
    (s.rulesFor r (x.key % 16)).foldl (fun (s : State) (e : Nat × Nat) =>
      if byteAt e.2 0 == 4 && ruleC e.2 != 0 then
        let start := x.time - x.interval * 60
        let fin := start - start % 86400 % ruleC e.2 + ruleC e.2
        s.defer { tag := r.tag, channel := x.key % 16, rule := e.1, fin, due := fin + delay, by_ := e.1 }
      else if byteAt e.2 0 == 6 then
        let fin := x.time + x.interval * 60
        s.defer { tag := r.tag, channel := x.key % 16, rule := e.1, fin, due := fin + ((ruleA e.2).toNat * x.interval * 60 + 1) + delay,
                  by_ := e.1 }
      else s) s

/-! ### Gap estimation (R182) -/

/-- The weight of the interval that ends at t (R182): the floored mean of the Deltas of validated readings of the same interval
of the week over the last weeks. -/
def State.weight (s : State) (key interval t weeks : Nat) : Option Int :=
  let ds := (List.range weeks).filterMap fun k =>
    (s.nand.archive.find? fun x => x.key == key && x.interval == interval && x.status % 4 == 0 && x.time + 604800 * (k + 1) == t).map (·.delta)
  if ds.isEmpty then none else some (ds.foldl (· + ·) 0 / (ds.length : Int))

/-- An estimate stored for an interval (R175, R182, R183) that names the rule which started it: one for a missing or a rejected reading is
booked; one in place of an accepted value is a correction where the value changes, and where only what stands before it changed its
Delta alone is recomputed. -/
def State.estimate (s : State) (r : Record) (w : Nat) (key interval t : Nat) (value delta : Int) (method rule : Nat) : State :=
  let new : Reading :=
    { key, time := t, interval, status := 1 + 4 * method, rule := rule, tenant := r.tenant, origin := 2, value, delta }
  match (s.stored key t interval).filter Reading.counts with
  | some old =>
    if old.value ≠ value then s.restate r w 0 old { new with status := new.status + 32 }
    else if old.delta ≠ delta then s.restate r w 0 old { old with delta := delta }
    else s
  | none =>
    let s := ((s.store new).uplink r.tenant new.uplinkRec 0).bump (Obj.readingsEstimated r.tenant)
    s.bookFirst r w new false

/-- The values of a gap of n intervals between two known ones by the method of the tenant (R182), with the method's code. -/
def State.gapValues (s : State) (r : Record) (key interval t0 : Nat) (v0 v1 : Int) (n : Nat) : List Int × Nat :=
  let lin := (List.range n).map fun k => linear v0 v1 (k + 1) (n + 1)
  if s.nat (Obj.estimateMethod r.tenant) = 2 ∧ isRegister (r.quantity (key % 16)) then
    let ws := (List.range (n + 1)).map fun i =>
      (s.weight key interval (t0 + (i + 1) * interval * 60) (s.nat (Obj.profileWeeks r.tenant))).getD 0
    let total := ws.foldl (· + ·) 0
    if total = 0 then (lin, 1)
    else ((List.range n).map fun k => v0 + (v1 - v0) * ((ws.take (k + 1)).foldl (· + ·) 0) / total, 2)
  else (lin, 1)

/-- A list of estimates stored from t0 on, each after the one before it. -/
def State.putEstimates (s : State) (r : Record) (w key interval method rule : Nat) : Nat → Int → List Int → State
  | _, _, [] => s
  | t, v, e :: es =>
    let t' := t + interval * 60
    let d := if isRegister (r.quantity (key % 16)) then e - v else 0
    (s.estimate r w key interval t' e d method rule).putEstimates r w key interval method rule t' e es

/-- The gap notice of R182 and R292. -/
def State.gapNotice (s : State) (r : Record) (ch n interval t0 : Nat) : State :=
  s.notice r.tenant 0x0103 ch
    (pack [(2, n), (2, interval), (8, r.tag), (6, t0 + interval * 60), (6, t0 + n * interval * 60), (4, 0)])

/-- The known value at which a gap after t0 ends (R182): the first that is not a profile-forward estimate. -/
def State.gapEnd (s : State) (key interval t0 : Nat) : Option Reading :=
  earliestAfter (s.nand.archive.filter fun x => x.interval == interval && x.status / 4 % 4 != 3) key t0

/-- The gap after a known value at t0 filled, or reported when it is too long (R182); nothing while V1 has not arrived. True when
the item is done. -/
def State.fillGap (s : State) (r : Record) (w ch t0 rule : Nat) : Bool × State :=
  let key := mkKey r.tag ch
  match s.nand.archive.find? fun x => x.key == key && x.time == t0 && x.counts && x.interval != 0 with
  | none => (true, s)
  | some x0 =>
    let iv := x0.interval
    match s.gapEnd key iv t0 with
    | none => (false, s)
    | some x1 =>
      let n := (x1.time - t0) / (iv * 60) - 1
      if n = 0 ∨ (x1.time - t0) % (iv * 60) ≠ 0 then (true, s)
      else if s.nat (Obj.maxEstimateIntervals r.tenant) < n then (true, s.gapNotice r ch n iv t0)
      else
        let (es, m) := s.gapValues r key iv t0 x0.value x1.value n
        let s := s.putEstimates r w key iv m rule t0 x0.value es
        (true, s.recompute r w 0 key (x1.time - 1))

/-- The profile-forward fill after a known value at t0 (R182), up to an instant: only when every interval has a weight. -/
def State.fillForward (s : State) (r : Record) (w ch t0 upTo rule : Nat) : State :=
  let key := mkKey r.tag ch
  match s.nand.archive.find? fun x => x.key == key && x.time == t0 && x.counts && x.interval != 0 with
  | none => s
  | some x0 =>
    let iv := x0.interval
    if (s.gapEnd key iv t0).isSome || !isRegister (r.quantity ch) then s
    else
      let ended := (upTo - t0) / (iv * 60)
      let n := Nat.min ended (s.nat (Obj.maxEstimateIntervals r.tenant))
      let s := if s.nat (Obj.maxEstimateIntervals r.tenant) < ended then s.gapNotice r ch ended iv t0 else s
      let ws := (List.range n).map fun i => s.weight key iv (t0 + (i + 1) * iv * 60) (s.nat (Obj.profileWeeks r.tenant))
      if ws.any (·.isNone) then s
      else
        let es := ((ws.map (·.getD 0)).foldl
          (fun (a : List Int × Int) (x : Int) => (a.1 ++ [a.2 + x], a.2 + x)) (([] : List Int), x0.value)).1
        s.putEstimates r w key iv 3 rule t0 x0.value es

/-! ### Deferred rules (R177 kinds 4 and 6, R179) -/

/-- A failing deferred rule amends a reading, as it is stored, that is not already rejected (R179). -/
def State.amend (s : State) (r : Record) (w rule action : Nat) (y : Reading) : State :=
  match (s.stored y.key y.time y.interval).filter Reading.counts with
  | none => s
  | some x =>
    let st := setBit (x.status / 4 * 4 + (if action = 1 then 3 else 2)) 5 true
    let s := s.restate r w 0 x { x with status := st, rule := rule }
    if action = 1 then s.recompute r w 0 x.key x.time else s

/-- A deferred rule run for an interval (R177, R179). -/
def State.runRule (s : State) (r : Record) (w : Nat) (d : Deferred) : State :=
  let e := s.rule r.tenant d.rule
  let key := mkKey r.tag d.channel
  if !ruleApplies e r d.channel then s
  else if byteAt e 0 == 4 then
    let p0 := d.fin - ruleC e
    let reg := mkKey r.tag ((ruleB e).toNat % 16)
    let at_ (t : Nat) : Option Reading := s.nand.archive.find? fun x => x.key == reg && x.time == t && Nat.ble (x.status % 4) 1
    match at_ p0, at_ d.fin with
    | some a, some b =>
      let xs := s.nand.archive.filter fun x => x.key == key && Nat.blt p0 x.time && Nat.ble x.time d.fin && x.counts
      let sum := xs.foldl (fun (t : Int) (x : Reading) => t + x.delta) 0
      if ruleA e < ((sum - (b.value - a.value)).natAbs : Int) then
        xs.foldl (fun (s : State) (x : Reading) => s.amend r w d.rule (byteAt e 1) x) s
      else s
    | _, _ => s
  else if byteAt e 0 == 6 then
    match latestBefore s.nand.archive key d.fin with
    | none => s
    | some x0 =>
      let lim := d.fin + (ruleA e).toNat * x0.interval * 60 + 1
      if s.nand.archive.any fun x => x.key == key && Nat.ble d.fin x.time && Nat.blt x.time lim && x.counts then s
      else if ruleB e = 1 ∧ s.nat (Obj.maxEstimateIntervals r.tenant) ≠ 0 then
        let s := s.defer { tag := r.tag, channel := d.channel, rule := 64, fin := x0.time, due := s.billSec, by_ := d.rule }
        s.defer { tag := r.tag, channel := d.channel, rule := 65, fin := x0.time,
                  due := x0.time + x0.interval * 60 + s.nat (Obj.estimateWaitS r.tenant), by_ := d.rule }
      else s
  else s

/-- A deferred item carried out (R179, R182): rule 64 is gap estimation, 65 the profile-forward fill, up to `upTo`. -/
def State.runDeferred (s : State) (r : Record) (w upTo : Nat) (d : Deferred) : State :=
  if d.rule = 64 then
    match s.fillGap r w d.channel d.fin d.by_ with
    | (true, s) => (s.undefer d).undefer { d with rule := 65 }
    | (false, s) => s
  else if d.rule = 65 then (s.fillForward r w d.channel d.fin upTo d.by_).undefer d
  else (s.undefer d).runRule r w d

/-! ### A frame's reading at its result commit (R178, R183) -/

/-- A judged reading stored, booked, or put in place of a stored one (R183), which is a correction where that one was billed; a
profile-forward run before it is recomputed (R182). -/
def State.commitReading (s : State) (r : Record) (w journal : Nat) (dflt : Bool) (x : Reading) : State :=
  let s := if x.status % 4 == 3 || (x.status % 4 == 1) then s.bump (Obj.readingsRejected r.tenant) else s
  let s := if x.status % 4 == 1 then s.bump (Obj.readingsEstimated r.tenant) else s
  match s.stored x.key x.time x.interval with
  | some old =>
    if x.status % 4 == 3 then s
    else
      let p := latestBefore s.nand.archive x.key x.time
      let d := match p with
        | some y => if isRegister (r.quantity (x.key % 16)) then deltaOf (s.rulesFor r (x.key % 16)) x.value y.value else 0
        | none => x.delta
      let x := { x with status := setBit x.status 5 true, delta := d }
      let s := if old.counts then s.restate r w journal old x
        else (((s.store x).uplink r.tenant x.uplinkRec journal).bump (Obj.readingsAmended r.tenant)).bookFirst r w x dflt
      s.recompute r w journal x.key x.time
  | none =>
    let s := (s.store x).uplink r.tenant x.uplinkRec journal
    let s := s.bookFirst r w x dflt
    let s := if x.counts then s.recompute r w journal x.key x.time else s
    let s := s.deferFor r x
    let before := latestBefore s.nand.archive x.key x.time
    match before.filter fun y => x.counts && x.interval != 0 && y.status / 4 % 4 == 3 with
    | none => s
    | some y =>
      match latestBefore (s.nand.archive.filter fun y => y.status / 4 % 4 != 3) x.key x.time with
      | some x0 => (s.fillGap r w (x.key % 16) x0.time y.rule).2
      | none => s

end Sys2Proof.Machine
end

