-- ==== Sys2Proof/Machine/Sweep.lean ====
section
/-! DEFINITION. Booth's boundaries (R209 to R212, R216, R217, R221, R223, R232): their processing in the order of R210, the
close sweep, the replay of boundaries that were passed over. -/

namespace Sys2Proof.Machine

/-- Boundaries applied to an endpoint in order (R209). -/
def State.applyAll (s : State) (r : Record) (ds : List Boundary) : State :=
  ds.foldl (fun (s : State) (d : Boundary) => (s.closeSub r d).beginSub r d) s

/-- CloseSweepPending follows the sweeps (R212, R219). -/
def State.countSweep (s : State) : State :=
  s.set Obj.closeSweepPending ((s.nand.cals.map fun e => e.2.sweep.length).sum : Nat)

/-- The start of what a deferred item concerns (R179, R182). -/
def State.deferredStart (s : State) (r : Record) (d : Deferred) : Nat :=
  if Nat.ble 64 d.rule then d.fin
  else
    let e := s.rule r.tenant d.rule
    if byteAt e 0 = 4 then d.fin - ruleC e
    else ((latestBefore s.nand.archive (mkKey d.tag d.channel) d.fin).map (·.time)).getD d.fin

/-- The end of a sweep (R196, R212 step 6, R217): the retired image of an earlier activation goes, commits that every endpoint
has had go, and the legal record names the nominal and the actual instant, the period, the endpoints, clock and seal. -/
def State.endSweep (s : State) (c : Nat) : State :=
  let k := s.calState c
  if k.sweepAt = 0 ∨ !k.sweep.isEmpty then s
  else
    let s := if imgActivation (s.image 0 c) < k.sweepAt then s.setSealed (Obj.calendarRetired c) 0 else s
    let others := s.nand.cals.all fun e => e.2.sweep.isEmpty
    let s := s.modCal c fun k =>
      { k with sweepAt := 0, swept := 0, commits := if others then k.commits.filter fun d => Nat.blt k.sweepAt d.at_ else k.commits }
    s.logLegal 0x1013 0xFF
      (pack [(1, c), (1, k.closedIn), (1, s.nat Obj.sealState), (1, 0), (4, k.period - 1), (6, k.sweepAt), (6, k.closedAt),
        (4, k.swept), (4, s.nat Obj.sealCounter), (4, 0)])

/-- The pending deferred items of an endpoint for what starts before an instant carried out (R179), those whose rule `p` takes. -/
def State.runPending (s : State) (r : Record) (w at_ : Nat) (p : Nat → Bool) : State :=
  let items := s.nand.deferred.filter fun e => e.tag == r.tag && Nat.blt (s.deferredStart r e) at_ && p e.rule
  items.foldl (fun (s : State) (e : Deferred) => s.runDeferred r w at_ e) s

/-- The close of an endpoint's period (R212 steps 3 and 4, R213): its deferred items, then the
estimations that they started, the snapshot into Casket and the uplink, Demand,
flags and PeriodSpend reset, the next period under the registry's calendar. -/
def State.closePeriod (s : State) (r : Record) (k : CalState) (d : Boundary) : State :=
  let s := s.runPending r k.sweepFrom d.at_ (Nat.blt · 64)
  let s := s.runPending r k.sweepFrom d.at_ (Nat.ble 64 ·)
  match s.bill r.tag with
  | none => s
  | some b =>
    let shot : Shot := { bill := b, start := k.sweepFrom, fin := d.at_ }
    let s := { s with nand.shots := tput s.nand.shots (r.tag * 4294967296 + b.period) shot }
    let s := s.uplink r.tenant { ty := 2, len := 512, data := shot.pack } 0
    let turn := { b.turn with spend := 0 }
    let b := { b with demand := List.replicate 8 (0, 0), flags := 0, period := b.period + 1, turn := turn }
    let b := if r.calendar = b.calendar then b
      else { b with calendar := r.calendar, ring := List.replicate 12 0, ringOff := 0, ringNoDemand := 0, ringBase := d.at_ / 60 }
    (s.modBill r.tag fun _ => b).beginSub r { d with rate := s.rateAt b.calendar d.at_ }

/-- One endpoint's step of the close sweep of a calendar (R212). -/
def State.sweepStep (s : State) (c tag : Nat) : State :=
  let k := s.calState c
  if !k.sweep.contains tag then s
  else
    let s := match s.record tag, s.bill tag, k.commits.find? fun d => d.at_ == k.sweepAt with
      | some r, some b, some d =>
        let s := s.applyAll r ((s.dueBoundaries b d.at_).filter fun e => e.at_ != d.at_)
        (s.closeSub r d).closePeriod r k d
      | _, _, _ => s
    let s := s.modCal c fun k => { k with sweep := k.sweep.filter (· != tag), swept := k.swept + 1 }
    (s.endSweep c).countSweep

/-- An endpoint brought to a billing TAI second: every boundary committed up to it, its sweep step included (R209, R212). -/
def State.advance (s : State) (tag t : Nat) : State :=
  match s.record tag, s.bill tag with
  | some r, some b =>
    let k := s.calState b.calendar
    let s := if k.sweep.contains tag && Nat.ble k.sweepAt t then s.sweepStep b.calendar tag else s
    match s.bill tag with
    | some b => s.applyAll r (s.dueBoundaries b t)
    | none => s
  | _, _ => s

/-- An endpoint brought to where a consumption of it is booked (R209, R212 step 4, R214). -/
def State.advanceFor (s : State) (tag start : Nat) : State :=
  match s.bill tag with
  | some b => s.advance tag (Nat.max (s.calState b.calendar).w start)
  | none => s

/-- An image becomes active (R201): the one it replaces is retired, a legal record is written. -/
def State.activate (s : State) (c g t : Nat) : State :=
  let old := s.image 0 c
  let s := (s.setSealed (Obj.calendarRetired c) old).setSealed (Obj.calendarActive c) g
  let s := if old = 0 then s.modCal c fun k => { k with periodStart := t } else s
  s.logLegal 0x1011 0xFF (pack [(1, c), (3, 0), (6, t), (2, 0), (8, bytesAt g 28 8), (12, 0)])

/-- The activations due at an instant (R201, R210 step 3). -/
def State.activateAt (s : State) (c t : Nat) : State :=
  let k := s.calState c
  let s := if k.activate = some t then
      (s.activate c (imgWithActivation k.written t) t).modCal c fun k => { k with activate := none, written := 0 }
    else s
  match s.passive c with
  | some g => if imgActivation g = t then (s.activate c g t).setSealed (Obj.calendarPassive c) 0 else s
  | none => s

/-- The price tables change at an instant (R221), after step 4 of R210. -/
def State.priceAt (s : State) (c t : Nat) : State :=
  let p := s.get (Obj.pricePending c)
  if t ≠ 0 ∧ tableChange p.toNat = t then
    (s.commitPaired [(Obj.pricePrevious c, s.get (Obj.priceCurrent c)), (Obj.priceCurrent c, p), (Obj.pricePending c, 0)]).logLegal
      0x1012 0xFF (pack [(1, c), (1, 2), (2, 0), (6, t), (22, 0)])
  else s

/-- Head-end requests withheld from endpoints of a calendar (R232): submitted once the instant is not friendly, or over when their
Expiry has passed. -/
def State.releaseWithheld (s : State) (c : Nat) : State :=
  let mine := s.nand.withheld.filter fun q => ((s.bill q.tag).map fun b => b.calendar == c).getD true
  mine.foldl (fun (s : State) (q : SwitchReq) =>
    let drop (s : State) : State := { s with nand.withheld := s.nand.withheld.filter (· != q) }
    if q.expiry ≤ s.billSec then (drop s).switchOutcome q 2
    else if s.friendly c s.billSec then s
    else
      let (n, s) := s.nextRequest
      (drop s).submit { q with seq := n, formed := s.now }) s

/-- What follows a boundary at once for the prepayment endpoints of a calendar (R223, R225, R228): they are brought to it, and
exhausted ones are tested at a demand boundary. -/
def State.prepayAt (s : State) (c t : Nat) (demand : Bool) : State :=
  let tags := (s.nand.bills.filter fun e => e.2.calendar == c).map (·.1)
  tags.foldl (fun (s : State) (tag : Nat) =>
    match s.record tag with
    | some r =>
      if r.flag 6 then
        let s := s.advance tag t
        if demand then s.disconnectTest r else s
      else s
    | none => s) s

/-- A boundary of a calendar processed (R209, R210): sub-intervals, period close, activation, rate, price tables, in one boundary
commit; `off`: replayed after power-off. -/
def State.processBoundary (s : State) (c t : Nat) (off : Bool) : State :=
  let marks := s.marksAt c t
  let k := s.calState c
  let s := if marks.2.1 then k.sweep.foldl (fun (s : State) (tag : Nat) => s.sweepStep c tag) s else s
  let k := s.calState c
  let sub := ((k.commits.filter (·.demand)).getLast?.map (·.at_)).getD k.last
  let noDemand := s.overlapsSpan sub t
  let tags := (s.nand.bills.filter fun e => e.2.calendar == c).map (·.1)
  let s := if marks.2.1 then
      s.modCal c fun k =>
        { k with w := t, period := k.period + 1, periodStart := t, sweep := tags, sweepAt := t, sweepFrom := k.periodStart,
                 swept := 0, closedAt := s.billSec, closedIn := s.clock }
    else s
  let s := s.activateAt c t
  let d : Boundary :=
    { at_ := t, demand := marks.1, closed := marks.2.1, midnight := marks.2.2, off, noDemand, rate := s.rateAt c t }
  let s := s.priceAt c t
  let s := (s.modCal c fun k => { k with commits := k.commits ++ [d], last := t }).commit 64 1
  let s := (s.endSweep c).countSweep
  (s.prepayAt c t marks.1).releaseWithheld c

/-- Boundaries of a calendar processed in order up to a billing TAI second: how many, and the first and last of them. -/
def State.catchUp (s : State) (c upTo : Nat) (off : Bool) : Nat → Nat × Nat × Nat × State
  | 0 => (0, 0, 0, s)
  | n + 1 =>
    match s.nextBoundary c (s.calState c).last with
    | none => (0, 0, 0, s)
    | some t =>
      if upTo < t then (0, 0, 0, s)
      else
        let (k, _, l, s) := (s.processBoundary c t off).catchUp c upTo off n
        (k + 1, t, if k = 0 then t else l, s)

/-- The boundaries of a calendar that were passed over (R211, R217), counted, with one legal record that names the first and
last instant. -/
def State.replayCalendar (s : State) (c : Nat) (off : Bool) : State :=
  let (n, a, z, s) := s.catchUp c s.billSec off ((s.billSec - (s.calState c).last) / 60 + 2)
  if n = 0 then s
  else
    (s.bumpBy Obj.boundariesReplayed n).logLegal 0x1014 0xFF
      (pack [(1, c), (1, b2n off), (2, 0), (4, n), (6, a), (6, z), (12, 0)])

/-- The calendars that have an image or a boundary due. -/
def State.calendars (s : State) : List Nat :=
  (List.range 256).filter fun c => s.image 0 c != 0 || !(s.activations c).isEmpty

/-- The boundaries of every calendar that were passed over (R211, R217), while the clock is not invalid (R216). -/
def State.replayBoundaries (s : State) (off : Bool) : State :=
  if s.clock = 3 then s else s.calendars.foldl (fun (s : State) (c : Nat) => s.replayCalendar c off) s

/-- After the replay of frames the boundaries passed while the power was off (R211). -/
def State.finishReplay (s : State) : State :=
  if s.pw.replaying && s.pw.cause == 0 && !(s.frames.any (·.replay)) then { s with pw.replaying := false }.replayBoundaries true else s

/-- Whether Booth processes the boundary at a billing TAI second now (R210 step 5, R211, R216, R417). -/
def State.boothRuns (s : State) (t : Nat) : Bool :=
  s.clock != 3 && s.fw.matched != 255 && !s.pw.replaying && Nat.ble (t * nsPerS) s.billNow &&
  (s.serving || (s.awake && s.pw.cause == 1 && !s.pins.pwrSafe && Nat.ble (t * nsPerS) (s.billAt s.pw.pfiAt)))

/-- BILLING_BOUNDARY (R209): the next boundary of a calendar, once its instant has come. -/
def State.billingBoundary (s : State) (c : Nat) : State :=
  match s.nextBoundary c (s.calState c).last with
  | none => s
  | some t => if s.boothRuns t then s.processBoundary c t false else s

/-- CLOSE_SWEEP (R212). -/
def State.closeSweep (s : State) (c tag : Nat) : State := if s.serving then s.sweepStep c tag else s

/-- BILLING_BOUNDARY. -/
def execBillingBoundary (calendar : Nat) (s : State) : Host.Outcome State Fault Refusal := .next (s.billingBoundary calendar)

/-- CLOSE_SWEEP. -/
def execCloseSweep (calendar tag : Nat) (s : State) : Host.Outcome State Fault Refusal := .next (s.closeSweep calendar tag)

end Sys2Proof.Machine
end

