-- ==== Sys2Proof/Machine/Billing.lean ====
section
/-! DEFINITION. The tariff commands: TARIFF_SET containers (R200, R201), billing states and snapshots read (R219). -/

namespace Sys2Proof.Machine

/-- TariffSetResult of a container (R219): result, first failing image, byte offset, counter. -/
def State.tariffResult (s : State) (status image offset counter : Nat) : State :=
  s.set Obj.tariffSetResult (pack [(1, status), (1, 0), (2, image), (4, offset), (8, counter)] : Nat)

/-- The first image that fails step 6 of R200: its index and the byte offset of R199; a calendar named twice fails at its
CalendarNumber. -/
def firstBadImage : List Nat → Nat → List Nat → Option (Nat × Nat)
  | _, _, [] => none
  | seen, i, g :: gs =>
    match imageFails g with
    | some o => some (i, o)
    | none => if seen.contains (byteAt g 0) then some (i, 0) else firstBadImage (byteAt g 0 :: seen) (i + 1) gs

/-- Whether an image's ActivationTai lies later than now and meets R201 (step 7 of R200). -/
def State.activationOk (s : State) (g : Nat) : Bool :=
  Nat.blt s.billSec (imgActivation g) && s.suits g (s.image 0 (byteAt g 0)) (imgActivation g)

/-- The checks of R200 in order: status, detail, failing image and offset; none when all pass. -/
def State.tariffCheck (s : State) (e : Epmeir) (gs : List Nat) : Option (Nat × Nat × Nat × Nat) :=
  match s.containerCheck e 2 true with
  | some n => some (14, n, 0, 0)
  | none =>
    if gs.isEmpty || Nat.blt 256 gs.length then some (14, 3, 0, 0)
    else if !s.anchorHas 5 0 e.signer then some (14, 4, 0, 0)
    else if e.counter ≤ s.nat Obj.tariffSetCounter then some (14, 5, 0, 0)
    else
      match firstBadImage [] 0 gs with
      | some (i, o) => some (5, o, i, o)
      | none =>
        match gs.findIdx? fun g => !s.activationOk g with
        | some i => some (14, 7, i, 22)
        | none => none

/-- The passive images of a container written in one commit with its counter (R200). -/
def State.tariffApply (s : State) (counter : Nat) (gs : List Nat) : State :=
  let s := gs.foldl (fun (s : State) (g : Nat) => s.setSealed (Obj.calendarPassive (byteAt g 0)) (imgUsed (imgWithSource g counter))) s
  let s := (s.setSealed Obj.tariffSetCounter counter).commit (1600 * gs.length) (gs.length + 1)
  s.logLegal 0x1010 0xFF
    (pack ([(8, counter), (2, gs.length)] ++ (gs.take 22).map fun g => (1, byteAt g 0)))

/-- TARIFF_SET_SUBMIT (R200). -/
def State.tariffSetSubmit (s : State) (r : CapReq) (e : Epmeir) (gs : List Nat) : State :=
  s.capExec r Obj.tariffSetSubmit fun _ s =>
    match s.tariffCheck e gs with
    | some (st, d, i, o) => (capErr st d, s.tariffResult st i o e.counter)
    | none => s.mediaGate fun s => (capOk, (s.tariffApply e.counter gs).tariffResult 0 0 0 e.counter)

/-- BILLING_READ (R219): the state with every boundary applied that has been committed (R209). -/
def State.billingRead (s : State) (r : CapReq) (tag : Nat) : State :=
  s.capExec r Obj.billingRead fun ses s =>
    match s.record tag, s.bill tag with
    | some e, some b =>
      if !ses.mayTenant e.tenant then (capErr 3 0, s)
      else (capVal 512 (((s.advance tag (s.calState b.calendar).last).bill tag).getD b).pack, s)
    | _, _ => (capErr 5 0, s)

/-- SNAPSHOT_READ (R219). -/
def State.snapshotRead (s : State) (r : CapReq) (tag period : Nat) : State :=
  s.capExec r Obj.snapshotRead fun ses s =>
    match s.record tag, tget s.nand.shots (tag * 4294967296 + period) with
    | some e, some x => if !ses.mayTenant e.tenant then (capErr 3 0, s) else (capVal 512 x.pack, s)
    | some e, none => if !ses.mayTenant e.tenant then (capErr 3 0, s) else (capErr 5 0, s)
    | none, _ => (capErr 5 0, s)

/-- TARIFF_SET_SUBMIT. -/
def execTariffSetSubmit (r : CapReq) (e : Epmeir) (images : List Nat) (s : State) : Host.Outcome State Fault Refusal :=
  .next (s.tariffSetSubmit r e images)

/-- BILLING_READ. -/
def execBillingRead (r : CapReq) (tag : Nat) (s : State) : Host.Outcome State Fault Refusal := .next (s.billingRead r tag)

/-- SNAPSHOT_READ. -/
def execSnapshotRead (r : CapReq) (tag period : Nat) (s : State) : Host.Outcome State Fault Refusal :=
  .next (s.snapshotRead r tag period)

end Sys2Proof.Machine
end

