-- ==== Sys2Proof/Machine/Turnstile.lean ====
section
/-! DEFINITION. The prepayment and switching commands (R224 to R233). -/

namespace Sys2Proof.Machine

/-- The endpoint a command acts on (R366): in the registry and of the principal's tenant, with the Prepayment flag where the
command needs it. A record that fails its CRC is unreadable (R40). -/
def State.target (s : State) (ses : Session) (tag : Nat) (prepay : Bool) (body : Record → CapOut × State) : CapOut × State :=
  match s.record tag with
  | none => (capErr 5 0, s)
  | some r =>
    if !r.live then (capErr 5 0, s)
    else if r.bad then (capErr 16 0, s.badRecord r)
    else if !ses.mayTenant r.tenant then (capErr 3 0, s)
    else if prepay && !r.flag 6 then (capErr 5 0, s)
    else body r

/-- The share of top-ups taken for debt (R224). -/
def State.shareOf (s : State) (r : Record) (t : Turn) : Nat :=
  if t.share = 0xFFFF then s.nat (Obj.recoveryShareDefault r.tenant) else t.share

/-- A Turnstile area after a top-up of a (R224), its Credit not yet held in its range. -/
def topUpArea (t : Turn) (a : Int) (share seq at_ : Nat) : Turn :=
  let fill := min a (max 0 (-t.credit))
  let recovered := min t.debt ((a - fill) * share / 1000)
  let t := { t with debt := t.debt - recovered, topUpCounter := seq, lastAmount := a, flags := setBit t.flags 4 false,
                    lastTopUp := at_ }
  let t := (t.debit (recovered - a)).1
  if 0 ≤ t.credit then { t with granted := 0, flags := setBit t.flags 2 false } else t

/-- A Turnstile area after a DebtSet (R224): a share of 0xFFFE leaves the share. -/
def debtArea (t : Turn) (v : Int) (seq share : Nat) : Turn :=
  { t with debt := v, topUpCounter := seq, lastAmount := v, flags := setBit t.flags 4 true,
           share := if share = 0xFFFE then t.share else share }

/-- What a sequence of the series asks of an endpoint (R224): 0 apply, 1 repeat, 2 refuse. -/
def seriesOf (t : Turn) (debt : Bool) (seq : Nat) (v : Int) : Nat :=
  if t.topUpCounter < seq then 0
  else if t.topUpCounter = seq ∧ bit t.flags 4 = debt ∧ t.lastAmount = v then 1
  else 2

/-- The body of TopUp (R224, R225, R228, R233): a credit left at exactly 0 keeps the state. -/
def State.topUpBody (s : State) (tag : Nat) (a : Int) (seq : Nat) (ses : Session) : CapOut × State :=
  s.target ses tag true fun r =>
    match s.bill tag with
    | none => (capErr 5 0, s)
    | some b =>
      if a ≤ 0 then (capErr 5 0, s.bump Obj.topUpsRefused)
      else
        match seriesOf b.turn false seq a with
        | 1 => (capOk, s)
        | 2 => (capErr 5 0, s.bump Obj.topUpsRefused)
        | _ => s.mediaGate fun s =>
          let sat := (b.turn.debit (min b.turn.debt ((a - min a (max 0 (-b.turn.credit))) * s.shareOf r b.turn / 1000) - a)).2
          let t := topUpArea b.turn a (s.shareOf r b.turn) seq s.tai
          let s := ((s.modBill tag fun (x : Bill) => { x with turn := t }).commit 512 1).bump Obj.topUpsApplied
          let s := if sat then s.saturated r else s
          let s := s.logLegal 0x1020 r.tenant (pack [(8, tag), (8, seq), (8, enc 8 a), (8, enc 8 t.credit)])
          (capOk, if t.credit = 0 then s else (s.creditUpdate r s.billSec).disconnectTest r)

/-- The body of DebtSet (R224, R225). -/
def State.debtSetBody (s : State) (tag : Nat) (v : Int) (seq share : Nat) (ses : Session) : CapOut × State :=
  s.target ses tag true fun r =>
    match s.bill tag with
    | none => (capErr 5 0, s)
    | some b =>
      if v < 0 ∨ (1000 < share ∧ share ≠ 0xFFFE ∧ share ≠ 0xFFFF) then (capErr 5 0, s.bump Obj.topUpsRefused)
      else
        match seriesOf b.turn true seq v with
        | 1 => (capOk, s)
        | 2 => (capErr 5 0, s.bump Obj.topUpsRefused)
        | _ => s.mediaGate fun s =>
          let t := debtArea b.turn v seq share
          let s := (s.modBill tag fun (x : Bill) => { x with turn := t }).commit 512 1
          let s := s.logLegal 0x1021 r.tenant (pack [(8, tag), (8, seq), (8, enc 8 v), (8, enc 8 t.credit)])
          (capOk, s.creditUpdate r s.billSec)

/-- The body of LockOutSet (R229, R230): the flag and a legal record; a reconnect that was due is formed when lock-out is
cleared. -/
def State.lockOutBody (s : State) (tag on : Nat) (ses : Session) : CapOut × State :=
  s.target ses tag false fun r =>
    if 1 < on then (capErr 5 8, s)
    else s.mediaGate fun s =>
      let s := (s.modRecord tag fun r => { r with flags := setBit r.flags 3 (on == 1) }).commit 256 1
      let s := s.logLegal 0x1022 r.tenant (pack [(8, tag), (1, on), (23, 0)])
      let due := ((s.bill tag).map fun b => bit b.turn.flags 1).getD false
      let s := if on = 0 ∧ due = true then s.formReconnect { r with flags := setBit r.flags 3 false } else s
      (capOk, s)

/-- The body of EmergencyAccept (R226): outside state 2 there is nothing to accept. -/
def State.emergencyBody (s : State) (tag : Nat) (ses : Session) : CapOut × State :=
  s.target ses tag true fun r =>
    if ((s.bill tag).map fun b => b.turn.state == 2).getD false then
      s.mediaGate fun s => (capOk, (s.acceptEmergency r).commit 512 1)
    else (capErr 5 0, s)

/-- The cells a load shed addresses (R231, R402): those of CellMask, or the cell of the endpoint it names. -/
def State.shedCells (s : State) (tag flags cellMask : Nat) : List Nat :=
  if tag = 0 || bit flags 0 then (List.range 16).filter (bit cellMask)
  else (s.record tag).elim [] fun r => if r.cell < 16 then [r.cell] else []

/-- Whether a load shed addresses a cell whose ShedPlan is all zeros (R402). -/
def State.shedUnplanned (s : State) (a : SwitchArg) : Bool :=
  a.kind == 4 && (s.shedCells a.tag a.flags a.cellMask).any fun c => !s.flag (Obj.shedPlan c)

/-- The body of SwitchSubmit (R229, R231, R232). -/
def State.switchBody (s : State) (a : SwitchArg) (ses : Session) : CapOut × State :=
  if a.kind = 0 ∨ 4 < a.kind then (capErr 5 8, s)
  else if a.expiry = 0 then (capErr 5 22, s)
  else if s.shedUnplanned a then (capErr 5 36, s)
  else
    let q : SwitchReq :=
      { seq := 0, origin := 2, kind := a.kind, tenant := a.tenant, tag := a.tag, flags := a.flags, notBefore := a.notBefore,
        expiry := a.expiry, limitW := a.limitW, durationS := a.durationS, cellMask := a.cellMask, reference := a.reference,
        formed := s.now }
    let go (s : State) : CapOut × State :=
      let (n, s) := s.nextRequest
      (capVal 4 n, s.submit { q with seq := n })
    if a.kind = 4 ∧ a.tag = 0 then go s
    else s.target ses a.tag false fun r =>
      if !r.dlms then (capErr 5 0, s)
      else if a.kind = 2 ∧ r.flag 3 then (capErr 5 0, s.bump Obj.reconnectsLockedOut)
      else
        let friendly := ((s.bill a.tag).map fun b => s.friendly b.calendar s.billSec).getD false
        if (a.kind = 1 ∨ a.kind = 3) ∧ r.flag 6 ∧ friendly = true then
          (capVal 4 0, { s with nand.withheld := s.nand.withheld ++ [q] }.bump Obj.disconnectsWithheld)
        else go s

/-- TOP_UP (R224). -/
def State.topUp (s : State) (r : CapReq) (tag : Nat) (a : Int) (seq : Nat) : State :=
  s.capOrdered r Obj.topUp [tag] (.topUp r tag a seq) fun ses s => s.topUpBody tag a seq ses

/-- DEBT_SET (R224). -/
def State.debtSet (s : State) (r : CapReq) (tag : Nat) (v : Int) (seq share : Nat) : State :=
  s.capOrdered r Obj.debtSet [tag] (.debtSet r tag v seq share) fun ses s => s.debtSetBody tag v seq share ses

/-- LOCK_OUT_SET (R229). -/
def State.lockOutSet (s : State) (r : CapReq) (tag on : Nat) : State :=
  s.capOrdered r Obj.lockOutSet [tag] (.lockOutSet r tag on) fun ses s => s.lockOutBody tag on ses

/-- EMERGENCY_ACCEPT (R226). -/
def State.emergencyAccept (s : State) (r : CapReq) (tag : Nat) : State :=
  s.capOrdered r Obj.emergencyAccept [tag] (.emergencyAccept r tag) fun ses s => s.emergencyBody tag ses

/-- SWITCH_SUBMIT (R231): from a tenant's head end alone (R366). -/
def State.switchSubmit (s : State) (r : CapReq) (a : SwitchArg) : State :=
  s.capExec r Obj.switchSubmit fun ses s => s.switchBody a ses

/-- EMERGENCY_OFFER_EXPIRY (R225): EmergencyOfferS after the offer, unaccepted, to state 4. -/
def State.offerExpiry (s : State) (tag : Nat) : State :=
  match s.record tag, s.bill tag with
  | some r, some b =>
    if s.serving && r.flag 6 && b.turn.state == 2 && Nat.ble (b.turn.since + s.nat (Obj.emergencyOfferS r.tenant)) s.billSec then
      s.creditMove r 2 4 s.billSec
    else s
  | _, _ => s

/-- TOP_UP. -/
def execTopUp (r : CapReq) (tag : Nat) (amount : Int) (sequence : Nat) (s : State) : Host.Outcome State Fault Refusal :=
  .next (s.topUp r tag amount sequence)

/-- DEBT_SET. -/
def execDebtSet (r : CapReq) (tag : Nat) (debt : Int) (sequence share : Nat) (s : State) :
    Host.Outcome State Fault Refusal := .next (s.debtSet r tag debt sequence share)

/-- LOCK_OUT_SET. -/
def execLockOutSet (r : CapReq) (tag on : Nat) (s : State) : Host.Outcome State Fault Refusal := .next (s.lockOutSet r tag on)

/-- SWITCH_SUBMIT. -/
def execSwitchSubmit (r : CapReq) (a : SwitchArg) (s : State) : Host.Outcome State Fault Refusal := .next (s.switchSubmit r a)

/-- EMERGENCY_ACCEPT. -/
def execEmergencyAccept (r : CapReq) (tag : Nat) (s : State) : Host.Outcome State Fault Refusal :=
  .next (s.emergencyAccept r tag)

/-- EMERGENCY_OFFER_EXPIRY. -/
def execEmergencyOfferExpiry (tag : Nat) (s : State) : Host.Outcome State Fault Refusal := .next (s.offerExpiry tag)

end Sys2Proof.Machine
end

