-- ==== Sys2Proof/Machine/Calliope.lean ====
section
/-! DEFINITION. Calliope (R246 to R267): the counter, steps, the servo and its sources, the billing clock and its status, leap
seconds, the RTC. -/

namespace Sys2Proof.Machine

/-! ### The counter (R246 to R251) -/

/-- The least increment, 3.998 ns in units of 2^-32 ns (R247). -/
abbrev incrMin : Nat := 17171279250

/-- The greatest increment, 4.002 ns (R247). -/
abbrev incrMax : Nat := 17188459118

/-- The nominal increment, 4 ns (R247). -/
abbrev incrNominal : Nat := 17179869184

/-- An increment within its limits (R247). -/
def incrClamp (v : Nat) : Nat := if v < incrMin then incrMin else if incrMax < v then incrMax else v

/-- An increment loaded, both halves together (R247). -/
def State.loadIncr (s : State) (v : Nat) : State :=
  let w := incrClamp v
  { s with time.incr := w, time.incrInt := w / fracPerNs, time.incrFrac := w % fracPerNs,
           time.incrClamped := s.time.incrClamped || w != v }

/-- The lag moved towards 0 by an amount. -/
def slew (lag : Int) (by_ : Nat) : Int := if 0 < lag then max 0 (lag - by_) else min 0 (lag + by_)

/-- TIME cycles in 1,000 s. -/
abbrev holdCycles : Nat := 250000000000

/-- The increments in force over the last 1,000 s of locked operation, with their cycles, newest first (R257). -/
def lockedTrim : Nat → List (Nat × Nat) → List (Nat × Nat)
  | _, [] => []
  | room, (v, n) :: t => if room = 0 then [] else if room ≤ n then [(v, room)] else (v, n) :: lockedTrim (room - n) t

/-- The history of R257 with n more cycles of an increment. -/
def lockedAdd (h : List (Nat × Nat)) (v n : Nat) : List (Nat × Nat) :=
  lockedTrim holdCycles (match h with
    | (w, m) :: t => if w = v then (w, m + n) :: t else (v, n) :: h
    | [] => [(v, n)])

/-- The mean increment of R257, nominal while there is no history. -/
def lockedMean (h : List (Nat × Nat)) : Nat :=
  let n := (h.map (·.2)).sum
  if n = 0 then incrNominal else (h.map fun e => e.1 * e.2).sum / n

/-- The RTC written with the counter (R258). -/
def State.writeRtc (s : State) : State :=
  { s with bat.rtc := s.now * 32768 / nsPerS, bat.rtcPhase := 0, bat.rtcValid := true }.set Obj.rtcValid 1

/-! ### The billing clock's status (R217, R257, R266) -/

/-- An invalid span opens at billing TAI now (R217). -/
def State.openSpan (s : State) : State :=
  match s.nand.spans with
  | (_, none) :: _ => s
  | _ =>
    { s with nand.spans := (((s.billNow, none) : Nat × Option Nat) :: s.nand.spans).take 16 }.logLegal 0x1018 0xFF
      (pack [(8, s.billSec), (1, 1), (23, 0)])

/-- The open invalid span ends (R217); boundary processing resumes. -/
def State.closeSpan (s : State) : State :=
  match s.nand.spans with
  | (a, none) :: t =>
    ({ s with nand.spans := (a, some s.billNow) :: t }.logLegal 0x1018 0xFF (pack [(8, s.billSec), (1, 2), (23, 0)])).replayBoundaries
      false
  | _ => s

/-- Withheld requests looked at again in every calendar (R232). -/
def State.releaseAll (s : State) : State :=
  if s.nand.withheld.isEmpty then s else (List.range 256).foldl (fun (s : State) (c : Nat) => s.releaseWithheld c) s

/-- The status of the billing clock put, with its interrupt (R266, R285). -/
def State.putClock (s : State) (status : Nat) : State := (s.set Obj.clockStatus status).raise 20

/-- Holdover begins (R257): from here, with the mean increment of the lock where the firmware owns the servo. -/
def State.enterHoldover (s : State) : State :=
  let now := s.now
  let s : State := { s with time.holdoverSince := now }
  if s.nat Obj.servoOwner = 0 then s.loadIncr (lockedMean s.time.locked) else s

/-- What a status of the billing clock entered brings (R217, R257): holdover begins, an invalid span opens or closes. -/
def State.clockEntered (s : State) (new : Nat) : State :=
  let s : State := if new = 1 then s.enterHoldover else s
  if new = 3 then s.openSpan else if new = 0 ∨ new = 1 then s.closeSpan else s

/-- The status of the billing clock changes (R217, R257, R266). `cause`: 1 source, 2 step, 3 start, 4 owner, 5 holdover limit. -/
def State.setClock (s : State) (new cause : Nat) : State :=
  let old := s.clock
  if new = old then s
  else
    let t : State := (s.putClock new).logOp 0x3009 0xFF (pack [(8, 0), (1, old), (1, new), (1, cause), (21, 0)])
    (t.clockEntered new).releaseAll

/-! ### Steps (R215, R248, R265) -/

/-- A billing step from T1 to T2, in ns (R215, R265, R266): counted and recorded, tested against every watermark and both
limits. -/
def State.billingStep (s : State) (t1 t2 : Int) : State :=
  let s := (s.bump Obj.billingSteps).logLegal 0x1017 0xFF (pack [(8, enc 8 t1), (8, enc 8 t2), (16, 0)])
  let s := s.nand.cals.foldl (fun (s : State) (e : Nat × CalState) =>
    if t2 < (e.2.w * nsPerS : Nat) ∧ ((e.2.w * nsPerS : Nat) : Int) ≤ t1 then
      s.logLegal 0x1016 0xFF (pack [(1, e.1), (1, 0), (6, e.2.w), (8, enc 8 t1), (8, enc 8 t2), (8, 0)])
    else s) s
  if ((s.nat Obj.billingStepToleranceS * nsPerS : Nat) : Int) < t1 - t2 ∨
      ((s.nat Obj.billingForwardLimitS * nsPerS : Nat) : Int) < t2 - t1 then s.setClock 3 2
  else s

/-- A step of δ ns applied to the counter (R248, R265): refused outside 0 to 2^48 s; the billing clock slews or steps. -/
def State.stepCounter (s : State) (d : Int) : State :=
  let new := (s.now : Int) + d
  if new < 0 ∨ (2 ^ 48 * nsPerS : Nat) ≤ new then s.bump Obj.stepsRefused
  else
    let t1 := s.billNow
    let lag := s.time.lag + d * lagUnit
    let s := s.bump Obj.stepsApplied
    let s := { s with time.sec := new.toNat / nsPerS, time.ns := new.toNat % nsPerS }
    if (lag.natAbs : Int) ≤ (s.nat Obj.billingSlewThresholdMs * 1000000 : Nat) * lagUnit then { s with time.lag := lag }
    else
      let s := { s with time.lag := 0 }
      s.billingStep t1 s.billNow

/-! ### Sources and the servo (R254 to R257, R266) -/

/-- Whether a source code is qualified (R254, R255). -/
def State.qualified (s : State) (code : Nat) : Bool :=
  if Nat.ble 1 code && Nat.ble code 4 then
    s.bitOf Obj.ptpPortEnable (code - 1) && ((s.time.ptp[code - 1]?).map fun p => Nat.ble 8 p.syncs).getD false
  else if code == 5 then Nat.ble 8 s.time.ppsEdges && s.time.secondsKnown
  else code == 6 && s.time.beatAt.isSome

/-- The source that is selected (R254, R255). -/
def State.bestSource (s : State) : Nat :=
  if s.nat Obj.servoOwner = 1 then (if s.time.beatAt.isSome then 6 else 0)
  else (((List.range 4).map fun i => byteAt (s.nat Obj.sourcePriority) i).find? fun c => c != 0 && s.qualified c).getD 0

/-- The selection made again (R255, R266): a new source starts its time within LockThresholdNs afresh; a locked clock whose
source is no longer qualified goes to holdover. -/
def State.reselect (s : State) : State :=
  let old := s.nat Obj.selectedSource
  let b := s.bestSource
  if b = old then s
  else
    let lost := !s.qualified old
    let s := { s with time.lockSince := none }.set Obj.selectedSource b
    if lost && s.clock == 0 then s.setClock 1 1 else s

/-- Lock gained (R266): a selected source, the offset within LockThresholdNs for LockQualifyS, TaiUtcOffsetS known. -/
def State.evaluate (s : State) : State :=
  match s.time.lockSince with
  | some t =>
    if s.nat Obj.selectedSource ≠ 0 ∧ s.offsetKnown = true ∧ s.elapsedS t (s.nat Obj.lockQualifyS) = true then s.setClock 0 1 else s
  | none => s

/-- The offset's magnitude as it bears on lock (R266). -/
def State.measure (s : State) (resid : Nat) : State :=
  if resid ≤ s.nat Obj.lockThresholdNs then
    { s with time.lockSince := some (s.time.lockSince.getD s.now) }
  else { s with time.lockSince := none }

/-- A servo update from a measured offset of the selected source (R254, R266): a step beyond StepThresholdNs, otherwise an
increment that the spec leaves to the servo, a free value within its limits. A step that makes the clock invalid takes
precedence. -/
def State.servo (s : State) (offset : Int) : State :=
  let s := s.set Obj.offsetNs offset
  let before := s.clock
  let m := offset.natAbs
  let s := if s.nat Obj.lockThresholdNs < m then { s with time.lockSince := none } else s
  let stepped := decide (s.nat Obj.stepThresholdNs < m)
  let s := if stepped then s.stepCounter offset
    else
      let (x, s) := s.draw
      s.loadIncr (incrMin + x % (incrMax - incrMin + 1))
  if s.clock = 3 ∧ before ≠ 3 then s
  else
    let s := if s.clock = 0 ∧ s.nat Obj.unlockThresholdNs < m then s.setClock 1 1 else s
    (s.measure (if stepped then 0 else m)).evaluate

/-- The selected source is gone (R266): a locked clock goes to holdover. -/
def State.lostSource (s : State) : State :=
  let s := { s with time.lockSince := none }.reselect
  if s.clock = 0 then s.setClock 1 1 else s

/-- A PTP port changed. -/
def State.modPtp (s : State) (p : Nat) (f : PtpPort → PtpPort) : State := { s with time.ptp := lmod s.time.ptp p f }

/-- PTP_SYNC (R255, R256): the port whose Syncs the best-master algorithm takes is the slave, the others are not. -/
def State.ptpSync (s : State) (port : Nat) (offset : Int) : State :=
  if !(s.up && s.bitOf Obj.ptpPortEnable port && Nat.ble port 3) then s
  else
    let n := ((s.time.ptp[port]?).map (·.syncs)).getD 0
    let s := { s with time.ptp := s.time.ptp.map fun (p : PtpPort) => ({ p with syncs := 0 } : PtpPort) }
    let s := (s.modPtp port fun p => { p with syncs := satAdd 255 n 1 }).reselect
    if s.nat Obj.selectedSource = port + 1 then s.servo offset else s

/-- PPS_EDGE (R255): checked against the previous edge plus one second on the counter. -/
def State.ppsEdge (s : State) : State :=
  if !s.up then s
  else
    let now := s.now
    let first := s.time.ppsLast = 0
    let off : Int := (now : Int) - (s.time.ppsLast + nsPerS : Nat)
    let ok := decide (off.natAbs ≤ s.nat Obj.ppsWindowUs * 1000)
    let was := s.nat Obj.selectedSource
    let s := { s with time.ppsLast := now, time.ppsShort := s.time.short }
    if first then s
    else if ok then
      let s := ({ s with time.ppsEdges := satAdd 255 s.time.ppsEdges 1 }).reselect
      if s.nat Obj.selectedSource = 5 then
        let r := now % nsPerS
        s.servo (if 2 * r < nsPerS then -(r : Int) else (nsPerS - r : Nat))
      else s
    else
      let s := ({ s with time.ppsEdges := 0 }).bump Obj.ppsIgnored
      if was = 5 then s.lostSource else s

/-- PTP_ANNOUNCE (R255, R267): it makes the seconds known; the first valid offset of the selected source is taken, another one is
counted while locked. -/
def State.ptpAnnounce (s : State) (port : Nat) (off : Int) (valid : Bool) : State :=
  if !(s.up && s.bitOf Obj.ptpPortEnable port && Nat.ble port 3) then s
  else
    let s := { s with time.secondsKnown := true }.reselect
    let mine := s.nat Obj.selectedSource == port + 1 && s.qualified (port + 1)
    if !(valid && mine && decide (0 ≤ off) && decide (off ≤ 255)) then s
    else if !s.offsetKnown then
      ((s.setPaired Obj.taiUtcOffsetS off).logOp 0x3009 0xFF (pack [(8, 0), (1, s.clock), (1, s.clock), (1, 6), (1, 0), (2, enc 2 off)])).evaluate
    else if off ≠ s.get Obj.taiUtcOffsetS ∧ s.clock = 0 ∧ s.billSec ≠ s.nat Obj.lastLeap then
      (s.bump Obj.taiUtcMismatch).logOp 0x3009 0xFF (pack [(8, 0), (1, s.clock), (1, s.clock), (1, 7), (1, 0), (2, enc 2 off)])
    else s

/-- PTP_DELAY_RESP (R256): the path delay of a port. -/
def State.ptpDelayResp (s : State) (port : Nat) (delay : Int) : State :=
  if s.up && s.bitOf Obj.ptpPortEnable port then s.modPtp port fun p => { p with pathDelay := delay } else s

/-- LOCK_QUALIFIED (R266). -/
def State.lockQualified (s : State) : State := if s.up then s.evaluate else s

/-- SOURCE_LOST (R255, R266): what qualified the selected source is gone. -/
def State.sourceLost (s : State) : State :=
  let c := s.nat Obj.selectedSource
  if !s.up ∨ c = 0 then s
  else
    let s := if c = 5 then { s with time.ppsEdges := 0 }
      else if c = 6 then { s with time.beatAt := none }
      else s.modPtp (c - 1) fun p => { p with syncs := 0 }
    s.lostSource

/-- HOLDOVER_LIMIT (R266). -/
def State.holdoverLimit (s : State) : State :=
  if s.up ∧ s.clock = 1 ∧ s.elapsedS s.time.holdoverSince (s.nat Obj.holdoverLimitS) = true then s.setClock 2 5 else s

/-- HOST_BEAT (R250, R254): ignored while ServoOwner is 0. -/
def State.hostBeat (s : State) (v : Word) : State :=
  if !s.bar ∨ s.nat Obj.servoOwner = 0 then s
  else
    let claim := bit v.toNat 0
    let s := { s with time.beatBit := claim, time.beatAt := some s.now }.reselect
    if claim then { s with time.lockSince := some (s.time.lockSince.getD s.now) }.evaluate
    else
      let s := { s with time.lockSince := none }
      if s.clock = 0 then s.setClock 1 1 else s

/-- HOST_HEARTBEAT_LAPSE (R254, R257). -/
def State.heartbeatLapse (s : State) : State :=
  match s.time.beatAt with
  | some t =>
    if s.awake ∧ s.nat Obj.servoOwner = 1 ∧ t + s.nat Obj.hostHeartbeatMs * 1000000 ≤ s.now then
      let s := { s with time.beatAt := none }
      (s.lostSource).loadIncr (lockedMean s.time.locked)
    else s
  | none => s

/-- ServoOwner as a committed write leaves it (R254): the new owner starts from the increment in force; a locked clock goes to
holdover until the new owner qualifies. -/
def State.ownerChanged (s : State) : State :=
  let old := s.clock
  let s := { s with time.lockSince := none, time.beatAt := none }.reselect
  let now := s.now
  let s := if s.clock = 0 then { s with time.holdoverSince := now }.putClock 1 else s
  s.logOp 0x3009 0xFF (pack [(8, 0), (1, old), (1, s.clock), (1, 4), (1, s.nat Obj.servoOwner), (20, 0)])

/-! ### The passing of time (R246, R249) -/

/-- The step that waits is added (R248, R249). -/
def State.takeStep (s : State) : State :=
  match s.time.step with
  | some d => ({ s with time.step := none }.stepCounter d).evaluate
  | none => s

/-- n TIME cycles on the counter (R246, R251, R258, R265, R323): the counter, the short stamp, the lag, the RTC, operating time. -/
def State.count (s : State) (n : Nat) : State :=
  let ph := s.bat.rtcPhase + n * 131072
  let s := { s with bat.rtc := s.bat.rtc + ph / nsPerS, bat.rtcPhase := ph % nsPerS }
  if !s.awake then s
  else
    let t := s.time.ns * fracPerNs + s.time.frac + n * s.time.incr
    let sec := s.time.sec + t / (nsPerS * fracPerNs)
    let t := t % (nsPerS * fracPerNs)
    let q := s.time.qtr + n
    let m := s.time.subMs + n
    let ppm := s.nat Obj.billingSlewPpm
    let s := if s.clock = 0 then { s with time.locked := lockedAdd s.time.locked s.time.incr n } else s
    let s := { s with time.lag := slew s.time.lag (n * s.time.incr * ppm), time.sec := sec % 2 ^ 48, time.ns := t / fracPerNs,
                      time.frac := t % fracPerNs, time.short := (s.time.short + q / 4) % 4294967296, time.qtr := q % 4,
                      time.subMs := m % 250000 }
    if m < 250000 then s else s.set Obj.operatingTimeMs (s.nat Obj.operatingTimeMs + m / 250000 : Nat)

/-- Cycles to the next second of the counter. -/
def State.toRollover (s : State) : Nat :=
  ceilDiv ((nsPerS - s.time.ns) * fracPerNs - s.time.frac) s.time.incr

/-- n TIME cycles pass (R249): in the first a step that waits is added before the counter advances. -/
def State.pass (s : State) (n : Nat) : State := (if s.awake then s.takeStep else s).count n

/-- COUNTER_SECOND_ROLLOVER (R246): the counter runs to its next second. -/
def State.secondRollover (s : State) : State :=
  if s.awake then
    let s := s.takeStep
    s.count s.toRollover
  else s

/-! ### TAI-UTC (R267) -/

/-- Every endpoint brought to the last boundary of its calendar. -/
def State.advanceAll (s : State) : State :=
  s.nand.bills.foldl (fun (s : State) (e : Nat × Bill) => s.advance e.1 (s.calState e.2.calendar).last) s

/-- A committed write of TaiUtcOffsetS over a known value (R267): a billing step of -(new - old); boundaries are counted on in the
new local time, so that none is processed twice and those passed over are due. -/
def State.offsetWritten (s : State) (old new : Int) : State :=
  let d := new - old
  let s := s.advanceAll
  let shift (t : Nat) : Nat := ((t : Int) + d).toNat
  let ring (m : Nat) : Nat := shift (m * 60 + old.toNat % 60) / 60
  let s := { s with nand.cals := s.nand.cals.map fun (e : Nat × CalState) => (e.1, ({ e.2 with last := shift e.2.last, commits := [] } : CalState)),
                    nand.bills := s.nand.bills.map fun (e : Nat × Bill) => (e.1, ({ e.2 with lastBoundary := shift e.2.lastBoundary, ringBase := ring e.2.ringBase } : Bill)) }
  s.billingStep s.billNow ((s.billNow : Int) - d * nsPerS)

/-- A leap applied (R267): the offset before it and its instant are kept. -/
def State.applyLeap (s : State) (t : Nat) (new : Int) : State :=
  s.commitPaired [(Obj.taiUtcOffsetS, new), (Obj.prevOffset, s.get Obj.taiUtcOffsetS), (Obj.lastLeap, (t : Int))]

/-- A leap of LeapSchedule whose instant has come on billing TAI (R267). -/
def State.leapDue (s : State) : State :=
  match s.pendingLeap with
  | some (t, new) => if s.offsetKnown ∧ t ≤ s.billSec then s.applyLeap t new else s
  | none => s

/-- LEAP_INSTANT (R267): from LeapSchedule, or with flag 1 or -1 from the leap flags of the selected PTP master, at the end of a
UTC day. -/
def State.leapInstant (s : State) (flag : Int) : State :=
  if !s.up then s
  else if flag = 0 then s.leapDue
  else
    let src := s.nat Obj.selectedSource
    let new := s.get Obj.taiUtcOffsetS + (if 0 < flag then 1 else -1)
    let t := s.billSec
    if 1 ≤ src ∧ src ≤ 4 ∧ s.offsetKnown ∧ 0 ≤ new ∧ new ≤ 255 ∧ ((t : Int) - new) % 86400 = 0 ∧ t ≠ s.nat Obj.lastLeap then
      s.applyLeap t new
    else s

/-! ### Start and commands -/

/-- The time at a start (R258, R266, R267): loaded from the RTC where it is valid, the status that follows, a leap that was passed
over. -/
def State.startTime (s : State) : State :=
  let s := if s.bat.rtcValid then
      { s with time.sec := s.bat.rtc / 32768 % 2 ^ 48, time.ns := s.bat.rtc % 32768 * nsPerS / 32768 }.set Obj.rtcValid 1
    else s.set Obj.rtcValid 0
  let new := if s.bat.rtcValid && s.offsetKnown then 2 else 3
  let s := s.leapDue
  let s := if new = 3 then s.openSpan else s
  if s.clock = new then s
  else (s.putClock new).logOp 0x3009 0xFF (pack [(8, 0), (1, s.clock), (1, new), (1, 3), (21, 0)])

/-- TIME_STEP (R248, R249, R250): the write of the upper word of HIF_TIME_STEP requests the step, which the next TIME cycle adds; one that
waited already is added first. -/
def State.timeStep (s : State) (upper : Word) : State :=
  if !s.bar ∨ s.nat Obj.servoOwner = 0 then s
  else
    let s := s.takeStep
    { s with time.stepHi := upper.toNat, time.step := some (sgn 8 (s.time.stepLo + 4294967296 * upper.toNat)) }

/-- TIME_INCR_WRITE (R247): the write of HIF_TIME_INCR_INT. -/
def State.incrWrite (s : State) (int : Word) : State :=
  if !s.bar ∨ s.nat Obj.servoOwner = 0 then s else s.loadIncr (int.toNat * fracPerNs + s.time.incrFrac)

/-- SNAP_CAPTURE (R249, R250). -/
def State.snapCapture (s : State) : State :=
  if s.bar then { s with time.snap := { sec := s.time.sec, ns := s.time.ns, short := s.time.short, status := s.clock } } else s

/-- Word 0x0C of HIF_TSQ_ENTRY for the head of a queue (R261). -/
def tsqWord (q : TsQueue) : Nat :=
  match q.entries.head? with
  | some e => pack [(1, e.msgType), (1, e.domain), (1, 1), (1, 0)]
  | none => 0

/-- TSQ_POP (R261): a read by the servo owner of the word that removes the head. -/
def State.tsqPop (s : State) (port : Nat) : State :=
  match s.time.tsq[port]? with
  | none => s
  | some q =>
    let host := s.nat Obj.servoOwner == 1
    if !s.awake ∨ (host = true ∧ s.bar = false) then s
    else
      let s := if host then { s with hif.lastRead := tsqWord q } else s
      { s with time.tsq := lmod s.time.tsq port fun q => { q with entries := q.entries.drop 1 } }

/-- RTC_HOURLY_WRITE (R258): while locked. -/
def State.rtcHourly (s : State) : State := if s.awake ∧ s.clock = 0 then s.writeRtc else s

/-- TIME_SET (R259). -/
def State.timeSet (s : State) (r : CapReq) (sec ns : Nat) : State :=
  s.capExec r Obj.timeSet fun _ s =>
    if nsPerS ≤ ns ∨ 2 ^ 48 ≤ sec then (capErr 5 0, s)
    else
      let src := s.nat Obj.selectedSource
      if 1 ≤ src ∧ src ≤ 5 then (capErr 6 0, s)
      else
        let old := s.timeNow
        let s := s.stepCounter ((sec * nsPerS + ns : Nat) - (s.now : Int))
        let s := s.logLegal 0x1019 0xFF (pack [(10, old), (10, sec + 2 ^ 48 * ns), (12, 0)])
        (capOk, { s.writeRtc with time.secondsKnown := true }.reselect.evaluate)

/-- COUNTER_SECOND_ROLLOVER. -/
def execCounterSecondRollover (s : State) : Host.Outcome State Fault Refusal := .next s.secondRollover

/-- TIME_STEP. -/
def execTimeStep (upper : Word) (s : State) : Host.Outcome State Fault Refusal := .next (s.timeStep upper)

/-- TIME_INCR_WRITE. -/
def execTimeIncrWrite (int : Word) (s : State) : Host.Outcome State Fault Refusal := .next (s.incrWrite int)

/-- HOST_BEAT. -/
def execHostBeat (v : Word) (s : State) : Host.Outcome State Fault Refusal := .next (s.hostBeat v)

/-- HOST_HEARTBEAT_LAPSE. -/
def execHostHeartbeatLapse (s : State) : Host.Outcome State Fault Refusal := .next s.heartbeatLapse

/-- SNAP_CAPTURE. -/
def execSnapCapture (s : State) : Host.Outcome State Fault Refusal := .next s.snapCapture

/-- TSQ_POP. -/
def execTsqPop (port : Nat) (s : State) : Host.Outcome State Fault Refusal := .next (s.tsqPop port)

/-- PPS_EDGE. -/
def execPpsEdge (s : State) : Host.Outcome State Fault Refusal := .next s.ppsEdge

/-- PTP_SYNC. -/
def execPtpSync (port : Nat) (offsetNs : Int) (s : State) : Host.Outcome State Fault Refusal := .next (s.ptpSync port offsetNs)

/-- PTP_ANNOUNCE. -/
def execPtpAnnounce (port : Nat) (utcOffset : Int) (valid : Bool) (s : State) : Host.Outcome State Fault Refusal :=
  .next (s.ptpAnnounce port utcOffset valid)

/-- PTP_DELAY_RESP. -/
def execPtpDelayResp (port : Nat) (delayNs : Int) (s : State) : Host.Outcome State Fault Refusal :=
  .next (s.ptpDelayResp port delayNs)

/-- LOCK_QUALIFIED. -/
def execLockQualified (s : State) : Host.Outcome State Fault Refusal := .next s.lockQualified

/-- SOURCE_LOST. -/
def execSourceLost (s : State) : Host.Outcome State Fault Refusal := .next s.sourceLost

/-- HOLDOVER_LIMIT. -/
def execHoldoverLimit (s : State) : Host.Outcome State Fault Refusal := .next s.holdoverLimit

/-- LEAP_INSTANT. -/
def execLeapInstant (flag : Int) (s : State) : Host.Outcome State Fault Refusal := .next (s.leapInstant flag)

/-- RTC_HOURLY_WRITE. -/
def execRtcHourlyWrite (s : State) : Host.Outcome State Fault Refusal := .next s.rtcHourly

/-- TIME_SET. -/
def execTimeSet (r : CapReq) (sec ns : Nat) (s : State) : Host.Outcome State Fault Refusal := .next (s.timeSet r sec ns)

end Sys2Proof.Machine
end

