-- ==== Sys2Proof/Machine/Scales.lean ====
section
/-! DEFINITION. Scales (R235 to R245): the topology tree, balances, scores. -/

namespace Sys2Proof.Machine

/-! ### The tree (R235, R236, R244) -/

/-- A node of the tree in use. -/
def State.node (s : State) (n : Nat) : Option Node := (tget s.nand.nodes n).filter fun x => x.kind != 0

/-- The nodes in use under a node. -/
def State.childNodes (s : State) (n : Nat) : List Nat :=
  (s.nand.nodes.filter fun e => e.2.kind != 0 && e.2.parent == n).map (·.1)

/-- The endpoints that name a node (R236), references or members. -/
def State.atNode (s : State) (n : Nat) (reference : Bool) : List Record :=
  (s.nand.recs.filter fun e => e.2.live && e.2.node == n && e.2.flag 7 == reference).map (·.2)

/-- The contributors of a node (R236). -/
def State.contributors (s : State) : Nat → Nat → List Record
  | 0, _ => []
  | fuel + 1, n =>
    s.atNode n false ++ (s.childNodes n).flatMap fun c =>
      match s.node c with
      | some x => if x.kind = 3 then s.contributors fuel c else s.atNode c true
      | none => []

/-- Whether a node is faulted (R236). -/
def State.nodeFaulted (s : State) (n : Nat) (x : Node) : Bool :=
  (x.kind != 3 && Nat.blt 1 (s.atNode n true).length) || (x.kind == 3 && !(s.atNode n true).isEmpty) ||
  (s.contributors 17 n).any fun r => r.flag 1

/-- Who gains points from an imbalance of a node (R242): its members and every contributor reached through a junction. -/
def State.suspects (s : State) (n : Nat) : List Record :=
  s.atNode n false ++ (s.childNodes n).flatMap fun c =>
    match s.node c with
    | some x => if x.kind = 3 then s.contributors 16 c else []
    | none => []

/-- A node changed. -/
def State.modNode (s : State) (n : Nat) (f : Node → Node) : State := { s with nand.nodes := tmod s.nand.nodes n f }

/-- A change of the tree at a node marks its balance and, since a node contributes to its parent, those above it up to the first
that has a reference meter (R244). -/
def State.touchNode (s : State) : Nat → Nat → State
  | 0, _ => s
  | fuel + 1, n =>
    match s.node n with
    | none => s
    | some x =>
      let s := s.modNode n fun y => { y with touched := s.billSec :: y.touched }
      match s.node x.parent with
      | none => s
      | some p => if p.kind = 3 then s.touchNode fuel x.parent
          else s.modNode x.parent fun y => { y with touched := s.billSec :: y.touched }

/-- The nodes from one to its root, itself first. -/
def State.pathUp (s : State) : Nat → Nat → List Nat
  | 0, _ => []
  | fuel + 1, n =>
    match s.node n with
    | none => []
    | some x => n :: s.pathUp fuel x.parent

/-- The height of the tree under a node, itself counted. -/
def State.heightOf (s : State) : Nat → Nat → Nat
  | 0, _ => 0
  | fuel + 1, n => 1 + ((s.childNodes n).map (s.heightOf fuel)).foldl Nat.max 0

/-- A node as its 32 bytes (R235). -/
def Node.pack (x : Node) (id : Nat) : Nat :=
  Machine.pack [(2, id), (2, x.parent), (1, x.kind), (1, x.tenant), (2, x.flags), (4, x.minWh), (2, x.permille), (2, 0), (12, x.name),
    (4, 0)]

/-- The outcome of a node write (R235), 0 where it is accepted: out of range, or busy. -/
def State.nodeCheck (s : State) (a : NodeArg) : Nat :=
  let up := s.pathUp 17 a.parent
  if 16383 < a.id ∨ 3 < a.kind then 5
  else if a.kind = 0 then
    if (s.childNodes a.id).isEmpty && (s.atNode a.id false).isEmpty then 0 else 6
  else if 7 < a.tenant ∨ a.permille = 0 ∨ 1000 < a.permille ∨ 65535 < a.flags ∨ 4294967295 < a.minWh then 5
  else if a.parent ≠ 65535 ∧ up.isEmpty then 5
  else if up.contains a.id ∨ 16 < up.length + s.heightOf 17 a.id then 5
  else 0

/-- A node written (R235, R244): both the old parent and the new are marked. -/
def State.nodeApply (s : State) (a : NodeArg) : State :=
  let s := s.touchNode 17 a.id
  let old := tget s.nand.nodes a.id
  let start := s.balanceEnd s.billSec - s.balanceB s.billSec * 60
  let x : Node := match old with
    | some x => if x.kind = 0 then { x with run := 0, last := 0, lastEnd := start, faulted := false, touched := [] } else x
    | none => { parent := 0, kind := 0, tenant := 0, flags := 0, minWh := 0, permille := 0, name := 0, run := 0, last := 0,
                lastEnd := start, faulted := false, touched := [] }
  let x := { x with parent := a.parent, kind := a.kind, tenant := a.tenant, flags := a.flags % 2, minWh := a.minWh,
                    permille := a.permille, name := a.name }
  let s := if a.kind = 0 then { s with nand.nodes := tdel s.nand.nodes a.id } else { s with nand.nodes := tput s.nand.nodes a.id x }
  (s.touchNode 17 a.id).commit 32 1

/-- NODE_WRITE (R235). -/
def State.nodeWrite (s : State) (r : CapReq) (a : NodeArg) : State :=
  s.capExec r Obj.nodeWrite fun _ s =>
    match s.nodeCheck a with
    | 0 => s.mediaGate fun s =>
        let s := s.nodeApply a
        (capOk, s.set Obj.nodesUsed s.nand.nodes.length)
    | e => (capErr e 0, s)

/-- NODE_READ (R245): the node, its run length and its last balance record. -/
def State.nodeRead (s : State) (r : CapReq) (n : Nat) : State :=
  s.capExec r Obj.nodeRead fun _ s =>
    if 16383 < n then (capErr 5 0, s)
    else
      match tget s.nand.nodes n with
      | some x => (capVal 98 (pack [(32, x.pack n), (2, x.run), (64, x.last)]), s)
      | none => (capVal 98 (pack [(2, n), (96, 0)]), s)

/-- SCORE_RESET (R243). -/
def State.scoreReset (s : State) (r : CapReq) (tag : Nat) : State :=
  s.capExec r Obj.scoreReset fun ses s =>
    s.target ses tag false fun e => s.mediaGate fun s =>
      (capOk, ((s.scoreLower tag 0).logOp 0x3007 e.tenant (pack [(8, tag), (2, 0), (2, s.nat Obj.scoreAlarm), (1, 0), (19, 0)])).commit 256 1)

/-! ### Balances (R237 to R242) -/

/-- The energy of an endpoint in the interval that ends at an instant: the value in mWh and whether it is complete (R237, R238). -/
def State.energyOf (s : State) (r : Record) (fin B : Nat) : Int × Bool :=
  match s.nand.energies.find? fun e => e.tag == r.tag && e.fin == fin with
  | none => (0, false)
  | some e => (e.imp - e.exp_, e.impMin == B && ((r.channelOf 2).isNone || e.expMin == B) && !e.rejected)

/-- Whether an endpoint's energy in an interval has a mark: estimated, or power-off. -/
def State.energyHas (s : State) (r : Record) (fin : Nat) (p : NodeEnergy → Bool) : Bool :=
  s.nand.energies.any fun e => e.tag == r.tag && e.fin == fin && p e

/-- The loss of R239 in mWh, from F, K, B and E_ref. -/
def lossOf (F K B : Nat) (e : Int) : Int := (F * B / 60 : Nat) + ((K : Int) * (e * e) * 60) / ((B * 1000000000000 : Nat) : Int)

/-- The relative imbalance of R239. -/
def permilleOf (i e : Int) : Int :=
  if e = 0 then (if i = 0 then 0 else if 0 < i then 32767 else -32767)
  else clamp (-32767) 32767 (Int.tdiv (i * 1000) (e.natAbs : Int))

/-- The balance of a node for the interval that ends at an instant, evaluated, recorded and scored (R238 to R242, R244). -/
def State.evaluateNode (s : State) (n : Nat) (x : Node) (ref : Record) (fin B : Nat) : State :=
  let cs := s.contributors 17 n
  let eRef := s.energyOf ref fin B
  let es := cs.map fun c => s.energyOf c fin B
  let missing := (es.filter fun e => !e.2).length + b2n (!eRef.2)
  let sum := es.foldl (fun (t : Int) (e : Int × Bool) => t + e.1) 0
  let model := s.nat (Obj.lossModel n)
  let loss := lossOf (bytesAt model 0 4) (bytesAt model 4 4) B eRef.1
  let i := eRef.1 - sum - loss
  let p := permilleOf i eRef.1
  let complete := missing == 0
  let off := (ref :: cs).any fun c => s.energyHas c fin (·.off)
  let est := (ref :: cs).any fun c => s.energyHas c fin (·.estimated)
  let changed := x.touched.any fun t => Nat.ble (fin - B * 60) t && Nat.blt t fin
  let lim : Int := (x.minWh * 1000 : Nat)
  let imbalanced := complete && decide (lim ≤ i) && decide ((x.permille : Int) ≤ p)
  let negative := complete && decide (lim ≤ -i) && decide ((x.permille : Int) ≤ -p)
  let run := if complete && !off && !changed then (if imbalanced then satAdd 65535 x.run 1 else 0) else x.run
  let flags := b2n complete + 2 * b2n imbalanced + 4 * b2n negative + 8 * b2n off + 16 * b2n est + 32 * b2n changed
  let rec_ := pack [(2, n), (1, x.tenant), (1, flags), (2, cs.length), (2, missing), (6, fin), (2, B), (8, enc 8 eRef.1), (8, enc 8 sum),
    (8, enc 8 loss), (8, enc 8 i), (2, enc 2 p), (2, run), (12, 0)]
  let s := s.modNode n fun y => { y with run := run, last := rec_, lastEnd := fin, faulted := false,
                                         touched := y.touched.filter fun t => Nat.ble fin t }
  let s := (s.commit 64 1).bump Obj.balancesEvaluated
  let s := s.uplink x.tenant { ty := 3, len := 64, data := rec_ } 0
  let s := if complete then s else s.bump Obj.balancesIncomplete
  let s := if negative then s.bump Obj.balancesNegative else s
  let s := if imbalanced || negative then s.logOp 0x3006 x.tenant (rec_ % 256 ^ 32) else s
  if imbalanced && !est && !off && !changed && Nat.ble (s.nat Obj.imbalanceRunMin) run then
    (s.suspects n).foldl (fun (s : State) (c : Record) => s.scoreAdd c.tag (s.nat Obj.imbalancePoints) 1) s
  else s

/-- BALANCE_EVALUATION (R236, R238, R243): the next interval of a node, BalanceDelayS after its end, once the decay of a midnight that has
passed is committed. -/
def State.balanceEvaluation (s : State) (n : Nat) : State :=
  let s := s.taiMidnight
  match s.node n with
  | none => s
  | some x =>
    let fin := s.balanceEnd x.lastEnd
    let B := s.balanceB x.lastEnd
    if !(s.serving && Nat.ble (fin + s.nat Obj.balanceDelayS) s.billSec) then s
    else if !(s.flag Obj.scalesEnable && bit x.flags 0) then s.modNode n fun y => { y with lastEnd := fin }
    else if s.nodeFaulted n x then
      let s := s.bump Obj.nodeFaults
      let s := if x.faulted then s else s.logOp 0x3006 x.tenant (pack [(2, n), (1, x.tenant), (1, 0xFF), (28, 0)])
      s.modNode n fun y => { y with lastEnd := fin, faulted := true }
    else
      match x.kind, (s.atNode n true).head? with
      | 3, _ => s.modNode n fun y => { y with lastEnd := fin, faulted := false }
      | _, none => s.modNode n fun y => { y with lastEnd := fin, faulted := false }
      | _, some ref => s.evaluateNode n x ref fin B

/-- NODE_WRITE. -/
def execNodeWrite (r : CapReq) (a : NodeArg) (s : State) : Host.Outcome State Fault Refusal := .next (s.nodeWrite r a)

/-- NODE_READ. -/
def execNodeRead (r : CapReq) (node : Nat) (s : State) : Host.Outcome State Fault Refusal := .next (s.nodeRead r node)

/-- SCORE_RESET. -/
def execScoreReset (r : CapReq) (tag : Nat) (s : State) : Host.Outcome State Fault Refusal := .next (s.scoreReset r tag)

/-- BALANCE_EVALUATION. -/
def execBalanceEvaluation (node : Nat) (s : State) : Host.Outcome State Fault Refusal := .next (s.balanceEvaluation node)

/-- TAI_MIDNIGHT. -/
def execTaiMidnight (s : State) : Host.Outcome State Fault Refusal := .next s.taiMidnight

end Sys2Proof.Machine
end

