-- ==== Sys2Proof/Machine/Deferred.lean ====
section
/-! DEFINITION. Assay's deferred work as commands (R179, R182): deferred rules, gap estimation, the profile-forward fill. -/

namespace Sys2Proof.Machine

/-- A deferred item carried out once it is due (R179, R182; the thermal governor holds back deferred rules, R431), ordered like a frame of its endpoint (R25), which is in its open
period (R212). Result commits do not occur while the media is read-only (R315). -/
def State.deferredWork (s : State) (tag channel rule fin : Nat) : State :=
  match s.nand.deferred.find? fun d => d.tag == tag && d.channel == channel && d.rule == rule && d.fin == fin with
  | none => s
  | some d =>
    if !(s.serving && Nat.ble d.due s.billSec && !s.endpointBusy tag && s.nat Obj.mediaState == 0 &&
         (Nat.ble 64 rule || !s.governed)) then s
    else
      match s.record tag with
      | none => s.undefer d
      | some r =>
        let s := s.advanceFor tag 0
        let w := ((s.bill tag).map fun b => (s.calState b.calendar).w).getD 0
        (s.runDeferred r w s.billSec d).commit 256 1

/-- DEFERRED_RULE (R179). -/
def execDeferredRule (tag channel rule intervalEnd : Nat) (s : State) : Host.Outcome State Fault Refusal :=
  .next (if rule < 64 then s.deferredWork tag channel rule intervalEnd else s)

/-- GAP_ESTIMATION (R182). -/
def execGapEstimation (tag channel t0 : Nat) (s : State) : Host.Outcome State Fault Refusal :=
  .next (s.deferredWork tag channel 64 t0)

/-- PROFILE_FORWARD_FILL (R182). -/
def execProfileForwardFill (tag channel t0 : Nat) (s : State) : Host.Outcome State Fault Refusal :=
  .next (s.deferredWork tag channel 65 t0)

end Sys2Proof.Machine
end

