-- ==== Sys2Proof/Machine/MemoryOps.lean ====
section
/-! DEFINITION. On-chip memory and Seesaw (R170, R336 to R351): lines, banks, the address map, queues, the frames that queues name. -/

namespace Sys2Proof.Machine

/-! ### Big Top (R338 to R344) -/

/-- The bank of a line (R338). -/
def bankOf (line : Nat) : Nat := line / 32768

/-- The value of a line, 0 where it is not listed. -/
def State.line (s : State) (n : Nat) : Line := (tget s.mem.lines n).getD 0

/-- A line set: a zero line is not listed. -/
def State.setLine (s : State) (n : Nat) (v : Line) : State :=
  { s with mem.lines := if v = 0 then tdel s.mem.lines n else tput s.mem.lines n v,
           mem.poisoned := s.mem.poisoned.filter (· != n) }

/-- The bits of a line that byte enables cover. -/
def enableMask (e : BitVec 16) : Line :=
  (List.range 16).foldl (fun (m : Line) (i : Nat) => if e.getLsbD i then m ||| ((0xFF : Line) <<< (8 * i)) else m) 0

/-- A line after a write (R338, R340). -/
def LineWrite.apply (w : LineWrite) (old : Line) : Line :=
  let m := enableMask w.enables
  if w.kind = 1 then old ||| (w.data &&& m)
  else if w.kind = 2 then old &&& ~~~(w.data &&& m)
  else (old &&& ~~~m) ||| (w.data &&& m)

/-- A write carried out on a bank that is on. -/
def State.writeLine (s : State) (w : LineWrite) : State := s.setLine w.line (w.apply (s.line w.line))

/-- A bank's state (R343, R344): 0 on, 1 clearing, 2 off. -/
def State.bank (s : State) (b : Nat) : Nat := (s.mem.banks[b]?).getD 0

/-- A bank wakes (R344) and starts to clear. -/
def State.wakeBank (s : State) (b : Nat) (onAccess : Bool) : State :=
  if s.bank b ≠ 2 then s
  else
    let s := { s with mem.banks := s.mem.banks.set b 1 }.bump Obj.bankWakes
    if onAccess then s.bump Obj.bankWakeOnAccess else s

/-- A write that reaches its bank: carried out, or stalled until the bank, which it wakes, is clear (R344). -/
def State.access (s : State) (w : LineWrite) : State :=
  let b := bankOf w.line
  if s.bank b = 0 then s.writeLine w
  else { s.wakeBank b true with mem.stalled := s.mem.stalled ++ [w] }

/-- Whether a bank is asked to be off (R343, R416). -/
def State.bankAskedOff (s : State) (b : Nat) : Bool :=
  Nat.ble 8 b && Nat.ble b 31 && (s.bitOf Obj.bigTopBankOff b || (s.nat Obj.powerState == 1 && Nat.ble 16 b))

/-- A bank goes off, its contents with it (R343), unless an access waits for it. -/
def State.bankOff (s : State) (b : Nat) : State :=
  if s.bankAskedOff b && s.bank b == 0 then
    { s with mem.banks := s.mem.banks.set b 2, mem.lines := s.mem.lines.filter fun e => bankOf e.1 != b,
             mem.poisoned := s.mem.poisoned.filter fun l => bankOf l != b }
  else s

/-- A bank is clear: every line zero, then the stalled writes in their order (R344). -/
def State.bankClear (s : State) (b : Nat) : State :=
  if s.bank b ≠ 1 then s
  else
    let mine := s.mem.stalled.filter fun w => bankOf w.line == b
    let s := { s with mem.banks := s.mem.banks.set b 0, mem.stalled := s.mem.stalled.filter fun w => bankOf w.line != b,
                      mem.lines := s.mem.lines.filter fun e => bankOf e.1 != b }
    mine.foldl State.writeLine s

/-! ### The address map (R336, R337, R345) -/

/-- DDR trained, in bytes (R336, R415). -/
def State.ddrBytes (s : State) : Nat := ((s.pw.board.map (·.ddrGiB)).getD 0) * 1073741824

/-- Whether an access is an address fault (R337); requesters 0 to 19 are the Jugglers with the DMA they issue. -/
def State.addressFaults (s : State) (a requester : Nat) : Bool :=
  if a < 0x03000000 then false
  else if 0x10000000 ≤ a ∧ a < 0x10000000 + 20 * 0x40000 then decide (requester ≠ (a - 0x10000000) / 0x40000)
  else if 0x30100000 ≤ a ∧ a < 0x30100000 + 96 * 0x40 then false
  else if 0xF0000000 ≤ a ∧ a < 0x100000000 then false
  else !(Nat.ble 0x100000000 a && Nat.blt a (0x100000000 + s.ddrBytes))

/-! ### Seesaw (R346 to R351) -/

/-- The number of producer ports of a queue: the producers that R170 names. -/
def producersOf (q : Nat) : Nat :=
  if q < 80 then 1 else if q < 84 then 8 else if q < 88 then 3 else 4

/-- A queue at reset (R346). -/
def Seesaw.fresh (q depth : Nat) : Seesaw :=
  let p := producersOf q
  { bank0 := [], bank1 := [], fill := 0, credits := List.replicate p (depth / p), seqs := List.replicate p 0, waiting := [], ports := p,
    depth, poison := false, corrected := 0, out := 0 }

/-- Where the queue ports stand in the address map (R336). -/
abbrev seesawBase : Nat := 0x30100000

/-- The queue whose ports hold an address (R336, R349). -/
def seesawAt (a : Nat) : Nat := (a - seesawBase) / 64

/-- The bank that fills. -/
def Seesaw.filling (q : Seesaw) : List Line := if q.fill = 0 then q.bank0 else q.bank1

/-- The bank that drains. -/
def Seesaw.draining (q : Seesaw) : List Line := if q.fill = 0 then q.bank1 else q.bank0

/-- Both banks set. -/
def Seesaw.setBanks (q : Seesaw) (filling draining : List Line) : Seesaw :=
  if q.fill = 0 then { q with bank0 := filling, bank1 := draining } else { q with bank0 := draining, bank1 := filling }

/-- A push by a port with credit into the fill bank (R348, R350 step 1). -/
def Seesaw.put (q : Seesaw) (port : Nat) (x : Line) : Seesaw :=
  let q := q.setBanks (q.filling ++ [x]) q.draining
  { q with credits := lmod q.credits port (· - 1) }

/-- The banks swap when the drain bank is empty and the fill bank is not; every port's credit is filled (R350 step 3), so that
items which ports kept enter as far as their credits go. -/
def Seesaw.swap (q : Seesaw) : Seesaw :=
  if q.draining.isEmpty && !q.filling.isEmpty then
    let q := { q with fill := 1 - q.fill, credits := List.replicate q.ports (q.depth / Nat.max 1 q.ports) }
    let e := q.waiting.foldl (fun (a : Seesaw × List (Nat × Line)) (w : Nat × Line) =>
      if Nat.blt 0 (a.1.credits.getD w.1 0) then (a.1.put w.1 w.2, a.2) else (a.1, a.2 ++ [w])) (q, [])
    { e.1 with waiting := e.2 }
  else q

/-- A pop of the head of the drain bank, the idle item where it is empty (R350 step 2). -/
def Seesaw.pop (q : Seesaw) : Line × Seesaw :=
  match q.draining with
  | [] => (0, q)
  | x :: t => (x, q.setBanks q.filling t)

/-- HIF-visible Status of a queue (R349). -/
def Seesaw.status (q : Seesaw) : Nat :=
  (q.ports - 1) % 8 + 8 * b2n q.poison + 32 * q.filling.length + 262144 * q.draining.length + 2147483648 * q.fill

/-- The Status and Corrected registers of a queue (R349), by their offsets; the other offsets have rows of their own. -/
def Seesaw.reg (q : Seesaw) (off : Nat) : Nat :=
  match off with
  | 0x28 => q.status
  | 0x2C => q.corrected
  | _ => 0

/-- A queue changed. -/
def State.modQueue (s : State) (q : Nat) (f : Seesaw → Seesaw) : State := { s with mem.queues := tmod s.mem.queues q f }

/-- An item of one of the part's own producers: pushed with the next Sequence of its port, or kept while the port has no
credit (R347, R348). `body` holds the item without Producer and Sequence. -/
def Seesaw.offer (q : Seesaw) (port body : Nat) : Line × Seesaw :=
  let seq := q.seqs.getD port 0
  let x : Line := BitVec.ofNat 128 (body + 2 ^ 112 * port + 2 ^ 96 * seq)
  let q := { q with seqs := lmod q.seqs port fun n => (n + 1) % 65536 }
  (x, if Nat.blt 0 (q.credits.getD port 0) then (q.put port x).swap else { q with waiting := q.waiting ++ [(port, x)] })

/-- An item taken out of its queue by its consumer. -/
def State.takeItem (s : State) (q : Nat) (x : Line) : State :=
  s.modQueue q fun w => ({ w with bank0 := w.bank0.filter (· != x), bank1 := w.bank1.filter (· != x),
                                  waiting := w.waiting.filter fun e => e.2 != x }).swap

/-- An item pushed into a queue by its first producer (R170, R348); nothing before the queues are there. -/
def State.offerTo (s : State) (q body : Nat) : Line × State :=
  match tget s.mem.queues q with
  | none => (0, s)
  | some w =>
    let (x, w) := w.offer 0 body
    (x, { s with mem.queues := tput s.mem.queues q w })

/-- A place of n lines in banks 8 to 31 (R338), as its first line: free among the banks that are on; in bank 8, which an access wakes,
where none is. -/
def State.freeLines (s : State) (n : Nat) : Nat × State :=
  let (x, s) := s.draw
  let on := ((List.range 24).map (8 + ·)).filter fun b => s.bank b == 0
  let k := x / 32
  (32768 * on.getD (x % 32 % Nat.max 1 on.length) 8 + k % (32768 - Nat.min n 32767), s)

/-- n lines of data from a line on, its least significant bytes first. -/
def State.writeLines (s : State) (line n data : Nat) : State :=
  (List.range n).foldl (fun (s : State) (i : Nat) => s.setLine (line + i) (BitVec.ofNat 128 (data / 2 ^ (128 * i)))) s

/-- Data written where a block places it (R70, R338): into a bank that is on, or stalled until the bank it wakes is clear (R344). -/
def State.placeData (s : State) (line n data : Nat) : State :=
  if ((List.range 24).map (8 + ·)).any fun b => s.bank b == 0 then s.writeLines line n data
  else
    (List.range n).foldl (fun (s : State) (i : Nat) =>
      s.access { line := line + i, kind := 0, data := BitVec.ofNat 128 (data / 2 ^ (128 * i)), enables := 0xFFFF }) s

/-- A received frame's data placed in Big Top and its item pushed to its cell's queue (R70, R170, R347): `head` the n bytes that
stand before the frame's bytes, with the address of those bytes at an offset in them; the item, the head as it stands there. -/
def State.pushFrame (s : State) (cell head n : Nat) (at_ : Option Nat) (length data : Nat) : Line × Nat × State :=
  let lines := ceilDiv (n + length) 16
  let (line, s) := s.freeLines lines
  let head := head + ((at_.map fun o => (16 * line + n) * 256 ^ o).getD 0)
  let s := s.placeData line lines (head + data % 256 ^ length * 256 ^ n)
  let (x, s) := s.offerTo cell (2 ^ 124 + 2 ^ 64 * (length % 4294967296) + 16 * line)
  (x, head, s)

/-! ### Frames in the queues (R170, R347) -/

/-- A frame on the path. -/
def State.frame (s : State) (id : Nat) : Option Frame := s.frames.find? fun f => f.id == id

/-- A frame changed. -/
def State.modFrame (s : State) (id : Nat) (g : Frame → Frame) : State :=
  { s with frames := s.frames.map fun (f : Frame) => if f.id == id then g f else f }

/-- The intake queue of a subordinate (R170). -/
def intakeQueue (n : Nat) : Nat := 16 + n % 4

/-- The queue that holds the item of a frame at a stage of the path (R170): its cell's or its subordinate's intake queue, then a queue of
its tenant; none while group 2 has it between steps 7 and 8, and after step 10. -/
def Frame.queueAt (f : Frame) (stage : Nat) : Option Nat :=
  match stage with
  | 1 => some (match f.forwarded with
    | some (n, _) => intakeQueue n
    | none => f.cell)
  | 2 => some (20 + f.tenant)
  | 3 => some (28 + f.tenant)
  | 4 => some (36 + f.tenant)
  | 5 => some (44 + f.tenant)
  | 6 => some (52 + f.tenant)
  | 8 => some (60 + f.tenant)
  | 9 => some (68 + f.tenant)
  | _ => none

/-- The Type of a frame's item at a stage (R347): frame, reading, result commit, uplink record. -/
def itemType (stage : Nat) : Nat := if stage ≤ 4 then 1 else if stage ≤ 6 then 2 else if stage = 8 then 3 else 9

/-- A frame's item at a stage without Producer and Sequence (R347): Param the length, for a result commit its journal sequence. -/
def Frame.body (f : Frame) (stage : Nat) : Nat :=
  let param := if stage = 8 then f.journal else f.length
  2 ^ 124 * itemType stage + 2 ^ 120 * (f.tenant % 8) + 2 ^ 64 * (param % 4294967296) + f.item.toNat % 2 ^ 64

/-- The response request of a frame is taken out of its port's queue (R170). -/
def State.takeAsk (s : State) (f : Frame) : State := if f.ask = 0 then s else s.takeItem (76 + f.port) f.ask

/-- A response request of an admitted frame pushed into its port's queue (R170, R347). -/
def State.askResponse (s : State) (f : Frame) : Line × State :=
  s.offerTo (76 + f.port) (2 ^ 124 * 8 + 2 ^ 120 * (f.tenant % 8) + 2 ^ 64 * (f.length % 4294967296) + f.item.toNat % 2 ^ 64)

/-- A frame's item taken out of the queue that holds it. -/
def State.takeFrom (s : State) (f : Frame) : State :=
  match f.queueAt f.stage with
  | some q => s.takeItem q f.item
  | none => s

/-- A frame leaves the path, its items with it. -/
def State.dropFrame (s : State) (id : Nat) : State :=
  match s.frame id with
  | none => s
  | some f => { (s.takeFrom f).takeAsk f with frames := s.frames.filter fun g => g.id != id }

/-- The set of eight tenant queues that holds the frames at a stage (R170), by its place among the seven. -/
def turnSet (stage : Nat) : Nat := if stage ≤ 6 then stage - 2 else stage - 3

/-- The turn of a set of tenant queues passes on (R170). -/
def State.served (s : State) (f : Frame) : State :=
  if f.stage = 1 ∨ f.queueAt f.stage = none then s
  else { s with mem.turns := s.mem.turns.set (turnSet f.stage) f.tenant }

/-- A frame goes on to a stage (R170): its item taken by the consumer of the queue that held it and pushed into the queue of the next step,
behind the frames that stand there. One item names the frame at each step (DESIGN CHOICE, log entry 113). -/
def State.toStage (s : State) (f : Frame) (stage : Nat) : State :=
  let s := (s.served f).takeFrom f
  let (x, s) := match f.queueAt stage with
    | some q => s.offerTo q (f.body stage)
    | none => (f.item, s)
  { s with frames := (s.frames.filter fun g => g.id != f.id) ++ [{ f with stage, item := x }] }

/-- Whether the consumer of a set of tenant queues takes a frame next (R170): the tenants of `ready`, the frames that it could take, in
turn, the tenant's frames in the order of their items. -/
def State.turnOf (s : State) (f : Frame) (ready : List Frame) : Bool :=
  let last := s.mem.turns.getD (turnSet f.stage) 7
  let next := ((List.range 8).map fun i => (last + 1 + i) % 8).find? fun t => ready.any fun g => g.tenant == t
  next == some f.tenant && (ready.find? fun g => g.tenant == f.tenant).map (·.id) == some f.id

/-- SEESAW_PUSH (R348, R349): any other width, or a port without credit, is counted. -/
def State.seesawPush (s : State) (q port width : Nat) (x : Line) : State :=
  match tget s.mem.queues q with
  | none => s
  | some w =>
    if !s.awake then s
    else if width = 128 ∧ 0 < w.credits.getD port 0 then { s with mem.queues := tput s.mem.queues q (w.put port x).swap }
    else s.bump Obj.seesawPortErrors

end Sys2Proof.Machine
end

