-- ==== Sys2Proof/Machine/LocketOps.lean ====
section
/-! DEFINITION. Locket (R144 to R169): KEK generations, blobs, KEY_UPDATE, rewrap and rekey marking, attestation, key SRAM and its
masking, entropy, zeroize. -/

namespace Sys2Proof.Machine

/-! ### KEK slots (R153, R154) -/

/-- A KEK slot of a tenant. -/
def State.kek (s : State) (t slot : Nat) : KekSlot := (tget s.loc.keys.keks (64 * t + slot)).getD { cur := none, prev := none }

/-- The state code of a slot (R169): 0 Empty, 1 Single, 2 Draining. -/
def KekSlot.state (k : KekSlot) : Nat :=
  match k.cur, k.prev with
  | none, _ => 0
  | some _, none => 1
  | some _, some _ => 2

/-- The KEK of a generation in a slot. -/
def KekSlot.byGen (k : KekSlot) (g : Nat) : Option Nat :=
  match k.cur.filter (·.1 == g) with
  | some c => some c.2.1
  | none => (k.prev.filter (·.1 == g)).map (·.2.1)

/-- A slot after an install of generation g (R153), none where the entry is invalid. -/
def KekSlot.install (k : KekSlot) (g name : Nat) (inside : Bool) : Option KekSlot :=
  match k.cur, k.prev with
  | none, none => some { cur := some (g, name, inside), prev := none }
  | some c, none => if c.1 < g then some { cur := some (g, name, inside), prev := some c } else none
  | _, _ => none

/-- A slot after the revocation of generation g (R154), none where it does not hold it. -/
def KekSlot.revoke (k : KekSlot) (g : Nat) : Option KekSlot :=
  match k.cur with
  | none => none
  | some c =>
    if c.1 = g then some { cur := k.prev, prev := none }
    else
      match k.prev with
      | some p => if p.1 = g then some { k with prev := none } else none
      | none => none

/-- A KEK slot set. -/
def State.setKek (s : State) (t slot : Nat) (k : KekSlot) : State :=
  { s with loc.keys.keks := tput s.loc.keys.keks (64 * t + slot) k }

/-! ### Blobs (R148 to R150) -/

/-- Blob slots of the role that runs (R149). -/
def State.blobSlots (s : State) : Nat := if s.pw.regional then 1064960 else 81920

/-- Blob slots free. -/
def State.blobsFree (s : State) : Nat := s.blobSlots - s.nand.blobs.length

/-- A free blob slot. -/
def State.freeBlob (s : State) : Option Nat :=
  if s.blobsFree = 0 then none
  else (List.range (s.nand.blobs.length + 1)).find? fun i => (tget s.nand.blobs i).isNone

/-- The blob of a record. -/
def State.blobOf (s : State) (r : Record) : Option Nat := r.blob.bind fun i => tget s.nand.blobs i

/-- A blob's header (R148): version 1, kind, generation, tenant, slot, usage. -/
def blobHeader (kind gen tenant slot usage : Nat) : Nat := pack [(1, 1), (1, kind), (2, gen), (1, tenant), (1, slot), (2, usage)]

/-- BlobVersion (R148). -/
def blobVersion (b : Nat) : Nat := byteAt b 0

/-- KeyKind (R148). -/
def blobKind (b : Nat) : Nat := byteAt b 1

/-- KekGeneration (R148). -/
def blobGen (b : Nat) : Nat := bytesAt b 2 2

/-- Tenant (R148). -/
def blobTenant (b : Nat) : Nat := byteAt b 4

/-- KekSlot (R148). -/
def blobSlot (b : Nat) : Nat := byteAt b 5

/-- Usage (R148). -/
def blobUsage (b : Nat) : Nat := bytesAt b 6 2

/-- A blob of 64 bytes (R148): its header in clear, then AES-256 KW under the KEK of header copy, Endpoint Tag and key material. -/
def sealBlob (kek header tag key : Nat) : Nat := header + kwWrap kek 6 (header + tag <<< 64 + key <<< 128) <<< 64

/-- The key material of a blob under a KEK, where the wrap opens and its header copy and Endpoint Tag are right (R150). -/
def openBlob (kek tag b : Nat) : Option Nat :=
  match kwUnwrap kek 6 (b >>> 64) with
  | none => none
  | some p => if p % 2 ^ 64 = b % 2 ^ 64 ∧ (p >>> 64) % 2 ^ 64 = tag then some (p >>> 128) else none

/-- A new blob put in force for an endpoint in a free slot; its old slot stays as it is until the commit (R149). -/
def State.putBlob (s : State) (r : Record) (b : Nat) : State :=
  match s.freeBlob with
  | none => s
  | some i =>
    { s with nand.blobs := tput s.nand.blobs i b }.modRecord r.tag fun r => { r with blob := some i, kekGen := blobGen b }

/-- After a commit (R149): the slots that no record names are overwritten with zeros and free. -/
def State.freeOldBlobs (s : State) : State :=
  { s with nand.blobs := s.nand.blobs.filter fun e => s.nand.recs.any fun x => x.2.blob == some e.1 }

/-- The key that a record's blob gives, where it opens under the generation its header names (R150). -/
def State.keyOf (s : State) (r : Record) (b : Nat) : Option Nat :=
  ((s.kek (blobTenant b) (blobSlot b)).byGen (blobGen b)).bind fun k => openBlob k r.tag b

/-- Whether a record's blob opens. -/
def State.unwraps (s : State) (r : Record) (b : Nat) : Bool := (s.keyOf r b).isSome

/-- The Locket result of an unwrap (R150), 0 where it succeeds. -/
def State.unwrapResult (s : State) (r : Record) (suite : Nat) : Nat :=
  match r.blob with
  | none => 12
  | some _ =>
    match s.blobOf r with
    | none => 10
    | some b =>
      if blobVersion b ≠ 1 ∨ ¬(blobKind b = 1 ∨ blobKind b = 2) then 1
      else if blobTenant b ≠ r.tenant ∨ blobGen b ≠ r.kekGen then 11
      else
        let k := s.kek (blobTenant b) (blobSlot b)
        if k.state = 0 then 8
        else if (k.byGen (blobGen b)).isNone then 9
        else if !s.unwraps r b then 10
        else if !bit (blobUsage b) suite then 17
        else 0

/-- The counter of a refusal (R150). Result 17 stands for a Usage refusal, which Locket reports as MISMATCH. -/
def refusalCounter (code : Nat) : Nat :=
  if code = 12 then Obj.noBlobRefusals
  else if code = 8 then Obj.noKekRefusals
  else if code = 9 then Obj.staleBlobRefusals
  else if code = 11 ∨ code = 17 then Obj.blobMismatch
  else Obj.blobIntegrityFail

/-- A refusal at step 3 (R150, R326): counted, folded into the record of its reason; a stale blob sets RekeyPending. -/
def State.refuseBlob (s : State) (r : Record) (code : Nat) : State :=
  let s := s.bump (refusalCounter code)
  let s := if code = 9 then s.modRecord r.tag fun r => { r with flags := setBit r.flags 2 true } else s
  s.logSec 0x2005 0xFF (pack [(1, if code = 17 then 11 else code), (1, 0), (6, 0), (8, r.tag)])

/-- A frame whose security is of a kind not listed (R165). -/
def State.refuseSecurity (s : State) (r : Record) : State :=
  (s.bump Obj.unsupportedSecurity).logSec 0x2005 0xFF (pack [(1, 1), (1, 1), (6, 0), (8, r.tag)])

/-! ### KEY_UPDATE (R157 to R160) -/

/-- Whether a tenant holds its master. -/
def State.hasMaster (s : State) (t : Nat) : Bool := (tget s.loc.keys.masters t).isSome

/-- A table without the keys of a tenant, `n` to each tenant. -/
def tabErase {α : Type} (m : Tab α) (t n : Nat) : Tab α := m.filter fun e => e.1 / n != t

/-- The endpoints whose record names a generation and whose blob lies in a slot (R153, R154). -/
def State.blobsOf (s : State) (t slot g : Nat) : List Nat :=
  (s.nand.recs.filter fun e =>
    e.2.kekGen == g && ((s.blobOf e.2).map fun b => blobTenant b == t && blobSlot b == slot).getD false).map (·.1)

/-- The plaintext children of revoked or destroyed keys purged (R154, R157): the dedicated keys of endpoints. -/
def State.purgeDedicated (s : State) (tags : List Nat) : State :=
  { s with loc.dedicated := s.loc.dedicated.filter fun e => !tags.contains e.1 }

/-- An entry applied on top of the entries before it, none where it is invalid (R157). -/
def State.applyEntry (s : State) (t : Nat) (e : KeyEntry) : Option State :=
  match e.kind with
  | 1 => if e.keyKind = 2 then some { s with loc.keys.masters := tput s.loc.keys.masters t e.key } else none
  | 2 =>
    if e.keyKind = 2 ∧ e.slot < 64 ∧ s.hasMaster t then
      ((s.kek t e.slot).install e.generation e.key false).map (s.setKek t e.slot)
    else none
  | 3 =>
    if 63 < e.slot then none
    else
      ((s.kek t e.slot).revoke e.generation).map fun k =>
        let tags := s.blobsOf t e.slot e.generation
        let s := s.setKek t e.slot k
        { s with loc.rekey := s.loc.rekey ++ tags.filter fun x => !s.loc.rekey.contains x }.purgeDedicated tags
  | 4 =>
    match s.record e.tag with
    | none => none
    | some r =>
      let one := (List.range 7).any fun i => e.usage == 2 ^ i
      let kindOk := if e.usage = 2 then e.keyKind == 2 else e.keyKind == 1
      match (s.kek t e.slot).cur with
      | none => none
      | some c =>
        if r.live && r.tenant == t && !r.flag 1 && one && kindOk && Nat.ble e.slot 63 then
          let b := sealBlob c.2.1 (blobHeader e.keyKind c.1 t e.slot e.usage) e.tag (e.key % 2 ^ 256)
          let s := (s.putBlob r b).modRecord r.tag fun r => { r with flags := setBit r.flags 2 false }
          some { s with loc.rekey := s.loc.rekey.filter (· != e.tag) }
        else none
  | 5 =>
    let slotOk := e.slot == 0 || e.slot == 1 || (Nat.ble 4 e.slot && Nat.ble e.slot 6) || (Nat.ble 16 e.slot && Nat.ble e.slot 31)
    let kindOk := if e.slot = 1 then e.keyKind == 2 else e.keyKind == 1
    if slotOk && kindOk && s.hasMaster t then some { s with loc.keys.proto := tput s.loc.keys.proto (32 * t + e.slot) e.key }
    else none
  | 7 =>
    if !s.hasMaster t then none
    else
      let (key, s) := s.draw
      if e.keyKind = 2 ∧ e.slot < 64 then ((s.kek t e.slot).install e.generation (key % 2 ^ 256) true).map (s.setKek t e.slot)
      else if 3 ≤ e.keyKind ∧ e.keyKind ≤ 7 ∧ e.slot < 16 then
        some { s with loc.keys.ident := tput s.loc.keys.ident (16 * t + e.slot) (e.keyKind, key % 2 ^ 384) }
      else none
  | 8 =>
    let mine := (s.nand.recs.filter fun e => e.2.tenant == t).map (·.1)
    some ({ s with loc.keys.masters := tdel s.loc.keys.masters t, loc.keys.keks := tabErase s.loc.keys.keks t 64,
                   loc.keys.proto := tabErase s.loc.keys.proto t 32,
                   loc.keys.ident := tabErase s.loc.keys.ident t 16 }.purgeDedicated mine)
  | _ => none

/-- Entries applied in order (R158 step 8): the state, or the index of the first invalid one. -/
def State.applyEntries (s : State) (t : Nat) : Nat → List KeyEntry → State × Option Nat
  | _, [] => (s, none)
  | i, e :: es =>
    match s.applyEntry t e with
    | some s => s.applyEntries t (i + 1) es
    | none => (s, some i)

/-- What a commit leaves for the Locket store to be written with (R145, R159). -/
def State.persistKeys (s : State) : State :=
  let counters := (List.range 8).map fun t => s.nat (Obj.keyUpdateCounter t)
  { s with nand.keyUp := some { keys := s.loc.keys, salt := s.bat.salt, counters } }

/-- The Locket store written with a commit that is durable, and KeyUpdateCounter in both its places (R145, R159, R160). -/
def State.storeKeys (s : State) : State :=
  match s.nand.keyUp with
  | none => s
  | some k =>
    let up := (List.range 8).map fun t => (Obj.keyUpdateCounter t, (k.counters.getD t 0 : Int))
    { s with nand.keyUp := none, loc.stored := k.keys, loc.storedSalt := k.salt, bat.keyCounters := k.counters }.commitPaired up

/-- Whether a blob of a previous generation still waits for its rewrap (R153): not one that failed its check and is marked for it. -/
def State.toRewrap (s : State) (r : Record) : Bool :=
  ((s.blobOf r).map fun b =>
    ((s.kek (blobTenant b) (blobSlot b)).prev.map fun p => p.1 == blobGen b).getD false && !(r.flag 2 && !s.unwraps r b)).getD false

/-- A draining slot's previous generation destroyed once none of its blobs waits for its rewrap (R153). -/
def State.drain (s : State) (t slot : Nat) : State :=
  let k := s.kek t slot
  match k.cur, k.prev with
  | some _, some p =>
    if (s.blobsOf t slot p.1).any fun tag => ((s.record tag).map s.toRewrap).getD false then s
    else (s.setKek t slot { k with prev := none }).persistKeys.logSec 0x2004 t (pack [(1, t), (1, slot), (2, p.1), (28, 0)])
  | _, _ => s

/-- The bytes of the tenants' protocol and identity keys (R146). -/
def KeySet.protoBytes (k : KeySet) : Nat :=
  (k.proto.map fun e => if e.1 % 32 = 1 then 32 else 16).sum + (k.ident.map fun e => if e.2.1 = 4 ∨ e.2.1 = 6 then 48 else 32).sum

/-- The Locket result of a KEY_UPDATE's checks before its entries (R158 steps 1 to 7). -/
def State.keyUpdateCheck (s : State) (e : Epmeir) (u : KeyUpdate) : Nat :=
  if !(e.magicOk && e.typ == 3 && e.version == 1) then 1
  else if !s.targetOk e false then 2
  else if !(e.lengthOk && e.hashOk && u.entries.length == u.entryCount) then 3
  else if u.version ≠ 1 ∨ u.entryCount = 0 ∨ 4096 < u.entryCount ∨ 7 < u.tenant then 1
  else if !s.anchorHas 3 u.tenant e.signer then 4
  else if u.serial ≠ Config.deviceSerial ∨ u.keyHashOk = false then 2
  else if e.counter ≤ s.nat (Obj.keyUpdateCounter u.tenant) then 5
  else if !u.decrypts then 6
  else 0

/-- KeyUpdateResult and the response of a container (R160, R169). -/
def State.keyResult (s : State) (code t idx counter : Nat) : CapOut × State :=
  let s := s.set Obj.keyUpdateResult (pack [(1, code), (1, t), (2, idx), (4, 0), (8, counter)] : Nat)
  (if code = 0 then capOk else capErr 13 (code + 65536 * idx), s)

/-- Entries of a kind in a container. -/
def kindCount (u : KeyUpdate) (k : Nat) : Nat := (u.entries.filter fun e => e.kind == k).length

/-- A salt for the key store where it has none (R145, R167): 256 bits of the DRBG. -/
def State.ensureSalt (s : State) : State :=
  if s.bat.salt ≠ 0 then s
  else
    let (x, s) := s.draw
    { s with bat.salt := x % (2 ^ 256 - 1) + 1 }

/-- A container whose checks pass applied in one commit with its counter (R149, R159, R160). -/
def State.keyUpdateApply (s : State) (e : Epmeir) (u : KeyUpdate) : State :=
  let s := (s.ensureSalt.set (Obj.keyUpdateCounter u.tenant) e.counter).persistKeys
  let s := (s.commit (64 * u.entries.length) (u.entries.length + 1)).freeOldBlobs
  let s := s.logSec 0x2003 u.tenant
    (pack ([(8, e.counter), (1, u.tenant), (1, 0)] ++ ([1, 2, 3, 4, 5, 7, 8].map fun k => (2, kindCount u k))))
  (List.range 64).foldl (fun (s : State) (slot : Nat) => s.drain u.tenant slot) s

/-- KeyUpdateSubmit (R158, R159, R166, R168). -/
def State.keyUpdateBody (s : State) (e : Epmeir) (u : KeyUpdate) (ses : Session) : CapOut × State :=
  if ses.role = 1 ∧ ses.tenant ≠ u.tenant then (capErr 3 0, s)
  else if s.loc.zeroizing then s.keyResult 13 u.tenant 0 e.counter
  else
    match s.keyUpdateCheck e u with
    | 0 =>
      match s.applyEntries u.tenant 0 u.entries with
      | (_, some i) => s.keyResult 7 u.tenant i e.counter
      | (s', none) =>
        if s.loc.entropyFailed ∧ kindCount u 7 ≠ 0 then s.keyResult 14 u.tenant 0 e.counter
        else if s.blobsFree < kindCount u 4 ∨ 8192 < s'.loc.keys.protoBytes then s.keyResult 16 u.tenant 0 e.counter
        else if s.nat Obj.mediaState ≠ 0 then (capErr 15 0, s.bump Obj.readOnlyRefusals)
        else (s'.keyUpdateApply e u).keyResult 0 u.tenant 0 e.counter
    | code => s.keyResult code u.tenant 0 e.counter

/-- The endpoints that a container names (R157, R159). -/
def keyUpdateTags (u : KeyUpdate) : List Nat := (u.entries.filter fun e => e.kind == 4).map (·.tag)

/-- KEY_UPDATE_SUBMIT (R25, R159): ordered like a frame of every endpoint that it names. -/
def State.keyUpdateSubmit (s : State) (r : CapReq) (e : Epmeir) (u : KeyUpdate) : State :=
  s.capOrdered r Obj.keyUpdateSubmit (keyUpdateTags u) (.keyUpdateSubmit r e u) fun ses s => s.keyUpdateBody e u ses

/-! ### Rewrap and rekey marking (R153, R154) -/

/-- REWRAP (R153): one blob of a draining slot's previous generation, ordered like a frame of its endpoint. -/
def State.rewrap (s : State) (tag : Nat) : State :=
  match s.record tag with
  | none => s
  | some r =>
    match s.blobOf r with
    | none => s
    | some b =>
      let t := blobTenant b
      let slot := blobSlot b
      let k := s.kek t slot
      match k.cur, k.prev with
      | some c, some p =>
        if !s.up ∨ s.loc.zeroizing ∨ blobGen b ≠ p.1 ∨ s.nat Obj.rewrapRate = 0 ∨ s.endpointBusy tag = true ∨ s.freeBlob.isNone then s
        else
          match openBlob p.2.1 tag b with
          | some key =>
            let new := sealBlob c.2.1 (blobHeader (blobKind b) c.1 t slot (blobUsage b)) tag key
            (((s.putBlob r new).commit 64 1).freeOldBlobs).drain t slot
          | none => ((s.modRecord tag fun r => { r with flags := setBit r.flags 2 true }).bump Obj.blobIntegrityFail).drain t slot
      | _, _ => s

/-- REKEY_MARK (R154 step 5). -/
def State.rekeyMark (s : State) (tag : Nat) : State :=
  if s.up ∧ s.loc.rekey.contains tag ∧ s.nat Obj.rewrapRate ≠ 0 then
    ({ s with loc.rekey := s.loc.rekey.filter (· != tag) }.modRecord tag fun r => { r with flags := setBit r.flags 2 true }).commit 256 1
  else s

/-- Blobs of previous generations still to rewrap (R169). -/
def State.rewrapPending (s : State) : Nat := (s.nand.recs.filter fun e => s.toRewrap e.2).length

/-! ### Signatures (R144, R164) -/

/-- The device identity key (R144). -/
abbrev identityKey : Nat := 1

/-- The attestation key (R144). -/
abbrev attestationKey : Nat := 3

/-- A signature of 96 bytes under a level-1 key (R164): its nonce hedged with 32 bytes of the DRBG. -/
def State.sign (s : State) (key body : Nat) : Nat × State :=
  let (x, s) := s.draw
  (Config.signature (s.loc.device.getD key 0) body (x % 2 ^ 256) % 256 ^ 96, s)

/-- A public key in 97 bytes (R161, R169): an uncompressed point of P-256 or P-384, or the 32 bytes of Ed25519. -/
def publicKey (kind key : Nat) : Nat :=
  let n := if kind = 4 ∨ kind = 6 then 96 else 64
  if kind = 7 then Config.publicKey kind key % 256 ^ 32 else 4 + 256 * (Config.publicKey kind key % 256 ^ n)

/-! ### Attestation (R161) -/

/-- The key generated inside that a request names (R161): a KEK of a generation, or an identity key of a kind. -/
def State.generatedKey (s : State) (t kind slot g : Nat) : Option Nat :=
  if 7 < t then none
  else if kind = 2 then
    let k := s.kek t slot
    let of_ (o : Option (Nat × Nat × Bool)) : Option Nat := (o.filter fun c => c.1 == g && c.2.2).map (·.2.1)
    if 63 < slot then none else (of_ k.cur).orElse fun _ => of_ k.prev
  else if 15 < slot then none
  else ((tget s.loc.keys.ident (16 * t + slot)).filter fun e => e.1 == kind).map (·.2)

/-- Bytes 0 to 191 of an attestation statement (R161). -/
def State.statement (s : State) (t kind slot g nonce key : Nat) : Nat :=
  pack [(2, 1), (1, kind), (1, t), (1, slot), (1, 0), (2, if kind = 2 then g else 0), (8, Config.deviceSerial),
    (10, s.timeNow), (2, 3), (4, 0), (32, nonce), (97, if kind = 2 then 0 else publicKey kind key), (3, 0),
    (16, if kind = 2 then cmac key 16 0 else 0), (12, 0)]

/-- ATTEST_REQUEST (R161, R164, R166, R168). -/
def State.attestRequest (s : State) (r : CapReq) (t kind slot g nonce : Nat) : State :=
  s.capExec r Obj.attestRequest fun _ s =>
    if s.loc.zeroizing then (capErr 13 13, s)
    else if s.loc.entropyFailed then (capErr 13 14, s)
    else
      match s.generatedKey t kind slot g with
      | none => (capErr 13 15, s)
      | some key =>
        let body := s.statement t kind slot g nonce key
        let (sig, s) := s.sign attestationKey body
        (capVal 288 (body + 256 ^ 192 * sig), s)

/-! ### Key SRAM, masking, entropy, zeroize (R146, R147, R166 to R168) -/

/-- The words of 64 bits of a key of n words. -/
def keyWords (n key : Nat) : List Nat := (List.range n).map fun i => (key >>> (64 * i)) % 2 ^ 64

/-- A KEK generation in key SRAM. -/
def kekWords (o : Option (Nat × Nat × Bool)) : List Nat := (o.map fun c => keyWords 4 c.2.1).getD []

/-- The level-5 keys in key SRAM (R146). -/
def Locket.sessionWords (k : Locket) : List Nat := (k.dedicated.flatMap fun e => keyWords 2 e.2) ++ k.traffic.flatMap fun e => keyWords 4 e.2

/-- The tenants' protocol and identity keys in key SRAM (R146). -/
def KeySet.protoWords (k : KeySet) : List Nat :=
  (k.proto.flatMap fun e => keyWords (if e.1 % 32 = 1 then 4 else 2) e.2) ++
  k.ident.flatMap fun e => keyWords (if e.2.1 = 4 ∨ e.2.1 = 6 then 6 else 4) e.2.2

/-- The value of a word of key SRAM (R146, R147): device keys, masters, KEK slots, protocol keys, session keys, working slots, the state
of the DRBG and the gate key, in the table's order; DESIGN CHOICE (log entry 112): the places of keys within a region. -/
def State.keyWord (s : State) (w : Nat) : Nat :=
  if w < 256 then (s.loc.device.flatMap (keyWords 6)).getD w 0
  else if w < 320 then (((tget s.loc.keys.masters ((w - 256) / 4)).map (keyWords 4)).getD []).getD (w % 4) 0
  else if w < 4416 then
    let j := w - 320
    let k := s.kek (j / 512) (j / 8 % 64)
    (kekWords (if j / 4 % 2 = 0 then k.cur else k.prev)).getD (j % 4) 0
  else if w < 5440 then s.loc.keys.protoWords.getD (w - 4416) 0
  else if w < 7488 then s.loc.sessionWords.getD (w - 5440) 0
  else if w < 15680 then (((tget s.loc.working ((w - 7488) / 4)).map fun e => keyWords 4 e.2).getD []).getD (w % 4) 0
  else if w < 16384 then (keyWords 6 s.loc.drbg ++ keyWords 4 s.loc.gateKey).getD (w - 15680) 0
  else 0

/-- The two shares of a word of key SRAM (R147): their exclusive or is its value. -/
def State.shares (s : State) (w : Nat) : Nat × Nat :=
  let m := (tget s.loc.masks w).getD 0
  (m, s.keyWord w ^^^ m)

/-- MASK_REFRESH (R147): 64 fresh bits applied to both shares of a word; only zeroize stops the sweep. -/
def State.maskRefresh (s : State) (w : Nat) : State :=
  if !s.awake ∨ s.loc.zeroizing ∨ 16383 < w then s
  else
    let (x, s) := s.draw
    { s with loc.masks := tput s.loc.masks w ((tget s.loc.masks w).getD 0 ^^^ (x % 2 ^ 64)) }

/-- A free working slot (R146). -/
def State.freeSlot (s : State) : Option Nat := (List.range 2048).find? fun i => (tget s.loc.working i).isNone

/-- A frame's endpoint key placed in a free working slot (R150). -/
def State.holdKey (s : State) (frame key : Nat) : State :=
  match s.freeSlot with
  | none => s
  | some i => { s with loc.working := tput s.loc.working i (frame, key) }

/-- A working slot is purged (R151): zeros in both shares. -/
def State.purgeSlot (s : State) (id : Nat) : State :=
  let slots := (s.loc.working.filter fun e => e.2.1 == id).map (·.1)
  { s with loc.working := s.loc.working.filter fun e => e.2.1 != id, loc.responding := s.loc.responding.filter (· != id),
           loc.masks := s.loc.masks.filter fun e => !slots.any fun i => Nat.ble (7488 + 4 * i) e.1 && Nat.blt e.1 (7492 + 4 * i) }

/-- Whether the session keys fit their region (R146): 16 KiB of keys. -/
def Locket.sessionFits (k : Locket) : Bool := Nat.ble (16 * k.dedicated.length + 32 * k.traffic.length) 16384

/-- The dedicated key of an endpoint's association held (R144). DESIGN CHOICE (log entry 112): where the region is full the oldest one
makes room. -/
def State.holdDedicated (s : State) (tag key : Nat) : State :=
  if s.loc.dedicated.any fun e => e.1 == tag then s
  else
    let k := { s.loc with dedicated := s.loc.dedicated ++ [(tag, key % 2 ^ 128)] }
    { s with loc := if k.sessionFits then k else { k with dedicated := k.dedicated.drop 1 } }

/-- The traffic keys of a session derived at its handshake (R144, R165). -/
def State.openTraffic (s : State) (session : Nat) : State :=
  let (x, s) := s.draw
  let k := { s.loc with traffic := tput s.loc.traffic session (x % 2 ^ 256) }
  { s with loc := if k.sessionFits then k else { k with dedicated := k.dedicated.drop 2 } }

/-- The traffic keys of a session that has ended are gone (R144). -/
def State.closeTraffic (s : State) (session : Nat) : State := { s with loc.traffic := tdel s.loc.traffic session }

/-- Whether Locket takes part in a handshake (R166, R168). -/
def State.mayHandshake (s : State) : Bool := !s.loc.entropyFailed && !s.loc.zeroizing

/-- The level-1 keys derived, the DRBG instantiated and the gate key generated (R144, R167 step 5, R396). -/
def State.deriveDevice (s : State) : State :=
  let (x, s) := s.draw
  let (k, s) := s.draw
  { s with loc.gateKey := k % 2 ^ 256, loc.device := (List.range 4).map fun i => Config.deviceKey i % 2 ^ 384, loc.drbg := x % 2 ^ 384, loc.reseeds := 0 }

/-- DRBG_RESEED (R166): from the source, while it has not failed. -/
def State.drbgReseed (s : State) : State :=
  if s.awake ∧ ¬s.loc.entropyFailed ∧ ¬s.loc.zeroizing then
    let (x, s) := s.draw
    { s with loc.drbg := x % 2 ^ 384, loc.reseeds := s.loc.reseeds + 1 }
  else s

/-- ENTROPY_FAILURE (R166). -/
def State.entropyFailure (s : State) : State :=
  if s.awake then ({ s with loc.entropyFailed := true }.bump Obj.entropyFailures).logSec 0x2006 0xFF 0 else s

/-- ENTROPY_RECOVERED (R166). -/
def State.entropyRecovered (s : State) : State := if s.awake then { s with loc.entropyFailed := false } else s

/-- The assertion of the zeroize line (R167, R168): salt and key SRAM cleared in hardware, in every power state; while the part
runs, frames that have not passed step 4 go, committed ones become key-held. -/
def State.zeroize (s : State) : State :=
  let held := s.frames.filter fun f => Nat.ble 4 f.stage && Nat.ble f.stage 8
  let ids := held.map (·.journal)
  let s := { s with bat.salt := 0, loc.device := [], loc.keys := .empty, loc.masks := [], loc.working := [], loc.responding := [],
                    loc.dedicated := [], loc.traffic := [], loc.drbg := 0, loc.gateKey := 0, loc.zeroizing := true, loc.reseeds := 0 }
  if !s.awake then s
  else
    let s := (s.frames.filter fun f => Nat.blt f.stage 9).foldl (fun (s : State) (f : Frame) => s.dropFrame f.id) s
    let s := { s with nand.ingest := s.nand.ingest.map fun (e : Ingest) =>
                        if ids.contains e.seq then ({ e with held := true } : Ingest) else e }
    (s.set Obj.keyHeldFrames ((s.nand.ingest.filter (·.held)).length : Nat)).bistAbort.finishReplay

/-- ZEROIZE_RELEASE (R167 step 5): level-1 keys and the DRBG made again; the part stays unprovisioned. -/
def State.zeroizeRelease (s : State) : State :=
  if !s.loc.zeroizing then s
  else
    let s := { s with loc.zeroizing := false }
    if s.awake then s.deriveDevice else s

/-- LocketStatus (R169): the lowest code that applies. -/
def State.locketStatus (s : State) : Nat :=
  if s.pw.stage = 4 ∨ s.pw.stage = 0x84 then 1
  else if s.loc.zeroizing then 2
  else if s.tenants.any fun t => !s.hasMaster t then 3
  else if s.loc.entropyFailed then 4
  else 0

/-- KEY_UPDATE_SUBMIT. -/
def execKeyUpdateSubmit (r : CapReq) (e : Epmeir) (u : KeyUpdate) (s : State) : Host.Outcome State Fault Refusal :=
  .next (s.keyUpdateSubmit r e u)

/-- REWRAP. -/
def execRewrap (tag : Nat) (s : State) : Host.Outcome State Fault Refusal := .next (s.rewrap tag)

/-- REKEY_MARK. -/
def execRekeyMark (tag : Nat) (s : State) : Host.Outcome State Fault Refusal := .next (s.rekeyMark tag)

/-- ATTEST_REQUEST. -/
def execAttestRequest (r : CapReq) (tenant kind slot generation nonce : Nat) (s : State) : Host.Outcome State Fault Refusal :=
  .next (s.attestRequest r tenant kind slot generation nonce)

/-- MASK_REFRESH. -/
def execMaskRefresh (word : Nat) (s : State) : Host.Outcome State Fault Refusal := .next (s.maskRefresh word)

/-- DRBG_RESEED. -/
def execDrbgReseed (s : State) : Host.Outcome State Fault Refusal := .next s.drbgReseed

/-- ENTROPY_FAILURE. -/
def execEntropyFailure (s : State) : Host.Outcome State Fault Refusal := .next s.entropyFailure

/-- ENTROPY_RECOVERED. -/
def execEntropyRecovered (s : State) : Host.Outcome State Fault Refusal := .next s.entropyRecovered

/-- ZEROIZE_RELEASE. -/
def execZeroizeRelease (s : State) : Host.Outcome State Fault Refusal := .next s.zeroizeRelease

end Sys2Proof.Machine
end

