-- ==== Sys2Proof/Machine/Arrival.lean ====
section
/-! DEFINITION. A frame comes in (R22 step 1, R38, R71): its descriptor, its queue item, its entry on the path. -/

namespace Sys2Proof.Machine

/-- Whether new frames are accepted at all (R29, R412, R417). -/
def State.accepting (s : State) : Bool := s.serving && s.pw.cause == 0 && !s.pw.standby && !s.pins.pfi

/-- Whether a cell accepts frames (R38), its receiver running (R32). -/
def State.cellOpen (s : State) (cell : Nat) : Bool :=
  s.accepting && s.fw.matched != 255 && !(s.frames.any (·.replay)) && s.bitOf Obj.cellEnable cell &&
  (if Nat.ble cell 3 then s.pw.carousel else if Nat.ble cell 6 then s.pw.tightrope else true)

/-- The short stamp of an instant of the counter (R246): units of 16 ns, 32 bits, counted back from the present one. -/
def State.shortAt (s : State) (t : Nat) : Nat :=
  (((s.time.short : Int) - ((s.now : Int) - t) / 16) % 4294967296).toNat

/-- A TIME of 10 bytes from nanoseconds (R353). -/
def timeOf (ns : Nat) : Nat := ns / nsPerS + 2 ^ 48 * (ns % nsPerS)

/-- LinkQuality (R72): round(4 × (EsN0 + 16)) with EsN0 in dB, limited to 0 to 255; `esn0` is in 0.01 dB. -/
def linkQuality (esn0 : Int) : Nat := (clamp 0 255 (roundDiv (4 * (esn0 + 1600)) 100)).toNat

/-- A frame as it comes in (R22 step 1): `cell` and `i` of the reception. Its billing time and clock status are those of its
stamp (R264). -/
def State.newFrame (s : State) (cell : Nat) (i : RxInfo) : Frame :=
  { id := s.nextFrame, stage := 1, cell, quality := linkQuality i.esn0, native := i.native, tag := 0, tenant := 0,
    counter := i.counter, suite := i.suite, ackReq := i.ackReq, syncNs := i.syncNs, endNs := i.endNs, length := i.length,
    bytes := i.frame, mode := 0, channel := 0, forwarded := none, resp := false, retx := false, missed := false, journal := 0,
    bill := s.billAt i.syncNs, status := s.clock, storm := false, readings := [], compare := [], events := [],
    rejectedRules := [], books := [], replay := false, inPlc := false, port := 0, centreHz := 0, rxPass := 0, desc := 0,
    stageSeen := 0, ups := [], item := 0, ask := 0, down := 0 }

/-- Whether a frame is next of its endpoint (R25, R156), and in a replay next of all (R28). -/
def State.isNext (s : State) (f : Frame) : Bool :=
  !(s.frames.any fun g => g.id != f.id && Nat.blt g.journal f.journal &&
      ((g.tag == f.tag && Nat.ble 4 g.stage && Nat.ble g.stage 8) || (f.replay && g.replay && Nat.ble 4 g.stage && Nat.ble g.stage 8))) &&
  !(s.nand.ingest.any fun e => e.held && e.frame.tag == f.tag && Nat.blt e.seq f.journal)

/-- The record that step 2 finds (R41, R43). -/
def State.recordFor (s : State) (f : Frame) : Option Record :=
  if f.forwarded.isSome then s.lookupTag f.tag
  else (s.lookupNative f.native).filter fun _ => typeOnCell f.native.ntype f.cell

/-- The copy of a delivered frame for a kind-3 host queue that selects its cell (R289, R290): its descriptor of R71 and its bytes;
dropped where too few descriptors are posted. -/
def State.copyTo (s : State) (f : Frame) (q : Nat) : State :=
  match s.hqOf q with
  | none => s
  | some h =>
    if h.isKind 3 && bit h.select f.cell then
      match descsFor h.posted (64 + f.length) with
      | none => s.hqStarve q
      | some n =>
        s.hqCompleteAt (s.shortAt f.endNs) q n (64 + f.length) f.cell (s.shortAt f.syncNs) 0 0 (pack [(64, f.desc), (f.length, f.bytes)])
    else s

/-- A received frame enters its cell's queue (R22 step 1, R70, R127), its descriptor and bytes in Big Top, the descriptor with the
address of the bytes at offset 44 (R71): a cell that accepts none has it discarded (R38). -/
def State.arrive (s : State) (f : Frame) : State :=
  if s.cellOpen f.cell then
    let (x, desc, s) := s.pushFrame f.cell f.desc 64 (some 44) f.length f.bytes
    let s := { s with frames := s.frames ++ [{ f with id := s.nextFrame, item := x, desc := desc }], nextFrame := s.nextFrame + 1 }
    (List.range 16).foldl (fun (s : State) (q : Nat) => s.copyTo { f with desc := desc } q) s
  else s

end Sys2Proof.Machine
end

