-- ==== Sys2Proof/Machine/Phy.lean ====
section
/-! DEFINITION. The codes of the physical layers that the spec defines: Pendant frames (R73 to R77), Chain headers, information
fields, low-density parity-check code, spans, interleaver and symbols (R112 to R119), impulses and erasures (R124), channel
rasters (R58, R62, R63). Pure functions over bits, bytes and soft values. A soft value is positive for a 0 bit, negative for a
1 bit, 0 for an erased one. -/

namespace Sys2Proof.Machine

/-! ### Bit streams -/

/-- The low n bits of a number, bit 0 first. -/
def lsbBits (n w : Nat) : List Bool := (List.range n).map (Nat.testBit w)

/-- The low n bits of a number, the highest first. -/
def msbBits (n w : Nat) : List Bool := (lsbBits n w).reverse

/-- Bytes as bits, each least significant bit first (R73, R116). -/
def byteBits (bytes : List Nat) : List Bool := bytes.flatMap (lsbBits 8)

/-- The number whose bits are given, bit 0 first. -/
def natOfBits (bs : List Bool) : Nat := bs.foldr (fun b n => b2n b + 2 * n) 0

/-- Bits as bytes, least significant bit first; an incomplete byte at the end is left out. -/
def bitBytes (bs : List Bool) : List Nat :=
  (List.range (bs.length / 8)).map fun i => natOfBits ((bs.drop (8 * i)).take 8)

/-- Whether an odd number of the low n bits of a word are set. -/
def oddBits : Nat → Nat → Bool
  | 0, _ => false
  | n + 1, w => xor (w % 2 == 1) (oddBits n (w / 2))

/-- One bit into a register of n bits that divides by a polynomial, the coefficient of x^(n-1) leaving first (R75, R113). -/
def crcBit (n poly reg : Nat) (b : Bool) : Nat :=
  let r := 2 * reg % 2 ^ n
  if xor (Nat.testBit reg (n - 1)) b then r ^^^ poly else r

/-- The CRC of Pendant frames (R75): over the bits in their order of transmission, from all ones, not inverted. -/
def pendantCrc (bits : List Bool) : Nat := bits.foldl (crcBit 16 0x1021) 0xFFFF

/-- The CRC-8 of a Chain header (R113): over bits [39:0], the highest first, from zero. -/
def headerCrc (w : Nat) : Nat := (msbBits 40 w).foldl (crcBit 8 0x07) 0

/-! ### The convolutional codes of constraint length 7 (R76, R114) -/

/-- The generators of Pendant (R76). -/
def pendantGens : List Nat := [0o133, 0o171, 0o165]

/-- The generators of the Chain header (R114). -/
def headerGens : List Nat := [0o133, 0o171]

/-- What the encoder emits for an input bit from its register of the last six bits, the newest highest: one bit for each
generator, whose most significant tap is the input (R76). -/
def convOut (gens : List Nat) (reg : Nat) (b : Bool) : List Bool := gens.map fun g => oddBits 7 (g &&& (64 * b2n b + reg))

/-- The register after an input bit. -/
def convNext (reg : Nat) (b : Bool) : Nat := (64 * b2n b + reg) / 2

/-- The coded stream of bits from a register that starts at zero (R76, R114). -/
def convEncode (gens : List Nat) (input : List Bool) : List Bool :=
  (input.foldl (fun (a : Nat × List (List Bool)) b => (convNext a.1 b, convOut gens a.1 b :: a.2)) (0, [])).2.reverse.flatten

/-- How well soft values agree with the bits emitted. -/
def agree (out : List Bool) (soft : List Int) : Int :=
  (List.zipWith (fun b (x : Int) => if b then -x else x) out soft).sum

/-- A path of the decoder: how well it agrees, and its input bits, newest first; none where no path leads to the register. -/
abbrev ConvPath := Option (Int × List Bool)

/-- The better of two paths, the first on equal terms. -/
def betterPath : ConvPath → ConvPath → ConvPath
  | some a, some b => if a.1 < b.1 then some b else some a
  | some a, none => some a
  | none, p => p

/-- One step of the maximum-likelihood decoder over all 64 registers. -/
def convStep (gens : List Nat) (paths : List ConvPath) (soft : List Int) : List ConvPath :=
  (List.range 64).map fun r =>
    let b := Nat.ble 32 r
    let from_ (p : Nat) : ConvPath := (paths.getD p none).map fun a => (a.1 + agree (convOut gens p b) soft, b :: a.2)
    betterPath (from_ (2 * (r % 32))) (from_ (2 * (r % 32) + 1))

/-- Soft values in groups of one step. -/
def groupSoft (k : Nat) : Nat → List Int → List (List Int)
  | 0, _ => []
  | n + 1, l => l.take k :: groupSoft k n (l.drop k)

/-- The n input bits whose coded stream agrees best with soft values, from register zero to register zero: the decoder of a
terminated stream (R76, R114). DEDUCED (log entry 91): the spec gives the code and holds its receiver to the ideal one. -/
def convDecode (gens : List Nat) (n : Nat) (soft : List Int) : List Bool :=
  let start : List ConvPath := some (0, []) :: List.replicate 63 none
  match ((groupSoft gens.length n soft).foldl (convStep gens) start).head? with
  | some (some p) => p.2.reverse
  | _ => []

/-! ### Pendant (R73 to R77) -/

/-- SyncOne: the copy is one interleaver block (R74). -/
abbrev syncOne : Nat := 0xD3917A2C5E06B4F8

/-- SyncTwo: the copy is two blocks (R74). -/
abbrev syncTwo : Nat := 0x2E5BC1A7934D0F68

/-- The blocks that a sync word announces (R74), none for another word. -/
def syncBlocks (w : Nat) : Option Nat := if w = syncOne then some 1 else if w = syncTwo then some 2 else none

/-- The blocks of a copy of a frame of L bytes before coding (R76). -/
def pendantBlocks (L : Nat) : Nat := if L ≤ 41 then 1 else 2

/-- Where the interleaver of R76 sends coded bit k. -/
def pendantPlace (k : Nat) : Nat := 32 * (k % 32) + k / 32

/-- A block in the order of transmission (R76): position p carries the coded bit that `pendantPlace` sends there, whose index
is p mapped again, as rows and columns of 32 are exchanged. -/
def pendantArrange {α : Type} (d : α) (block : List α) : List α :=
  (List.range 1024).map fun p => block.getD (pendantPlace p) d

/-- The bytes of a Pendant frame before coding (R74): PayloadLength, FrameControl, Payload. The CRC's bits follow them. -/
def pendantBody (control : Nat) (payload : List Nat) : List Nat := payload.length :: control :: payload

/-- The bits of R74 in their order of transmission, with the CRC from its coefficient of x^15 down (R75). -/
def pendantBits (control : Nat) (payload : List Nat) : List Bool :=
  let b := byteBits (pendantBody control payload)
  b ++ msbBits 16 (pendantCrc b)

/-- One copy of a Pendant frame as it is sent (R76): coded with six tail bits, filled with zeros to its blocks, interleaved. -/
def pendantCopy (control : Nat) (payload : List Nat) : List Bool :=
  let coded := convEncode pendantGens (pendantBits control payload ++ List.replicate 6 false)
  (List.range (pendantBlocks (payload.length + 4))).flatMap fun j => pendantArrange false ((coded.drop (1024 * j)).take 1024)

/-- A Pendant transmission (R74, R98): the preamble of 32 bits from a 0, the sync word from its bit 0 up, and n copies. -/
def pendantAir (n control : Nat) (payload : List Nat) : List Bool :=
  let sync := if pendantBlocks (payload.length + 4) = 1 then syncOne else syncTwo
  (List.range 32).map (fun i => i % 2 == 1) ++ lsbBits 64 sync ++ (List.replicate n (pendantCopy control payload)).flatten

/-- The soft values of copies combined (R77). -/
def combine (copies : List (List Int)) : List Int :=
  match copies with
  | [] => []
  | c :: t => t.foldl (List.zipWith (· + ·)) c

/-- A Pendant frame as decoded: FrameControl and Payload. -/
structure PendantFrame where
  control : Nat
  payload : List Nat
deriving DecidableEq, Repr

/-- Whether four copies of B blocks have arrived whole (R77). -/
def pendantWhole (B : Nat) (copies : List (List Int)) : Bool :=
  copies.length == 4 && copies.all fun c => c.length == 1024 * B

/-- The frame in the combined soft values of its copies (R74 to R77), where its length fits and its CRC passes. The zero bits after
the tail are what the encoder emits for further zeros, so the whole blocks are decoded. -/
def pendantDecode (B : Nat) (copies : List (List Int)) : Option PendantFrame :=
  let soft := combine copies
  let coded := (List.range B).flatMap fun j => pendantArrange 0 ((soft.drop (1024 * j)).take 1024)
  let bits := convDecode pendantGens (1024 * B / 3) coded
  let bytes := bitBytes bits
  let n := bytes.getD 0 0
  let body := bytes.take (n + 2)
  let crc := natOfBits ((bits.drop (8 * (n + 2))).take 16).reverse
  if n ≤ 64 ∧ pendantBlocks (n + 4) = B ∧ body.length = n + 2 ∧ crc = pendantCrc (byteBits body) then
    some { control := bytes.getD 1 0, payload := body.drop 2 }
  else none

/-- The sender's EUI-64 in a Pendant payload (R74). DESIGN CHOICE (log entry 97): of a payload of less than 8 bytes, those there
are stand for it. -/
def PendantFrame.eui (f : PendantFrame) : Nat := ofBytes (f.payload.take 8)

/-- FrameControl bit 3: a receive window follows (R74). -/
def PendantFrame.window (f : PendantFrame) : Bool := bit f.control 3

/-- The air time of a Pendant transmission in µs, at 600 bit/s (R73, R76). -/
def pendantAirUs (n len : Nat) : Nat := ceilDiv ((96 + n * 1024 * pendantBlocks (len + 4)) * 1000000) 600

/-! ### Channel rasters (R58, R62, R63) -/

/-- The spacing of a grid in Hz (R62). -/
def gridSpacing (g : Nat) : Nat := 12500 * 2 ^ g

/-- Half the usable band of a sample rate, in Hz (R58). -/
def halfBand (rate : Nat) : Nat := 12500000 / 2 ^ rate

/-- The lowest channel centre of a grid (R63): the lowest GridOrigin + k × spacing whose passband lies in the usable band. -/
def rasterFirst (centre rate origin g : Nat) : Int :=
  let sp : Int := gridSpacing g
  let lo : Int := (centre : Int) - halfBand rate + sp / 2
  lo + ((origin : Int) - lo) % sp

/-- The number of channels of a grid (R62, R63). -/
def rasterCount (centre rate origin g : Nat) : Nat :=
  let sp : Int := gridSpacing g
  let hi : Int := (centre : Int) + halfBand rate - sp / 2
  ((hi - rasterFirst centre rate origin g) / sp + 1).toNat

/-- The centre of a channel in Hz (R63). -/
def channelHz (centre rate origin g k : Nat) : Nat := (rasterFirst centre rate origin g + k * (gridSpacing g : Int)).toNat

/-! ### Chain: carriers and headers (R110 to R115) -/

/-- The first carrier of a profile and how many it has (R110). -/
def profileCarriers (profile : Nat) : Nat × Nat := if profile = 0 then (23, 36) else if profile = 1 then (33, 72) else (33, 54)

/-- The active carriers of a lane (R110), in ascending order. -/
def activeCarriers (profile mask : Nat) : List Nat :=
  let (c, n) := profileCarriers profile
  ((List.range n).map (c + ·)).filter (Nat.testBit mask)

/-- The symbol period of a profile in units of 10 ns, with cyclic prefix and overlap (R110). -/
def symbol10ns (profile : Nat) : Nat := if profile = 0 then 69500 else 23167

/-- A burst of four symbols in ns (R118). -/
def burstNs (profile : Nat) : Nat := if profile = 0 then 2780000 else 926670

/-- The preamble of 9.5 symbols without cyclic prefix in ns: 640 µs each in CENELEC A, 1/4.6875 kHz in FCC and ARIB (R110, R112,
R126). -/
def preambleNs (profile : Nat) : Nat := if profile = 0 then 6080000 else 2026667

/-- The header as a word, without its CRC (R113). -/
structure ChainFields where
  sourceRouted : Bool
  firstGapUs : Nat
  burstPeriodUs : Nat
  blocksMinusOne : Nat
  modulation : Nat
  priority : Nat
deriving DecidableEq, Repr

/-- A Chain header of 48 bits (R113). -/
def ChainFields.word (f : ChainFields) : Nat :=
  let w := f.priority % 4 * 4 + f.modulation % 2 * 16 + f.blocksMinusOne % 8 * 32 + f.burstPeriodUs % 16384 * 256 +
    f.firstGapUs % 16384 * 4194304 + b2n f.sourceRouted * 2 ^ 36
  w + headerCrc w * 2 ^ 40

/-- The fields of a header word (R113). -/
def chainFields (w : Nat) : ChainFields :=
  { sourceRouted := bit w 36, firstGapUs := bits w 35 22, burstPeriodUs := bits w 21 8, blocksMinusOne := bits w 7 5,
    modulation := bits w 4 4, priority := bits w 3 2 }

/-- Whether a header may be followed (R113, R121): its CRC passes, no field holds a reserved value. -/
def headerOk (w : Nat) : Bool :=
  Nat.beq (headerCrc w) (bits w 47 40) && Nat.beq (bits w 39 37) 0 && !Nat.beq (bits w 3 2) 3 && Nat.beq (bits w 1 0) 0

/-- The coded bits of a header (R114): 48 bits and six tail bits through the rate-1/2 code, the whole sequence twice. -/
def headerCoded (w : Nat) : List Bool :=
  let c := convEncode headerGens (lsbBits 48 w ++ List.replicate 6 false)
  c ++ c

/-- The symbols of a header over A active carriers (R114). -/
def headerSymbols (A : Nat) : Nat := ceilDiv 216 (Nat.max 1 A)

/-- The header's bits by symbol and carrier (R114): ascending carriers, the last symbol padded from the start of the sequence. -/
def headerCells (A w : Nat) : List (List Bool) :=
  let c := headerCoded w
  (List.range (headerSymbols A)).map fun t => (List.range A).map fun i => c.getD ((t * A + i) % 216) false

/-- The phases of the header's carriers, true where a carrier is turned by 180° against the last SYNCQ symbol (R114): each symbol
is keyed against the one before. -/
def headerPhases (A w : Nat) : List (List Bool) :=
  ((headerCells A w).foldl (fun (a : List Bool × List (List Bool)) row =>
    let now := List.zipWith xor a.1 row
    (now, a.2 ++ [now])) (List.replicate A false, [])).2

/-- The header decoded from the soft values of its DBPSK bits, symbol by symbol and carrier by carrier (R114): the copies of
each coded bit combined, then the code. -/
def headerDecode (soft : List Int) : Nat :=
  let sum := (List.range 108).map fun i =>
    ((List.range (ceilDiv soft.length 108)).map fun j => soft.getD (i + 108 * j) 0).sum
  natOfBits ((convDecode headerGens 54 sum).take 48)

/-! ### Chain: the information field (R116) -/

/-- The scrambler of R116, polynomial x^7 + x^4 + 1 from all ones, over a stream. -/
def scramble (bs : List Bool) : List Bool :=
  (bs.foldl (fun (a : Nat × List Bool) b =>
    let k := xor (Nat.testBit a.1 6) (Nat.testBit a.1 3)
    ((2 * a.1 + b2n k) % 128, xor b k :: a.2)) (127, [])).2.reverse

/-- The CRC-32C at the end of an information field (R116). -/
def fieldCrc (field : List Nat) : Nat := ofBytes (field.drop (field.length - 4))

/-- The blocks that an MPDU of n bytes needs (R116): n is at most 72·B − 6. -/
def blocksFor (n : Nat) : Nat := Nat.max 1 (ceilDiv (n + 6) 72)

/-- The information field of B blocks (R116): length, MPDU, zeros, CRC-32C. -/
def infoField (B : Nat) (mpdu : List Nat) : List Nat :=
  let body := toBytes 2 mpdu.length ++ mpdu ++ List.replicate (72 * B - 6 - mpdu.length) 0
  body ++ toBytes 4 (crc32c 0xFFFFFFFF body)

/-- The MPDU and the CRC-32C of an information field, where its length fits and its CRC passes (R116). -/
def fieldMpdu (field : List Nat) : Option (List Nat × Nat) :=
  let body := field.take (field.length - 4)
  let crc := fieldCrc field
  let n := field.getD 0 0 + 256 * field.getD 1 0
  if field.length % 72 = 0 ∧ n + 6 ≤ field.length ∧ crc32c 0xFFFFFFFF body = crc then some ((body.drop 2).take n, crc) else none

/-! ### Chain: the low-density parity-check code (R117) -/

/-- The information entries c:s of the parity-check structure, by block row (R117). -/
def ldpcInfo : List (List (Nat × Nat)) :=
  [[(0, 17), (2, 40), (4, 3), (7, 29)], [(1, 9), (2, 31), (5, 44), (8, 12)], [(0, 36), (3, 5), (6, 21), (9, 46)],
   [(1, 22), (3, 38), (7, 0), (10, 15)], [(0, 45), (2, 11), (8, 33), (11, 26)], [(1, 2), (3, 27), (4, 41), (9, 8)]] ++
  [[(0, 24), (3, 14), (5, 19), (10, 37)], [(1, 43), (2, 6), (6, 30), (11, 1)], [(0, 10), (2, 25), (7, 34), (11, 42)],
   [(1, 32), (3, 47), (4, 16), (8, 4)], [(0, 3), (3, 20), (5, 28), (9, 39)], [(1, 13), (2, 35), (6, 18), (10, 23)]]

/-- The parity entries of a block row (R117). -/
def ldpcParity (r : Nat) : List (Nat × Nat) :=
  if r = 0 then [(12, 7), (13, 0)]
  else if r = 6 then [(12, 0), (18, 0), (19, 0)]
  else if r = 11 then [(23, 0), (12, 7)]
  else [(12 + r, 0), (13 + r, 0)]

/-- shift(v, s) of R117 on 48 bits kept as a number: w[i] = v[(i + s) mod 48]. -/
def shift48 (v s : Nat) : Nat := v % 2 ^ 48 / 2 ^ s + v % 2 ^ s * 2 ^ (48 - s)

/-- lambda_r of R117 from the twelve information blocks. -/
def ldpcLambda (u : List Nat) (r : Nat) : Nat :=
  (ldpcInfo.getD r []).foldl (fun a e => a ^^^ shift48 (u.getD e.1 0) e.2) 0

/-- The parity blocks (R117). -/
def ldpcParityOf (u : List Nat) : List Nat :=
  let lam := (List.range 12).map (ldpcLambda u)
  let p0 := lam.foldl (· ^^^ ·) 0
  let p1 := lam.getD 0 0 ^^^ shift48 p0 7
  let rest := (List.range 10).foldl (fun (ps : List Nat) (i : Nat) =>
    let r := i + 1
    ps ++ [lam.getD r 0 ^^^ ps.getD r 0 ^^^ (if r = 6 then p0 else 0)]) [p0, p1]
  rest

/-- A codeword of 24 blocks of 48 bits from its 12 information blocks (R117). -/
def ldpcEncode (u : List Nat) : List Nat := u ++ ldpcParityOf u

/-- The entries of a block row: information and parity (R117). -/
def ldpcRow (r : Nat) : List (Nat × Nat) := ldpcInfo.getD r [] ++ ldpcParity r

/-- Whether 24 blocks of bits are a codeword: every check of R117 is even. -/
def ldpcChecks (w : List Nat) : Bool :=
  (List.range 12).all fun r => (ldpcRow r).foldl (fun a e => a ^^^ shift48 (w.getD e.1 0) e.2) 0 == 0

/-- Bits in blocks of 48. -/
def blocks48 (n : Nat) (bs : List Bool) : List Nat := (List.range n).map fun c => natOfBits ((bs.drop (48 * c)).take 48)

/-- Blocks of 48 bits as a stream (R117): code bit 48c + i belongs to column block c. -/
def bits48 (w : List Nat) : List Bool := w.flatMap (lsbBits 48)

/-- The 1,152 code bits of a block of 576 bits (R116, R117). -/
def ldpcBits (info : List Bool) : List Bool := bits48 (ldpcEncode (blocks48 12 info))

/-- The code bits of an information field, block by block (R116, R117). -/
def fieldCoded (field : List Nat) : List Bool :=
  let bs := scramble (byteBits field)
  (List.range (field.length / 72)).flatMap fun j => ldpcBits ((bs.drop (576 * j)).take 576)

/-! #### The decoder (R124) -/

/-- A check's message to one of its bits (R124, min-sum): the product of the signs and the least magnitude of the others, normalised by
`Config.minSum` / 256. -/
def checkMessage (others : List Int) : Int :=
  let neg := others.foldl (fun b x => xor b (decide (x < 0))) false
  let mag := match others with
    | [] => 0
    | x :: t => t.foldl (fun m y => Nat.min m y.natAbs) x.natAbs
  let v : Int := (mag * Config.minSum / 256 : Nat)
  if neg then -v else v

/-- The positions of the code bits in row i of block row r (R117). -/
def checkBits (r i : Nat) : List Nat := (ldpcRow r).map fun e => 48 * e.1 + (i + e.2) % 48

/-- A check applied (R124, layered): `post` the values of the code bits, `msgs` the check's last messages. -/
def checkApply (pos : List Nat) (post msgs : List Int) : List Int × List Int :=
  let inn := (List.range pos.length).map fun k => post.getD (pos.getD k 0) 0 - msgs.getD k 0
  let out := (List.range pos.length).map fun k => checkMessage (inn.eraseIdx k)
  ((List.range pos.length).foldl (fun p k => p.set (pos.getD k 0) (inn.getD k 0 + out.getD k 0)) post, out)

/-- Hard decisions: a negative value is a 1, an erased one a 0. -/
def hardBits (post : List Int) : List Bool := post.map fun x => decide (x < 0)

/-- One iteration over all 576 checks, layer by layer (R124). -/
def ldpcIterate (a : List Int × List (List Int)) : List Int × List (List Int) :=
  (List.range 576).foldl (fun (a : List Int × List (List Int)) n =>
    let (post, out) := checkApply (checkBits (n / 48) (n % 48)) a.1 (a.2.getD n [])
    (post, a.2.set n out)) a

/-- At most n iterations, stopping early when the syndrome is zero (R124). -/
def ldpcRun : Nat → List Int × List (List Int) → List Bool
  | 0, a => hardBits a.1
  | n + 1, a => if ldpcChecks (blocks48 24 (hardBits a.1)) then hardBits a.1 else ldpcRun n (ldpcIterate a)

/-- The 576 information bits decoded from 1,152 soft values (R124): layered normalised min-sum, at most 30 iterations. -/
def ldpcDecode (soft : List Int) : List Bool := (ldpcRun 30 (soft, List.replicate 576 [])).take 576

/-! ### Chain: spans and the interleaver (R115, R118, R119) -/

/-- The data carriers of A active ones (R115). -/
def dataCarriers (A : Nat) : Nat := 5 * A / 6

/-- The symbols of a span of k blocks over D data carriers with m bits each: a multiple of four (R118). -/
def spanSymbols (D m k : Nat) : Nat := 4 * ceilDiv (1152 * k) (4 * Nat.max 1 (D * m))

/-- The most whole blocks of a span of at most 64 symbols (R118). -/
def spanBlocks (D m : Nat) : Nat := Nat.max 1 (64 * D * m / 1152)

/-- The blocks of each span of a frame (R118): as many as fit, the last takes the remainder. -/
def spanList (per : Nat) : Nat → Nat → List Nat
  | 0, _ => []
  | _, 0 => []
  | fuel + 1, B => if B ≤ per then [B] else per :: spanList per fuel (B - per)

/-- The spans of a frame of B blocks (R118), as blocks in each. -/
def frameSpans (D m B : Nat) : List Nat := spanList (spanBlocks D m) 8 B

/-- The bursts of a frame (R118): one for every four symbols of its spans. -/
def frameBursts (D m B : Nat) : Nat := ((frameSpans D m B).map fun k => spanSymbols D m k / 4).sum

/-- Where bit k of a span's filled sequence goes (R119): data symbol t, data carrier d, bit plane b. -/
def spanPlace (S D k : Nat) : Nat × Nat × Nat :=
  let H := S / 4
  let t := 4 * (k % H) + k / H % 4
  let j := k / S
  (t, (j % D + 5 * t) % D, j / D)

/-- The filled sequence of a span (R118): its code bits, then the code bits again until the capacity is reached. -/
def spanFill (C : Nat) (code : List Bool) : List Bool := (List.range C).map fun k => code.getD (k % Nat.max 1 code.length) false

/-- What a span sends (R118, R119): for each data symbol and data carrier, the bits of its planes. -/
def spanCells (D m k : Nat) (code : List Bool) : List (List (List Bool)) :=
  let S := spanSymbols D m k
  let C := S * D * m
  let fill := spanFill C code
  let placed := (List.range C).map fun i => (spanPlace S D i, fill.getD i false)
  (List.range S).map fun t => (List.range D).map fun d => (List.range m).map fun b =>
    ((placed.find? fun e => e.1 == (t, d, b)).map (·.2)).getD false

/-- A carrier's value as in-phase and quadrature: a pilot +1, a BPSK bit 1 − 2b in phase, two QPSK bits on both axes, to be
divided by √2 (R115). -/
inductive Cell where
  | pilot
  | bpsk (i : Int)
  | qpsk (i q : Int)
deriving DecidableEq, Repr

/-- The sign of a bit (R115). -/
def bitSign (b : Bool) : Int := if b then -1 else 1

/-- The value of a data carrier's bits (R115). -/
def mapCell (bs : List Bool) : Cell :=
  match bs with
  | [a, b] => .qpsk (bitSign a) (bitSign b)
  | l => .bpsk (bitSign (l.getD 0 false))

/-- Whether active carrier i is a pilot in data symbol t of a span (R115). -/
def isPilot (i t : Nat) : Bool := (i + t) % 6 == 0

/-- A data symbol over A active carriers, its data carriers in ascending order (R115). -/
def symbolCells (A t : Nat) (data : List (List Bool)) : List Cell :=
  (List.range A).map fun i =>
    if isPilot i t then .pilot
    else mapCell (data.getD ((List.range i).filter fun j => !isPilot j t).length [])

/-- The symbols of the spans of a frame as its lane sends them (R112, R115 to R119). -/
def frameSymbols (A m B : Nat) (field : List Nat) : List (List Cell) :=
  let D := dataCarriers A
  let code := fieldCoded field
  ((frameSpans D m B).foldl (fun (a : Nat × List (List Cell)) k =>
    let span := (code.drop (1152 * a.1)).take (1152 * k)
    (a.1 + k, a.2 ++ (spanCells D m k span).zipIdx.map fun c => symbolCells A c.2 c.1)) (0, [])).2

/-- The soft values of the code bits of a span from its demapped symbols (R118, R119): `soft` by symbol, then carrier, then plane; the
repeated bits are combined. -/
def spanSoft (D m k : Nat) (soft : List (List Int)) : List Int :=
  let S := spanSymbols D m k
  let at_ (i : Nat) : Int :=
    let p := spanPlace S D i
    (soft.getD p.1 []).getD (m * p.2.1 + p.2.2) 0
  let n := 1152 * k
  (List.range n).map fun i => ((List.range (ceilDiv (S * D * m - i) (Nat.max 1 n))).map fun r => at_ (i + n * r)).sum

/-- The information field of a frame of B blocks from its demapped symbols (R116 to R119, R124). -/
def frameDecode (A m B : Nat) (soft : List (List Int)) : List Nat :=
  let D := dataCarriers A
  let infos := ((frameSpans D m B).foldl (fun (a : Nat × List Bool) k =>
    let s := spanSoft D m k (soft.drop a.1)
    (a.1 + spanSymbols D m k, a.2 ++ (List.range k).flatMap fun j => ldpcDecode ((s.drop (1152 * j)).take 1152))) (0, [])).2
  bitBytes (scramble infos)

/-! ### Chain: timing and MPDUs (R112, R118, R140) -/

/-- The length of a Chain header over A active carriers, in ns (R114). -/
def headerNs (profile A : Nat) : Nat := headerSymbols A * (10 * symbol10ns profile)

/-- The length of an acknowledgement, a preamble and a header, in ns (R134). -/
def ackNs (profile A : Nat) : Nat := preambleNs profile + headerNs profile A

/-- Bits of a data carrier by the header's Modulation (R118). -/
def planes (modulation : Nat) : Nat := if modulation = 0 then 1 else 2

/-- When data burst i of a Chain frame starts, its header ending at `headEnd` (R112). -/
def burstStart (headEnd : Nat) (f : ChainFields) (i : Nat) : Nat := headEnd + 1000 * f.firstGapUs + i * (1000 * f.burstPeriodUs)

/-- EndStamp of a Chain frame (R112): the end of the last symbol of its last burst. -/
def chainEndNs (profile A sync : Nat) (f : ChainFields) : Nat :=
  burstStart (sync + headerNs profile A) f (frameBursts (dataCarriers A) (planes f.modulation) (f.blocksMinusOne + 1) - 1) +
  burstNs profile

/-- The route block of a frame that leaves the part (R140): hops, hop 0, away; the repeaters; no quality written yet. -/
def routeBlock (route : List Nat) : List Nat :=
  [route.length % 8, 0] ++ (List.range 6).flatMap (fun i => toBytes 2 (route.dropLast.getD i 0xFFFF)) ++ List.replicate 8 0

/-- The Chain MAC header (R140). -/
def macHeader (pan dest source zcOffsetUs : Nat) : List Nat :=
  toBytes 2 pan ++ toBytes 2 dest ++ toBytes 2 source ++ toBytes 2 zcOffsetUs

/-- A Chain MPDU as received (R140): `hops` 0 without a route block; `hop` the hop traversed, `towards` the part; `nodes` the stations of
its route in the order it passes them; `quality` of each hop. -/
structure ChainMpdu where
  hops : Nat
  hop : Nat
  towards : Bool
  nodes : List Nat
  quality : List Nat
  pan : Nat
  dest : Nat
  source : Nat
  zcOffsetUs : Nat
deriving DecidableEq, Repr

/-- An MPDU's route block and MAC header (R140), the part named by its address `self` in the table of R138: none where it is too short
for them. -/
def chainMpdu (self : Nat) (routed : Bool) (mpdu : List Nat) : Option ChainMpdu :=
  let head := if routed then 22 else 0
  let u16 (o : Nat) := mpdu.getD o 0 + 256 * mpdu.getD (o + 1) 0
  if mpdu.length < head + 8 then none
  else
    let info := if routed then mpdu.getD 0 0 else 0
    let hops := info % 8
    let towards := bit info 6
    let dest := u16 (head + 2)
    let source := u16 (head + 4)
    let repeaters := (List.range (hops - 1)).map fun i => u16 (2 + 2 * i)
    let away := self :: repeaters ++ [if towards then source else dest]
    some { hops, hop := bits info 5 3, towards,
           nodes := if hops = 0 then [source, dest] else if towards then away.reverse else away,
           quality := (List.range hops).map fun i => mpdu.getD (14 + i) 0, pan := u16 head, dest, source, zcOffsetUs := u16 (head + 6) }

/-- The station that sent the hop just received (R138, R140). -/
def ChainMpdu.sender (p : ChainMpdu) : Nat := p.nodes.getD (if p.hops = 0 then 0 else p.hop) p.source

/-- The hops whose quality a route block holds: from, to, quality (R138, R140). -/
def ChainMpdu.links (p : ChainMpdu) : List (Nat × Nat × Nat) :=
  (List.range p.hops).map fun i => (p.nodes.getD i 0, p.nodes.getD (i + 1) 0, p.quality.getD i 0)

/-- Whether the part is the receiver of the hop of a unicast frame (R134, R140): its last hop, towards the part. -/
def ChainMpdu.endsAt (self : Nat) (p : ChainMpdu) : Bool :=
  p.dest == self && (p.hops == 0 || (p.towards && p.hop + 1 == p.hops))

/-! ### Impulses and erasures (R124) -/

/-- The sum of squares of a list of samples. -/
def sumSquares (l : List Int) : Nat := (l.map fun x => x.natAbs * x.natAbs).sum

/-- Samples against the running RMS over the last 256 samples that were not blanked, newest first in `w` (R124): which exceed
ImpulseFactorDeci/10 times it, and the window after. -/
def impulses (factor : Nat) : List Int → List Int → List Bool × List Int
  | w, [] => ([], w)
  | w, x :: t =>
    let hit := !w.isEmpty && decide (factor * factor * sumSquares w < 100 * w.length * (x.natAbs * x.natAbs))
    let (l, w) := impulses factor (if hit then w else (x :: w).take 256) t
    (hit :: l, w)

/-- The samples blanked (R124): each impulse and the four samples on each side of it. -/
def blanked (hits : List Bool) : List Bool :=
  (List.range hits.length).map fun i => ((hits.drop (i - 4)).take (Nat.min 4 i + 5)).any id

/-- How many samples are blanked. -/
def blankedCount (hits : List Bool) : Nat := ((blanked hits).filter id).length

/-- Whether a symbol is erased whole (R124): blanked samples exceed SymbolEraseShare per cent of its window. -/
def erasedWhole (share count window : Nat) : Bool := Nat.blt (share * window) (100 * count)

/-- Whether one linear power lies more than a number of dB above another (R124, R129): p / n > 10^(dB/10). -/
def exceedsDb (db p n : Nat) : Bool := Nat.blt (10 ^ db * n ^ 10) (p ^ 10)

/-- Soft values of a symbol of a standard frame scaled by one minus its blanked share (R124). -/
def scaleSoft (count window : Nat) (soft : List Int) : List Int :=
  soft.map fun x => x * ((window - count : Nat) : Int) / (Nat.max 1 window : Nat)

/-- ErasedPermille (R124): the erased share of the data carrier-symbols, in 0.1 %. -/
def permille (erased total : Nat) : Nat := 1000 * erased / Nat.max 1 total

end Sys2Proof.Machine
end

