-- ==== Sys2Proof/Machine/Carousel.lean ====
section
/-! DEFINITION. Whole-band radio reception (R56 to R85): IQ ports, the demodulator pool, snippets, collision groups. -/

namespace Sys2Proof.Machine

/-! ### IQ ports (R56 to R61) -/

/-- Whether Carousel runs (R32, R417). -/
def State.carouselOn (s : State) : Bool := s.serving && s.pw.carousel

/-- The state code of an IQ port (R85). -/
def State.iqCode (s : State) (p : Nat) : Nat := s.nat (Obj.iqPortStatus p) % 8

/-- IqPortStatus of a port set: its code, and the lanes that failed (R85). -/
def State.setIq (s : State) (p code lanes : Nat) : State :=
  s.set (Obj.iqPortStatus p) ((code + 16 * (lanes % 16) : Nat) : Int)

/-- Whether an IQ port is up. -/
def State.iqUp (s : State) (p : Nat) : Bool := s.carouselOn && Nat.ble p 3 && s.iqCode p == 2

/-- A port's frames are aborted, its demodulators and snippets released, its collision groups dissolved (R60). -/
def State.abortPort (s : State) (p : Nat) : State :=
  { s with car.demods := s.car.demods.filter fun d => d.det.port != p,
           car.groups := s.car.groups.filter fun g => g.port != p }

/-- A port starts to train (R59): it aborts what it received; `pattern` where its transmitter sends the training pattern
too. -/
def State.trainPort (s : State) (p : Nat) (pattern : Bool) : State :=
  let now := s.now
  let s := (s.abortPort p).setIq p 1 0
  { s with car.ports := lmod s.car.ports p fun q =>
      { q with trainAt := now, patternAt := if pattern then now else q.patternAt } }

/-- IqRetrain (R59, R85): writing 1 retrains an enabled port. -/
def State.iqRetrain (s : State) (r : CapReq) (p : Nat) : State :=
  if Nat.ble p 3 then
    s.capExec r (Obj.iqRetrain p) fun _ s =>
      (capOk, if s.carouselOn && s.bitOf Obj.carouselEnable p then s.trainPort p true else s)
  else s.capRun r 3 (0x2001 + p) 8 (fun _ => true) fun _ s => (some (capErr 1 0), s)

/-- IQ_RETRAIN (R59). -/
def execIqRetrain (r : CapReq) (port : Nat) (s : State) : Host.Outcome State Fault Refusal := .next (s.iqRetrain r port)

/-- Training passes (R59): the port is up. -/
def State.trainingPass (s : State) (p : Nat) : State :=
  if s.carouselOn && Nat.ble p 3 && s.iqCode p == 1 then s.setIq p 2 0 else s

/-- IQ_TRAINING_PASS (R59). -/
def execIqTrainingPass (port : Nat) (s : State) : Host.Outcome State Fault Refusal := .next (s.trainingPass port)

/-- Training has not passed within 10 ms (R59): the failed state, naming the lanes. -/
def State.trainingTimeout (s : State) (p lanes : Nat) : State :=
  let at_ := ((s.car.ports[p]?).map (·.trainAt)).getD 0
  if s.carouselOn && Nat.ble p 3 && s.iqCode p == 1 && Nat.ble (at_ + 10000000) s.now then s.setIq p 4 lanes else s

/-- IQ_TRAINING_TIMEOUT (R59). -/
def execIqTrainingTimeout (port lanes : Nat) (s : State) : Host.Outcome State Fault Refusal :=
  .next (s.trainingTimeout port lanes)

/-- A fault of a port that is up (R60): `kind` 1 slip, 2 loss of clock. -/
def State.portFault (s : State) (p kind : Nat) : State :=
  if s.iqUp p then
    let s := (s.bump (Obj.portFaults p)).logOp 0x3003 0xFF (pack [(1, p), (1, kind)])
    if kind = 1 then s.trainPort p false
    else
      let s := (s.abortPort p).setIq p 3 0
      { s with car.ports := lmod s.car.ports p fun q => { q with clock := false } }
  else s

/-- FRAME_SLIP (R60): the clock is present, so that the port retrains at once. -/
def execFrameSlip (port : Nat) (s : State) : Host.Outcome State Fault Refusal := .next (s.portFault port 1)

/-- LOSS_OF_CLOCK (R60). -/
def execLossOfClock (port : Nat) (s : State) : Host.Outcome State Fault Refusal := .next (s.portFault port 2)

/-- The clock has been present for 1 ms (R60): the port retrains. -/
def State.clockRestored (s : State) (p : Nat) : State :=
  if s.carouselOn && Nat.ble p 3 && s.iqCode p == 3 then
    let s := s.trainPort p false
    { s with car.ports := lmod s.car.ports p fun q => { q with clock := true } }
  else s

/-- CLOCK_RESTORED (R60). -/
def execClockRestored (port : Nat) (s : State) : Host.Outcome State Fault Refusal := .next (s.clockRestored port)

/-- A millisecond's clipped samples (R61): counted; above ClipFlagThreshold the frames on air on the port are flagged. -/
def State.clippedMs (s : State) (p n : Nat) : State :=
  if s.iqUp p then
    let s := s.bumpBy (Obj.clipCount p) n
    if s.nat (Obj.clipFlagThreshold p) < n then
      { s with car.demods := s.car.demods.map fun (d : Demod) =>
          if d.det.port == p && d.phase == 0 then ({ d with clipped := true } : Demod) else d }
    else s
  else s

/-- CLIPPED_MILLISECOND (R61). -/
def execClippedMillisecond (port clipped : Nat) (s : State) : Host.Outcome State Fault Refusal :=
  .next (s.clippedMs port clipped)

/-! ### The demodulator pool (R66 to R69) -/

/-- Demodulators of a port's reservation in use. -/
def State.reservedUsed (s : State) (p : Nat) : Nat := (s.car.demods.filter fun d => d.reserved && d.det.port == p).length

/-- The demodulator a detection of a port gets (R67): a reserved one first (`true`), then an unreserved one, or none. -/
def State.demodFor (s : State) (p : Nat) : Option Bool :=
  let used := s.car.demods.length
  let open_ := (s.car.demods.filter fun d => !d.reserved).length
  let aside := ((List.range 4).map fun q => Nat.max (s.nat (Obj.demodReserve q)) (s.reservedUsed q)).sum
  if 1024 ≤ used then none
  else if s.reservedUsed p < s.nat (Obj.demodReserve p) then some true
  else if open_ + aside < 1024 then some false
  else none

/-- Whether a detection, on a channel centred on `hz`, is of the frame a demodulator holds (R68). -/
def Demod.same (a : Demod) (b : Det) (hz : Nat) : Bool :=
  let apart := Nat.max (a.det.syncNs - b.syncNs) (b.syncNs - a.det.syncNs)
  let off := Nat.max (a.hz - hz) (hz - a.hz)
  a.det.port == b.port && Nat.ble apart (2 * Nat.max a.det.symNs b.symNs) &&
  Nat.blt (2 * off) (Nat.max (gridSpacing a.det.grid) (gridSpacing b.grid))

/-- The channels of a grid of a port (R58, R62, R63). -/
def State.channels (s : State) (p g : Nat) : Nat :=
  rasterCount (s.nat (Obj.centreHz p)) (s.nat (Obj.sampleRate p)) (s.nat (Obj.gridOrigin p g)) g

/-- The centre of a channel of a port in Hz (R63). -/
def State.channelAt (s : State) (p g k : Nat) : Nat :=
  channelHz (s.nat (Obj.centreHz p)) (s.nat (Obj.sampleRate p)) (s.nat (Obj.gridOrigin p g)) g k

/-- Whether a detector of a mode runs where a detection was made (R62 to R64, R66): on a channel of the mode's grid; for Pendant, behind
one of its two sync words (R74), within ±0.4 of the spacing from the centre (R77). -/
def State.detects (s : State) (d : Det) : Bool :=
  s.iqUp d.port && s.bitOf Obj.carouselEnable d.port && Nat.ble d.grid 5 && s.bitOf (Obj.gridEnable d.port) d.grid &&
  Nat.ble 1 d.mode && Nat.ble d.mode 13 && s.bitOf (Obj.modeEnable d.port) d.mode &&
  s.nat (Obj.modeGrid (d.mode - 1)) == d.grid && Nat.blt d.channel (s.channels d.port d.grid) &&
  (d.mode != 13 || ((syncBlocks d.sync).isSome && Nat.ble (5 * d.freqOff.natAbs) (2 * gridSpacing d.grid)))

/-- A demodulator changed. -/
def State.modDemod (s : State) (id : Nat) (f : Demod → Demod) : State :=
  { s with car.demods := s.car.demods.map fun d => if d.id == id then f d else d }

/-- A demodulator with a number. -/
def State.demod (s : State) (id : Nat) : Option Demod := s.car.demods.find? fun d => d.id == id

/-- A demodulator released, with its snippet and its place in a group (R69). -/
def State.releaseDemod (s : State) (id : Nat) : State :=
  { s with car.demods := s.car.demods.filter fun d => d.id != id,
           car.groups := s.car.groups.map fun (g : Group) => ({ g with members := g.members.filter (· != id) } : Group) }

/-! ### Collision groups (R80, R81) -/

/-- A collision group with a number. -/
def State.group (s : State) (id : Nat) : Option Group := s.car.groups.find? fun g => g.id == id

/-- The open group of a channel. -/
def State.groupOn (s : State) (d : Det) : Option Group :=
  s.car.groups.find? fun g => !g.closed && g.port == d.port && g.grid == d.grid && g.channel == d.channel

/-- A group is finished (R69, R79, R81): its members not decoded are lost, all its demodulators and snippets released. -/
def State.finishGroup (s : State) (g : Group) : State :=
  let ms := s.car.demods.filter fun d => g.members.contains d.id
  let lost := (ms.filter fun d => d.phase != 1).length
  let s := s.bumpBy Obj.framesLost lost
  { s with car.demods := s.car.demods.filter fun d => !g.members.contains d.id,
           car.groups := s.car.groups.filter fun (x : Group) => x.id != g.id }

/-- Whether R81 has a further pass for a group: fewer than three, a member not decoded, a decoded one not subtracted. -/
def State.passDue (s : State) (g : Group) : Bool :=
  let ms := s.car.demods.filter fun d => g.members.contains d.id
  Nat.blt g.passes 3 && ms.any (fun d => d.phase != 1) && ms.any (fun d => d.phase == 1 && !d.done)

/-- A group of which every member has ended closes (R80); it finishes at once where R81 has no pass for it. -/
def State.closeGroup (s : State) (id : Nat) : State :=
  match s.group id with
  | none => s
  | some g =>
    if s.car.demods.any fun d => g.members.contains d.id && d.phase == 0 then s
    else
      let g : Group := { g with closed := true }
      let s := { s with car.groups := s.car.groups.map fun (x : Group) => if x.id == g.id then g else x }
      if s.passDue g then s else s.finishGroup g

/-! ### Snippets (R78, R79) -/

/-- The bytes of a snippet whose frame lasted a time from its detection (R62, R78): 1,024 samples before it, 4 bytes each. -/
def snippetBytes (grid ns : Nat) : Nat := 4 * (1024 + ceilDiv (ns * (25000 * 2 ^ grid)) nsPerS)

/-- The bytes that the other snippets hold in the on-chip store, or in the spill region (R78). -/
def State.snipsUsed (s : State) (id : Nat) (spilled : Bool) : Nat :=
  ((s.car.demods.filter fun d => d.id != id).map fun d =>
    match d.snip with
    | some x => if x.spilled == spilled then x.bytes else 0
    | none => 0).sum

/-- Where a snippet of n bytes goes (R78, R79): beyond SnippetChipLimit, or once moved, to the spill region, else to the on-chip store;
where its place is full, to the other; none where both are. -/
def State.placeSnip (s : State) (id n : Nat) (spilled : Bool) : Option Snip :=
  let chip := Nat.ble (s.snipsUsed id false + n) 4194304
  let spill := Nat.ble (s.snipsUsed id true + n) (s.nat Obj.snippetSpillSize * 1048576)
  if (spilled || Nat.blt (s.nat Obj.snippetChipLimit) n) && spill then some { bytes := n, spilled := true }
  else if chip then some { bytes := n, spilled := false }
  else if spill then some { bytes := n, spilled := true }
  else none

/-- A snippet of n bytes beside the others (R79): kept, or counted as too long or as without space. -/
def State.snippet (s : State) (id n : Nat) (spilled : Bool) : Option Snip × State :=
  if s.nat Obj.snippetMaxBytes < n then (none, s.bump Obj.snippetTooLong)
  else
    match s.placeSnip id n spilled with
    | some x => (some x, s)
    | none => (none, s.bump Obj.snippetNoSpace)

/-- A demodulator without its snippet (R79): its frame is demodulated live only, and its group goes on without it. -/
def State.loseSnippet (s : State) (d : Demod) : State :=
  let s := s.modDemod d.id fun x => { x with snip := none, group := 0 }
  let s := { s with car.groups := s.car.groups.map fun (g : Group) => ({ g with members := g.members.filter (· != d.id) } : Group) }
  s.closeGroup d.group

/-- A snippet as long as its frame, `ns` after its detection (R78, R79). -/
def State.growSnippet (s : State) (id ns : Nat) : State :=
  match s.demod id with
  | none => s
  | some d =>
    match d.snip with
    | none => s
    | some m =>
      match s.snippet id (Nat.max m.bytes (snippetBytes d.det.grid ns)) m.spilled with
      | (some x, s) => s.modDemod id fun y => { y with snip := some x }
      | (none, s) => s.loseSnippet d

/-- The snippets of the frames on air grow to the present instant (R78), in order of detection. DESIGN CHOICE (log entry 98): their
growth is taken where a command of the receivers finds them. -/
def State.growSnippets (s : State) : State :=
  (s.car.demods.filter fun d => d.phase == 0).foldl (fun (s : State) (d : Demod) => s.growSnippet d.id (s.now - d.det.syncNs)) s

/-! ### Detections (R65 to R68, R80) -/

/-- A new demodulator joins or forms the group of its channel (R80): up to four members, each with a snippet; a detection beyond them
is counted and demodulated live only. -/
def State.joinGroup (s : State) (n : Demod) : State :=
  match s.groupOn n.det with
  | some g =>
    if 4 ≤ g.members.length then (s.modDemod n.id fun d => { d with snip := none }).bump Obj.groupOverflow
    else if n.snip.isNone then s
    else
      let s := { s with car.groups := s.car.groups.map fun (x : Group) =>
        if x.id == g.id then ({ x with members := x.members ++ [n.id] } : Group) else x }
      s.modDemod n.id fun d => { d with group := g.id }
  | none =>
    let others := s.car.demods.filter fun d => d.id != n.id && d.phase == 0 && d.group == 0 && d.snip.isSome &&
      d.det.port == n.det.port && d.det.grid == n.det.grid && d.det.channel == n.det.channel
    if n.snip.isNone || others.isEmpty then s
    else
      let ids := ((others.take 3).map (·.id)) ++ [n.id]
      let g := s.car.nextGroup
      let new : Group := { id := g, port := n.det.port, grid := n.det.grid, channel := n.det.channel, members := ids,
                           closed := false, passes := 0 }
      let s := { s with car.groups := s.car.groups ++ [new], car.nextGroup := g + 1 }
      let mark (d : Demod) : Demod := if ids.contains d.id then { d with group := g } else d
      let s := { s with car.demods := s.car.demods.map mark }
      s.bump Obj.groupsFormed

/-- A demodulator assigned to a detection (R66, R78, R80), with its snippet from 1,024 samples before it. -/
def State.assign (s : State) (d : Det) (reserved : Bool) : State :=
  let id := s.car.nextDemod
  let (snip, s) := s.snippet id (snippetBytes d.grid (s.now - d.syncNs)) false
  let n : Demod := { id, det := d, hz := s.channelAt d.port d.grid d.channel, at_ := s.now, reserved, group := 0, clipped := false,
                     phase := 0, snip, done := false }
  let s := { s with car.demods := s.car.demods ++ [n], car.nextDemod := id + 1 }
  s.joinGroup n

/-- One detection (R65, R66, R68): counted; dropped when no demodulator is available; an unsupported format releases it at once;
of two detections of one frame the higher metric is kept, and the group of the one released goes on without it. -/
def State.detect (s : State) (d : Det) : State :=
  if !s.detects d then s
  else
    let s := s.bump (Obj.detections d.port)
    match s.demodFor d.port with
    | none => s.bump (Obj.demodBusyDrops d.port d.grid)
    | some reserved =>
      if d.unsupported then s.bump (Obj.unsupportedFormat d.port)
      else
        match s.car.demods.find? fun x => x.same d (s.channelAt d.port d.grid d.channel) with
        | none => s.assign d reserved
        | some x =>
          let s := s.bump (Obj.mergedDetections d.port)
          if x.det.metric < d.metric then ((s.releaseDemod x.id).assign d reserved).closeGroup x.group else s

/-- The place of a detection among those of its RADIO cycle (R66): port, grid, channel, mode. -/
def detRank (d : Det) : Nat := ((d.port * 8 + d.grid) * 65536 + d.channel) * 16 + d.mode

/-- A detection put into a list in the order of R66. -/
def insertDet (d : Det) : List Det → List Det
  | [] => [d]
  | x :: t => if detRank d < detRank x then d :: x :: t else x :: insertDet d t

/-- The detections of one RADIO cycle (R66), served in order. -/
def State.detectAll (s : State) (ds : List Det) : State :=
  (ds.foldl (fun l d => insertDet d l) []).foldl State.detect s.growSnippets

/-- DETECTION (R66). -/
def execDetection (ds : List Det) (s : State) : Host.Outcome State Fault Refusal := .next (s.detectAll ds)

/-! ### Delivery (R70, R71) -/

/-- The descriptor of a received frame (R61, R71), without DataAddress, which `State.arrive` fills in. -/
def State.descriptor (s : State) (d : Demod) (i : RxInfo) (pass : Nat) : Nat :=
  pack [(4, s.shortAt i.syncNs), (4, s.shortAt i.endNs), (10, timeOf i.syncNs), (1, d.det.port), (1, d.det.grid),
    (2, d.det.channel), (1, d.det.mode), (1, i.modeParam), (2, enc 2 (i.rssi + s.get (Obj.rssiOffsetDeciDbm d.det.port))),
    (2, enc 2 i.esn0), (4, enc 4 d.det.freqOff), (1, pass), (1, linkQuality i.esn0),
    (2, b2n d.clipped + 2 * b2n (d.group != 0)), (4, d.group), (2, i.length), (2, 0), (8, 0), (12, 0)]

/-- Whether a frame has arrived whole (R77): a Pendant transmission with its four copies. -/
def Demod.whole (d : Demod) (i : RxInfo) : Bool :=
  d.det.mode != 13 || pendantWhole ((syncBlocks d.det.sync).getD 0) i.copies

/-- What is delivered of a frame, none where it fails its checks (R70): `ok` says how those of the other modes ended, a Pendant frame is
decoded from its four copies (R74 to R77): its link header is FrameControl and the EUI-64 in its payload, its bytes are those
before the CRC. -/
def Demod.received (d : Demod) (ok : Bool) (i : RxInfo) : Option RxInfo :=
  if d.det.mode != 13 then (if ok then some i else none)
  else if !d.whole i then none
  else (pendantDecode ((syncBlocks d.det.sync).getD 0) i.copies).map fun f =>
    { i with native := { ntype := 1, addr := f.eui }, ackReq := f.window, modeParam := 0,
             length := f.payload.length + 2, frame := ofBytes (pendantBody f.control f.payload) }

/-- A demodulated frame delivered (R70): its descriptor and its item, in the queue of its cell. -/
def State.deliver (s : State) (d : Demod) (i : RxInfo) (pass : Nat) : State :=
  let s := s.bump (Obj.delivered d.det.port)
  let f : Frame := { s.newFrame d.det.port i with
    mode := d.det.mode, channel := d.det.channel, port := d.det.port, centreHz := d.hz, rxPass := pass,
    desc := s.descriptor d i pass }
  s.arrive f

/-- A frame ends on the air (R69, R79, R80): its snippet has its full length, `phase` 1 decoded or 2 not. Outside a group its
demodulator is released; a member is held until its group is finished. -/
def State.frameEnds (s : State) (id ns phase : Nat) : State :=
  let s := s.growSnippet id ns
  match s.demod id with
  | none => s
  | some d =>
    if d.group = 0 then s.releaseDemod id
    else (s.modDemod id fun x => { x with phase := phase }).closeGroup d.group

/-- The demodulator of a frame on air, of a port that is up. -/
def State.live (s : State) (id : Nat) : Option Demod := (s.demod id).filter fun d => d.phase == 0 && s.iqUp d.det.port

/-- FRAME_DELIVERY (R70): delivered on first pass, or counted in CrcFail; a Pendant transmission that was cut off is not decoded
(R77). -/
def State.frameDelivery (s : State) (id : Nat) (ok : Bool) (i : RxInfo) : State :=
  let s := s.growSnippets
  match s.live id with
  | none => s
  | some d =>
    match d.received ok i with
    | some i => (s.deliver d i 0).frameEnds id (i.endNs - d.det.syncNs) 1
    | none => (if d.whole i then s.bump (Obj.crcFail d.det.port) else s).frameEnds id (i.endNs - d.det.syncNs) 2

/-- FRAME_DELIVERY (R70). -/
def execFrameDelivery (dem : Nat) (ok : Bool) (i : RxInfo) (s : State) : Host.Outcome State Fault Refusal :=
  .next (s.frameDelivery dem ok i)

/-- A frame abandoned before its end (R69). -/
def State.abandon (s : State) (id : Nat) : State :=
  let s := s.growSnippets
  match s.live id with
  | none => s
  | some d => s.frameEnds id (s.now - d.det.syncNs) 2

/-- SYNC_LOST (R69). -/
def execSyncLost (dem : Nat) (s : State) : Host.Outcome State Fault Refusal := .next (s.abandon dem)

/-- LENGTH_FIELD_EXCEEDED (R69). -/
def execLengthFieldExceeded (dem : Nat) (s : State) : Host.Outcome State Fault Refusal := .next (s.abandon dem)

/-- A frame that has held its demodulator for DemodMaxHoldS (R69). -/
def State.maxHold (s : State) (id : Nat) : State :=
  match s.demod id with
  | some d => if s.elapsedS d.at_ (s.nat Obj.demodMaxHoldS) then s.abandon id else s
  | none => s

/-- DEMOD_MAX_HOLD (R69). -/
def execDemodMaxHold (dem : Nat) (s : State) : Host.Outcome State Fault Refusal := .next (s.maxHold dem)

/-- The stronger of two members; on equal power the earlier sync instant (R81). -/
def stronger (a b : Demod) : Bool :=
  decide (b.det.power < a.det.power) || (a.det.power == b.det.power && Nat.ble a.det.syncNs b.det.syncNs)

/-- A member put into a list ordered strongest first. -/
def insertDemod (d : Demod) : List Demod → List Demod
  | [] => [d]
  | x :: t => if stronger x d then x :: insertDemod d t else d :: x :: t

/-- The strongest of a list of members. -/
def strongest : List Demod → Option Demod
  | [] => none
  | d :: t => some (t.foldl (fun (m : Demod) (x : Demod) => if stronger m x then m else x) d)

/-- One completed cancellation pass (R81): the strongest decoded member not yet subtracted is subtracted; the members that
the retry decodes are delivered, strongest first. -/
def State.cancel (s : State) (id : Nat) (decoded : List (Nat × RxInfo)) : State :=
  match s.group id with
  | none => s
  | some g =>
    if !(g.closed && s.iqUp g.port && s.passDue g) then s
    else
      let s := s.growSnippets
      let ms := s.car.demods.filter fun d => g.members.contains d.id
      match strongest (ms.filter fun d => d.phase == 1 && !d.done) with
      | none => s
      | some c =>
        let pass := g.passes + 1
        let g : Group := { g with passes := pass }
        let s := { s with car.groups := s.car.groups.map fun (x : Group) => if x.id == g.id then g else x }
        let s := s.modDemod c.id fun d => { d with done := true }
        let retry := (ms.filter fun d => d.phase != 1).foldl (fun l d => insertDemod d l) []
        let s := retry.foldl (fun (s : State) (d : Demod) =>
          match (decoded.find? fun e => e.1 == d.id).bind fun e => d.received true e.2 with
          | none => s
          | some i =>
            ((s.deliver d i pass).modDemod d.id fun x => { x with phase := 1 }).bump Obj.framesRecovered) s
        if s.passDue g then s else s.finishGroup g

/-- CANCELLATION_PASS (R81). -/
def execCancellationPass (group : Nat) (decoded : List (Nat × RxInfo)) (s : State) : Host.Outcome State Fault Refusal :=
  .next (s.cancel group decoded)

end Sys2Proof.Machine
end

