-- ==== Sys2Proof/Machine/Downlink.lean ====
section
/-! DEFINITION. Radio downlink (R86 to R104): staged items by command, the fast response path, duty cycle,
listen-before-talk, broadcasts, endpoint-firmware campaigns. -/

namespace Sys2Proof.Machine

/-! ### Staging (R93 to R95) -/

/-- Whether an item argument is one that a command may stage (R93): class 2 comes from the gate alone. Reserved ItemFlags are
ignored (R13). -/
def itemArgOk (a : ItemArg) : Bool :=
  (a.cls == 1 || a.cls == 3 || a.cls == 4) && Nat.ble a.prio 3 && Nat.ble 1 a.length && Nat.ble a.length 96

/-- The body of StageItem (R93, R94). -/
def State.stageBody (s : State) (a : ItemArg) (ses : Session) : CapOut × State :=
  s.target ses a.tag false fun _ =>
    if !itemArgOk a then (capErr 5 0, s)
    else if !s.itemRoom a.tag then (capErr 11 0, s)
    else s.mediaGate fun s =>
      let (n, s) := s.stage { seq := 0, tag := a.tag, cls := a.cls, prio := a.prio, length := a.length,
                              notBefore := a.notBefore, expiry := a.expiry, sends := 0, flags := a.flags % 2, payload := a.payload,
                              held := false, request := none }
      (capVal 4 n, s)

/-- STAGE_ITEM (R94): ordered like a frame of its endpoint. -/
def execStageItem (r : CapReq) (a : ItemArg) (s : State) : Host.Outcome State Fault Refusal :=
  .next (s.capOrdered r Obj.stageItem [a.tag] (.stageItem r a) fun ses s => s.stageBody a ses)

/-- StageWithdraw (R95). DESIGN CHOICE (log entry 105): an item that is not there is out of range, one that a modulator holds answers
busy. -/
def State.stageWithdraw (s : State) (r : CapReq) (tag seq : Nat) : State :=
  s.capExec r Obj.stageWithdraw fun ses s =>
    s.target ses tag false fun _ =>
      match (s.itemsOf tag).find? fun i => i.seq == seq with
      | none => (capErr 5 0, s)
      | some i => if i.held then (capErr 6 0, s) else s.mediaGate fun s => (capOk, s.dropItem i 4)

/-- STAGE_WITHDRAW (R95). -/
def execStageWithdraw (r : CapReq) (tag seq : Nat) (s : State) : Host.Outcome State Fault Refusal :=
  .next (s.stageWithdraw r tag seq)

/-- An item reaches its Expiry (R95). -/
def State.itemExpiry (s : State) (seq : Nat) : State :=
  if !s.serving then s
  else
    match s.nand.items.find? fun i => i.seq == seq with
    | none => s
    | some i => if s.tai < i.expiry then s else s.dropItem i 2

/-- ITEM_EXPIRY (R95). -/
def execItemExpiry (seq : Nat) (s : State) : Host.Outcome State Fault Refusal := .next (s.itemExpiry seq)

/-! ### Working slots and acknowledgements (R90, R151) -/

/-- A frame whose response is settled leaves the path where nothing else remains of it. -/
def State.settleResponse (s : State) (id : Nat) (missed : Bool) : State :=
  let settle (f : Frame) : Frame := if f.id == id then { f with resp := false, missed := missed } else f
  let s := ((s.frame id).map s.takeAsk).getD s
  { s with frames := (s.frames.map settle).filter fun f => !(f.id == id && f.stage == 11) }

/-- The acknowledgement of an endpoint waits for the next downlink opportunity (R27, R90). -/
def State.owesAck (s : State) (tag : Nat) : State :=
  if s.dl.ackDue.contains tag then s else { s with dl.ackDue := s.dl.ackDue ++ [tag] }

/-! ### Composition (R89 to R92, R95) -/

/-- An item put into a list ordered by Priority and then StageSequence (R95). -/
def insertItem (i : Item) : List Item → List Item
  | [] => [i]
  | x :: t => if x.prio < i.prio ∨ (x.prio = i.prio ∧ x.seq ≤ i.seq) then x :: insertItem i t else i :: x :: t

/-- As many items of an ordered list as fit in a number of bytes (R95). -/
def takeItems : Nat → List Item → List Item
  | _, [] => []
  | room, i :: t => if Nat.ble i.length room then i :: takeItems (room - i.length) t else []

/-- The items eligible for a frame at its hardware stamp (R94, R95). -/
def State.eligible (s : State) (f : Frame) : List Item :=
  let t := f.syncNs / nsPerS
  let is := (s.itemsOf f.tag).filter fun i =>
    !i.held && Nat.ble i.notBefore t && Nat.blt t i.expiry && Nat.ble i.seq f.stageSeen
  is.foldl (fun l i => insertItem i l) []

/-- The centre frequency of the response to a frame (R87). -/
def State.responseHz (s : State) (f : Frame) : Nat :=
  if f.mode = 13 then f.centreHz
  else ((f.centreHz : Int) + s.get (Obj.responseFreqOffsetHz (f.mode - 1))).toNat

/-- The mode of the response to a frame (R87, R98). -/
def State.responseModeOf (s : State) (f : Frame) : Nat := if f.mode = 13 then 13 else s.nat (Obj.responseMode (f.mode - 1))

/-- The launch instant of the response to a frame (R89, R98). -/
def State.launchAt (s : State) (f : Frame) : Nat :=
  if f.mode = 13 then f.endNs + 2 * nsPerS else f.endNs + 1000 * s.nat (Obj.responseOffsetUs (f.mode - 1))

/-- The deadline of steps 2 to 7 (R89, R98): 50 µs before the launch. -/
def State.deadlineOf (s : State) (f : Frame) : Nat := s.launchAt f - 50000

/-- Whether a frame asks for a response of the fast path (R89), or one in Pendant format, which goes out when the endpoint has staged
items or an acknowledgement is due to it (R98). DEDUCED (log entry 102): one is due to an endpoint whose ReceiveWindow flag says that it
is acknowledged (R40), or to which one is owed (R90). -/
def State.asks (s : State) (f : Frame) (r : Record) : Bool :=
  f.forwarded.isNone && !f.inPlc && Nat.ble f.cell 3 &&
  (if Nat.ble 1 f.mode && Nat.ble f.mode 6 then r.flag 4
   else if Nat.ble 7 f.mode && Nat.ble f.mode 12 then f.ackReq
   else f.mode == 13 && f.ackReq && (r.downPending != 0 || r.flag 4 || s.dl.ackDue.contains r.tag))

/-- The largest frame of a mode in bytes (R95). PRESUMED (log entry 100): of EN 13757-4 and IEEE 802.15.4-2020; a Pendant payload holds up to
64 bytes, eight of them the EUI-64 (R74). -/
def largestFrame (mode : Nat) : Nat := if mode ≤ 6 then 255 else if mode = 11 then 32 else if mode = 13 then 56 else 2047

/-- The bytes of items that a response in a mode has room for (R95). -/
def responseRoom (mode : Nat) : Nat := largestFrame mode - Config.responseOverhead mode

/-- The rate at which a mode sends the bits of its preamble, per second (R64, R73): the chip rate where R64 gives one (DEDUCED, log
entry 100). -/
def preambleRate (mode : Nat) : Nat :=
  [32768, 100000, 100000, 2400, 4800, 19200, 50000, 100000, 150000, 200000, 100000, 37500].getD (mode - 1) 600

/-- The air time of a response in µs (R89, R98): a Pendant one with PendantResponseCopies copies; another with the bits of
ResponsePreambleExtra. -/
def State.responseAir (s : State) (f : Frame) (length us : Nat) : Nat :=
  let mode := s.responseModeOf f
  (if mode = 13 then pendantAirUs (s.nat Obj.pendantResponseCopies) length else us) +
    ceilDiv (s.nat (Obj.responsePreambleExtra (f.mode - 1)) * 1000000) (preambleRate mode)

/-! #### Duty cycle (R96) -/

/-- A DutyBand entry (R96) as its 16 bytes. -/
def State.band (s : State) (i : Nat) : Nat := s.nat (Obj.dutyBand i)

/-- The sub-band that holds a transmission wholly (R96). DESIGN CHOICE (log entry 103): of entries that overlap, the first. -/
def State.bandFor (s : State) (low high : Nat) : Option Nat :=
  (List.range 16).find? fun i =>
    Nat.ble (bytesAt (s.band i) 0 4) low && Nat.blt high (bytesAt (s.band i) 4 4)

/-- The sub-band of a transmission of a width about a centre. -/
def State.bandAbout (s : State) (hz width : Nat) : Option Nat := s.bandFor (hz - width / 2) (hz + width / 2)

/-- Whether a sub-band asks for listen-before-talk (R97). -/
def State.bandLbt (s : State) (i : Nat) : Bool := bit (byteAt (s.band i) 11) 0

/-- The on-air time of the last 60 buckets of a port in a sub-band, in µs (R96). -/
def State.dutyUsed (s : State) (port i : Nat) : Nat := ((tget s.dl.duty (16 * port + i)).getD []).sum

/-- The budget of a port in a sub-band (R96), in µs: none without limit; `reserve`: less FastReservePct. DESIGN CHOICE (log entry 103):
with no limit there is none to keep a share of. -/
def State.dutyLimit (s : State) (i : Nat) (reserve : Bool) : Option Nat :=
  let l := bytesAt (s.band i) 8 2
  if 10000 ≤ l then none
  else
    let us := l * 360000
    some (if reserve then us - us * Nat.min 100 (byteAt (s.band i) 10) / 100 else us)

/-- Whether the budget admits a transmission (R96). -/
def State.dutyOk (s : State) (port i us : Nat) (reserve : Bool) : Bool :=
  match s.dutyLimit i reserve with
  | none => true
  | some l => Nat.ble (s.dutyUsed port i + us) l

/-! #### Steps 6 and 7 (R89 to R92, R95) -/

/-- A response that will not be sent (R90): the working slot purged, the frame acknowledged at the next downlink opportunity once its
ingest commit is durable. -/
def State.missResponse (s : State) (f : Frame) : State :=
  let durable := Nat.ble 4 f.stage
  let s := s.purgeSlot f.id
  let s := if durable then s.owesAck f.tag else s
  s.settleResponse f.id (!durable)

/-- Steps 6 and 7 for a frame whose steps before are done: the composer selects items, checks the budget, advances DownlinkCounter, which is
committed with the frame's result commit (R92; at once where the frame has none left to come: DESIGN CHOICE, log entry 104), secures the
response under the frame's keys and purges them. -/
def State.composeFor (s : State) (f : Frame) (r : Record) (length us width : Nat) : State :=
  let hz := s.responseHz f
  let air := s.responseAir f length us
  match s.bandAbout hz width with
  | none => (s.missResponse f).bump (Obj.txNoSubband f.port)
  | some b =>
    if !s.dutyOk f.port b air false then (s.missResponse f).bump (Obj.dutyRefused f.port)
    else
      let counter := (s.frames.filter fun g => g.tag == f.tag).foldl (fun m g => Nat.max m g.down) r.downCounter + 1
      let mode := s.responseModeOf f
      let items := (takeItems (responseRoom mode) (s.eligible f)).map (·.seq)
      let s := if Nat.ble f.stage 8 then
          { s with frames := s.frames.map fun (g : Frame) => if g.id == f.id then ({ g with down := counter } : Frame) else g }
        else s.modRecord f.tag fun r => { r with downCounter := counter }
      let x : Response :=
        { frame := f.id, tag := f.tag, port := f.port, pendant := f.mode == 13, centreHz := hz, mode, launch := s.launchAt f, items,
          counter, handed := false, airUs := air, widthHz := width, listened := false }
      ({ s with dl.responses := s.dl.responses ++ [x] }.takeAsk f).purgeSlot f.id

/-- FAST_PATH_RESPONSE (R25, R89 to R92, R95, R98): for a frame past its ingest commit that is next of its endpoint; past the deadline it
is missed. -/
def State.compose (s : State) (id length us width : Nat) : State :=
  match s.frames.find? fun f => f.id == id with
  | none => s
  | some f =>
    if !(s.accepting && f.resp && Nat.ble 4 f.stage && s.isNext f && s.loc.responding.contains id &&
        !(s.dl.responses.any fun r => r.frame == id)) then s
    else if s.deadlineOf f < s.now then (s.missResponse f).bump (Obj.responsesMissed f.port)
    else
      match s.record f.tag with
      | none => s
      | some r => s.composeFor f r length us width

/-- FAST_PATH_RESPONSE (R89). -/
def execFastPathResponse (frame length airUs widthHz : Nat) (s : State) : Host.Outcome State Fault Refusal :=
  .next (s.compose frame length airUs widthHz)

/-- A response changed. -/
def State.modResponse (s : State) (id : Nat) (f : Response → Response) : State :=
  { s with dl.responses := s.dl.responses.map fun (r : Response) => if r.frame == id then f r else r }

/-- Items held or let go by a modulator (R95). -/
def State.holdItems (s : State) (seqs : List Nat) (held : Bool) : State :=
  { s with nand.items := s.nand.items.map fun (i : Item) =>
    if seqs.contains i.seq then ({ i with held := held } : Item) else i }

/-- Whether a response is due to a frame: as step 2 found, or, of a frame that has not come to step 2 (R90), as its record says. -/
def State.mayAsk (s : State) (f : Frame) : Bool :=
  f.resp || (f.stage == 1 && !f.missed && ((s.recordFor f).map (s.asks f)).getD false)

/-- Step 8 of R89: the response handed to its modulator 50 µs before the launch, without class 2 items that the gate has not
confirmed (R400); an unfinished one, its frame at step 1 or later, is missed and its working slot purged (R90). -/
def State.launchDeadline (s : State) (id : Nat) : State :=
  match s.dl.responses.find? fun r => r.frame == id with
  | some r =>
    if r.handed then s
    else
      let emit := r.items.filter fun n =>
        s.gate.confirmed.contains n || !(s.nand.items.any fun i => i.seq == n && i.cls == 2)
      let s := s.modResponse id fun r => { r with items := emit, handed := true }
      let s := { s with gate.confirmed := s.gate.confirmed.filter fun n => !emit.contains n }
      (s.holdItems emit true).settleResponse id false
  | none =>
    match s.frames.find? fun f => f.id == id && s.mayAsk f with
    | none => s
    | some f =>
      if s.now < s.deadlineOf f then s else (s.missResponse f).bump (Obj.responsesMissed f.port)

/-- LAUNCH_DEADLINE (R90). -/
def execLaunchDeadline (frame : Nat) (s : State) : Host.Outcome State Fault Refusal := .next (s.launchDeadline frame)

/-! ### Buckets (R96) -/

/-- A transmission charged wholly to the bucket of its start (R96). -/
def State.chargeAir (s : State) (port i us : Nat) : State :=
  let l := (tget s.dl.duty (16 * port + i)).getD []
  let l := match l with
    | [] => [us]
    | b :: t => (b + us) :: t
  if us = 0 then s else { s with dl.duty := tput s.dl.duty (16 * port + i) l }

/-- DUTY_BUCKET_ROLL (R96): the oldest bucket of each port and sub-band is replaced, in Standby too. -/
def State.dutyRoll (s : State) : State :=
  if !s.up then s
  else
    let rolled : Tab (List Nat) := s.dl.duty.map fun (e : Nat × List Nat) => (e.1, (0 :: e.2).take 60)
    { s with dl.duty := rolled.filter fun e => e.2.any (· != 0) }

/-- DUTY_BUCKET_ROLL (R96). -/
def execDutyBucketRoll (s : State) : Host.Outcome State Fault Refusal := .next s.dutyRoll

/-! ### Launching responses (R86, R88, R89, R98) -/

/-- A modulator (R86). -/
def State.modulator (s : State) (p : Nat) : Option Modulator := s.dl.mods[p]?

/-- A modulator changed. -/
def State.modMod (s : State) (p : Nat) (f : Modulator → Modulator) : State := { s with dl.mods := lmod s.dl.mods p f }

/-- An item was sent in a window (R95): counted; one whose flag bit 0 is clear is removed, unacknowledged; one sent StageMaxSends times is
abandoned. -/
def State.itemSent (s : State) (seq : Nat) : State :=
  match s.nand.items.find? fun i => i.seq == seq with
  | none => s
  | some i =>
    let n := i.sends + 1
    if ¬bit i.flags 0 then s.dropItem { i with sends := n } 5
    else if s.nat Obj.stageMaxSends ≤ n then s.dropItem { i with sends := n } 3
    else
      { s with nand.items := s.nand.items.map fun (x : Item) =>
        if x.seq == seq then ({ x with sends := n, held := false } : Item) else x }

/-- A response that is not sent: its items are let go, its frame is acknowledged later (R27). -/
def State.dropResponse (s : State) (r : Response) : State :=
  let s := { s with dl.responses := s.dl.responses.filter fun x => x.frame != r.frame }
  (s.holdItems r.items false).owesAck r.tag

/-- Whether a port can send about a frequency (R58, R86): it is enabled and up, the transmission lies in its usable band. DESIGN CHOICE (log
entry 99): one that does not is not sent; a response is counted in ResponsesMissed, a broadcast is skipped. -/
def State.canSend (s : State) (p hz width : Nat) : Bool :=
  let c := s.nat (Obj.centreHz p)
  let h := halfBand (s.nat (Obj.sampleRate p))
  s.iqUp p && s.bitOf Obj.carouselEnable p && Nat.ble (c - h) (hz - width / 2) && Nat.ble (hz + width / 2) (c + h)

/-- Whether a response of a port is due now (R88): handed over, its launch instant reached within 1 µs (R89). -/
def State.respDue (s : State) (p : Nat) (fastOnly : Bool) : Bool :=
  s.dl.responses.any fun r => r.port == p && r.handed && Nat.ble r.launch (s.now + 1000) && !(fastOnly && r.pendant)

/-- Whether a modulator is busy for a response at its launch (R86, R88): it sends, or, for a Pendant response, a fast-path response due at the
same instant starts first. -/
def State.busyFor (s : State) (r : Response) : Bool :=
  (((s.modulator r.port).bind (·.sending)).isSome) || (r.pendant && s.respDue r.port true)

/-! ### Broadcasts (R97, R99 to R103) -/

/-- A BroadcastPlan entry (R100) as its 48 bytes; 16 and on are the load-shed transmissions (R402), by tenant and cell, as a
plan entry of class 4. -/
def State.planEntry (s : State) (n : Nat) : Nat :=
  if n < 16 then s.nat (Obj.broadcastPlan n)
  else
    let c := (n - 16) % 4
    let p := s.nat (Obj.shedPlan c)
    pack [(1, c), (1, 4), (1, byteAt p 0), (1, (n - 16) / 4), (4, bytesAt p 4 4)]

/-- The port of a plan entry. -/
def State.planPort (s : State) (n : Nat) : Nat := byteAt (s.planEntry n) 0

/-- The content class of a plan entry: 1 time, 2 tariff, 3 firmware, 4 load shed. -/
def State.planClass (s : State) (n : Nat) : Nat := byteAt (s.planEntry n) 1

/-- The start of the window of a plan entry in the present period, in TAI seconds (R100): periods are aligned to TAI midnight. -/
def State.windowStart (s : State) (n : Nat) : Nat :=
  let e := s.planEntry n
  s.tai - s.tai % Nat.max 1 (bytesAt e 24 4) + bytesAt e 28 4

/-- The end of that window. -/
def State.windowEnd (s : State) (n : Nat) : Nat := s.windowStart n + bytesAt (s.planEntry n) 32 4

/-- Whether the window of a plan entry is open (R100), half-open. -/
def State.planOpen (s : State) (n : Nat) : Bool := Nat.ble (s.windowStart n) s.tai && Nat.blt s.tai (s.windowEnd n)

/-- Whether a transmission may still start in its window (R88). -/
def State.castOpen (s : State) (c : Cast) : Bool := (c.fin.map fun t => Nat.blt s.tai t).getD true

/-- The frequency a broadcast uses (R97, R100): the entry's, or one of its alternates. -/
def State.castHz (s : State) (c : Cast) : Nat :=
  let e := s.planEntry c.entry
  if c.alt = 0 then bytesAt e 4 4 else bytesAt e (4 + 4 * c.alt) 4

/-- The image that a tariff entry sends (R100, R101): with PlanFlags bit 0 the passive one while it is present, else the active one. -/
def State.castImage (s : State) (n : Nat) : Nat :=
  let e := s.planEntry n
  let c := byteAt e 36
  if bit (bytesAt e 38 2) 0 && s.nat (Obj.calendarPassive c) != 0 then s.nat (Obj.calendarPassive c) else s.nat (Obj.calendarActive c)

/-- Whether a broadcast has what it sends (R99, R101, R102, R165): its tenant's broadcast key for the cell; for a time broadcast a
clock in lock or holdover; for a tariff an image; for firmware a running campaign. -/
def State.planReady (s : State) (n : Nat) : Bool :=
  let e := s.planEntry n
  (tget s.loc.keys.proto (32 * byteAt e 3 + 16 + byteAt e 0)).isSome &&
  match s.planClass n with
  | 1 => Nat.ble s.clock 1
  | 2 => s.castImage n != 0
  | 3 => ((tget s.dl.campaigns (byteAt e 36)).map (·.state)) == some 2
  | 4 => true
  | _ => false

/-- The band a broadcast's transmission lies in. -/
def State.castBand (s : State) (c : Cast) : Option Nat :=
  s.bandAbout (s.castHz c) c.widthHz

/-- Blocks of a campaign's image (R102). -/
def Campaign.blocks (c : Campaign) : Nat := ceilDiv c.header.imageLength (Nat.max 1 c.header.blockSize)

/-- A campaign of which every block was sent and every addressed endpoint reported complete is complete (R102). -/
def State.campaignDone (s : State) (n : Nat) : State :=
  match tget s.dl.campaigns n with
  | none => s
  | some c =>
    if c.state == 2 && Nat.ble c.blocks c.next && c.addressed.all c.complete.contains then
      let done : Campaign := { c with state := 3, changed := s.tai }
      { s with dl.campaigns := tput s.dl.campaigns n done }
    else s

/-- What a campaign sends next (R102, R103): its announcement, then the blocks in order, then those reported missing, each with its
number. -/
def Campaign.nextUp (n : Nat) (c : Campaign) : Option OnAir :=
  let block (k : Nat) : OnAir := .block n k (bytesAt c.image (k * c.header.blockSize) c.header.blockSize)
  if !c.announced then some (.announce n c.header.imageHash)
  else if c.next < c.blocks then some (block c.next)
  else c.missing.head?.map block

/-- A campaign after its next transmission (R102, R103). -/
def Campaign.sentUp (c : Campaign) : Campaign :=
  if !c.announced then { c with announced := true }
  else if c.next < c.blocks then { c with next := c.next + 1, sent := c.sent + 1 }
  else
    match c.missing with
    | [] => c
    | _ :: t => { c with missing := t, sent := c.sent + 1, resends := c.resends + 1 }

/-- One transmission of a campaign has gone out (R102). -/
def State.campaignBlock (s : State) (n : Nat) : State :=
  match tget s.dl.campaigns n with
  | none => s
  | some c => { s with dl.campaigns := tput s.dl.campaigns n c.sentUp }.campaignDone n

/-- Whether a broadcast has something to send now: a firmware entry needs an announcement or a block. -/
def State.hasBlock (s : State) (n : Nat) : Bool :=
  s.planClass n != 3 || ((tget s.dl.campaigns (byteAt (s.planEntry n) 36)).bind (·.nextUp (byteAt (s.planEntry n) 36))).isSome

/-- The TAI in ns at which the first bit after the sync word of a transmission in a mode leaves the pins (R101): of a Pendant one after
32 bits of preamble and 64 of sync word at 600 bit/s (R73, R74). -/
def State.firstBitAt (s : State) (mode : Nat) : Nat :=
  s.now + (if mode = 13 then 160000000 else Config.syncAirNs mode) - Config.modulatorDelayNs

/-- What a broadcast carries (R101 to R103). -/
def State.castContent (s : State) (n : Nat) : OnAir :=
  let e := s.planEntry n
  let subject := byteAt e 36
  match s.planClass n with
  | 1 => .time (s.firstBitAt (byteAt e 2)) (bytesAt (s.nat (Obj.calendarActive subject)) 10 12)
  | 2 => .tariff (s.castImage n)
  | 3 => ((tget s.dl.campaigns subject).bind (·.nextUp subject)).getD .shed
  | _ => .shed

/-- A broadcast starts on a free modulator (R86, R96, R165): refused outside the sub-bands or beyond the budget, which for a load shed is
the full limit (R402). -/
def State.castStart (s : State) (c : Cast) : State :=
  let p := s.planPort c.entry
  match s.castBand c with
  | none => s.bump (Obj.txNoSubband p)
  | some b =>
    let k := s.planClass c.entry
    if !s.dutyOk p b c.airUs (k != 4) then s.bump (Obj.dutyRefused p)
    else
      let what := s.castContent c.entry
      let s := (s.chargeAir p b c.airUs).modMod p fun m => { m with sending := some what }
      let key := 16 * byteAt (s.planEntry c.entry) 3 + p
      let (next, s) := s.countUp ((tget s.dl.castCounters key).getD 0)
      let s := { s with dl.castCounters := tput s.dl.castCounters key next }
      if k = 3 then s.campaignBlock (byteAt (s.planEntry c.entry) 36) else s

/-- A broadcast whose channel is clear or needs no listen (R86, R88): it waits for a busy modulator, and for a response due at the same
instant; it is skipped once its window is over, or where it has nothing to send any more. -/
def State.castLaunch (s : State) (c : Cast) : State :=
  let p := s.planPort c.entry
  match s.modulator p with
  | none => s
  | some m =>
    if !(s.accepting && s.castOpen c && s.planReady c.entry && s.hasBlock c.entry && s.canSend p (s.castHz c) c.widthHz) then s
    else if m.sending.isSome || s.respDue p false then { s with dl.waiting := s.dl.waiting ++ [c] }
    else s.castStart c

/-- The listening time of a broadcast in ns (R97): LbtListenUs and a random addition up to it, drawn from the DRBG. -/
def State.listenSpan (s : State) (b : Nat) : Nat × State :=
  let us := bytesAt (s.band b) 14 2
  let (x, s) := s.draw
  (1000 * (us + x % (us + 1)), s)

/-- A broadcast that is due (R88, R97): it listens first where its sub-band asks for it; it waits while another listens. -/
def State.castDue (s : State) (c : Cast) : State :=
  let p := s.planPort c.entry
  match s.modulator p with
  | none => s
  | some m =>
    match (s.castBand c).filter s.bandLbt with
    | none => s.castLaunch c
    | some b =>
      if m.sending.isSome || m.listen.isSome then { s with dl.waiting := s.dl.waiting ++ [c] }
      else
        let (span, s) := s.listenSpan b
        s.modMod p fun m => { m with listen := some { cast := c, since := s.now, span } }

/-- The transmissions of a plan entry that fell due in its present window (R100). -/
def State.repeatsOf (s : State) (n : Nat) : Nat :=
  match tget s.dl.repeats n with
  | some (w, k) => if w = s.windowStart n then k else 0
  | none => 0

/-- Whether the next transmission of an entry is due in its open window (R100): a time or tariff entry sends Repeats of them, spread evenly,
the k-th at k / Repeats of the window. -/
def State.repeatDue (s : State) (n : Nat) : Bool :=
  let e := s.planEntry n
  let reps := byteAt e 37
  let k := s.repeatsOf n
  s.planClass n == 3 || (Nat.blt k reps && Nat.ble (s.windowStart n * nsPerS + k * (bytesAt e 32 4 * nsPerS) / Nat.max 1 reps) s.now)

/-- BROADCAST_WINDOW (R99 to R102): a transmission of a plan entry falls due. -/
def State.broadcast (s : State) (n us width : Nat) : State :=
  if s.accepting && Nat.blt n 16 && s.planReady n && s.planOpen n && s.repeatDue n && s.hasBlock n then
    let k := s.repeatsOf n + 1
    { s with dl.repeats := tput s.dl.repeats n (s.windowStart n, k) }.castDue
      { entry := n, airUs := us, widthHz := width, alt := 0, fin := some (s.windowEnd n) }
  else s

/-- BROADCAST_WINDOW (R100). -/
def execBroadcastWindow (entry airUs widthHz : Nat) (s : State) : Host.Outcome State Fault Refusal :=
  .next (s.broadcast entry airUs widthHz)

/-- The broadcast that starts first of those that wait for a port (R88, R402): load shed, then time, tariff, firmware. -/
def State.nextCast (s : State) (p : Nat) : Option Cast :=
  let ws := s.dl.waiting.filter fun c => s.planPort c.entry == p && s.castOpen c
  let rank (k : Nat) := ws.find? fun c => s.planClass c.entry == k
  (rank 4).orElse fun _ => (rank 1).orElse fun _ => (rank 2).orElse fun _ => rank 3

/-- A gap on a port (R88): what waits past its window is skipped, and the first of the others is due. -/
def State.gap (s : State) (p : Nat) : State :=
  let s := { s with dl.waiting := s.dl.waiting.filter fun c => !(s.planPort c.entry == p) || s.castOpen c }
  if ((s.modulator p).bind (·.sending)).isSome then s
  else
    match s.nextCast p with
    | none => s
    | some c => { s with dl.waiting := s.dl.waiting.erase c }.castDue c

/-- MODULATOR_TX_END (R86, R88): the modulator is free, and the gap goes to what waits. -/
def State.txEnd (s : State) (p : Nat) : State := (s.modMod p fun m => { m with sending := none }).gap p

/-- MODULATOR_TX_END (R86). -/
def execModulatorTxEnd (port : Nat) (s : State) : Host.Outcome State Fault Refusal := .next (s.txEnd port)

/-! ### Launching responses (R86, R88, R89, R96 to R98) -/

/-- A response abandoned or refused at its launch, counted; what waited for it goes on. -/
def State.refuseLaunch (s : State) (r : Response) (counter : Nat) : State := ((s.dropResponse r).bump counter).gap r.port

/-- A response on air with its items (R86, R92, R96). -/
def State.respond_ (s : State) (r : Response) (b : Nat) : State :=
  let s := { s with dl.responses := s.dl.responses.filter fun x => x.frame != r.frame,
                    dl.ackDue := s.dl.ackDue.filter (· != r.tag) }
  let s := (s.chargeAir r.port b r.airUs).modMod r.port fun m => { m with sending := some (.response r.pendant r.counter) }
  r.items.foldl State.itemSent (s.bump (Obj.responsesSent r.port))

/-- The launch of a response at its launch instant (R86, R88, R89, R96, R97): abandoned at a busy modulator, refused outside the
sub-bands or beyond the budget, in a sub-band with listen-before-talk not before its channel was found clear. -/
def State.launch (s : State) (id : Nat) (pendant : Bool) : State :=
  match s.dl.responses.find? fun r => r.frame == id && r.pendant == pendant with
  | none => s
  | some r =>
    if !(s.accepting && r.handed && Nat.ble r.launch (s.now + 1000)) then s
    else if s.busyFor r || !s.canSend r.port r.centreHz r.widthHz then s.refuseLaunch r (Obj.responsesMissed r.port)
    else
      match s.bandAbout r.centreHz r.widthHz with
      | none => s.refuseLaunch r (Obj.txNoSubband r.port)
      | some b =>
        if s.bandLbt b && !r.listened then s
        else if !s.dutyOk r.port b r.airUs false then s.refuseLaunch r (Obj.dutyRefused r.port)
        else s.respond_ r b

/-- RESPONSE_LAUNCH (R89). -/
def execResponseLaunch (frame : Nat) (s : State) : Host.Outcome State Fault Refusal := .next (s.launch frame false)

/-- PENDANT_RESPONSE_LAUNCH (R98). -/
def execPendantResponseLaunch (frame : Nat) (s : State) : Host.Outcome State Fault Refusal := .next (s.launch frame true)

/-! ### Listen-before-talk (R97) -/

/-- The threshold of a sub-band (R97): I16, in 0.1 dBm. -/
def State.bandThreshold (s : State) (i : Nat) : Int := sgn 2 (bytesAt (s.band i) 12 2)

/-- Whether a response's listen ends now (R89, R97): it is handed over, its launch instant has come, its sub-band asks for it. -/
def State.listens (s : State) (p : Nat) (r : Response) : Bool :=
  r.port == p && r.handed && !r.listened && Nat.ble r.launch (s.now + 1000) &&
  ((s.bandAbout r.centreHz r.widthHz).map s.bandLbt).getD false

/-- The end of a response's listen (R97): a busy channel abandons it. -/
def State.lbtResponse (s : State) (r : Response) (power : Int) : State :=
  match s.bandAbout r.centreHz r.widthHz with
  | none => s
  | some b =>
    if s.bandThreshold b < power then s.refuseLaunch r (Obj.lbtBusy r.port)
    else s.modResponse r.frame fun r => { r with listened := true }

/-- The next alternate frequency of a plan entry after one in use, unused ones passed over (R97, R100). -/
def State.nextAlt (s : State) (c : Cast) : Option Nat :=
  ([1, 2, 3, 4].filter fun k => Nat.blt c.alt k).find? fun k => bytesAt (s.planEntry c.entry) (4 + 4 * k) 4 != 0

/-- The end of a broadcast's listen (R97): clear, it starts; busy, it moves to its next alternate where the sub-band allows, or
waits for the next gap, which goes to another that waits. -/
def State.lbtCast (s : State) (p : Nat) (c : Cast) (power : Int) : State :=
  let s := s.modMod p fun m => { m with listen := none }
  match s.castBand c with
  | none => s.castLaunch c
  | some b =>
    if power ≤ s.bandThreshold b then s.castLaunch c
    else
      match (s.nextAlt c).filter fun _ => bit (byteAt (s.band b) 11) 1 && Nat.blt c.entry 16 with
      | some k => s.castDue { c with alt := k }
      | none =>
        let s := s.gap p
        { s with dl.waiting := s.dl.waiting ++ [{ c with alt := 0 }] }

/-- LBT_LISTEN_END (R97): the listen of a response whose launch is due comes first; a broadcast's ends when its listening time is over. -/
def State.listenEnd (s : State) (p : Nat) (power : Int) : State :=
  match s.dl.responses.find? (s.listens p) with
  | some r => s.lbtResponse r power
  | none =>
    match ((s.modulator p).bind (·.listen)).filter fun l => Nat.ble (l.since + l.span) s.now with
    | some l => s.lbtCast p l.cast power
    | none => s

/-- LBT_LISTEN_END (R97). -/
def execLbtListenEnd (port : Nat) (power : Int) (s : State) : Host.Outcome State Fault Refusal := .next (s.listenEnd port power)

/-! ### Campaigns (R102, R103) -/

/-- The number of a campaign argument's field check (R103). -/
def campaignArgOk (a : CampaignArg) : Bool :=
  Nat.ble a.campaign 3 && Nat.ble a.tenant 7 && Nat.ble 32 a.blockSize && Nat.ble a.blockSize 192 &&
  Nat.ble 1 a.imageLength && Nat.ble a.imageLength 4194304 && Nat.blt a.startTai a.endTai && Nat.blt a.cellMask 65536

/-- A campaign of which nothing was sent. -/
def State.newCampaign (s : State) (a : CampaignArg) (state image : Nat) : Campaign :=
  { header := a, image, announced := false, state, sent := 0, resends := 0, next := 0, missing := [], addressed := [],
    complete := [], changed := s.tai }

/-- A campaign refused (R103): CampaignStatus shows state 5, in place of that of a loaded or ended campaign of the number, but not where the
campaign is running. DESIGN CHOICE (log entry 68). -/
def State.campaignRefused (s : State) (a : CampaignArg) : State :=
  if 3 < a.campaign || ((tget s.dl.campaigns a.campaign).map (·.state)) == some 2 then s
  else { s with dl.campaigns := tput s.dl.campaigns a.campaign (s.newCampaign a 5 0) }

/-- CampaignStart (R103), its image with it: reserved CampaignFlags are ignored (R13). -/
def State.campaignStart (s : State) (r : CapReq) (a : CampaignArg) (image : Nat) : State :=
  s.capExec r Obj.campaignStart fun _ s =>
    if !campaignArgOk a then (capErr 5 0, s.campaignRefused a)
    else if ((tget s.dl.campaigns a.campaign).map (·.state)) == some 2 && !bit a.flags 0 then (capErr 6 0, s)
    else if crcOf a.imageLength image ≠ a.imageCrc then (capErr 5 28, s.campaignRefused a)
    else
      (capOk, { s with dl.campaigns := tput s.dl.campaigns a.campaign (s.newCampaign a 1 image) })

/-- CAMPAIGN_START (R103). -/
def execCampaignStart (r : CapReq) (a : CampaignArg) (image : Nat) (s : State) : Host.Outcome State Fault Refusal :=
  .next (s.campaignStart r a image)

/-- Whether a campaign addresses an endpoint (R103). -/
def campaignAddresses (a : CampaignArg) (r : Record) : Bool :=
  let m := r.naddr
  r.live && r.tenant == a.tenant && Nat.ble r.cell 15 && bit a.cellMask r.cell &&
  (a.manufacturer == 0 || (r.ntype == 2 && bytesAt m 0 2 == a.manufacturer)) &&
  (a.version == 0xFF || (r.ntype == 2 && byteAt m 6 == a.version)) &&
  (a.deviceType == 0xFF || (r.ntype == 2 && byteAt m 7 == a.deviceType))

/-- CAMPAIGN_BEGIN (R102, R103): at StartTai the campaign runs, its endpoints fixed. -/
def State.campaignBegin (s : State) (n : Nat) : State :=
  match tget s.dl.campaigns n with
  | none => s
  | some c =>
    if s.serving && c.state == 1 && Nat.ble c.header.startTai s.tai then
      let ends := (s.nand.recs.filter fun e => campaignAddresses c.header e.2).map (·.1)
      let c' : Campaign := { c with state := 2, addressed := ends, changed := s.tai }
      { s with dl.campaigns := tput s.dl.campaigns n c' }
    else s

/-- CAMPAIGN_BEGIN (R102). -/
def execCampaignBegin (campaign : Nat) (s : State) : Host.Outcome State Fault Refusal := .next (s.campaignBegin campaign)

/-- CAMPAIGN_END (R102, R103): at EndTai the campaign ends, complete where every endpoint it addressed is. -/
def State.campaignEnd (s : State) (n : Nat) : State :=
  match tget s.dl.campaigns n with
  | none => s
  | some c =>
    if s.serving && (c.state == 1 || c.state == 2) && Nat.ble c.header.endTai s.tai then
      let done := c.state == 2 && c.addressed.all c.complete.contains
      let c' : Campaign := { c with state := if done then 3 else 4, changed := s.tai }
      { s with dl.campaigns := tput s.dl.campaigns n c' }
    else s

/-- CAMPAIGN_END (R102). -/
def execCampaignEnd (campaign : Nat) (s : State) : Host.Outcome State Fault Refusal := .next (s.campaignEnd campaign)

/-- An endpoint reports a block missing (R102). -/
def State.blockMissing (s : State) (n tag block : Nat) : State :=
  match tget s.dl.campaigns n with
  | none => s
  | some c =>
    if c.state == 2 && c.addressed.contains tag && Nat.blt block c.blocks && !c.missing.contains block then
      let c' : Campaign := { c with missing := c.missing ++ [block] }
      { s with dl.campaigns := tput s.dl.campaigns n c' }
    else s

/-- An endpoint reports its image complete (R102). -/
def State.endpointComplete (s : State) (n tag : Nat) : State :=
  match tget s.dl.campaigns n with
  | none => s
  | some c =>
    if c.state == 2 && c.addressed.contains tag && !c.complete.contains tag then
      let c' : Campaign := { c with complete := c.complete ++ [tag] }
      { s with dl.campaigns := tput s.dl.campaigns n c' }.campaignDone n
    else s

/-- CampaignStatus (R103) as its 32 bytes. -/
def State.campaignStatus (s : State) (n : Nat) : Nat :=
  match tget s.dl.campaigns n with
  | none => 0
  | some c => pack [(1, c.state), (3, 0), (4, c.blocks), (4, c.sent), (4, c.resends), (4, c.addressed.length),
                    (4, c.complete.length), (6, c.changed), (2, 0)]

end Sys2Proof.Machine
end

