-- ==== Sys2Proof/Machine/Tightrope.lean ====
section
/-! DEFINITION. The power-line lanes (R105 to R131, R138, R141, R142): settings, the medium and contention, driver, zero crossings,
noise map, reception, link quality, phase identification. -/

namespace Sys2Proof.Machine

/-- The address of the part itself in the link-quality table (R138). -/
abbrev selfShort : Nat := 0xFFFE

/-- Whether Tightrope runs (R32, R417). -/
def State.tightropeOn (s : State) : Bool := s.serving && s.pw.tightrope

/-- Whether a lane is enabled (R128). -/
def State.laneOn (s : State) (l : Nat) : Bool := s.tightropeOn && Nat.ble l 2 && s.bitOf Obj.tightropeEnable l

/-- A lane. -/
def State.lane (s : State) (l : Nat) : Option Lane := s.lanes[l]?

/-- A lane changed. -/
def State.modLane (s : State) (l : Nat) (f : Lane → Lane) : State := { s with lanes := lmod s.lanes l f }

/-- A lane that is enabled, with its state. -/
def State.onLane (s : State) (l : Nat) (f : Lane → State) : State :=
  match s.lane l with
  | none => s
  | some x => if s.laneOn l then f x else s

/-! ### Settings in force (R128, R143) -/

/-- A lane's settings as its objects hold them. -/
def State.cfgNow (s : State) (l : Nat) : LaneCfg :=
  { profile := s.nat (Obj.laneProfile l), standard := s.nat (Obj.laneStandard l), chain := s.flag (Obj.chainEnable l),
    mask := s.nat (Obj.toneMask l) }

/-- A lane's settings in force (R128): a change takes effect at the next half-cycle. -/
def State.laneCfg (s : State) (l : Nat) (x : Lane) : LaneCfg := x.held.getD (s.cfgNow l)

/-- The timing objects as they stand (R143). -/
def State.timingNow (s : State) : LaneTiming :=
  { slotUs := s.nat Obj.slotUs, ifsUs := s.nat Obj.chainIfsUs, p0 := s.nat Obj.p0Slots, p1 := s.nat Obj.p1Slots,
    p2 := s.nat Obj.p2Slots, ackGapUs := s.nat Obj.chainAckGapUs }

/-- A lane's timing in force (R143): a write takes effect at its next idle instant. -/
def State.laneTiming (s : State) (x : Lane) : LaneTiming := x.timing.getD s.timingNow

/-- The active carriers of a lane, as many as they are (R110, R115). -/
def LaneCfg.carriers (c : LaneCfg) : Nat := (activeCarriers c.profile c.mask).length

/-! ### The driver (R107, R126) -/

/-- The mode of a degraded retry (R126): Chain in BPSK; a standard mode by the code of R127, one step more robust, coherent as before. -/
def robustMode (kind modulation : Nat) : Nat :=
  if kind = 0 then 0
  else
    match modulation % 8 with
    | 4 => 3 + modulation / 8 * 8
    | 3 => 2 + modulation / 8 * 8
    | 2 => 0
    | _ => 1

/-- The class in which a frame contends (R136). -/
def plcClass (t : PlcTx) : Nat :=
  if t.kind = 0 then (if t.prio = 0 then 1 else if t.prio = 1 then 2 else 3)
  else if t.prio = 1 then 2 else 3

/-- A frame of the part before its first attempt. -/
def freshOut (t : PlcTx) (modulation atten : Nat) : PlcOut :=
  { t, retries := 0, penalties := [], route := none, modulation, force := none, degraded := false, atten, direct := true, startSlot := 0,
    header := 0, mpdu := [], crc := 0, spans := [], endNs := none }

/-- A frame put back at the head of its class (R135, R136). -/
def requeue (o : PlcOut) (q : List PlcOut) : List PlcOut :=
  (q.filter fun x => Nat.blt (plcClass x.t) (plcClass o.t)) ++ [o] ++
  (q.filter fun x => Nat.ble (plcClass o.t) (plcClass x.t))

/-! ### The medium and contention (R129, R131, R136) -/

/-- Whether a lane's medium is idle (R129). -/
def Lane.idle (x : Lane) : Bool := x.bound == 0 && !x.power && x.virtual.isNone && x.onAir.isNone

/-- The slots of the window of a Chain frame (R131). -/
def LaneTiming.window (t : LaneTiming) (prio : Nat) : Nat := if prio = 0 then t.p0 else if prio = 1 then t.p1 else t.p2

/-- When slot n of a Chain frame's window starts, from the idle instant, in ns (R131). -/
def LaneTiming.slotNs (t : LaneTiming) (prio n : Nat) : Nat :=
  let before := if prio = 0 then 0 else if prio = 1 then t.p0 else t.p0 + t.p1
  1000 * (t.ifsUs + (before + n) * t.slotUs)

/-- A contending Chain frame draws its slot, uniformly by the DRBG (R131); the windows of a frame handed to a lane that is idle run from
there (R133). -/
def State.drawSlot (s : State) (l : Nat) : State :=
  match s.lane l with
  | none => s
  | some x =>
    match x.contending with
    | none => s
    | some o =>
      if o.t.kind ≠ 0 then s
      else
        let (d, s) := s.draw
        let t := s.laneTiming x
        let at_ := s.now + t.slotNs o.t.prio (d % Nat.max 1 (t.window o.t.prio))
        s.modLane l fun y => { y with drawn := some at_ }

/-- A contending Chain frame whose slot has not started is deferred (R131). -/
def State.deferChain (s : State) (l : Nat) : State :=
  match (s.lane l).bind (·.drawn) with
  | none => s
  | some _ => (s.modLane l fun x => { x with drawn := none }).bump (Obj.contentionDeferrals l)

/-- The first frame of a lane's queue by class (R136); Chain frames wait while Chain mode does not run (R110). -/
def firstClass (chain : Bool) (q : List PlcOut) : Option PlcOut :=
  let rank (c : Nat) := q.find? fun o => plcClass o.t == c && (chain || o.t.kind != 0)
  (rank 1).orElse fun _ => (rank 2).orElse fun _ => rank 3

/-- The lane's one contending frame is selected (R136): a frame of a higher class that is queued takes the place of a lower one,
which returns to the head of its class. On an idle medium it draws at once. -/
def State.select (s : State) (l : Nat) : State :=
  match s.lane l with
  | none => s
  | some x =>
    match firstClass (s.laneCfg l x).chain x.queue with
    | none => s
    | some o =>
      let take (q : List PlcOut) : State :=
        let s := s.modLane l fun x => { x with contending := some o, queue := q, drawn := none }
        if x.idle then s.drawSlot l else s
      match x.contending with
      | none => take (x.queue.erase o)
      | some c => if plcClass o.t < plcClass c.t then take (requeue c (x.queue.erase o)) else s

/-- The idle instant (R129, R131, R143): timing that waits takes effect, a contending Chain frame draws its slot. -/
def State.idleInstant (s : State) (l : Nat) : State :=
  let now := s.now
  let s := s.modLane l fun x => { x with idleAt := now, timing := none }
  if ((s.lane l).bind (·.contending)).isNone then s.select l else s.drawSlot l

/-- What a command leaves of a lane's medium (R129, R131): one that became idle has its idle instant, one that became busy defers. -/
def State.settle (s : State) (l : Nat) (was : Bool) : State :=
  match s.lane l with
  | none => s
  | some y => if y.idle && !was then s.idleInstant l else if was && !y.idle then s.deferChain l else s

/-- A command on an enabled lane, its medium settled after it. -/
def State.onMedium (s : State) (l : Nat) (f : Lane → State) : State := s.onLane l fun x => (f x).settle l x.idle

/-- A frame of the part is abandoned (R135): a class 2 item it carries is reported to the gate, another is let go. -/
def State.abandonPlc (s : State) (o : PlcOut) : State :=
  match s.nand.items.find? fun i => i.seq == o.t.stage && o.t.stage != 0 with
  | none => s
  | some i => if i.cls = 2 then s.dropItem i 3 else s.holdItems [i.seq] false

/-- The retry of a degraded frame (R126, R135): more attenuation, a more robust mode; the limit of a standard frame is its
standard's. -/
def State.degradedRetry (s : State) (l : Nat) (o : PlcOut) : State :=
  let (x, s) := if o.t.kind = 0 then (s.nat Obj.chainRetryLimit, s) else s.draw
  if x ≤ o.retries then (s.bump (Obj.retriesExhausted l)).abandonPlc o
  else
    let m := robustMode o.t.kind o.modulation
    let atten := Nat.min (s.nat (Obj.txAttenDb l) + 3) (s.nat (Obj.txAttenMaxDb l))
    let o : PlcOut := { o with retries := o.retries + 1, degraded := true, force := some m, modulation := m, atten := atten }
    s.modLane l fun x => { x with queue := requeue o x.queue }

/-- A lane's transmission ends at an instant (R107): the driver stays enabled until `tail`. -/
def Lane.txOff (x : Lane) (e tail : Nat) : Lane :=
  match x.onAir with
  | none => x
  | some o =>
    let upTo (p : Nat × Nat) : Option (Nat × Nat) :=
      if p.1 < e then some (p.1, if o.endNs.isNone then e else Nat.min p.2 e) else none
    { x with onAir := none, tail := tail, sent := x.sent ++ o.spans.filterMap upTo }

/-- A transmission of a lane is aborted: the driver goes off 10 µs after its last sample (R107). -/
def State.stopTx (s : State) (l : Nat) : State :=
  let now := s.now
  s.modLane l fun x => x.txOff now (now + 10000)

/-- Whether an instant lies in a span that the driver spans by DrvLeadUs before and 10 µs after (R107). -/
def driverSpan (lead now : Nat) (p : Nat × Nat) : Bool := Nat.ble p.1 (now + lead) && Nat.ble now (p.2 + 10000)

/-- PLC_x_DRVEN (R107): raised DrvLeadUs before the first sample of each transmission and each Chain burst, lowered 10 µs after the
last; low while the thermal flag is asserted. A Chain frame's slot and an acknowledgement's instant are known before. -/
def State.driving (s : State) (l : Nat) : Bool :=
  match s.lane l with
  | none => false
  | some x =>
    let now := s.now
    let lead := 1000 * s.nat (Obj.drvLeadUs l)
    let soon (t : Nat) : Bool := Nat.ble t (now + lead) && Nat.ble now t
    let air := match x.onAir with
      | none => false
      | some o => o.endNs.isNone || o.spans.any (driverSpan lead now)
    s.laneOn l && !(s.pins.therm.getD l false) && x.hold.isNone &&
    (air || Nat.ble now x.tail || (x.bound == 0 && ((x.drawn.map soon).getD false || (x.ackFor.map fun a => soon a.2.2).getD false)))

/-- THERMAL_TRIP (R107, R126): the driver goes off in hardware; a running lane counts and logs the trip, and retries the frame
it aborted. -/
def State.thermalTrip (s : State) (l : Nat) : State :=
  if 2 < l then s
  else
    let s := { s with pins.therm := s.pins.therm.set l true }
    match s.lane l with
    | none => s
    | some x =>
      let now := s.now
      let s := s.modLane l fun x => { x.txOff now 0 with hold := some none, tail := 0 }
      if !s.laneOn l then s
      else
        let s := (s.bump (Obj.thermalTrips l)).logOp 0x3004 0xFF (pack [(1, l), (1, 1)])
        let s := match x.onAir with
          | none => s
          | some o => if o.t.kind = 2 then s else s.degradedRetry l o
        s.settle l x.idle

/-- THERMAL_TRIP (R107). -/
def execThermalTrip (lane : Nat) (s : State) : Host.Outcome State Fault Refusal := .next (s.thermalTrip lane)

/-- PLC_THERM_N_RELEASE (R107): the holdoff runs from here. -/
def State.thermRelease (s : State) (l : Nat) : State :=
  if 2 < l then s
  else
    let now := s.now
    { s with pins.therm := s.pins.therm.set l false }.modLane l fun x =>
      { x with hold := x.hold.map fun _ => some now }

/-- PLC_THERM_N_RELEASE (R107). -/
def execPlcThermNRelease (lane : Nat) (s : State) : Host.Outcome State Fault Refusal := .next (s.thermRelease lane)

/-- THERMAL_HOLDOFF_END (R107). -/
def State.holdoffEnd (s : State) (l : Nat) : State :=
  match (s.lane l).bind (·.hold) with
  | some (some t) =>
    if s.awake && Nat.ble (t + s.nat (Obj.thermalHoldoffMs l) * 1000000) s.now then s.modLane l fun x => { x with hold := none } else s
  | _ => s

/-- THERMAL_HOLDOFF_END (R107). -/
def execThermalHoldoffEnd (lane : Nat) (s : State) : Host.Outcome State Fault Refusal := .next (s.holdoffEnd lane)

/-! ### Zero crossings and the noise map (R122, R123) -/

/-- The mean of the half-periods kept (R122), in ns. -/
def Zc.half (z : Zc) : Nat := z.halves.sum / Nat.max 1 z.halves.length

/-- The predicted edge (R122). -/
def Zc.predicted (z : Zc) : Nat := z.last + z.half

/-- Tracking while it is lost (R122): it locks at two edges 7.1 to 12.5 ms apart. -/
def Zc.acquire (z : Zc) (t : Nat) (rising : Bool) : Zc :=
  let d := t - z.last
  let rise := if rising then t else z.rise
  if z.last ≠ 0 ∧ 7100000 ≤ d ∧ d ≤ 12500000 then { z with last := t, halves := [d], filled := 0, locked := true, rise }
  else { z with last := t, rise }

/-- Tracking with an accepted edge (R122). -/
def Zc.accept (z : Zc) (t : Nat) (rising : Bool) : Zc :=
  { z with last := t, halves := ((t - z.last) :: z.halves).take 16, filled := 0, rise := if rising then t else z.rise }

/-- ZC_EDGE (R122): stamped, ZcDelayUs deducted; more than 1 ms from the prediction it is ignored. -/
def State.zcEdge (s : State) (l at_ : Nat) (rising : Bool) : State :=
  match s.lane l with
  | none => s
  | some x =>
    if !s.tightropeOn then s
    else
      let t := at_ - 1000 * s.nat (Obj.zcDelayUs l)
      let s := s.modLane l fun x => { x with zc.stamp := s.shortAt at_ }
      if x.zc.locked then
        let p := x.zc.predicted
        if 1000000 < Nat.max (t - p) (p - t) then s.bump (Obj.zcIgnored l)
        else s.modLane l fun x => { x with zc := x.zc.accept t rising }
      else
        s.modLane l fun x =>
          let z := x.zc.acquire t rising
          { x with zc := z, frozen := x.frozen && !z.locked }

/-- ZC_EDGE (R122). -/
def execZcEdge (lane atNs : Nat) (rising : Bool) (s : State) : Host.Outcome State Fault Refusal :=
  .next (s.zcEdge lane atNs rising)

/-- ZC_MISSING_EDGE (R122): taken at the prediction; after eight in a row tracking is lost and the noise map frozen. -/
def State.zcMissing (s : State) (l : Nat) : State :=
  match s.lane l with
  | none => s
  | some x =>
    if !(s.tightropeOn && x.zc.locked && Nat.ble x.zc.predicted s.now) then s
    else if x.zc.filled + 1 < 8 then
      s.modLane l fun x => { x with zc := { x.zc with last := x.zc.predicted, filled := x.zc.filled + 1 } }
    else
      let s := s.modLane l fun x =>
        { x with zc := { x.zc with last := 0, halves := [], filled := 0, locked := false }, frozen := true }
      (s.bump (Obj.zcLost l)).logOp 0x3004 0xFF (pack [(1, l), (1, 2)])

/-- ZC_MISSING_EDGE (R122). -/
def execZcMissingEdge (lane : Nat) (s : State) : Host.Outcome State Fault Refusal := .next (s.zcMissing lane)

/-- A slot's value with one more measurement (R123): averaged in linear power with time constant tau. -/
def noiseStep (tau p m : Nat) : Nat := ((p : Int) + ((m : Int) - p) / (Nat.max 1 tau : Nat)).toNat

/-- The gain that puts an RMS level (in dB of full scale at 0 dB gain) 12 dB below full scale (R109): nearest step of 3 dB. -/
def autoGain (rms : Int) : Nat := (clamp 0 45 (3 * roundDiv (-12 - rms) 3)).toNat

/-- The half-period of a lane's slot grid (R120, R123): the tracked one, else the nominal one of MainsHz, in ns. -/
def State.halfPeriod (s : State) (x : Lane) : Nat :=
  if x.zc.locked then x.zc.half else if s.nat Obj.mainsHz = 60 then 8333333 else 10000000

/-- The slot in which an instant lies (R123). -/
def State.slotAt (s : State) (x : Lane) (t : Nat) : Nat :=
  let h := Nat.max 1 (s.halfPeriod x)
  64 * ((t - x.zc.last) % h) / h

/-- Whether the lane transmits in the interval from a to b (R123). -/
def Lane.sendsIn (x : Lane) (a b : Nat) : Bool :=
  let hits (p : Nat × Nat) : Bool := Nat.blt p.1 b && Nat.blt a p.2
  x.sent.any hits ||
  match x.onAir with
  | none => false
  | some o => o.spans.any fun p => if o.endNs.isNone then Nat.blt p.1 b else hits p

/-- HALF_CYCLE (R109, R123, R128): of the half-cycle that ended at the last edge, each slot in which the lane did not transmit is averaged
into the map, unless it is frozen; an idle lane sets its gain; settings that wait take effect. -/
def State.halfCycle (s : State) (l : Nat) (power : List Nat) (rms : Int) : State :=
  s.onLane l fun x =>
    let tau := s.nat (Obj.noiseMapTau l)
    let h := s.halfPeriod x
    let start := x.zc.last - h
    let noise :=
      if x.frozen || !x.zc.locked then x.noise
      else (List.range 64).map fun i =>
        let p := x.noise.getD i 0
        match power[i]? with
        | some m => if x.sendsIn (start + i * h / 64) (start + (i + 1) * h / 64) then p else noiseStep tau p m
        | none => p
    let fixed := s.nat (Obj.rxGainFixedDb l)
    let gain := if fixed ≠ 0xFF then fixed else if x.bound = 0 ∧ x.onAir.isNone then autoGain rms else x.gain
    (s.modLane l fun x =>
      { x with noise := noise, gain := gain, held := none, sent := x.sent.filter fun p => Nat.blt x.zc.last p.2 }).select l

/-- HALF_CYCLE (R123). -/
def execHalfCycle (lane : Nat) (power : List Nat) (rmsDb : Int) (s : State) : Host.Outcome State Fault Refusal :=
  .next (s.halfCycle lane power rmsDb)

/-- 100·log10 of a power in 1/65,536 µV² (R123), floored; 0 below 1 µV². -/
def dbuv (p : Nat) : Nat :=
  if p < 65536 then 0
  else
    let x := p ^ 100 / 65536 ^ 100
    (List.range 12).foldl (fun (n : Nat) (i : Nat) =>
      let m := n + 2 ^ (11 - i)
      if Nat.ble (10 ^ m) x then m else n) 0

/-- NoiseMap of a lane as its 128 bytes (R123). -/
def State.noiseMap (s : State) (l : Nat) : Nat :=
  let n := ((s.lane l).map (·.noise)).getD []
  pack ((List.range 64).map fun i => (2, dbuv (n.getD i 0)))

/-! ### Reception (R113, R114, R121, R124, R129, R130) -/

/-- A lane bound to nothing. -/
def Lane.release (x : Lane) : Lane := { x with bound := 0, header := none, bursts := 0, missed := 0, soft := [], erased := 0 }

/-- The Chain frames whose acknowledgement a preamble at an instant may begin (R135). -/
def Lane.markAwaited (x : Lane) (gapUs now : Nat) : Lane :=
  { x with awaiting := x.awaiting.map fun a =>
      ({ a with seen := a.seen || Nat.ble now (a.o.endNs.getD 0 + 1000 * gapUs) } : Await) }

/-- What a preamble began is no acknowledgement after all (R135). -/
def Lane.unmarkAwaited (x : Lane) : Lane := { x with awaiting := x.awaiting.map fun a => ({ a with seen := false } : Await) }

/-- PLC_PREAMBLE_DETECTION (R110, R121, R129): a lane that neither transmits nor is bound becomes bound. -/
def State.preamble (s : State) (l : Nat) (chain : Bool) : State :=
  s.onMedium l fun x =>
    if x.onAir.isSome || x.bound != 0 || (chain && !(s.laneCfg l x).chain) then s
    else
      let t := s.laneTiming x
      let now := s.now
      s.modLane l fun x =>
        let x := if chain then x.markAwaited (t.ackGapUs + t.slotUs) now else x
        { x.release with bound := if chain then 2 else 1 }

/-- PLC_PREAMBLE_DETECTION (R121). -/
def execPlcPreambleDetection (lane : Nat) (chain : Bool) (s : State) : Host.Outcome State Fault Refusal :=
  .next (s.preamble lane chain)

/-- CHAIN_HEADER_DECODE (R113, R114, R121, R130, R134): the header in the soft values of its bits, its sync instant given; a bad one
releases the lane; an acknowledgement ends with its header; a data frame's header sets the virtual busy time. -/
def State.chainHeader (s : State) (l sync : Nat) (soft : List Int) : State :=
  s.onMedium l fun x =>
    if x.bound ≠ 2 then s
    else
      let w := headerDecode soft
      let f := chainFields w
      let c := s.laneCfg l x
      if !headerOk w then (s.modLane l fun x => x.unmarkAwaited.release).bump (Obj.plcCrcFail l)
      else if f.burstPeriodUs = 0 then s.modLane l fun x => { x with header := some w }
      else
        let e := chainEndNs c.profile c.carriers sync f
        s.modLane l fun x =>
          { x.unmarkAwaited with bound := 3, header := some w, syncNs := sync, virtual := some (Nat.max (x.virtual.getD 0) e) }

/-- CHAIN_HEADER_DECODE (R113). -/
def execChainHeaderDecode (lane syncNs : Nat) (soft : List Int) (s : State) : Host.Outcome State Fault Refusal :=
  .next (s.chainHeader lane syncNs soft)

/-- The bursts that a header announces on a lane (R118). -/
def LaneCfg.announced (c : LaneCfg) (f : ChainFields) : Nat :=
  frameBursts (dataCarriers c.carriers) (planes f.modulation) (f.blocksMinusOne + 1)

/-- The soft values of a received symbol with its erasures, and how many of its carriers are erased (R124): all where too much of it is
blanked, else those whose noise stands out of the map's level. -/
def eraseSymbol (share margin level D m blankedSamples : Nat) (y : BurstSymbol) : List Int × Nat :=
  if erasedWhole share blankedSamples y.samples.length then (List.replicate (D * m) 0, D)
  else
    let bad := (List.range D).map fun d => exceedsDb margin (y.noise.getD d 0) level
    ((List.range (D * m)).map fun i => if bad.getD (i / m) false then 0 else y.soft.getD i 0, (bad.filter id).length)

/-- The impulses of a burst's samples after those before it, and the window of the running RMS after (R124): blanked samples by symbol. -/
def burstImpulses (factor : Nat) (window before : List Int) (syms : List BurstSymbol) : List Nat × List Int :=
  let (hits, w) := impulses factor window (before ++ syms.flatMap (·.samples))
  let b := (blanked hits).drop before.length
  ((syms.foldl (fun (a : List Nat × List Bool) y =>
    (a.1 ++ [((a.2.take y.samples.length).filter id).length], a.2.drop y.samples.length)) ([], b)).1, w)

/-- CHAIN_BURST (R121, R124): the samples received since the last burst and the four symbols of this one; impulses blanked, symbols and
carriers erased, the soft values kept; two bursts in a row without pilots release the lane. -/
def State.chainBurst (s : State) (l : Nat) (pilots : Bool) (before : List Int) (syms : List BurstSymbol) : State :=
  s.onMedium l fun x =>
    match x.header with
    | none => s
    | some w =>
      let c := s.laneCfg l x
      let f := chainFields w
      if x.bound ≠ 3 ∨ c.announced f ≤ x.bursts then s
      else if !pilots && Nat.ble 1 x.missed then (s.modLane l Lane.release).bump (Obj.plcCrcFail l)
      else
        let (counts, window) := burstImpulses (s.nat (Obj.impulseFactorDeci l)) x.window before syms
        let D := dataCarriers c.carriers
        let at_ := burstStart (x.syncNs + headerNs c.profile c.carriers) f x.bursts
        let level (i : Nat) := x.noise.getD (s.slotAt x (at_ + i * (10 * symbol10ns c.profile))) 0
        let out := (List.range syms.length).map fun i =>
          eraseSymbol (s.nat (Obj.symbolEraseShare l)) (s.nat (Obj.carrierEraseMarginDb l)) (level i) D (planes f.modulation)
            (counts.getD i 0) (syms.getD i { samples := [], noise := [], soft := [] })
        let whole := (out.filter fun o => o.2 == D).length
        (s.modLane l fun x =>
          { x with bursts := x.bursts + 1, missed := if pilots then 0 else x.missed + 1, window := window,
                   soft := x.soft ++ out.map (·.1), erased := x.erased + (out.map (·.2)).sum }).bumpBy (Obj.erasedSymbols l) whole

/-- CHAIN_BURST (R121). -/
def execChainBurst (lane : Nat) (pilots : Bool) (before : List Int) (symbols : List BurstSymbol) (s : State) :
    Host.Outcome State Fault Refusal := .next (s.chainBurst lane pilots before symbols)

/-! ### The link-quality table (R138) -/

/-- The oldest of a table's entries removed (R138). -/
def dropOldest (ls : List Link) : List Link :=
  match ls with
  | [] => []
  | a :: t =>
    let o := t.foldl (fun (m : Link) (e : Link) => if e.at_ < m.at_ then e else m) a
    ls.erase o

/-- A link refreshed with a sample (R138); it goes where Q reaches 0. -/
def refreshLink (now src dst q : Nat) (ls : List Link) : List Link :=
  if ls.any fun e => e.src == src && e.dst == dst then
    (ls.map fun (e : Link) =>
      if e.src == src && e.dst == dst then
        ({ e with q := ((e.q : Int) + ((q : Int) - e.q) / 4).toNat, at_ := now, aged := now } : Link)
      else e).filter (·.q != 0)
  else if q = 0 then ls
  else
    let new : Link := { src, dst, q, at_ := now, aged := now }
    (if 131072 ≤ ls.length then dropOldest ls else ls) ++ [new]

/-- What a decoded frame says of links (R138): the last sender's to the part, and each hop with a quality. -/
def State.refreshLinks (s : State) (l q sender : Nat) (hops : List (Nat × Nat × Nat)) : State :=
  let now := s.tai
  s.modLane l fun x =>
    { x with links := hops.foldl (fun (ls : List Link) (h : Nat × Nat × Nat) =>
      if h.2.2 = 0 then ls else refreshLink now h.1 h.2.1 h.2.2 ls) (refreshLink now sender selfShort q x.links) }

/-- A link loses 8 for each whole hour without a refresh (R138), floored at 0. -/
def Link.age (now : Nat) (e : Link) : Link :=
  let hours := (now - e.aged) / 3600
  { e with q := e.q - 8 * hours, aged := e.aged + 3600 * hours }

/-- LQT_AGEING (R138): an entry not refreshed for a whole hour loses 8; it goes at 0 or beyond LqtMaxAgeH. -/
def State.lqtAgeing (s : State) : State :=
  if !s.tightropeOn then s
  else
    let now := s.tai
    let max := 3600 * s.nat Obj.lqtMaxAgeH
    { s with lanes := s.lanes.map fun (x : Lane) =>
      ({ x with links := (x.links.map (Link.age now)).filter fun e => e.q != 0 && Nat.ble now (e.at_ + max) } : Lane) }

/-- LQT_AGEING (R138). -/
def execLqtAgeing (s : State) : Host.Outcome State Fault Refusal := .next s.lqtAgeing

/-- A link in six bytes: from, to, quality, reserved. -/
def Link.pack (e : Link) : Nat := Machine.pack [(2, e.src), (2, e.dst), (1, e.q), (1, 0)]

/-- A link put into a list in ascending order of (from, to). -/
def insertLink (e : Link) : List Link → List Link
  | [] => [e]
  | x :: t => if x.src < e.src ∨ (x.src = e.src ∧ x.dst ≤ e.dst) then x :: insertLink e t else e :: x :: t

/-- Links in ascending order of (from, to) (R139). -/
def sortLinks (ls : List Link) : List Link := ls.foldl (fun l e => insertLink e l) []

/-- LINK_QUALITY_READ (R143). -/
def State.linkQualityRead (s : State) (r : CapReq) (l short : Nat) : State :=
  s.capExec r Obj.linkQualityRead fun _ s =>
    match s.lane l with
    | none => (capErr 5 0, s)
    | some x =>
      let ls := sortLinks (x.links.filter fun e => e.src == short || e.dst == short)
      (capVal (6 * ls.length) (pack (ls.map fun e => (6, e.pack))), s)

/-- LINK_QUALITY_READ (R143). -/
def execLinkQualityRead (r : CapReq) (lane short : Nat) (s : State) : Host.Outcome State Fault Refusal :=
  .next (s.linkQualityRead r lane short)

/-! ### Phase identification (R141, R142) -/

/-- A time difference mapped into [−T/2, T/2) (R141). -/
def foldHalf (d : Int) (T : Nat) : Int := (d + (T / 2 : Nat)) % (T : Int) - (T / 2 : Nat)

/-- The candidates of an observation (R141): phase and error, for each locked lane, normal polarity before inverted. -/
def State.phaseCandidates (s : State) (sync off : Nat) : List (Nat × Int) :=
  (List.range 3).flatMap fun i =>
    match s.lane i with
    | none => []
    | some x =>
      let T := 2 * x.zc.half
      if !x.zc.locked || T == 0 then []
      else
        let d := ((sync : Int) - x.zc.rise) % (T : Int)
        let e := foldHalf (d - 1000 * (off : Int)) T
        [(i + 1, e), (i + 1 + 0x80, foldHalf (e + (T / 2 : Nat)) T)]

/-- The candidate with the smallest magnitude, the first on equal ones (R141). -/
def bestPhase : List (Nat × Int) → Option (Nat × Int)
  | [] => none
  | a :: t => some (t.foldl (fun (m : Nat × Int) (e : Nat × Int) => if e.2.natAbs < m.2.natAbs then e else m) a)

/-- A phase that the votes agree on (R142): the record takes it; from a known phase it is a change, counted, logged and
passed to Scales. -/
def State.setPhase (s : State) (l : Nat) (r : Record) (phase : Nat) : State :=
  let s := { s with votes := tdel s.votes r.tag }
  let s := s.modRecord r.tag fun r => { r with phase := phase }
  if r.phase = 0 then s.commit 256 1
  else
    let s := ((s.commit 256 1).bump (Obj.phaseChanges l)).logOp 0x3005 r.tenant (pack [(8, r.tag), (1, r.phase), (1, phase)])
    if s.flag Obj.scalesEnable then s.scoreAdd r.tag (s.nat Obj.phaseChangePoints) 4 else s

/-- An observation of an endpoint (R142). -/
def State.voteFor (s : State) (l : Nat) (r : Record) (phase : Nat) : State :=
  let n := match tget s.votes r.tag with
    | some (p, k) => if p = phase then k + 1 else 1
    | none => 1
  if s.nat Obj.phaseVotes ≤ n ∧ r.phase ≠ phase then s.setPhase l r phase
  else { s with votes := tput s.votes r.tag (phase, Nat.min n (s.nat Obj.phaseVotes)) }

/-- The native address of a Chain frame's originator (R40, R140). -/
def ChainMpdu.native (p : ChainMpdu) : Native := { ntype := 4, addr := p.source + 65536 * p.pan }

/-- The phase observation of a Chain frame (R141). -/
def State.observePhase (s : State) (l sync : Nat) (p : ChainMpdu) : State :=
  if 1 < p.hops ∨ p.zcOffsetUs = 0xFFFF then s
  else
    match bestPhase (s.phaseCandidates sync p.zcOffsetUs) with
    | none => s
    | some (phase, e) =>
      let rec? := s.lookupNative p.native
      if 1000 * s.nat Obj.phaseTolUs < e.natAbs then
        let s := s.bump (Obj.phaseRejected l)
        match rec? with
        | some r => { s with votes := tdel s.votes r.tag }
        | none => s
      else
        let s := s.bump (Obj.phaseObservations l)
        match rec? with
        | some r => s.voteFor l r phase
        | none => s

/-! ### Delivery (R127) -/

/-- The Mode of a power-line frame's descriptor (R127). -/
def plcMode (profile standard : Nat) (chain : Bool) : Nat :=
  (if chain then 40 else if standard = 2 then 35 else 32) + Nat.min profile 2

/-- ModeParam of a Chain frame (R115, R127): coherent BPSK or QPSK. -/
def chainModeParam (modulation : Nat) : Nat := 8 + (if modulation = 0 then 2 else 3)

/-- The descriptor of a power-line frame (R71, R127). -/
def State.plcDescriptor (s : State) (l : Nat) (i : RxInfo) (profile mode erasedPermille : Nat) (clipped : Bool) : Nat :=
  pack [(4, s.shortAt i.syncNs), (4, s.shortAt i.endNs), (10, timeOf i.syncNs), (1, l + 4), (1, profile), (2, 0),
    (1, mode), (1, i.modeParam % 16), (2, enc 2 i.rssi), (2, enc 2 i.esn0),
    (4, 0), (1, 0), (1, linkQuality i.esn0), (2, b2n clipped), (4, 0), (2, i.length), (2, 0), (8, 0),
    (2, erasedPermille), (10, 0)]

/-- A power-line frame whose checks passed enters its cell's queue (R127). -/
def State.plcArrive (s : State) (l : Nat) (i : RxInfo) (profile mode erasedPermille : Nat) (clipped : Bool) : State :=
  s.arrive { s.newFrame (4 + l) i with
    mode := mode, inPlc := true, port := l + 4, desc := s.plcDescriptor l i profile mode erasedPermille clipped }

/-- Whether a modulation as R127 codes it is one that R111 supports. -/
def modulationSupported (m : Nat) : Bool := Nat.ble m 4 || (Nat.ble 10 m && Nat.ble m 12)

/-- A frame queued by the lane itself: a message of its standard (R111, R137), whose length and modulation its standard fixes. -/
def State.standardMessage (s : State) (l dest prio : Nat) : State :=
  let (n, s) := s.draw
  let (m, s) := s.draw
  let (x, s) := s.draw
  let o := freshOut { kind := 1, prio, dest, stage := 0, bytes := n % 65536, payload := m } (x % 5) (s.nat (Obj.txAttenDb l))
  (s.modLane l fun x => { x with queue := x.queue ++ [o] }).select l

/-- Tone maps of a standard frame (R111): one it brings is kept for its sender, a request is answered. -/
def State.toneMaps (s : State) (l : Nat) (p : PlcInfo) : State :=
  let s := match p.toneMap with
    | none => s
    | some m => s.modLane l fun x => { x with toneMaps := tput x.toneMaps p.sender m }
  if p.toneMapRequest then s.standardMessage l p.sender 2 else s

/-- A standard frame delivered (R111, R127, R130, R137, R138). -/
def State.standardDelivery (s : State) (l : Nat) (ok : Bool) (i : RxInfo) (p : PlcInfo) : State :=
  s.onMedium l fun x =>
    if x.bound ≠ 1 then s
    else
      let c := s.laneCfg l x
      let s := s.modLane l Lane.release
      if !modulationSupported p.modulation then s.bump (Obj.plcUnsupportedFormat l)
      else if !ok then s.bump (Obj.plcCrcFail l)
      else
        let s := (s.bump (Obj.plcDelivered l)).modLane l fun x =>
          { x with virtual := some (Nat.max (x.virtual.getD 0) (i.endNs + p.busyNs)) }
        let s := (s.refreshLinks l (linkQuality i.esn0) p.sender []).toneMaps l p
        s.plcArrive l { i with modeParam := p.modulation } c.profile (plcMode c.profile c.standard false) 0 p.clipped

/-- A Chain frame's MPDU and CRC-32C, decoded from the symbols a lane has received of it (R116 to R119, R124), where they pass. -/
def Lane.chainDecoded (x : Lane) (c : LaneCfg) (f : ChainFields) : Option (ChainMpdu × List Nat × Nat) :=
  match fieldMpdu (frameDecode c.carriers (planes f.modulation) (f.blocksMinusOne + 1) x.soft) with
  | none => none
  | some (mpdu, crc) => (chainMpdu selfShort f.sourceRouted mpdu).map fun m => (m, mpdu, crc)

/-- A Chain frame whose CRC-32C passed (R127, R130, R134, R138, R141): it is delivered where its destination is the part or everyone; a
unicast frame extends the virtual busy time by its acknowledgement, which the part owes where the frame's last hop ends at it. -/
def State.chainArrives (s : State) (l : Nat) (c : LaneCfg) (f : ChainFields) (i : RxInfo) (x : Lane) (clipped : Bool)
    (m : ChainMpdu) (mpdu : List Nat) (crc : Nat) : State :=
  let e := chainEndNs c.profile c.carriers x.syncNs f
  let gap := 1000 * (s.laneTiming x).ackGapUs
  let s := s.modLane l fun x =>
    { x with ackFor := if m.endsAt selfShort then some (crc % 16384, f.priority, e + gap) else x.ackFor,
             virtual := if m.dest = 0xFFFF then x.virtual else some (Nat.max (x.virtual.getD 0) (e + gap + ackNs c.profile c.carriers)) }
  let s := (s.refreshLinks l (linkQuality i.esn0) m.sender m.links).observePhase l x.syncNs m
  if m.dest = selfShort ∨ m.dest = 0xFFFF then
    let i := { i with syncNs := x.syncNs, endNs := e, native := m.native, modeParam := chainModeParam f.modulation,
                      length := mpdu.length, frame := ofBytes mpdu }
    let total := dataCarriers c.carriers * (4 * c.announced f)
    (s.bump (Obj.plcDelivered l)).plcArrive l i c.profile (plcMode c.profile c.standard true) (permille x.erased total) clipped
  else s

/-- A Chain frame all of whose bursts have passed (R121, R127). -/
def State.chainDelivery (s : State) (l : Nat) (i : RxInfo) (clipped : Bool) : State :=
  s.onMedium l fun x =>
    match x.header with
    | none => s
    | some w =>
      let c := s.laneCfg l x
      let f := chainFields w
      if x.bound ≠ 3 ∨ x.bursts < c.announced f then s
      else
        let s := s.modLane l Lane.release
        match x.chainDecoded c f with
        | none => s.bump (Obj.plcCrcFail l)
        | some (m, mpdu, crc) => s.chainArrives l c f i x clipped m mpdu crc

/-- PLC_FRAME_DELIVERY (R111, R127, R130, R134, R138, R141): `ok` the FCS of a standard frame; a Chain frame is decoded by the part. -/
def State.plcDelivery (s : State) (l : Nat) (ok : Bool) (i : RxInfo) (p : PlcInfo) : State :=
  if p.chain then s.chainDelivery l i p.clipped else s.standardDelivery l ok i p

/-- PLC_FRAME_DELIVERY (R127). -/
def execPlcFrameDelivery (lane : Nat) (ok : Bool) (i : RxInfo) (p : PlcInfo) (s : State) : Host.Outcome State Fault Refusal :=
  .next (s.plcDelivery lane ok i p)

end Sys2Proof.Machine
end

