-- ==== Sys2Proof/Machine/Access.lean ====
section
/-! DEFINITION. Power-line medium access (R129 to R140): carrier sense, contention, transmission, acknowledgement and retry,
routes. -/

namespace Sys2Proof.Machine

/-! ### The medium (R129, R130) -/

/-- Whether a power over the active carriers exceeds the noise-map level of the current slot by more than CsMarginDb (R129). -/
def State.sensed (s : State) (x : Lane) (power : Nat) : Bool :=
  exceedsDb (s.nat Obj.csMarginDb) power (x.noise.getD (s.slotAt x s.now) 0)

/-- MEDIUM_IDLE (R129, R131): the power no longer exceeds the slot's level by the margin. -/
def State.mediumIdle (s : State) (l power : Nat) : State :=
  s.onMedium l fun x => if s.sensed x power then s else s.modLane l fun x => { x with power := false }

/-- MEDIUM_IDLE (R129). -/
def execMediumIdle (lane power : Nat) (s : State) : Host.Outcome State Fault Refusal := .next (s.mediumIdle lane power)

/-- MEDIUM_BUSY (R129, R131). -/
def State.mediumBusy (s : State) (l power : Nat) : State :=
  s.onMedium l fun x => if s.sensed x power then s.modLane l fun x => { x with power := true } else s

/-- MEDIUM_BUSY (R129). -/
def execMediumBusy (lane power : Nat) (s : State) : Host.Outcome State Fault Refusal := .next (s.mediumBusy lane power)

/-- VIRTUAL_BUSY_END (R130): once its end is reached. -/
def State.virtualEnd (s : State) (l : Nat) : State :=
  s.onMedium l fun x =>
    if (x.virtual.map fun e => Nat.ble e s.now).getD false then s.modLane l fun x => { x with virtual := none } else s

/-- VIRTUAL_BUSY_END (R130). -/
def execVirtualBusyEnd (lane : Nat) (s : State) : Host.Outcome State Fault Refusal := .next (s.virtualEnd lane)

/-! ### The lane's own frames (R126, R132, R136) -/

/-- Whether a class 2 item that a frame carries may be emitted (R400). -/
def State.mayCarry (s : State) (stage : Nat) : Bool :=
  stage == 0 || s.gate.confirmed.contains stage || !(s.nand.items.any fun i => i.seq == stage && i.cls == 2)

/-- The priority of a Chain frame (R132): of a staged item by its class, load shed 0, other switching and application commands 1,
configuration and tariff data 2; of any other frame as it is queued. DEDUCED (log entry 109): a time set is an application command. -/
def State.plcPriority (s : State) (t : PlcTx) : Nat :=
  match s.nand.items.find? fun i => i.seq == t.stage && t.stage != 0 with
  | none => t.prio
  | some i => if i.cls = 3 then 2 else if i.cls = 2 ∧ (i.request.map (·.kind)) = some 4 then 0 else 1

/-- The final destination of a frame: of a staged item the short address of its endpoint, where it is registered by one (R139). -/
def State.plcDest (s : State) (t : PlcTx) : Nat :=
  match s.nand.items.find? fun i => i.seq == t.stage && t.stage != 0 with
  | none => t.dest
  | some i =>
    match (s.record i.tag).filter fun r => r.ntype == 4 with
    | some r => r.naddr % 65536
    | none => t.dest

/-- Whether LOADng has to look for a route of a standard frame (R137): it is unicast and no route is known. -/
def Lane.wantsRoute (x : Lane) (t : PlcTx) : Bool := t.kind == 1 && t.dest != 0xFFFF && !(x.routes.any fun r => r.dest == t.dest)

/-- A frame queued on a lane (R132, R136, R137), its item held; a route that is missing is asked for. -/
def State.plcQueue (s : State) (l : Nat) (t : PlcTx) : State :=
  s.onMedium l fun y =>
    if !(s.mayCarry t.stage && (t.kind == 1 || (t.kind == 0 && s.flag (Obj.chainEnable l)))) then s
    else
      let (x, s) := s.draw
      let t : PlcTx := { t with prio := if t.kind = 0 then s.plcPriority t else t.prio, dest := s.plcDest t }
      let modulation := if t.kind = 0 then s.nat (Obj.chainModulationDefault l) else x % 5
      let s := { s with gate.confirmed := s.gate.confirmed.filter (· != t.stage) }
      let s := if t.stage = 0 then s else s.holdItems [t.stage] true
      let s := if y.wantsRoute t then s.standardMessage l 0xFFFF 1 else s
      let o := freshOut t modulation (s.nat (Obj.txAttenDb l))
      (s.modLane l fun x => { x with queue := x.queue ++ [o] }).select l

/-- PLC_FRAME_QUEUED (R136). -/
def execPlcFrameQueued (lane : Nat) (t : PlcTx) (s : State) : Host.Outcome State Fault Refusal := .next (s.plcQueue lane t)

/-! ### Routes (R139) -/

/-- The cost of a link by its quality (R139). -/
def State.linkCost (s : State) (q : Nat) : Option Nat :=
  let good := s.nat Obj.lqGood
  if good ≤ q then some 16 else if s.nat Obj.lqMin ≤ q then some (16 + 2 * (good - q)) else none

/-- The penalty a frame's failed routes put on a link (R139). -/
def penaltyOf (ps : List (Nat × Nat × Nat)) (a b : Nat) : Nat :=
  ((ps.find? fun p => p.1 == a && p.2.1 == b).map (·.2.2)).getD 0

/-- One round of R139 over the links: `best` holds cost and path of each address, `old` as the round before left it. -/
def State.routeRound (s : State) (ps : List (Nat × Nat × Nat)) (links : List Link) (old : Tab (Nat × List Nat)) :
    Tab (Nat × List Nat) :=
  links.foldl (fun (best : Tab (Nat × List Nat)) (e : Link) =>
    match s.linkCost e.q, tget old e.src with
    | some k, some (c0, path) =>
      let c := c0 + k + penaltyOf ps e.src e.dst
      let path := path ++ [e.dst]
      match tget best e.dst with
      | none => tput best e.dst (c, path)
      | some (d, p) => if c < d ∨ (c = d ∧ path.length < p.length) then tput best e.dst (c, path) else best
    | _, _ => best) old

/-- The best path to a target within seven hops (R139). -/
def State.bestPath (s : State) (ps : List (Nat × Nat × Nat)) (links : List Link) (target : Nat) : Option (List Nat) :=
  let ls := sortLinks links
  let best := (List.range 7).foldl (fun (b : Tab (Nat × List Nat)) _ => s.routeRound ps ls b) [(selfShort, (0, []))]
  ((tget best target).map (·.2)).filter fun p => !p.isEmpty

/-- The hops of a route from the part: (from, to). -/
def hopsOf (route : List Nat) : List (Nat × Nat) := List.zip (selfShort :: route) route

/-- The quality of a link, where it has an entry. -/
def linkQ (links : List Link) (a b : Nat) : Option Nat := (links.find? fun e => e.src == a && e.dst == b).map (·.q)

/-- The route and modulation of an attempt of a Chain unicast frame (R126, R139): a degraded retry keeps its route and takes
the modulation prescribed. -/
def State.route (s : State) (l : Nat) (links : List Link) (o : PlcOut) : PlcOut × State :=
  if o.t.dest = 0xFFFF then
    ({ o with route := none, direct := true, modulation := o.force.getD (s.nat (Obj.chainModulationDefault l)) }, s)
  else if o.degraded then ({ o with modulation := o.force.getD 0 }, s)
  else
    let (path, direct, s) := match s.bestPath o.penalties links o.t.dest with
      | some p => (p, false, s)
      | none => ([o.t.dest], true, s.bump (Obj.noRoute l))
    let qs := (hopsOf path).filterMap fun h => linkQ links h.1 h.2
    let m := match qs with
      | [] => s.nat (Obj.chainModulationDefault l)
      | q :: t => if s.nat Obj.lqQpsk ≤ t.foldl Nat.min q then 1 else 0
    let s := match o.route with
      | some p => if p = path then s else s.bump (Obj.routeChanges l)
      | none => s
    ({ o with route := some path, direct := direct, modulation := m }, s)

/-- StartSlot (R120): the window of w slots with the lowest noise, the lowest slot on equal sums. -/
def startSlot (noise : List Nat) (w : Nat) : Nat :=
  let cost (i : Nat) := ((noise.drop i).take w).sum
  (List.range (65 - w)).foldl (fun (b i : Nat) => if cost i < cost b then i else b) 0

/-- The first start of a slot at or after an instant (R120, R123), on the grid of the last edge. -/
def State.slotFrom (s : State) (x : Lane) (slot t : Nat) : Nat :=
  let h := Nat.max 1 (s.halfPeriod x)
  let first := x.zc.last + slot * h / 64
  first + ceilDiv (t - first) h * h

/-- ZcOffsetUs of a frame of the part with its sync instant (R141): from its own last positive-going crossing, 0xFFFF where the lane's
tracking is not locked. -/
def Lane.zcOffsetUs (x : Lane) (sync : Nat) : Nat :=
  if x.zc.locked then (sync - x.zc.rise) % Nat.max 1 (2 * x.zc.half) / 1000 % 65536 else 0xFFFF

/-- The MPDU of a Chain frame whose preamble ends at a sync instant (R140): route block, MAC header, payload. -/
def chainOut (l sync : Nat) (x : Lane) (o : PlcOut) : List Nat :=
  (if o.direct then [] else routeBlock (o.route.getD [])) ++ macHeader (Config.panId l) o.t.dest selfShort (x.zcOffsetUs sync) ++
  toBytes o.t.bytes o.t.payload

/-- A Chain frame as it goes on air at an instant (R112, R113, R116, R118, R120, R140): its MPDU, header and bursts. -/
def State.placed (s : State) (l : Nat) (x : Lane) (o : PlcOut) : PlcOut :=
  let start := s.now
  let c := s.laneCfg l x
  let half := s.halfPeriod x
  let w := ceilDiv (64 * burstNs c.profile) (Nat.max 1 half)
  let slot := if x.zc.locked then startSlot x.noise w else 0
  let sync := start + preambleNs c.profile
  let mpdu := chainOut l sync x o
  let B := Nat.min 8 (blocksFor mpdu.length)
  let headEnd := sync + headerNs c.profile c.carriers
  let f : ChainFields :=
    { sourceRouted := !o.direct, firstGapUs := (s.slotFrom x slot (headEnd + 100000) - headEnd + 500) / 1000,
      burstPeriodUs := (half + 500) / 1000, blocksMinusOne := B - 1, modulation := o.modulation, priority := o.t.prio }
  let burst (i : Nat) : Nat × Nat := (burstStart headEnd f i, burstStart headEnd f i + burstNs c.profile)
  { o with startSlot := slot, header := f.word, mpdu := mpdu, crc := fieldCrc (infoField B mpdu),
           spans := (start, headEnd) :: (List.range (c.announced f)).map burst, endNs := some (chainEndNs c.profile c.carriers sync f) }

/-- What a Chain frame of the part sends after its preamble (R112 to R119): the phases of its header's symbols, the cells of its
data symbols. -/
def PlcOut.symbols (A : Nat) (o : PlcOut) : List (List Bool) × List (List Cell) :=
  let f := chainFields o.header
  let B := f.blocksMinusOne + 1
  (headerPhases A o.header, if f.burstPeriodUs = 0 then [] else frameSymbols A (planes f.modulation) B (infoField B o.mpdu))

/-- A frame of the lane goes on air (R107). -/
def State.onAir (s : State) (l : Nat) (o : PlcOut) : State := s.modLane l fun x => { x with onAir := some o }

/-- Whether a lane may start a transmission: none while the holdoff lasts (R107) or the power-fail sequence runs (R419). -/
def State.mayStart (s : State) (x : Lane) : Bool := s.accepting && x.hold.isNone

/-- CHAIN_SLOT_START (R131, R139): at the slot drawn, on a medium that has stayed idle. -/
def State.slotStart (s : State) (l : Nat) : State :=
  s.onMedium l fun x =>
    match x.contending, x.drawn with
    | some o, some at_ =>
      if !(o.t.kind == 0 && x.idle && s.mayStart x && (s.laneCfg l x).chain && Nat.ble at_ s.now) then s
      else
        let (o, s) := s.route l x.links o
        (s.modLane l fun x => { x with contending := none, drawn := none }).onAir l (s.placed l x o)
    | _, _ => s

/-- CHAIN_SLOT_START (R131). -/
def execChainSlotStart (lane : Nat) (s : State) : Host.Outcome State Fault Refusal := .next (s.slotStart lane)

/-- A route that a frame uses becomes the most recently used (R137). -/
def useRoute (dest : Nat) (rs : List MeshRoute) : List MeshRoute :=
  (rs.filter fun r => r.dest != dest) ++ rs.filter fun r => r.dest == dest

/-- STANDARD_CSMA_TX (R111, R136, R137): its samples begin DrvLeadUs after the driver is raised (R107). -/
def State.csmaTx (s : State) (l : Nat) : State :=
  s.onMedium l fun x =>
    match x.contending with
    | some o =>
      if !(o.t.kind == 1 && x.idle && s.mayStart x) then s
      else
        let start := s.now + 1000 * s.nat (Obj.drvLeadUs l)
        let m := o.force.getD (((tget x.toneMaps o.t.dest).map (·.2)).getD o.modulation)
        (s.modLane l fun x => { x with contending := none, drawn := none, routes := useRoute o.t.dest x.routes }).onAir l
          { o with modulation := m, spans := [(start, start)], endNs := none }
    | none => s

/-- STANDARD_CSMA_TX (R136). -/
def execStandardCsmaTx (lane : Nat) (s : State) : Host.Outcome State Fault Refusal := .next (s.csmaTx lane)

/-- The samples of a transmission at or above IsenseThresholdMv (R126). -/
def State.overCurrent (s : State) (l : Nat) (isense : List Nat) : Nat :=
  (isense.filter fun v => Nat.ble (s.nat (Obj.isenseThresholdMv l)) v).length

/-- PLC_TX_END (R107, R126, R135): counted; too many current-limit samples make it degraded; a Chain unicast frame awaits its
acknowledgement, any other has been sent. -/
def State.plcTxEnd (s : State) (l : Nat) (isense : List Nat) : State :=
  s.onMedium l fun x =>
    match x.onAir with
    | none => s
    | some o =>
      let e := o.endNs.getD s.now
      if !(Nat.ble e s.now) then s
      else
        let s := (s.modLane l fun x => x.txOff e (e + 10000)).bump (Obj.plcTxFrames l)
        let over_ := Nat.blt (s.nat (Obj.clipThreshold l)) (s.overCurrent l isense)
        let s := if over_ then s.bump (Obj.txDegraded l) else s
        let s :=
          if o.t.kind = 2 then s
          else if over_ then s.degradedRetry l o
          else if o.t.kind = 0 ∧ o.t.dest ≠ 0xFFFF then
            s.modLane l fun x => { x with awaiting := x.awaiting ++ [{ o := o, seen := false }] }
          else if o.t.stage = 0 then s
          else s.itemSent o.t.stage
        s.select l

/-- PLC_TX_END (R126). -/
def execPlcTxEnd (lane : Nat) (isenseMv : List Nat) (s : State) : Host.Outcome State Fault Refusal :=
  .next (s.plcTxEnd lane isenseMv)

/-! ### Acknowledgement and retry (R134, R135) -/

/-- The acknowledgement of a frame by its CRC bits and priority (R134), sent from an instant on. -/
def State.ackOut (s : State) (l : Nat) (c : LaneCfg) (crc prio : Nat) : PlcOut :=
  let f : ChainFields := { sourceRouted := false, firstGapUs := crc, burstPeriodUs := 0, blocksMinusOne := 0, modulation := 0, priority := prio }
  let e := s.now + ackNs c.profile c.carriers
  { freshOut { kind := 2, prio, dest := 0, stage := 0, bytes := 0, payload := 0 } 0 (s.nat (Obj.txAttenDb l)) with
    header := f.word, spans := [(s.now, e)], endNs := some e }

/-- CHAIN_ACK_SEND (R109, R110, R134): ChainAckGapUs after EndStamp, without contention; a lane that sends or receives then sends none. -/
def State.ackSend (s : State) (l : Nat) : State :=
  s.onMedium l fun x =>
    match x.ackFor with
    | none => s
    | some (crc, prio, due) =>
      if !(Nat.ble due s.now) then s
      else
        let c := s.laneCfg l x
        let s := s.modLane l fun x => { x with ackFor := none }
        if x.onAir.isSome || x.bound != 0 || !c.chain || !s.mayStart x then s else s.onAir l (s.ackOut l c crc prio)

/-- CHAIN_ACK_SEND (R134). -/
def execChainAckSend (lane : Nat) (s : State) : Host.Outcome State Fault Refusal := .next (s.ackSend lane)

/-- One more penalty on a link (R139). -/
def addPenalty (n : Nat) (ps : List (Nat × Nat × Nat)) (h : Nat × Nat) : List (Nat × Nat × Nat) :=
  (h.1, h.2, penaltyOf ps h.1 h.2 + n) :: ps.filter fun p => !(p.1 == h.1 && p.2.1 == h.2)

/-- A Chain unicast frame is unacknowledged (R135): counted, retried with its route penalised, or abandoned. -/
def State.unacked (s : State) (l : Nat) (a : Await) : State :=
  let s := (s.modLane l fun x => { x with awaiting := x.awaiting.erase a }).bump (Obj.ackTimeouts l)
  let o := a.o
  if s.nat Obj.chainRetryLimit ≤ o.retries then (s.bump (Obj.retriesExhausted l)).abandonPlc o
  else
    let ps := (hopsOf (o.route.getD [])).foldl (addPenalty (s.nat Obj.retryPenalty)) o.penalties
    let o : PlcOut := { o with retries := o.retries + 1, penalties := ps, degraded := false, force := none }
    let o : PlcOut := { o with atten := s.nat (Obj.txAttenDb l) }
    (s.modLane l fun x => { x with queue := requeue o x.queue }).select l

/-- CHAIN_ACK_RECEIVED (R134, R135): the CRC bits of the acknowledgement decoded confirm the hop of the frame awaiting them; where they are
no awaited frame's, the frame whose acknowledgement its preamble announced is unacknowledged. -/
def State.ackReceived (s : State) (l : Nat) : State :=
  s.onMedium l fun x =>
    match x.header with
    | none => s
    | some w =>
      if x.bound ≠ 2 then s
      else
        let s := s.modLane l fun x => x.unmarkAwaited.release
        let mine (a : Await) : Bool := a.o.crc % 16384 == (chainFields w).firstGapUs
        match x.awaiting.find? mine with
        | some a =>
          let s := s.modLane l fun x => { x with awaiting := x.awaiting.filter fun b => !(mine b) }
          if a.o.t.stage = 0 then s else s.itemSent a.o.t.stage
        | none =>
          match x.awaiting.find? (·.seen) with
          | some a => s.unacked l { a with seen := false }
          | none => s

/-- CHAIN_ACK_RECEIVED (R135). -/
def execChainAckReceived (lane : Nat) (s : State) : Host.Outcome State Fault Refusal := .next (s.ackReceived lane)

/-- Whether the wait of a frame is over (R135): ChainAckGapUs + SlotUs after its EndStamp, with no preamble detected. -/
def LaneTiming.waited (t : LaneTiming) (now : Nat) (a : Await) : Bool :=
  !a.seen && Nat.ble (a.o.endNs.getD 0 + 1000 * (t.ackGapUs + t.slotUs)) now

/-- ACK_TIMEOUT (R135). -/
def State.ackTimeout (s : State) (l : Nat) : State :=
  s.onLane l fun x =>
    match x.awaiting.find? ((s.laneTiming x).waited s.now) with
    | none => s
    | some a => s.unacked l a

/-- ACK_TIMEOUT (R135). -/
def execAckTimeout (lane : Nat) (s : State) : Host.Outcome State Fault Refusal := .next (s.ackTimeout lane)

/-! ### LOADng and bootstrapping (R137) -/

/-- A route installed as the most recently used; of 8,192 the least recently used is evicted (R137). A dearer route to a
destination does not replace a cheaper one. -/
def installRoute (n : MeshRoute) (rs : List MeshRoute) : List MeshRoute :=
  match rs.find? fun r => r.dest == n.dest with
  | some r =>
    if r.cost < n.cost ∧ r.next ≠ n.next then rs else (rs.filter fun r => r.dest != n.dest) ++ [n]
  | none => (if 8192 ≤ rs.length then rs.drop 1 else rs) ++ [n]

/-- LOADNG_MESSAGE (R137): `kind` 0 route request, 1 route reply, 2 route error, 3 link-cost request, 4 link-cost reply; `origin` the station
that a request or reply starts from, the one an error cannot reach, `target` the one it is for, `next` the neighbour it came from. The
part answers a request for itself and a link-cost request, passes on what is for another, and reports a reply or error it has no route
for. DEDUCED (log entry 110): as the standards define LOADng, of which the spec names the messages. -/
def State.loadng (s : State) (l kind origin target next cost : Nat) : State :=
  s.onMedium l fun _ =>
    let onward (s : State) : State :=
      if target = selfShort then s
      else
        match ((s.lane l).map (·.routes)).bind fun rs => rs.find? fun r => r.dest == target with
        | some r => s.standardMessage l r.next 1
        | none => if kind = 1 then s.standardMessage l next 1 else s
    let install (s : State) : State := s.modLane l fun x => { x with routes := installRoute { dest := origin, next, cost } x.routes }
    match kind with
    | 0 => let s := install s
           if target = selfShort then s.standardMessage l next 1 else s.standardMessage l 0xFFFF 1
    | 1 => onward (install s)
    | 2 => onward (s.modLane l fun x => { x with routes := x.routes.filter fun r => !(r.dest == origin && r.next == next) })
    | 3 => s.standardMessage l next 2
    | 4 => s.modLane l fun x =>
        { x with routes := x.routes.map fun (r : MeshRoute) => if r.next == next then ({ r with cost := cost } : MeshRoute) else r }
    | _ => s

/-- LOADNG_MESSAGE (R137). -/
def execLoadngMessage (lane kind origin target next cost : Nat) (s : State) : Host.Outcome State Fault Refusal :=
  .next (s.loadng lane kind origin target next cost)

/-- Whether an endpoint's blob is a bootstrapping PSK that opens (R148, R165): Usage bit PlcPsk. -/
def State.pskOpens (s : State) (r : Record) : Bool := ((s.blobOf r).map fun b => bit (blobUsage b) 5 && s.unwraps r b).getD false

/-- EAP_PSK_BOOTSTRAP (R137, R165): the endpoint joins with the PSK of its blob and the lane's group master key, and is assigned its short
address: the one it is registered by (R139), else a free value. -/
def State.bootstrap (s : State) (l tag : Nat) (ok : Bool) : State :=
  s.onLane l fun _ =>
    match s.lookupTag tag with
    | none => s
    | some r =>
      let keyed := (tget s.loc.keys.proto (32 * r.tenant + 4 + l)).isSome && s.pskOpens r
      if ok && r.live && typeOnCell r.ntype (l + 4) && keyed then
        let (d, s) := s.draw
        s.modLane l fun x => { x with joined := tput x.joined tag (if r.ntype = 4 then r.naddr % 65536 else d % 65536) }
      else s

/-- EAP_PSK_BOOTSTRAP (R137). -/
def execEapPskBootstrap (lane tag : Nat) (ok : Bool) (s : State) : Host.Outcome State Fault Refusal :=
  .next (s.bootstrap lane tag ok)

/-- A lane's frames in progress are aborted (R128): a reception is released, what it sends or has sent and awaits is abandoned, and Chain
frames that wait where Chain mode is to stop. -/
def State.abortLane (s : State) (l : Nat) : State :=
  match s.lane l with
  | none => s
  | some x =>
    let keep (o : PlcOut) : Bool := o.t.kind != 0 || s.flag (Obj.chainEnable l)
    let gone := (x.onAir.toList.filter fun o => o.t.kind != 2) ++ x.awaiting.map (·.o) ++
      (x.contending.toList ++ x.queue).filter fun o => !(keep o)
    let s := (s.stopTx l).modLane l fun x =>
      { x.release with awaiting := [], ackFor := none, contending := x.contending.filter keep,
                       drawn := if (x.contending.map keep).getD false then x.drawn else none, queue := x.queue.filter keep }
    (gone.foldl (fun (s : State) o => s.abandonPlc o) s).settle l x.idle

end Sys2Proof.Machine
end

