-- ==== Sys2Proof/Machine/Registry.lean ====
section
/-! DEFINITION. Admission, moves, removal and reading of endpoints (R45, R48 to R50). -/

namespace Sys2Proof.Machine

/-- The part's own ConcentratorNumber, as it runs (R39). -/
def State.ownNumber (s : State) : Nat := s.forced Obj.concentratorNumber

/-- The part's own DomainNumber, as it runs (R39). -/
def State.ownDomain (s : State) : Nat := s.forced Obj.domainNumber

/-- The entries of SubordinateTable in use (R51): number, serial, key hash. -/
def State.subordinates (s : State) : List (Nat × Nat × Nat) :=
  ((List.range 256).map fun n => s.nat (Obj.subordinateTable n)).filterMap fun w =>
    if w = 0 then none else some (bytesAt w 0 2, bytesAt w 2 8, bytesAt w 10 16)

/-! ### The checks of an image (R45) -/

/-- Whether an image is of an endpoint served by a subordinate (R45, last paragraph). -/
def Image_served (i : Image) : Bool := i.cell == 0xFF

/-- Whether a served image may be taken (R45): regional role, own domain, a subordinate's number. -/
def State.servedOk (s : State) (i : Image) : Bool :=
  s.pw.regional && tagDomain i.tag == s.ownDomain && Nat.blt i.tag (2 ^ 44) &&
  s.subordinates.any fun e => e.1 == tagConcentrator i.tag

/-- Whether NativeType and Cell agree (R41, R45 check 2), and every configured channel has a defined quantity (R174). An image of the
part's own cells whose EndpointTag is not zero is out of range (DESIGN CHOICE, log entry 93: R45 names no error for it). A regional part
holds an endpoint of a subordinate whose BillingRegional is clear with RegisterOnly set (R53). -/
def State.imageRange (s : State) (i : Image) : Bool :=
  (if Image_served i then s.servedOk i && Nat.ble 1 i.native.ntype && Nat.ble i.native.ntype 4 && (bit i.flags 0 || bit i.flags 1)
   else i.tag == 0 && typeOnCell i.native.ntype i.cell) &&
  (List.range 16).all fun n => !bit i.channelMask n || quantityOk (i.channelConfig.getD n 0 / 16)

/-- The records that are not free. -/
def State.usedRecords (s : State) : List Record := (s.nand.recs.filter fun e => e.2.state != 0).map (·.2)

/-- The record that holds a native address (R45 check 3), one removed and in quarantine among them (R50). -/
def State.holderOf (s : State) (n : Native) : Option Record :=
  s.usedRecords.find? fun r => r.ntype == n.ntype && r.naddr == n.addr

/-- Whether a free slot exists within the registry of the role and the tenant's share (R4, R45 check 4). -/
def State.registryRoom (s : State) (t : Nat) : Bool :=
  Nat.blt s.usedRecords.length s.registryMax &&
  Nat.blt (s.usedRecords.filter fun r => r.state != 4 && r.tenant == t).length (s.nat (Obj.registryShare t))

/-- The lowest number not in a list. -/
def lowestFree (used : List Nat) : Nat := ((List.range (used.length + 1)).find? fun n => !used.contains n).getD used.length

/-- The lowest index neither in use nor in quarantine (R45, R50). With room in the registry it lies below the registry's limit (R10):
fewer indices are in use than the limit. -/
def State.freeIndex (s : State) : Nat :=
  lowestFree ((s.usedRecords.filter fun r => tagConcentrator r.tag == s.ownNumber && tagDomain r.tag == s.ownDomain).map
    fun r => tagIndex r.tag)

/-- The tag that an image's endpoint gets (R9, R10, R45). -/
def State.tagFor (s : State) (i : Image) : Nat :=
  if Image_served i then i.tag else mkTag s.ownDomain s.ownNumber s.freeIndex

/-- The slot of a new record (R41). -/
def State.slotFor (s : State) (tag : Nat) : Nat :=
  if s.pw.regional then lowestFree (s.usedRecords.map (·.slot)) else tagIndex tag

/-- The refusal of an image (R45), none when every check passes. -/
def State.imageRefusal (s : State) (i : Image) : Option CapOut :=
  if 7 < i.tenant ∨ s.bitOf Obj.tenantEnable i.tenant = false then some (capErr 5 0)
  else if !s.imageRange i then some (capErr 5 0)
  else
    match s.holderOf i.native with
    | some r => some { capVal 8 r.tag with status := 8 }
    | none =>
      if Image_served i && (s.usedRecords.any fun r => r.tag == i.tag) then some { capVal 8 i.tag with status := 8 }
      else if !s.registryRoom i.tenant then some (capErr 9 0)
      else if (s.placeRecord s.nand.hash (s.slotFor (s.tagFor i)) (s.tagFor i) i.native).isNone then some (capErr 10 0)
      else none

/-! ### Admission (R45, R46, R48) -/

/-- Whether a record's billing state is held by this part (R33, R48, R53). -/
def State.holdsBilling (s : State) (flags : Nat) : Bool := !bit flags 1 && (s.pw.regional || !bit flags 0)

/-- The billing home of an endpoint (R33, R53): it follows the flag. Billed at the field concentrator it is the part itself, or for an
endpoint of a subordinate that subordinate; billed above, the regional part, whose number a field part takes from the image. -/
def State.homeOf (s : State) (i : Image) (tag : Nat) : Nat :=
  if bit i.flags 0 then (if s.pw.regional then s.ownNumber else i.billingHome)
  else if Image_served i then tagConcentrator tag else s.ownNumber

/-- The record that an image opens (R45). RekeyPending is the part's own. DESIGN CHOICE (log entry 93): the image gives tag, native address,
cell, tenant, flags, calendar, phase, node and channels; counters, HeardCells, KekGeneration, events and the times of frames start at
zero, whatever the image holds there. -/
def State.newRecord (s : State) (i : Image) (tag slot bucket prev : Nat) : Record :=
  let r := Record.blank
  { r with tag := tag, state := 1, ntype := i.native.ntype, cell := i.cell, tenant := i.tenant, naddr := i.native.addr,
           flags := setBit (i.flags % 256) 2 false, billingHome := s.homeOf i tag, calendar := i.calendar,
           phase := i.phase, node := i.topology, chanMask := i.channelMask, chanConfig := i.channelConfig,
           admittedAt := s.tai, serving := if Image_served i then tagConcentrator tag else s.ownNumber,
           bucket := bucket, prevTag := prev, slot := slot }

/-- An image whose checks passed admitted, with the billing state it opens. -/
def State.admitImage (s : State) (i : Image) (prev : Nat) (bill : Nat → Nat → Bill) : CapOut × State :=
  let tag := s.tagFor i
  let slot := s.slotFor tag
  match s.placeRecord s.nand.hash slot tag i.native with
  | none => (capErr 10 0, s)
  | some (hash, bucket) =>
    let r := s.newRecord i tag slot bucket prev
    let s := { s with nand.recs := tput s.nand.recs tag r, nand.hash := hash }
    let s := if s.holdsBilling r.flags then
        { s with nand.bills := tput s.nand.bills tag (bill tag (s.calState r.calendar).last) }
      else s
    let s := if r.node = 0xFFFF then s else s.touchNode 17 r.node
    (capVal 8 tag, s.commit 768 2)

/-- EndpointAdmit (R45, R46, R48): billing state that opens at zero is on the legal record. -/
def State.endpointAdmit (s : State) (r : CapReq) (i : Image) : State :=
  s.capExec r Obj.endpointAdmit fun ses s =>
    if !ses.mayTenant i.tenant then (capErr 3 0, s)
    else
      match s.imageRefusal i with
      | some o => (o, s)
      | none => s.mediaGate fun s =>
        let (o, s) := s.admitImage i i.previousTag fun tag last => Bill.opened tag i.calendar last
        (o, if o.status = 0 ∧ s.holdsBilling i.flags = true then s.logLegal 0x1024 i.tenant (pack [(8, o.value)]) else s)

/-- ENDPOINT_ADMIT (R45). -/
def execEndpointAdmit (r : CapReq) (image : Image) (s : State) : Host.Outcome State Fault Refusal :=
  .next (s.endpointAdmit r image)

/-- The billing state that a move export opens (R49): registers and Turnstile area of its snapshot, the rest zero. -/
def MoveExport_bill (x : MoveExport) (calendar tag last : Nat) : Bill :=
  let turn : Turn :=
    { credit := x.credit, granted := x.emergency, debt := x.debt, topUpCounter := x.topUpCounter, lastTopUp := x.lastTopUp,
      since := x.stateSince, state := x.creditState, flags := x.tflags, share := x.share, spend := x.periodSpend,
      switchSeq := x.switchSeq, lastAmount := x.lastAmount, remainder := x.remainder }
  { Bill.opened tag calendar last with energy := (x.energy ++ List.replicate 32 0).take 32, turn := turn }

/-- The refusal of a move export (R49 checks 1 to 4). -/
def State.exportRefusal (s : State) (i : Image) (x : MoveExport) : Option CapOut :=
  if !(x.certOk && x.certSerial == x.serial) then some (capErr 5 1280)
  else if !x.signatureOk then some (capErr 5 1184)
  else if x.version ≠ 1 then some (capErr 5 256)
  else if x.tenant ≠ i.tenant then some (capErr 5 258)
  else
    match s.usedRecords.find? fun r => r.prevTag == x.tag && x.tag != 0 with
    | some r => some { capVal 8 r.tag with status := 8 }
    | none => none

/-- EndpointAdmitMove (R49). -/
def State.endpointAdmitMove (s : State) (r : CapReq) (i : Image) (x : MoveExport) : State :=
  s.capExec r Obj.endpointAdmitMove fun ses s =>
    if !ses.mayTenant i.tenant then (capErr 3 0, s)
    else
      match (s.exportRefusal i x).orElse fun _ => s.imageRefusal i with
      | some o => (o, s)
      | none => s.mediaGate fun s => s.admitImage i x.tag fun tag last => MoveExport_bill x i.calendar tag last

/-- ENDPOINT_ADMIT_MOVE (R49). -/
def execEndpointAdmitMove (r : CapReq) (image : Image) (x : MoveExport) (s : State) : Host.Outcome State Fault Refusal :=
  .next (s.endpointAdmitMove r image x)

/-! ### Removal (R48 to R50) -/

/-- An endpoint's billing state closed as a final period (R48): its boundaries and deferred items carried out, the snapshot in
Casket and the uplink, BILLING_FINAL on the legal record. -/
def State.finalClose (s : State) (r : Record) : Option Shot × State :=
  let t := s.billSec
  let s := s.advance r.tag t
  let w := ((s.bill r.tag).map fun b => (s.calState b.calendar).w).getD 0
  let s := (s.runPending r w (t + 1) (Nat.blt · 64)).runPending r w (t + 1) (Nat.ble 64 ·)
  let s := { s with nand.deferred := s.nand.deferred.filter fun d => d.tag != r.tag }.countDeferred
  match s.bill r.tag with
  | none => (none, s)
  | some b =>
    let shot : Shot := { bill := b, start := (s.openPeriod b).2, fin := t }
    let s := { s with nand.shots := tput s.nand.shots (r.tag * 4294967296 + b.period) shot, nand.bills := tdel s.nand.bills r.tag }
    let s := s.uplink r.tenant { ty := 2, len := 512, data := shot.pack } 0
    (some shot, s.logLegal 0x1023 r.tenant (pack [(8, r.tag), (4, b.period), (6, t)]))

/-- The move export as its 1,024 bytes (R49, R164), signed under the device identity key. -/
def State.moveExport (s : State) (r : Record) (snapshot : Nat) : Nat × State :=
  let body := pack [(2, 1), (1, r.tenant), (5, 0), (8, Config.deviceSerial), (8, r.tag), (10, s.timeNow), (6, 0), (256, r.pack),
    (512, snapshot), (120, 0)]
  let (sig, s) := s.sign identityKey body
  (body + 256 ^ 928 * sig, s)

/-- The slot that held a removed endpoint's blob drained, where that blob was its previous generation's last (R153). -/
def State.drainFor (s : State) (b : Option Nat) : State :=
  match b with
  | none => s
  | some b => s.drain (blobTenant b) (blobSlot b)

/-- The body of EndpointRemove (R50): nothing is removed while the part cannot sign its export (R166, R168). The record keeps tag, native
address and removal time in its quarantine. -/
def State.removeBody (s : State) (tag : Nat) (ses : Session) : CapOut × State :=
  s.target ses tag false fun r => s.mediaGate fun s =>
    if s.loc.zeroizing then (capErr 13 13, s)
    else if s.loc.entropyFailed then (capErr 13 14, s)
    else
    let (shot, s) := s.finalClose r
    let r := (s.record tag).getD r
    let (x, s) := s.moveExport r ((shot.map (·.pack)).getD 0)
    let gone := s.blobOf r
    let blobs := match r.blob with
      | some i => tdel s.nand.blobs i
      | none => s.nand.blobs
    let s := { s with nand.hash := hashRemove s.nand.hash r.slot, nand.blobs := blobs, votes := tdel s.votes tag,
                      loc.rekey := s.loc.rekey.filter (· != tag), loc.dedicated := s.loc.dedicated.filter (·.1 != tag),
                      dl.ackDue := s.dl.ackDue.filter (· != tag) }
    let s := if r.node = 0xFFFF then s else s.touchNode 17 r.node
    let now := s.tai
    let s := s.modRecord tag fun r => { r with state := 4, blob := none, removedAt := now }
    (capVal 1024 x, (s.commit 768 3).drainFor gone)

/-- EndpointRemove (R50): ordered like a frame of its endpoint. -/
def State.endpointRemove (s : State) (r : CapReq) (tag : Nat) : State :=
  s.capOrdered r Obj.endpointRemove [tag] (.endpointRemove r tag) fun ses s => s.removeBody tag ses

/-- ENDPOINT_REMOVE (R50). -/
def execEndpointRemove (r : CapReq) (tag : Nat) (s : State) : Host.Outcome State Fault Refusal := .next (s.endpointRemove r tag)

/-- EndpointRead (R40): a record that fails its CRC is unreadable. -/
def State.endpointRead (s : State) (r : CapReq) (tag : Nat) : State :=
  s.capExec r Obj.endpointRead fun ses s =>
    match (s.record tag).filter fun x => x.state != 0 with
    | none => (capErr 5 0, s)
    | some x =>
      if x.bad then (capErr 16 0, s.badRecord x)
      else if !ses.mayTenant x.tenant then (capErr 3 0, s)
      else (capVal 256 x.pack, s)

/-- ENDPOINT_READ (R40). -/
def execEndpointRead (r : CapReq) (tag : Nat) (s : State) : Host.Outcome State Fault Refusal := .next (s.endpointRead r tag)

/-- QUARANTINE_END (R50): a removed record is free once IndexQuarantineDays have passed. -/
def State.quarantineEnd (s : State) (tag : Nat) : State :=
  match s.record tag with
  | none => s
  | some r =>
    if s.up ∧ r.state = 4 ∧ r.removedAt + 86400 * s.nat Obj.indexQuarantineDays ≤ s.tai then
      { s with nand.recs := tdel s.nand.recs tag }
    else s

/-- QUARANTINE_END (R50). -/
def execQuarantineEnd (tag : Nat) (s : State) : Host.Outcome State Fault Refusal := .next (s.quarantineEnd tag)

end Sys2Proof.Machine
end

