-- ==== Sys2Proof/Machine/Guarantee.lean ====
section
/-! DEFINITION. Admission by tenant reservations and the breach records (R171, R185 to R188), storms (R189 to R191). -/

namespace Sys2Proof.Machine

/-! ### The guarantee window (R186) -/

/-- The engine clock as a share of 1.0 GHz, in MHz. -/
def State.clockShare (s : State) : Nat := Nat.min 1000 (s.nat Obj.engineClockMHz)

/-- Whether a tenant is enabled (R184, R194). -/
def State.enabled (s : State) (t : Nat) : Bool := Nat.blt t 8 && s.bitOf Obj.tenantEnable t

/-- divide() of R186. -/
def Window.divide (w : Window) : Window :=
  let sum := (w.tenants.map (·.orig)).sum
  let cut (a : Admit) : Admit := { a with res := Nat.max a.used (a.orig * w.cap / Nat.max 1 sum) }
  let full (a : Admit) : Admit := { a with res := a.orig }
  let ts := w.tenants.map fun a => if w.cap < sum then cut a else full a
  { w with tenants := ts, spare := w.cap - (ts.map (·.res)).sum - w.spent }

/-- A new window with what levels 1 and 2 are known to take in it (R186). -/
def State.openWindow (s : State) (start ms level1 level2 : Nat) : State :=
  let r := s.nat Obj.ratedIngest
  let ts := (List.range 8).map fun t =>
    let orig := if s.enabled t then r * ms * s.nat (Obj.ingestShareMille t) / 1000000 else 0
    ({ orig, res := 0, used := 0, best := 0, offered := 0 } : Admit)
  let w : Window :=
    { started := true, start, ms, cap := r * ms / 1000 * s.clockShare / 1000 - level1 - level2, taken1 := level1, taken2 := level2,
      mhz := s.clockShare, spare := 0, spent := 0, tenants := ts, breached := [] }
  { s with win := w.divide }

/-- Capacity that levels 1 and 2 take in the window beyond what its cap allows for (R186). -/
def State.takeCapacity (s : State) (level1 level2 : Nat) : State :=
  let w := s.win
  { s with win := { w with cap := w.cap - level1 - level2, taken1 := w.taken1 + level1,
                           taken2 := w.taken2 + level2 }.divide }

/-- A frame of a tenant asks for admission (R186): taken under its reservation or the spare capacity. Before the first window
starts every frame is taken. -/
def State.admitFrame (s : State) (t : Nat) : Bool × State :=
  if !s.win.started then (true, s)
  else
    let w := s.win
    let w := { w with tenants := lmod w.tenants t fun a => { a with offered := a.offered + 1 } }
    match w.tenants[t]? with
    | none => (false, s)
    | some a =>
      if a.used < a.res then (true, { s with win := { w with tenants := lmod w.tenants t fun a => { a with used := a.used + 1 } } })
      else if 0 < w.spare then
        (true, { s with win := { w with spare := w.spare - 1, spent := w.spent + 1,
                                        tenants := lmod w.tenants t fun a => { a with best := a.best + 1 } } })
      else (false, { s with win := w })

/-! ### Breaches (R187, R188) -/

/-- The payload of a GUARANTEE_BREACH record (R188). -/
def breachPayload (t level displaced unit start ms entitled delivered : Nat) : Nat :=
  pack [(1, t), (1, level), (1, displaced), (1, unit), (10, timeOf start), (2, ms), (4, entitled), (4, delivered),
    (4, entitled - delivered), (4, 0)]

/-- A breach recorded (R188): counted, and for each tenant, level and window one record in the operational log and the tenant's
uplink. -/
def State.breach (s : State) (t level displaced unit start ms entitled delivered : Nat) : State :=
  let s := s.bump (if level = 4 then Obj.reserveBreaches t else Obj.latencyBreaches t)
  if s.win.breached.contains (t, level) then s
  else
    let s := { s with win.breached := (t, level) :: s.win.breached }
    let s := s.logOp 0x3001 t (breachPayload t level displaced unit start ms entitled delivered)
    match (s.logOf 2).recs.head? with
    | some e => if s.nat Obj.mediaState = 0 then s.uplink t { ty := 5, len := 64, data := e.pack true } 0 else s
    | none => s

/-- The highest-precedence level that took capacity in the window, 0x0F where none did (R188). -/
def Window.displacedBy (w : Window) : Nat := if w.taken1 ≠ 0 then 1 else if w.taken2 ≠ 0 then 2 else 0x0F

/-- The window's breaches of level 4 as it ends (R188). -/
def State.closeWindow (s : State) : State :=
  let w := s.win
  if !w.started then s
  else
    (List.range 8).foldl (fun (s : State) (t : Nat) =>
      match w.tenants[t]? with
      | none => s
      | some a =>
        if a.orig ≠ 0 ∧ a.orig ≤ a.offered ∧ a.used + a.best < a.orig then
          s.breach t 4 w.displacedBy 0 w.start w.ms a.orig a.used
        else s) s

/-- GUARANTEE_WINDOW_START (R186): at the start of a window the one before it ends; within a window it tells of further
capacity that levels 1 and 2 take. -/
def State.guaranteeWindow (s : State) (level1 level2 : Nat) : State :=
  if !s.serving then s
  else
    let ms := s.nat Obj.guaranteeWindowMs
    let len := ms * 1000000
    let start := s.now - s.now % Nat.max 1 len
    if s.win.started && Nat.blt s.now (s.win.start + s.win.ms * 1000000) && Nat.ble s.win.start s.now then
      s.takeCapacity level1 level2
    else s.closeWindow.openWindow start ms level1 level2

/-- GUARANTEE_WINDOW_START (R186). -/
def execGuaranteeWindowStart (level1 level2 : Nat) (s : State) : Host.Outcome State Fault Refusal :=
  .next (s.guaranteeWindow level1 level2)

/-- COMMAND_LATENCY_MISS (R187, R188). -/
def State.latencyMiss (s : State) (t displaced due onTime : Nat) : State :=
  if s.up ∧ t < 8 then
    let ms := s.nat Obj.guaranteeWindowMs
    let start := if s.win.started then s.win.start else s.now - s.now % Nat.max 1 (ms * 1000000)
    s.breach t 5 displaced 1 start ms due onTime
  else s

/-- COMMAND_LATENCY_MISS (R187). -/
def execCommandLatencyMiss (tenant displacedBy due onTime : Nat) (s : State) : Host.Outcome State Fault Refusal :=
  .next (s.latencyMiss tenant displacedBy due onTime)

/-! ### Storms (R189 to R191) -/

/-- The length of a storm window in ns (R189). -/
def State.stormLen (s : State) : Nat := Nat.max 1 (s.nat Obj.stormWindowMs * 1000000)

/-- Whether a storm key is in storm mode (R189). -/
def StormKey.on (x : StormKey) : Bool := x.outage || x.restoration

/-- StormKeysActive follows the keys (R193). -/
def State.countStorms (s : State) : State := s.set Obj.stormKeysActive (s.storms.filter (·.on)).length

/-- The storm key of a serving concentrator and a cell. -/
def State.stormKey (s : State) (serving cell : Nat) : Option StormKey :=
  s.storms.find? fun x => x.serving == serving && x.cell == cell

/-- A storm key put in place of the one with its concentrator and cell. -/
def State.putStorm (s : State) (x : StormKey) : State :=
  { s with storms := if (s.stormKey x.serving x.cell).isSome then
      s.storms.map fun (y : StormKey) => if y.serving == x.serving && y.cell == x.cell then x else y
    else s.storms ++ [x] }.countStorms

/-- The windows of a key with an entry changed, opened where there is none. -/
def stormEntry (ws : List StormWin) (k kind t : Nat) (f : StormWin → StormWin) : List StormWin :=
  if ws.any fun w => w.k == k && w.kind == kind && w.tenant == t then
    ws.map fun (w : StormWin) => if w.k == k && w.kind == kind && w.tenant == t then f w else w
  else ws ++ [f { k, kind, tenant := t, total := 0, count := 0, first := 0, last := 0, changed := 0, summed := false }]

/-- One more notification in an entry, `off` ms after the start of its window. -/
def StormWin.add (w : StormWin) (off : Nat) : StormWin :=
  { w with total := w.total + 1, count := w.count + 1, first := if w.count = 0 then off else Nat.min w.first off,
           last := if w.count = 0 then off else Nat.max w.last off }

/-- Notifications of a kind in a window of a key (R189). -/
def StormKey.total (x : StormKey) (k kind : Nat) : Nat :=
  ((x.wins.filter fun w => w.k == k && w.kind == kind).map (·.total)).sum

/-- A notification reaches step 5 (R189): counted in the window of its stamp; whether it is handled in storm mode. -/
def State.notification (s : State) (serving cell kind t stamp : Nat) : Bool × State :=
  let k := stamp / s.stormLen
  let x := (s.stormKey serving cell).getD
    { serving, cell, outage := false, restoration := false, wins := [], changed := [], seen := [] }
  let x := { x with wins := stormEntry x.wins k kind t (·.add (stamp % s.stormLen / 1000000)) }
  let enter := Nat.blt (s.nat Obj.stormEnterCount) (x.total k kind)
  let x := { x with outage := x.outage || (enter && kind == 1), restoration := x.restoration || (enter && kind == 2) }
  (x.on, s.putStorm x)

/-- A storm summary's payload (R191). -/
def State.stormPayload (s : State) (x : StormKey) (w : StormWin) : Nat :=
  pack [(2, x.serving), (1, x.cell), (1, w.kind), (1, w.tenant), (1, 0), (4, w.count), (10, timeOf (w.k * s.stormLen)),
    (2, w.first), (2, w.last), (4, w.changed), (4, 0)]

/-- The summary of an entry (R191): to the tenant's uplink and the operational log. -/
def State.emitStorm (s : State) (x : StormKey) (w : StormWin) : State :=
  (s.uplink w.tenant { ty := 4, len := 32, data := s.stormPayload x w } 0).logOp 0x3002 w.tenant (s.stormPayload x w)

/-- Whether an entry is summed as window z ends (R191): any not yet reported of a key in storm mode; of another key those added to
a window already reported. -/
def StormWin.due (w : StormWin) (on : Bool) (z : Nat) : Bool :=
  Nat.ble w.k z && ((w.summed && w.count != 0) || (on && !w.summed))

/-- The entries of a key in storm mode as window z ends: every kind in storm mode and tenant of the storm has one (R191). -/
def StormKey.withEmpty (x : StormKey) (z : Nat) : List StormWin :=
  let who := (x.wins.filter fun w => w.summed && ((w.kind == 1 && x.outage) || (w.kind == 2 && x.restoration))).map
    fun w => (w.kind, w.tenant)
  who.foldl (fun (ws : List StormWin) (e : Nat × Nat) => stormEntry ws z e.1 e.2 id) x.wins

/-- STORM_WINDOW_END (R189, R191): the summaries of the window that ended last, and the end of storm mode of the kinds that stayed
below StormExitCount in it. -/
def State.stormWindowEnd (s : State) (serving cell : Nat) : State :=
  match s.stormKey serving cell with
  | none => s
  | some x =>
    let k := s.now / s.stormLen
    if !s.serving ∨ k = 0 then s
    else
      let z := k - 1
      let ws := if x.on then x.withEmpty z else x.wins
      let s := (ws.filter (·.due x.on z)).foldl (fun (s : State) (w : StormWin) => s.emitStorm x w) s
      let stays (kind : Nat) : Bool := Nat.ble (s.nat Obj.stormExitCount) (x.total z kind)
      let y := { x with outage := x.outage && stays 1, restoration := x.restoration && stays 2 }
      let mark (w : StormWin) : StormWin :=
        if w.due x.on z then { w with summed := true, count := 0, first := 0, last := 0, changed := 0 } else w
      let keep := (ws.map mark).filter fun w => w.summed || Nat.blt z w.k
      s.putStorm { y with wins := keep, changed := if y.on then y.changed else [] }

/-- STORM_WINDOW_END (R191). -/
def execStormWindowEnd (concentrator cell : Nat) (s : State) : Host.Outcome State Fault Refusal :=
  .next (s.stormWindowEnd concentrator cell)

/-- A storm notification's result (R190, R191): whether the endpoint had one of the kind in the window before, and the state of the
storm after it, with `flip` where SummaryFlags bit 0 changed. -/
def State.stormResult (s : State) (serving cell kind t tag stamp : Nat) (flip : Bool) : Bool × State :=
  match s.stormKey serving cell with
  | none => (false, s)
  | some x =>
    let k := stamp / s.stormLen
    let again := x.seen.contains (tag, kind, k)
    let first := flip && x.on && !(x.changed.any fun e => e.1 == tag)
    let x := { x with seen := if again then x.seen else (tag, kind, k) :: x.seen,
                      changed := if first then (tag, kind) :: x.changed else x.changed,
                      wins := if first then stormEntry x.wins k kind t (fun w => { w with changed := w.changed + 1 }) else x.wins }
    (again, s.putStorm x)

end Sys2Proof.Machine
end

