-- ==== Sys2Proof/Machine/Cascade.lean ====
section
/-! DEFINITION. The cascade between concentrators (R31, R33, R51 to R55): sessions, forwarded frames, confirmations, downward
commands, relayed uplink records. The field part's session to the concentrator above it has key 65536. -/

namespace Sys2Proof.Machine

/-- The key of the session to the concentrator above. -/
abbrev upstream : Nat := 65536

/-- Whether a cascade session is up. -/
def State.cascadeUp (s : State) (n : Nat) : Bool := ((tget s.cascades n).map (·.up)).getD false

/-- A cascade message sent (R52), with the part's own number as its sender's. -/
def State.sendCascade (s : State) (m : CascadeMsg) : State := { s with cascadeOut := s.cascadeOut ++ [{ m with source := s.ownNumber }] }

/-- The number of the concentrator above, as its session gave it (R51, R52). -/
def State.above (s : State) : Nat := ((tget s.cascades upstream).map (·.number)).getD 0

/-- Frames of the forwarding journal sent again in order after a session is back (R54). -/
def State.resend (s : State) : State :=
  s.nand.forward.foldl (fun (s : State) (e : Forward) => s.sendCascade { e.msg with flags := 2 }) s

/-- CASCADE_SESSION_START (R51, R54, R166, R168): a subordinate must match an entry of SubordinateTable in number, serial and key, and
Locket must take part in the handshake; the session's traffic keys are derived. -/
def State.cascadeStart (s : State) (n serial hash : Nat) : State :=
  if !(s.up && s.mayHandshake) then s
  else if s.pw.regional then
    if s.subordinates.any fun e => e.1 == n && e.2.1 == serial && e.2.2 == hash then
      { s with cascades := tput s.cascades n { up := true, serial, number := n, failed := none } }.openTraffic (256 + n)
    else s
  else ({ s with cascades := tput s.cascades upstream { up := true, serial, number := n, failed := none } }.openTraffic (256 + upstream)).resend

/-- CASCADE_SESSION_START (R51). -/
def execCascadeSessionStart (number serial keyHash : Nat) (s : State) : Host.Outcome State Fault Refusal :=
  .next (s.cascadeStart number serial keyHash)

/-- CASCADE_SESSION_LOSS (R54): its traffic keys are gone (R144). -/
def State.cascadeLoss (s : State) (n : Nat) : State :=
  let k := if s.pw.regional then n else upstream
  { s with cascades := tmod s.cascades k fun (c : Cascade) => { c with up := false } }.closeTraffic (256 + k)

/-- CASCADE_SESSION_LOSS (R54). -/
def execCascadeSessionLoss (number : Nat) (s : State) : Host.Outcome State Fault Refusal := .next (s.cascadeLoss number)

/-- The bytes of the forwarding journal (R55). -/
def State.forwardBytes (s : State) : Nat := (s.nand.forward.map (·.size)).sum

/-- Whether Midway withholds TCP window on the cascade sessions (R34, R171): the queues 16 to 19 and the ingest and forwarding buffers, of
1,024 MiB in regional role, are full. -/
def State.withholds (s : State) : Bool :=
  ((List.range 4).all fun k => ((tget s.mem.queues (16 + k)).map fun w => w.credits.getD 0 0 == 0).getD false) &&
  Nat.ble 1073741824 ((s.frames.map (·.length)).sum + s.cask.dirty + s.forwardBytes)

/-- FORWARDED_FRAME (R31, R52, R171): a type-1 message enters the intake queue of its subordinate, unless window is withheld. -/
def State.forwardedFrame (s : State) (n seq tag cell : Nat) (i : RxInfo) : State :=
  if s.accepting && s.fw.matched != 255 && !(s.frames.any (·.replay)) && s.pw.regional && s.cascadeUp n && !s.withholds then
    let (x, _, s) := s.pushFrame (intakeQueue n) 0 0 none i.length i.frame
    let f : Frame := { s.newFrame cell i with forwarded := some (n, seq), tag := tag, item := x }
    { s with frames := s.frames ++ [f], nextFrame := s.nextFrame + 1 }
  else s

/-- FORWARDED_FRAME (R31). -/
def execForwardedFrame (number sequence tag cell : Nat) (i : RxInfo) (s : State) : Host.Outcome State Fault Refusal :=
  .next (s.forwardedFrame number sequence tag cell i)

/-- What this part has committed of the frames of a subordinate (R54). -/
def State.brought (s : State) (n : Nat) : Brought := (tget s.nand.brought n).getD { confirmed := 0, done := [] }

/-- Whether a frame of a subordinate is committed here (R54). -/
def Brought.has (b : Brought) (seq : Nat) : Bool := Nat.ble seq b.confirmed || b.done.contains seq

/-- The sequence that a type-2 message to a subordinate may confirm (R54): every frame up to it is committed here. -/
def State.confirmable (s : State) (n : Nat) (c : Cascade) : Nat :=
  let b := s.brought n
  let waiting := s.frames.filterMap fun f =>
    match f.forwarded with
    | some (m, q) => if m == n && Nat.blt f.stage 4 && !b.has q then some q else none
    | none => none
  let open_ := waiting ++ c.failed.toList
  (b.done.filter fun q => open_.all fun o => Nat.blt q o).foldl Nat.max b.confirmed

/-- A forwarded frame leaves the steps before 4 (R54): committed, or not. What can be confirmed is confirmed. -/
def State.settleForward (s : State) (f : Frame) (ok : Bool) : State :=
  match f.forwarded with
  | none => s
  | some (n, seq) =>
    match tget s.cascades n with
    | none => s
    | some c =>
      let b := s.brought n
      let c := if ok || b.has seq then c else { c with failed := some ((c.failed.map (Nat.min seq)).getD seq) }
      let b := if ok && !b.has seq then { b with done := seq :: b.done } else b
      let s := { s with cascades := tput s.cascades n c, nand.brought := tput s.nand.brought n b }
      let top := s.confirmable n c
      if c.up ∧ top ≠ 0 then
        let b : Brought := { confirmed := top, done := b.done.filter (Nat.blt top) }
        { s with nand.brought := tput s.nand.brought n b }.sendCascade
          { typ := 2, flags := 0, source := 0, target := n, seq := top, tag := 0, time := s.now, cell := 0, quality := 0, length := 0,
            payload := 0 }
      else s

/-- INGEST_CONFIRMATION (R54): cumulative. -/
def State.ingestConfirmation (s : State) (seq : Nat) : State :=
  if s.up ∧ !s.pw.regional then { s with nand.forward := s.nand.forward.filter fun e => Nat.blt seq e.seq } else s

/-- INGEST_CONFIRMATION (R54). -/
def execIngestConfirmation (sequence : Nat) (s : State) : Host.Outcome State Fault Refusal := .next (s.ingestConfirmation sequence)

/-- A type-3 message to a concentrator below (R52). DESIGN CHOICE (log entry 95): messages of types 2 and 3 carry no frame, and their
FrameTime is the counter's present time. -/
def State.downMessage (s : State) (broadcast : Bool) (source target tag length payload : Nat) : CascadeMsg :=
  { typ := 3, flags := b2n broadcast, source, target, seq := 0, tag, time := s.now, cell := 0, quality := 0, length,
    payload := payload % 256 ^ length }

/-- DOWNWARD_COMMAND (R52): a regional part sends it to the concentrator named, or to each below it; a field part takes in one that
names it or is a broadcast. -/
def State.downward (s : State) (broadcast : Bool) (target tag length payload : Nat) : State :=
  if !s.up then s
  else if s.pw.regional then
    let to_ := s.subordinates.filter fun e => (broadcast || e.1 == target) && s.cascadeUp e.1
    to_.foldl (fun (s : State) (e : Nat × Nat × Nat) => s.sendCascade (s.downMessage broadcast s.ownNumber e.1 tag length payload)) s
  else if s.cascadeUp upstream ∧ (broadcast = true ∨ target = s.ownNumber) then
    { s with cascadeIn := s.cascadeIn ++ [s.downMessage broadcast s.above target tag length payload] }
  else s

/-- DOWNWARD_COMMAND (R52). -/
def execDownwardCommand (broadcast : Bool) (target tag length payload : Nat) (s : State) : Host.Outcome State Fault Refusal :=
  .next (s.downward broadcast target tag length payload)

/-- The tenant whose uplink an uplink record belongs to (R175, R191, R213, R292, R321). -/
def State.recordTenant (s : State) (ty data : Nat) : Option Nat :=
  match ty with
  | 1 => some (byteAt data 18)
  | 2 => (s.record (bytesAt data 0 8)).map (·.tenant)
  | 3 => some (byteAt data 2)
  | 4 => some (byteAt data 4)
  | 5 => some (byteAt data 5)
  | 6 => some (byteAt data 2)
  | _ => none

/-- The length of an uplink record (R291). -/
def recordLength (ty data : Nat) : Nat :=
  match ty with
  | 1 => 40
  | 2 => 512
  | 3 => 64
  | 4 => 32
  | 5 => 64
  | _ => if bytesAt data 0 2 = 0x0100 then 40 else 32

/-- UPLINK_RECORD_BATCH (R33, R52, R53): the records of a subordinate relayed to the uplinks of their tenants. -/
def State.relay (s : State) (n : Nat) (records : List (Nat × Nat)) : State :=
  if s.up && s.pw.regional && s.cascadeUp n then
    records.foldl (fun (s : State) (e : Nat × Nat) =>
      match (s.recordTenant e.1 e.2).filter s.enabled with
      | some t => s.uplinkNow t { ty := e.1, len := recordLength e.1 e.2, data := e.2 } 0
      | none => s) s
  else s

/-- UPLINK_RECORD_BATCH (R52). -/
def execUplinkRecordBatch (number : Nat) (records : List (Nat × Nat)) (s : State) : Host.Outcome State Fault Refusal :=
  .next (s.relay number records)

/-- TUNNELLED_DATAGRAM (R38): the enabled tunnelled cell whose binding matches its source takes it; `source` is the binding's
address and port. -/
def State.tunnelled (s : State) (source : Nat) (i : RxInfo) : State :=
  if !s.up then s
  else
    match (List.range 9).find? fun n => s.bitOf Obj.cellEnable (n + 7) && s.nat (Obj.tunnelBinding n) != 0 &&
        bytesAt (s.nat (Obj.tunnelBinding n)) 0 18 == source % 256 ^ 18 with
    | some n => s.arrive (s.newFrame (n + 7) i)
    | none => s.bump Obj.tunnelUnmatched

/-- TUNNELLED_DATAGRAM (R38). -/
def execTunnelledDatagram (source : Nat) (i : RxInfo) (s : State) : Host.Outcome State Fault Refusal := .next (s.tunnelled source i)

end Sys2Proof.Machine
end

