-- ==== Sys2Proof/Machine/Path.lean ====
section
/-! DEFINITION. The path of a reading, steps 2 to 5 (R22, R25 to R30, R43, R44, R55, R150, R165, R171 to R175, R189). -/

namespace Sys2Proof.Machine

/-- Whether the steps before the ingest commit run (R29, R417). -/
def State.commits (s : State) : Bool := s.serving && s.pw.cause == 0 && !s.pw.standby

/-! ### Step 2 (R26, R30, R43, R44, R171) -/

/-- The duplicate counter of a cell (R26), kept beside the catalogue under a key of no catalogue object. -/
abbrev duplicateKey (cell : Nat) : Nat := 0xFD0000 + cell

/-- A frame discarded before its ingest commit; one forwarded is not committed here (R54). -/
def State.discard (s : State) (f : Frame) : State := (s.dropFrame f.id).settleForward f false

/-- A frame of an unknown address (R44). -/
def State.unknownFrame (s : State) (f : Frame) : State :=
  let e := (f.native, f.cell, f.quality, f.syncNs)
  ({ s with unknown := (e :: s.unknown).take 256 }.bump Obj.unknownAddressFrames).discard f

/-- Whether another copy of the frame is in flight (R26). A frame with the counter of one past its ingest commit that began after that
one's end is no copy: it was sent again (R30; DEDUCED, log entry 94). -/
def State.inFlight (s : State) (f : Frame) (tag : Nat) : Bool :=
  s.frames.any fun g => g.id != f.id && g.tag == tag && g.counter == f.counter && Nat.ble 2 g.stage && Nat.ble g.stage 9 &&
    (Nat.ble g.stage 3 || Nat.ble f.syncNs g.endNs)

/-- The link quality of a frame recorded (R26, R47): on an own cell in HeardCells; that of a forwarded copy, which no own cell heard,
beside the registry with its sender and cell (DESIGN CHOICE, log entry 94). -/
def State.hearFrame (s : State) (f : Frame) (tag : Nat) : State :=
  match f.forwarded with
  | some (n, _) => { s with relayed := tput s.relayed tag (n, f.cell, f.quality) }
  | none => s.modRecord tag fun r => r.hear f.cell f.quality

/-- Whether a frame expects an acknowledgement at all (R27, R40). -/
def Frame.expectsAck (f : Frame) (r : Record) : Bool := f.forwarded.isNone && (r.flag 4 || f.ackReq)

/-- The bytes of a forwarding-journal entry: the cascade message and its 8-byte index (R55). -/
def Frame.forwardSize (f : Frame) : Nat := 48 + f.length

/-- Whether an endpoint is billed at the concentrator above (R33, R40). -/
def State.billedAbove (s : State) (r : Record) : Bool := !s.pw.regional && r.flag 0

/-- The admitted frames that have not reached their ingest commit. -/
def State.admitted (s : State) : List Frame := s.frames.filter fun f => f.stage == 2 || f.stage == 3

/-- The bytes of the protected write buffer that admitted frames have reserved (R37, R171). -/
def State.reservedBytes (s : State) : Nat := (s.admitted.map (·.length)).sum

/-- The bytes of the forwarding journal that admitted frames of endpoints billed above have reserved (R37, R55, R171). -/
def State.reservedForward (s : State) : Nat :=
  ((s.admitted.filter fun f => ((s.record f.tag).map s.billedAbove).getD false).map Frame.forwardSize).sum

/-- Whether the resources that carry a frame to its commit can be reserved (R37, R171): space in the protected write buffer, and the
credits of the tenant's queues for the steps 3 to 9, one for each of its frames on the path. -/
def State.canCarry (s : State) (f : Frame) (r : Record) : Bool :=
  Nat.ble (s.cask.dirty + s.reservedBytes + f.length) s.cask.dirtyLimit &&
  Nat.blt (s.frames.filter fun g => g.tenant == r.tenant && Nat.ble 2 g.stage && Nat.ble g.stage 9).length
    (((List.range 6).map fun k => s.nat (Obj.seesawDepth (20 + 8 * k + r.tenant))).foldl Nat.min 65535)

/-- Whether the forwarding journal takes a frame of an endpoint billed above (R55). -/
def State.journalFits (s : State) (f : Frame) (r : Record) : Bool :=
  !s.billedAbove r || Nat.ble (s.forwardBytes + s.reservedForward + f.forwardSize) (s.nat Obj.forwardJournalLimit)

/-- A frame past its checks asks for admission (R55, R171, R186), which reserves what carries it to its commit: a forwarded one waits where
there is no capacity, another is refused; with the forwarding journal full, one of an endpoint billed above is refused and counted in the
operational log's repeats. -/
def State.askAdmission (s : State) (f : Frame) (r : Record) (retx : Bool) : State :=
  let refuse (s : State) : State :=
    if f.forwarded.isSome then s
    else (s.bump (Obj.ingestRefused r.tenant)).discard f
  if !(retx || s.journalFits f r) then refuse (s.logOp 0x300A r.tenant (pack [(8, r.tag)]))
  else if !(retx || s.canCarry f r) then refuse s
  else
    match s.admitFrame r.tenant with
    | (true, s) =>
      let seen := s.nand.stageSeq
      let resp := !f.missed && s.asks f r
      let g : Frame := { f with tag := r.tag, tenant := r.tenant, retx := retx, stageSeen := seen, resp := resp }
      let (ask, s) := if resp then s.askResponse g else (0, s)
      s.toStage { g with ask := ask } 2
    | (false, s) => refuse s

/-- LINK_LAYER (R26, R30, R40, R43, R44, R171, R184). -/
def State.linkLayer (s : State) (id : Nat) : State :=
  match (s.frame id).filter fun f => f.stage == 1 with
  | none => s
  | some f =>
    if !s.commits then s
    else
      match s.recordFor f with
      | none => s.unknownFrame f
      | some r =>
        if r.bad then (s.badRecord r).discard f
        else if s.enabled r.tenant = false then
          if f.forwarded.isSome then s else (s.bump (Obj.ingestRefused r.tenant)).discard f
        else if s.inFlight f r.tag then ((s.bump (duplicateKey f.cell)).hearFrame f r.tag).dropFrame id
        else if f.counter < r.upCounter then s.discard f
        else s.askAdmission f r (f.counter == r.upCounter && r.counted)

/-- LINK_LAYER (R43). -/
def execLinkLayer (frame : Nat) (s : State) : Host.Outcome State Fault Refusal := .next (s.linkLayer frame)

/-! ### Step 3 (R30, R47, R90, R146, R150, R151, R165) -/

/-- A frame authenticated at step 3 (R30, R45, R47, R90, R146, R151): its key is kept for a response that is due, while one of the
response slots is free; a retransmission is acknowledged again, and goes no further. From a DLMS/COSEM frame on, the dedicated keys of
its endpoint's association are held (R144, R154). -/
def State.authenticated (s : State) (f : Frame) (r : Record) : State :=
  let s := s.hearFrame f r.tag
  let key := ((s.blobOf r).bind (s.keyOf r)).getD 0
  let s := if f.suite ≤ 1 then s.holdDedicated r.tag (Config.dedicatedKey key f.bytes) else s
  let s := s.modRecord r.tag fun r => { r with state := if r.state = 1 then 2 else r.state }
  let full := f.resp && Nat.ble (s.nat Obj.responseSlotLimit) s.loc.responding.length
  let s := if full then s.bump (Obj.responsesMissed f.port) else s
  let resp := f.resp && !full
  let s := if resp then
      let s := s.holdKey f.id key
      { s with loc.responding := s.loc.responding ++ [f.id] }
    else s.takeAsk f
  if f.retx then
    if resp then s.toStage f 11
    else
      let s := if f.expectsAck r then s.owesAck r.tag else s
      (s.dropFrame f.id).settleForward f true
  else s.toStage { f with resp := resp, missed := f.missed || full } 3

/-- Whether the authentication key that a DLMS/COSEM frame with authentication needs is there (R165): protocol slot 0 for suites 0 and
1, slot 1 for suite 2. -/
def State.hasAuthKey (s : State) (t suite : Nat) : Bool := Nat.ble 2 suite || (tget s.loc.keys.proto (32 * t + suite)).isSome

/-- UNWRAP (R146, R150, R165, R168): a refusal or a failed authentication discards the frame; `tagged` where its security has
authentication, whose key must be there. While zeroize is asserted every unwrap is refused. -/
def State.unwrapFrame (s : State) (id : Nat) (authentic tagged : Bool) : State :=
  match (s.frame id).filter fun f => f.stage == 2 with
  | none => s
  | some f =>
    if !(s.commits && s.turnOf f (s.frames.filter fun g => g.stage == 2)) then s
    else if s.loc.zeroizing then s.discard f
    else
      match (s.record f.tag).filter Record.live with
      | none => s.unknownFrame f
      | some r =>
        if 7 ≤ f.suite then ((s.served f).refuseSecurity r).discard f
        else if 2048 ≤ s.loc.working.length then s.bump Obj.workingSlotWaits
        else
          match s.unwrapResult r f.suite with
          | 0 =>
            if authentic && (!tagged || s.hasAuthKey r.tenant f.suite) then s.authenticated f r
            else (s.served f).discard f
          | code => ((s.served f).refuseBlob r code).discard f

/-- UNWRAP (R150). -/
def execUnwrap (frame : Nat) (authentic tagged : Bool) (s : State) : Host.Outcome State Fault Refusal :=
  .next (s.unwrapFrame frame authentic tagged)

/-! ### Step 4 (R27, R33, R54, R55, R90) -/

/-- The type-1 message of a committed frame from a sender to the billing home of its endpoint (R33, R52). -/
def Frame.message (f : Frame) (source target seq : Nat) : CascadeMsg :=
  { typ := 1, flags := 0, source, target, seq, tag := f.tag, time := f.syncNs, cell := f.cell, quality := f.quality,
    length := f.length, payload := f.bytes }

/-- A committed frame of an endpoint billed above (R33): kept until it is confirmed, sent while the session is up; only its response
is left of it here. -/
def State.forwardUp (s : State) (f : Frame) (r : Record) (seq : Nat) : State :=
  let m := f.message s.ownNumber r.billingHome seq
  let e : Forward := { seq, size := f.forwardSize, msg := m }
  let s := { s with nand.forward := s.nand.forward ++ [e] }
  let s := if s.cascadeUp upstream then s.sendCascade m else s
  if f.resp then s else s.dropFrame f.id

/-- A frame entered in the ingest journal (R27, R40, R264): durable, its counter the endpoint's UplinkCounter. -/
def State.enterJournal (s : State) (f : Frame) (r : Record) : State :=
  let seq := s.nand.ingestSeq + 1
  let serving := match f.forwarded with
    | some (n, _) => n
    | none => s.ownNumber
  let s := { s with nand.ingestSeq := seq }.modRecord r.tag fun r =>
    { r with upCounter := f.counter, lastHeard := f.syncNs / nsPerS, lastCell := f.cell, lastQuality := f.quality, serving := serving,
             counted := true }
  let s := (s.toStage { f with journal := seq } (if s.billedAbove r then 11 else 4)).commit f.length 1
  let f := (s.frame f.id).getD f
  let s := if f.expectsAck r && !f.resp then s.owesAck r.tag else s
  let s := s.settleForward f true
  if s.billedAbove r then s.forwardUp f r seq
  else
    let e : Ingest := { seq, frame := f, held := false, programmed := false }
    { s with nand.ingest := s.nand.ingest ++ [e] }

/-- INGEST_COMMIT (R27, R50, R55, R302, R315): it waits while the buffer or, for an endpoint billed above, the forwarding journal cannot take
it; none is made while the media is read-only; an endpoint removed since is unknown. -/
def State.ingestCommit (s : State) (id : Nat) : State :=
  match (s.frame id).filter fun f => f.stage == 3 with
  | none => s
  | some f =>
    if !(s.commits && s.turnOf f (s.frames.filter fun g => g.stage == 3)) then s
    else if s.nat Obj.mediaState ≠ 0 then ((s.purgeSlot id).bump Obj.readOnlyRefusals).discard f
    else if !s.fits f.length then s
    else
      match (s.record f.tag).filter Record.live with
      | none => (s.purgeSlot id).unknownFrame f
      | some r =>
        if s.billedAbove r && Nat.blt (s.nat Obj.forwardJournalLimit) (s.forwardBytes + f.forwardSize) then s
        else s.enterJournal f r

/-- INGEST_COMMIT (R27). -/
def execIngestCommit (frame : Nat) (s : State) : Host.Outcome State Fault Refusal := .next (s.ingestCommit frame)

/-! ### Step 5 (R25, R172 to R175, R189, R202, R218) -/

/-- Whether an element of a protocol and identifier matches an entry of a ParseMap (R173). -/
def mapMatches (w : Nat) (e : Element) : Bool :=
  w != 0 && byteAt w 0 == (if e.proto = 3 then 2 else e.proto) && bytesAt w 2 6 == e.ident

/-- The quantity codes that a tenant's ParseMap gives an element (R173); Pendant payload is coded as EN 13757-3 records (R172). -/
def State.quantitiesOf (s : State) (t : Nat) (e : Element) : List Nat :=
  ((List.range 255).filter fun i => mapMatches (s.nat (Obj.parseMap t i)) e).map fun i => bytesAt (s.nat (Obj.parseMap t i)) 8 2 % 4096

/-- The channel on which an element of an endpoint becomes a reading (R173): the lowest that is set in ChannelMask with one of the
element's quantity codes. -/
def State.channelFor (s : State) (r : Record) (e : Element) : Option Nat :=
  let qs := s.quantitiesOf r.tenant e
  (List.range 16).find? fun n => bit r.chanMask n && qs.contains (r.quantity n)

/-- Seconds from 1970 that local civil time of UTC seconds shows under an image. -/
def LocalTime.stamp (l : LocalTime) : Nat := daysFromCivil l.year l.month l.day * 86400 + l.minute * 60 + l.sec

/-- UTC of local civil seconds under an image (R175, R202): the first occurrence of a repeated hour; standard time where the local time
does not occur. -/
def utcOfLocal (g l : Nat) : Nat :=
  let off := imgUtcOffset g
  let early := ((l : Int) - (off + byteAt g 12) * 60).toNat
  let late := ((l : Int) - off * 60).toNat
  if (localOf g early false).stamp = l then early else late

/-- ReadingTime of an element (R24, R175, R264). -/
def State.timeOfElement (s : State) (f : Frame) (r : Record) (e : Element) : Nat :=
  match e.timeKind with
  | 0 => f.bill / nsPerS
  | 1 => s.taiOfUtc e.time e.leap
  | _ =>
    match s.imageAt r.calendar (f.bill / nsPerS) with
    | some g => s.taiOfUtc (utcOfLocal g e.time) e.leap
    | none => s.taiOfUtc e.time e.leap

/-- A protocol value in a channel's units (R174): rounded toward zero; whether a fraction was lost. -/
def rescale (v scaler scale : Int) : Int × Bool :=
  let e := scaler - scale
  if 0 ≤ e then (v * (10 ^ e.toNat : Nat), false)
  else
    let d : Nat := 10 ^ (-e).toNat
    (Int.tdiv v d, Int.tmod v d != 0)

/-- The reading of an element on a channel (R175). -/
def State.readingOf (s : State) (f : Frame) (r : Record) (ch : Nat) (e : Element) : Reading × State :=
  let (v, cut) := rescale e.value e.scaler (r.scale ch)
  let (v, s) := s.fitInt 8 v
  ({ key := mkKey r.tag ch, time := s.timeOfElement f r e, interval := e.interval, status := 64 * b2n cut + 16 * b2n e.powerOff,
     rule := 0xFF, tenant := r.tenant, origin := b2n f.forwarded.isSome, value := v, delta := 0 }, s)

/-- One element of a frame (R172, R173, R189, R218). An endpoint's own tariff register is a comparand of channel, rate, value and time,
the channel by its identifier with the rate taken out. -/
def State.parseElement (s : State) (f : Frame) (r : Record) (e : Element) : Frame × State :=
  let skip : Frame × State := (f, s.bump (Obj.parseSkipped r.tenant))
  let ch := s.channelFor r e
  if !e.supported then skip
  else if e.event = 0 then
    match ch with
    | none => skip
    | some c => let (x, s) := s.readingOf f r c e
                ({ f with readings := f.readings ++ [x] }, s)
  else if e.event ≤ 4 then
    if (s.quantitiesOf r.tenant e).contains 0xF0 then
      let (storm, s) := if e.event ≤ 2 then s.notification r.serving f.cell e.event r.tenant f.syncNs else (false, s)
      let (f, s) := match ch with
        | none => (f, s)
        | some c => let (x, s) := s.readingOf f r c e
                    ({ f with readings := f.readings ++ [x] }, s)
      let aux := if ch.isSome then f.readings.length else 0
      let ev : FrameEvent := { kind := e.event, code := e.code, aux, storm }
      ({ f with events := f.events ++ [ev], storm := f.storm || storm }, s)
    else skip
  else if e.event ≤ 8 then
    let ev : FrameEvent := { kind := e.event, code := e.code, aux := e.aux, storm := false }
    ({ f with events := f.events ++ [ev] }, s)
  else
    match ch with
    | some c =>
      if r.flag 5 && Nat.ble e.aux 7 then
        let (x, s) := s.readingOf f r c e
        ({ f with compare := f.compare ++ [(c, e.aux, x.value, x.time)] }, s)
      else skip
    | none => skip

/-- The frames that a step of the committed path may take (R25, R40): those at its stage whose record does not fail its CRC; at step 5 one
that is next of its endpoint. -/
def State.readyAt (s : State) (stage : Nat) : List Frame :=
  s.frames.filter fun g => g.stage == stage && ((s.record g.tag).map fun r => !r.bad).getD false && (stage != 4 || s.isNext g)

/-- A stage of the committed path (R22, R28, R170): the frame stands at the step before, and its consumer takes it in turn; steps past 4 run
on in Standby's entry (R417). No frame is processed against a record that fails its CRC; the frame goes on once the record is reloaded (R40). -/
def State.atStage (s : State) (id stage : Nat) (g : Frame → Record → State) : State :=
  match (s.frame id).filter fun f => f.stage == stage with
  | none => s
  | some f =>
    if !s.serving || s.pw.cause != 0 || s.loc.zeroizing then s
    else
      match s.record f.tag with
      | none => s
      | some r =>
        if r.bad then s.badRecord r
        else if stage = 7 then g f r
        else if s.turnOf f (s.readyAt stage) then g f r
        else s

/-- PARSE (R172): a frame that holds nothing it can parse yields no readings. -/
def State.parseFrame (s : State) (id : Nat) (elements : List Element) : State :=
  s.atStage id 4 fun f r =>
    if elements.all fun e => !e.supported then (s.toStage f 5).bump (Obj.parseUnsupported r.tenant)
    else
      let (f, s) := elements.foldl (fun (a : Frame × State) (e : Element) => a.2.parseElement a.1 r e) (f, s)
      s.toStage f 5

/-- PARSE (R172). -/
def execParse (frame : Nat) (elements : List Element) (s : State) : Host.Outcome State Fault Refusal :=
  .next (s.parseFrame frame elements)

end Sys2Proof.Machine
end

