-- ==== Sys2Proof/Machine/Results.lean ====
section
/-! DEFINITION. The path of a reading, steps 6 to 10 (R22, R25, R28, R178, R181, R190, R204, R237, R242, R327), key-held frames (R156), the
uplink batches (R194, R291). -/

namespace Sys2Proof.Machine

/-! ### Step 6 (R177, R178, R181, R190) -/

/-- The rule kinds of step 6 (R177). -/
def stepSixKinds : List Nat := [1, 2, 3, 5, 7, 8, 9]

/-- What step 6 has made of a frame so far: readings kept, failures of kind 9, the numbers of readings whose events do not count. -/
structure Judged where
  kept : List Reading
  reverse : List Nat
  void : List Nat
deriving DecidableEq, Repr

/-- Whether a reading repeats an actual one with an equal value (R183), stored or before it in its frame. -/
def State.repeatsStored (s : State) (kept : List Reading) (x : Reading) : Bool :=
  match (kept.reverse.find? fun y => y.key == x.key && y.time == x.time && y.interval == x.interval).or
      (s.stored x.key x.time x.interval) with
  | some y => !y.estimate && y.value == x.value
  | none => false

/-- Reading number n of a frame judged (R178, R190): of a storm notification only rules 5 and 7 run and no reading is kept. -/
def State.judgeNext (s : State) (f : Frame) (r : Record) (a : Judged × State) (e : Reading × Nat) : Judged × State :=
  let (x, n) := e
  let known := s.nand.archive ++ a.1.kept
  if f.events.any fun v => v.storm && v.aux == n then
    let y := s.judge known r f.syncNs [5, 7] x
    (if y.counts then a.1 else { a.1 with void := n :: a.1.void }, a.2)
  else if s.repeatsStored a.1.kept x then ({ a.1 with void := n :: a.1.void }, a.2.bump (Obj.duplicateReadings r.tenant))
  else
    let y := s.judge known r f.syncNs stepSixKinds x
    let back := s.reverse known r f.syncNs y
    ({ kept := a.1.kept ++ [y], reverse := if back then a.1.reverse ++ [9] else a.1.reverse,
       void := if y.counts then a.1.void else n :: a.1.void }, a.2)

/-- The Deltas of a frame's readings after immediate estimation (R177, R183). -/
def State.reDelta (s : State) (r : Record) (done : List Reading) : List Reading → List Reading
  | [] => []
  | x :: t =>
    let y : Reading :=
      if x.counts && isRegister (r.quantity (x.key % 16)) then
        match latestBefore (s.nand.archive ++ done) x.key x.time with
        | some p => { x with delta := deltaOf (s.rulesFor r (x.key % 16)) x.value p.value }
        | none => { x with delta := 0 }
      else x
    y :: s.reDelta r (done ++ [y]) t

/-- VALIDATION (R178, R181). -/
def State.validate (s : State) (id : Nat) : State :=
  s.atStage id 5 fun f r =>
    let (j, t) := (f.readings.zipIdx 1).foldl (fun a e => s.judgeNext f r a e) ({ kept := [], reverse := [], void := [] }, s)
    let xs := s.reDelta r [] (j.kept.map fun x => s.immediate r j.kept x)
    let evs := f.events.filter fun v => Nat.ble 5 v.kind || v.aux == 0 || !j.void.contains v.aux
    t.toStage { f with readings := xs, rejectedRules := j.reverse, events := evs } 6

/-- VALIDATION (R178). -/
def execValidation (frame : Nat) (s : State) : Host.Outcome State Fault Refusal := .next (s.validate frame)

/-! ### Steps 7 and 8 (R204, R214, R217, R237) -/

/-- The billing watermark of an endpoint's calendar (R212). -/
def State.watermark (s : State) (tag : Nat) : Nat := ((s.bill tag).map fun b => (s.calState b.calendar).w).getD 0

/-- The attribution of a reading at step 7 (R204, R214, R217): one that adds to the registers. -/
def State.attribute (s : State) (f : Frame) (r : Record) (x : Reading) : Option Booked :=
  if x.counts && isRegister (r.quantity (x.key % 16)) then
    (consumptionStart x (latestBefore s.nand.archive x.key x.time)).bind fun st =>
      s.bookOf r (s.watermark r.tag) st x x.delta (f.status == 3)
  else none

/-- BILLING (R204): the readings attributed; state changes in the result commit alone (R205). -/
def State.billFrame (s : State) (id : Nat) : State :=
  s.atStage id 6 fun f r =>
    let books := f.readings.filterMap (s.attribute f r)
    s.toStage { f with books := books } 7

/-- BILLING (R204). -/
def execBilling (frame : Nat) (s : State) : Host.Outcome State Fault Refusal := .next (s.billFrame frame)

/-- SCALES_ADD (R237): the additions of the frame's readings, made in its result commit. -/
def State.scalesAdd (s : State) (id : Nat) : State :=
  s.atStage id 7 fun f _ => s.toStage f 8

/-- SCALES_ADD (R237). -/
def execScalesAdd (frame : Nat) (s : State) : Host.Outcome State Fault Refusal := .next (s.scalesAdd frame)

/-! ### Step 9 (R28, R242, R327) -/

/-- EventSummary after a notification (R190, R327); `again`: a second one of its kind in a storm window. -/
def Summary.notify (e : Summary) (kind t : Nat) (storm again : Bool) : Summary :=
  let e := if kind = 1 then { e with outages := satAdd 65535 e.outages 1 }
    else { e with restorations := satAdd 65535 e.restorations 1 }
  if again then e
  else
    let e := { e with flags := setBit (setBit e.flags 0 (kind == 1)) 1 storm }
    if kind = 1 then { e with lastOutage := t } else { e with lastRestoration := t }

/-- EventSummary after another event (R327). -/
def Summary.alarm (e : Summary) (code t : Nat) : Summary :=
  { e with alarms := satAdd 65535 e.alarms 1, lastAlarmCode := code, lastAlarm := t }

/-- The tamper fields of a record after an event of its endpoint (R40). -/
def Record.tampered (r : Record) (code t : Nat) : Record :=
  { r with tamperCount := satAdd 4294967295 r.tamperCount 1, tamperFirst := if r.tamperCount = 0 then t else r.tamperFirst,
           tamperLast := t, tamperCode := code }

/-- An application acknowledgement of a staged item (R95, R225, R230, R401). -/
def State.itemAcked (s : State) (r : Record) (seq : Nat) : State :=
  match s.nand.items.find? fun i => i.seq == seq && i.tag == r.tag && (i.sends != 0 || i.held) with
  | none => s
  | some i =>
    let s := s.unstage seq r.tag
    match i.request with
    | some q => (s.switchAcked r q).endRequest q seq 1
    | none => s

/-- An event committed with its frame's result (R102, R189, R190, R226, R242, R327). -/
def State.frameEvent (s : State) (f : Frame) (e : FrameEvent) : State :=
  match s.record f.tag with
  | none => s
  | some r =>
    let t := f.syncNs / nsPerS
    match e.kind with
    | 1 | 2 =>
      let flip := bit r.summary.flags 0 != (e.kind == 1)
      let (again, s) := if e.storm then s.stormResult r.serving f.cell e.kind r.tenant r.tag f.syncNs flip else (false, s)
      let s := s.modRecord r.tag fun r => { r with summary := r.summary.notify e.kind t e.storm again }
      if e.storm then s else s.logOpFree 1 (pack [(8, r.tag), (1, e.kind), (2, e.code)])
    | 3 => s.modRecord r.tag fun r => { r with summary := r.summary.alarm e.code t }
    | 4 => (s.modRecord r.tag fun r => r.tampered e.code t).scoreAdd r.tag (s.nat Obj.tamperPoints) 3
    | 5 => s.acceptEmergency r
    | 6 => s.itemAcked r e.code
    | 7 => s.blockMissing e.aux r.tag e.code
    | _ => s.endpointComplete e.aux r.tag

/-- A frame's reading applied (R28, R209, R212): the endpoint first brought to where its consumption starts. -/
def State.applyReading (s : State) (f : Frame) (x : Reading) : State :=
  match s.record f.tag with
  | none => s
  | some r =>
    let start := (consumptionStart x (latestBefore s.nand.archive x.key x.time)).getD x.time
    let s := s.advanceFor r.tag start
    s.commitReading r (s.watermark r.tag) f.journal (f.status == 3) x

/-- A command that waited for frames of its endpoint (R25) carried out. -/
def State.runParked (s : State) (p : Parked) : State :=
  match p.cmd with
  | .topUp _ tag a seq => s.finishOrdered p Obj.topUp fun ses s => s.topUpBody tag a seq ses
  | .debtSet _ tag v seq share => s.finishOrdered p Obj.debtSet fun ses s => s.debtSetBody tag v seq share ses
  | .lockOutSet _ tag on => s.finishOrdered p Obj.lockOutSet fun ses s => s.lockOutBody tag on ses
  | .emergencyAccept _ tag => s.finishOrdered p Obj.emergencyAccept fun ses s => s.emergencyBody tag ses
  | .stageItem _ a => s.finishOrdered p Obj.stageItem fun ses s => s.stageBody a ses
  | .endpointRemove _ tag => s.finishOrdered p Obj.endpointRemove fun ses s => s.removeBody tag ses
  | .keyUpdateSubmit _ e u => s.finishOrdered p Obj.keyUpdateSubmit fun ses s => s.keyUpdateBody e u ses
  | _ => s

/-- Whether a waiting command still has a frame of its endpoint before it (R25). -/
def State.parkedWaits (s : State) (p : Parked) : Bool :=
  s.frames.any fun g => p.tags.contains g.tag && Nat.ble 4 g.stage && Nat.ble g.stage 8 && Nat.ble g.journal p.journal

/-- The commands that wait for an endpoint's frames, those with none before them left carried out in order (R25). -/
def State.releaseParked (s : State) (tag : Nat) : State :=
  let go := s.parked.filter fun p => p.tags.contains tag && !s.parkedWaits p
  let s := { s with parked := s.parked.filter fun p => !(p.tags.contains tag && !s.parkedWaits p) }
  go.foldl State.runParked s

/-- The ingest-journal entry of a frame superseded by its result (R28): what of it was not programmed need not be. -/
def State.supersede (s : State) (seq : Nat) : State :=
  let mine := s.nand.ingest.filter fun e => e.seq == seq && !e.programmed
  { s with nand.ingest := s.nand.ingest.filter fun e => e.seq != seq,
           cask.dirty := s.cask.dirty - (mine.map (·.frame.length)).sum }

/-- The bytes of a frame's result commit. -/
def Frame.resultSize (f : Frame) : Nat := 96 + 40 * f.readings.length

/-- RESULT_COMMIT (R28, R92): readings, register and credit deltas, balance additions, event records and the DownlinkCounter of its response
committed as one, wholly or not at all; then the commands that waited for the frame. -/
def State.resultCommit (s : State) (id : Nat) : State :=
  s.atStage id 8 fun f r =>
    if !s.fits f.resultSize then s
    else
      let s := { s with upHold := some [] }
      let s := f.readings.foldl (fun (s : State) (x : Reading) => s.applyReading f x) s
      let s := f.rejectedRules.foldl (fun (s : State) (_ : Nat) => s.scoreAdd r.tag (s.nat Obj.reverseFlowPoints) 2) s
      let s := f.compare.foldl (fun (s : State) (c : Nat × Nat × Int × Nat) => s.shadow r c.1 c.2.1 c.2.2.2 c.2.2.1) s
      let s := f.events.foldl (fun (s : State) (e : FrameEvent) => s.frameEvent f e) s
      let s := if f.down = 0 then s else s.modRecord f.tag fun r => { r with downCounter := Nat.max r.downCounter f.down }
      let s := (s.supersede f.journal).commit f.resultSize (f.readings.length + 1)
      let ups := s.upHold.getD []
      let s := { s with upHold := none }.toStage { f with replay := false, ups := ups } 9
      (s.releaseParked r.tag).finishReplay

/-- RESULT_COMMIT (R28). -/
def execResultCommit (frame : Nat) (s : State) : Host.Outcome State Fault Refusal := .next (s.resultCommit frame)

/-! ### Step 10 (R22, R194, R291) -/

/-- UPLINK_RECORD (R22 step 10): the frame leaves the path where no response of it is left. -/
def State.uplinkRecord (s : State) (id : Nat) : State :=
  match (s.frame id).filter fun f => f.stage == 9 with
  | none => s
  | some f =>
    if !s.serving || s.pw.cause != 0 || !s.turnOf f (s.frames.filter fun g => g.stage == 9) then s
    else
      let s := f.ups.foldl (fun (s : State) (u : Nat × UpRec × Nat) => s.uplinkNow u.1 u.2.1 u.2.2) s
      if f.resp then s.toStage { f with ups := [] } 11 else (s.served f).dropFrame id

/-- UPLINK_RECORD (R22). -/
def execUplinkRecord (frame : Nat) (s : State) : Host.Outcome State Fault Refusal := .next (s.uplinkRecord frame)

/-- Whether a tenant's batches go to host queues (R194, R289). -/
def State.toHost (s : State) (t : Nat) : Bool := s.nat (Obj.uplinkTarget t) == 0

/-- A retained batch marked as delivered. -/
def State.batchSent (s : State) (t seq : Nat) : State :=
  let mark (b : Batch) : Batch := if b.tenant == t && b.seq == seq then { b with sent := true } else b
  { s with nand.retained := s.nand.retained.map mark }

/-- Batches delivered to a kind-1 host queue in order (R289, R291): each takes its descriptors at once; with too few it waits and
Starved is set. -/
def State.pumpList (s : State) (q : Nat) : List Batch → State
  | [] => s
  | b :: bs =>
    match s.hqOf q with
    | none => s
    | some h =>
      match descsFor h.posted (b.bytes + 32) with
      | none => if h.starved then s else s.hqStarve q
      | some n =>
        let s := s.modHq q fun h => { h with given := h.given ++ [((h.head + n) % 4294967296, b.tenant, b.seq)] }
        let batch := packBatch b.seq b.tenant (b2n b.redelivered) (b.bytes + 32) b.journal b.recs.reverse
        let s := s.hqComplete q n (b.bytes + 32) b.tenant (b.seq % 4294967296) 0 (if b.redelivered then 0x200 else 0) batch
        (s.batchSent b.tenant b.seq).pumpList q bs

/-- The batches that wait for a kind-1 host queue delivered to it. -/
def State.pumpBatches (s : State) (q : Nat) : State :=
  match s.hqOf q with
  | none => s
  | some h =>
    if h.isKind 1 && s.hostUp then
      s.pumpList q (s.nand.retained.filter fun b => !b.sent && bit h.select b.tenant && s.toHost b.tenant)
    else s

/-- UPLINK_BATCH (R194): the batch closes; it leaves for the head end or the tenant's host queues. -/
def State.uplinkBatch (s : State) (t : Nat) : State :=
  if !s.up || s.pw.cause != 0 || !s.enabled t then s
  else
    let s := s.closeBatch t
    if s.toHost t then (List.range 16).foldl (fun (s : State) (q : Nat) => s.pumpBatches q) s
    else
      let mark (b : Batch) : Batch := if b.tenant == t then { b with sent := true } else b
      { s with nand.retained := s.nand.retained.map mark }

/-- UPLINK_BATCH (R194). -/
def execUplinkBatch (tenant : Nat) (s : State) : Host.Outcome State Fault Refusal := .next (s.uplinkBatch tenant)

/-- BATCH_CONFIRMATION (R194): the head end's confirmation releases a batch sent to it. -/
def State.batchConfirmation (s : State) (t seq : Nat) : State :=
  if s.up && !s.toHost t then
    { s with nand.retained := s.nand.retained.filter fun b => !(b.tenant == t && b.seq == seq && b.sent) }
  else s

/-- BATCH_CONFIRMATION (R194). -/
def execBatchConfirmation (tenant sequence : Nat) (s : State) : Host.Outcome State Fault Refusal :=
  .next (s.batchConfirmation tenant sequence)

/-- Batches not handed back are to be delivered again (R291). -/
def State.redeliver (s : State) (p : Batch → Bool) : State :=
  let mark (b : Batch) : Batch := if p b && b.sent then { b with sent := false, redelivered := true } else b
  { s with nand.retained := s.nand.retained.map mark }

/-! ### Key-held frames (R156) -/

/-- KeyHeldFrames follows the journal (R169). -/
def State.countHeld (s : State) : State := s.set Obj.keyHeldFrames ((s.nand.ingest.filter (·.held)).length : Nat)

/-- A frame of the ingest journal stands at step 5 again (R28, R156), its bytes in Big Top and its item in its tenant's queue. -/
def State.rejoin (s : State) (f : Frame) (replay : Bool) : State :=
  let f : Frame := { f with id := s.nextFrame, stage := 4, resp := false, replay := replay }
  let (x, desc, s) := s.pushFrame (36 + f.tenant) f.desc 64 (some 44) f.length f.bytes
  { s with frames := s.frames ++ [{ f with item := x, ask := 0, desc := desc }], nextFrame := s.nextFrame + 1 }

/-- KEY_HELD_RELEASE (R156): once the endpoint has a usable blob again, the frame takes steps 5 to 9 like one committed. -/
def State.keyHeldRelease (s : State) (seq : Nat) (authentic : Bool) : State :=
  match s.nand.ingest.find? fun e => e.seq == seq && e.held with
  | none => s
  | some e =>
    match s.record e.frame.tag with
    | none => s
    | some r =>
      if s.serving && s.pw.cause == 0 && !s.loc.zeroizing && authentic && s.unwrapResult r e.frame.suite == 0 then
        let free (x : Ingest) : Ingest := if x.seq == seq then { x with held := false } else x
        ({ s with nand.ingest := s.nand.ingest.map free }.rejoin e.frame false).countHeld
      else s

/-- KEY_HELD_RELEASE (R156). -/
def execKeyHeldRelease (sequence : Nat) (authentic : Bool) (s : State) : Host.Outcome State Fault Refusal :=
  .next (s.keyHeldRelease sequence authentic)

end Sys2Proof.Machine
end

