-- ==== Sys2Proof/Machine/CasketOps.lean ====
section
/-! DEFINITION. Casket (R296 to R317): placement of units in blocks, programs, block retirement, relocation, mounting and
formatting. -/

namespace Sys2Proof.Machine

/-! ### Blocks and units (R300, R303, R307) -/

/-- The blocks of a chip enable: 256 units of 4 KiB in a MiB (R303). -/
def Board_blocksPerCe (b : Board) : Nat := b.ceMiB * 256 / Nat.max 1 b.unitsPerBlock

/-- The channel of a block: chip enables are numbered channel + 2 × chip enable (R303). -/
def State.blockChannel (s : State) (b : Nat) : Nat :=
  match s.pw.board with
  | some x => b / Nat.max 1 (Board_blocksPerCe x) % 2
  | none => 0

/-- The stream of a partition (R301, R307). -/
def streamOf (partition : Nat) : Nat := if partition = 0 then 1 else if partition ≤ 2 then 2 else 3

/-- The map's key of a logical unit. -/
def mapKey (partition unit : Nat) : Nat := partition * 2 ^ 32 + unit

/-- The blocks in a state. -/
def Casket.inState (c : Casket) (st : Nat) : List (Nat × Block) := c.blocks.filter fun e => e.2.state == st

/-- The map entries that point into a block: its valid units. -/
def Casket.validIn (c : Casket) (b : Nat) : List (Nat × Nat) := c.map.filter fun e => e.2 / Nat.max 1 c.unitsPerBlock == b

/-- The block of a list that comes first by a measure; ties go to the one listed first. -/
def leastBy (m : Nat × Block → Nat) : List (Nat × Block) → Option (Nat × Block)
  | [] => none
  | e :: t =>
    match leastBy m t with
    | some x => if m x < m e then some x else some e
    | none => some e

/-- The block of a list with the highest measure; ties go to the one listed first. -/
def greatestBy (m : Nat × Block → Nat) : List (Nat × Block) → Option (Nat × Block)
  | [] => none
  | e :: t =>
    match greatestBy m t with
    | some x => if m e < m x then some x else some e
    | none => some e

/-- The free block a stream takes on a channel (R307): streams 0 and 1 the least erased, streams 2 to 4 the most erased, equal
counts the lower number. -/
def State.freeBlock (s : State) (stream chan : Nat) : Option Nat :=
  let free := (s.cask.inState 0).filter fun e => s.blockChannel e.1 == chan
  ((if stream ≤ 1 then leastBy (·.2.erases) free else greatestBy (·.2.erases) free)).map (·.1)

/-- The open block of a stream on a channel (R307). -/
def State.openBlock (s : State) (stream chan : Nat) : Option Nat :=
  ((s.cask.inState 1).find? fun e => e.2.stream == stream && s.blockChannel e.1 == chan).map (·.1)

/-- A block changed. -/
def State.modBlock (s : State) (b : Nat) (f : Block → Block) : State := { s with cask.blocks := tmod s.cask.blocks b f }

/-- The open block of a stream on a channel, taken from the pool where there is none; no block when the pool has none. -/
def State.ensureOpen (s : State) (stream chan : Nat) : Option Nat × State :=
  match s.openBlock stream chan with
  | some b => (some b, s)
  | none =>
    match s.freeBlock stream chan with
    | some b => (some b, s.modBlock b fun x => { x with state := 1, stream := stream, used := 0 })
    | none => (none, s)

/-- A unit placed in a stream's open block on a channel, the other channel's where the first has no block; a block that fills is
full, and the stream takes the next one (R307). -/
def State.placeUnit (s : State) (stream chan : Nat) : Option Nat × State :=
  let a := s.ensureOpen stream chan
  let (o, ch, s) := match a.1 with
    | some b => (some b, chan, a.2)
    | none =>
      let c := s.ensureOpen stream (1 - chan)
      (c.1, 1 - chan, c.2)
  match o with
  | none => (none, s)
  | some b =>
    let used := ((tget s.cask.blocks b).map (·.used)).getD 0
    let unit := b * s.cask.unitsPerBlock + used
    if used + 1 < s.cask.unitsPerBlock then (some unit, s.modBlock b fun x => { x with used := used + 1 })
    else
      let n := s.cask.fillSeq + 1
      let s := { s with cask.fillSeq := n }.modBlock b fun x => { x with state := 2, used := used + 1, filled := n }
      (some unit, (s.ensureOpen stream ch).2)

/-- The channel that a program of Casket uses: the spec names two open blocks for a stream and no choice between them. -/
def State.drawChannel (s : State) : Nat × State :=
  let (x, s) := s.draw
  (if ((s.pw.board.map (·.chipEnables)).getD 1) ≤ 1 then 0 else x % 2, s)

/-- Map-journal records written: k records and their GROUP_COMMIT, 32 bytes each (R304). -/
def State.journal (s : State) (k : Nat) : State :=
  { s with cask.journal := s.cask.journal + 32 * (k + 1), cask.journalSeq := s.cask.journalSeq + k + 1 }

/-- SpareBlocks below 20 (R315): the drive is full with worn spares, MediaState 1, with one legal record in the reserve. -/
def State.mediaReadOnly (s : State) : State :=
  if s.nat Obj.spareBlocks < 20 && s.nat Obj.mediaState == 0 then
    let s := s.set Obj.mediaState 1
    s.logLegal 0x1030 0xFF (pack [(4, s.nat Obj.spareBlocks)])
  else s

/-- A block retired as grown bad (R300): a BLOCK_RETIRED record, one spare less. -/
def State.retireBlock (s : State) (b : Nat) : State :=
  let s := (s.modBlock b fun x => { x with state := 4 }).journal 1
  let s := s.setPaired Obj.grownBadBlocks (s.get Obj.grownBadBlocks + 1)
  (s.set Obj.spareBlocks (s.nat Obj.spareBlocks - 1 : Nat)).mediaReadOnly

/-- EraseCountSpread (R318) follows the blocks in service. -/
def State.spread (s : State) : State :=
  let good := s.cask.blocks.filter fun e => e.2.state != 4
  let hi := ((greatestBy (·.2.erases) good).map (·.2.erases)).getD 0
  let lo := ((leastBy (·.2.erases) good).map (·.2.erases)).getD 0
  s.set Obj.eraseCountSpread (hi - lo : Nat)

/-- A physical unit programmed with the metadata of a logical one (R298): its stream, the sequence of the group that writes it. -/
def State.writeMeta (s : State) (p key stream : Nat) : State :=
  let m : UnitMeta := { unit := key % 2 ^ 32, part := key / 2 ^ 32, stream := stream, seq := s.cask.journalSeq + 1 }
  { s with cask.units := tput s.cask.units p m }

/-- A block erased (R309 step 5): its erase count, its units blank, and back to the free pool. -/
def State.freeErased (s : State) (b : Nat) : State :=
  let s := { s with cask.units := s.cask.units.filter fun e => e.1 / Nat.max 1 s.cask.unitsPerBlock != b }
  ((s.modBlock b fun x => { state := 0, erases := x.erases + 1, stream := 0, used := 0, filled := 0, refresh := false }).journal
    1).spread

/-- Whether NAND is mounted (R297, R316). -/
def State.mounted (s : State) : Bool :=
  s.awake && s.cask.unitsPerBlock != 0 && Nat.ble (s.nat Obj.mediaState) 2

/-- Whether Casket may start background work (R302, R312, R315): mounted, no power-fail sequence, nothing being relocated,
MediaState 0. -/
def State.background (s : State) : Bool :=
  s.mounted && s.pw.cause == 0 && !s.cask.suspended && s.cask.reloc.isNone && s.nat Obj.mediaState == 0

/-! ### Programs (R302) -/

/-- Everything in the buffer is programmed: NAND holds what the part has committed. -/
def State.allProgrammed (s : State) : State :=
  let mark (e : Ingest) : Ingest := { e with programmed := true }
  let s := { s with cask.dirty := 0, nand.ingest := s.nand.ingest.map mark }
  let s := s.storeKeys
  { s with nandProg := s.nand }

/-- One unit of buffer data programmed: placed, mapped without condition, its hint cleared (R304, R314). -/
def State.programUnit (s : State) (partition chan : Nat) (unit : Nat) : State :=
  let (o, s) := s.placeUnit (streamOf partition) chan
  match o with
  | none => s
  | some p =>
    let s := s.writeMeta p (mapKey partition unit) (streamOf partition)
    let s := { s with cask.map := tput s.cask.map (mapKey partition unit) p,
                      cask.hinted := s.cask.hinted.filter (· != mapKey partition unit) }
    if Nat.ble s.cask.dirty 4096 then s.allProgrammed
    else
      let d := Nat.sub s.cask.dirty 4096
      { s with cask.dirty := d }

/-- A NAND program of buffer data ends (R300, R302): a failed one retires the open block it wrote. -/
def State.programComplete (s : State) (partition : Nat) (units : List Nat) (ok : Bool) : State :=
  if !(s.mounted && Nat.ble partition 6) then s
  else
    let (chan, s) := s.drawChannel
    if ok then units.foldl (fun (s : State) (u : Nat) => s.programUnit partition chan u) s
    else
      match (s.ensureOpen (streamOf partition) chan) with
      | (some b, s) => s.retireBlock b
      | (none, s) => s

/-! ### Relocation (R309 to R312) -/

/-- The valid units of a victim copied into stream 4, hinted ones left out; none when the pool gives no block. -/
def State.copyUnits (s : State) (chan : Nat) : List (Nat × Nat) → Option (List (Nat × Nat × Nat) × State)
  | [] => some ([], s)
  | (k, old) :: t =>
    match s.placeUnit 4 chan with
    | (some p, s) => ((s.writeMeta p k 4).copyUnits chan t).map fun e => ((k, old, p) :: e.1, e.2)
    | (none, _) => none

/-- A relocation of a block starts (R309 step 1). -/
def State.relocate (s : State) (b why : Nat) : State :=
  let (chan, s) := s.drawChannel
  let live := (s.cask.validIn b).filter fun e => !(s.cask.hinted.contains e.1)
  match s.copyUnits chan live with
  | none => s
  | some (cs, s) => { s with cask.reloc := some { victim := b, phase := 1, copies := cs, why } }

/-- A unit of partition 6 unmapped (R313, R314). -/
def State.unmapUnit (s : State) (key : Nat) : State :=
  { s with cask.map := tdel s.cask.map key, cask.hinted := s.cask.hinted.filter (· != key),
           nand.user := if key / 2 ^ 32 = 6 then tdel s.nand.user (key % 2 ^ 32) else s.nand.user }

/-- The group of a relocation (R309 step 2, R310, R314): each MAP applies only where the entry still holds the old unit; the
hinted units left out are unmapped. -/
def State.relocGroup (s : State) (r : Reloc) : State :=
  let dropped := (s.cask.validIn r.victim).filter fun e =>
    s.cask.hinted.contains e.1 && !(r.copies.any fun c => c.1 == e.1)
  let move (m : Tab Nat) (c : Nat × Nat × Nat) : Tab Nat := if tget m c.1 = some c.2.1 then tput m c.1 c.2.2 else m
  let s := { s with cask.map := r.copies.foldl move s.cask.map, cask.reloc := some { r with phase := 2 } }
  let s := dropped.foldl (fun (s : State) (e : Nat × Nat) => s.unmapUnit e.1) s
  s.journal (r.copies.length + dropped.length)

/-- Whether a relocation stands at a phase and may go on: no erase or background program starts in the power-fail
sequence (R302). -/
def State.relocAt (s : State) (phase : Nat) : Option Reloc :=
  if s.mounted && s.pw.cause == 0 && !s.cask.suspended then
    s.cask.reloc.bind fun r => if r.phase = phase then some r else none
  else none

/-! ### Mounting and formatting (R297, R306, R315, R317, R471) -/

/-- The DDR left for the flash map in MiB (R34). -/
def State.mapMiB (s : State) (b : Board) : Nat :=
  let ddr := b.ddrGiB * 1024
  if s.pw.regional then Nat.min 2048 (ddr - (if s.pw.carousel then 2949 else 2437)) else ddr - 1341

/-- The chip enables mounted (R297): whole ones, as many as the map room allows. -/
def State.mountedCe (s : State) (b : Board) : Nat := Nat.min b.chipEnables (s.mapMiB b * 1024 / Nat.max 1 b.ceMiB)

/-- The blocks of a device never mounted before: the good ones free, the factory-bad ones last. -/
def State.newBlocks (s : State) (b : Board) : Tab Block :=
  (List.range (s.mountedCe b * Board_blocksPerCe b)).map fun i =>
    (i, { state := if i < b.goodBlocks then 0 else 4, erases := 0, stream := 0, used := 0, filled := 0, refresh := false })

/-- DirtyLimit (R302), with the planes and the page size of a device that meets R296, which no operand names. -/
def State.newDirtyLimit (s : State) (b : Board) : Nat × State :=
  let (x, s) := s.draw
  (Nat.min 4194304 (3 * s.mountedCe b * 2 ^ (x % 3) * (8192 * (1 + x / 3 % 2))), s)

/-- The geometry of the mounted NAND taken over, and its capacities reported (R297). -/
def State.takeGeometry (s : State) (b : Board) : State :=
  let (d, s) := s.newDirtyLimit b
  let s := { s with cask.dirtyLimit := d, cask.unitsPerBlock := b.unitsPerBlock, cask.suspended := false }
  (s.set Obj.attachedRawMiB (b.chipEnables * b.ceMiB : Nat)).set Obj.mountedRawMiB (s.mountedCe b * b.ceMiB : Nat)

/-- The good blocks. -/
def Casket.good (c : Casket) : Nat := (c.blocks.filter fun e => e.2.state != 4).length

/-- The blocks of the legal reserve (R315): 0.5 % of the good blocks, rounded up. -/
def Casket.reserveBlocks (c : Casket) : Nat := ceilDiv (c.good * 5) 1000

/-- SpareBlocks (R315). -/
def State.setSpare (s : State) : State :=
  let c := s.cask
  s.set Obj.spareBlocks (c.good - (c.inState 5).length - ceilDiv c.logicalUnits (Nat.max 1 c.unitsPerBlock) : Nat)

/-- The storage alarm clears once the ring was read and acknowledged and MediaState is 0 (R316); the ring is emptied. -/
def State.clearAlarm (s : State) : State :=
  if s.bat.alarm && s.bat.ringAck && s.nat Obj.mediaState == 0 &&
     (List.range s.bat.ring.length).all (s.bat.ringRead.contains ·) then
    { s with bat.alarm := false, bat.ring := [], bat.ringOpen := false, bat.ringRead := [], bat.ringAck := false }.setPaired
      Obj.casketAlarm 0
  else s

/-- The sizes that a format applies (R317): overprovision and the partitions. -/
def State.applySizes (s : State) : State :=
  let ks := Obj.overprovisionPermille :: (List.range 7).map Obj.partitionSizeMiB
  { s with inForce := ks.foldl (fun (c : Tab Int) (k : Nat) => catPut c k (s.get k)) s.inForce }

/-- What NAND holds once every block is erased: nothing, but that positions of the logs are never reused (R319) and the
series of the part go on. -/
def Nand.erased (n : Nand) : Nand :=
  let wipe (l : EvLog) : EvLog := { recs := [], next := l.next, isOpen := false }
  { Nand.reset with logs := n.logs.map wipe, requestSeq := n.requestSeq, stageSeq := n.stageSeq, ingestSeq := n.ingestSeq,
                    balanceMin := n.balanceMin, balanceOld := n.balanceOld, balanceFrom := n.balanceFrom, day := n.day }

/-- The blocks after a format (R315): every good block erased, the first ones kept as the legal reserve. -/
def Casket.formatted (c : Casket) : Tab Block :=
  let fresh (e : Nat × Block) : Nat × Block :=
    if e.2.state = 4 then e
    else (e.1, { state := 0, erases := e.2.erases + 1, stream := 0, used := 0, filled := 0, refresh := false })
  let blocks := c.blocks.map fresh
  let mine := ((blocks.filter fun e => e.2.state == 0).take c.reserveBlocks).map (·.1)
  blocks.map fun e => if mine.contains e.1 then (e.1, { e.2 with state := 5 }) else e

/-- The Casket root names a checkpoint and its BEGIN record (R305): two entries of store 11 that are no catalogue objects. -/
def State.writeRoot (s : State) (number begin_ : Nat) : State := s.commitPaired [(0x7800F0, number), (0x7800F1, begin_)]

/-- A format (R317, R471): every mounted block erased, the capacities of R315 fixed, the first checkpoint and the root
written, MediaState 0. -/
def State.format (s : State) : State :=
  let s := (s.set Obj.mediaState 3).applySizes
  let bs := s.cask.formatted
  let c := { s.cask with blocks := bs }
  let legal := (c.inState 5).length
  let units := (c.good - legal) * c.unitsPerBlock * (1000 - s.forced Obj.overprovisionPermille) / 1000
  let q := s.cask.journalSeq + 1
  let s := { s with cask := { s.cask with map := [], units := [], hinted := [], blocks := bs, journalSeq := q + 1, journal := 64,
                                          ckpt := none, reloc := none, dirty := 0, reserveBytes := 0, logicalUnits := units } }
  let s := s.storeKeys
  let sealedKeys := s.nand.sealedVals.map (·.1)
  let s := { s with cat := sealedKeys.foldl (fun (c : Tab Int) (k : Nat) => tdel c k) s.cat, nand := s.nand.erased }
  let s := s.frames.foldl (fun (s : State) (f : Frame) => s.dropFrame f.id) { s with nandProg := s.nand }
  let s := (s.set Obj.legalReserveFree (legal * c.unitsPerBlock : Nat)).setSpare
  let s := ((s.set Obj.stagedItems 0).countHeld).spread
  ((s.writeRoot q q).set Obj.mediaState 0).clearAlarm

/-- Casket mounts NAND that holds data (R306): blocks under ERASE_PENDING are erased again, a relocation that was interrupted
stands as the journal says, the free pool and SpareBlocks are rebuilt, MediaState follows R315. -/
def State.mountOld (s : State) (b : Board) : State :=
  let s := s.takeGeometry b
  let pending := (s.cask.inState 3).map (·.1)
  let s := pending.foldl (fun (s : State) (x : Nat) => s.freeErased x) { s with cask.reloc := none, cask.ckpt := none }
  let s := s.setSpare.spread
  let s := if s.bat.alarm || s.flag Obj.casketAlarm then s.storageAlarm else s
  if s.nat Obj.spareBlocks < 20 then s.set Obj.mediaState 1 else (s.set Obj.mediaState 0).clearAlarm

/-- HashSalt drawn from the DRBG and kept in its paired store (R42). DEDUCED: the first provisioning is the first format of a new part,
which is before any admission (log entry 96). -/
def State.drawSalt (s : State) : State :=
  let (x, s) := s.draw
  s.setPaired Obj.hashSalt (x % 4294967296 : Nat)

/-- The first format of a new part (R471), with the salt of its registry (R42). -/
def State.mountNew (s : State) (b : Board) : State :=
  let s := s.takeGeometry b
  { s with cask.blocks := s.newBlocks b }.format.drawSalt

end Sys2Proof.Machine
end

