-- ==== Sys2Proof/Machine/Casket.lean ====
section
/-! DEFINITION. Casket's commands (R296 to R318): programs, garbage collection, refresh, wear levelling, checkpoints, the
archive, and the storage commands. -/

namespace Sys2Proof.Machine

/-- NAND_PROGRAM_COMPLETE (R302). -/
def execNandProgramComplete (partition : Nat) (units : List Nat) (ok : Bool) (s : State) : Host.Outcome State Fault Refusal :=
  .next (s.programComplete partition units ok)

/-- Garbage collection (R308): while the pool holds fewer free blocks than GcLowPermille, the full block with the fewest valid
units, the one filled earliest on a tie. -/
def State.collect (s : State) : State :=
  let c := s.cask
  let below (permille : Nat) : Bool := decide ((c.inState 0).length * 1000 < permille * c.blocks.length)
  if !(s.background && below (s.nat Obj.gcLowPermille) && (!s.governed || below (s.nat Obj.gcCriticalPermille))) then s
  else
    let weight (e : Nat × Block) : Nat := (c.validIn e.1).length * (c.fillSeq + 1) + e.2.filled
    match leastBy weight (c.inState 2) with
    | none => s
    | some e => (s.relocate e.1 0).bump Obj.gcVictims

/-- GARBAGE_COLLECTION (R308). -/
def execGarbageCollection (s : State) : Host.Outcome State Fault Refusal := .next s.collect

/-- GC_GROUP_WRITE (R309 step 2). -/
def execGcGroupWrite (s : State) : Host.Outcome State Fault Refusal :=
  .next (match s.relocAt 1 with
    | some r => s.relocGroup r
    | none => s)

/-- ERASE_PENDING_WRITE (R309 step 3). -/
def State.erasePending (s : State) : State :=
  match s.relocAt 2 with
  | some r => ({ s with cask.reloc := some { r with phase := 3 } }.modBlock r.victim fun x => { x with state := 3 }).journal 1
  | none => s

/-- ERASE_PENDING_WRITE (R309). -/
def execErasePendingWrite (s : State) : Host.Outcome State Fault Refusal := .next s.erasePending

/-- BLOCK_ERASE (R309 step 4). -/
def execBlockErase (s : State) : Host.Outcome State Fault Refusal :=
  .next (match s.relocAt 3 with
    | some r => { s with cask.reloc := some { r with phase := 4 } }
    | none => s)

/-- ERASE_COMPLETE (R300, R309 step 5): the block returns to the pool, or is retired when its erase failed. -/
def State.eraseDone (s : State) (ok : Bool) : State :=
  match s.relocAt 4 with
  | some r =>
    let s := { s with cask.reloc := none }
    if ok then s.freeErased r.victim else s.retireBlock r.victim
  | none => s

/-- ERASE_COMPLETE (R309). -/
def execEraseComplete (ok : Bool) (s : State) : Host.Outcome State Fault Refusal := .next (s.eraseDone ok)

/-- Refresh of a marked block (R299), in the manner of garbage collection. -/
def State.refresh (s : State) (b : Nat) : State :=
  match tget s.cask.blocks b with
  | some x => if s.background && x.refresh && x.state == 2 then s.relocate b 1 else s
  | none => s

/-- READ_REFRESH (R299). -/
def execReadRefresh (block : Nat) (s : State) : Host.Outcome State Fault Refusal := .next (s.refresh block)

/-- Wear levelling (R312): the block holding data with the lowest erase count is moved, at most WearMovesPerHour times in an
hour of the counter. -/
def State.levelWear (s : State) : State :=
  let hour := s.tai / 3600
  let moves := if s.cask.wearHour = hour then s.cask.wearMoves else 0
  if !(s.background && !s.governed && decide (s.nat Obj.wearSpreadLimit < s.nat Obj.eraseCountSpread) &&
       decide (moves < s.nat Obj.wearMovesPerHour)) then s
  else
    match leastBy (·.2.erases) ((s.cask.inState 2).filter fun e => !(s.cask.validIn e.1).isEmpty) with
    | none => s
    | some e => { s with cask.wearMoves := moves + 1, cask.wearHour := hour }.relocate e.1 2

/-- WEAR_LEVELLING (R312). -/
def execWearLevelling (s : State) : Host.Outcome State Fault Refusal := .next s.levelWear

/-- A checkpoint written after CheckpointJournalMiB of journal (R305 steps 1 to 3). -/
def State.checkpoint (s : State) : State :=
  if s.mounted && s.pw.cause == 0 && s.cask.ckpt.isNone && Nat.ble (s.nat Obj.checkpointJournalMiB * 1048576) s.cask.journal then
    { s with cask.ckpt := some (s.cask.journalSeq + 1), cask.journalSeq := s.cask.journalSeq + 2,
             cask.journal := s.cask.journal + 64 }
  else s

/-- CHECKPOINT (R305). -/
def execCheckpoint (s : State) : Host.Outcome State Fault Refusal := .next s.checkpoint

/-- The root updated with the checkpoint written (R305 step 4): the journal before its BEGIN record is freed. -/
def State.rootUpdate (s : State) : State :=
  match s.cask.ckpt with
  | some q =>
    if s.mounted && s.pw.cause == 0 then
      let s := s.writeRoot q q
      { s with cask.ckpt := none, cask.journal := 32 * (s.cask.journalSeq + 1 - q) }
    else s
  | none => s

/-- CASKET_ROOT_UPDATE (R305). -/
def execCasketRootUpdate (s : State) : Host.Outcome State Fault Refusal := .next s.rootUpdate

/-- The readings of 40 bytes the archive can hold (R175, R301): the logical units left by the other partitions. -/
def State.archiveRoom (s : State) : Nat :=
  let others := (([0, 1, 2, 4, 5, 6].map fun i => s.forced (Obj.partitionSizeMiB i)).sum) * 256
  (s.cask.logicalUnits - others) * 4096 / 40

/-- The n readings of a list with the earliest times. -/
def oldest (l : List Reading) (n : Nat) : List Reading := (l.mergeSort fun a b => Nat.ble a.time b.time).take n

/-- Readings discarded (R301): those older than ArchiveRetentionDays; then, while the archive is over its room, the oldest,
which are counted and logged. -/
def State.archiveDiscard (s : State) : State :=
  if !(s.mounted && s.pw.cause == 0 && s.nat Obj.mediaState == 0) then s
  else
    let keep (x : Reading) : Bool := Nat.ble s.tai (x.time + s.nat Obj.archiveRetentionDays * 86400)
    let s := { s with nand.archive := s.nand.archive.filter keep }
    let n := s.nand.archive.length - s.archiveRoom
    if n = 0 then s
    else
      let gone := oldest s.nand.archive n
      let s := { s with nand.archive := s.nand.archive.filter fun x => !gone.contains x }
      (s.bumpBy Obj.archiveEarlyDiscards n).logOp 0x300B 0xFF (pack [(1, 3), (3, 0), (4, n)])

/-- ARCHIVE_DISCARD (R301). -/
def execArchiveDiscard (s : State) : Host.Outcome State Fault Refusal := .next s.archiveDiscard

/-! ### Storage commands (R299, R313 to R317) -/

/-- The units of partition 6. -/
def State.userUnits (s : State) : Nat := s.forced (Obj.partitionSizeMiB 6) * 256

/-- The data of a unit of partition 6 (R303, R314): zeros where it is unmapped; a hinted unit gives its data or zeros, either
at each read. -/
def State.readUnit (s : State) (u : Nat) : Nat × State :=
  let v := (tget s.nand.user u).getD 0
  if s.cask.hinted.contains (mapKey 6 u) then
    let (x, s) := s.draw
    (if x % 2 = 0 then v else 0, s)
  else (v, s)

/-- Whether the metadata of the physical unit that the map gives for a unit of partition 6 does not name it (R298). -/
def State.misplaced (s : State) (u : Nat) : Bool :=
  match tget s.cask.map (mapKey 6 u) with
  | some p => !((tget s.cask.units p).map fun m => m.part == 6 && m.unit == u).getD false
  | none => false

/-- Units read in order, as one value. -/
def State.readUnits (s : State) : List Nat → Nat × State
  | [] => (0, s)
  | u :: t =>
    let (v, s) := s.readUnit u
    let (w, s) := s.readUnits t
    (v + 2 ^ 32768 * w, s)

/-- The blocks that hold some units of partition 6 are marked for refresh (R299). -/
def State.markRefresh (s : State) (units : List Nat) : State :=
  units.foldl (fun (s : State) (u : Nat) =>
    match tget s.cask.map (mapKey 6 u) with
    | some p => s.modBlock (p / Nat.max 1 s.cask.unitsPerBlock) fun x => { x with refresh := true }
    | none => s) s

/-- StorageRead (R298, R299): each unit's metadata checked through the map. `level` is the step of the ladder at which the worst unit
decodes, 5 where none does. -/
def State.storageRead (s : State) (r : CapReq) (unit count level : Nat) : State :=
  s.capExec r Obj.storageRead fun _ s =>
    let us := (List.range count).map (unit + ·)
    if s.userUnits < unit + count then (capErr 5 0, s)
    else if 5 ≤ level ∧ us.any (fun u => (tget s.nand.user u).isSome) then
      (capErr 16 0, (s.bump Obj.uncorrectable).logOp 0x300B 0xFF (pack [(1, 6), (3, 0), (4, unit)]))
    else if us.any s.misplaced then (capErr 16 0, s)
    else
      let s := if 2 ≤ level then s.markRefresh us else s
      let (v, s) := s.readUnits us
      (capVal (4096 * count) v, s)

/-- STORAGE_READ (R299). -/
def execStorageRead (r : CapReq) (unit count level : Nat) (s : State) : Host.Outcome State Fault Refusal :=
  .next (s.storageRead r unit count level)

/-- StorageWrite (R313): the units take the data from the commit on; their old units are no longer valid. -/
def State.storageWrite (s : State) (r : CapReq) (unit count : Nat) (data : List Nat) : State :=
  s.capExec r Obj.storageWrite fun _ s =>
    if data.length ≠ count then (capErr 4 0, s)
    else if s.userUnits < unit + count then (capErr 5 0, s)
    else s.mediaGate fun s =>
      let put (s : State) (i : Nat) : State :=
        let s := s.unmapUnit (mapKey 6 (unit + i))
        { s with nand.user := tput s.nand.user (unit + i) (data.getD i 0 % 2 ^ 32768) }
      (capOk, ((List.range count).foldl put s).commit (4096 * count) count)

/-- STORAGE_WRITE (R313). -/
def execStorageWrite (r : CapReq) (unit count : Nat) (data : List Nat) (s : State) : Host.Outcome State Fault Refusal :=
  .next (s.storageWrite r unit count data)

/-- StorageDiscard (R313, R314), in the DiscardMode in force. -/
def State.storageDiscard (s : State) (r : CapReq) (unit count : Nat) : State :=
  s.capExec r Obj.storageDiscard fun _ s =>
    if s.userUnits < unit + count then (capErr 5 0, s)
    else s.mediaGate fun s =>
      let ks := (List.range count).map fun i => mapKey 6 (unit + i)
      let hint (s : State) (k : Nat) : State :=
        if (tget s.nand.user (k % 2 ^ 32)).isSome && !s.cask.hinted.contains k then { s with cask.hinted := s.cask.hinted ++ [k] } else s
      let s := if s.forced Obj.discardMode = 0 then ks.foldl State.unmapUnit s else ks.foldl hint s
      (capOk, s.commit 0 count)

/-- STORAGE_DISCARD (R314). -/
def execStorageDiscard (r : CapReq) (unit count : Nat) (s : State) : Host.Outcome State Fault Refusal :=
  .next (s.storageDiscard r unit count)

/-- A BOOL command that acts on 1, does nothing on 0 and takes no other value (R353, R354). -/
def boolCommand (v : Nat) (s : State) (act : State → CapOut × State) : CapOut × State :=
  match v with
  | 0 => (capOk, s)
  | 1 => act s
  | _ => (capErr 5 0, s)

/-- StorageFormat (R317): only while unsealed. -/
def State.storageFormat (s : State) (r : CapReq) (v : Nat) : State :=
  let s := s.capExec r Obj.storageFormat fun _ s =>
    boolCommand v s fun s => if s.nat Obj.sealState ≠ 1 then (capErr 7 0, s) else (capOk, s.format)
  let ready := s.parked.filter fun p => !s.parkedWaits p
  ready.foldl State.runParked { s with parked := s.parked.filter s.parkedWaits }

/-- STORAGE_FORMAT (R317). -/
def execStorageFormat (r : CapReq) (v : Nat) (s : State) : Host.Outcome State Fault Refusal := .next (s.storageFormat r v)

/-- A slot of the battery-domain ring as BatteryRingRead returns it (R316): 64 zero bytes where it holds no record. -/
def State.ringSlot (s : State) (slot : Nat) : Nat :=
  match s.bat.ring[slot]? with
  | some x => x.pack (s.bat.ringOpen && slot + 1 == s.bat.ring.length)
  | none => 0

/-- BatteryRingRead (R316). -/
def State.ringRead (s : State) (r : CapReq) (slot : Nat) : State :=
  s.capExec r Obj.batteryRingRead fun _ s =>
    if 63 < slot then (capErr 5 0, s)
    else
      let v := s.ringSlot slot
      let seen := if s.bat.ringRead.contains slot then s.bat.ringRead else s.bat.ringRead ++ [slot]
      (capVal 64 v, { s with bat.ringRead := seen }.clearAlarm)

/-- BATTERY_RING_READ (R316). -/
def execBatteryRingRead (r : CapReq) (slot : Nat) (s : State) : Host.Outcome State Fault Refusal := .next (s.ringRead r slot)

/-- BatteryRingAck (R316). -/
def State.ringAck (s : State) (r : CapReq) (v : Nat) : State :=
  s.capExec r Obj.batteryRingAck fun _ s => boolCommand v s fun s => (capOk, { s with bat.ringAck := true }.clearAlarm)

/-- BATTERY_RING_ACK (R316). -/
def execBatteryRingAck (r : CapReq) (v : Nat) (s : State) : Host.Outcome State Fault Refusal := .next (s.ringAck r v)

end Sys2Proof.Machine
end

