-- ==== Sys2Proof/Machine/Bracelet.lean ====
section
/-! DEFINITION. The event recorder's commands (R319 to R335): reading by position, bounds, freezes, exports, the end of a repeat
window, the copies of operating time. -/

namespace Sys2Proof.Machine

/-- The oldest position a log holds; the next one where it holds none. -/
def EvLog.first (l : EvLog) : Nat := (l.recs.getLast?.map (·.pos)).getD l.next

/-- A record of a log by its position, as it stands, and whether it is open. -/
def EvLog.at_ (l : EvLog) (pos : Nat) : Option Nat :=
  (l.recs.find? fun r => r.pos == pos).map fun r => r.pack (l.isOpen && (l.recs.head?.map (·.pos)) == some pos)

/-- A read of a log by position (R328, R331, R332): the result code and the record. A position that the hold buffer or the
battery-domain ring holds is not yet appended; one that left the ring for good is gone. -/
def State.readLog (s : State) (log pos : Nat) : Nat × Nat :=
  let l := s.logOf log
  if !s.mounted then (4, 0)
  else if pos < l.first then (1, 0)
  else match l.at_ pos with
    | some w => (0, w)
    | none =>
      if l.next ≤ pos || (log == 0 && (s.nand.hold ++ s.bat.ring).any fun r => r.pos == pos) then (2, 0) else (1, 0)

/-- A read of a log with what the media makes of the record (R299, R322, R331): `media` 0 sound, 1 the copy read fails RecordCrc, 2
every copy does, 3 the copy read decodes at no level, 4 no copy does. The legal log alone has a mirror (R301). A record that fails
RecordCrc comes with its stored bytes, a free value. -/
def State.readHeld (s : State) (log pos media : Nat) : (Nat × Nat) × State :=
  let (code, w) := s.readLog log pos
  if code ≠ 0 ∨ media = 0 ∨ (log = 0 ∧ media = 1) then ((code, w), s)
  else if log = 0 ∧ media = 3 then ((0, w), s.bump Obj.mirrorRepairs)
  else if media ≤ 2 then
    let (x, s) := s.draw
    ((3, x % 2 ^ 512), (s.bump Obj.recordCrcFail).logDiag 0x4004 0xFF (pack [(1, log), (7, 0), (8, pos)]))
  else ((4, 0), (s.bump Obj.uncorrectable).logOp 0x300B 0xFF (pack [(1, 7), (1, log), (2, 0), (8, pos)]))

/-- The bounds block of a log (R329). -/
def State.logBounds (s : State) (log : Nat) : Nat :=
  let l := s.logOf log
  let fin := if log = 0 then (s.freeze.map (·.fin)).getD 0 else 0
  pack [(8, l.first), (8, l.next), (8, fin), (2, if log = 0 then s.nand.hold.length else 0)]

/-- A freeze of the legal log (R332): refused while one is held; the open record closes. -/
def State.freezeFor (s : State) (holder : Nat) : Bool × State :=
  if s.freeze.isSome then (false, s)
  else
    let s := { s with freeze := some { holder, fin := (s.logOf 0).next, since := s.now } }
    (true, s.modLog 0 fun l => { l with isOpen := false })

/-- A thaw by a holder (R332): refused to one that holds no freeze. -/
def State.thawFor (s : State) (holder : Nat) : Bool × State :=
  match s.freeze with
  | some f => if f.holder = holder then (true, s.endFreeze) else (false, s)
  | none => (false, s)

/-! ### The BAR0 window (R328) -/

/-- The result of a command of HIF_LOG_CMD, which also writes AutoIncrement. -/
def State.logResult (s : State) (code : Nat) : State := { s with hif.logResult := code }.logChanged

/-- LOG_READ_CMD (R328). -/
def State.logReadCmd (s : State) (auto : Bool) (media : Nat) : State :=
  if !s.bar then s
  else
    let ((code, w), s) := s.readHeld s.hif.logSelect s.hif.logPos media
    let s := { s with hif.logAuto := auto }
    let s := if code = 0 ∨ code = 3 then { s with hif.logRecord := w } else s
    let s := if code = 0 ∧ auto then { s with hif.logPos := (s.hif.logPos + 1) % 2 ^ 64 } else s
    s.logResult code

/-- LOG_READ_CMD (R328). -/
def execLogReadCmd (autoIncrement : Bool) (media : Nat) (s : State) : Host.Outcome State Fault Refusal :=
  .next (s.logReadCmd autoIncrement media)

/-- LOG_BOUNDS_CMD (R329). -/
def State.logBoundsCmd (s : State) : State :=
  if s.bar then { s with hif.logRecord := s.logBounds s.hif.logSelect }.logResult 0 else s

/-- LOG_BOUNDS_CMD (R329). -/
def execLogBoundsCmd (s : State) : Host.Outcome State Fault Refusal := .next s.logBoundsCmd

/-- LOG_FREEZE_CMD (R332): only for the legal log. -/
def State.logFreezeCmd (s : State) : State :=
  if !s.bar then s
  else if s.hif.logSelect ≠ 0 then s.logResult 5
  else
    let (ok, s) := s.freezeFor 0
    s.logResult (if ok then 0 else 5)

/-- LOG_FREEZE_CMD (R332). -/
def execLogFreezeCmd (s : State) : Host.Outcome State Fault Refusal := .next s.logFreezeCmd

/-- LOG_THAW_CMD (R332). -/
def State.logThawCmd (s : State) : State :=
  if !s.bar then s
  else
    let (ok, s) := s.thawFor 0
    s.logResult (if ok then 0 else 5)

/-- LOG_THAW_CMD (R332). -/
def execLogThawCmd (s : State) : Host.Outcome State Fault Refusal := .next s.logThawCmd

/-! ### CAP (R328 to R334) -/

/-- LogRead (R328): the result code and the record. -/
def State.logRead (s : State) (r : CapReq) (log pos media : Nat) : State :=
  s.capExec r Obj.logRead fun _ s =>
    if 3 < log then (capErr 5 0, s)
    else
      let ((code, w), s) := s.readHeld log pos media
      (capVal 65 (pack [(1, code), (64, w)]), s)

/-- LOG_READ (R328). -/
def execLogRead (r : CapReq) (log position media : Nat) (s : State) : Host.Outcome State Fault Refusal :=
  .next (s.logRead r log position media)

/-- LOG_BOUNDS (R329). -/
def execLogBounds (r : CapReq) (log : Nat) (s : State) : Host.Outcome State Fault Refusal :=
  .next (s.capExec r Obj.logBounds fun _ s => if 3 < log then (capErr 5 0, s) else (capVal 64 (s.logBounds log), s))

/-- A freeze or thaw through CAP: a refusal answers BUSY (R332). -/
def freezeAnswer (a : Bool × State) : CapOut × State := (if a.1 then capOk else capErr 6 0, a.2.logChanged)

/-- LEGAL_FREEZE (R332): LegalFreeze with 1. -/
def execLegalFreeze (r : CapReq) (s : State) : Host.Outcome State Fault Refusal :=
  .next (s.capExec r Obj.legalFreeze fun _ s => freezeAnswer (s.freezeFor (r.sess + 1)))

/-- LEGAL_THAW (R332): LegalFreeze with 0. -/
def execLegalThaw (r : CapReq) (s : State) : Host.Outcome State Fault Refusal :=
  .next (s.capExec r Obj.legalFreeze fun _ s => freezeAnswer (s.thawFor (r.sess + 1)))

/-- The records of an export as their bytes (R334), in position order, those of the ring last. -/
def exportBody (l : EvLog) (ring : List EvRec) (first last : Nat) : List Nat :=
  let has (r : EvRec) : Bool := Nat.ble first r.pos && Nat.ble r.pos last
  ((l.recs.filter has).reverse ++ ring.filter has).map fun r => r.pack false

/-- The 64-byte header of an export (R334). -/
def State.exportHeader (s : State) (first last : Nat) : Nat :=
  pack [(8, Config.deviceSerial), (8, first), (8, last), (10, s.timeNow), (1, s.clock), (1, s.nat Obj.sealState),
    (1, s.nat Obj.sealCounter), (1, b2n (s.bat.alarm || s.flag Obj.casketAlarm)), (4, s.bat.legalLost),
    (1, s.bat.ring.length)]

/-- An export: header, records and signature under the device identity key (R164, R334). -/
def State.export_ (s : State) (first last : Nat) : CapOut × State :=
  let recs := exportBody (s.logOf 0) s.bat.ring first last
  let body := pack ((64, s.exportHeader first last) :: recs.map fun r => (64, r))
  let n := 64 + 64 * recs.length
  let (sig, s) := s.sign identityKey body
  (capVal (n + 96) (body + 256 ^ n * sig), s)

/-- The highest position held in the legal log or the ring (R334). -/
def State.highestLegal (s : State) : Option Nat :=
  (((s.logOf 0).recs.head?.map (·.pos)).toList ++ (s.bat.ring.getLast?.map (·.pos)).toList).foldl
    (fun (m : Option Nat) (p : Nat) => some (Nat.max p (m.getD 0))) none

/-- LEGAL_EXPORT (R334): under a freeze of its own; no signature while Locket cannot sign (R166, R168). -/
def State.legalExport (s : State) (r : CapReq) (first last : Nat) : State :=
  s.capExec r Obj.legalExport fun _ s =>
    if s.freeze.isSome then (capErr 6 0, s)
    else if last < first ∨ first < (s.logOf 0).first then (capErr 5 0, s)
    else if !(s.highestLegal.map (Nat.ble last ·)).getD false then (capErr 5 8, s)
    else if s.loc.zeroizing then (capErr 13 13, s)
    else if s.loc.entropyFailed then (capErr 13 14, s)
    else
      let s := s.modLog 0 fun l => { l with isOpen := false }
      s.export_ first last

/-- LEGAL_EXPORT (R334). -/
def execLegalExport (r : CapReq) (first last : Nat) (s : State) : Host.Outcome State Fault Refusal :=
  .next (s.legalExport r first last)

/-! ### Time-driven (R323, R324, R333) -/

/-- FREEZE_MAX_EXPIRY (R333): a freeze that has lasted FreezeMaxS. -/
def State.freezeExpiry (s : State) : State :=
  match s.freeze with
  | some f => if s.awake && s.elapsedS f.since (s.nat Obj.freezeMaxS) then s.breakFreeze else s
  | none => s

/-- FREEZE_MAX_EXPIRY (R333). -/
def execFreezeMaxExpiry (s : State) : Host.Outcome State Fault Refusal := .next s.freezeExpiry

/-- REPEAT_WINDOW_END (R324): RepeatWindowS after its EventTai the last record of a log closes. -/
def State.repeatWindowEnd (s : State) (log : Nat) : State :=
  let l := s.logOf log
  match l.recs with
  | r :: _ =>
    if s.awake && l.isOpen && Nat.ble (r.tai + s.nat Obj.repeatWindowS) s.tai then
      (s.modLog log fun l => { l with isOpen := false }).pumpLog log
    else s
  | [] => s

/-- REPEAT_WINDOW_END (R324). -/
def execRepeatWindowEnd (log : Nat) (s : State) : Host.Outcome State Fault Refusal := .next (s.repeatWindowEnd log)

/-- OPERATING_TIME_COPY (R323): to battery-domain SRAM every second, and to its store, an entry that is no catalogue object, every
hour. -/
def State.copyTime (s : State) (hourly : Bool) : State :=
  if !s.awake then s
  else
    let s := { s with bat.opTime := s.nat Obj.operatingTimeMs }
    if hourly then s.setPaired 0x7C00F0 (s.nat Obj.operatingTimeMs) else s

/-- OPERATING_TIME_COPY (R323). -/
def execOperatingTimeCopy (hourly : Bool) (s : State) : Host.Outcome State Fault Refusal := .next (s.copyTime hourly)

end Sys2Proof.Machine
end

