-- ==== Sys2Proof/Machine/Ether.lean ====
section
/-! DEFINITION. Ethernet frames as their bytes (R260, R261, R271, R273, R274, R279, R281): addresses, tags, MAC control, the FCS, PTP messages and
what a transparent clock changes in one. -/

namespace Sys2Proof

open Sys2Proof.Machine

/-- The n bytes of a frame from an offset, the first one most significant, as Ethernet sends a field. PRESUMED, unsafe (log entry 122). -/
def netAt (d off n : Nat) : Nat := (toBytes n (d / 256 ^ off)).foldl (fun (v b : Nat) => v * 256 + b) 0

/-- A frame with n bytes from an offset replaced. -/
def putNet (d off n v : Nat) : Nat := d % 256 ^ off + 256 ^ off * (ofBytes (toBytes n v).reverse + 256 ^ n * (d / 256 ^ (off + n)))

/-! ### Addresses and tags (R271, R274) -/

/-- The destination address, as its object holds one. -/
def EthRx.dest (f : EthRx) : Nat := f.data % 256 ^ 6

/-- Whether the destination is a group address. -/
def EthRx.isGroup (f : EthRx) : Bool := f.data % 2 == 1

/-- The multicast addresses of PTP (R271): 01-1B-19-00-00-00 and 01-80-C2-00-00-0E, and those of 224.0.1.129, 224.0.0.107, FF0X::181 and
FF02::6B. PRESUMED, unsafe (log entry 122), for the IP ones. -/
def ptpAddress (d : Nat) : Bool :=
  d == 0x000000191B01 || d == 0x0E0000C28001 || d == 0x8101005E0001 || d == 0x6B00005E0001 || d == 0x810100003333 || d == 0x6B0000003333

/-- Whether two bytes are the TPID of a VLAN tag (R274). -/
def isTpid (t : Nat) : Bool := t == 0x8100 || t == 0x88A8

/-- The VLAN tags parsed (R274): at most two. -/
def EthRx.tags (f : EthRx) : Nat := if !isTpid (netAt f.data 12 2) then 0 else if isTpid (netAt f.data 16 2) then 2 else 1

/-- Whether at least one tag was parsed (R274). -/
def EthRx.tagged (f : EthRx) : Bool := f.tags != 0

/-- The tag control information of the outer tag, 0 where there is none (R274, R289). -/
def EthRx.tci (f : EthRx) : Nat := if f.tagged then netAt f.data 14 2 else 0

/-- The EtherType after the last tag parsed (R274). -/
def EthRx.etherType (f : EthRx) : Nat := netAt f.data (12 + 4 * f.tags) 2

/-- Where the payload starts. -/
def EthRx.payloadAt (f : EthRx) : Nat := 14 + 4 * f.tags

/-! ### The FCS and MAC control (R273, R279) -/

/-- The FCS of bytes, as IEEE 802.3 defines it. PRESUMED, unsafe (log entry 122). -/
def ethFcs (bytes : List Nat) : Nat := (bytes.foldl (crcByte 0xEDB88320) 0xFFFFFFFF) ^^^ 0xFFFFFFFF

/-- Whether a frame's FCS is that of its bytes (R273). -/
def EthRx.fcsOk (f : EthRx) : Bool :=
  Nat.beq (f.data / 256 ^ (f.length - 4)) (ethFcs (toBytes (f.length - 4) f.data))

/-- A frame with the FCS of its bytes (R260). -/
def withFcs (length d : Nat) : Nat := d % 256 ^ (length - 4) + 256 ^ (length - 4) * ethFcs (toBytes (length - 4) d)

/-- Whether a frame is a MAC control frame (R273): EtherType 0x8808. PRESUMED (log entry 122). -/
def EthRx.macControl (f : EthRx) : Bool := netAt f.data 12 2 == 0x8808

/-- The quanta of a PAUSE frame (R279), the MAC control frame with opcode 1. PRESUMED (log entry 122). -/
def EthRx.pause (f : EthRx) : Option Nat := if f.macControl && netAt f.data 14 2 == 1 then some (netAt f.data 16 2) else none

/-! ### PTP messages (R260, R281) -/

/-- A PTP message in a frame: where it starts, the UDP header before it where there is one, its transport as a bit of PtpTransport. -/
structure PtpPlace where
  at_ : Nat
  udp : Option Nat
  transport : Nat
deriving DecidableEq, Repr

/-- Whether a UDP header addresses PTP (R281). -/
def ptpUdp (d udp : Nat) : Bool := netAt d (udp + 2) 2 == 319 || netAt d (udp + 2) 2 == 320

/-- The PTP message of a frame (R281): EtherType 0x88F7, or a UDP datagram to port 319 or 320 over IPv4, not a later fragment, or over IPv6. -/
def EthRx.ptpPlace (f : EthRx) : Option PtpPlace :=
  let p := f.payloadAt
  let d := f.data
  if f.etherType = 0x88F7 then some { at_ := p, udp := none, transport := 0 }
  else if f.etherType = 0x0800 then
    let udp := p + 4 * (byteAt d p % 16)
    if byteAt d p / 16 = 4 ∧ byteAt d (p + 9) = 17 ∧ netAt d (p + 6) 2 % 8192 = 0 ∧ ptpUdp d udp = true then
      some { at_ := udp + 8, udp := some udp, transport := 1 }
    else none
  else if f.etherType = 0x86DD then
    let udp := p + 40
    if byteAt d p / 16 = 6 ∧ byteAt d (p + 6) = 17 ∧ ptpUdp d udp = true then some { at_ := udp + 8, udp := some udp, transport := 2 } else none
  else none

/-- Whether a frame is recognised as a PTP message (R281, R290). -/
def EthRx.isPtp (f : EthRx) : Bool := f.ptpPlace.isSome

/-- The messageType of a PTP message: 0 Sync, 1 Delay_Req, 2 Pdelay_Req, 3 Pdelay_Resp, 10 Pdelay_Resp_Follow_Up. PRESUMED (log entry 122). -/
def EthRx.msgType (f : EthRx) : Nat := ((f.ptpPlace).map fun m => byteAt f.data m.at_ % 16).getD 15

/-- Whether a PTP message is one of the peer delay mechanism. -/
def EthRx.isPdelay (f : EthRx) : Bool := f.isPtp && (f.msgType == 2 || f.msgType == 3 || f.msgType == 10)

/-- The UDP checksum after one 16-bit word of the datagram has changed. -/
def sumStep (sum old new : Nat) : Nat :=
  let x := (65535 - sum % 65536) + (65535 - old % 65536) + new % 65536
  let x := x % 65536 + x / 65536
  65535 - (x % 65536 + x / 65536)

/-- A UDP checksum corrected incrementally for the four words of a field of 8 bytes (R260); 0 says that there is none. -/
def sumFix (sum old new : Nat) : Nat :=
  if sum = 0 then 0
  else
    let x := (List.range 4).foldl (fun (c k : Nat) => sumStep c (old / 65536 ^ k) (new / 65536 ^ k)) sum
    if x = 0 then 65535 else x

/-- A forwarded message as sent (R260 steps 3 and 4): the sum added to its correctionField, the UDP checksum corrected where there is one,
the FCS computed anew. -/
def EthRx.corrected (f : EthRx) (add : Int) : Nat :=
  match f.ptpPlace with
  | none => f.data
  | some m =>
    let old := netAt f.data (m.at_ + 8) 8
    let new := enc 8 ((old : Int) + add)
    let d := putNet f.data (m.at_ + 8) 8 new
    let d := match m.udp with
      | some u => putNet d (u + 6) 2 (sumFix (netAt d (u + 6) 2) old new)
      | none => d
    withFcs f.length d

end Sys2Proof
end

