-- ==== Sys2Proof/Machine/Midway.lean ====
section
/-! DEFINITION. The Ethernet ports (R269 to R281, R260 to R262, R293): links, the receive FIFO and its dispatch, the transmitter,
PAUSE, the transparent clock. -/

namespace Sys2Proof.Machine

/-- Whether Midway runs (R412 step 9, R416). -/
def State.netRuns (s : State) : Bool :=
  s.awake && (s.pw.stage == 0x0D || (Nat.ble 0x8A s.pw.stage && Nat.ble s.pw.stage 0x8C))

/-- A port changed. -/
def State.modPort (s : State) (p : Nat) (f : Port → Port) : State := { s with ports := lmod s.ports p f }

/-- Whether a port is enabled (R269, R294). -/
def State.portOn (s : State) (p : Nat) : Bool := Nat.ble p 3 && s.bitOf Obj.midwayEnable p && s.nat (Obj.portMode p) != 0

/-- Whether a port's mode negotiates (R269). -/
def State.negotiates (s : State) (p : Nat) : Bool := s.nat (Obj.portMode p) == 2 || s.nat (Obj.portMode p) == 4

/-- A length rounded up to 64 bytes (R272). -/
def round64 (n : Nat) : Nat := ceilDiv n 64 * 64

/-- The free space of a receive FIFO (R272): 32 KiB less the frames held and the room of the one arriving. -/
def Port.room (p : Port) : Nat := 32768 - (p.rx.map fun f => round64 f.frame.length).sum - p.arriving.getD 0

/-- The host queue of a kind that owns a Midway ring (R275, R289). -/
def State.ringOwner (s : State) (kind port queue : Nat) : Option Nat :=
  (List.range 16).find? fun q => ((s.hqOf q).map fun h =>
    bit h.ctrl 0 && bits h.ctrl 4 1 == kind && bits h.ctrl 9 8 == port && bits h.ctrl 7 5 == queue && !h.draining ||
    h.releasing && bits h.ctrl 4 1 == kind && bits h.ctrl 9 8 == port && bits h.ctrl 7 5 == queue).getD false

/-! ### PAUSE (R279, R280) -/

/-- A PAUSE frame sent by a port, ahead of every queue. -/
def State.sendPause (s : State) (p quanta : Nat) : State :=
  let now := s.now
  s.modPort p fun x => { x with pauseOut := quanta :: x.pauseOut, xoffSent := quanta != 0, pauseNs := now }

/-- The PAUSE frames that the free space asks for (R280). -/
def State.flowControl (s : State) (p : Nat) : State :=
  match s.ports[p]? with
  | none => s
  | some x =>
    if !(bit (s.nat (Obj.pauseControl p)) 1 && x.up) then s
    else if !x.xoffSent && Nat.blt x.room (s.nat (Obj.pauseXoffBytes p)) then s.sendPause p 0xFFFF
    else if x.xoffSent && Nat.ble (s.nat (Obj.pauseXonBytes p)) x.room then s.sendPause p 0
    else s

/-- Whether a port honours PAUSE frames (R279): PauseControl, and the partner's ability where the mode negotiates. -/
def State.honours (s : State) (p : Nat) (x : Port) : Bool :=
  bit (s.nat (Obj.pauseControl p)) 0 && (!s.negotiates p || x.partnerPause)

/-- The ns of n bit times of a port's mode (R269), rounded up. -/
def State.bitTimes (s : State) (p n : Nat) : Nat :=
  match s.nat (Obj.portMode p) with
  | 1 => ceilDiv n 10
  | 3 => ceilDiv (n * 2) 5
  | _ => n

/-- A received PAUSE frame (R279): a new pause, a longer one, or with quanta 0 its end. -/
def State.pauseIn (s : State) (p quanta : Nat) : State :=
  match s.ports[p]? with
  | none => s
  | some x =>
    if !(s.netRuns && s.portOn p && x.up && s.honours p x && x.ignoreUntil.isNone) then s
    else
      let s := s.bump (Obj.pauseReceived p)
      if quanta = 0 then s.modPort p fun x => { x with pausedUntil := none, pauseFrom := none }
      else
        let now := s.now
        let fin := now + s.bitTimes p (512 * (quanta % 65536))
        let since := if (x.pausedUntil.map (Nat.blt now ·)).getD false then x.pauseFrom else some now
        s.modPort p fun x => { x with pausedUntil := some fin, pauseFrom := since }

/-- PAUSE_RECEIVED (R279). -/
def execPauseReceived (port quanta : Nat) (s : State) : Host.Outcome State Fault Refusal := .next (s.pauseIn port quanta)

/-- Whether an instant that a port holds has come. -/
def State.reached (s : State) (t : Option Nat) (ns : Nat) : Bool := (t.map fun x => Nat.ble (x + ns) s.now).getD false

/-- The quanta of a pause have expired (R279). -/
def State.pauseExpiry (s : State) (p : Nat) : State :=
  match s.ports[p]? with
  | some x => if s.reached x.pausedUntil 0 then s.modPort p fun x => { x with pausedUntil := none, pauseFrom := none } else s
  | none => s

/-- PAUSE_QUANTA_EXPIRY (R279). -/
def execPauseQuantaExpiry (port : Nat) (s : State) : Host.Outcome State Fault Refusal := .next (s.pauseExpiry port)

/-- A continuous pause has reached PauseWatchdogMs (R279 steps 1 to 3). -/
def State.pauseWatchdog (s : State) (p : Nat) : State :=
  match s.ports[p]? with
  | none => s
  | some x =>
    let ms := s.nat (Obj.pauseWatchdogMs p)
    if s.netRuns && s.reached x.pauseFrom (ms * 1000000) then
      let now := s.now
      let s := s.modPort p fun x => { x with pausedUntil := none, pauseFrom := none, ignoreUntil := some (now + ms * 1000000) }
      (s.bump (Obj.pauseBroken p)).logOp 0x300C 0xFF (pack [(8, p)])
    else s

/-- PAUSE_WATCHDOG (R279). -/
def execPauseWatchdog (port : Nat) (s : State) : Host.Outcome State Fault Refusal := .next (s.pauseWatchdog port)

/-- PAUSE frames are honoured again (R279). -/
def State.pauseIgnoreEnd (s : State) (p : Nat) : State :=
  match s.ports[p]? with
  | some x => if s.reached x.ignoreUntil 0 then s.modPort p fun x => { x with ignoreUntil := none } else s
  | none => s

/-- PAUSE_IGNORE_END (R279). -/
def execPauseIgnoreEnd (port : Nat) (s : State) : Host.Outcome State Fault Refusal := .next (s.pauseIgnoreEnd port)

/-- The PAUSE frame repeated half its pause later while the free space stays below PauseXonBytes (R280). -/
def State.pauseAgain (s : State) (p : Nat) : State :=
  match s.ports[p]? with
  | some x =>
    if s.netRuns && x.up && x.xoffSent && Nat.blt x.room (s.nat (Obj.pauseXonBytes p)) && bit (s.nat (Obj.pauseControl p)) 1 &&
       Nat.ble (x.pauseNs + s.bitTimes p (512 * 0xFFFF) / 2) s.now then
      s.sendPause p 0xFFFF
    else s
  | none => s

/-- PAUSE_REPEAT (R280). -/
def execPauseRepeat (port : Nat) (s : State) : Host.Outcome State Fault Refusal := .next (s.pauseAgain port)

/-! ### The transmitter (R260 to R262, R275, R278) -/

/-- The posted descriptors of the first whole frame of a kind-5 ring, from First to Last. -/
def frameDescs : List (Nat × Nat) → Option (List (Nat × Nat))
  | [] => none
  | d :: t => if bit (d.2 / 65536) 13 then some [d] else (frameDescs t).map (d :: ·)

/-- The kind of a posted frame (R261, R290). -/
def txKind (flags : Nat) : Nat := if !bit flags 12 then 0 else if bit flags 11 then 1 else 2

/-- Whether a kind-5 host queue can be read (R293). -/
def State.readsHost (s : State) (h : HostQueue) : Bool := h.isKind 5 && s.hostUp && s.hif.busMaster && !h.fault

/-- A frame of a kind-5 queue read into its port's transmit FIFO while it fits (R275, R278); one that is too long is completed
as Oversize and not sent. The fields of its message, which lie in host memory, are free values. -/
def State.readTx (s : State) (q : Nat) : Option State :=
  match s.hqOf q with
  | none => none
  | some h =>
    let p := bits h.ctrl 9 8
    match s.ports[p]? with
    | none => none
    | some x =>
      let unread := h.posted.drop ((x.tx.filter fun f => f.hq == q).map (·.ndesc)).sum
      match frameDescs unread with
      | none => none
      | some ds =>
        let len := (ds.map fun d => d.2 % 65536).sum
        let held := (x.tx.map (·.length)).sum
        if !(s.readsHost h && x.up) then none
        else if s.nat (Obj.maxFrameBytes p) < len + 4 then
          if x.tx.any fun f => f.hq == q then none
          else some ((s.bump (Obj.txOversizeRefused p)).hqComplete q ds.length len 0 0 0x3000 0 0)
        else if 32768 < held + len then none
        else
          let flags := (ds.head?.map (·.2 / 65536)).getD 0
          let (a, s) := s.draw
          let (b, s) := s.draw
          let f : TxFrame := { queue := bits h.ctrl 7 5, length := len, hq := q, ndesc := ds.length, kind := txKind flags,
                               toCorrection := bit flags 10, seqId := a % 65536, what := b % 65536, ingress := 0, ptp := 0,
                               data := none }
          some (s.modPort p fun x => { x with tx := x.tx ++ [f] })

/-- Frames of a kind-5 queue read until none more fits or is whole: at most as many as descriptors are posted. -/
def State.readAll (s : State) (q : Nat) : Nat → State
  | 0 => s
  | n + 1 =>
    match s.readTx q with
    | some s => s.readAll q n
    | none => s

/-- The kind-5 rings of a port read, the highest queue first (R275). -/
def State.fillTx (s : State) (p : Nat) : State :=
  (List.range 7).reverse.foldl (fun (s : State) (k : Nat) =>
    match s.ringOwner 5 p k with
    | some q => s.readAll q (((s.hqOf q).map (·.posted.length)).getD 0)
    | none => s) s

/-- The frame a port sends next (R275): of the highest queue, the first in its order. -/
def nextTx (l : List TxFrame) : Option TxFrame :=
  let top := l.foldl (fun (m : Nat) (f : TxFrame) => Nat.max m f.queue) 0
  l.find? fun f => f.queue == top

/-- A two-step entry placed in a port's transmit timestamp queue (R261, R262); lost where the queue is full. -/
def State.tsqPut (s : State) (p : Nat) (e : TsEntry) : State :=
  match s.time.tsq[p]? with
  | none => s
  | some q =>
    if q.entries.length < 64 then { s with time.tsq := lmod s.time.tsq p fun q => { q with entries := q.entries ++ [e] } }
    else
      let s := { s with time.tsq := lmod s.time.tsq p fun q =>
        { q with lost := true, lostCount := satAdd 65535 q.lostCount 1, ring := (e.seqId :: q.ring).take 4 } }
      s.bump (Obj.tsQueueLost p)

/-- What a sent frame gets added to its correctionField, in units of 2^-16 ns (R260): the residence time of a forwarded event
message, and for Sync in the peer-to-peer mechanism the link delay of its ingress port. -/
def State.correction (s : State) (p : Nat) (f : TxFrame) : Int :=
  if f.kind = 3 ∧ f.ptp = 1 then
    let link := ((s.time.ptp[1 - p]?).map (·.linkDelay)).getD 0
    let sync := decide (s.nat Obj.ptpProfile = 2 ∧ f.what % 16 = 0)
    65536 * ((s.now : Int) - f.ingress + (if sync then link else 0))
  else if f.kind = 1 ∧ f.toCorrection then 65536 * (s.now : Int)
  else 0

/-- The frame of a port that leaves (R278): its descriptors are completed with the stamp of its SFD. -/
def State.sendFrame (s : State) (p : Nat) (f : TxFrame) : State :=
  let add := s.correction p f
  let sent : SentFrame :=
    { frame := f, time := s.now, stamp := s.time.short, correction := add,
      data := f.data.map fun d => if f.ptp = 1 then ({ length := f.length, data := d } : EthRx).corrected add else d }
  let s := s.modPort p fun x => { x with tx := x.tx.erase f, lastTx := some sent }
  let s := s.bump (Obj.ethTxFrames p)
  let s := if f.hq < 16 then s.hqComplete f.hq f.ndesc f.length 0 0 0 0 0 else s
  let s := if f.kind = 2 then
      s.tsqPut p { sec := s.time.sec, ns := s.time.ns, seqId := f.seqId, msgType := f.what % 16, domain := f.what / 256 % 256 }
    else s
  let s := if f.kind = 3 ∧ f.ptp = 1 then s.bump Obj.tcCorrected else s
  s.fillTx p

/-- TX_FRAME_SENT (R278): nothing starts while the link is down, the transmitter is paused, or after step 2 of the power-fail
sequence (R419). -/
def State.txSent (s : State) (p : Nat) : State :=
  let s := s.fillTx p
  match s.ports[p]? with
  | none => s
  | some x =>
    if !(s.netRuns && s.portOn p && x.up && x.pausedUntil.isNone && s.pw.cause == 0) then s
    else
      match nextTx x.tx with
      | some f => s.sendFrame p f
      | none => s

/-- TX_FRAME_SENT (R278). -/
def execTxFrameSent (port : Nat) (s : State) : Host.Outcome State Fault Refusal := .next (s.txSent port)

/-- A frame of the firmware queued to queue 7 of a port (R275). -/
def State.firmwareTx (s : State) (p : Nat) (f : TxFrame) : State := s.modPort p fun x => { x with tx := x.tx ++ [f] }

/-! ### Links (R269, R270) -/

/-- LINK_UP (R269). -/
def State.linkUp (s : State) (p : Nat) (auto_ partner : Bool) : State :=
  if s.netRuns && s.portOn p then
    let neg := s.negotiates p
    (s.modPort p fun x => { x with up := true, aneg := auto_ && neg, partnerPause := partner && neg }).fillTx p
  else s

/-- LINK_UP (R269). -/
def execLinkUp (port : Nat) (autoNegotiated partnerPause : Bool) (s : State) : Host.Outcome State Fault Refusal :=
  .next (s.linkUp port autoNegotiated partnerPause)

/-- A frame of the transmit FIFO discarded as its link goes down (R270). -/
def State.discardTx (s : State) (p : Nat) (f : TxFrame) : State :=
  let s := s.bump (Obj.txLinkDownDiscards p)
  if f.hq < 16 then s.hqComplete f.hq f.ndesc 0 0 0 0x2000 0 0 else s

/-- A link goes down (R270): whole received frames stay for dispatch; the one arriving and those in the transmit FIFO go. -/
def State.linkDown (s : State) (p : Nat) : State :=
  match s.ports[p]? with
  | none => s
  | some x =>
    if !x.up then s
    else
      let s := s.modPort p fun x => { x with up := false, aneg := false, partnerPause := false, arriving := none, tx := [],
                                             pausedUntil := none, pauseFrom := none, ignoreUntil := none, xoffSent := false }
      let s := x.tx.foldl (fun (s : State) (f : TxFrame) => s.discardTx p f) s
      (s.bump (Obj.linkDowns p)).logOp 0x3003 0xFF (pack [(1, p), (1, 16)])

/-- LINK_DOWN (R270). -/
def execLinkDown (port : Nat) (s : State) : Host.Outcome State Fault Refusal := .next (s.linkDown port)

/-! ### Receive (R271 to R277, R281) -/

/-- A frame's SFD (R272): admitted when its greatest length fits, otherwise dropped whole. -/
def State.rxSfd (s : State) (p : Nat) : State :=
  match s.ports[p]? with
  | none => s
  | some x =>
    if !(s.netRuns && s.portOn p && x.up && x.arriving.isNone) then s
    else
      let need := round64 (s.nat (Obj.maxFrameBytes p))
      if x.room < need then s.bump (Obj.rxFifoDrops p)
      else
        let now := s.now
        let short := s.time.short
        let entries := (List.range 64).map fun i => s.nat (Obj.filterEntry p i)
        (s.modPort p fun x => { x with arriving := some need, arrivalStamp := short, arrivalNs := now, filters := some entries }).flowControl p

/-- RX_SFD (R272). -/
def execRxSfd (port : Nat) (s : State) : Host.Outcome State Fault Refusal := .next (s.rxSfd port)

/-- Whether a frame is one the port accepts (R271): to its MacAddress, a broadcast, a multicast of its list or of PTP where that is in use. -/
def State.rxAccepts (s : State) (p : Nat) (f : EthRx) : Bool :=
  let c := s.nat (Obj.rxControl p)
  let listed := (List.range 16).any fun i => bytesAt (s.nat (Obj.multicastList p)) (6 * i) 6 == f.dest
  bit c 0 || f.dest == s.nat (Obj.macAddress p) || f.dest == 0xFFFFFFFFFFFF || (f.isGroup && (bit c 1 || listed)) ||
    (ptpAddress f.dest && (s.bitOf Obj.ptpPortEnable p || (s.flag Obj.tcEnable && Nat.ble p 1)))

/-- Whether a filter entry matches a frame (R274); TagMatch 3 is reserved and matches none. -/
def filterMatches (e : Nat) (f : EthRx) : Bool :=
  let tag := bits e 55 54
  bit e 63 &&
  (tag == 0 || (tag == 1 && !f.tagged) || (tag == 2 && f.tagged)) &&
  (!bit e 58 || (f.tagged && bits e 47 36 == f.tci % 4096)) &&
  (!bit e 57 || (f.tagged && bits e 53 51 == f.tci / 8192)) &&
  (!bit e 56 || bits e 31 16 == f.etherType)

/-- Whether a frame is a PTP message on a transport enabled in PtpTransport (R281). -/
def State.ptpOn (s : State) (f : EthRx) : Bool :=
  (f.ptpPlace.map fun m => bit (s.nat Obj.ptpTransport) m.transport).getD false

/-- Whether a received PTP message is forwarded to the other port (R281). -/
def State.tcForwards (s : State) (p : Nat) (f : EthRx) (truncated : Bool) : Bool :=
  s.flag Obj.tcEnable && Nat.ble p 1 && s.ptpOn f && !truncated && !(s.nat Obj.ptpProfile == 2 && f.isPdelay)

/-- The message as the other port forwards it, through its queue 7 (R281): the event messages of R260 are corrected. -/
def forwardedTx (f : EthRx) (ingress : Nat) : TxFrame :=
  { queue := 7, length := f.length, hq := 16, ndesc := 0, kind := 3, toCorrection := true, seqId := 0,
    what := f.msgType, ingress, ptp := if Nat.ble f.msgType 3 then 1 else 2, data := some f.data }

/-- A whole frame enters the FIFO, filtered to its queue (R274), or is dropped. -/
def State.rxEnter (s : State) (p : Nat) (x : Port) (f : EthRx) (truncated : Bool) : State :=
  let fwd := s.tcForwards p f truncated
  let s := if fwd then s.firmwareTx (1 - p) (forwardedTx f x.arrivalNs) else s
  if !(fwd || s.rxAccepts p f) then s.bump (Obj.rxFiltered p)
  else
    let es := x.filters.getD []
    let hit := (es.zip (List.range 64)).find? fun e => filterMatches e.1 f
    if (hit.map fun e => bit e.1 62).getD false then s.bump (Obj.rxFiltered p)
    else
      let g : RxFifoFrame :=
        { frame := f, queue := (hit.map fun e => bits e.1 61 59).getD (s.nat (Obj.defaultQueue p)),
          filter := (hit.map (·.2)).getD 0xFF, truncated, tcCopy := fwd, stamp := x.arrivalStamp }
      let now := s.now
      s.modPort p fun x => { x with rx := x.rx ++ [g], headNs := if x.rx.isEmpty then now else x.headNs }

/-- The end of a frame (R273): runts, failed FCS, truncation, MAC control, then filtering. -/
def State.rxEnd (s : State) (p : Nat) (f : EthRx) : State :=
  match s.ports[p]? with
  | none => s
  | some x =>
    if x.arriving.isNone then s
    else
      let s := s.modPort p fun x => { x with arriving := none }
      let max := s.nat (Obj.maxFrameBytes p)
      let s :=
        if f.length < 64 then s.bump (Obj.rxRunts p)
        else if max < f.length then (s.bump (Obj.rxTruncated p)).rxEnter p x { length := max, data := f.data % 256 ^ max } true
        else if !f.fcsOk then s.bump (Obj.rxFcsErrors p)
        else
          match f.pause with
          | some quanta => s.pauseIn p quanta
          | none => if f.macControl then s.bump (Obj.rxMacControl p) else s.rxEnter p x f false
      s.flowControl p

/-- RX_FRAME_END (R273). -/
def execRxFrameEnd (port : Nat) (f : EthRx) (s : State) : Host.Outcome State Fault Refusal := .next (s.rxEnd port f)

/-- The head frame leaves a FIFO, and the one behind it becomes the head. -/
def State.rxDrop (s : State) (p : Nat) : State :=
  let now := s.now
  (s.modPort p fun x => { x with rx := x.rx.drop 1, headNs := now }).flowControl p

/-- The Status of a receive descriptor, without its Result (R290). -/
def RxFifoFrame.flags (g : RxFifoFrame) : Nat :=
  2048 * b2n g.frame.tagged + 1024 * b2n g.frame.isPtp + 512 * b2n g.tcCopy

/-- The head frame written to the descriptors of a host ring (R276, R289, R290). -/
def State.rxToHost (s : State) (p q n : Nat) (g : RxFifoFrame) : State :=
  let word := g.frame.tci * 65536 + g.frame.etherType
  let s := s.hqCompleteAt g.stamp q n g.frame.length g.filter word (4096 * b2n g.truncated + g.flags) 0 g.frame.data
  (s.bump (Obj.rxFrames p)).rxDrop p

/-- Where the head frame of a FIFO goes (R275, R276, R293): to the firmware, which discards truncated frames; to a host ring;
dropped at once where the host side is gone; none while the ring has too few descriptors. -/
def State.dispatch (s : State) (p : Nat) : Option State :=
  match (s.ports[p]?).bind (·.rx.head?) with
  | none => none
  | some g =>
    match s.ringOwner 4 p g.queue with
    | none => some ((if g.truncated then s else s.bump (Obj.rxFrames p)).rxDrop p)
    | some q =>
      match s.hqOf q with
      | none => none
      | some h =>
        if !(s.hostUp && s.hif.busMaster && h.running) then some ((s.bump (hqKey q 0x28)).rxDrop p)
        else (descsFor h.posted g.frame.length).map fun n => s.rxToHost p q n g

/-- RX_DISPATCH (R276): the frames behind a head that waits wait too. -/
def State.rxDispatch (s : State) (p : Nat) : State := if s.netRuns then (s.dispatch p).getD s else s

/-- RX_DISPATCH (R276). -/
def execRxDispatch (port : Nat) (s : State) : Host.Outcome State Fault Refusal := .next (s.rxDispatch port)

/-- RX_STARVE_TIMEOUT (R276): RxStarveWaitUs has passed since the frame reached the FIFO head; a host ring with enough descriptors takes the frame all the same. -/
def State.rxStarve (s : State) (p : Nat) : State :=
  let due := ((s.ports[p]?).map fun x => Nat.ble (x.headNs + 1000 * s.nat (Obj.rxStarveWaitUs p)) s.now).getD false
  if !(s.netRuns && due) then s
  else
    match (s.ports[p]?).bind (·.rx.head?) with
    | none => s
    | some g =>
      match s.ringOwner 4 p g.queue with
      | none => ((s.bump (Obj.rxStarved p)).logOpFree 2 (pack [(1, p), (7, g.queue)])).rxDrop p
      | some q =>
        match s.dispatch p with
        | some s => s
        | none => ((s.bump (Obj.rxStarved p)).hqStarve q).rxDrop p

/-- RX_STARVE_TIMEOUT (R276). -/
def execRxStarveTimeout (port : Nat) (s : State) : Host.Outcome State Fault Refusal := .next (s.rxStarve port)

/-- PTP_PDELAY_REQ (R281): with TcEnable and the peer-to-peer profile, ports 0 and 1 answer and measure
their link delay. -/
def State.pdelayReq (s : State) (p : Nat) (delay : Int) : State :=
  if s.netRuns && s.flag Obj.tcEnable && s.nat Obj.ptpProfile == 2 && Nat.ble p 1 && ((s.ports[p]?).map (·.up)).getD false then
    let answer : TxFrame := { queue := 7, length := 72, hq := 16, ndesc := 0, kind := 0, toCorrection := false, seqId := 0, what := 3,
                              ingress := s.now, ptp := 3, data := none }
    (s.modPtp p fun x => { x with linkDelay := delay }).firmwareTx p answer
  else s

/-- PTP_PDELAY_REQ (R281). -/
def execPtpPdelayReq (port : Nat) (delayNs : Int) (s : State) : Host.Outcome State Fault Refusal :=
  .next (s.pdelayReq port delayNs)

end Sys2Proof.Machine
end

