-- ==== Sys2Proof/Machine/Flags.lean ====
section
/-! DEFINITION. The status words that the part computes: the registers of BAR0 as the host reads them (R250, R283 to R288, R328). -/

namespace Sys2Proof.Machine

/-- HIF_STATUS (R284). -/
def State.hifStatus (s : State) : Nat :=
  b2n (s.awake && s.pw.stage == 0x0D && s.nat Obj.powerState == 0 && s.fw.matched != 255 && !s.pw.replaying) + 2 * b2n s.pw.regional + 4 * b2n s.large +
    8 * b2n (s.nat Obj.sealState != 1) + 16 * b2n s.pins.safe + 32 * b2n (s.pins.pfi || s.pw.cause != 0) + 64 * b2n (s.locketStatus == 3) +
    256 * s.pw.stage

/-- HIF_ID (R284). -/
def State.hifId (s : State) : Nat := 0x10480000 + 256 * (Config.dieRevision % 256) + s.nat Obj.variantCode

/-- HIF_TIME_CTRL (R250): no step is ever pending after a command. -/
def State.timeCtrl (s : State) : Nat := 2 * s.nat Obj.servoOwner + 4 * b2n s.time.step.isSome + 8 * b2n s.time.incrClamped

/-- HIF_TIME_STATUS (R250). -/
def State.timeStatus (s : State) : Nat := s.clock + 16 * s.nat Obj.selectedSource + 256 * s.nat Obj.rtcValid

/-- HIF_TSQ_STATUS of a port (R250). -/
def TsQueue.status (q : TsQueue) : Nat := q.entries.length + 256 * b2n q.lost + 65536 * q.lostCount

/-- HIF_TSQ_ENTRY of a port's head (R261): empty, and hidden from the host while the firmware owns the servo. -/
def State.tsqHead (s : State) (q : TsQueue) : Nat :=
  match q.entries.head? with
  | some e =>
    if s.nat Obj.servoOwner = 1 then pack [(6, e.sec), (4, e.ns), (2, e.seqId), (1, e.msgType), (1, e.domain), (1, 1), (1, 0)] else 0
  | none => 0

/-- HIF_TIME_SNAP (R250). -/
def Snap.word (x : Snap) : Nat := pack [(6, x.sec), (4, x.ns), (4, x.short), (1, x.status), (1, 0)]

/-- HIF_HQ_STATUS (R288). -/
def HostQueue.status (h : HostQueue) : Nat :=
  b2n h.running + 8 * b2n h.bindRefused + 16 * b2n h.draining + 32 * b2n h.starved + 64 * b2n h.doorbellError + 128 * b2n h.fault

/-- HIF_MB_STATUS (R287). -/
def Mailbox.status (m : Mailbox) : Nat := m.respLength + 16384 * b2n m.valid + 32768 * b2n m.busy

/-- The 32-bit word at a byte offset of a wider field. -/
def wordAt (w off : Nat) : Nat := bytesAt w off 4

/-- A register of the host queue block (R288). -/
def State.hqReg (s : State) (q off : Nat) : Nat :=
  match s.hqOf q with
  | none => 0
  | some h =>
    match off with
    | 0x00 => h.ctrl
    | 0x04 => h.select
    | 0x08 => wordAt h.base 0
    | 0x0C => wordAt h.base 4
    | 0x10 => h.size
    | 0x14 => h.head
    | 0x18 => h.tail
    | 0x1C => h.status
    | 0x20 => s.nat (hqKey q 0x20)
    | 0x24 => s.nat (hqKey q 0x24)
    | 0x28 => s.nat (hqKey q 0x28)
    | _ => 0

/-- A register of the time window (R250). -/
def State.timeReg (s : State) (off : Nat) : Nat :=
  if Nat.ble 0x2100 off && Nat.blt off 0x2200 then
    match s.time.tsq[(off - 0x2100) / 64]? with
    | none => 0
    | some q =>
      let o := (off - 0x2100) % 64
      if o < 0x10 then wordAt (s.tsqHead q) o
      else if o = 0x10 then q.status
      else if o = 0x18 ∨ o = 0x1C then wordAt (pack (q.ring.map fun n => (2, n))) (o - 0x18)
      else 0
  else
    match off with
    | 0x2000 => s.timeCtrl
    | 0x2004 => s.timeStatus
    | 0x2008 => s.time.incrFrac
    | 0x200C => s.time.incrInt
    | 0x2010 => s.time.stepLo
    | 0x2014 => s.time.stepHi
    | 0x2018 => b2n s.time.beatBit
    | 0x2030 => wordAt (enc 8 s.lagNs) 0
    | 0x2034 => wordAt (enc 8 s.lagNs) 4
    | _ => if Nat.ble 0x2020 off && Nat.blt off 0x2030 then wordAt s.time.snap.word (off - 0x2020) else 0

/-- A register of the log window (R328). -/
def State.logReg (s : State) (off : Nat) : Nat :=
  match off with
  | 0x3000 => s.hif.logSelect
  | 0x3008 => wordAt s.hif.logPos 0
  | 0x300C => wordAt s.hif.logPos 4
  | 0x3010 => 16 * b2n s.hif.logAuto
  | 0x3014 => s.logStatusWord
  | _ => if Nat.ble 0x3040 off && Nat.blt off 0x3080 then wordAt s.hif.logRecord (off - 0x3040) else 0

/-- The word at an aligned offset of BAR0 (R283): 0 at a reserved offset. -/
def State.barReg (s : State) (off : Nat) : Nat :=
  if Nat.ble 0x1000 off && Nat.blt off 0x2000 then s.hqReg ((off - 0x1000) / 256) (off % 256)
  else if Nat.ble 0x2000 off && Nat.blt off 0x3000 then s.timeReg off
  else if Nat.ble 0x3000 off && Nat.blt off 0x4000 then s.logReg off
  else if Nat.ble 0x0400 off && Nat.blt off 0x0600 then (s.hif.mb.request.getD ((off - 0x400) / 4) 0)
  else if Nat.ble 0x0600 off && Nat.blt off 0x0800 then wordAt s.hif.mb.response (off - 0x600)
  else if Nat.ble 0x8000 off && Nat.blt off 0x8200 then
    (tget s.hif.msix ((off - 0x8000) / 4)).getD (if off % 16 = 12 then 1 else 0)
  else
    match off with
    | 0x0000 => s.hifId
    | 0x0004 => 1
    | 0x0008 => wordAt Config.deviceSerial 0
    | 0x000C => wordAt Config.deviceSerial 4
    | 0x0010 => s.hifStatus
    | 0x0014 => s.hif.scratch
    | 0x0100 => s.hif.cause
    | 0x0104 => s.hif.enable
    | 0x0244 => s.hif.mb.status
    | 0x9000 => s.hif.pba
    | _ => 0

end Sys2Proof.Machine
end

