-- ==== Sys2Proof/Machine/HostIf.lean ====
section
/-! DEFINITION. The PCIe host interface (R282 to R293): the link, doorbells, host queues, the mailbox, interrupts, BAR0
accesses. -/

namespace Sys2Proof.Machine

/-! ### Sessions that end (R293, R333, R363) -/

/-- A session ends (R144, R358, R363): its traffic keys, transfer and held result go, a freeze it holds is broken; requests still in
progress complete and their responses are discarded (R293). -/
def State.endSession (s : State) (n : Nat) : State :=
  match tget s.sessions n with
  | none => s
  | some ses =>
    let s := (if (s.freeze.map fun f => f.holder == n + 1).getD false then s.breakFreeze else s).closeTraffic n
    if 0 < s.outstanding n || (n == 0 && s.hif.mb.busy) then
      { s with sessions := tput s.sessions n { ses with closing := true, bulk := none, held := none } }
    else { s with sessions := tdel s.sessions n }

/-! ### Host queues (R286, R288, R289, R291) -/

/-- The posted descriptors of a queue completed as aborted (R290). -/
def State.hqAbort (s : State) (q : Nat) : State :=
  match s.hqOf q with
  | some h => if h.posted.isEmpty then s else s.hqComplete q h.posted.length 0 0 0 0x4000 0 0
  | none => s

/-- Whether the kind-1 batch given at a count has been handed back: the tail has passed that count by the ring's size (R291). -/
def handedBack (tail size after : Nat) : Bool :=
  let d := (tail + 4294967296 - after % 4294967296) % 4294967296
  Nat.ble size d && Nat.blt d 2147483648

/-- The batches whose descriptors the host has handed back (R291) are released. -/
def State.takeBack (s : State) (q : Nat) : State :=
  match s.hqOf q with
  | none => s
  | some h =>
    let back := h.given.filter fun g => handedBack h.tail (2 ^ h.size) g.1
    let s := s.modHq q fun h => { h with given := h.given.filter fun g => !handedBack h.tail (2 ^ h.size) g.1 }
    { s with nand.retained := s.nand.retained.filter fun b => !(back.any fun g => g.2.1 == b.tenant && g.2.2 == b.seq) }

/-- What waits for a queue delivered into newly posted descriptors: batches, log records, frames to transmit. -/
def State.hqFeed (s : State) (q : Nat) : State :=
  match s.hqOf q with
  | none => s
  | some h =>
    let s := s.pumpBatches q
    let s := if s.hostUp then (List.range 4).foldl (fun (s : State) (l : Nat) => s.pumpLogTo q l) s else s
    if h.isKind 5 then s.fillTx (bits h.ctrl 9 8) else s

/-- HQ_DOORBELL (R286): `posted` the descriptors from the old tail to the new one, buffer address and length with the flags of a
kind-5 poster in the bits above 16. -/
def State.hqDoorbell (s : State) (q tail : Nat) (posted : List (Nat × Nat)) : State :=
  match s.hqOf q with
  | none => s
  | some h =>
    if !s.bar || !bit h.ctrl 0 then s
    else
      let size := 2 ^ h.size
      let ahead := (tail + 4294967296 - h.head) % 4294967296
      let n := (tail + 4294967296 - h.tail) % 4294967296
      if size < ahead ∨ size < n then (s.modHq q fun h => { h with doorbellError := true }).bump Obj.doorbellErrors
      else if posted.length ≠ n then s
      else ((s.modHq q fun h => { h with tail := tail, posted := h.posted ++ posted }).takeBack q).hqFeed q

/-- HQ_DOORBELL (R286). -/
def execHqDoorbell (queue : Nat) (tail : Word) (posted : List (Nat × Nat)) (s : State) : Host.Outcome State Fault Refusal :=
  .next (s.hqDoorbell queue tail.toNat posted)

/-- n descriptors as a poster wrote them into the ring (R290): they lie in the host's memory, so each is a free value, of a buffer of 64
to 65,535 bytes. -/
def State.drawPosted : Nat → State → List (Nat × Nat) × State
  | 0, s => ([], s)
  | n + 1, s =>
    let (a, s) := s.draw
    let (l, s) := s.draw
    let (f, s) := s.draw
    let (t, s) := State.drawPosted n s
    ((a % 256 ^ 8, 64 + l % 65472 + 65536 * (f % 65536)) :: t, s)

/-- The write of HIF_DB_HQ (R283, R286): HQ_DOORBELL with the descriptors that lie in the ring. -/
def State.hqTailWrite (s : State) (q tail : Nat) : State :=
  match s.hqOf q with
  | none => s
  | some h =>
    let n := (tail + 4294967296 - h.tail) % 4294967296
    let (posted, t) := s.drawPosted (if bit h.ctrl 0 && Nat.ble n (2 ^ h.size) then n else 0)
    t.hqDoorbell q tail posted

/-- Whether a binding is refused (R289): an undefined kind, queue 7, a disabled port, a ring that another host queue owns. -/
def State.bindRefused (s : State) (q ctrl : Nat) : Bool :=
  let kind := bits ctrl 4 1
  let port := bits ctrl 9 8
  let ring := bits ctrl 7 5
  let others := (List.range 16).any fun o => o != q && ((s.hqOf o).map fun h =>
    (bit h.ctrl 0 || h.releasing) && bits h.ctrl 4 1 == kind && bits h.ctrl 9 8 == port && bits h.ctrl 7 5 == ring).getD false
  kind == 0 || Nat.blt 5 kind || (Nat.ble 4 kind && (ring == 7 || !s.portOn port || others))

/-- HOST_QUEUE_ENABLE (R288, R289, R291): the write of HIF_HQ_CTRL that sets Enable. While it is set already, the write changes the
coalescing alone, and makes a queue that stopped run again (R293). -/
def State.hqEnable (s : State) (q ctrl : Nat) : State :=
  match s.hqOf q with
  | none => s
  | some h =>
    if !s.bar then s
    else
      let was := bit h.ctrl 0
      let c := if was then bits h.ctrl 11 0 + 4096 * bits ctrl 31 12 else setBit (setBit (ctrl % 4294967296) 10 false) 11 false
      if was && (h.running || h.draining) then s.modHq q fun h => { h with ctrl := c }
      else if s.bindRefused q c then s.modHq q fun h => { h with ctrl := setBit c 0 false, bindRefused := true }
      else if Nat.ble 4 (bits c 4 1) && !was then s.modHq q fun h => { h with ctrl := setBit c 0 true, draining := true }
      else
        let given := h.given
        let s := s.modHq q fun h => { h with ctrl := setBit c 0 true, running := true, given := [] }
        (s.redeliver fun b => given.any fun g => g.2.1 == b.tenant && g.2.2 == b.seq).hqFeed q

/-- HOST_QUEUE_ENABLE (R289). -/
def execHostQueueEnable (queue : Nat) (ctrl : Word) (s : State) : Host.Outcome State Fault Refusal :=
  .next (s.hqEnable queue ctrl.toNat)

/-- HOST_QUEUE_DISABLE (R289): a Midway ring returns to the firmware after a drain; the other kinds stop at once. -/
def State.hqDisable (s : State) (q : Nat) : State :=
  match s.hqOf q with
  | none => s
  | some h =>
    if !(s.bar && bit h.ctrl 0) then s
    else if Nat.ble 4 (bits h.ctrl 4 1) && !h.draining then
      s.modHq q fun h => { h with ctrl := setBit h.ctrl 0 false, draining := true, releasing := true }
    else
      (s.hqAbort q).modHq q fun h => { h with ctrl := setBit h.ctrl 0 false, running := false, draining := false }

/-- HOST_QUEUE_DISABLE (R289). -/
def execHostQueueDisable (queue : Nat) (s : State) : Host.Outcome State Fault Refusal := .next (s.hqDisable queue)

/-- DRAIN_COMPLETE (R289): the draining owner is done, and the ring passes over. -/
def State.drainComplete (s : State) (q : Nat) : State :=
  match s.hqOf q with
  | none => s
  | some h =>
    if !h.draining then s
    else if h.releasing then
      let p := bits h.ctrl 9 8
      let s := s.modPort p fun x => { x with tx := x.tx.filter fun f => f.hq != q }
      (s.hqAbort q).modHq q fun h => { h with running := false, draining := false, releasing := false }
    else (s.modHq q fun h => { h with running := true, draining := false }).hqFeed q

/-- DRAIN_COMPLETE (R289). -/
def execDrainComplete (queue : Nat) (s : State) : Host.Outcome State Fault Refusal := .next (s.drainComplete queue)

/-- QUEUE_DONE_COALESCE (R288): CoalesceUs after a completion, its QueueDone bit is set. -/
def State.hqCoalesce (s : State) (q : Nat) : State :=
  match s.hqOf q with
  | some h =>
    if s.awake && h.uncounted != 0 && bits h.ctrl 31 20 != 0 then (s.modHq q fun h => { h with uncounted := 0 }).raise q else s
  | none => s

/-- QUEUE_DONE_COALESCE (R288). -/
def execQueueDoneCoalesce (queue : Nat) (s : State) : Host.Outcome State Fault Refusal := .next (s.hqCoalesce queue)

/-- A frame in progress for a faulted receive ring is dropped (R293): the head of its port's FIFO. -/
def State.dropHead (s : State) (q : Nat) (h : HostQueue) : State :=
  let p := bits h.ctrl 9 8
  match (s.ports[p]?).bind (·.rx.head?) with
  | some g => if g.queue = bits h.ctrl 7 5 then (s.rxDrop p).bump (hqKey q 0x28) else s
  | none => s

/-- DMA_FAULT (R293): the queue stops with Fault; for kind 1 its batches stay retained. -/
def State.dmaFault (s : State) (q : Nat) : State :=
  match s.hqOf q with
  | none => s
  | some h =>
    if !(s.awake && h.running) then s
    else
      let s := s.modHq q fun h => { h with fault := true, running := false }
      let s := if bits h.ctrl 4 1 = 4 then s.dropHead q h else s
      let s := s.modPort (bits h.ctrl 9 8) fun x => { x with tx := x.tx.filter fun f => f.hq != q }
      ((s.hqAbort q).bump Obj.dmaFaults).raise 23

/-- DMA_FAULT (R293). -/
def execDmaFault (queue : Nat) (s : State) : Host.Outcome State Fault Refusal := .next (s.dmaFault queue)

/-! ### The link (R282, R293) -/

/-- The PCIe link trained (R282), the mailbox session with it (R365), Bus Master Enable taken as set with the link. -/
def State.pcieUp (s : State) (gen width : Nat) : State :=
  if s.forced Obj.hostEnable = 0 ∨ gen = 0 then s
  else
    let s := { s with hif.busMaster := true }.set Obj.hostLink (gen % 16 + 16 * width : Nat)
    if (tget s.sessions 0).isSome then s else s.openSession 0 s.mailboxRole 0xFF

/-- PCIE_LINK_UP (R282): from step 5 of the start-up sequence on (R412). -/
def execPcieLinkUp (gen width : Nat) (s : State) : Host.Outcome State Fault Refusal :=
  .next (if s.capRuns || s.up || s.recovering then s.pcieUp gen width else s)

/-- The host side goes (R293): queues of kinds 1 to 3 stop, the mailbox session ends, a host freeze is broken; ring bindings
remain. -/
def State.pcieDown (s : State) : State :=
  if !s.hostUp then s
  else
    let stop (h : HostQueue) : HostQueue := if Nat.ble (bits h.ctrl 4 1) 3 then { h with running := false } else h
    let s := { s with hif.busMaster := false, hif.hq := s.hif.hq.map stop }
    let s := (s.set Obj.hostLink 0).bump Obj.hostLinkDowns
    let s := if (s.freeze.map fun f => f.holder == 0).getD false then s.breakFreeze else s
    s.endSession 0

/-- PCIE_LINK_DOWN (R293). -/
def execPcieLinkDown (s : State) : Host.Outcome State Fault Refusal := .next s.pcieDown

/-! ### The mailbox (R287) -/

/-- MAILBOX_DOORBELL (R287): a request of 1 to 512 bytes is taken; the request itself follows as its own command. -/
def State.mailboxDoorbell (s : State) (length : Nat) : State :=
  if !s.bar then s
  else if s.hif.mb.busy || s.hif.mb.valid || !s.flag Obj.mailboxCapEnable then s.bump Obj.mailboxBusyWrites
  else if length = 0 ∨ 512 < length then s
  else { s with hif.mb.busy := true }.raise 17

/-- MAILBOX_DOORBELL (R287). -/
def execMailboxDoorbell (length : Word) (s : State) : Host.Outcome State Fault Refusal := .next (s.mailboxDoorbell length.toNat)

/-- MAILBOX_RESPONSE_FREE (R287). -/
def State.mailboxFree (s : State) : State := if s.bar then { s with hif.mb.valid := false } else s

/-- MAILBOX_RESPONSE_FREE (R287). -/
def execMailboxResponseFree (s : State) : Host.Outcome State Fault Refusal := .next s.mailboxFree

/-! ### Interrupts (R285) -/

/-- The bits of a first word that a second one does not hold. -/
def clearBits (w v : Nat) : Nat := w - (w &&& v)

/-- INT_CAUSE_CLEAR (R285). -/
def State.causeClear (s : State) (v : Nat) : State := if s.bar then { s with hif.cause := clearBits s.hif.cause v } else s

/-- INT_CAUSE_CLEAR (R285). -/
def execIntCauseClear (v : Word) (s : State) : Host.Outcome State Fault Refusal := .next (s.causeClear v.toNat)

/-- INT_ENABLE_WRITE (R285): a message for each cause set that becomes enabled. -/
def State.enableWrite (s : State) (v : Nat) : State :=
  if !s.bar then s
  else
    let old := s.hif.enable
    let s := { s with hif.enable := v % 16777216 }
    (List.range 24).foldl (fun (s : State) (n : Nat) =>
      if bit s.hif.cause n && bit v n && !bit old n then s.msi n else s) s

/-- INT_ENABLE_WRITE (R285). -/
def execIntEnableWrite (v : Word) (s : State) : Host.Outcome State Fault Refusal := .next (s.enableWrite v.toNat)

/-! ### BAR0 accesses (R14, R15, R283) -/

/-- BAR0_BAD_ACCESS (R283). -/
def execBar0BadAccess (read : Bool) (s : State) : Host.Outcome State Fault Refusal :=
  .next (if s.bar && read then { s with hif.lastRead := 0xFFFFFFFF } else s)

/-- A wide register with the word at a byte offset written. -/
def putWord (w off v : Nat) : Nat := w % 256 ^ off + 256 ^ off * v + 256 ^ (off + 4) * (w / 256 ^ (off + 4))

/-- A write of HIF_HQ_CTRL (R14, R288): with Enable it binds, without it the queue is disabled and keeps its binding, or its fields
change; the coalescing fields take what is written either way. -/
def State.hqCtrl (s : State) (q v : Nat) : State :=
  if bit v 0 then s.hqEnable q v
  else if ((s.hqOf q).map fun h => bit h.ctrl 0).getD false then
    (s.modHq q fun h => { h with ctrl := bits h.ctrl 11 0 + 4096 * bits v 31 12 }).hqDisable q
  else s.modHq q fun h => { h with ctrl := setBit (setBit v 10 false) 11 false }

/-- A write to the host queue block (R288): the binding's registers only while Enable is 0. -/
def State.hqWrite (s : State) (q off v : Nat) : State :=
  let idle := ((s.hqOf q).map fun h => !bit h.ctrl 0).getD false
  match off with
  | 0x00 => s.hqCtrl q v
  | 0x04 => if idle then s.modHq q fun h => { h with select := v } else s
  | 0x08 => if idle then s.modHq q fun h => { h with base := putWord h.base 0 (v / 4096 * 4096) } else s
  | 0x0C => if idle then s.modHq q fun h => { h with base := putWord h.base 4 v } else s
  | 0x10 => if idle && Nat.ble 6 v && Nat.ble v 12 then s.modHq q fun h => { h with size := v } else s
  | 0x1C => s.modHq q fun h =>
      { h with fault := h.fault && !bit v 7, doorbellError := h.doorbellError && !bit v 6, starved := h.starved && !bit v 5,
               bindRefused := h.bindRefused && !bit v 3 }
  | _ => s

/-- A write of HIF_TIME_CTRL (R250). -/
def State.timeCtrlWrite (s : State) (v : Nat) : State :=
  let s := if bit v 0 then s.snapCapture else s
  if bit v 3 then { s with time.incrClamped := false } else s

/-- A write to the time window (R250): while ServoOwner is 0 the servo's registers take none. -/
def State.timeWrite (s : State) (off : Nat) (v : Word) : State :=
  let host := s.nat Obj.servoOwner == 1
  match off with
  | 0x2000 => s.timeCtrlWrite v.toNat
  | 0x2008 => if host then { s with time.incrFrac := v.toNat } else s
  | 0x200C => s.incrWrite v
  | 0x2010 => if host then { s with time.stepLo := v.toNat } else s
  | 0x2014 => s.timeStep v
  | 0x2018 => s.hostBeat v
  | _ =>
    if Nat.ble 0x2100 off && Nat.blt off 0x2200 && off % 64 == 0x10 && bit v.toNat 8 then
      { s with time.tsq := lmod s.time.tsq ((off - 0x2100) / 64) fun q => { q with lost := false } }
    else s

/-- A write of HIF_LOG_CMD (R328): AutoIncrement, then the commands set, in the order of their bits. -/
def State.logCmdWrite (s : State) (v : Nat) : State :=
  let s := { s with hif.logAuto := bit v 4 }
  let s := if bit v 0 then s.logReadCmd (bit v 4) 0 else s
  let s := if bit v 1 then s.logFreezeCmd else s
  let s := if bit v 2 then s.logThawCmd else s
  if bit v 3 then s.logBoundsCmd else s

/-- A write to the log window (R328). -/
def State.logWrite (s : State) (off v : Nat) : State :=
  match off with
  | 0x3000 => { s with hif.logSelect := v % 4 }
  | 0x3008 => { s with hif.logPos := putWord s.hif.logPos 0 v }
  | 0x300C => { s with hif.logPos := putWord s.hif.logPos 4 v }
  | 0x3010 => s.logCmdWrite v
  | 0x3014 => if bit v 9 then { s with hif.freezeBroken := false }.logChanged else s
  | _ => s

/-- A write to the MSI-X table (R285): a message that waited for its vector leaves when the mask bit clears. -/
def State.msixWrite (s : State) (i v : Nat) : State :=
  let n := i / 4
  let s := { s with hif.msix := tput s.hif.msix i (if i % 4 = 3 then v % 2 else v) }
  if i % 4 = 3 && v % 2 == 0 && bit s.hif.pba n then { s with hif.pba := setBit s.hif.pba n false }.msi n else s

/-- A write to the Status of a Seesaw queue (R349): PoisonSeen written as 1 is cleared. -/
def State.seesawWrite (s : State) (off w : Nat) : State :=
  if s.awake && (off - seesawBase) % 64 == 0x28 && bit w 3 then
    { s with mem.queues := tmod s.mem.queues (seesawAt off) fun q => { q with poison := false } }
  else s

/-- REGISTER_WRITE (R13, R14, R283, R349): every register of BAR0, and of the Seesaw queue ports by its address of R336, by
its field access codes; writes to reserved offsets are ignored. -/
def State.registerWrite (s : State) (off : Nat) (v : Word) : State :=
  let w := v.toNat
  if Nat.ble seesawBase off && Nat.blt (seesawAt off) 96 then s.seesawWrite off w
  else if !s.bar || off % 4 != 0 then s
  else if Nat.ble 0x1000 off && Nat.blt off 0x2000 then s.hqWrite ((off - 0x1000) / 256) (off % 256) w
  else if Nat.ble 0x2000 off && Nat.blt off 0x3000 then s.timeWrite off v
  else if Nat.ble 0x3000 off && Nat.blt off 0x4000 then s.logWrite off w
  else if Nat.ble 0x8000 off && Nat.blt off 0x8200 then s.msixWrite ((off - 0x8000) / 4) w
  else if Nat.ble 0x0400 off && Nat.blt off 0x0600 then
    let r := s.hif.mb.request ++ List.replicate (128 - s.hif.mb.request.length) 0
    { s with hif.mb.request := r.set ((off - 0x400) / 4) w }
  else if Nat.ble 0x0200 off && Nat.blt off 0x0240 then s.hqTailWrite ((off - 0x200) / 4) w
  else
    match off with
    | 0x0014 => { s with hif.scratch := w }
    | 0x0100 => s.causeClear w
    | 0x0104 => s.enableWrite w
    | 0x0240 => s.mailboxDoorbell w
    | 0x0244 => if bit w 14 then s.mailboxFree else s
    | _ => s

/-- REGISTER_WRITE (R14). -/
def execRegisterWrite (offset : Nat) (v : Word) (s : State) : Host.Outcome State Fault Refusal := .next (s.registerWrite offset v)

/-- A read of the registers of a Seesaw queue (R349): CorrectedCount is cleared by it. Credit is that of the port that reads, which is a
free value (log entry 130). -/
def State.seesawRead (s : State) (off : Nat) : State :=
  match tget s.mem.queues (seesawAt off) with
  | none => s
  | some q =>
    if !s.awake then s
    else if (off - seesawBase) % 64 == 0x20 then
      let (x, s) := s.draw
      { s with hif.lastRead := q.credits.getD (x % q.credits.length) 0 % 65536 }
    else
      let s := { s with hif.lastRead := q.reg ((off - seesawBase) % 64) }
      if (off - seesawBase) % 64 == 0x2C then
        { s with mem.queues := tput s.mem.queues (seesawAt off) { q with corrected := 0 } }
      else s

/-- RC_READ (R14, R15, R349): the value read is the one before; RC fields are cleared in the same access. -/
def State.rcRead (s : State) (off : Nat) : State :=
  if Nat.ble seesawBase off && Nat.blt (seesawAt off) 96 then s.seesawRead off
  else if !s.bar || off % 4 != 0 then s
  else
    let s := { s with hif.lastRead := s.barReg off }
    if Nat.ble 0x1000 off && Nat.blt off 0x2000 && [0x20, 0x24, 0x28].contains (off % 256) then
      s.set (hqKey ((off - 0x1000) / 256) (off % 256)) 0
    else if Nat.ble 0x2100 off && Nat.blt off 0x2200 && off % 64 == 0x10 then
      { s with time.tsq := lmod s.time.tsq ((off - 0x2100) / 64) fun q => { q with lostCount := 0 } }
    else if Nat.ble 0x2100 off && Nat.blt off 0x2200 && off % 64 == 0x0C && s.nat Obj.servoOwner == 1 then s.tsqPop ((off - 0x2100) / 64)
    else s

/-- RC_READ (R15). -/
def execRcRead (offset : Nat) (s : State) : Host.Outcome State Fault Refusal := .next (s.rcRead offset)

end Sys2Proof.Machine
end

