-- ==== Sys2Proof/Machine/Hallmark.lean ====
section
/-! DEFINITION. The legal seal and the trust anchors (R375 to R385) and the tamper monitor (R386 to R391). -/

namespace Sys2Proof.Machine

/-! ### The seal (R382 to R385) -/

/-- An unsealed state ends (R385), with its cause: 1 a SEAL close, 2 release of SEAL_N, 3 UnsealMaxS, 4 a tamper event with zeroize, 5 a
restart. After the 64th break the counter is exhausted. -/
def State.closeSeal (s : State) (cause : Nat) : State :=
  if s.nat Obj.sealState ≠ 1 then s
  else
    let s := s.set Obj.sealState (if Nat.ble 64 s.hall.fuses then 2 else 0)
    s.logLegal 0x1002 0xFF (pack [(1, cause), (4, Nat.min s.hall.writes 0xFFFFFFFF)])

/-- The payload of SEAL_OPENED (R384). -/
def sealOpened (counter reason aborted operator container : Nat) : Nat :=
  pack [(1, counter), (1, reason), (1, aborted), (5, 0), (16, operator), (8, container)]

/-- The checks of a SEAL before its burn (R384 steps 1 to 8): the number of the first that fails. -/
def State.sealCheck (s : State) (e : Epmeir) (a : SealArg) : Option Nat :=
  match s.containerCheck e 4 false with
  | some n => some n
  | none =>
    let state := s.nat Obj.sealState
    (firstFail [s.anchorHas 6 0 e.signer,
      Nat.blt (s.nat Obj.sealContainerCounter) e.counter,
      a.serial == Config.deviceSerial && a.expectedBreaks == s.nat Obj.sealCounter &&
        ((a.action == 1 && state != 1) || (a.action == 2 && state == 1)),
      a.action == 2 || s.pins.sealN,
      a.action == 2 || Nat.blt (s.nat Obj.sealCounter) 64]).map (· + 3)

/-- An open commits (R384): the fuse burnt, the new state, the container counter and SEAL_OPENED. -/
def State.openSeal (s : State) (e : Epmeir) (a : SealArg) : State :=
  let n := s.hall.fuses + 1
  let now := s.now
  let s := { s with hall := { s.hall with fuses := n, openAt := now, writes := 0 } }
  let s := ((s.set Obj.sealState 1).set Obj.sealCounter n).setSealed Obj.sealContainerCounter e.counter
  s.logLegal 0x1001 0xFF (sealOpened n a.reason 0 a.operator e.counter)

/-- SEAL_SUBMIT (R384). `burnOk` is whether the fuse reads back burnt at step 9. -/
def State.sealSubmit (s : State) (r : CapReq) (e : Epmeir) (a : SealArg) (burnOk : Bool) : State :=
  s.capExec r Obj.sealSubmit fun _ s =>
    match s.sealCheck e a with
    | some n => (capErr 14 n, s)
    | none =>
      if a.action = 2 then (capOk, (s.setSealed Obj.sealContainerCounter e.counter).closeSeal 1)
      else if !burnOk then (capErr 14 9, s)
      else (capOk, s.openSeal e a)

/-- SEAL_SUBMIT (R384). -/
def execSealSubmit (r : CapReq) (e : Epmeir) (a : SealArg) (burnOk : Bool) (s : State) : Host.Outcome State Fault Refusal :=
  .next (s.sealSubmit r e a burnOk)

/-- UNSEAL_MAX_EXPIRY (R385). -/
def execUnsealMaxExpiry (s : State) : Host.Outcome State Fault Refusal :=
  .next (if s.awake && s.elapsedS s.hall.openAt (s.nat Obj.unsealMaxS) then s.closeSeal 3 else s)

/-- The SealCounter of the newest SEAL_OPENED record of the legal log (R384). -/
def State.loggedBreaks (s : State) : Nat :=
  (((s.logOf 0).recs.find? fun r => r.code == 0x1001).map fun r => r.payload % 256).getD 0

/-- An aborted SEAL_OPENED record for each burnt fuse without a record (R384): what the container held is gone. -/
def State.abortedSeals (s : State) : State :=
  let first := s.loggedBreaks + 1
  (List.range (s.hall.fuses + 1 - first)).foldl (fun (s : State) (i : Nat) =>
    s.logLegal 0x1001 0xFF (sealOpened (first + i) 0 1 0 0)) s

/-! ### Trust anchors (R377, R378) -/

/-- Whether an anchor stands in the slot that an entry names. -/
def anchorAt (role tenant slot : Nat) (a : Anchor) : Bool :=
  a.role == role && a.slot == slot && (a.tenant == tenant || !(role == 3 || role == 4))

/-- The anchors after one entry (R378 step 6), none where the entry is invalid. -/
def applyAnchor (sealed_ : Bool) (l : List Anchor) (e : AnchorEntry) : Option (List Anchor) :=
  let tenant := if e.role = 3 ∨ e.role = 4 then e.tenant else 0
  let here := anchorAt e.role tenant e.slot
  let rest := l.filter fun a => !here a
  if e.role = 0 ∨ 6 < e.role ∨ 3 < e.slot ∨ 7 < tenant then none
  else if sealed_ ∧ 5 ≤ e.role then none
  else if e.action = 1 then some (rest ++ [{ role := e.role, tenant, slot := e.slot, kind := e.keyKind, key := e.key }])
  else if e.action ≠ 2 ∨ !(l.any here) then none
  else if e.role = 1 ∧ !(rest.any fun a => a.role == 1) then none
  else some rest

/-- The anchors after every entry in order. -/
def applyAnchors (sealed_ : Bool) : List Anchor → List AnchorEntry → Option (List Anchor)
  | l, [] => some l
  | l, e :: t =>
    match applyAnchor sealed_ l e with
    | some l => applyAnchors sealed_ l t
    | none => none

/-- Whether a TRUST_ANCHOR's signature verifies (R376): under an Owner, or the provisioning key while there is none. -/
def State.ownerSigned (s : State) (key : Nat) : Bool :=
  if s.allAnchors.any fun a => a.role == 1 then s.anchorHas 1 0 key else key != 0 && key == Config.provisioningKey

/-- TRUST_ANCHOR_SUBMIT (R378). -/
def State.anchorSubmit (s : State) (r : CapReq) (e : Epmeir) (entries : List AnchorEntry) : State :=
  s.capExec r Obj.trustAnchorSubmit fun _ s =>
    match s.containerCheck e 6 false with
    | some n => (capErr 14 n, s)
    | none =>
      if !s.ownerSigned e.signer then (capErr 14 4, s)
      else if e.counter ≤ s.nat Obj.trustAnchorCounter then (capErr 14 5, s)
      else
        match applyAnchors (s.nat Obj.sealState != 1) s.allAnchors entries with
        | none => (capErr 14 6, s)
        | some l =>
          let act (s : State) : CapOut × State :=
            let s := { s with loc.anchors := l.filter fun a => Nat.ble a.role 4, nand.anchors := l.filter fun a => Nat.ble 5 a.role }
            (capOk, (s.setPaired Obj.trustAnchorCounter e.counter).logSec 0x2003 0xFF (pack [(8, 0), (1, 6)]))
          if entries.any fun x => Nat.ble 5 x.role then s.mediaGate act else act s

/-- TRUST_ANCHOR_SUBMIT (R378). -/
def execTrustAnchorSubmit (r : CapReq) (e : Epmeir) (entries : List AnchorEntry) (s : State) : Host.Outcome State Fault Refusal :=
  .next (s.anchorSubmit r e entries)

/-! ### Firmware epoch (R381) -/

/-- The Counter of the image in force (R379). -/
def Firmware.counter (f : Firmware) : Nat := if f.inForce = 0 then f.counterA else f.counterB

/-- FIRMWARE_EPOCH_COMMIT (R381): FirmwareEpoch rises to the epoch of the image in force. -/
def State.epochCommit (s : State) (r : CapReq) (v : Nat) : State :=
  s.capExec r Obj.firmwareEpochCommit fun _ s =>
    boolCommand v s fun s =>
      if s.recovering then (capErr 19 0xF0, s) else
      let n := Nat.max s.hall.epoch (s.fw.counter / 2 ^ 56)
      (capOk, { s with hall := { s.hall with epoch := n } }.set Obj.firmwareEpoch n)

/-- FIRMWARE_EPOCH_COMMIT (R381). -/
def execFirmwareEpochCommit (r : CapReq) (v : Nat) (s : State) : Host.Outcome State Fault Refusal := .next (s.epochCommit r v)

/-! ### Clasp (R386 to R390) -/

/-- Whether Clasp runs: the battery domain has a supply (R453). -/
def State.claspRuns (s : State) : Bool := s.pw.rails || s.bat.vbat

/-- The RTC second that Clasp stamps with, zero while RtcValid is clear (R387). -/
def State.rtcSec (s : State) : Nat := if s.bat.rtcValid then s.bat.rtc / 32768 else 0

/-- The activations of a source recorded singly in one second (R389, R390); none for a source without a limit. -/
def rateLimit (source : Nat) : Option Nat :=
  if source ≤ 3 then some 8 else if source = 10 then some 2 else if source = 11 then some 4 else none

/-- The response of a source (R387), as battery-domain SRAM holds it. -/
def State.tamperResponse (s : State) (source : Nat) : Nat :=
  if source ≤ 8 then s.bat.tamperResponse.getD source 0 else if source = 9 then 2 else 0

/-- Whether the security log can take a record (R388). -/
def State.logReady (s : State) : Bool := s.mounted

/-- The payload of a TAMPER record (R387). -/
def tamperPayload (source kind response context : Nat) (x : Source) : Nat :=
  pack [(1, source), (1, kind), (1, response), (1, context), (4, 0), (4, x.count), (4, x.storm), (6, x.first), (6, x.last), (4, 0)]

/-- The Context of a TAMPER record (R387). -/
def State.tamperContext (s : State) (aborted : Bool) : Nat :=
  b2n (s.awake && s.pw.stage != 0x0D) + 2 * b2n (!s.awake) + 4 * b2n aborted

/-- The newest TAMPER record of a source gains a repeat (R390); whether there is one. -/
def State.foldTamper (s : State) (source : Nat) : Bool × State :=
  let l := s.logOf 1
  match l.recs.findIdx? fun r => r.code == 0x2001 && r.payload % 256 == source with
  | none => (false, s)
  | some i =>
    match l.recs[i]? with
    | none => (false, s)
    | some r =>
      let (r, s) := s.fold r
      (true, s.modLog 1 fun l => { l with recs := l.recs.set i r })

/-- An event queued in the battery domain (R388): beyond 16 it folds into the last queued event of its source. -/
def State.queueTamper (s : State) (e : SleepEvent) : State :=
  if s.bat.sleepQueue.length < 16 then { s with bat.sleepQueue := s.bat.sleepQueue ++ [e] }
  else
    let rev := s.bat.sleepQueue.reverse
    match rev.findIdx? fun x => x.source == e.source with
    | some i => { s with bat.sleepQueue := (lmod rev i fun (x : SleepEvent) => { x with rep := satAdd 65535 x.rep 1 }).reverse }
    | none => s

/-- A record of a source: in the security log, folded where `storm` says so, or queued while the log cannot take it. -/
def State.recordTamper (s : State) (source kind response : Nat) (aborted storm : Bool) : State :=
  match s.bat.sources[source]? with
  | none => s
  | some x =>
    let ctx := s.tamperContext aborted
    let write (s : State) : State := s.logSec 0x2001 0xFF (tamperPayload source kind response ctx x)
    if s.awake && s.logReady then
      if storm then
        match s.foldTamper source with
        | (true, s) => s
        | (false, s) => write s
      else write s
    else
      s.queueTamper { source, kind, response, context := ctx, tai := s.rtcSec, count := x.count, storm := x.storm, first := x.first,
                      last := x.last, rep := 0 }

/-- The alarm of R387 in the uplink of every enabled tenant. -/
def State.tamperNotice (s : State) (source : Nat) : State :=
  match s.bat.sources[source]? with
  | some x => s.noticeAll 0x0105 source (pack [(4, x.count), (6, x.first), (6, x.last), (12, 0)])
  | none => s

/-- A source changed. -/
def State.modSource (s : State) (source : Nat) (f : Source → Source) : State :=
  { s with bat.sources := lmod s.bat.sources source f }

/-- The second that a source's rate is counted in: the counter's while the part runs, the RTC's in sleep. -/
def State.rateSecond (s : State) : Nat := if s.awake then s.tai else s.bat.rtc / 32768

/-- A source's counts and times after one activation (R387, R390). -/
def Source.activated (x : Source) (rtc sec now : Nat) : Source :=
  { x with count := satAdd 0xFFFFFFFF x.count 1, first := if x.first = 0 then rtc else x.first, last := rtc, active := true,
           since := now, secAt := sec, inSec := if x.secAt = sec then x.inSec + 1 else 1 }

/-- The zeroize line driven by a source (R167, R387): a ZEROIZE record, and an unsealed state ends (R385). -/
def State.tamperZeroize (s : State) (source : Nat) : State :=
  let s := s.zeroize
  if s.awake && s.logReady then (s.logSec 0x2002 0xFF (pack [(1, source)])).closeSeal 4 else s

/-- A source activates (R387, R390): the response acts at every activation; beyond RateLimit in a second, recording alone is folded.
Sources 10 and 11 record storms only (R386). -/
def State.tamper (s : State) (source : Nat) : State :=
  if !(s.claspRuns && Nat.ble source 11 && bit s.bat.tamperEnable source) then s
  else
    let rtc := s.rtcSec
    let sec := s.rateSecond
    let now := s.bat.rtc
    let s := s.modSource source (·.activated rtc sec now)
    let n := ((s.bat.sources[source]?).map (·.inSec)).getD 0
    let storm := ((rateLimit source).map (Nat.blt · n)).getD false
    let s := if storm then s.modSource source fun x => { x with storm := satAdd 0xFFFFFFFF x.storm 1 } else s
    let resp := s.tamperResponse source
    let aborted := resp == 2 && !s.loc.working.isEmpty
    let s := if Nat.ble 10 source && !storm then s else s.recordTamper source 1 resp aborted storm
    let s := if resp = 0 then s else { s with pins.wakeReq := true }
    if resp = 1 then
      let s := { s with bat.claspAlarm := setBit s.bat.claspAlarm source true }
      if s.awake && s.logReady then s.tamperNotice source else s
    else if resp = 2 then s.tamperZeroize source
    else s

/-- TAMPER_ACTIVATION (R387). -/
def execTamperActivation (source : Nat) (s : State) : Host.Outcome State Fault Refusal := .next (s.tamper source)

/-- TAMPER_STUCK (R390): 24 h of continuous activity; for a ZC input the record of its lane (R122) takes it. -/
def State.tamperStuck (s : State) (source : Nat) : State :=
  if !s.claspRuns || bit s.bat.stuck source then s
  else if Nat.ble 12 source && Nat.ble source 14 then
    { s with bat.stuck := setBit s.bat.stuck source true }.logOp 0x3004 0xFF (pack [(1, source - 12), (1, 16)])
  else
    match s.bat.sources[source]? with
    | none => s
    | some x =>
      if x.active && Nat.ble (x.since + 86400 * 32768) s.bat.rtc then
        { s with bat.stuck := setBit s.bat.stuck source true }.recordTamper source 2 (s.tamperResponse source) false false
      else s

/-- TAMPER_STUCK (R390). -/
def execTamperStuck (source : Nat) (s : State) : Host.Outcome State Fault Refusal := .next (s.tamperStuck source)

/-- An input is released (R390): a stuck one gets its record and re-arms. -/
def State.tamperRelease (s : State) (source : Nat) : State :=
  if !s.claspRuns then s
  else
    let s := s.modSource source fun x => { x with active := false }
    if !bit s.bat.stuck source then s
    else
      let s := { s with bat.stuck := setBit s.bat.stuck source false }
      if Nat.ble 12 source then s.logOp 0x3004 0xFF (pack [(1, source - 12), (1, 17)])
      else s.recordTamper source 3 (s.tamperResponse source) false false

/-- TAMPER_RELEASE (R390). -/
def execTamperRelease (source : Nat) (s : State) : Host.Outcome State Fault Refusal := .next (s.tamperRelease source)

/-- The short stamp of a filtered edge (R21, R389): that of the first of the samples the filter asks for, `n` the input's place among
the filters, `period` its sample period in ns. -/
def State.filteredStamp (s : State) (n period : Nat) : Nat :=
  s.shortAt (s.now - (s.bat.filterSamples.getD n 1 - 1) * period)

/-- SEAL_N asserted after its filter (R21, R389). -/
def State.sealAssert (s : State) : State :=
  let s := { s with pins.sealN := true, pins.sealStamp := if s.awake then s.filteredStamp 4 1000000 else s.pins.sealStamp }
  if s.pw.rails then s.tamper 10 else s

/-- SEAL_N_ASSERT (R389). -/
def execSealNAssert (s : State) : Host.Outcome State Fault Refusal := .next s.sealAssert

/-- SEAL_N released (R385, R390). -/
def State.sealRelease (s : State) : State :=
  let s := { s with pins.sealN := false, pins.sealStamp := if s.awake then s.filteredStamp 4 1000000 else s.pins.sealStamp }
  if !s.pw.rails then s
  else
    let s := s.tamperRelease 10
    if s.awake then s.closeSeal 2 else s

/-- SEAL_N_RELEASE (R385). -/
def execSealNRelease (s : State) : Host.Outcome State Fault Refusal := .next s.sealRelease

/-- CLASP_ALARM_CLEAR (R387). -/
def execClaspAlarmClear (r : CapReq) (mask : Nat) (s : State) : Host.Outcome State Fault Refusal :=
  .next (s.capExec r Obj.claspAlarmClear fun _ s =>
    (capOk, { s with bat.claspAlarm := clearBits s.bat.claspAlarm mask }))

/-- A queued event written at wake (R388), with RtcStamped set, and its alarm. -/
def State.writeQueued (s : State) (e : SleepEvent) : State :=
  let x : Source := { count := e.count, storm := e.storm, first := e.first, last := e.last, active := false, since := 0,
                      secAt := 0, inSec := 0 }
  let s := s.logAt 1 0x2001 0xFF (tamperPayload e.source e.kind e.response e.context x) true e.tai
  let s := s.modLog 1 fun l => { l with recs := match l.recs with
    | r :: t => { r with rep := satAdd 65535 r.rep e.rep } :: t
    | [] => [] }
  let s := if e.response = 2 ∧ e.kind = 1 then s.logSec 0x2002 0xFF (pack [(1, e.source)]) else s
  if e.response = 1 ∧ e.kind = 1 then s.tamperNotice e.source else s

/-- The events queued in sleep written at wake (R388). -/
def State.wakeTamper (s : State) : State :=
  s.bat.sleepQueue.foldl State.writeQueued { s with bat.sleepQueue := [] }

end Sys2Proof.Machine
end

