-- ==== Sys2Proof/Machine/Gate.lean ====
section
/-! DEFINITION. The command gate, load-shed fan-out and Ringmaster's diagnostics (R392 to R411). -/

namespace Sys2Proof.Machine

/-! ### The safe state (R403 to R406) -/

/-- The payload of a GATE_CLOSED record (R406). -/
def gatePayload (tag cause pair seq expected presented : Nat) : Nat :=
  pack [(8, tag), (1, cause), (1, pair), (2, 0), (4, seq), (8, expected), (8, presented)]

/-- What a close of the gate is recorded with (R406). -/
structure GateFault where
  cause : Nat
  pair : Nat
  tag : Nat
  seq : Nat
  tenant : Nat
  expected : Nat
  presented : Nat
deriving DecidableEq, Repr

/-- A fault of no request. -/
def GateFault.of (cause pair : Nat) : GateFault :=
  { cause, pair, tag := 0, seq := 0, tenant := 0xFF, expected := 0, presented := 0 }

/-- Whether a cause keeps the gate closed until a restart (R404). -/
def gateHard (cause : Nat) : Bool := [8, 9, 10, 11, 14].contains cause

/-- GateState after a close (R404): 2 for a cause that keeps it closed until a restart, and it stays 2. -/
def State.closedState (s : State) (cause : Nat) : Nat :=
  if gateHard cause || s.nat Obj.gateState == 2 then 2 else 1

/-- The gate closes (R403): SAFE_N, GateState, GateCloseCause, HIF_INT_CAUSE bit 21, staged class 2 items withdrawn unless a
modulator holds them, nothing confirmed any more, GATE_CLOSED. -/
def State.closeGate (s : State) (g : GateFault) : State :=
  let s := (s.set Obj.gateState (s.closedState g.cause)).set Obj.gateCloseCause g.cause
  let s := { s with pins.safe := true, gate.confirmed := [] }.raise 21
  let staged := s.nand.items.filter fun i => i.cls == 2 && !i.held
  let s := staged.foldl (fun (s : State) (i : Item) => s.dropItem i 4) s
  s.logSec 0x2009 g.tenant (gatePayload g.tag g.cause g.pair g.seq g.expected g.presented)

/-- A dangerous failure is detected (R392, R403, R411): counted, and the gate closes. -/
def State.dangerous (s : State) (g : GateFault) : State := (s.bump Obj.dangerousDetected).closeGate g

/-- The gate opens (R404): SAFE_N is released, a record of cause 0. -/
def State.openGate (s : State) : State :=
  { (s.set Obj.gateState 0).set Obj.gateCloseCause 0 with pins.safe := false }.logSec 0x2009 0xFF (gatePayload 0 0 0 0 0 0)

/-! ### The checks (R396 to R398) -/

/-- The gate image of a request (R398) with its NativeAddress field. -/
def gateImage (q : SwitchReq) (native : Nat) : Nat :=
  pack [(8, if q.kind = 4 then 0 else q.tag), (1, q.kind), (1, q.tenant), (2, Config.switchPayloadLength q.kind q.limitW),
    (4, q.seq), (6, q.notBefore), (6, q.expiry), (4, q.limitW), (16, native), (96, Config.switchPayload q.kind q.limitW)]

/-- The digests of a request's images (R398): one, or for a load shed one per addressed cell, its number in byte 32. -/
def State.gateDigests (s : State) (q : SwitchReq) : List Nat :=
  if q.kind = 4 then (s.shedCells q.tag q.flags q.cellMask).map fun c => gateDigest (gateImage q c)
  else [gateDigest (gateImage q (((s.record q.tag).map (·.naddr)).getD 0))]

/-- The kinds an origin may ask for (R396). -/
def kindsOf (origin : Nat) : List Nat :=
  match origin with
  | 1 => [1, 2]
  | 2 => [1, 2, 3, 4]
  | 3 => [4]
  | _ => []

/-- A request as SwitchSubmit carries it (R231), its RequestSequence not assigned yet. -/
def SwitchReq.submitted (q : SwitchReq) : Nat :=
  pack [(8, q.tag), (1, q.kind), (1, q.origin), (1, q.tenant), (1, q.flags), (4, 0), (6, q.notBefore), (6, q.expiry), (4, q.limitW),
    (4, q.durationS), (2, q.cellMask), (2, 0), (8, q.reference), (16, 0)]

/-- The AuthTag of a head end's request (R396): the first 64 bits of AES-CMAC under the gate key over the value of SwitchSubmit and the
tenant. DESIGN CHOICE (log entry 131): the layout of what it covers, and the tenant that the gate takes. -/
def State.authTag (s : State) (q : SwitchReq) : Nat := cmac s.loc.gateKey 65 (q.submitted + 256 ^ 64 * (q.tenant % 256)) % 2 ^ 64

/-- The evidence of a request (R396), `tag` the AuthTag presented: 0 where it holds, else the cause of R406. -/
def State.gateEvidence (s : State) (q : SwitchReq) (tag : Nat) : Nat :=
  match q.origin with
  | 1 =>
    match s.bill q.tag with
    | none => 13
    | some b =>
      if b.turn.switchSeq != q.seq then 13
      else if q.kind = 1 then (if b.turn.state == 4 && bit b.turn.flags 0 then 0 else 13)
      else if bit b.turn.flags 1 then 0 else 13
  | 2 => if tag = s.authTag q then 0 else 2
  | _ => if s.gate.sheds.contains q.cellMask then 0 else 3

/-- Checks 2 to 5 of R397 on a request and its target's record: 0 where they pass, else the cause of R406. -/
def State.gateChecks (s : State) (q : SwitchReq) (tag : Nat) : Nat :=
  if !(kindsOf q.origin).contains q.kind then 3
  else
    match s.gateEvidence q tag with
    | 0 =>
      match s.record q.tag with
      | none => 0
      | some r =>
        if r.tenant != q.tenant then 4
        else if q.kind = 2 ∧ r.flag 3 then 5
        else 0
    | c => c

/-- The first digest that differs from the pair's, with it (R397 check 6). -/
def digestMismatch : List Nat → List Nat → Option (Nat × Nat)
  | [], [] => none
  | [], p :: _ => some (0, p)
  | e :: _, [] => some (e, 0)
  | e :: es, p :: ps => if e = p then digestMismatch es ps else some (e, p)

/-- Whether the target of a request is gone: it named an endpoint that is not served any more. -/
def State.targetGone (s : State) (q : SwitchReq) : Bool :=
  q.tag != 0 && !((s.record q.tag).map (·.live)).getD false

/-! ### Load-shed fan-out (R402) -/

/-- A shed broadcast on a lane: at the head of its queue, in place of a frame that contends. -/
def State.shedLane (s : State) (l len payload : Nat) : State :=
  s.onLane l fun z =>
    let chain := (s.laneCfg l z).chain
    let (y, s) := s.draw
    let t : PlcTx :=
      { kind := if chain then 0 else 1, prio := if chain then 0 else 1, dest := 0xFFFF, stage := 0, bytes := len, payload := payload }
    let o := freshOut t (if chain then s.nat (Obj.chainModulationDefault l) else y % 5) (s.nat (Obj.txAttenDb l))
    let s := s.modLane l fun (x : Lane) =>
      { x with contending := some o, drawn := none, queue := x.contending.elim x.queue fun c => requeue c x.queue }
    if z.idle then s.drawSlot l else s

/-- A shed broadcast of a radio cell, in the mode and at the frequency of its ShedPlan, as often as it says. Its air time and
width are free values: the standards that give its length are outside the spec. -/
def State.shedRadio (s : State) (c tenant : Nat) : State :=
  (List.range (byteAt (s.nat (Obj.shedPlan c)) 1)).foldl (fun (s : State) _ =>
    let (us, s) := s.draw
    let (w, s) := s.draw
    s.castDue { entry := 16 + 4 * tenant + c, airUs := us, widthHz := w, alt := 0, fin := none }) s

/-- A shed datagram to a tunnelled cell through queue 7 (R275) of a Midway port, which the spec leaves to addressing. -/
def State.shedTunnel (s : State) (len : Nat) : State :=
  let (p, s) := s.draw
  s.firmwareTx (p % 4) { queue := 7, length := 62 + len, hq := 16, ndesc := 0, kind := 0, toCorrection := false, seqId := 0,
                         what := 0, ingress := s.now, ptp := 0, data := none }

/-- The shed item of one cell. -/
def State.shedCell (s : State) (q : SwitchReq) (c : Nat) : State :=
  if c < 4 then s.shedRadio c q.tenant
  else if c < 7 then s.shedLane (c - 4) (Config.switchPayloadLength q.kind q.limitW) (Config.switchPayload q.kind q.limitW)
  else s.shedTunnel (Config.switchPayloadLength q.kind q.limitW)

/-- The fan-out of a released load shed (R402): every addressed cell, then every subordinate. -/
def State.fanOut (s : State) (q : SwitchReq) : State :=
  let s := (s.shedCells q.tag q.flags q.cellMask).foldl (fun (s : State) (c : Nat) => s.shedCell q c) s
  let s := if s.pw.regional && s.flag Obj.shedCascade then
      s.subordinates.foldl (fun (s : State) (e : Nat × Nat × Nat) =>
        if s.cascadeUp e.1 then s.sendCascade (s.downMessage true s.ownNumber e.1 0 (Config.switchPayloadLength q.kind q.limitW)
          (Config.switchPayload q.kind q.limitW)) else s) s
    else s
  let s := if q.origin = 2 then { s with gate.sheds := q.cellMask :: s.gate.sheds } else s
  let us := (s.now - q.formed) / 1000
  (s.set Obj.shedFanoutMaxUs (Nat.max us (s.nat Obj.shedFanoutMaxUs))).bump Obj.shedFanouts

/-! ### Release (R397, R399) -/

/-- The kind that a kind displaces (R399). -/
def oppositeKind (kind : Nat) : Nat := match kind with | 1 => 2 | 2 => 1 | _ => 0

/-- The class 2 item of a released request (R231, R399). -/
def gateItem (q : SwitchReq) : Item :=
  { seq := 0, tag := q.tag, cls := 2, prio := 0, length := Config.switchPayloadLength q.kind q.limitW, notBefore := q.notBefore,
    expiry := q.expiry, sends := 0, flags := 3, payload := Config.switchPayload q.kind q.limitW, held := false, request := some q }

/-- Release of a request of kind 1 to 3 (R399): opposite items withdrawn, the item staged, its digest kept. Where the stage has
no room for it, the request is abandoned. -/
def State.releaseItem (s : State) (q : SwitchReq) (digest : Nat) : State :=
  let against := s.nand.items.filter fun i =>
    i.tag == q.tag && i.cls == 2 && !i.held && (i.request.map (·.kind)) == some (oppositeKind q.kind)
  let s := against.foldl (fun (s : State) (i : Item) => s.dropItem i 4) s
  if !s.itemRoom q.tag then s.endRequest q 0 3
  else
    let (n, s) := s.stage (gateItem q)
    { s with gate.kept := s.gate.kept ++ [(n, digest)] }

/-- Release (R399, R402). -/
def State.gateRelease (s : State) (q : SwitchReq) (digest : Nat) : State :=
  let s := s.bump Obj.gateReleased
  if q.kind = 4 then s.fanOut q else s.releaseItem q digest

/-- A request taken by pair 0 (R397). One whose target is gone, or that reaches a closed gate, is not released. -/
def State.gateTake (s : State) (q : SwitchReq) (tag : Nat) (digests : List Nat) : State :=
  if s.nat Obj.gateState ≠ 0 then s.endRequest q 0 3
  else if q.expiry ≤ s.billSec then (s.endRequest q 0 2).bump Obj.gateRefusedExpired
  else if s.targetGone q then s.endRequest q 0 3
  else
    match s.gateChecks q tag with
    | 0 =>
      match digestMismatch (s.gateDigests q) digests with
      | none => s.gateRelease q ((s.gateDigests q).headD 0)
      | some (e, p) =>
        (s.endRequest q 0 3).dangerous
          { cause := 1, pair := 0, tag := if q.kind = 4 then 0 else q.tag, seq := q.seq, tenant := q.tenant, expected := e, presented := p }
    | c => (s.endRequest q 0 3).dangerous
        { cause := c, pair := 0, tag := q.tag, seq := q.seq, tenant := q.tenant, expected := 0, presented := 0 }

/-- GATE_REQUEST (R397): the request at the head of the gate's queue, load shed first, with its AuthTag and the digests of the
Juggler path. A target whose record fails its CRC is read again first (R40, R395). -/
def State.gateRequest (s : State) (seq tag : Nat) (digests : List Nat) : State :=
  if !(s.up && s.pw.cause == 0) then s
  else
    match s.gate.queue with
    | [] => s
    | q :: rest =>
      if q.seq ≠ seq then s
      else
        match (s.record q.tag).filter (·.bad) with
        | some r => s.badRecord r
        | none => { s with gate.queue := rest }.gateTake q tag digests

/-- GATE_REQUEST (R397). -/
def execGateRequest (sequence authTag : Nat) (digests : List Nat) (s : State) : Host.Outcome State Fault Refusal :=
  .next (s.gateRequest sequence authTag digests)

/-- GATE_CONFIRMATION (R400): the digest equals the one kept and the tags agree; a closed gate refuses (R403). -/
def State.gateConfirm (s : State) (stage windowTag digest : Nat) : State :=
  if !(s.up && s.nat Obj.gateState == 0) then s
  else
    match s.nand.items.find? fun i => i.seq == stage && i.cls == 2 with
    | none => s
    | some i =>
      let kept := (s.gate.kept.find? fun e => e.1 == stage).map (·.2)
      if kept == some digest && i.tag == windowTag then { s with gate.confirmed := stage :: s.gate.confirmed }
      else
        s.dangerous { cause := 6, pair := 0, tag := i.tag, seq := (i.request.map (·.seq)).getD 0,
                      tenant := (i.request.map (·.tenant)).getD 0xFF, expected := kept.getD 0, presented := digest }

/-- GATE_CONFIRMATION (R400). -/
def execGateConfirmation (stage windowTag digest : Nat) (s : State) : Host.Outcome State Fault Refusal :=
  .next (s.gateConfirm stage windowTag digest)

/-- ITEM_REPORT (R95, R135, R401): outcome 1 acknowledged, 2 expired, 3 abandoned, 4 withdrawn. -/
def State.itemReport (s : State) (stage outcome : Nat) : State :=
  if !s.up then s
  else
    match s.nand.items.find? fun i => i.seq == stage && i.cls == 2 with
    | none => s
    | some i =>
      if outcome = 1 then
        match s.record i.tag with
        | none => s
        | some r => s.itemAcked r stage
      else if Nat.ble 2 outcome && Nat.ble outcome 4 then s.dropItem i outcome
      else s

/-- ITEM_REPORT (R401). -/
def execItemReport (stage outcome : Nat) (s : State) : Host.Outcome State Fault Refusal := .next (s.itemReport stage outcome)

/-- FANOUT_TIMER_EXPIRY (R402): a load shed whose fan-out has not begun 10 ms after its arrival. -/
def State.fanoutTimer (s : State) : State :=
  if !(s.up && s.nat Obj.gateState == 0) then s
  else
    match s.gate.queue.find? fun q => q.kind == 4 && Nat.ble (q.formed + 10000000) s.now with
    | none => s
    | some q =>
      ({ s with gate.queue := s.gate.queue.erase q }.endRequest q 0 3).dangerous
        { cause := 7, pair := 1, tag := 0, seq := q.seq, tenant := q.tenant, expected := 0, presented := 0 }

/-- FANOUT_TIMER_EXPIRY (R402). -/
def execFanoutTimerExpiry (s : State) : Host.Outcome State Fault Refusal := .next s.fanoutTimer

/-! ### Diagnostics (R395, R407) -/

/-- LOCKSTEP_MISMATCH (R407): both pairs run whenever the part does. -/
def State.lockstep (s : State) (pair : Nat) : State :=
  if s.up then s.dangerous (GateFault.of 8 (pair % 2)) else s

/-- LOCKSTEP_MISMATCH (R407). -/
def execLockstepMismatch (pair : Nat) (s : State) : Host.Outcome State Fault Refusal := .next (s.lockstep pair)

/-- CLOCK_MONITOR_FAULT (R407). -/
def execClockMonitorFault (s : State) : Host.Outcome State Fault Refusal :=
  .next (if s.up then s.dangerous (GateFault.of 10 1) else s)

/-- RINGMASTER_SCRUB (R407): an error found and corrected is counted, an uncorrectable one closes the gate. -/
def State.ringScrub (s : State) (pair : Nat) (uncorrectable : Bool) : State :=
  if !s.up then s
  else if uncorrectable then s.dangerous (GateFault.of 9 (pair % 2))
  else { s with gate.corrected := s.gate.corrected + 1 }

/-- RINGMASTER_SCRUB (R407). -/
def execRingmasterScrub (pair : Nat) (uncorrectable : Bool) (s : State) : Host.Outcome State Fault Refusal :=
  .next (s.ringScrub pair uncorrectable)

/-- The BIST of both pairs (R395, R404, R407): a pair that fails closes the gate until a restart. -/
def State.pairBist (s : State) (ok0 ok1 : Bool) : State :=
  let s := { s with gate.pairOk := [ok0, ok1] }
  if !ok0 then s.dangerous (GateFault.of 14 0)
  else if !ok1 then s.dangerous (GateFault.of 14 1)
  else s

/-- RINGMASTER_DAILY_TEST (R395): once a TAI day, in the hour of RingmasterTestHour. -/
def State.dailyTest (s : State) (ok0 ok1 : Bool) : State :=
  let day := s.tai / 86400
  if s.up && s.tai % 86400 / 3600 == s.nat Obj.ringmasterTestHour && s.gate.bistDay != day then
    { s with gate.bistDay := day }.pairBist ok0 ok1
  else s

/-- RINGMASTER_DAILY_TEST (R395). -/
def execRingmasterDailyTest (pair0Ok pair1Ok : Bool) (s : State) : Host.Outcome State Fault Refusal :=
  .next (s.dailyTest pair0Ok pair1Ok)

/-! ### The commands of R411 -/

/-- GATE_REOPEN (R404): refused with BUSY while the gate is closed until a restart or has not opened yet; else the BIST of both
pairs, and the gate opens when both pass. -/
def State.gateReopen (s : State) (r : CapReq) (v : Nat) (ok0 ok1 : Bool) : State :=
  s.capExec r Obj.gateReopen fun _ s =>
    boolCommand v s fun s =>
      match s.nat Obj.gateState with
      | 0 => (capOk, s)
      | 1 =>
        let s := s.pairBist ok0 ok1
        (capOk, if s.nat Obj.gateState = 1 then s.openGate else s)
      | _ => (capErr 6 0, s)

/-- GATE_REOPEN (R404). -/
def execGateReopen (r : CapReq) (v : Nat) (pair0Ok pair1Ok : Bool) (s : State) : Host.Outcome State Fault Refusal :=
  .next (s.gateReopen r v pair0Ok pair1Ok)

/-- GATE_PROOF_TEST (R411): refused with BUSY while a load shed's fan-out is to begin; cause 12. -/
def State.gateProof (s : State) (r : CapReq) (v : Nat) : State :=
  s.capExec r Obj.gateProofTest fun _ s =>
    boolCommand v s fun s =>
      if s.gate.queue.any fun q => q.kind == 4 then (capErr 6 0, s)
      else if s.nat Obj.gateState = 3 then (capErr 6 0, s)
      else (capOk, s.closeGate (GateFault.of 12 0))

/-- GATE_PROOF_TEST (R411). -/
def execGateProofTest (r : CapReq) (v : Nat) (s : State) : Host.Outcome State Fault Refusal := .next (s.gateProof r v)

/-! ### Engines (R408) -/

/-- ENGINE_WATCHDOG (R407, R408). -/
def execEngineWatchdog (engine : Nat) (s : State) : Host.Outcome State Fault Refusal := .next (s.engineFails engine)

/-! ### At start (R404, R405) -/

/-- An item staged before the restart checked again (R405): one that fails is withdrawn, and the gate stays closed; one that has
expired is refused without that. Its AuthTag is made anew, since the gate key is. -/
def State.recheckItem (s : State) (i : Item) : State :=
  match i.request with
  | none => s
  | some q =>
    if q.expiry ≤ s.billSec then (s.dropItem i 2).bump Obj.gateRefusedExpired
    else
      match s.gateChecks q (s.authTag q) with
      | 0 => { s with gate.kept := s.gate.kept ++ [(i.seq, (s.gateDigests q).headD 0)] }
      | c => (s.dropItem i 4).dangerous
          { cause := c, pair := 0, tag := q.tag, seq := q.seq, tenant := q.tenant, expected := 0, presented := 0 }

/-- The checks before the gate first opens (R404, R405), after the BIST of both pairs; it opens when all pass. -/
def State.gateRecheck (s : State) (ok0 ok1 : Bool) : State :=
  let s := { s with gate.kept := [], gate.confirmed := [], gate.sheds := [] }
  let s : State := s.pairBist ok0 ok1
  let s : State := (s.nand.items.filter fun i => i.cls == 2).foldl (fun (s : State) (i : Item) => s.recheckItem i) s
  if s.nat Obj.gateState = 3 then s.openGate else s

end Sys2Proof.Machine
end

