-- ==== Sys2Proof/Machine/Patina.lean ====
section
/-! DEFINITION. Junction temperature and the thermal governor, the ageing monitors, built-in self-test (R429 to R442). -/

namespace Sys2Proof.Machine

/-! ### The engine clock and the governor (R429 to R433) -/

/-- The ceiling of the engine clock (R430): the variant's, the hot one where it holds, Patina's. -/
def State.engineCeiling (s : State) : Nat :=
  let c := Nat.min (s.nat Obj.engineCeilingMHz) (s.nat Obj.patinaCeilingMHz)
  if s.pat.hot && s.flag Obj.engineHotCeilingMHz then Nat.min c (s.nat Obj.engineHotCeilingMHz) else c

/-- EngineClock (R430). -/
def State.engineClock (s : State) : Nat :=
  Nat.max (s.nat Obj.governorFloorMHz) (s.engineCeiling - 100 * s.nat Obj.governorSteps)

/-- The engine clock follows its terms (R430). -/
def State.clockChange (s : State) : State := s.set Obj.engineClockMHz s.engineClock

/-- A THERMAL_GOVERNOR record: kind 1 step down, 2 step up, 3 at the junction limit. -/
def State.governorRecord (s : State) (kind : Nat) : State :=
  s.logDiag 0x4003 0xFF (pack [(1, kind), (1, s.nat Obj.governorSteps), (2, s.nat Obj.engineClockMHz), (4, 0),
    (2, enc 2 (s.get Obj.junctionTempDeciC))])

/-- GovernorSteps set (R431): the clock follows, the change is counted and recorded. -/
def State.setSteps (s : State) (n : Nat) : State :=
  let old := s.nat Obj.governorSteps
  if n = old then s
  else (((s.set Obj.governorSteps n).clockChange).bump Obj.governorEvents).governorRecord (if old < n then 1 else 2)

/-- The thermal alarm (R433): the junction at its maximum with the clock at the floor. -/
def State.thermalLimit (s : State) : State :=
  if s.get Obj.junctionMaxDeciC ≤ s.get Obj.junctionTempDeciC ∧ s.nat Obj.engineClockMHz = s.nat Obj.governorFloorMHz ∧
      s.flag Obj.thermalAlarm = false then
    ((s.set Obj.thermalAlarm 1).governorRecord 3).noticeAll 0x0106 0
      (pack [(2, enc 2 (s.get Obj.junctionTempDeciC)), (2, s.nat Obj.engineClockMHz), (6, s.tai)])
  else s

/-- The highest of the sensors. -/
def hottest : List Int → Int
  | [] => 0
  | a :: t => t.foldl max a

/-- TEMPERATURE_SAMPLE (R429, R430, R433). -/
def State.temperature (s : State) (sensors : List Int) : State :=
  if !(s.awake && sensors.length == 8) then s
  else
    let j := hottest sensors
    let before := s.get Obj.junctionTempDeciC
    let trip := s.get Obj.governorTripDeciC
    let hot := if 1100 < j then true else if j < 1070 then false else s.pat.hot
    let now := s.now
    let cool := if s.get Obj.junctionMaxDeciC - 50 < j then none else some (s.pat.coolSince.getD now)
    let s := { s with pat.hot := hot, pat.peak := max s.pat.peak j, pat.coolSince := cool,
                      pat.trip := s.pat.trip || (decide (trip ≤ j) && decide (before < trip)) }
    ((s.set Obj.junctionTempDeciC j).clockChange).thermalLimit

/-- TEMPERATURE_SAMPLE (R429). -/
def execTemperatureSample (sensors : List Int) (s : State) : Host.Outcome State Fault Refusal := .next (s.temperature sensors)

/-- GOVERNOR_EVALUATION (R431): every GovernorStepS, or at the first sample that reaches the trip. None while the power-fail
sequence runs (R432). -/
def State.governor (s : State) : State :=
  if !(s.up && s.pw.cause == 0 && (s.pat.trip || s.elapsedS s.pat.evalAt (s.nat Obj.governorStepS))) then s
  else
    let j := s.get Obj.junctionTempDeciC
    let trip := s.get Obj.governorTripDeciC
    let peak := s.pat.peak
    let now := s.now
    let s := { s with pat.trip := false, pat.evalAt := now, pat.peak := j }
    let n := s.nat Obj.governorSteps
    let s :=
      if trip ≤ j then (if s.nat Obj.engineClockMHz = s.nat Obj.governorFloorMHz then s else s.setSteps (n + 1))
      else if peak < trip - s.get Obj.governorHystDeciC then s.setSteps (n - 1)
      else s
    s.thermalLimit

/-- GOVERNOR_EVALUATION (R431). -/
def execGovernorEvaluation (s : State) : Host.Outcome State Fault Refusal := .next s.governor

/-- THERMAL_ALARM_CLEAR (R433). -/
def State.alarmClear (s : State) : State :=
  match s.pat.coolSince with
  | some t => if s.awake && s.elapsedS t 60 then s.set Obj.thermalAlarm 0 else s
  | none => s

/-- THERMAL_ALARM_CLEAR (R433). -/
def execThermalAlarmClear (s : State) : Host.Outcome State Fault Refusal := .next s.alarmClear

/-! ### Ageing (R435 to R438) -/

/-- The lowest of a list of margins with its place, the first on a tie. -/
def lowest (ms : List Int) : Int × Nat :=
  match ms with
  | [] => (0, 0)
  | a :: t =>
    ((List.range t.length).foldl (fun (b : Int × Nat) (i : Nat) => if t.getD i 0 < b.1 then (t.getD i 0, i + 1) else b) (a, 0))

/-- The least-squares slope of points (x, y): numerator and a denominator that is not negative. -/
def slopeOf (ps : List (Int × Int)) : Int × Int :=
  let n : Int := ps.length
  let sx := (ps.map (·.1)).sum
  let sy := (ps.map (·.2)).sum
  let sxy := (ps.map fun p => p.1 * p.2).sum
  let sxx := (ps.map fun p => p.1 * p.1).sum
  (n * sxy - sx * sy, n * sxx - sx * sx)

/-- The hours to cover a distance at a slope per ms, the rounding of an inexact quotient a free value. -/
def State.hoursAt (s : State) (distance num den : Int) : Nat × State :=
  let top := distance * den
  let bottom := num * 3600000
  let q := (top / bottom).toNat
  if top % bottom = 0 then (Nat.min q 0xFFFFFFFF, s)
  else
    let (x, s) := s.draw
    (Nat.min (q + x % 2) 0xFFFFFFFF, s)

/-- ProjectedLifeH (R438). -/
def State.projectLife (s : State) : State :=
  if s.flag Obj.endOfLife then s.set Obj.projectedLifeH 0
  else if s.pat.history.length < 720 then s.set Obj.projectedLifeH 0xFFFFFFFF
  else
    let vdd := s.nat Obj.vddSetpointMv
    let below := decide (vdd < 880)
    let k := slopeOf (s.pat.history.map fun p => ((p.1 : Int), if below then (p.2.1 : Int) else -p.2.2))
    if k.1 ≤ 0 ∨ k.2 ≤ 0 then s.set Obj.projectedLifeH 0xFFFFFFFF
    else
      let d : Int := if below then 880 - vdd else max 0 (s.pat.wEng - s.get Obj.marginGuardPermille)
      let (h, s) := s.hoursAt d k.1 k.2
      s.set Obj.projectedLifeH h

/-- An AGEING record. -/
def State.ageing (s : State) (cause : Nat) : State :=
  s.logDiag 0x4002 0xFF (pack [(1, cause), (1, s.nat Obj.worstMonitor), (2, s.nat Obj.vddSetpointMv),
    (2, s.nat Obj.patinaCeilingMHz), (2, enc 2 (s.get Obj.worstMarginPermille)), (4, s.nat Obj.projectedLifeH)])

/-- The code requested on VDD_VID (R455). -/
def State.requestVdd (s : State) : State := { s with pins.vddVid := (s.nat Obj.vddSetpointMv - 720) / 5 }

/-- A measurement acted on (R436): the setpoint raised, or the ceiling lowered, with a measurement to follow; or end of life. -/
def State.patinaAct (s : State) (w wEng : Int) : State :=
  let vdd := s.nat Obj.vddSetpointMv
  let ceiling := s.nat Obj.patinaCeilingMHz
  let guard_ := s.get Obj.marginGuardPermille
  if w < s.get Obj.marginTargetPermille ∧ vdd < 880 then
    ((({ s with pat.waiting := true }.setPaired Obj.vddSetpointMv (vdd + 5 : Nat)).requestVdd).projectLife).ageing 1
  else if vdd = 880 ∧ wEng < guard_ ∧ 500 < ceiling then
    ((({ s with pat.waiting := true }.setPaired Obj.patinaCeilingMHz (ceiling - 50 : Nat)).clockChange).projectLife).ageing 2
  else
    let s := { s with pat.waiting := false }
    if vdd = 880 ∧ (wEng < guard_ ∨ w < guard_) then
      (((s.setPaired Obj.endOfLife 1).projectLife).ageing 3).noticeAll 0x0107 (s.nat Obj.worstMonitor)
        (pack [(2, vdd), (2, ceiling), (2, enc 2 w), (2, 0), (6, s.tai)])
    else s.projectLife

/-- A measurement of all 24 monitors (R435, R436). -/
def State.patinaStep (s : State) (margins : List Int) : State :=
  if margins.length ≠ 24 then s
  else
    let w := lowest margins
    let e := lowest (margins.take 12)
    let s := (List.range 24).foldl (fun (s : State) (i : Nat) => s.set (Obj.monitorMarginPermille i) (margins.getD i 0)) s
    let s := (s.set Obj.worstMarginPermille w.1).set Obj.worstMonitor w.2
    { s with pat.wEng := e.1 }.patinaAct w.1 e.1

/-- PATINA_MEASURE (R435, R436): at start and every hour of operating time, remembered for R438. -/
def State.patinaHour (s : State) (margins : List Int) : State :=
  let hour := s.nat Obj.operatingTimeMs / 3600000 + 1
  if s.up && s.pat.measuredHour != hour && margins.length == 24 then
    let s := s.patinaStep margins
    { s with pat.measuredHour := hour,
             pat.history := ((s.nat Obj.operatingTimeMs, s.nat Obj.vddSetpointMv, s.pat.wEng) :: s.pat.history).take 4320 }
  else s

/-- PATINA_MEASURE (R436). -/
def execPatinaMeasure (margins : List Int) (s : State) : Host.Outcome State Fault Refusal := .next (s.patinaHour margins)

/-- VDD_SETTLE (R436): the measurement that follows a change. -/
def execVddSettle (margins : List Int) (s : State) : Host.Outcome State Fault Refusal :=
  .next (if s.up && s.pat.waiting then s.patinaStep margins else s)

/-- PATINA_MEASURE_CMD (R436). -/
def State.patinaCommand (s : State) (r : CapReq) (v : Nat) (margins : List Int) : State :=
  s.capExec r Obj.patinaMeasure fun _ s => boolCommand v s fun s => (capOk, s.patinaStep margins)

/-- PATINA_MEASURE_CMD (R436). -/
def execPatinaMeasureCmd (r : CapReq) (v : Nat) (margins : List Int) (s : State) : Host.Outcome State Fault Refusal :=
  .next (s.patinaCommand r v margins)

/-- The mark in store 0 that PatinaRecalibrate takes effect at the next start (R437). -/
abbrev Obj.recalibrate : Nat := 0x1401F0

/-- PATINA_RECALIBRATE (R437). -/
def State.patinaRecalibrate (s : State) (r : CapReq) (v : Nat) : State :=
  s.capExec r Obj.patinaRecalibrate fun _ s => boolCommand v s fun s => (capOk, s.setPaired Obj.recalibrate 1)

/-- PATINA_RECALIBRATE (R437). -/
def execPatinaRecalibrate (r : CapReq) (v : Nat) (s : State) : Host.Outcome State Fault Refusal :=
  .next (s.patinaRecalibrate r v)

/-- The start after PatinaRecalibrate (R437). -/
def State.recalibrated (s : State) : State :=
  if s.flag Obj.recalibrate then
    (s.commitPaired [(Obj.vddSetpointMv, 800), (Obj.patinaCeilingMHz, s.get Obj.engineCeilingMHz), (Obj.recalibrate, 0)]).ageing 4
  else s

/-! ### Built-in self-test (R439 to R441) -/

/-- Whether a target code is defined (R439). -/
def bistTarget (t : Nat) : Bool :=
  Nat.ble t 0x13 || t == 0x20 || t == 0x21 || (Nat.ble 0x28 t && Nat.ble t 0x3F) || t == 0x40 || t == 0x41

/-- The condition of a target's row (R439). -/
def State.bistMay (s : State) (t : Nat) : Bool :=
  if Nat.ble t 0x13 then true
  else if t = 0x20 ∨ t = 0x21 then (s.gate.pairOk[0x21 - t]?).getD false
  else if Nat.ble t 0x3F then s.bank (t - 0x20) == 2
  else s.nat Obj.powerState == 1

/-- Whether a test stands in the way of one commanded (R439, R440): a rotation test of the same engine does not. -/
def State.bistBusy (s : State) (t : Nat) : Bool :=
  match s.pat.target with
  | none => false
  | some u => !(s.pat.origin == 1 && u == t && (s.gate.engines[u]?).getD 0 == 0)

/-- BIST_START (R439). -/
def State.bistStart (s : State) (r : CapReq) (t : Nat) : State :=
  s.capExec r Obj.bistStart fun _ s =>
    if !bistTarget t then (capErr 5 0, s)
    else if s.bistBusy t || !s.bistMay t then (capErr 6 0, s)
    else (capOk, { s with pat.target := some t, pat.origin := 0, pat.slices := 0, pat.failing := none })

/-- BIST_START (R439). -/
def execBistStart (r : CapReq) (target : Nat) (s : State) : Host.Outcome State Fault Refusal := .next (s.bistStart r target)

/-- The next engine in rotation that is in service (R440). -/
def State.nextEngine (s : State) : Option Nat :=
  ((List.range 20).map fun i => (s.pat.rotation + i) % 20).find? fun e => (s.gate.engines[e]?).getD 2 == 0

/-- JUGGLER_ROTATION_TEST (R440): one engine every 10 minutes. -/
def State.rotationTest (s : State) : State :=
  if !(s.up && s.pw.cause == 0 && s.pat.target.isNone && s.elapsedS s.pat.rotatedAt 600) then s
  else
    match s.nextEngine with
    | none => s
    | some e =>
      let now := s.now
      { s with pat.target := some e, pat.origin := 1, pat.slices := 0, pat.failing := none, pat.rotation := (e + 1) % 20,
               pat.rotatedAt := now }

/-- JUGGLER_ROTATION_TEST (R440). -/
def execJugglerRotationTest (s : State) : Host.Outcome State Fault Refusal := .next s.rotationTest

/-- BIST_SLICE (R440): 64 logic slices, 16 of each pattern set, at least 10 ms apart, then the slice that tests and clears the
Caravan. -/
def State.bistSlice (s : State) (ok : Bool) : State :=
  match s.pat.target with
  | none => s
  | some e =>
    let n := s.pat.slices
    let now := s.now
    if !(s.up && s.pw.cause == 0 && Nat.ble e 0x13 && Nat.blt n 65 && (n == 0 || Nat.ble (s.pat.sliceAt + 10000000) now)) then s
    else
      let failing := if ok then s.pat.failing else some (s.pat.failing.getD (n / 16))
      let s := { s with pat.slices := n + 1, pat.sliceAt := now, pat.failing := failing }
      if n = 64 then s.clearCaravan e else s

/-- BIST_SLICE (R440). -/
def execBistSlice (signatureOk : Bool) (s : State) : Host.Outcome State Fault Refusal := .next (s.bistSlice signatureOk)

/-- What the end of a Juggler's test does to it (R408, R441): a pass returns it to service; a failure takes it out, a second in
succession retires it. -/
def State.jugglerTested (s : State) (e result : Nat) : State :=
  match result with
  | 0 => { s with gate.engines := s.gate.engines.set e 0, pat.failures := s.pat.failures.set e 0 }
  | 1 =>
    let n := (s.pat.failures[e]?).getD 0 + 1
    let s := { s with pat.failures := s.pat.failures.set e n }
    if n < 2 then s.engineOut e
    else { s with gate.engines := s.gate.engines.set e 2 }.clearCaravan e |>.bump Obj.enginesRetired
  | _ => { s with gate.engines := s.gate.engines.set e 0 }

/-- The end of a test by its target (R407, R441); an engine retired stays so until the next start. -/
def State.tested (s : State) (t result : Nat) : State :=
  if t ≤ 0x13 then (if (s.gate.engines[t]?).getD 0 = 2 then s else s.jugglerTested t result)
  else if t = 0x20 ∨ t = 0x21 then
    match result with
    | 0 => { s with gate.pairOk := s.gate.pairOk.set (t - 0x20) true }
    | 1 => { s with gate.pairOk := s.gate.pairOk.set (t - 0x20) false }.dangerous (GateFault.of 14 (t - 0x20))
    | _ => s
  else s

/-- BIST_COMPLETE (R441): the result of the test that runs. A sliced test ends after its last slice, and has failed when one of
its slices did; an engine out of service (R408) is tested whole. -/
def State.bistComplete (s : State) (result set_ : Nat) (signatures : List Nat) : State :=
  match s.pat.target with
  | none => s
  | some t =>
    let sliced := Nat.ble t 0x13 && (s.gate.engines[t]?).getD 0 == 0
    if !(s.awake && Nat.ble result 2) || (sliced && result != 2 && s.pat.slices != 65) then s
    else
      let result := if sliced && result == 0 && s.pat.failing.isSome then 1 else result
      let set_ := if result = 1 then (if sliced then s.pat.failing.getD set_ else set_) else 0xFF
      (s.bistEnd t result set_ signatures).tested t result

/-- BIST_COMPLETE (R441). -/
def execBistComplete (result failingSet : Nat) (signatures : List Nat) (s : State) : Host.Outcome State Fault Refusal :=
  .next (s.bistComplete result failingSet signatures)

end Sys2Proof.Machine
end

