-- ==== Sys2Proof/Machine/Views.lean ====
section
/-! DEFINITION. What a read of a catalogue object shows (R353, R374): the stored value, or the view of the state that its home
chapter gives. -/

namespace Sys2Proof.Machine

/-- StoreStatus (R374): the bank in force, the payload bytes and the Sequence of its image. -/
def PStore.status (p : PStore) : Nat :=
  pack [(1, p.force), (1, 0), (2, bankBytes p.entries), (4, (p.winner.map (·.seq)).getD 0)]

/-- BillingClockNow (R264, R268): UTC of billing TAI as a CIVIL, with the offset taken as 0 while it is unknown. -/
def State.billingCivil (s : State) : Nat :=
  let (u, leap) := s.utcOf s.billSec
  let c := civilFromDays (u / 86400)
  pack [(2, c.1), (1, c.2.1), (1, c.2.2), (1, u % 86400 / 3600), (1, u % 3600 / 60), (1, if leap then 60 else u % 60),
    (1, 2 * b2n leap + 64 * s.clock)]

/-- LaneStatus (R128). -/
def State.laneStatus (s : State) (l : Nat) : Nat :=
  match s.lane l with
  | none => 0
  | some x =>
    let code := if !s.laneOn l then 0 else if x.onAir.isSome then 3 else if x.bound != 0 then 2 else 1
    code + 4 * b2n x.zc.locked + 8 * b2n x.hold.isSome

/-- LinkStatus of an Ethernet port (R295). -/
def State.linkStatus (s : State) (p : Nat) : Nat :=
  match s.ports[p]? with
  | none => 0
  | some x =>
    b2n x.up + 2 * b2n x.aneg + 4 * b2n (s.honours p x) + 8 * b2n (s.bitOf (Obj.pauseControl p) 1) + 16 * b2n x.pausedUntil.isSome

/-- TenantKeyState (R169). -/
def State.tenantKeyState (s : State) (t : Nat) : Nat :=
  b2n (s.hasMaster t) + 2 * b2n (s.allAnchors.any fun a => a.role == 3 && a.tenant == t)

/-- KekSlotInfo (R153, R169). -/
def KekSlot.info (k : KekSlot) : Nat :=
  pack [(1, k.state), (1, 0), (2, (k.cur.map (·.1)).getD 0), (2, (k.prev.map (·.1)).getD 0), (2, 0)]

/-- TenantPublicKey (R169): the public half of an identity key. -/
def State.tenantPublicKey (s : State) (t slot : Nat) : Nat :=
  ((tget s.loc.keys.ident (16 * t + slot)).map fun e => publicKey e.1 e.2).getD 0

/-- FirmwareStatus (R380, R391). -/
def Firmware.status (f : Firmware) : Nat :=
  pack [(1, f.inForce), (1, f.matched), (6, 0), (8, f.counterA), (8, f.counterB), (8, 0)]

/-- The role, tenant and slot of a subindex of TrustAnchorList (R391). -/
def anchorPlace (n : Nat) : Nat × Nat × Nat :=
  if n ≤ 16 then (([1, 2, 5, 6] : List Nat).getD ((n - 1) / 4) 0, 0, (n - 1) % 4)
  else (3 + (n - 17) / 4 % 2, (n - 17) / 8, (n - 17) % 4)

/-- TrustAnchorList (R391). -/
def State.anchorEntry (s : State) (n : Nat) : Nat :=
  let (role, tenant, slot) := anchorPlace n
  match s.allAnchors.find? (anchorAt role tenant slot) with
  | some a => pack [(1, a.role), (1, a.tenant), (1, a.slot), (1, a.kind), (4, 0), (97, a.key)]
  | none => 0

/-- TamperSourceState (R391). -/
def Source.pack (x : Source) : Nat := Machine.pack [(4, x.count), (4, x.storm), (6, x.first), (6, x.last)]

/-- CalendarState (R219). -/
def State.calendarState (s : State) (c : Nat) : Nat :=
  let k := s.calState c
  let p := s.passive c
  pack [(1, b2n (s.image 0 c != 0) + 2 * b2n p.isSome), (1, 0), (6, (p.map imgActivation).getD 0), (6, k.w), (2, k.period)]

/-- The calendar that an index and a subindex name (R219). -/
def calendarAt (k : Nat) : Nat := 128 * (k / 256 % 2) + (k % 256 - 1)

/-- The objects of the 0x1000 to 0x2FFF ranges that are views. -/
def State.shownLow (s : State) (k : Nat) : Option Nat :=
  let i := k / 256
  let n := k % 256 - 1
  if i = 0x1000 then some Config.deviceSerial
  else if i = 0x1023 then some (((tget s.mem.queues n).map (·.corrected)).getD 0)
  else if i = 0x1032 then (s.stores[n]?).map (·.status)
  else if k = Obj.timeNow then some s.timeNow
  else if k = Obj.billingClockNow then some s.billingCivil
  else if i = 0x2048 ∧ 1 ≤ n ∧ n ≤ 4 then some (s.campaignStatus (n - 1))
  else if 0x2410 ≤ i ∧ i ≤ 0x2412 ∧ n = 0 then some (s.laneStatus (i - 0x2410))
  else if i = 0x2418 then some (s.noiseMap n)
  else if 0x2428 ≤ i ∧ i ≤ 0x242A ∧ n = 5 then some (((s.lane (i - 0x2428)).map (·.links.length)).getD 0)
  else if 0x2801 ≤ i ∧ i ≤ 0x2804 ∧ n = 11 then some (s.linkStatus (i - 0x2801))
  else none

/-- The objects of the 0x3000 to 0x9FFF ranges that are views. -/
def State.shownHigh (s : State) (k : Nat) : Option Nat :=
  let i := k / 256
  let n := k % 256 - 1
  if k = Obj.locketStatus then some s.locketStatus
  else if i = 0x3002 then some (s.tenantKeyState n)
  else if 0x3010 ≤ i ∧ i ≤ 0x3017 then some (s.kek (i - 0x3010) n).info
  else if 0x3018 ≤ i ∧ i ≤ 0x301F then some (s.tenantPublicKey (i - 0x3018) n)
  else if k = Obj.rewrapPending then some s.rewrapPending
  else if k = Obj.rekeyMarkPending then some s.loc.rekey.length
  else if k = Obj.attestationCertificate then some Config.attestationCertificate
  else if k = Obj.deviceIdentityCertificate then some Config.identityCertificate
  else if k = Obj.firmwareStatus then some s.fw.status
  else if i = 0x3403 then some (s.anchorEntry (n + 1))
  else if i = 0x3412 then (s.bat.sources[n]?).map (·.pack)
  else if k = Obj.claspAlarm then some s.bat.claspAlarm
  else if k = Obj.claspStuck then some s.bat.stuck
  else if 0x6110 ≤ i ∧ i ≤ 0x6111 then some (s.calendarState (calendarAt k))
  else if k = Obj.legalRecordsLost then some s.bat.legalLost
  else if i = 0x7C10 ∧ n ≤ 3 then some (s.logOf n).next
  else none

/-- What a read of an object shows (R353). -/
def State.shown (s : State) (k : Nat) : Int :=
  match (if Nat.blt k 0x300000 then s.shownLow k else s.shownHigh k) with
  | some n => (n : Int)
  | none => s.get k

/-- An object's value as it travels (R353). -/
def State.wire (s : State) (t : Ty) (k : Nat) : Nat := enc t.size (s.shown k)

/-! ### Output balls (R404, R419, R457, R463) -/

/-- The output balls whose level follows the state: SAFE_N, PWR_SAFE, PLC_x_DRVEN of a lane, RS485_DE, RS485_TXD, XSPI_RESET_N,
ETH_TXDIS of a port (R457). -/
inductive Ball where
  | safeN
  | pwrSafe
  | plcDrven (lane : Nat)
  | rs485De
  | rs485Txd
  | xspiResetN
  | ethTxdis (port : Nat)
deriving DecidableEq, Repr

/-- The state in reset of R457. -/
def Ball.highInReset : Ball → Bool
  | .rs485Txd | .ethTxdis _ => true
  | _ => false

/-- The level of an output ball while VDDIO_3V3 stands: in reset as R457 says, save PWR_SAFE, which falls only at step 1 of the next start
(R419); then SAFE_N low while it is asserted (R404), DRVEN as driven (R107), the service port idle between responses (R463), XSPI_RESET_N
released from step 2 of the start on, ETH_TXDIS low where PortMode is not 0. -/
def State.ballHigh (s : State) (b : Ball) : Bool :=
  if b == .pwrSafe then s.pins.pwrSafe
  else if !s.awake then b.highInReset
  else
    match b with
    | .safeN => !s.pins.safe
    | .pwrSafe => s.pins.pwrSafe
    | .plcDrven l => s.driving l
    | .rs485De => false
    | .rs485Txd => true
    | .xspiResetN => Nat.ble 2 s.pw.stage
    | .ethTxdis p => s.nat (Obj.portMode p) == 0

end Sys2Proof.Machine
end

