-- ==== Sys2Proof/Machine/Writes.lean ====
section
/-! DEFINITION. Writes of catalogue objects: ranges and rules of their home chapters (R353 to R355), the paired stores (R371),
what a committed write changes at once. -/

namespace Sys2Proof.Machine

/-! ### Values and reserved bits (R353) -/

/-- A value as its type reads it from the bytes of a message (R353). -/
def Ty.decode (t : Ty) (raw : Nat) : Int :=
  match t with
  | .i n => sgn n raw
  | _ => (raw % 256 ^ t.size : Nat)

/-- The bits of an object that hold something, for an object with reserved bits, which read as 0 (R13). -/
def usedBits (k : Nat) : Option Nat :=
  let i := k / 256
  let n := k % 256
  if k = Obj.carouselEnable ∨ k = Obj.ptpPortEnable ∨ k = Obj.midwayEnable then some 0x0F
  else if k = Obj.tightropeEnable ∨ k = Obj.ptpTransport then some 0x07
  else if 0x2001 ≤ i ∧ i ≤ 0x2004 ∧ n = 3 then some 0x3F
  else if 0x2001 ≤ i ∧ i ≤ 0x2004 ∧ n = 4 then some 0x3FFE
  else if 0x2801 ≤ i ∧ i ≤ 0x2804 ∧ (n = 4 ∨ n = 6) then some 0x03
  else if k = Obj.bigTopBankOff then some 0xFFFFFF00
  else if k = Obj.tamperEnable then some 0x0FFF
  else if i = 0x4001 then some (256 ^ 18 - 1)
  else if 0x4010 ≤ i ∧ i ≤ 0x4011 then some (256 ^ 26 - 1)
  else if 0x5010 ≤ i ∧ i ≤ 0x5017 then some (256 ^ 28 - 1 - 0xFFFF * 256 ^ 6 - 0xF000 * 256 ^ 2)
  else if 0x5018 ≤ i ∧ i ≤ 0x501F then some (256 ^ 10 - 1 - 0xFF00)
  else if i = 0x2046 then some (256 ^ 16 - 1 - 0xFC * 256 ^ 11)
  else if i = 0x2047 then some (256 ^ 40 - 1 - 0xFFFE * 256 ^ 38)
  else if i = 0x9002 then some (256 ^ 8 - 1 - 0xFFFF * 256 ^ 2)
  else if 0x2810 ≤ i ∧ i ≤ 0x2813 then some (2 ^ 64 - 1 - (2 ^ 51 - 2 ^ 48 + 2 ^ 36 - 2 ^ 32 + 2 ^ 16 - 1))
  else if 0x6822 ≤ i ∧ i ≤ 0x6823 then some (256 ^ 270 - 1)
  else none

/-- A value without its reserved bits. -/
def usedValue (k : Nat) (v : Int) : Int :=
  match usedBits k with
  | some m => (v.toNat &&& m : Nat)
  | none => v

/-! ### The commit sequence (R359) -/

/-- The value an object will have once every write already in the commit sequence has committed. -/
def State.ahead (s : State) (k : Nat) : Int :=
  match s.stores[storeOf k]? with
  | none => s.get k
  | some p =>
    match (p.prog ++ p.gathered).reverse.find? fun w => w.key == k with
    | some w => w.val
    | none => s.get k

/-- The same as a number. -/
def State.aheadNat (s : State) (k : Nat) : Nat := (s.ahead k).toNat

/-! ### Rules of the home chapters -/

/-- The error codes of a broken rule: out of range at an offset. -/
def rangeAt (ok : Bool) (offset : Nat) : Option (Nat × Nat) := if ok then none else some (5, offset)

/-- A sum over the subindices 1 to n of an object's indices, `step` keys apart, with one of them at a value. -/
def State.sumWith (s : State) (first step n k v : Nat) : Nat :=
  ((List.range n).map fun i => if first + step * i = k then v else s.aheadNat (first + step * i)).sum

/-- Whether Chain mode suits a lane's carriers (R115). -/
def chainSuits (chain profile mask : Nat) : Bool := chain == 0 || (activeCarriers profile mask).length % 6 == 0

/-- The grids permitted for a mode (R64). -/
def permittedGrids (mode : Nat) : List Nat :=
  if mode = 1 then [3, 4] else if [2, 3, 11].contains mode then [4, 5] else if [4, 5, 13].contains mode then [0, 1]
  else if mode = 6 then [2] else if mode = 7 then [4] else if mode = 12 then [3] else [5]

/-- The port modes that a port offers (R269). -/
def portModes (p : Nat) : List Nat := if p ≤ 1 then [0, 1, 2] else [0, 2, 3, 4]

/-- A DutyBand entry's fields within their ranges (R96); an entry of zeros is unused. -/
def dutyBandOk (w : Nat) : Bool :=
  w == 0 || (Nat.ble (bytesAt w 8 2) 10000 && Nat.ble (byteAt w 10) 100 && Nat.ble 100 (bytesAt w 14 2) && Nat.ble (bytesAt w 14 2) 5000)

/-- A BroadcastPlan entry's fields and conditions (R100). -/
def planOk (w : Nat) : Bool :=
  let cls := byteAt w 1
  let period := bytesAt w 24 4
  let start := bytesAt w 28 4
  let len := bytesAt w 32 4
  cls == 0 ||
  (Nat.ble (byteAt w 0) 3 && Nat.ble cls 3 && Nat.ble 1 (byteAt w 2) && Nat.ble (byteAt w 2) 13 && Nat.ble (byteAt w 3) 7 &&
    Nat.ble 1 period && Nat.ble period 86400 && 86400 % Nat.max 1 period == 0 && Nat.ble 1 len && Nat.ble (start + len) period &&
    (cls != 3 || Nat.ble (byteAt w 36) 3) && (cls == 3 || (Nat.ble 1 (byteAt w 37) && Nat.ble (byteAt w 37) 8)))

/-- A ShedPlan of a cell (R402, R411). -/
def shedPlanOk (cell w : Nat) : Bool :=
  w == 0 || (Nat.ble 1 (byteAt w 1) && Nat.ble (byteAt w 1) 8 &&
    (Nat.ble 4 cell || (Nat.ble 1 (byteAt w 0) && Nat.ble (byteAt w 0) 13)))

/-- A rule record's fields within their ranges (R176), and a parse map entry's (R193). -/
def assayOk (k w : Nat) : Bool :=
  if k / 256 ≤ 0x5017 then Nat.ble (byteAt w 0) 9 && Nat.ble (byteAt w 1) 1 else Nat.ble (byteAt w 0) 2

/-- Whether RoleSelect 1 may be written (R470). -/
def State.fitsField (s : State) : Bool :=
  s.nand.recs.all fun e =>
    e.2.state == 0 || (Nat.ble (tagIndex e.1) 0xFFFF && tagDomain e.1 == s.forced Obj.domainNumber &&
      tagConcentrator e.1 == s.forced Obj.concentratorNumber)

/-- Whether a record is admitted or active, which keeps the part's own numbers from changing (R39). -/
def State.numbered (s : State) : Bool := s.nand.recs.any fun e => e.2.state == 1 || e.2.state == 2

/-- Rules of the 0x1000 and 0x1400 ranges: the error and its detail. -/
def State.rulesBase (s : State) (k n : Nat) (v : Int) : Option (Nat × Nat) :=
  if k = Obj.roleSelect then
    if n = 2 ∧ !s.bitOf Obj.rolesEnabled 1 then some (5, 0) else if n = 1 ∧ !s.fitsField then some (6, 0) else none
  else if k / 256 = 0x1022 then
    rangeAt ([16, 32, 64, 128, 256, 512, 1024, 2048, 4096].contains n && Nat.ble (2 * s.sumWith 0x102201 1 96 k n) 65536) 0
  else if k = Obj.servicePortBaud then
    rangeAt ([9600, 19200, 38400, 57600, 115200, 230400, 460800, 921600].contains n) 0
  else if k = Obj.governorTripDeciC then rangeAt (decide (v ≤ s.get Obj.junctionMaxDeciC - 20)) 0
  else if k = Obj.governorFloorMHz then rangeAt (n % 100 == 0) 0
  else if k = Obj.marginTargetPermille then rangeAt (Nat.blt (s.aheadNat Obj.marginGuardPermille) n) 0
  else if k = Obj.marginGuardPermille then rangeAt (Nat.blt n (s.aheadNat Obj.marginTargetPermille)) 0
  else none

/-- Rules of the 0x1800 range (R268). -/
def State.rulesTime (s : State) (k n : Nat) : Option (Nat × Nat) :=
  if k = Obj.sourcePriority then rangeAt ((List.range 4).all fun i => Nat.ble (byteAt n i) 5) 0
  else if k = Obj.lockThresholdNs then rangeAt (Nat.ble n (s.aheadNat Obj.unlockThresholdNs)) 0
  else if k = Obj.unlockThresholdNs then rangeAt (Nat.ble (s.aheadNat Obj.lockThresholdNs) n) 0
  else none

/-- Rules of the 0x2000 range (R64, R67, R96, R100). -/
def State.rulesRadio (s : State) (k n : Nat) : Option (Nat × Nat) :=
  let i := k / 256
  if 0x2001 ≤ i ∧ i ≤ 0x2004 ∧ k % 256 = 5 then rangeAt (Nat.ble (s.sumWith 0x200105 256 4 k n) 1024) 0
  else if i = 0x2010 then rangeAt ((permittedGrids (k % 256)).contains n) 0
  else if i = 0x2046 then rangeAt (dutyBandOk n) 0
  else if i = 0x2047 then rangeAt (planOk n) 0
  else none

/-- Rules of the 0x2400 range (R115, R128, R143). -/
def State.rulesLine (s : State) (k n : Nat) : Option (Nat × Nat) :=
  let i := k / 256
  let l := i - 0x2401
  if k = Obj.mainsHz then rangeAt ([0, 50, 60].contains n) 0
  else if 0x2401 ≤ i ∧ i ≤ 0x2403 ∧ k % 256 = 3 then
    rangeAt (chainSuits n (s.aheadNat (Obj.laneProfile l)) (s.aheadNat (Obj.toneMask l))) 0
  else if 0x2401 ≤ i ∧ i ≤ 0x2403 ∧ k % 256 = 4 then
    rangeAt (chainSuits (s.aheadNat (Obj.chainEnable l)) (s.aheadNat (Obj.laneProfile l)) n) 0
  else if 0x2401 ≤ i ∧ i ≤ 0x2403 ∧ k % 256 = 8 then rangeAt (n % 10 == 0) 0
  else if 0x2401 ≤ i ∧ i ≤ 0x2403 ∧ k % 256 = 16 then rangeAt (n == 255 || (Nat.ble n 45 && n % 3 == 0)) 0
  else if k = Obj.lqMin then rangeAt (Nat.ble n (s.aheadNat Obj.lqGood)) 0
  else if k = Obj.lqGood then rangeAt (Nat.ble (s.aheadNat Obj.lqMin) n) 0
  else none

/-- Rules of the 0x2800 range (R269, R280). -/
def State.rulesNet (s : State) (k n : Nat) : Option (Nat × Nat) :=
  let p := k / 256 - 0x2801
  if Nat.ble 0x2801 (k / 256) && Nat.ble (k / 256) 0x2804 then
    if k % 256 = 1 then rangeAt ((portModes p).contains n) 0
    else if k % 256 = 8 then rangeAt (Nat.blt n (s.aheadNat (Obj.pauseXonBytes p))) 0
    else if k % 256 = 9 then rangeAt (Nat.blt (s.aheadNat (Obj.pauseXoffBytes p)) n) 0
    else none
  else none

/-- Rules of a write of a calendar image (R199, R201, R219). -/
def State.rulesCalendar (s : State) (k g : Nat) : Option (Nat × Nat) :=
  let c := calendarAt k
  let passive := Nat.ble 0x6102 (k / 256)
  if passive && imgActivation g == 0 then none
  else
    match imageFails g with
    | some o => some (5, o)
    | none =>
      if byteAt g 0 ≠ c then some (5, 0)
      else if passive then rangeAt (s.activationOk g) 22
      else rangeAt ((s.nextSuits g (s.image 0 c) 2400 s.billSec).isSome) 22

/-- The rule of PricePending (R221): ChangeTai is a demand boundary of the calendar, later than the commit. -/
def State.priceOk (s : State) (k w : Nat) : Bool :=
  Nat.blt s.billSec (tableChange w) && (s.marksAt (calendarAt k) (tableChange w)).1

/-- Rules of the other ranges (R39, R176, R184, R194, R235, R318, R402). -/
def State.rulesRest (s : State) (k n : Nat) : Option (Nat × Nat) :=
  let i := k / 256
  if k = Obj.concentratorNumber ∨ k = Obj.domainNumber then (if s.numbered then some (6, 0) else none)
  else if 0x5010 ≤ i ∧ i ≤ 0x501F then rangeAt (assayOk k n) 0
  else if k = Obj.stormEnterCount then rangeAt (Nat.ble (s.aheadNat Obj.stormExitCount) n) 0
  else if k = Obj.stormExitCount then rangeAt (Nat.ble n (s.aheadNat Obj.stormEnterCount)) 0
  else if 0x6100 ≤ i ∧ i ≤ 0x6103 then s.rulesCalendar k n
  else if 0x6822 ≤ i ∧ i ≤ 0x6823 then rangeAt (s.priceOk k n) 264
  else if k = Obj.balanceIntervalMin then rangeAt ([15, 30, 60].contains n) 0
  else if k = Obj.gcLowPermille then rangeAt (Nat.blt (s.aheadNat Obj.gcCriticalPermille) n) 0
  else if k = Obj.gcCriticalPermille then rangeAt (Nat.blt n (s.aheadNat Obj.gcLowPermille)) 0
  else if i = 0x8001 then rangeAt (Nat.ble (s.sumWith 0x800101 1 8 k n) 1000) 0
  else if i = 0x8002 then rangeAt (Nat.ble (s.sumWith 0x800201 1 8 k n) (s.nat Obj.registryLimit)) 0
  else if i = 0x9002 then rangeAt (shedPlanOk (k % 256 - 1) n) 0
  else none

/-- The rule that refuses a value of an object: its error and detail. -/
def State.rules (s : State) (k : Nat) (v : Int) : Option (Nat × Nat) :=
  let i := k / 256
  let n := v.toNat
  if i < 0x1800 then s.rulesBase k n v
  else if i < 0x2000 then s.rulesTime k n
  else if i < 0x2400 then s.rulesRadio k n
  else if i < 0x2800 then s.rulesLine k n
  else if i < 0x3000 then s.rulesNet k n
  else s.rulesRest k n

/-- The checks of a value written to an object (R353, R354): its length, type, range and rules; the value where it passes. A calendar
image is checked as it is written (R199) and kept without its reserved bits (R13). -/
def State.checkValue (s : State) (k : Nat) (r : ObjRow) (length raw : Nat) : Except CapOut Int :=
  let cal := Nat.ble 0x610000 k && Nat.blt k 0x610400
  let v := if cal then r.ty.decode raw else usedValue k (r.ty.decode raw)
  if length ≠ r.ty.size then .error (capErr 4 0)
  else if r.ty.breaks (r.ty.decode raw) then .error (capErr 5 0)
  else if (r.range.map fun b => decide (v < b.1) || decide (b.2 < v)).getD false then .error (capErr 5 0)
  else
    match s.rules k v with
    | some (code, detail) => .error (capErr code detail)
    | none => .ok (if cal then (imgUsed v.toNat : Nat) else v)

/-- Whether a write needs the unsealed state and does not find it (R354, R385). -/
def State.sealedAgainst (s : State) (r : ObjRow) : Bool := r.acc == .rws && s.nat Obj.sealState != 1

/-- The access right of a Write (R354). LogCapacity of the legal log takes none (R335). -/
def State.writeAccess (s : State) (k : Nat) (r : ObjRow) : Option CapOut :=
  if (r.acc != .rw && r.acc != .rws) || k == Obj.logCapacity 0 then some (capErr 2 0)
  else if s.sealedAgainst r then some (capErr 7 0)
  else none

/-! ### What a committed write changes at once -/

/-- A frame discarded without acknowledgement, with the response it has, the slot it holds and its item in Seesaw. -/
def State.discardWhole (s : State) (f : Frame) : State :=
  let s := (s.dl.responses.filter fun r => r.frame == f.id).foldl (fun (s : State) (r : Response) =>
    { s with dl.responses := s.dl.responses.filter fun x => x.frame != r.frame }.holdItems r.items false) s
  (s.discard f).purgeSlot f.id

/-- The frames of an own cell that have not passed step 4 are discarded (R38). -/
def State.closeCell (s : State) (cell : Nat) : State :=
  (s.frames.filter fun f => f.forwarded.isNone && f.cell == cell && Nat.blt f.stage 4).foldl State.discardWhole s

/-- The bits of a word that a later one does not hold. -/
def droppedBits (old new n : Nat) : List Nat := (List.range n).filter fun b => bit old b && !bit new b

/-- A lane is disabled (R128): what it receives or sends is aborted. -/
def State.laneStop (s : State) (l : Nat) : State := s.abortLane l

/-- Subindex `sub` of a lane's settings at a value (R128). -/
def LaneCfg.withSub (c : LaneCfg) (sub v : Nat) : LaneCfg :=
  if sub = 1 then { c with profile := v } else if sub = 2 then { c with standard := v } else if sub = 3 then { c with chain := v != 0 }
  else { c with mask := v }

/-- A lane is reset by a change of one of its settings (R128): its frames are aborted, the settings that were in force stay so until the
next half-cycle. -/
def State.laneReset (s : State) (l sub old : Nat) : State :=
  let was := (s.cfgNow l).withSub sub old
  (s.abortLane l).modLane l fun x => { x with held := some (x.held.getD was) }

/-- Subindex `sub` of the timing objects at a value (R143). -/
def LaneTiming.withSub (t : LaneTiming) (sub v : Nat) : LaneTiming :=
  match sub with
  | 1 => { t with slotUs := v }
  | 2 => { t with ifsUs := v }
  | 3 => { t with p0 := v }
  | 4 => { t with p1 := v }
  | 5 => { t with p2 := v }
  | _ => { t with ackGapUs := v }

/-- A timing object changed (R143): the lanes keep what was in force until their next idle instant. -/
def State.timingHeld (s : State) (sub old : Nat) : State :=
  let was := s.timingNow.withSub sub old
  { s with lanes := s.lanes.map fun (x : Lane) => ({ x with timing := some (x.timing.getD was) } : Lane) }

/-- A committed CarouselEnable (R59): a port enabled trains, one disabled stops. -/
def State.iqEnabled (s : State) (old new : Nat) : State :=
  (List.range 4).foldl (fun (s : State) (p : Nat) =>
    if bit new p && !bit old p then (if s.carouselOn then s.trainPort p true else s)
    else if bit old p && !bit new p then (s.abortPort p).setIq p 0 0
    else s) s

/-- A committed change of a Carousel object (R59, R85). -/
def State.landedRadio (s : State) (k old new : Nat) : State :=
  let i := k / 256
  let retrain (s : State) (p : Nat) : State :=
    if s.carouselOn && s.bitOf Obj.carouselEnable p then s.trainPort p false else s
  if k = Obj.carouselEnable then s.iqEnabled old new
  else if 0x2001 ≤ i ∧ i ≤ 0x2004 ∧ k % 256 ≤ 3 then retrain s (i - 0x2001)
  else if 0x2008 ≤ i ∧ i ≤ 0x200B then retrain s (i - 0x2008)
  else s

/-- A committed change of a Tightrope object (R128). -/
def State.landedLine (s : State) (k old new : Nat) : State :=
  let i := k / 256
  if k = Obj.tightropeEnable then (droppedBits old new 3).foldl State.laneStop s
  else if 0x2401 ≤ i ∧ i ≤ 0x2403 ∧ k % 256 ≤ 4 then s.laneReset (i - 0x2401) (k % 256) old
  else if i = 0x2420 ∧ [1, 2, 3, 4, 5, 7].contains (k % 256) then s.timingHeld (k % 256) old
  else s

/-- A committed change of a Midway object (R269, R295). -/
def State.landedNet (s : State) (k old new : Nat) : State :=
  if k = Obj.midwayEnable then (droppedBits old new 4).foldl State.linkDown s
  else if 0x2801 ≤ k / 256 ∧ k / 256 ≤ 0x2804 ∧ k % 256 = 1 then s.linkDown (k / 256 - 0x2801)
  else s

/-- A committed change of a time object (R254, R255, R267). -/
def State.landedTime (s : State) (k : Nat) (old new : Int) : State :=
  if k = Obj.servoOwner then s.ownerChanged
  else if k = Obj.taiUtcOffsetS then (if 0 ≤ old then s.offsetWritten old new else s.evaluate)
  else if k = Obj.leapSchedule then
    let t := bits new.toNat 47 0
    s.setPaired Obj.skippedLeap (if t ≤ s.billSec then (t : Int) else 0)
  else if k = Obj.sourcePriority ∨ k = Obj.ptpPortEnable then s.reselect
  else s

/-- A committed change of an object that battery-domain SRAM copies (R389, R391, R418). -/
def State.landedClasp (s : State) (k : Nat) (new : Nat) : State :=
  if k = Obj.tamperEnable then { s with bat.tamperEnable := new }
  else if k / 256 = 0x3411 then { s with bat.tamperResponse := s.bat.tamperResponse.set (k % 256 - 1) new }
  else if k / 256 = 0x3414 then { s with bat.filterSamples := s.bat.filterSamples.set (k % 256 - 1) new }
  else if k = Obj.wakeAlarm then { s with bat.wakeAlarm := new % 2 ^ 48 }
  else s

/-- What a committed write changes beside the object: nothing where the value does not change. -/
def State.landed (s : State) (k : Nat) (old new : Int) : State :=
  let i := k / 256
  let o := old.toNat
  let n := new.toNat
  if 0x6822 ≤ i ∧ i ≤ 0x6823 then
    s.logLegal 0x1012 0xFF (pack [(1, calendarAt k), (1, 1), (2, 0), (6, tableChange n), (22, 0)])
  else if old = new then s
  else if k = Obj.cellEnable then (droppedBits o n 16).foldl State.closeCell s
  else if k = Obj.governorFloorMHz then s.clockChange
  else if 0x1800 ≤ i ∧ i < 0x2000 then s.landedTime k old new
  else if 0x2000 ≤ i ∧ i < 0x2400 then s.landedRadio k o n
  else if 0x2400 ≤ i ∧ i < 0x2800 then s.landedLine k o n
  else if 0x2800 ≤ i ∧ i < 0x2C00 then s.landedNet k o n
  else s.landedClasp k n

/-! ### Sealed objects (R355) -/

/-- The type of the legal record of a sealed write (R326). -/
def sealedCode (k : Nat) : Nat :=
  let i := k / 256
  if 0x6000 ≤ i ∧ i < 0x6800 then 0x1032
  else if 0x7100 ≤ i ∧ i < 0x7180 then 0x1031
  else 0x1000 + Config.typeCode 4 % 4096

/-- A write of a sealed object committed while unsealed (R201, R355, R385): an image written to an active bank waits for its
instant; the legal record names the object with its old and new value. -/
def State.sealedWrite (s : State) (k : Nat) (v : Int) : State :=
  let c := calendarAt k
  let old := s.get k
  let size := ((Cat.row k).map (·.ty.size)).getD 0
  let new : Int :=
    if k / 256 = 0x6102 ∨ k / 256 = 0x6103 then
      (if imgActivation v.toNat = 0 then 0 else (imgWithSource v.toNat 0 : Nat))
    else v
  let s :=
    if k / 256 = 0x6100 ∨ k / 256 = 0x6101 then
      let at_ := s.nextSuits v.toNat (s.image 0 c) 2400 s.billSec
      s.modCal c fun x => { x with activate := at_, written := imgWithSource v.toNat 0 }
    else s.setSealed k new
  let s := ({ s with hall.writes := s.hall.writes + 1 } : State).commit size 1
  s.logLegal (sealedCode k) 0xFF (pack [(2, k / 256), (1, k % 256), (5, 0), (8, enc 8 old), (8, enc 8 new), (8, 0)])

/-! ### The paired stores (R371) -/

/-- The contents a store will have with every write of its next images. -/
def PStore.target (p : PStore) (extra : List (Nat × Int)) : Tab Int :=
  ((p.prog ++ p.gathered).map (fun w => (w.key, w.val)) ++ extra).foldl (fun (t : Tab Int) (e : Nat × Int) => catPut t e.1 e.2) p.kept

/-- Whether a new image with more changes would pass 65,504 payload bytes (R371). -/
def PStore.overflows (p : PStore) (extra : List (Nat × Int)) : Bool := Nat.blt 65504 (bankBytes (p.target extra))

/-- A write joins the image of its store that is formed next (R371): it starts a program where none runs. -/
def PStore.take (p : PStore) (w : Waiter) : PStore :=
  if p.prog.isEmpty then { p with prog := [w], tries := 0 } else { p with gathered := p.gathered ++ [w] }

/-- The writes gathered become the next image (R371); none starts from the assertion of PFI_N. -/
def PStore.next (p : PStore) (stopped : Bool) : PStore :=
  if stopped then { p with prog := [], tries := 0 } else { p with prog := p.gathered, gathered := [], tries := 0 }

/-- A paired-store program cut off (R371): the other bank is partial. -/
def PStore.cut (p : PStore) : PStore :=
  let partial_ : Bank := { state := 3, seq := 0, entries := [] }
  if p.prog.isEmpty then { p with gathered := [] }
  else if p.force = 0 then { p with b := partial_, prog := [], gathered := [], tries := 0 }
  else { p with a := partial_, prog := [], gathered := [], tries := 0 }

/-- A Write carried out (R355, R371): `none` where its response follows at the commit. -/
def State.writeObject (s : State) (w : Waiter) (r : ObjRow) : Option CapOut × State :=
  match r.pers with
  | .seal =>
    let (o, s) := s.mediaGate fun s => (capOk, s.sealedWrite w.key w.val)
    (some o, s)
  | .vol => (some capOk, s.set w.key w.val)
  | .paired =>
    let n := storeOf w.key
    match s.stores[n]? with
    | none => (some capOk, s)
    | some p =>
      if p.overflows [(w.key, w.val)] then (some (capErr 12 n), s)
      else (none, { s with stores := lmod s.stores n (·.take w) })

/-- What refuses a write at its commit (R221, R385): the seal closed meanwhile, ChangeTai no longer ahead. -/
def State.lateRefusal (s : State) (w : Waiter) : Option CapOut :=
  if ((Cat.row w.key).map s.sealedAgainst).getD false then some (capErr 7 0)
  else if Nat.ble 0x682200 w.key && Nat.blt w.key 0x682400 && Nat.ble (tableChange w.val.toNat) s.billSec then some (capErr 5 264)
  else none

/-- The response to a write that waited for its image. -/
def State.answer (s : State) (w : Waiter) (o : CapOut) : State :=
  s.respond w.sess (o.toResp w.tag w.kind (w.key / 256) (w.key % 256)) true

/-- One write of an image that passed: the catalogue shows it, what follows happens, its response leaves. -/
def State.landWrite (s : State) (w : Waiter) : State :=
  let old := s.get w.key
  let s := if ((Cat.row w.key).map fun r => r.acc == .rws).getD false then { s with hall.writes := s.hall.writes + 1 } else s
  ((s.set w.key w.val).landed w.key old w.val).answer w capOk

/-- STORE_BANK_PROGRAMMED (R371): an image read back. One that passes commits its writes; a first failure is programmed once more; a
second refuses them with STORE_FAILED and leaves the previous values. Once the part stops, no program starts, and a failed one leaves
its bank partial. -/
def State.storeProgrammed (s : State) (n : Nat) (ok : Bool) : State :=
  match s.stores[n]? with
  | none => s
  | some p =>
    let stopped := s.pins.pfi || s.pw.cause != 0
    if p.prog.isEmpty || !s.awake then s
    else if ok then
      let good := p.prog.filter fun w => (s.lateRefusal w).isNone
      let bad := p.prog.filterMap fun w => (s.lateRefusal w).map fun o => (w, o)
      let q := (p.commit (good.map fun w => (w.key, w.val))).next stopped
      let s := { s with stores := s.stores.set n q }.bump Obj.storeWrites
      let s := good.foldl State.landWrite s
      bad.foldl (fun (s : State) (e : Waiter × CapOut) => s.answer e.1 e.2) s
    else if stopped then { s with stores := s.stores.set n p.cut }
    else if p.tries = 0 then { s with stores := s.stores.set n { p with tries := 1 } }
    else
      let s := { s with stores := s.stores.set n (p.next stopped) }.logOpFree 8 n
      p.prog.foldl (fun (s : State) (w : Waiter) => s.answer w (capErr 21 n)) s

end Sys2Proof.Machine
end

