-- ==== Sys2Proof/Machine/Catalogue.lean ====
section
/-! DEFINITION. CAP messages and sessions (R356 to R367): Read, Write, BulkData, ResultRead, Abort, catalogue bundles. -/

namespace Sys2Proof.Machine

/-! ### What a principal may read and write (R366) -/

/-- The indices whose subindex t + 1 belongs to tenant t. -/
def tenantIndices : List Nat :=
  [0x3001, 0x3002, 0x5000, 0x5001, 0x5002, 0x5003, 0x5030, 0x5031, 0x5032, 0x5033, 0x5034, 0x5035, 0x6800, 0x6801, 0x6802,
   0x6803, 0x6804, 0x6805, 0x6806, 0x6807, 0x8001, 0x8002, 0x8003, 0x8004, 0x8005, 0x8010, 0x8011, 0x8012]

/-- The tenant that a subindex belongs to, none for one that belongs to no tenant. -/
def subindexTenant (k : Nat) : Option Nat :=
  let i := k / 256
  let n := k % 256
  if tenantIndices.contains i then (if n = 0 then none else some (n - 1))
  else if (0x3010 ≤ i ∧ i ≤ 0x301F) ∨ (0x5010 ≤ i ∧ i ≤ 0x501F) then some (i % 8)
  else if i = 0x3403 ∧ 17 ≤ n then some ((n - 17) / 8)
  else none

/-- Whether a principal may read an object (R366). -/
def Session.mayRead (ses : Session) (k : Nat) : Bool :=
  let i := k / 256
  ses.role != 1 || (Nat.ble 0x1000 i && Nat.blt i 0x1400) || (Nat.ble 0x1800 i && Nat.blt i 0x2000) ||
    subindexTenant k == some ses.tenant

/-- Whether a principal may write an object (R366). -/
def Session.mayWrite (ses : Session) (k : Nat) : Bool :=
  match ses.role with
  | 0 => true
  | 1 => Nat.ble 0x5000 (k / 256) && Nat.blt (k / 256) 0x6000 && subindexTenant k == some ses.tenant
  | _ => false

/-- The row of an object, or the error for one that does not exist or is reserved to the vendor (R366, R373). -/
def findObject (i n : Nat) : Except CapOut ObjRow :=
  if 0xF000 ≤ i then .error (capErr 3 0)
  else
    match Cat.row (256 * i + n) with
    | some r => if n < 256 then .ok r else .error (capErr 1 0)
    | none => .error (capErr 1 0)

/-! ### Messages (R356) -/

/-- A request with a CAP header (R356): one whose Length disagrees with the bytes received is discarded and counted; a CapVersion
other than 1 is answered with VERSION. -/
def State.capMessage (s : State) (r : CapReq) (m : CapMsg) (kind : Nat) (body : Session → State → Option CapOut × State) : State :=
  match tget s.sessions r.sess with
  | none => s
  | some ses =>
    if ses.closing || (r.sess == 0 && !s.hif.mb.busy) then s
    else if !m.lengthAgrees then
      let s := if r.sess = 0 then { s with hif.mb.busy := false } else s
      s.bump Obj.capErrors
    else if m.version ≠ 1 then
      (s.bump Obj.capRequests).respond r.sess ((capErr 20 0).toResp r.tag kind m.index m.sub) true
    else s.capRun r kind m.index m.sub (fun _ => true) body

/-! ### Read (R354, R357) -/

/-- A counter that a read clears (R15). -/
def State.clearRead (s : State) (r : ObjRow) (k : Nat) : State := if r.acc = .rc then s.set k 0 else s

/-- The objects of a record that a principal may read, in ascending subindex. -/
def recordRows (ses : Session) (i count : Nat) : List (Nat × ObjRow) :=
  (List.range count).filterMap fun n =>
    let k := 256 * i + n + 1
    (Cat.row k).bind fun r => if r.acc != .cmd && ses.mayRead k then some (k, r) else none

/-- A record whole (R357): each subindex, its length and its value. -/
def State.readRecord (s : State) (ses : Session) (i count : Nat) : CapOut × State :=
  let rows := recordRows ses i count
  let fields := rows.flatMap fun e => [(1, e.1 % 256), (2, e.2.ty.size), (e.2.ty.size, s.wire e.2.ty e.1)]
  (capVal (fields.map (·.1)).sum (pack fields), rows.foldl (fun (s : State) (e : Nat × ObjRow) => s.clearRead e.2 e.1) s)

/-- A Read carried out (R354, R357). -/
def State.readObject (s : State) (ses : Session) (m : CapMsg) : CapOut × State :=
  let k := 256 * m.index + m.sub
  if 0xF000 ≤ m.index then (capErr 3 0, s)
  else
    match Cat.count m.index with
    | none => (capErr 1 0, s)
    | some n =>
      if m.sub = 0 then
        if m.whole then
          let (o, s) := s.readRecord ses m.index n
          (capFrom o.length o.value m.offset, s)
        else if ses.mayRead k then (capFrom 1 n m.offset, s)
        else (capErr 3 0, s)
      else
        match findObject m.index m.sub with
        | .error e => (e, s)
        | .ok r =>
          if !ses.mayRead k then (capErr 3 0, s)
          else if r.acc = .cmd then (capErr 2 0, s)
          else (capFrom r.ty.size (s.wire r.ty k) m.offset, s.clearRead r k)

/-- CAP_READ (R357). -/
def State.capRead (s : State) (r : CapReq) (m : CapMsg) : State :=
  s.capMessage r m 1 fun ses s =>
    let (o, s) := s.readObject ses m
    (some o, s)

/-- CAP_READ (R357). -/
def execCapRead (r : CapReq) (m : CapMsg) (s : State) : Host.Outcome State Fault Refusal := .next (s.capRead r m)

/-! ### Write (R353 to R355, R357) -/

/-- The checks of a Write: the row and the value, or the error. -/
def State.writeCheck (s : State) (ses : Session) (i n length raw : Nat) : Except CapOut (ObjRow × Int) :=
  let k := 256 * i + n
  if 0xF000 ≤ i then .error (capErr 3 0)
  else if (Cat.count i).isNone then .error (capErr 1 0)
  else if n ≠ 0 ∧ (Cat.row k).isNone = true then .error (capErr 1 0)
  else if !ses.mayWrite k then .error (capErr 3 0)
  else if n = 0 then .error (capErr 2 0)
  else
    match findObject i n with
    | .error e => .error e
    | .ok r =>
      match s.writeAccess k r with
      | some e => .error e
      | none =>
        match s.checkValue k r length raw with
        | .error e => .error e
        | .ok v => .ok (r, v)

/-- A Write of a whole value carried out; `kind` of the message it answers: 2, or 4 for a bulk transfer's last segment. -/
def State.writeNow (s : State) (ses : Session) (r : CapReq) (kind i n length raw : Nat) : Option CapOut × State :=
  match s.writeCheck ses i n length raw with
  | .error e => (some e, s)
  | .ok (row, v) => s.writeObject { sess := r.sess, tag := r.tag, kind := kind, key := 256 * i + n, val := v } row

/-- The largest bulk transfer (R358). -/
abbrev bulkMax : Nat := 67108864

/-- A session changed. -/
def State.modSession (s : State) (n : Nat) (f : Session → Session) : State := { s with sessions := tmod s.sessions n f }

/-- A bulk transfer opened by a Write with More set (R358). -/
def State.openBulk (s : State) (ses : Session) (r : CapReq) (m : CapMsg) (length raw total : Nat) : CapOut × State :=
  if ses.bulk.isSome then (capErr 6 0, s)
  else if bulkMax < total ∨ total ≤ length then (capErr 4 0, s)
  else
    let now := s.now
    let b : Bulk := { tag := r.tag, index := m.index, sub := m.sub, total := total, got := length, value := (raw % 256 ^ length : Nat),
                      lastAt := now }
    (capOk, s.modSession r.sess fun x => { x with bulk := some b })

/-- CAP_WRITE (R355, R357, R358): `more` is whether More is set. -/
def State.capWrite (s : State) (r : CapReq) (m : CapMsg) (length : Nat) (value : Int) (more : Bool) : State :=
  s.capMessage r m 2 fun ses s =>
    let raw := enc length value
    if m.offset ≠ 0 then (some (capErr 5 0), s)
    else if more then
      let (o, s) := s.openBulk ses r m length raw m.total
      (some o, s)
    else s.writeNow ses r 2 m.index m.sub length raw

/-- CAP_WRITE (R355). -/
def execCapWrite (r : CapReq) (m : CapMsg) (length : Nat) (value : Int) (more : Bool) (s : State) :
    Host.Outcome State Fault Refusal := .next (s.capWrite r m length value more)

/-- SERVO_OWNER_CHANGE (R254): the Write of ServoOwner. -/
def execServoOwnerChange (r : CapReq) (owner : Nat) (s : State) : Host.Outcome State Fault Refusal :=
  .next (s.capWrite r { version := 1, index := 0x1800, sub := 1, offset := 0, whole := false, total := 1, lengthAgrees := true } 1 owner
    false)

/-- TAI_UTC_OFFSET_WRITE (R267): the Write of TaiUtcOffsetS. -/
def execTaiUtcOffsetWrite (r : CapReq) (offset : Int) (s : State) : Host.Outcome State Fault Refusal :=
  .next (s.capWrite r { version := 1, index := 0x1803, sub := 4, offset := 0, whole := false, total := 2, lengthAgrees := true } 2 offset
    false)

/-! ### Bulk transfers and held results (R358) -/

/-- CAP_BULK_DATA (R358): a segment out of order or inconsistent abandons the transfer; the last one writes the object. -/
def State.capBulk (s : State) (r : CapReq) (m : CapMsg) (length : Nat) (value : Int) (more : Bool) : State :=
  s.capMessage r m 4 fun ses s =>
    match ses.bulk with
    | none => (some (capErr 17 0), s)
    | some b =>
      let got := b.got + length
      let close (s : State) : State := s.modSession r.sess fun x => { x with bulk := none }
      if b.index ≠ m.index ∨ b.sub ≠ m.sub ∨ b.total ≠ m.total ∨ m.offset ≠ b.got ∨ b.total < got ∨ (more == decide (got = b.total)) = true then
        (some (capErr 17 0), close s)
      else
        let v : Int := b.value + (256 ^ b.got * enc length value : Nat)
        if more then
          let now := s.now
          let c : Bulk := { b with got := got, value := v, lastAt := now }
          (some capOk, s.modSession r.sess fun x => { x with bulk := some c })
        else (close s).writeNow ses r 4 m.index m.sub b.total v.toNat

/-- CAP_BULK_DATA (R358). -/
def execCapBulkData (r : CapReq) (m : CapMsg) (length : Nat) (value : Int) (more : Bool) (s : State) :
    Host.Outcome State Fault Refusal := .next (s.capBulk r m length value more)

/-- CAP_RESULT_READ (R358): the held result from an offset. -/
def State.capResult (s : State) (r : CapReq) (offset : Nat) : State :=
  s.capRun r 5 0 0 (fun _ => true) fun ses s =>
    match ses.held with
    | some (v, n) => (some (capFrom n v offset), s)
    | none => (some (capErr 19 s.pw.stage), s)

/-- CAP_RESULT_READ (R358). -/
def execCapResultRead (r : CapReq) (offset : Nat) (s : State) : Host.Outcome State Fault Refusal := .next (s.capResult r offset)

/-- A transfer abandoned (R357, R358): its opening Tag gets an error. -/
def State.abandonBulk (s : State) (n : Nat) (b : Bulk) (code : Nat) : State :=
  (s.modSession n fun x => { x with bulk := none }).respond n ((capErr code 0).toResp b.tag 2 b.index b.sub) true

/-- CAP_ABORT (R357): the Tag names the transfer. -/
def State.capAbort (s : State) (r : CapReq) : State :=
  s.capRun r 6 0 0 (fun _ => true) fun ses s =>
    match ses.bulk.filter fun b => b.tag == r.tag with
    | some b => (some capOk, s.abandonBulk r.sess b 22)
    | none => (some (capErr 17 0), s)

/-- CAP_ABORT (R357). -/
def execCapAbort (r : CapReq) (s : State) : Host.Outcome State Fault Refusal := .next (s.capAbort r)

/-- BULK_IDLE_TIMEOUT (R358): no segment for BulkIdleS. -/
def State.bulkTimeout (s : State) (n : Nat) : State :=
  match (tget s.sessions n).bind (·.bulk) with
  | some b => if s.awake && s.elapsedS b.lastAt (s.nat Obj.bulkIdleS) then s.abandonBulk n b 18 else s
  | none => s

/-- BULK_IDLE_TIMEOUT (R358). -/
def execBulkIdleTimeout (session : Nat) (s : State) : Host.Outcome State Fault Refusal := .next (s.bulkTimeout session)

/-! ### Sessions (R363, R364) -/

/-- The DTLS sessions that run. -/
def State.dtlsCount (s : State) : Nat := (s.sessions.filter fun e => Nat.ble 1 e.1 && Nat.ble e.1 16).length

/-- CAP_SESSION_START (R363, R366): a handshake whose client certificate chains to an anchor of role 2, or of role 4 of a
tenant. -/
def State.sessionStart (s : State) (n role tenant : Nat) : State :=
  let chains := (role == 0 && s.allAnchors.any fun a => a.role == 2) ||
    (role == 1 && Nat.ble tenant 7 && s.allAnchors.any fun a => a.role == 4 && a.tenant == tenant)
  if s.catalogueReady && Nat.ble 1 n && Nat.ble n 16 && (tget s.sessions n).isNone &&
      Nat.blt s.dtlsCount (s.nat Obj.capMaxSessions) && chains && s.mayHandshake then
    (s.openSession n role (if role = 1 then tenant else 0xFF)).openTraffic n
  else s

/-- CAP_SESSION_START (R363). -/
def execCapSessionStart (session role tenant : Nat) (s : State) : Host.Outcome State Fault Refusal :=
  .next (s.sessionStart session role tenant)

/-- CAP_SESSION_END (R363, R364): DTLS closes a session, or CapIdleS has passed; the RS-485 session ends only after
CapIdleS. -/
def State.sessionEnd (s : State) (n : Nat) : State :=
  match tget s.sessions n with
  | none => s
  | some ses =>
    if s.awake && (Nat.ble 1 n && Nat.ble n 16 || (n == 17 && s.elapsedS ses.lastAt (s.nat Obj.capIdleS))) then s.endSession n else s

/-- CAP_SESSION_END (R363). -/
def execCapSessionEnd (session : Nat) (s : State) : Host.Outcome State Fault Refusal := .next (s.sessionEnd session)

/-- Whether the bytes after the start byte are Length, a message of as many bytes and the CRC-16 over both (R364). -/
def rsFrameOk (body : List Nat) : Bool :=
  let n := body.getD 0 0 + 256 * body.getD 1 0
  Nat.ble 24 n && Nat.ble n 256 && body.length == n + 4 &&
    body.getD (n + 2) 0 + 256 * body.getD (n + 3) 0 == crc16 (body.take (n + 2))

/-- RS485_FRAME (R364): a bad frame is counted; a valid one begins the port's session, whose request follows as its own
command. Bytes that do not begin with the start byte are no frame. A session that runs keeps its principal, and its port, whatever
ServicePortMode becomes (R374). -/
def State.rsFrame (s : State) (frame : List Nat) (gapOk : Bool) : State :=
  let mode := s.nat Obj.servicePortMode
  let runs := (tget s.sessions 17).isSome
  if frame.head? ≠ some 0xA5 ∨ !(s.recovering || (s.capRuns && (runs || mode != 0))) then s
  else if !(rsFrameOk frame.tail && gapOk) then s.bump Obj.rsFrameErrors
  else
    let now := s.now
    if runs then s.modSession 17 fun x => { x with lastAt := now }
    else s.openSession 17 (if mode = 2 then 0 else 2) 0xFF

/-- RS485_FRAME (R364). -/
def execRs485Frame (frame : List Nat) (gapOk : Bool) (s : State) : Host.Outcome State Fault Refusal := .next (s.rsFrame frame gapOk)

/-! ### Catalogue bundles (R367) -/

/-- The stores after a bundle's paired changes so far. -/
def State.bundleRoom (s : State) (changes : List (Nat × Int)) : Option Nat :=
  (List.range 16).find? fun n =>
    ((s.stores[n]?).map fun p => p.overflows (changes.filter fun e => storeOf e.1 == n)).getD false

/-- The entries of a bundle checked in order, each as a Write by the Administrator upon those before it (R367): the values, or the
error with the entry's number. -/
def State.bundleCheck (s : State) : Nat → List BundleEntry → Except CapOut (List (Nat × ObjRow × Int))
  | _, [] => .ok []
  | i, e :: t =>
    let admin : Session :=
      { role := 0, tenant := 0xFF, lastAt := 0, kept := [], resp := none, bulk := none, held := none, closing := false }
    match s.writeCheck admin e.index e.sub e.length (enc e.length e.value) with
    | .error x => .error { x with detail := i }
    | .ok (r, v) =>
      let k := 256 * e.index + e.sub
      match (s.set k v).bundleCheck (i + 1) t with
      | .error x => .error x
      | .ok l => .ok ((k, r, v) :: l)

/-- A checked bundle applied as one commit with its counter (R367). -/
def State.bundleApply (s : State) (counter : Nat) (l : List (Nat × ObjRow × Int)) : State :=
  let paired := l.filter fun e => e.2.1.pers == .paired
  let olds := paired.map fun e => s.get e.1
  let rws := (paired.filter fun e => e.2.1.acc == .rws).length
  let s := ({ s with hall.writes := s.hall.writes + rws } : State).commitPaired
    ((Obj.catalogueBundleCounter, (counter : Int)) :: paired.map fun e => (e.1, e.2.2))
  let s := (List.zip paired olds).foldl (fun (s : State) (e : (Nat × ObjRow × Int) × Int) => s.landed e.1.1 e.2 e.1.2.2) s
  (l.filter fun e => e.2.1.pers == .seal).foldl (fun (s : State) (e : Nat × ObjRow × Int) => s.sealedWrite e.1 e.2.2) s

/-- The stores that a bundle rewrites, in ascending number (R367). -/
def bundleStores (l : List (Nat × ObjRow × Int)) : List Nat :=
  (List.range 16).filter fun p =>
    p == storeOf Obj.catalogueBundleCounter || l.any fun e => e.2.1.pers == .paired && storeOf e.1 == p

/-- A bundle one of whose bank writes failed twice (R367, R371): the stores written before are written back, nothing is applied, and the
operational log names the store. -/
def State.bundleFails (s : State) (n : Nat) (l : List (Nat × ObjRow × Int)) : State :=
  let before := (bundleStores l).takeWhile (· != n)
  let stores := before.foldl (fun st p => lmod st p fun (b : PStore) => (b.commit []).commit []) s.stores
  ({ s with stores := stores }.bumpBy Obj.storeWrites (2 * before.length)).logOpFree 8 n

/-- CATALOGUE_BUNDLE_SUBMIT (R367). `failed` is the store whose bank write fails its read-back twice. -/
def State.bundleSubmit (s : State) (r : CapReq) (e : Epmeir) (entries : List BundleEntry) (failed : Option Nat) : State :=
  s.capExec r Obj.catalogueBundleSubmit fun _ s =>
    match s.containerCheck e 5 true with
    | some n => (capErr 14 n, s)
    | none =>
      if !s.anchorHas 2 0 e.signer then (capErr 14 4, s)
      else if e.counter ≤ s.nat Obj.catalogueBundleCounter then (capErr 14 5, s)
      else
        match s.bundleCheck 0 entries with
        | .error x => (x, s)
        | .ok l =>
          match s.bundleRoom (l.map fun x => (x.1, x.2.2)) with
          | some n => (capErr 12 n, s)
          | none =>
            let act (s : State) : CapOut × State :=
              match failed.filter (bundleStores l).contains with
              | some n => (capErr 21 n, s.bundleFails n l)
              | none => (capOk, s.bundleApply e.counter l)
            if l.any fun x => x.2.1.pers == .seal then s.mediaGate act else act s

/-- CATALOGUE_BUNDLE_SUBMIT (R367). -/
def execCatalogueBundleSubmit (r : CapReq) (e : Epmeir) (entries : List BundleEntry) (failed : Option Nat) (s : State) :
    Host.Outcome State Fault Refusal := .next (s.bundleSubmit r e entries failed)

end Sys2Proof.Machine
end

