-- ==== Sys2Proof/Machine/Power.lean ====
section
/-! DEFINITION. Start-up, power states, the power-fail sequence and recovery (R412 to R428, R452, R453). -/

namespace Sys2Proof.Machine

/-! ### The power-fail sequence (R419 to R422) -/

/-- Whether the start has passed step 5, so that the power-fail sequence runs (R414). -/
def State.pastFive (s : State) : Bool :=
  s.awake && (s.pw.stage == 0x0D || (Nat.ble 0x86 s.pw.stage && Nat.ble s.pw.stage 0x8C))

/-- SAFE_N asserted (R404), with its interrupt where it was not (R285). -/
def State.assertSafe (s : State) : State :=
  if s.pins.safe then s else { s with pins.safe := true }.raise 21

/-- The record of a last gasp (R420). -/
def State.gaspRecord (s : State) : Nat :=
  pack [(2, 0x0100), (1, 1), (1, s.ownDomain), (2, s.ownNumber), (2, 0), (8, Config.deviceSerial), (10, timeOf s.pw.pfiAt), (6, 0),
    (8, s.nand.ingestSeq)]

/-- The last gasp as a batch of a tenant's host queue (R291, R420): BatchSequence 0 and the one record. -/
def State.gaspBatch (s : State) (t : Nat) : Nat := packBatch 0 t 0 76 0 [{ ty := 6, len := 40, data := s.gaspRecord }]

/-- The last gasp of a tenant (R420): into the first kind-1 host queue of the tenant with descriptors for its 76
bytes, or over its TLS uplink. -/
def State.gaspOf (s : State) (t : Nat) : State :=
  if s.toHost t then
    let takes (q : Nat) : Bool := match s.hqOf q with
      | some h => h.isKind 1 && s.hostUp && bit h.select t && (descsFor h.posted 76).isSome
      | none => false
    match (List.range 16).find? takes with
    | none => s
    | some q => s.hqComplete q (((s.hqOf q).bind fun h => descsFor h.posted 76).getD 0) 76 t 0 0 0 (s.gaspBatch t)
  else { s with pw.gasps := (t, s.gaspRecord) :: s.pw.gasps }

/-- The last gasp (R420): to the tenants of LastGaspEnable, and in field role to the regional concentrator. -/
def State.lastGasp (s : State) : State :=
  let g := s.gaspRecord
  let s := (s.tenants.filter fun t => s.bitOf Obj.lastGaspEnable t).foldl (fun (s : State) (t : Nat) => s.gaspOf t) s
  if !s.pw.regional && s.cascadeUp upstream then
    let time := s.pw.pfiAt
    s.sendCascade { typ := 4, flags := 0, source := 0, target := s.above, seq := 0, tag := 0, time, cell := 0, quality := 0, length := 44,
                    payload := pack [(2, 6), (2, 40), (40, g)] }
  else s

/-- The frames that have not passed step 4 are discarded (R29, R417). -/
def State.dropEarly (s : State) : State :=
  (s.frames.filter fun f => Nat.blt f.stage 4).foldl State.discardWhole s

/-- Steps 1 to 3 of the power-fail sequence (R419), for a `cause`. -/
def State.powerFail (s : State) (cause : Nat) : State :=
  let now := s.now
  let ready := s.serving
  let s := { s with pw.cause := cause, pw.pfiAt := now, pw.standby := false, cask.suspended := true }.raise 22
  let s := if ready then s.raise 23 else s
  let s := s.dropEarly
  let s := if cause = 1 then (s.set Obj.governorSteps 0).clockChange else s
  let s := ((s.bistAbort).set Obj.powerState 3).set Obj.gateState 3
  s.assertSafe

/-- PFI_N_ASSERT (R389, R419): before step 6 of a start it holds the sequence at step 5 (R414); while the sequence runs it makes the
restart wait. -/
def State.pfiAssert (s : State) : State :=
  let s := { s with pins.pfi := true, pins.pfiStamp := if s.awake then s.filteredStamp 5 5 else s.pins.pfiStamp, pw.releasedAt := none }
  let s := if s.pw.rails then s.tamper 11 else s
  if !s.pastFive then s
  else if s.pw.cause ≠ 0 then { s with pw.cause := if s.pw.cause = 2 then 1 else s.pw.cause }
  else (s.powerFail 1).lastGasp

/-- PFI_N_ASSERT (R419). -/
def execPfiNAssert (s : State) : Host.Outcome State Fault Refusal := .next s.pfiAssert

/-- Steps 5 and 6 (R419): the buffer programmed, and with a KEY_UPDATE in it the store and the battery-domain copy of KeyUpdateCounter
(R160); the operating time copied, the ActiveMark cleared, PWR_SAFE asserted. -/
def State.makeSafe (s : State) : State :=
  let s := s.allProgrammed
  { s with bat.opTime := s.nat Obj.operatingTimeMs, bat.activeMark := false, pins.pwrSafe := true }

/-- PWR_SAFE_ASSERT (R419). -/
def State.pwrSafe (s : State) : State :=
  if s.pastFive && s.pw.cause != 0 && !s.pins.pwrSafe then s.makeSafe else s

/-- PWR_SAFE_ASSERT (R419). -/
def execPwrSafeAssert (s : State) : Host.Outcome State Fault Refusal := .next s.pwrSafe

/-! ### Faults (R425, R426) -/

/-- An uncorrectable internal error (R425): steps 1 to 3, 5 and 6 of the power-fail sequence; the restart follows as
INTERNAL_RESTART. `lost`: the poison held a commit not yet programmed. FaultRestartLimit of them within an hour stop the next
start (R426). -/
def State.faultRestart (s : State) (lost : Bool) : State :=
  if !s.pastFive || s.pins.pwrSafe then s
  else
    let t := s.nat Obj.operatingTimeMs
    let times := t :: s.pw.faultTimes.filter fun x => Nat.blt t (x + 3600000)
    let limit := s.nat Obj.faultRestartLimit
    let s := { s with pw.faultTimes := times, pw.lost := s.pw.lost || lost,
                      pw.stoppedByLimit := s.pw.stoppedByLimit || Nat.ble limit times.length }
    let s := if s.pw.cause = 0 then s.powerFail 4 else { s with pw.cause := 4 }
    let s := if lost then { s with nand := s.nandProg, cask.dirty := 0 } else s
    s.makeSafe

/-- DDR_UNCORRECTABLE (R424, R425): the frames that read the poisoned data are aborted. -/
def State.ddrUncorrectable (s : State) (frames : List Nat) : State :=
  if !s.pastFive then s
  else (frames.foldl (fun (s : State) (id : Nat) => s.dropFrame id) s.dropEarly).faultRestart false

/-- DDR_UNCORRECTABLE (R424). -/
def execDdrUncorrectable (frames : List Nat) (s : State) : Host.Outcome State Fault Refusal := .next (s.ddrUncorrectable frames)

/-- DDR_PATROL_SCRUB (R460): it reads and corrects every line, and nothing of it shows. -/
def execDdrPatrolScrub (s : State) : Host.Outcome State Fault Refusal := .next s

/-! ### PORST_N, the rails and the battery (R416, R452, R453) -/

/-- The part stops at once (R416, R424, R452): programs are cut off, and commits not yet programmed are lost unless PWR_SAFE stands. -/
def State.cutOff (s : State) : State :=
  let s := { s with stores := s.stores.map PStore.cut, pw.stopped := if s.pins.pwrSafe then s.pw.cause else 5, pw.stage := 0, pw.held := none }
  if s.pins.pwrSafe || s.cask.dirty == 0 then s else { s with nand := s.nandProg, cask.dirty := 0 }

/-- PORST_N_ASSERT (R452): SAFE_N is asserted from here (R404). -/
def State.porstAssert (s : State) : State :=
  if s.pins.porst then s
  else
    let s := if s.pw.rails then s.cutOff else s
    { s with pins.porst := true, pins.safe := true }

/-- PORST_N_ASSERT (R452). -/
def execPorstNAssert (s : State) : Host.Outcome State Fault Refusal := .next s.porstAssert

/-- The battery domain without a supply loses its state (R453); the source of R386 that says so acts at the next start. -/
def State.batteryLost (s : State) : State :=
  { s with bat := { Battery.reset with lost := true, vbat := false }, pins.wakeReq := false }

/-- RAILS_LOST (R416): sleep, on VBAT where it is there. -/
def State.railsLost (s : State) : State :=
  if !s.pw.rails then s
  else
    let s := if s.pins.porst then s else s.cutOff
    let s := { s with pw.rails := false, pins.safe := true }
    if s.bat.vbat then { s with bat.onVbat := true } else s.batteryLost

/-- RAILS_LOST (R416). -/
def execRailsLost (s : State) : Host.Outcome State Fault Refusal := .next s.railsLost

/-- BATTERY_CHANGE_OVER (R453): VBAT supplies the battery domain once VDDIO_3V3 is below 2.95 V, VDDIO_3V3 while it is above 3.00 V. -/
def State.changeOver (s : State) (mv : Nat) (vbat : Bool) : State :=
  let s := { s with bat.vbat := vbat }
  if 3000 < mv then { s with bat.onVbat := false }
  else if mv < 2950 then (if vbat then { s with bat.onVbat := true } else s.batteryLost)
  else if s.bat.onVbat && !vbat then s.batteryLost
  else s

/-- BATTERY_CHANGE_OVER (R453). -/
def execBatteryChangeOver (vio3v3Mv : Nat) (vbatPresent : Bool) (s : State) : Host.Outcome State Fault Refusal :=
  .next (s.changeOver vio3v3Mv vbatPresent)

/-- WAKE_ALARM (R418): once the RTC has reached WakeAlarm. -/
def State.wakeAlarmDue (s : State) : State :=
  if s.claspRuns && s.bat.wakeAlarm != 0 && Nat.ble s.bat.wakeAlarm (s.bat.rtc / 32768) then { s with pins.wakeReq := true } else s

/-- WAKE_ALARM (R418). -/
def execWakeAlarm (s : State) : Host.Outcome State Fault Refusal := .next s.wakeAlarmDue

/-- VBAT_LOW (R418). -/
def execVbatLow (s : State) : Host.Outcome State Fault Refusal :=
  .next (if s.claspRuns then { s with pins.wakeReq := true } else s)

/-! ### Start-up, steps 1 to 5 (R412) -/

/-- Step 1 (R412): what does not last is at its reset value; what NAND, the stores, the fuses and the battery domain hold stays, and
with it the time of transmissions under R96 and the broadcast counters of R165. -/
def State.stepOne (s : State) : State :=
  let lane (hot : Bool) : Lane := { Lane.reset with hold := if hot then some none else none }
  { s with cat := catPut (catPut [] Obj.legalReserveFree (s.get Obj.legalReserveFree)) Obj.mediaState 4,
           time := .reset, hif := { HostIf.reset with batchSeq := s.hif.batchSeq },
           pins := { s.pins with porst := false, safe := true, pwrSafe := false },
           pw := { s.pw with rails := true, stage := 1, held := none, cause := 0, releasedAt := none, standby := false, gasps := [], replaying := false },
           ports := List.replicate 4 .reset, sessions := [], mem := .reset,
           stores := s.stores.map fun (p : PStore) => ({ p with prog := [], gathered := [], tries := 0 } : PStore),
           gate := { s.gate with kept := [], confirmed := [], sheds := [], engines := List.replicate 20 0 },
           pat := { s.pat with peak := 0, hot := false, trip := false, evalAt := 0, coolSince := none, waiting := false, measuredHour := 0,
                               target := none, slices := 0, failing := none, rotatedAt := 0, failures := List.replicate 20 0 },
           loc := { s.loc with device := [], keys := .empty, working := [], responding := [], masks := [], zeroizing := false, drbg := 0, gateKey := 0,
                               reseeds := 0, dedicated := [], traffic := [] },
           freeze := none, frames := s.frames.filter fun f => f.stage == 9,
           win := { started := false, start := 0, ms := 0, cap := 0, taken1 := 0, taken2 := 0, mhz := 0, spare := 0, spent := 0,
                    tenants := [], breached := [] },
           storms := [], unknown := [], cascades := [],
           car := { ports := List.replicate 4 { trainAt := 0, patternAt := 0, clock := true }, demods := [], groups := [],
                    nextDemod := s.car.nextDemod, nextGroup := s.car.nextGroup },
           dl := { s.dl with mods := List.replicate 4 { sending := none, listen := none }, responses := [], waiting := [], ackDue := [] },
           lanes := (List.range 3).map fun l => lane (s.pins.therm.getD l false), votes := [], parked := [], upHold := none }

/-- A start that stops at a step (R413). -/
def State.stopAt (s : State) (stage : Nat) : State := { s with pw.stage := stage }

/-- Whether the fuses read right (R1, R2). -/
def Board_fuses (b : Board) : Bool := b.fuseOk && Nat.ble 1 b.fuseVariant && Nat.ble b.fuseVariant 3

/-- Step 2 (R1, R2, R5, R382, R384): the variant's limits, those of AK1048-F where the fuses fail their check; the seal closed, its
counter and the epoch as the fuses hold them. -/
def State.stepTwo (s : State) (b : Board) : State :=
  let v := if Board_fuses b then b.fuseVariant else 0
  let large := Nat.ble 2 v
  let put (s : State) (e : Nat × Nat) : State := s.set e.1 (e.2 : Int)
  let objs : List (Nat × Nat) :=
    [(Obj.variantCode, v), (Obj.rolesEnabled, if large then 3 else 1), (Obj.registryLimit, if large then 1048576 else 65536),
     (Obj.junctionMaxDeciC, if v = 3 then 1250 else 1100), (Obj.engineCeilingMHz, 1000), (Obj.engineHotCeilingMHz, if v = 3 then 850 else 0),
     (Obj.sealState, if Nat.ble 64 s.hall.fuses then 2 else 0), (Obj.sealCounter, s.hall.fuses), (Obj.firmwareEpoch, s.hall.epoch)]
  { objs.foldl put s with pw.stage := 2 }

/-- Whether an image passes (R379, R381): 0 image A, 1 image B. -/
def State.imagePasses (s : State) (i : Nat) : Bool :=
  if i = 0 then s.fw.okA && Nat.ble s.hall.epoch (s.fw.counterA / 2 ^ 56) else s.fw.okB && Nat.ble s.hall.epoch (s.fw.counterB / 2 ^ 56)

/-- The image that boots (R379): of those that pass the one with the higher Counter, A on a tie. -/
def State.bootImage (s : State) : Option Nat :=
  match s.imagePasses 0, s.imagePasses 1 with
  | true, true => some (if s.fw.counterA < s.fw.counterB then 1 else 0)
  | true, false => some 0
  | false, true => some 1
  | false, false => none

/-- Step 4 (R166, R407, R413): the BIST of both pairs, the entropy source. A pair that fails stops the start with GateState 2. -/
def State.stepFour (s : State) (b : Board) : State :=
  let s := { s with gate.pairOk := [b.bist0Ok, b.bist1Ok], loc.entropyFailed := !b.entropyOk, pw.stage := 4 }
  if b.bist0Ok && b.bist1Ok then s
  else ((s.set Obj.gateState 2).set Obj.gateCloseCause 14).bump Obj.dangerousDetected

/-- The bank a store takes at a start (R370). -/
def PStore.choose (p : PStore) : PStore :=
  let a := p.a.state == 2
  let b := p.b.state == 2
  { p with force := if a && b then (if p.a.seq < p.b.seq then 1 else 0) else if a then 0 else if b then 1 else 2 }

/-- Whether a store took its defaults because its banks fail, rather than because they are blank (R370). -/
def PStore.failed (p : PStore) : Bool := p.force == 2 && !(Nat.ble p.a.state 1 && Nat.ble p.b.state 1)

/-- What the Clasp of the battery domain keeps of the catalogue, written at a start (R389, R391, R418). -/
def State.copyClasp (s : State) : State :=
  let resp := (List.range 9).map fun i => s.nat (0x341101 + i)
  let filt := (List.range 7).map fun i => s.nat (0x341401 + i)
  { s with bat.tamperEnable := s.nat Obj.tamperEnable, bat.tamperResponse := resp, bat.filterSamples := filt,
           bat.wakeAlarm := s.nat Obj.wakeAlarm % 2 ^ 48 }

/-- The objects that only a format applies (R317). -/
def formatKeys : List Nat := Obj.overprovisionPermille :: (List.range 7).map Obj.partitionSizeMiB

/-- Step 5 (R355, R361, R370, R372): the stores loaded; what takes effect at a start comes into force; the PCIe link. -/
def State.stepFive (s : State) (b : Board) : State :=
  let s := { s with stores := s.stores.map PStore.choose, pw.stage := 5 }
  let load (c : Tab Int) (p : PStore) : Tab Int := p.kept.foldl (fun (c : Tab Int) (e : Nat × Int) => catPut c e.1 e.2) c
  let s := { s with cat := s.stores.foldl load s.cat }
  let s := s.bumpBy Obj.storeDefaultsTaken (s.stores.filter (·.failed)).length
  let keep := formatKeys.map fun k => (k, catGet s.inForce k)
  let s := { s with inForce := keep.foldl (fun (c : Tab Int) (e : Nat × Int) => catPut c e.1 e.2) s.cat }
  s.copyClasp.pcieUp b.pcieGen b.pcieWidth

/-! ### Steps 6 to 8 -/

/-- Whether role 2 is chosen and the variant has it (R3). -/
def State.wantsRegional (s : State) : Bool := s.nat Obj.roleSelect == 2 && s.bitOf Obj.rolesEnabled 1

/-- Step 6 (R31, R32, R35, R346, R415): DDR trained, in full where the cache is absent or fails, which rewrites it; the role and the
receivers that run. -/
def State.stepSix (s : State) (b : Board) : State :=
  let s := { s with pw.board := some b, pw.stage := 6 }
  let s := if b.ddrCacheOk && s.get Obj.ddrTrainingCache != 0 then s
    else
      let (x, s) := s.draw
      s.setPaired Obj.ddrTrainingCache (x % 256 ^ 2048 : Nat)
  let regional := s.wantsRegional && Nat.ble 8 b.ddrGiB
  let cells := s.nat Obj.cellEnable
  let s := { s with pw.regional := regional, pw.carousel := !regional || bits cells 3 0 != 0, pw.tightrope := !regional || bits cells 6 4 != 0,
                    mem.queues := (List.range 96).map fun q => (q, Seesaw.fresh q (s.nat (Obj.seesawDepth q))) }
  s.set Obj.configurationSize (b2n regional : Nat)

/-- Step 7 (R297, R306, R370, R471): NAND mounted, or formatted on a new part; `none` where nothing can be mounted. -/
def State.stepSeven (s : State) (b : Board) : Option State :=
  let s := { s with pw.stage := 7 }
  let blank := (s.stores[11]?.map fun p => Nat.ble p.a.state 1 && Nat.ble p.b.state 1).getD true
  let fails := (s.stores[11]?.map PStore.failed).getD true
  if !b.nandOk then none
  else if blank then (if b.nandErased then some (s.mountNew b) else none)
  else if fails || !b.mirrorsOk then none
  else some (s.mountOld b)

/-- The sealed objects that partition 5 holds (R355). -/
def State.loadSealed (s : State) : State :=
  { s with cat := s.nand.sealedVals.foldl (fun (c : Tab Int) (e : Nat × Int) => catPut c e.1 e.2) s.cat }

/-- Whether a record is older than another in the order of R470: by AdmittedAt, then by tag. -/
def olderRecord (a b : Record) : Bool := Nat.blt a.admittedAt b.admittedAt || (a.admittedAt == b.admittedAt && Nat.blt a.tag b.tag)

/-- A record put where its order places it. -/
def insertRecord (r : Record) : List Record → List Record
  | [] => [r]
  | a :: t => if olderRecord r a then r :: a :: t else a :: insertRecord r t

/-- A record put where its slot places it. -/
def insertSlot (r : Record) : List Record → List Record
  | [] => [r]
  | a :: t => if r.slot < a.slot then r :: a :: t else a :: insertSlot r t

/-- One entry placed in the table that is built afresh (R42, R470), where there is room. -/
def State.placeEntry (s : State) (hash : List HashEntry) (typ sig slot : Nat) : Option (List HashEntry × Nat) :=
  (s.hashRoom hash sig).map fun b => (hashPlace hash { bucket := b, typ, sig, slot }, b)

/-- A record's entries placed afresh (R470): one that finds no room is named in the operational log. -/
def State.rehash (s : State) (r : Record) : State :=
  if !r.live then s
  else
    let missing (s : State) : State := s.logOp 0x300A r.tenant (pack [(8, r.tag)])
    let s := match s.placeEntry s.nand.hash r.ntype (s.signature r.ntype r.naddr) r.slot with
      | some (h, b) => { s with nand.hash := h }.modRecord r.tag fun x => { x with bucket := b }
      | none => missing s
    if !s.pw.regional then s
    else
      match s.placeEntry s.nand.hash 0xF (s.signature 0 r.tag) r.slot with
      | some (h, _) => { s with nand.hash := h }
      | none => missing s

/-- The registry at the first start in a new role (R470). -/
def State.relocateRegistry (s : State) : State :=
  let used := s.usedRecords
  let placed : List Record :=
    if s.pw.regional then
      let l := used.foldl (fun (l : List Record) (r : Record) => insertRecord r l) []
      (List.range l.length).zipWith (fun (i : Nat) (r : Record) => ({ r with slot := i } : Record)) l
    else used.map fun (r : Record) => ({ r with slot := tagIndex r.tag } : Record)
  let s := placed.foldl (fun (s : State) (r : Record) => s.modRecord r.tag fun x => { x with slot := r.slot }) { s with nand.hash := [] }
  (placed.foldl (fun (l : List Record) (r : Record) => insertSlot r l) []).foldl State.rehash s

/-- The greatest operating time that a start finds (R323), in ms: its copies and the newest record of TimeForm 0 of each log and of
the ring. -/
def State.lastOpTime (s : State) : Nat :=
  let newest (l : List EvRec) : Nat := ((l.find? fun r => r.form == 0).map fun r => r.time / 65536).getD 0
  let logs := (s.nand.logs.map fun l => newest l.recs) ++ [newest s.bat.ring.reverse, newest s.nand.hold]
  logs.foldl Nat.max (Nat.max s.bat.opTime (s.nat 0x7C00F0))

/-- The highest sequence number that a start finds (R323). -/
def State.lastSequence (s : State) : Nat :=
  let top (l : List EvRec) : Nat := (l.filter fun r => r.form == 1).foldl (fun n r => Nat.max n r.time) 0
  ((s.nand.logs.map fun l => top l.recs) ++ [top s.bat.ring, top s.nand.hold]).foldl Nat.max 0

/-- The series of the recorder at a start (R323): operating time, power cycles, sequence numbers. -/
def State.startSeries (s : State) : State :=
  let op := s.lastOpTime + 1
  let cycles := satAdd 65535 (s.nat 0x7C00F1) 1
  let next := s.lastSequence + 1
  let s := ((s.set Obj.operatingTimeMs op).set Obj.powerCycles cycles).set Obj.nextSequence next
  s.setPaired 0x7C00F1 cycles

/-- KeyUpdateCounter at a start (R160): the higher of its two copies, in both. -/
def State.startCounters (s : State) : State :=
  let top (t : Nat) : Nat := Nat.max (s.nat (Obj.keyUpdateCounter t)) (s.bat.keyCounters.getD t 0)
  let up := (List.range 8).filterMap fun t =>
    if s.nat (Obj.keyUpdateCounter t) < top t then some (Obj.keyUpdateCounter t, (top t : Int)) else none
  let s := { s with bat.keyCounters := (List.range 8).map top }
  if up.isEmpty then s else s.commitPaired up

/-- What store 5 holds where its banks fail (R370): its defaults, no persisted key and no trust anchor. -/
def State.locketDefaults (s : State) : State :=
  if (s.stores[5]?.map PStore.failed).getD false then
    { s with loc.stored := KeySet.empty, loc.storedSalt := 0, loc.anchors := [] }
  else s

/-- The keys at a start (R144, R145, R159, R160): a KEY_UPDATE that is durable and not yet stored is stored first; the stored keys are
unwrapped where the salt is the one they were wrapped under; the level-1 keys are derived. -/
def State.startKeys (s : State) : State :=
  let s := s.locketDefaults.startCounters.storeKeys
  let held := if s.bat.salt ≠ 0 ∧ s.loc.storedSalt = s.bat.salt then s.loc.stored else KeySet.empty
  { s with loc.keys := held }.deriveDevice

/-- ShutdownClass (R425, R427), from what the last stop left. -/
def State.shutdownOf (s : State) : Nat :=
  if s.bat.lost then 3
  else if s.pw.lost then 1
  else if s.pw.stopped = 4 then 2
  else if s.bat.activeMark then 1
  else 0

/-- The class decided (R427): a class 1 start counts, and so does a restart under R425. -/
def State.decideClass (s : State) (cls : Nat) : State :=
  let s := if cls = 1 then s.setPaired Obj.uncleanShutdowns (satAdd 0xFFFFFFFF (s.nat Obj.uncleanShutdowns) 1 : Nat) else s
  let s := if s.pw.stopped = 4 then s.setPaired Obj.faultRestarts (satAdd 0xFFFFFFFF (s.nat Obj.faultRestarts) 1 : Nat) else s
  { s.set Obj.shutdownClass cls with pw.lost := false }

/-- Source 9 (R386, R453): VBAT was lost. -/
def State.batterySource (s : State) : State :=
  if s.bat.lost then { s with bat.lost := false }.tamper 9 else s

/-- The record of a start in field role for want of DDR (R35): RoleSelect 2 with less than 8 GiB, whatever else keeps the part in field
role. -/
def State.fieldForWant (s : State) (b : Board) : State :=
  if s.nat Obj.roleSelect == 2 && Nat.blt b.ddrGiB 8 then s.logOp 0x300A 0xFF (pack [(8, 0), (1, b.ddrGiB)]) else s

/-- What a start writes about the steps before the logs were ready: a failed fuse check (R2), a failed entropy source (R166), stores that
took their defaults and entries that do not stand (R370, R372), the field role for want of DDR (R35). -/
def State.startRecords (s : State) (b : Board) : State :=
  let s := if Board_fuses b then s else s.logSec 0x2008 0xFF 0
  let s := if b.entropyOk then s else (s.bump Obj.entropyFailures).logSec 0x2006 0xFF 0
  let failed := (List.range 16).filter fun n => (s.stores[n]?.map PStore.failed).getD false
  let s := failed.foldl (fun (s : State) (n : Nat) => s.logOp 0x300B 0xFF (pack [(1, 1), (1, n)])) s
  let bad := s.stores.flatMap fun p => (p.entries.filter fun e => !entryOk e).map (·.1)
  let s := bad.foldl (fun (s : State) (k : Nat) => s.logOp 0x300B 0xFF (pack [(1, 2), (1, k % 256), (2, k / 256)])) s
  s.fieldForWant b

/-- The check of R379 that an image fails: 0 none, 1 header, hash or signature, 5 epoch. -/
def State.imageCheck (s : State) (i : Nat) : Nat :=
  if s.imagePasses i then 0 else if (if i = 0 then s.fw.okA else s.fw.okB) then 5 else 1

/-- BOOT_IMAGE (R379, R427): the image in force, its Counter, each image's failing check; ShutdownClass in byte 24. -/
def State.bootRecord (s : State) (cls : Nat) : State :=
  s.logSec 0x200A 0xFF (pack [(1, s.fw.inForce), (1, s.imageCheck 0), (1, s.imageCheck 1), (5, 0), (8, s.fw.counter), (8, 0), (1, cls)])

/-- The legal-module slot that an image matches (R380): 255 for none. -/
def State.matchModule (s : State) : State :=
  let h := if s.fw.inForce = 0 then s.fw.hashA else s.fw.hashB
  { s with fw.matched := (s.nand.legalSlots.findIdx? fun x => x == some h).getD 255 }

/-- Step 8 (R412), up to what a role change asks of the registry: `none` where its records do not fit field role (R470). -/
def State.stepEight (s : State) (b : Board) (cls : Nat) (was : Bool) : Option State :=
  let s := { s.loadSealed with pw.stage := 8 }
  if was && !s.pw.regional && !s.fitsField then none
  else
    let s := s.startSeries.startTime.startKeys
    let s := s.matchModule.decideClass cls
    let s := if was != s.pw.regional then { s.relocateRegistry with pw.placed := s.pw.regional } else s
    let s := (s.startRecords b).recalibrated
    let s := { s.clockChange.requestVdd with pat.rotatedAt := s.now, pat.evalAt := s.now }
    some (s.wakeTamper.batterySource.bootRecord cls)

/-! ### Steps 10 to 12 -/

/-- Whether the last stop left the seal open (R385): the newest break of the legal log that was not aborted has no close. -/
def State.leftOpen (s : State) : Bool :=
  (((s.logOf 0).recs.find? fun r => (r.code == 0x1001 && byteAt r.payload 2 == 0) || r.code == 0x1002).map fun r => r.code == 0x1001).getD
    false

/-- Held legal records appended (R333), then what a restart owes the legal log about the seal (R384, R385). -/
def State.replayLegal (s : State) : State :=
  let s := if s.nand.hold.isEmpty then s else s.endFreeze
  let s := if s.leftOpen then s.logLegal 0x1002 0xFF (pack [(1, 5), (4, Nat.min s.hall.writes 0xFFFFFFFF)]) else s
  s.abortedSeals

/-- Step 10 of a frame that the stop left after its result commit (R22, R28): its uplink records. -/
def State.finishUplinks (s : State) : State :=
  let done := s.frames.filter fun f => Nat.ble f.journal s.nand.ingestSeq && !(s.nand.ingest.any fun e => e.seq == f.journal)
  done.foldl (fun (s : State) (f : Frame) =>
    f.ups.foldl (fun (s : State) (u : Nat × UpRec × Nat) => s.uplinkNow u.1 u.2.1 u.2.2) s) { s with frames := [] }

/-- A journal entry replayed (R28, R156): its frame takes steps 5 to 9 again, or is held where its endpoint has no usable key. -/
def State.replayEntry (s : State) (e : Ingest) : State :=
  let usable := !s.loc.zeroizing && ((s.record e.frame.tag).map fun r => s.unwrapResult r e.frame.suite == 0).getD false
  let s := match (s.record e.frame.tag).filter (·.bad) with
    | some r => s.badRecord r
    | none => s
  if e.held then s
  else if usable then
    (s.rejoin e.frame true).bump Obj.replayedFrames
  else
    let hold (x : Ingest) : Ingest := if x.seq = e.seq then { x with held := true } else x
    { s with nand.ingest := s.nand.ingest.map hold }

/-- Whether a start follows a fault (R92): a loss of supply, a reset or an internal error, and not a command. -/
def State.afterFault (s : State) (cls : Nat) : Bool := s.pw.stopped == 1 || s.pw.stopped == 4 || s.pw.stopped == 5 || cls != 0

/-- Every DownlinkCounter advanced by 256 after a fault (R92), with one security record. -/
def State.advanceDownlink (s : State) : State :=
  let up (e : Nat × Record) : Nat × Record := (e.1, { e.2 with downCounter := (e.2.downCounter + 256) % 2 ^ 64 })
  { s with nand.recs := s.nand.recs.map up }.logSec 0x2007 0xFF (pack [(2, 256)])

/-- Switching requests that the stop found in the gate are abandoned (R401, R419). -/
def State.dropGateQueue (s : State) : State :=
  let q := s.gate.queue
  q.foldl (fun (s : State) (x : SwitchReq) => s.endRequest x 0 3) { s with gate.queue := [] }

/-- The counts that follow what NAND holds. -/
def State.recount (s : State) : State :=
  let free (i : Item) : Item := { i with held := false }
  let s := { s with nand.items := s.nand.items.map free }
  ((s.set Obj.stagedItems s.nand.items.length).set Obj.nodesUsed s.nand.nodes.length).countDeferred.countSweep.countHeld

/-- What NAND does not give back at a start (R424): an ingest entry that cannot be read is skipped, counted and named; a registry copy
that cannot be read leaves its record failing its CRC (R40). -/
def State.unreadable (s : State) (b : Board) : State :=
  let lost := s.nand.ingest.filter fun e => b.lostIngest.contains e.seq
  let s := lost.foldl (fun (s : State) (e : Ingest) =>
    ({ s with nand.ingest := s.nand.ingest.filter fun x => x.seq != e.seq }.bump Obj.replayLost).logOp 0x300B 0xFF
      (pack [(1, 8), (3, 0), (8, e.seq)])) s
  let mark (e : Nat × Record) : Nat × Record := if b.lostRecords.contains e.1 then (e.1, { e.2 with bad := true }) else e
  { s with nand.recs := s.nand.recs.map mark }

/-- Step 10 (R412): replay. Frames and boundaries wait where no legal module matches (R380). -/
def State.stepTen (s : State) (cls : Nat) (b : Board) : State :=
  let s := ({ s with pw.stage := 0x0A }.unreadable b).replayLegal
  let s := s.finishUplinks.dropGateQueue.recount
  let s := if s.afterFault cls then s.advanceDownlink else s
  let s : State := if s.fw.matched == 255 then s
    else { (s.nand.ingest.foldl State.replayEntry s).countHeld with pw.replaying := true }.finishReplay
  s.redeliver fun _ => true

/-- The enabled IQ ports train (R59, R412 step 12). -/
def State.trainAll (s : State) : State :=
  if !s.pw.carousel then s
  else
    ((List.range 4).filter fun p => s.bitOf Obj.carouselEnable p).foldl (fun (s : State) (p : Nat) => s.trainPort p true) s

/-- Steps 11 and 12 (R405, R412): the gate opens, the receivers train, the part is Active. -/
def State.stepTwelve (s : State) (b : Board) : State :=
  let s := ({ s with pw.stage := 0x0B }.gateRecheck b.bist0Ok b.bist1Ok).trainAll
  ({ s with pw.stage := 0x0D, pw.stopped := 0 }.set Obj.powerState 0).set Obj.startTimeMs b.startMs

/-- The start from step 6 on (R412). -/
def State.startSix (s : State) (b : Board) : State :=
  let was := s.pw.placed
  let cls := s.shutdownOf
  if b.ddrGiB < 2 then { s with pw.board := some b }.stopAt 0x86
  else
    match (s.stepSix b).stepSeven b with
    | none => ((s.stepSix b).set Obj.mediaState 4).stopAt 0x87
    | some s =>
      let s := { s with bat.activeMark := true }
      match s.stepEight b cls was with
      | none => ((s.startSeries).fieldForWant b).stopAt 0x88
      | some s =>
        if s.pw.stoppedByLimit then s.stopAt 0x8A else (s.stepTen cls b).stepTwelve b

/-- A start (R412, R413, R414): `porst` where the board makes it with PORST_N, which alone ends the stop of R426 and
WAKE_REQ (R418). -/
def State.start (s : State) (b : Board) (porst : Bool) : State :=
  let s := s.stepOne
  let s := if porst then { s with pw.stoppedByLimit := false, pins.wakeReq := false } else s
  if !b.pllOk then s.stopAt 0x82
  else
    let s := s.stepTwo b
    match s.bootImage with
    | none => (s.stopAt 0xF0).pcieUp b.pcieGen b.pcieWidth
    | some i =>
      let s := { s with fw.inForce := i, pw.stage := 3 }.stepFour b
      if !(b.bist0Ok && b.bist1Ok) then s.stopAt 0x84
      else
        let s := s.stepFive b
        if s.pins.pfi then { s with pw.held := some b } else s.startSix b

/-- PORST_N_RELEASE (R412): the rails are up when the board releases it (R452). -/
def State.porstRelease (s : State) (b : Board) : State := if s.pins.porst then s.start b true else s

/-- PORST_N_RELEASE (R412). -/
def execPorstNRelease (b : Board) (s : State) : Host.Outcome State Fault Refusal := .next (s.porstRelease b)

/-- PFI_N_RELEASE (R414, R421): a start held at step 5 goes on; the sequence runs on to its end, and the restart waits 100 ms. -/
def State.pfiRelease (s : State) : State :=
  let now := s.now
  let s := { s with pins.pfi := false, pins.pfiStamp := if s.awake then s.filteredStamp 5 5 else s.pins.pfiStamp,
                    pw.releasedAt := some now }
  let s := if s.pw.rails then s.tamperRelease 11 else s
  match s.pw.held with
  | some b => if s.awake && s.pw.stage == 5 then { s with pw.held := none }.startSix b else s
  | none => s

/-- PFI_N_RELEASE (R421). -/
def execPfiNRelease (s : State) : Host.Outcome State Fault Refusal := .next s.pfiRelease

/-- Whether an internal restart may begin (R371, R418, R421, R425): PWR_SAFE asserted, PFI_N not, 100 ms past since its release, no
paired-store program running; not in a command for Sleep. -/
def State.mayRestart (s : State) : Bool :=
  s.awake && s.pins.pwrSafe && s.pw.cause != 0 && s.pw.cause != 2 && !s.pins.pfi && s.stores.all (fun p => p.prog.isEmpty) &&
  (match s.pw.releasedAt with
   | some t => Nat.ble (t + 100000000) s.now
   | none => true)

/-- INTERNAL_RESTART (R421, R418, R425): at step 1 of R412; in recovery, once a valid image is written (R379). -/
def State.internalRestart (s : State) (b : Board) : State :=
  let cause := s.pw.cause
  if s.mayRestart || (s.recovering && s.bootImage.isSome) then { s with pw.stopped := cause }.start b false else s

/-- INTERNAL_RESTART (R421). -/
def execInternalRestart (b : Board) (s : State) : Host.Outcome State Fault Refusal := .next (s.internalRestart b)

/-! ### PowerStateSet (R416 to R418) -/

/-- The banks that Standby switched off wake (R344, R416). -/
def State.wakeBanks (s : State) : State :=
  (List.range 32).foldl (fun (s : State) (n : Nat) => if s.bankAskedOff n then s else s.wakeBank n false) s

/-- The return from Standby (R417): steps 11 and 12. A gate closed until a restart stays closed (R404). -/
def State.resume (s : State) : State :=
  let s := (s.set Obj.powerState 0).wakeBanks
  let s := if gateHard (s.nat Obj.gateCloseCause) then s.set Obj.gateState 2 else s.gateRecheck true true
  s.trainAll

/-- POWER_STATE_SET_ACTIVE (R416, R417): from Standby alone. -/
def State.setActive (s : State) (r : CapReq) : State :=
  s.capExec r Obj.powerStateSet fun _ s => if s.nat Obj.powerState = 1 then (capOk, s.resume) else (capErr 6 0, s)

/-- POWER_STATE_SET_ACTIVE (R417). -/
def execPowerStateSetActive (r : CapReq) (s : State) : Host.Outcome State Fault Refusal := .next (s.setActive r)

/-- POWER_STATE_SET_STANDBY (R417): from Active alone; no new ingest commit from here. -/
def State.setStandby (s : State) (r : CapReq) : State :=
  s.capExec r Obj.powerStateSet fun _ s =>
    if s.serving && !s.pw.standby then (capOk, { s with pw.standby := true }.dropEarly) else (capErr 6 0, s)

/-- POWER_STATE_SET_STANDBY (R417). -/
def execPowerStateSetStandby (r : CapReq) (s : State) : Host.Outcome State Fault Refusal := .next (s.setStandby r)

/-- The receivers held in reset (R417). -/
def State.receiversReset (s : State) : State :=
  let lane (hot : Bool) : Lane := { Lane.reset with hold := if hot then some none else none }
  let held := s.dl.responses.flatMap (·.items)
  let s := s.holdItems held false
  let s := (List.range 4).foldl (fun (s : State) (p : Nat) => (s.abortPort p).setIq p 0 0) s
  let s := s.frames.foldl (fun (s : State) (f : Frame) => s.dropFrame f.id) s
  { s with lanes := (List.range 3).map fun l => lane (s.pins.therm.getD l false), loc.working := [], loc.responding := [],
           dl.mods := List.replicate 4 { sending := none, listen := none }, dl.responses := [], dl.waiting := [] }

/-- STANDBY_ENTERED (R417): once the last committed frame has completed. -/
def State.standbyEntered (s : State) : State :=
  if s.serving && s.pw.standby && s.frames.all (fun f => Nat.ble 11 f.stage) then
    let s := ({ s with pw.standby := false }.receiversReset).raise 23
    let s := ((s.set Obj.powerState 1).set Obj.gateState 3).assertSafe
    (List.range 32).foldl (fun (s : State) (n : Nat) => s.bankOff n) s
  else s

/-- STANDBY_ENTERED (R417). -/
def execStandbyEntered (s : State) : Host.Outcome State Fault Refusal := .next s.standbyEntered

/-- PowerStateSet 2 or 3 (R416, R418): from Active or Standby, the power-fail sequence without the last gasp. -/
def State.setDown (s : State) (r : CapReq) (cause : Nat) : State :=
  s.capExec r Obj.powerStateSet fun _ s => if s.up then (capOk, s.powerFail cause) else (capErr 6 0, s)

/-- POWER_STATE_SET_SLEEP (R418). -/
def execPowerStateSetSleep (r : CapReq) (s : State) : Host.Outcome State Fault Refusal := .next (s.setDown r 2)

/-- POWER_STATE_SET_RESTART (R418). -/
def execPowerStateSetRestart (r : CapReq) (s : State) : Host.Outcome State Fault Refusal := .next (s.setDown r 3)

end Sys2Proof.Machine
end

