-- ==== Sys2Proof/Machine/Boot.lean ====
section
/-! DEFINITION. Firmware images (R380, R381) and the end of a paired-store program (R371). -/

namespace Sys2Proof.Machine

/-- The checks of a FIRMWARE container (R381): the number of the first that fails. In recovery no image is in force. -/
def State.firmwareCheck (s : State) (e : Epmeir) (f : FirmwareArg) : Option Nat :=
  match s.containerCheck e 1 true with
  | some n => some n
  | none =>
    (firstFail [e.signer == Config.firmwareKey,
      Nat.ble s.hall.epoch (e.counter / 2 ^ 56) && (s.recovering || Nat.blt s.fw.counter e.counter),
      s.nand.legalSlots.contains (some f.legalHash) || (s.nat Obj.sealState == 1 && f.bringsModule)]).map (· + 3)

/-- An image written to the slot not in force (R381); `ok`: it read back right. -/
def Firmware.write (w : Firmware) (counter hash : Nat) (ok : Bool) : Firmware :=
  if w.inForce = 0 then { w with okB := ok, counterB := counter, hashB := hash }
  else { w with okA := ok, counterA := counter, hashA := hash }

/-- A new legal module (R381): into the slot that the image in force does not name. -/
def State.writeModule (s : State) (hash : Nat) : State :=
  let slot := if s.fw.matched = 0 then 1 else 0
  { s with nand.legalSlots := s.nand.legalSlots.set slot (some hash), hall.writes := s.hall.writes + 1 }.commit 4096 1

/-- FIRMWARE_SUBMIT (R379, R381): in recovery from any principal. The image takes effect at the next start. -/
def State.firmwareSubmit (s : State) (r : CapReq) (e : Epmeir) (f : FirmwareArg) : State :=
  s.capRun r 3 (Obj.firmwareSubmit / 256) (Obj.firmwareSubmit % 256) (fun ses => s.recovering || ses.mayExec Obj.firmwareSubmit)
    fun _ s =>
      match s.firmwareCheck e f with
      | some n => (some (capErr 14 n), s)
      | none =>
        let act (s : State) : CapOut × State :=
          let s := { s with fw := s.fw.write e.counter f.legalHash f.readBackOk }
          if !f.readBackOk then (capErr 21 0, s)
          else (capOk, if s.nat Obj.sealState = 1 && f.bringsModule then s.writeModule f.legalHash else s)
        let (o, s) := if s.nat Obj.sealState = 1 && f.bringsModule then s.mediaGate act else act s
        (some o, s)

/-- FIRMWARE_SUBMIT (R381). -/
def execFirmwareSubmit (r : CapReq) (e : Epmeir) (f : FirmwareArg) (s : State) : Host.Outcome State Fault Refusal :=
  .next (s.firmwareSubmit r e f)

/-- STORE_BANK_PROGRAMMED (R371). -/
def execStoreBankProgrammed (store : Nat) (ok : Bool) (s : State) : Host.Outcome State Fault Refusal :=
  .next (s.storeProgrammed store ok)

end Sys2Proof.Machine
end

