-- ==== Sys2Proof/Machine/MemoryRows.lean ====
section
/-! DEFINITION. The commands over Big Top, the Caravans and Seesaw (R337 to R351). -/

namespace Sys2Proof.Machine

/-! ### Big Top -/

/-- The line of an offset in Big Top (R338). -/
def lineAt (addr : Nat) : Nat := addr % 0x1000000 / 16

/-- BIG_TOP_ALIAS_WRITE (R339, R340): with another port's write to the line in the same cycle port A goes first, and the collision
counts. -/
def State.aliasWrite (s : State) (portB clear : Bool) (addr : Nat) (data : Line) (enables : BitVec 16)
    (other : Option (Nat × Line × BitVec 16)) : State :=
  if !s.awake then s
  else
    let n := lineAt addr
    let w : LineWrite := { line := n, kind := if clear then 2 else 1, data, enables }
    match other with
    | none => s.access w
    | some o =>
      let x : LineWrite := { line := n, kind := o.1, data := o.2.1, enables := o.2.2 }
      (if portB then (s.access x).access w else (s.access w).access x).bump Obj.writeCollisions

/-- BIG_TOP_ALIAS_WRITE (R340). -/
def execBigTopAliasWrite (portB clear : Bool) (addr : Nat) (data : Line) (enables : BitVec 16)
    (other : Option (Nat × Line × BitVec 16)) (s : State) : Host.Outcome State Fault Refusal :=
  .next (s.aliasWrite portB clear addr data enables other)

/-- BIG_TOP_SCRUB (R341): a correction written back and counted, unless a port has written the line; a bank that is not on is not
scrubbed. -/
def State.scrub (s : State) (addr : Nat) (corrected : Line) (portWrote : Option Line) : State :=
  let n := lineAt addr
  if !(s.awake && s.bank (bankOf n) == 0) then s
  else
    match portWrote with
    | some v => s.setLine n v
    | none => (s.setLine n corrected).bump Obj.bigTopCorrected

/-- BIG_TOP_SCRUB (R341). -/
def execBigTopScrub (addr : Nat) (corrected : Line) (portWrote : Option Line) (s : State) : Host.Outcome State Fault Refusal :=
  .next (s.scrub addr corrected portWrote)

/-- BIG_TOP_UNCORRECTABLE (R342, R425): counted and recorded; the frames before step 4 that read it are discarded; of banks 0 to 7, or of
a committed operation, it is an uncorrectable internal error. -/
def State.poisonRead (s : State) (addr : Nat) (committed : Bool) (frames : List Nat) : State :=
  let n := lineAt addr
  if !(s.awake && s.bank (bankOf n) == 0) then s
  else
    let s := { s with mem.poisoned := n :: s.mem.poisoned.filter (· != n) }.bump Obj.bigTopUncorrectable
    let s := s.logDiagFree 5 (pack [(1, bankOf n), (4, n)])
    let early := s.frames.filter fun f => frames.contains f.id && Nat.blt f.stage 4
    let s := early.foldl State.discardWhole s
    if bankOf n < 8 || committed then s.faultRestart (bankOf n < 8 && committed && s.cask.dirty != 0) else s

/-- BIG_TOP_UNCORRECTABLE (R342). -/
def execBigTopUncorrectable (addr : Nat) (committed : Bool) (frames : List Nat) (s : State) : Host.Outcome State Fault Refusal :=
  .next (s.poisonRead addr committed frames)

/-- ADDRESS_FAULT (R337): counted; a read returns zeros, a write has no effect. -/
def State.addressFault (s : State) (addr requester : Nat) : State :=
  if s.awake && s.addressFaults addr requester then s.bump Obj.addressFaults else s

/-- ADDRESS_FAULT (R337). -/
def execAddressFault (addr requester : Nat) (s : State) : Host.Outcome State Fault Refusal := .next (s.addressFault addr requester)

/-- BANK_POWER_OFF (R343). -/
def execBankPowerOff (bank : Nat) (s : State) : Host.Outcome State Fault Refusal :=
  .next (if s.awake then s.bankOff bank else s)

/-- BANK_WAKE (R344): by an access, or once nothing asks for it to be off. -/
def execBankWake (bank : Nat) (onAccess : Bool) (s : State) : Host.Outcome State Fault Refusal :=
  .next (if s.awake && (onAccess || !s.bankAskedOff bank) then s.wakeBank bank onAccess else s)

/-- BANK_CLEAR_COMPLETE (R344). -/
def execBankClearComplete (bank : Nat) (s : State) : Host.Outcome State Fault Refusal :=
  .next (if s.awake then s.bankClear bank else s)

/-- CARAVAN_UNCORRECTABLE (R345, R408). -/
def execCaravanUncorrectable (engine : Nat) (s : State) : Host.Outcome State Fault Refusal := .next (s.engineFails engine)

/-! ### Seesaw -/

/-- SEESAW_PUSH (R348). -/
def execSeesawPush (queue port width : Nat) (item : Line) (s : State) : Host.Outcome State Fault Refusal :=
  .next (s.seesawPush queue port width item)

/-- The queues whose poison is an uncorrectable internal error (R351). -/
def poisonIsFault (q : Nat) : Bool :=
  (Nat.ble 36 q && Nat.ble q 75) || (Nat.ble 80 q && Nat.ble q 83) || (Nat.ble 88 q && Nat.ble q 91)

/-- What the loss of an item takes with it (R351): the frame that queues 0 to 35 named, the response that queues 76 to 79 asked for. -/
def State.loseItem (s : State) (q : Nat) (x : Line) : State :=
  if q ≤ 35 then
    match s.frames.find? fun f => f.item == x && f.queueAt f.stage == some q with
    | some f => s.discardWhole f
    | none => s
  else if 76 ≤ q ∧ q ≤ 79 then
    match s.frames.find? fun f => f.ask == x && f.port + 76 == q && f.resp with
    | some f => (s.missResponse f).bump (Obj.responsesMissed f.port)
    | none => s
  else s

/-- The poison of a queue (R351, R407): the poison item delivered, PoisonSeen, the count, a record. -/
def State.poisonItem (s : State) (q : Nat) (x : Line) : State :=
  let out : Line := BitVec.ofNat 128 (0xE * 2 ^ 124 + q * 2 ^ 64)
  let s := (s.modQueue q fun w => { w with out := out, poison := true }).bump Obj.seesawPoison
  let s := (s.logDiagFree 6 q).loseItem q x
  let s := if Nat.ble 88 q && Nat.ble q 91 then s.dangerous (GateFault.of 11 0) else s
  if poisonIsFault q then s.faultRestart false else s

/-- SEESAW_POP (R350, R351): `error` 0 none, 1 corrected, 2 uncorrectable. A pop of the idle item changes nothing. -/
def State.seesawPop (s : State) (q error : Nat) : State :=
  match tget s.mem.queues q with
  | none => s
  | some w =>
    if !s.awake then s
    else
      match w.draining with
      | [] => s.modQueue q fun w => ({ w with out := 0 } : Seesaw).swap
      | _ :: _ =>
        let (x, w) := w.pop
        let w := if error = 1 then { w with corrected := satAdd 65535 w.corrected 1 } else w
        let s := { s with mem.queues := tput s.mem.queues q { w with out := x }.swap }
        if error = 2 then s.poisonItem q x else s

/-- SEESAW_POP (R350). -/
def execSeesawPop (queue error : Nat) (s : State) : Host.Outcome State Fault Refusal := .next (s.seesawPop queue error)

end Sys2Proof.Machine
end

