-- ==== Sys2Proof/Machine/Dispatch.lean ====
section
/-! DEFINITION. Which meaning each command has: one arm for each constructor of Instr, one direct call. -/

namespace Sys2Proof.Machine

/-- The effect of a command on everything but the queue of waiting commands. -/
def exec (i : Instr) (s : State) : Host.Outcome State Fault Refusal :=
  match i with
  | .porstNRelease b => Sys2Proof.Machine.execPorstNRelease b s
  | .porstNAssert => Sys2Proof.Machine.execPorstNAssert s
  | .pfiNAssert => Sys2Proof.Machine.execPfiNAssert s
  | .pwrSafeAssert => Sys2Proof.Machine.execPwrSafeAssert s
  | .pfiNRelease => Sys2Proof.Machine.execPfiNRelease s
  | .internalRestart b => Sys2Proof.Machine.execInternalRestart b s
  | .railsLost => Sys2Proof.Machine.execRailsLost s
  | .powerStateSetActive r => Sys2Proof.Machine.execPowerStateSetActive r s
  | .powerStateSetStandby r => Sys2Proof.Machine.execPowerStateSetStandby r s
  | .standbyEntered => Sys2Proof.Machine.execStandbyEntered s
  | .powerStateSetSleep r => Sys2Proof.Machine.execPowerStateSetSleep r s
  | .powerStateSetRestart r => Sys2Proof.Machine.execPowerStateSetRestart r s
  | .wakeAlarm => Sys2Proof.Machine.execWakeAlarm s
  | .vbatLow => Sys2Proof.Machine.execVbatLow s
  | .batteryChangeOver vio3v3Mv vbatPresent => Sys2Proof.Machine.execBatteryChangeOver vio3v3Mv vbatPresent s
  | .ddrUncorrectable frames => Sys2Proof.Machine.execDdrUncorrectable frames s
  | .iqRetrain r port => Sys2Proof.Machine.execIqRetrain r port s
  | .iqTrainingPass port => Sys2Proof.Machine.execIqTrainingPass port s
  | .iqTrainingTimeout port lanes => Sys2Proof.Machine.execIqTrainingTimeout port lanes s
  | .frameSlip port => Sys2Proof.Machine.execFrameSlip port s
  | .lossOfClock port => Sys2Proof.Machine.execLossOfClock port s
  | .clockRestored port => Sys2Proof.Machine.execClockRestored port s
  | .clippedMillisecond port clipped => Sys2Proof.Machine.execClippedMillisecond port clipped s
  | .detection ds => Sys2Proof.Machine.execDetection ds s
  | .frameDelivery dem ok info => Sys2Proof.Machine.execFrameDelivery dem ok info s
  | .syncLost dem => Sys2Proof.Machine.execSyncLost dem s
  | .demodMaxHold dem => Sys2Proof.Machine.execDemodMaxHold dem s
  | .cancellationPass group decoded => Sys2Proof.Machine.execCancellationPass group decoded s
  | .fastPathResponse frame length airUs widthHz => Sys2Proof.Machine.execFastPathResponse frame length airUs widthHz s
  | .launchDeadline frame => Sys2Proof.Machine.execLaunchDeadline frame s
  | .responseLaunch frame => Sys2Proof.Machine.execResponseLaunch frame s
  | .lbtListenEnd port power => Sys2Proof.Machine.execLbtListenEnd port power s
  | .modulatorTxEnd port => Sys2Proof.Machine.execModulatorTxEnd port s
  | .pendantResponseLaunch frame => Sys2Proof.Machine.execPendantResponseLaunch frame s
  | .stageItem r a => Sys2Proof.Machine.execStageItem r a s
  | .stageWithdraw r tag seq => Sys2Proof.Machine.execStageWithdraw r tag seq s
  | .itemExpiry seq => Sys2Proof.Machine.execItemExpiry seq s
  | .dutyBucketRoll => Sys2Proof.Machine.execDutyBucketRoll s
  | .broadcastWindow entry airUs widthHz => Sys2Proof.Machine.execBroadcastWindow entry airUs widthHz s
  | .campaignStart r a image => Sys2Proof.Machine.execCampaignStart r a image s
  | .campaignBegin campaign => Sys2Proof.Machine.execCampaignBegin campaign s
  | .campaignEnd campaign => Sys2Proof.Machine.execCampaignEnd campaign s
  | .thermalTrip lane => Sys2Proof.Machine.execThermalTrip lane s
  | .thermalHoldoffEnd lane => Sys2Proof.Machine.execThermalHoldoffEnd lane s
  | .zcEdge lane atNs rising => Sys2Proof.Machine.execZcEdge lane atNs rising s
  | .zcMissingEdge lane => Sys2Proof.Machine.execZcMissingEdge lane s
  | .halfCycle lane power rmsDb => Sys2Proof.Machine.execHalfCycle lane power rmsDb s
  | .plcPreambleDetection lane chain => Sys2Proof.Machine.execPlcPreambleDetection lane chain s
  | .chainHeaderDecode lane syncNs soft => Sys2Proof.Machine.execChainHeaderDecode lane syncNs soft s
  | .chainBurst lane pilots before symbols => Sys2Proof.Machine.execChainBurst lane pilots before symbols s
  | .plcFrameDelivery lane ok info p => Sys2Proof.Machine.execPlcFrameDelivery lane ok info p s
  | .mediumIdle lane power => Sys2Proof.Machine.execMediumIdle lane power s
  | .virtualBusyEnd lane => Sys2Proof.Machine.execVirtualBusyEnd lane s
  | .plcFrameQueued lane t => Sys2Proof.Machine.execPlcFrameQueued lane t s
  | .chainSlotStart lane => Sys2Proof.Machine.execChainSlotStart lane s
  | .standardCsmaTx lane => Sys2Proof.Machine.execStandardCsmaTx lane s
  | .plcTxEnd lane isenseMv => Sys2Proof.Machine.execPlcTxEnd lane isenseMv s
  | .chainAckSend lane => Sys2Proof.Machine.execChainAckSend lane s
  | .chainAckReceived lane => Sys2Proof.Machine.execChainAckReceived lane s
  | .ackTimeout lane => Sys2Proof.Machine.execAckTimeout lane s
  | .loadngMessage lane kind origin target next cost => Sys2Proof.Machine.execLoadngMessage lane kind origin target next cost s
  | .eapPskBootstrap lane tag ok => Sys2Proof.Machine.execEapPskBootstrap lane tag ok s
  | .linkQualityRead r lane short => Sys2Proof.Machine.execLinkQualityRead r lane short s
  | .tunnelledDatagram source info => Sys2Proof.Machine.execTunnelledDatagram source info s
  | .linkLayer frame => Sys2Proof.Machine.execLinkLayer frame s
  | .unwrap frame authentic tagged => Sys2Proof.Machine.execUnwrap frame authentic tagged s
  | .ingestCommit frame => Sys2Proof.Machine.execIngestCommit frame s
  | .parse frame elements => Sys2Proof.Machine.execParse frame elements s
  | .validation frame => Sys2Proof.Machine.execValidation frame s
  | .billing frame => Sys2Proof.Machine.execBilling frame s
  | .scalesAdd frame => Sys2Proof.Machine.execScalesAdd frame s
  | .resultCommit frame => Sys2Proof.Machine.execResultCommit frame s
  | .uplinkRecord frame => Sys2Proof.Machine.execUplinkRecord frame s
  | .uplinkBatch tenant => Sys2Proof.Machine.execUplinkBatch tenant s
  | .batchConfirmation tenant sequence => Sys2Proof.Machine.execBatchConfirmation tenant sequence s
  | .endpointAdmit r image => Sys2Proof.Machine.execEndpointAdmit r image s
  | .endpointAdmitMove r image x => Sys2Proof.Machine.execEndpointAdmitMove r image x s
  | .endpointRemove r tag => Sys2Proof.Machine.execEndpointRemove r tag s
  | .endpointRead r tag => Sys2Proof.Machine.execEndpointRead r tag s
  | .quarantineEnd tag => Sys2Proof.Machine.execQuarantineEnd tag s
  | .taiMidnight => Sys2Proof.Machine.execTaiMidnight s
  | .cascadeSessionStart number serial keyHash => Sys2Proof.Machine.execCascadeSessionStart number serial keyHash s
  | .cascadeSessionLoss number => Sys2Proof.Machine.execCascadeSessionLoss number s
  | .forwardedFrame number sequence tag cell info => Sys2Proof.Machine.execForwardedFrame number sequence tag cell info s
  | .ingestConfirmation sequence => Sys2Proof.Machine.execIngestConfirmation sequence s
  | .downwardCommand broadcast target tag length payload => Sys2Proof.Machine.execDownwardCommand broadcast target tag length payload s
  | .uplinkRecordBatch number records => Sys2Proof.Machine.execUplinkRecordBatch number records s
  | .keyUpdateSubmit r e u => Sys2Proof.Machine.execKeyUpdateSubmit r e u s
  | .rewrap tag => Sys2Proof.Machine.execRewrap tag s
  | .rekeyMark tag => Sys2Proof.Machine.execRekeyMark tag s
  | .keyHeldRelease sequence authentic => Sys2Proof.Machine.execKeyHeldRelease sequence authentic s
  | .attestRequest r tenant kind slot generation nonce => Sys2Proof.Machine.execAttestRequest r tenant kind slot generation nonce s
  | .maskRefresh word => Sys2Proof.Machine.execMaskRefresh word s
  | .entropyFailure => Sys2Proof.Machine.execEntropyFailure s
  | .entropyRecovered => Sys2Proof.Machine.execEntropyRecovered s
  | .zeroizeRelease => Sys2Proof.Machine.execZeroizeRelease s
  | .guaranteeWindowStart level1 level2 => Sys2Proof.Machine.execGuaranteeWindowStart level1 level2 s
  | .commandLatencyMiss tenant displacedBy due onTime => Sys2Proof.Machine.execCommandLatencyMiss tenant displacedBy due onTime s
  | .stormWindowEnd concentrator cell => Sys2Proof.Machine.execStormWindowEnd concentrator cell s
  | .deferredRule tag channel rule intervalEnd => Sys2Proof.Machine.execDeferredRule tag channel rule intervalEnd s
  | .gapEstimation tag channel t0 => Sys2Proof.Machine.execGapEstimation tag channel t0 s
  | .profileForwardFill tag channel t0 => Sys2Proof.Machine.execProfileForwardFill tag channel t0 s
  | .tariffSetSubmit r e images => Sys2Proof.Machine.execTariffSetSubmit r e images s
  | .billingBoundary calendar => Sys2Proof.Machine.execBillingBoundary calendar s
  | .closeSweep calendar tag => Sys2Proof.Machine.execCloseSweep calendar tag s
  | .billingRead r tag => Sys2Proof.Machine.execBillingRead r tag s
  | .snapshotRead r tag period => Sys2Proof.Machine.execSnapshotRead r tag period s
  | .topUp r tag amount sequence => Sys2Proof.Machine.execTopUp r tag amount sequence s
  | .debtSet r tag debt sequence share => Sys2Proof.Machine.execDebtSet r tag debt sequence share s
  | .lockOutSet r tag on => Sys2Proof.Machine.execLockOutSet r tag on s
  | .switchSubmit r a => Sys2Proof.Machine.execSwitchSubmit r a s
  | .emergencyAccept r tag => Sys2Proof.Machine.execEmergencyAccept r tag s
  | .emergencyOfferExpiry tag => Sys2Proof.Machine.execEmergencyOfferExpiry tag s
  | .nodeWrite r a => Sys2Proof.Machine.execNodeWrite r a s
  | .nodeRead r node => Sys2Proof.Machine.execNodeRead r node s
  | .scoreReset r tag => Sys2Proof.Machine.execScoreReset r tag s
  | .balanceEvaluation node => Sys2Proof.Machine.execBalanceEvaluation node s
  | .counterSecondRollover => Sys2Proof.Machine.execCounterSecondRollover s
  | .timeStep upper => Sys2Proof.Machine.execTimeStep upper s
  | .timeIncrWrite int => Sys2Proof.Machine.execTimeIncrWrite int s
  | .hostBeat v => Sys2Proof.Machine.execHostBeat v s
  | .hostHeartbeatLapse => Sys2Proof.Machine.execHostHeartbeatLapse s
  | .snapCapture => Sys2Proof.Machine.execSnapCapture s
  | .tsqPop port => Sys2Proof.Machine.execTsqPop port s
  | .ppsEdge => Sys2Proof.Machine.execPpsEdge s
  | .ptpSync port offsetNs => Sys2Proof.Machine.execPtpSync port offsetNs s
  | .ptpAnnounce port utcOffset valid => Sys2Proof.Machine.execPtpAnnounce port utcOffset valid s
  | .lockQualified => Sys2Proof.Machine.execLockQualified s
  | .sourceLost => Sys2Proof.Machine.execSourceLost s
  | .holdoverLimit => Sys2Proof.Machine.execHoldoverLimit s
  | .leapInstant flag => Sys2Proof.Machine.execLeapInstant flag s
  | .rtcHourlyWrite => Sys2Proof.Machine.execRtcHourlyWrite s
  | .timeSet r sec ns => Sys2Proof.Machine.execTimeSet r sec ns s
  | .servoOwnerChange r owner => Sys2Proof.Machine.execServoOwnerChange r owner s
  | .taiUtcOffsetWrite r offset => Sys2Proof.Machine.execTaiUtcOffsetWrite r offset s
  | .linkUp port autoNegotiated partnerPause => Sys2Proof.Machine.execLinkUp port autoNegotiated partnerPause s
  | .linkDown port => Sys2Proof.Machine.execLinkDown port s
  | .rxSfd port => Sys2Proof.Machine.execRxSfd port s
  | .rxFrameEnd port f => Sys2Proof.Machine.execRxFrameEnd port f s
  | .rxDispatch port => Sys2Proof.Machine.execRxDispatch port s
  | .rxStarveTimeout port => Sys2Proof.Machine.execRxStarveTimeout port s
  | .txFrameSent port => Sys2Proof.Machine.execTxFrameSent port s
  | .pauseReceived port quanta => Sys2Proof.Machine.execPauseReceived port quanta s
  | .pauseQuantaExpiry port => Sys2Proof.Machine.execPauseQuantaExpiry port s
  | .pauseWatchdog port => Sys2Proof.Machine.execPauseWatchdog port s
  | .pauseIgnoreEnd port => Sys2Proof.Machine.execPauseIgnoreEnd port s
  | .pauseRepeat port => Sys2Proof.Machine.execPauseRepeat port s
  | .pcieLinkUp gen width => Sys2Proof.Machine.execPcieLinkUp gen width s
  | .pcieLinkDown => Sys2Proof.Machine.execPcieLinkDown s
  | .dmaFault queue => Sys2Proof.Machine.execDmaFault queue s
  | .hqDoorbell queue tail posted => Sys2Proof.Machine.execHqDoorbell queue tail posted s
  | .hostQueueEnable queue ctrl => Sys2Proof.Machine.execHostQueueEnable queue ctrl s
  | .hostQueueDisable queue => Sys2Proof.Machine.execHostQueueDisable queue s
  | .drainComplete queue => Sys2Proof.Machine.execDrainComplete queue s
  | .queueDoneCoalesce queue => Sys2Proof.Machine.execQueueDoneCoalesce queue s
  | .mailboxDoorbell length => Sys2Proof.Machine.execMailboxDoorbell length s
  | .mailboxResponseFree => Sys2Proof.Machine.execMailboxResponseFree s
  | .intCauseClear v => Sys2Proof.Machine.execIntCauseClear v s
  | .intEnableWrite v => Sys2Proof.Machine.execIntEnableWrite v s
  | .logReadCmd autoIncrement media => Sys2Proof.Machine.execLogReadCmd autoIncrement media s
  | .logBoundsCmd => Sys2Proof.Machine.execLogBoundsCmd s
  | .logFreezeCmd => Sys2Proof.Machine.execLogFreezeCmd s
  | .logThawCmd => Sys2Proof.Machine.execLogThawCmd s
  | .bar0BadAccess read => Sys2Proof.Machine.execBar0BadAccess read s
  | .registerWrite offset v => Sys2Proof.Machine.execRegisterWrite offset v s
  | .rcRead offset => Sys2Proof.Machine.execRcRead offset s
  | .nandProgramComplete partition units ok => Sys2Proof.Machine.execNandProgramComplete partition units ok s
  | .garbageCollection => Sys2Proof.Machine.execGarbageCollection s
  | .gcGroupWrite => Sys2Proof.Machine.execGcGroupWrite s
  | .erasePendingWrite => Sys2Proof.Machine.execErasePendingWrite s
  | .blockErase => Sys2Proof.Machine.execBlockErase s
  | .eraseComplete ok => Sys2Proof.Machine.execEraseComplete ok s
  | .readRefresh block => Sys2Proof.Machine.execReadRefresh block s
  | .wearLevelling => Sys2Proof.Machine.execWearLevelling s
  | .checkpoint => Sys2Proof.Machine.execCheckpoint s
  | .casketRootUpdate => Sys2Proof.Machine.execCasketRootUpdate s
  | .archiveDiscard => Sys2Proof.Machine.execArchiveDiscard s
  | .storageRead r unit count level => Sys2Proof.Machine.execStorageRead r unit count level s
  | .storageWrite r unit count data => Sys2Proof.Machine.execStorageWrite r unit count data s
  | .storageDiscard r unit count => Sys2Proof.Machine.execStorageDiscard r unit count s
  | .storageFormat r v => Sys2Proof.Machine.execStorageFormat r v s
  | .batteryRingRead r slot => Sys2Proof.Machine.execBatteryRingRead r slot s
  | .batteryRingAck r v => Sys2Proof.Machine.execBatteryRingAck r v s
  | .repeatWindowEnd log => Sys2Proof.Machine.execRepeatWindowEnd log s
  | .logRead r log position media => Sys2Proof.Machine.execLogRead r log position media s
  | .logBounds r log => Sys2Proof.Machine.execLogBounds r log s
  | .legalFreeze r => Sys2Proof.Machine.execLegalFreeze r s
  | .legalThaw r => Sys2Proof.Machine.execLegalThaw r s
  | .legalExport r first last => Sys2Proof.Machine.execLegalExport r first last s
  | .operatingTimeCopy hourly => Sys2Proof.Machine.execOperatingTimeCopy hourly s
  | .bigTopAliasWrite portB clear addr data enables other => Sys2Proof.Machine.execBigTopAliasWrite portB clear addr data enables other s
  | .bigTopScrub addr corrected portWrote => Sys2Proof.Machine.execBigTopScrub addr corrected portWrote s
  | .bigTopUncorrectable addr committed frames => Sys2Proof.Machine.execBigTopUncorrectable addr committed frames s
  | .addressFault addr requester => Sys2Proof.Machine.execAddressFault addr requester s
  | .bankPowerOff bank => Sys2Proof.Machine.execBankPowerOff bank s
  | .bankWake bank onAccess => Sys2Proof.Machine.execBankWake bank onAccess s
  | .bankClearComplete bank => Sys2Proof.Machine.execBankClearComplete bank s
  | .caravanUncorrectable engine => Sys2Proof.Machine.execCaravanUncorrectable engine s
  | .seesawPush queue port width item => Sys2Proof.Machine.execSeesawPush queue port width item s
  | .seesawPop queue error => Sys2Proof.Machine.execSeesawPop queue error s
  | .capSessionStart session role tenant => Sys2Proof.Machine.execCapSessionStart session role tenant s
  | .capSessionEnd session => Sys2Proof.Machine.execCapSessionEnd session s
  | .rs485Frame frame gapOk => Sys2Proof.Machine.execRs485Frame frame gapOk s
  | .capRead r m => Sys2Proof.Machine.execCapRead r m s
  | .capWrite r m length value more => Sys2Proof.Machine.execCapWrite r m length value more s
  | .capBulkData r m length value more => Sys2Proof.Machine.execCapBulkData r m length value more s
  | .capResultRead r offset => Sys2Proof.Machine.execCapResultRead r offset s
  | .capAbort r => Sys2Proof.Machine.execCapAbort r s
  | .bulkIdleTimeout session => Sys2Proof.Machine.execBulkIdleTimeout session s
  | .catalogueBundleSubmit r e entries failed => Sys2Proof.Machine.execCatalogueBundleSubmit r e entries failed s
  | .storeBankProgrammed store ok => Sys2Proof.Machine.execStoreBankProgrammed store ok s
  | .sealSubmit r e a burnOk => Sys2Proof.Machine.execSealSubmit r e a burnOk s
  | .trustAnchorSubmit r e entries => Sys2Proof.Machine.execTrustAnchorSubmit r e entries s
  | .firmwareSubmit r e f => Sys2Proof.Machine.execFirmwareSubmit r e f s
  | .firmwareEpochCommit r v => Sys2Proof.Machine.execFirmwareEpochCommit r v s
  | .tamperActivation source => Sys2Proof.Machine.execTamperActivation source s
  | .tamperStuck source => Sys2Proof.Machine.execTamperStuck source s
  | .tamperRelease source => Sys2Proof.Machine.execTamperRelease source s
  | .claspAlarmClear r mask => Sys2Proof.Machine.execClaspAlarmClear r mask s
  | .gateRequest sequence authTagOk digests => Sys2Proof.Machine.execGateRequest sequence authTagOk digests s
  | .gateConfirmation stage windowTag digest => Sys2Proof.Machine.execGateConfirmation stage windowTag digest s
  | .itemReport stage outcome => Sys2Proof.Machine.execItemReport stage outcome s
  | .lockstepMismatch pair => Sys2Proof.Machine.execLockstepMismatch pair s
  | .ringmasterScrub pair uncorrectable => Sys2Proof.Machine.execRingmasterScrub pair uncorrectable s
  | .ringmasterDailyTest pair0Ok pair1Ok => Sys2Proof.Machine.execRingmasterDailyTest pair0Ok pair1Ok s
  | .gateReopen r v pair0Ok pair1Ok => Sys2Proof.Machine.execGateReopen r v pair0Ok pair1Ok s
  | .gateProofTest r v => Sys2Proof.Machine.execGateProofTest r v s
  | .engineWatchdog engine => Sys2Proof.Machine.execEngineWatchdog engine s
  | .bistSlice signatureOk => Sys2Proof.Machine.execBistSlice signatureOk s
  | .bistStart r target => Sys2Proof.Machine.execBistStart r target s
  | .bistComplete result failingSet signatures => Sys2Proof.Machine.execBistComplete result failingSet signatures s
  | .temperatureSample sensors => Sys2Proof.Machine.execTemperatureSample sensors s
  | .patinaMeasure margins => Sys2Proof.Machine.execPatinaMeasure margins s
  | .vddSettle margins => Sys2Proof.Machine.execVddSettle margins s
  | .patinaMeasureCmd r v margins => Sys2Proof.Machine.execPatinaMeasureCmd r v margins s
  | .patinaRecalibrate r v => Sys2Proof.Machine.execPatinaRecalibrate r v s
  | .plcThermNRelease lane => Sys2Proof.Machine.execPlcThermNRelease lane s
  | .mediumBusy lane power => Sys2Proof.Machine.execMediumBusy lane power s
  | .lengthFieldExceeded dem => Sys2Proof.Machine.execLengthFieldExceeded dem s
  | .ptpDelayResp port delayNs => Sys2Proof.Machine.execPtpDelayResp port delayNs s
  | .ptpPdelayReq port delayNs => Sys2Proof.Machine.execPtpPdelayReq port delayNs s
  | .ddrPatrolScrub => Sys2Proof.Machine.execDdrPatrolScrub s
  | .lqtAgeing => Sys2Proof.Machine.execLqtAgeing s
  | .drbgReseed => Sys2Proof.Machine.execDrbgReseed s
  | .freezeMaxExpiry => Sys2Proof.Machine.execFreezeMaxExpiry s
  | .sealNAssert => Sys2Proof.Machine.execSealNAssert s
  | .sealNRelease => Sys2Proof.Machine.execSealNRelease s
  | .unsealMaxExpiry => Sys2Proof.Machine.execUnsealMaxExpiry s
  | .fanoutTimerExpiry => Sys2Proof.Machine.execFanoutTimerExpiry s
  | .clockMonitorFault => Sys2Proof.Machine.execClockMonitorFault s
  | .jugglerRotationTest => Sys2Proof.Machine.execJugglerRotationTest s
  | .governorEvaluation => Sys2Proof.Machine.execGovernorEvaluation s
  | .thermalAlarmClear => Sys2Proof.Machine.execThermalAlarmClear s

end Sys2Proof.Machine
end

