-- ==== Sys2Proof/Machine/Tick.lean ====
section
/-! DEFINITION. The idle step: one TIME cycle. -/

namespace Sys2Proof.Machine

/-- One TIME cycle of 4 ns (R18, R246). DESIGN CHOICE, unsafe (log entry 3): it is what an idle step does. -/
def tick (s : State) : State := s.pass 1

end Sys2Proof.Machine
end

