-- ==== Sys2Proof/WellFormed.lean ====
section
/-! DEFINITION. Well-formed commands: every operand within the width of the field, or the number of the units, that the spec
gives it. The meanings take any operand; what a pin, a medium or a client can present is well formed. -/

namespace Sys2Proof

/-- A value that an unsigned field of n bits holds. -/
abbrev fits (n v : Nat) : Bool := Nat.blt v (2 ^ n)

/-- A value that a signed field of n bits holds. -/
def fitsInt (n : Nat) (v : Int) : Bool := decide (-(2 ^ (n - 1) : Int) ≤ v) && decide (v < (2 ^ (n - 1) : Int))

/-- The sessions of R359 to R366: 0 the mailbox, 1 to 16 DTLS, 17 the service port; the Tag of R356. -/
def CapReq.wf (r : CapReq) : Bool := Nat.ble r.sess 17 && fits 16 r.tag

/-- The fields of R375. -/
def Epmeir.wf (e : Epmeir) : Bool := fits 16 e.typ && fits 16 e.version && fits 8 e.targetKind && fits 64 e.target && fits 64 e.counter

/-- The fuses' variant (R5), the PCIe generation and width (R282). -/
def Board.wf (b : Board) : Bool := fits 8 b.fuseVariant && Nat.ble b.pcieGen 3 && fits 8 b.pcieWidth

/-- A native address (R40): a type of 1 to 4 and the 16 bytes of the field, as many as the type uses. -/
def Native.wf (n : Native) : Bool :=
  Nat.ble 1 n.ntype && Nat.ble n.ntype 4 && fits (if n.ntype = 3 then 80 else 64) n.addr

/-- A detection on one of the four IQ ports (R56, R66). -/
def Det.wf (d : Det) : Bool := Nat.blt d.port 4 && fits 16 d.channel && fits 8 d.mode && fits 64 d.sync

/-- What a receiver decoded (R70, R71): a native address, the measures in their fields, an end no earlier than the sync. -/
def RxInfo.wf (i : RxInfo) : Bool :=
  i.native.wf && Nat.ble i.syncNs i.endNs && fits 32 i.counter && fitsInt 16 i.rssi && fitsInt 16 i.esn0 && fits 16 i.length

/-- An element of a frame (R172 to R175). -/
def Element.wf (e : Element) : Bool := Nat.ble e.timeKind 2 && Nat.ble e.event 9 && fitsInt 64 e.value

/-- A staged item (R93): 44 bits of Endpoint Tag, the three classes and the four priorities within their bytes. -/
def ItemArg.wf (a : ItemArg) : Bool :=
  fits 44 a.tag && fits 8 a.cls && fits 8 a.prio && fits 16 a.length && fits 48 a.notBefore && fits 48 a.expiry && fits 8 a.flags

/-- A campaign header (R103). -/
def CampaignArg.wf (a : CampaignArg) : Bool :=
  fits 32 a.campaign && fits 8 a.tenant && fits 16 a.blockSize && fits 32 a.imageLength && fits 48 a.startTai && fits 48 a.endTai

/-- A frame for a lane (R132, R136): a Chain payload of at most 540 bytes beside route block and MAC header (R116, R140). -/
def PlcTx.wf (t : PlcTx) : Bool :=
  Nat.ble t.kind 1 && Nat.ble t.prio 2 && (Nat.beq t.kind 0 || Nat.ble 1 t.prio) && fits 16 t.dest &&
  (Nat.beq t.kind 1 || Nat.ble t.bytes 540) && fits (8 * t.bytes) t.payload

/-- What a power-line receiver adds (R111, R127). -/
def PlcInfo.wf (p : PlcInfo) : Bool := fits 16 p.sender && fits 8 p.modulation

/-- An admission image (R45). -/
def Image.wf (i : Image) : Bool :=
  fits 44 i.tag && fits 8 i.cell && fits 8 i.tenant && fits 16 i.channelMask && Nat.ble i.channelConfig.length 16

/-- A move export (R49): 32 registers at most. -/
def MoveExport.wf (x : MoveExport) : Bool :=
  fits 44 x.tag && fits 8 x.tenant && fits 64 x.serial && Nat.ble x.energy.length 32

/-- A key update (R157): as many entries as it says. -/
def KeyUpdate.wf (u : KeyUpdate) : Bool := fits 8 u.tenant && fits 64 u.serial && Nat.beq u.entryCount u.entries.length

/-- A switching request of a head end (R231). -/
def SwitchArg.wf (a : SwitchArg) : Bool :=
  fits 44 a.tag && fits 8 a.kind && fits 8 a.tenant && fits 32 a.limitW && fits 32 a.durationS && fits 16 a.cellMask

/-- A topology node (R235). -/
def NodeArg.wf (a : NodeArg) : Bool := fits 16 a.id && fits 16 a.parent && fits 8 a.kind && fits 8 a.tenant

/-- An Ethernet frame (R273): its destination class, its PTP kind, its VLAN tag. -/
def EthRx.wf (f : EthRx) : Bool := Nat.blt f.length 65536 && Nat.blt f.data (256 ^ f.length)

/-- A CAP message (R356). -/
def CapMsg.wf (m : CapMsg) : Bool := fits 8 m.version && fits 16 m.index && fits 8 m.sub && fits 32 m.offset && fits 32 m.total

/-- An aligned offset of BAR0 (R283), or the address of an aligned register of a Seesaw queue (R336, R349). -/
def regAt (offset : Nat) : Bool :=
  (Nat.blt offset 0x10000 || (Nat.ble 0x30100000 offset && Nat.blt offset (0x30100000 + 96 * 64))) && Nat.beq (offset % 4) 0

/-- Whether every operand of a command is within the field or the number of units that the spec gives it. -/
def Instr.wf : Instr → Bool
  | .porstNRelease b => b.wf
  | .porstNAssert => true
  | .pfiNAssert => true
  | .pwrSafeAssert => true
  | .pfiNRelease => true
  | .internalRestart b => b.wf
  | .railsLost => true
  | .powerStateSetActive r => r.wf
  | .powerStateSetStandby r => r.wf
  | .standbyEntered => true
  | .powerStateSetSleep r => r.wf
  | .powerStateSetRestart r => r.wf
  | .wakeAlarm => true
  | .vbatLow => true
  | .batteryChangeOver _ _ => true
  | .ddrUncorrectable _ => true
  | .ddrPatrolScrub => true
  | .iqRetrain r port => r.wf && Nat.blt port 4
  | .iqTrainingPass port => Nat.blt port 4
  | .iqTrainingTimeout port _ => Nat.blt port 4
  | .frameSlip port => Nat.blt port 4
  | .lossOfClock port => Nat.blt port 4
  | .clockRestored port => Nat.blt port 4
  | .clippedMillisecond port _ => Nat.blt port 4
  | .detection ds => ds.all Det.wf
  | .frameDelivery _ _ i => i.wf
  | .syncLost _ => true
  | .demodMaxHold _ => true
  | .cancellationPass _ decoded => decoded.all fun d => d.2.wf
  | .fastPathResponse _ length _ _ => fits 16 length
  | .launchDeadline _ => true
  | .responseLaunch _ => true
  | .lbtListenEnd port _ => Nat.blt port 4
  | .modulatorTxEnd port => Nat.blt port 4
  | .pendantResponseLaunch _ => true
  | .stageItem r a => r.wf && a.wf
  | .stageWithdraw r tag _ => r.wf && fits 44 tag
  | .itemExpiry _ => true
  | .dutyBucketRoll => true
  | .broadcastWindow entry _ _ => fits 8 entry
  | .campaignStart r a image => r.wf && a.wf && Nat.blt image (256 ^ a.imageLength)
  | .campaignBegin campaign => fits 32 campaign
  | .campaignEnd campaign => fits 32 campaign
  | .thermalTrip lane => Nat.blt lane 3
  | .thermalHoldoffEnd lane => Nat.blt lane 3
  | .zcEdge lane _ _ => Nat.blt lane 3
  | .zcMissingEdge lane => Nat.blt lane 3
  | .halfCycle lane _ _ => Nat.blt lane 3
  | .plcPreambleDetection lane _ => Nat.blt lane 3
  | .chainHeaderDecode lane _ _ => Nat.blt lane 3
  | .chainBurst lane _ _ symbols => Nat.blt lane 3 && Nat.beq symbols.length 4
  | .plcFrameDelivery lane _ i p => Nat.blt lane 3 && i.wf && p.wf
  | .mediumIdle lane _ => Nat.blt lane 3
  | .virtualBusyEnd lane => Nat.blt lane 3
  | .plcFrameQueued lane t => Nat.blt lane 3 && t.wf
  | .chainSlotStart lane => Nat.blt lane 3
  | .standardCsmaTx lane => Nat.blt lane 3
  | .plcTxEnd lane _ => Nat.blt lane 3
  | .chainAckSend lane => Nat.blt lane 3
  | .chainAckReceived lane => Nat.blt lane 3
  | .ackTimeout lane => Nat.blt lane 3
  | .lqtAgeing => true
  | .loadngMessage lane kind origin target next _ => Nat.blt lane 3 && fits 8 kind && fits 16 origin && fits 16 target && fits 16 next
  | .eapPskBootstrap lane tag _ => Nat.blt lane 3 && fits 44 tag
  | .linkQualityRead r lane short => r.wf && Nat.blt lane 3 && fits 16 short
  | .tunnelledDatagram _ i => i.wf
  | .linkLayer _ => true
  | .unwrap _ _ _ => true
  | .ingestCommit _ => true
  | .parse _ elements => elements.all Element.wf
  | .validation _ => true
  | .billing _ => true
  | .scalesAdd _ => true
  | .resultCommit _ => true
  | .uplinkRecord _ => true
  | .uplinkBatch tenant => Nat.blt tenant 8
  | .batchConfirmation tenant _ => Nat.blt tenant 8
  | .endpointAdmit r image => r.wf && image.wf
  | .endpointAdmitMove r image x => r.wf && image.wf && x.wf
  | .endpointRemove r tag => r.wf && fits 44 tag
  | .endpointRead r tag => r.wf && fits 44 tag
  | .quarantineEnd tag => fits 44 tag
  | .taiMidnight => true
  | .cascadeSessionStart number serial _ => fits 16 number && fits 64 serial
  | .cascadeSessionLoss number => fits 16 number
  | .forwardedFrame number _ tag cell i => fits 16 number && fits 44 tag && fits 4 cell && i.wf
  | .ingestConfirmation _ => true
  | .downwardCommand _ target tag length _ => fits 16 target && fits 44 tag && fits 32 length
  | .uplinkRecordBatch number _ => fits 16 number
  | .keyUpdateSubmit r e u => r.wf && e.wf && u.wf
  | .rewrap tag => fits 44 tag
  | .rekeyMark tag => fits 44 tag
  | .keyHeldRelease _ _ => true
  | .attestRequest r tenant kind slot generation _ => r.wf && fits 8 tenant && fits 8 kind && fits 8 slot && fits 32 generation
  | .maskRefresh _ => true
  | .drbgReseed => true
  | .entropyFailure => true
  | .entropyRecovered => true
  | .zeroizeRelease => true
  | .guaranteeWindowStart _ _ => true
  | .commandLatencyMiss tenant _ due onTime => Nat.blt tenant 8 && Nat.ble onTime due
  | .stormWindowEnd _ cell => fits 4 cell
  | .deferredRule tag channel rule _ => fits 44 tag && Nat.blt channel 16 && Nat.blt rule 64
  | .gapEstimation tag channel _ => fits 44 tag && Nat.blt channel 16
  | .profileForwardFill tag channel _ => fits 44 tag && Nat.blt channel 16
  | .tariffSetSubmit r e _ => r.wf && e.wf
  | .billingBoundary calendar => fits 8 calendar
  | .closeSweep calendar tag => fits 8 calendar && fits 44 tag
  | .billingRead r tag => r.wf && fits 44 tag
  | .snapshotRead r tag period => r.wf && fits 44 tag && fits 32 period
  | .topUp r tag amount sequence => r.wf && fits 44 tag && fitsInt 64 amount && fits 64 sequence
  | .debtSet r tag debt sequence share => r.wf && fits 44 tag && fitsInt 64 debt && fits 64 sequence && fits 16 share
  | .lockOutSet r tag on => r.wf && fits 44 tag && fits 8 on
  | .switchSubmit r a => r.wf && a.wf
  | .emergencyAccept r tag => r.wf && fits 44 tag
  | .emergencyOfferExpiry tag => fits 44 tag
  | .nodeWrite r a => r.wf && a.wf
  | .nodeRead r node => r.wf && fits 16 node
  | .scoreReset r tag => r.wf && fits 44 tag
  | .balanceEvaluation node => fits 16 node
  | .counterSecondRollover => true
  | .timeStep _ => true
  | .timeIncrWrite _ => true
  | .hostBeat _ => true
  | .hostHeartbeatLapse => true
  | .snapCapture => true
  | .tsqPop port => Nat.blt port 4
  | .ppsEdge => true
  | .ptpSync port _ => Nat.blt port 4
  | .ptpAnnounce port utcOffset _ => Nat.blt port 4 && fitsInt 16 utcOffset
  | .lockQualified => true
  | .sourceLost => true
  | .holdoverLimit => true
  | .leapInstant flag => decide (flag = 1) || decide (flag = -1)
  | .rtcHourlyWrite => true
  | .timeSet r sec ns => r.wf && fits 48 sec && fits 32 ns
  | .servoOwnerChange r owner => r.wf && fits 8 owner
  | .taiUtcOffsetWrite r offset => r.wf && fitsInt 16 offset
  | .linkUp port _ _ => Nat.blt port 4
  | .linkDown port => Nat.blt port 4
  | .rxSfd port => Nat.blt port 4
  | .rxFrameEnd port f => Nat.blt port 4 && f.wf
  | .rxDispatch port => Nat.blt port 4
  | .rxStarveTimeout port => Nat.blt port 4
  | .txFrameSent port => Nat.blt port 4
  | .pauseReceived port quanta => Nat.blt port 4 && fits 16 quanta
  | .pauseQuantaExpiry port => Nat.blt port 4
  | .pauseWatchdog port => Nat.blt port 4
  | .pauseIgnoreEnd port => Nat.blt port 4
  | .pauseRepeat port => Nat.blt port 4
  | .pcieLinkUp gen width => Nat.ble gen 3 && fits 8 width
  | .pcieLinkDown => true
  | .dmaFault queue => Nat.blt queue 16
  | .hqDoorbell queue _ _ => Nat.blt queue 16
  | .hostQueueEnable queue _ => Nat.blt queue 16
  | .hostQueueDisable queue => Nat.blt queue 16
  | .drainComplete queue => Nat.blt queue 16
  | .queueDoneCoalesce queue => Nat.blt queue 16
  | .mailboxDoorbell _ => true
  | .mailboxResponseFree => true
  | .intCauseClear _ => true
  | .intEnableWrite _ => true
  | .logReadCmd _ media => Nat.ble media 4
  | .logBoundsCmd => true
  | .logFreezeCmd => true
  | .logThawCmd => true
  | .bar0BadAccess _ => true
  | .registerWrite offset _ => regAt offset
  | .rcRead offset => regAt offset
  | .nandProgramComplete partition _ _ => Nat.ble partition 7
  | .garbageCollection => true
  | .gcGroupWrite => true
  | .erasePendingWrite => true
  | .blockErase => true
  | .eraseComplete _ => true
  | .readRefresh _ => true
  | .wearLevelling => true
  | .checkpoint => true
  | .casketRootUpdate => true
  | .archiveDiscard => true
  | .storageRead r unit count level => r.wf && fits 32 unit && fits 16 count && fits 8 level
  | .storageWrite r unit count data => r.wf && fits 32 unit && fits 16 count && Nat.beq data.length count
  | .storageDiscard r unit count => r.wf && fits 32 unit && fits 32 count
  | .storageFormat r v => r.wf && fits 32 v
  | .batteryRingRead r slot => r.wf && fits 8 slot
  | .batteryRingAck r v => r.wf && fits 8 v
  | .repeatWindowEnd log => Nat.blt log 4
  | .logRead r log position media => r.wf && fits 8 log && fits 64 position && Nat.ble media 4
  | .logBounds r log => r.wf && fits 8 log
  | .legalFreeze r => r.wf
  | .legalThaw r => r.wf
  | .legalExport r first last => r.wf && fits 64 first && fits 64 last
  | .freezeMaxExpiry => true
  | .operatingTimeCopy _ => true
  | .bigTopAliasWrite _ _ addr _ _ _ => Nat.blt addr 0x1000000 && Nat.beq (addr % 16) 0
  | .bigTopScrub addr _ _ => Nat.blt addr 0x1000000 && Nat.beq (addr % 16) 0
  | .bigTopUncorrectable addr _ _ => Nat.blt addr 0x1000000
  | .addressFault _ _ => true
  | .bankPowerOff bank => Nat.blt bank 32
  | .bankWake bank _ => Nat.blt bank 32
  | .bankClearComplete bank => Nat.blt bank 32
  | .caravanUncorrectable engine => Nat.blt engine 20
  | .seesawPush queue _ _ _ => Nat.blt queue 96
  | .seesawPop queue error => Nat.blt queue 96 && Nat.ble error 2
  | .capSessionStart session role tenant => Nat.ble 1 session && Nat.ble session 16 && Nat.ble role 2 && Nat.blt tenant 8
  | .capSessionEnd session => Nat.ble session 17
  | .rs485Frame frame _ => frame.all (fits 8)
  | .capRead r m => r.wf && m.wf
  | .capWrite r m length _ _ => r.wf && m.wf && fits 16 length
  | .capBulkData r m length _ _ => r.wf && m.wf && fits 16 length
  | .capResultRead r offset => r.wf && fits 32 offset
  | .capAbort r => r.wf
  | .bulkIdleTimeout session => Nat.ble session 17
  | .catalogueBundleSubmit r e _ failed => r.wf && e.wf && failed.all (fits 4)
  | .storeBankProgrammed store _ => Nat.blt store 16
  | .sealSubmit r e _ _ => r.wf && e.wf
  | .sealNAssert => true
  | .sealNRelease => true
  | .unsealMaxExpiry => true
  | .trustAnchorSubmit r e _ => r.wf && e.wf
  | .firmwareSubmit r e _ => r.wf && e.wf
  | .firmwareEpochCommit r v => r.wf && fits 8 v
  | .tamperActivation source => Nat.blt source 12
  | .tamperStuck source => Nat.blt source 15
  | .tamperRelease source => Nat.blt source 15
  | .claspAlarmClear r mask => r.wf && fits 32 mask
  | .gateRequest _ authTag _ => fits 64 authTag
  | .gateConfirmation _ _ _ => true
  | .itemReport _ _ => true
  | .fanoutTimerExpiry => true
  | .lockstepMismatch pair => Nat.blt pair 2
  | .clockMonitorFault => true
  | .ringmasterScrub pair _ => Nat.blt pair 2
  | .ringmasterDailyTest _ _ => true
  | .gateReopen r v _ _ => r.wf && fits 8 v
  | .gateProofTest r v => r.wf && fits 8 v
  | .engineWatchdog engine => Nat.blt engine 20
  | .jugglerRotationTest => true
  | .bistSlice _ => true
  | .bistStart r target => r.wf && fits 8 target
  | .bistComplete result _ _ => Nat.ble result 2
  | .temperatureSample sensors => Nat.beq sensors.length 8
  | .governorEvaluation => true
  | .thermalAlarmClear => true
  | .patinaMeasure _ => true
  | .vddSettle _ => true
  | .patinaMeasureCmd r v _ => r.wf && fits 8 v
  | .patinaRecalibrate r v => r.wf && fits 8 v
  | .plcThermNRelease lane => Nat.blt lane 3
  | .mediumBusy lane _ => Nat.blt lane 3
  | .lengthFieldExceeded _ => true
  | .ptpDelayResp port _ => Nat.blt port 4
  | .ptpPdelayReq port _ => Nat.blt port 4

end Sys2Proof
end

