-- ==== Sys2Proof/Safety.lean ====
section
/-! DEFINITION. What claims are stated in: the counter within the bounds that the spec gives it, the on-chip memory in its
canonical form, a part in which both hold, requests that CAP carries out, and which commands can change a group of state. -/

namespace Sys2Proof

/-- The commands that can change the counter. -/
def Instr.movesCounter : Instr → Bool
  | .porstNRelease .. | .pfiNRelease .. | .internalRestart .. | .counterSecondRollover .. | .timeStep .. | .ppsEdge .. | .ptpSync ..
  | .timeSet .. | .registerWrite .. => true
  | _ => false

/-- The commands that can change the increment of the counter. -/
def Instr.movesIncrement : Instr → Bool
  | .porstNRelease .. | .internalRestart .. | .counterSecondRollover .. | .timeStep .. | .timeIncrWrite .. | .hostBeat ..
  | .hostHeartbeatLapse .. | .ppsEdge .. | .ptpSync .. | .ptpAnnounce .. | .lockQualified .. | .sourceLost .. | .holdoverLimit ..
  | .timeSet .. | .registerWrite .. | .catalogueBundleSubmit .. | .storeBankProgrammed .. => true
  | _ => false

/-- The commands that can change the power state and its sequences. -/
def Instr.movesPower : Instr → Bool
  | .porstNRelease .. | .porstNAssert .. | .pfiNAssert .. | .pfiNRelease .. | .internalRestart .. | .railsLost ..
  | .powerStateSetStandby .. | .standbyEntered .. | .powerStateSetSleep .. | .powerStateSetRestart .. | .ddrUncorrectable ..
  | .resultCommit .. | .bigTopUncorrectable .. | .seesawPop .. | .tamperActivation .. | .sealNAssert .. => true
  | _ => false

/-- The commands that can change the fuse bank of the seal and the unsealed span. -/
def Instr.movesFuses : Instr → Bool
  | .servoOwnerChange .. | .taiUtcOffsetWrite .. | .capWrite .. | .capBulkData .. | .catalogueBundleSubmit .. | .storeBankProgrammed ..
  | .sealSubmit .. | .firmwareSubmit .. | .firmwareEpochCommit .. => true
  | _ => false

/-- The commands that can change the firmware slots. -/
def Instr.movesFirmware : Instr → Bool
  | .porstNRelease .. | .pfiNRelease .. | .internalRestart .. | .firmwareSubmit .. => true
  | _ => false

/-- The commands that can change what Patina and the tests have found. -/
def Instr.movesPatina : Instr → Bool
  | .porstNRelease .. | .pfiNAssert .. | .pfiNRelease .. | .internalRestart .. | .powerStateSetSleep .. | .powerStateSetRestart ..
  | .ddrUncorrectable .. | .bigTopUncorrectable .. | .caravanUncorrectable .. | .seesawPop .. | .tamperActivation .. | .engineWatchdog ..
  | .bistSlice .. | .bistStart .. | .bistComplete .. | .temperatureSample .. | .patinaMeasure .. | .vddSettle .. | .patinaMeasureCmd ..
  | .sealNAssert .. | .jugglerRotationTest .. | .governorEvaluation .. => true
  | _ => false

/-- The commands that can change the installed trust anchors and legal modules. -/
def Instr.movesAnchors : Instr → Bool
  | .porstNRelease .. | .porstNAssert .. | .pfiNRelease .. | .internalRestart .. | .railsLost .. | .ddrUncorrectable .. | .storageFormat ..
  | .bigTopUncorrectable .. | .seesawPop .. | .trustAnchorSubmit .. | .firmwareSubmit .. => true
  | _ => false

/-- The commands that can change the units of the user partition. -/
def Instr.movesUnits : Instr → Bool
  | .porstNRelease .. | .porstNAssert .. | .pfiNRelease .. | .internalRestart .. | .railsLost .. | .ddrUncorrectable .. | .gcGroupWrite ..
  | .storageWrite .. | .storageDiscard .. | .storageFormat .. | .bigTopUncorrectable .. | .seesawPop .. => true
  | _ => false

/-- The commands that can change the wrapped key blobs. -/
def Instr.movesBlobs : Instr → Bool
  | .porstNRelease .. | .porstNAssert .. | .pfiNRelease .. | .internalRestart .. | .railsLost .. | .ddrUncorrectable .. | .resultCommit ..
  | .endpointRemove .. | .keyUpdateSubmit .. | .rewrap .. | .storageFormat .. | .bigTopUncorrectable .. | .seesawPop .. => true
  | _ => false

/-- The commands that can change the hash table of native addresses. -/
def Instr.movesHash : Instr → Bool
  | .porstNRelease .. | .porstNAssert .. | .pfiNRelease .. | .internalRestart .. | .railsLost .. | .ddrUncorrectable .. | .resultCommit ..
  | .endpointAdmit .. | .endpointAdmitMove .. | .endpointRemove .. | .storageFormat .. | .bigTopUncorrectable .. | .seesawPop .. => true
  | _ => false

/-- The commands that can change the topology nodes. -/
def Instr.movesNodes : Instr → Bool
  | .porstNRelease .. | .porstNAssert .. | .pfiNRelease .. | .internalRestart .. | .railsLost .. | .ddrUncorrectable ..
  | .plcFrameDelivery .. | .resultCommit .. | .endpointAdmit .. | .endpointAdmitMove .. | .endpointRemove .. | .taiMidnight ..
  | .nodeWrite .. | .balanceEvaluation .. | .storageFormat .. | .bigTopUncorrectable .. | .seesawPop .. => true
  | _ => false

/-- The commands that can change the forwarding journal. -/
def Instr.movesForward : Instr → Bool
  | .porstNRelease .. | .porstNAssert .. | .pfiNRelease .. | .internalRestart .. | .railsLost .. | .ddrUncorrectable .. | .ingestCommit ..
  | .ingestConfirmation .. | .storageFormat .. | .bigTopUncorrectable .. | .seesawPop .. => true
  | _ => false

/-- The commands that can change the invalid spans of the billing clock. -/
def Instr.movesSpans : Instr → Bool
  | .porstNRelease .. | .porstNAssert .. | .pfiNRelease .. | .internalRestart .. | .railsLost .. | .ddrUncorrectable ..
  | .counterSecondRollover .. | .timeStep .. | .hostBeat .. | .hostHeartbeatLapse .. | .ppsEdge .. | .ptpSync .. | .ptpAnnounce ..
  | .lockQualified .. | .sourceLost .. | .holdoverLimit .. | .timeSet .. | .registerWrite .. | .storageFormat .. | .bigTopUncorrectable ..
  | .seesawPop .. | .catalogueBundleSubmit .. | .storeBankProgrammed .. => true
  | _ => false

/-- The commands that can change the withheld switch requests. -/
def Instr.movesWithheld : Instr → Bool
  | .porstNRelease .. | .porstNAssert .. | .pfiNAssert .. | .pfiNRelease .. | .internalRestart .. | .railsLost .. | .ddrUncorrectable ..
  | .resultCommit .. | .billingBoundary .. | .switchSubmit .. | .counterSecondRollover .. | .timeStep .. | .hostBeat ..
  | .hostHeartbeatLapse .. | .ppsEdge .. | .ptpSync .. | .ptpAnnounce .. | .lockQualified .. | .sourceLost .. | .holdoverLimit ..
  | .timeSet .. | .registerWrite .. | .storageFormat .. | .bigTopUncorrectable .. | .seesawPop .. | .catalogueBundleSubmit ..
  | .storeBankProgrammed .. | .tamperActivation .. | .sealNAssert .. => true
  | _ => false

/-- The commands that can change the IQ ports and the demodulators. -/
def Instr.movesCarousel : Instr → Bool
  | .porstNRelease .. | .pfiNRelease .. | .internalRestart .. | .powerStateSetActive .. | .standbyEntered .. | .iqRetrain ..
  | .frameSlip .. | .lossOfClock .. | .clockRestored .. | .clippedMillisecond .. | .detection .. | .frameDelivery .. | .syncLost ..
  | .demodMaxHold .. | .cancellationPass .. | .catalogueBundleSubmit .. | .storeBankProgrammed .. | .lengthFieldExceeded .. => true
  | _ => false

/-- The commands that can change the modulators and what they carry. -/
def Instr.movesDownlink : Instr → Bool
  | .porstNRelease .. | .pfiNAssert .. | .internalRestart .. | .powerStateSetStandby .. | .standbyEntered .. | .powerStateSetSleep ..
  | .powerStateSetRestart .. | .ddrUncorrectable .. | .fastPathResponse .. | .launchDeadline .. | .responseLaunch .. | .lbtListenEnd ..
  | .modulatorTxEnd .. | .pendantResponseLaunch .. | .dutyBucketRoll .. | .broadcastWindow .. | .campaignStart .. | .campaignBegin ..
  | .campaignEnd .. | .unwrap .. | .ingestCommit .. | .resultCommit .. | .endpointRemove .. | .storageFormat .. | .bigTopUncorrectable ..
  | .seesawPop .. | .catalogueBundleSubmit .. | .storeBankProgrammed .. | .gateRequest .. => true
  | _ => false

/-- The commands that can change the lanes of Tightrope. -/
def Instr.movesLanes : Instr → Bool
  | .porstNRelease .. | .internalRestart .. | .standbyEntered .. | .thermalTrip .. | .thermalHoldoffEnd .. | .zcEdge .. | .zcMissingEdge ..
  | .halfCycle .. | .plcPreambleDetection .. | .chainHeaderDecode .. | .chainBurst .. | .plcFrameDelivery .. | .mediumIdle ..
  | .virtualBusyEnd .. | .plcFrameQueued .. | .chainSlotStart .. | .standardCsmaTx .. | .plcTxEnd .. | .chainAckSend ..
  | .chainAckReceived .. | .ackTimeout .. | .loadngMessage .. | .eapPskBootstrap .. | .catalogueBundleSubmit .. | .storeBankProgrammed ..
  | .gateRequest .. | .plcThermNRelease .. | .mediumBusy .. | .lqtAgeing .. => true
  | _ => false

/-- The commands that can change the Ethernet ports. -/
def Instr.movesPorts : Instr → Bool
  | .porstNRelease .. | .internalRestart .. | .linkUp .. | .linkDown .. | .rxSfd .. | .rxFrameEnd .. | .rxDispatch .. | .rxStarveTimeout ..
  | .txFrameSent .. | .pauseReceived .. | .pauseQuantaExpiry .. | .pauseWatchdog .. | .pauseIgnoreEnd .. | .pauseRepeat .. | .dmaFault ..
  | .hqDoorbell .. | .hostQueueEnable .. | .drainComplete .. | .registerWrite .. | .catalogueBundleSubmit .. | .storeBankProgrammed ..
  | .gateRequest .. | .ptpPdelayReq .. => true
  | _ => false

/-- The commands that can change the lines of Big Top. -/
def Instr.movesLines : Instr → Bool
  | .porstNRelease .. | .pfiNRelease .. | .internalRestart .. | .standbyEntered .. | .frameDelivery .. | .cancellationPass ..
  | .plcFrameDelivery .. | .tunnelledDatagram .. | .forwardedFrame .. | .keyHeldRelease .. | .bigTopAliasWrite .. | .bigTopScrub ..
  | .bigTopUncorrectable .. | .bankPowerOff .. | .bankClearComplete .. => true
  | _ => false

/-- The commands that can change the Seesaw queues. -/
def Instr.movesQueues : Instr → Bool
  | .porstNRelease .. | .pfiNAssert .. | .pfiNRelease .. | .internalRestart .. | .powerStateSetStandby .. | .standbyEntered ..
  | .powerStateSetSleep .. | .powerStateSetRestart .. | .ddrUncorrectable .. | .frameDelivery .. | .cancellationPass ..
  | .fastPathResponse .. | .launchDeadline .. | .plcFrameDelivery .. | .tunnelledDatagram .. | .linkLayer .. | .unwrap ..
  | .ingestCommit .. | .parse .. | .validation .. | .billing .. | .scalesAdd .. | .resultCommit .. | .uplinkRecord .. | .forwardedFrame ..
  | .keyHeldRelease .. | .registerWrite .. | .rcRead .. | .storageFormat .. | .bigTopUncorrectable .. | .seesawPush .. | .seesawPop ..
  | .catalogueBundleSubmit .. | .storeBankProgrammed .. | .tamperActivation .. | .sealNAssert .. => true
  | _ => false

/-- The commands that can change the phase votes. -/
def Instr.movesVotes : Instr → Bool
  | .porstNRelease .. | .internalRestart .. | .plcFrameDelivery .. | .resultCommit .. | .endpointRemove .. | .storageFormat .. => true
  | _ => false

/-- The commands that can change the guarantee window. -/
def Instr.movesWindow : Instr → Bool
  | .porstNRelease .. | .internalRestart .. | .linkLayer .. | .guaranteeWindowStart .. | .commandLatencyMiss .. => true
  | _ => false

/-- The commands that can change the storms. -/
def Instr.movesStorms : Instr → Bool
  | .porstNRelease .. | .internalRestart .. | .parse .. | .resultCommit .. | .stormWindowEnd .. => true
  | _ => false

/-- The commands that can change the cascade sessions. -/
def Instr.movesCascades : Instr → Bool
  | .porstNRelease .. | .pfiNAssert .. | .internalRestart .. | .powerStateSetStandby .. | .powerStateSetSleep .. | .powerStateSetRestart ..
  | .ddrUncorrectable .. | .linkLayer .. | .unwrap .. | .ingestCommit .. | .cascadeSessionStart .. | .cascadeSessionLoss ..
  | .bigTopUncorrectable .. | .seesawPop .. | .catalogueBundleSubmit .. | .storeBankProgrammed .. => true
  | _ => false

/-- The commands that can change a value of the catalogue: all but those listed. -/
def Instr.movesCatalogue : Instr → Bool
  | .porstNAssert .. | .railsLost .. | .wakeAlarm .. | .vbatLow .. | .batteryChangeOver .. | .dutyBucketRoll .. | .campaignBegin ..
  | .campaignEnd .. | .thermalHoldoffEnd .. | .halfCycle .. | .eapPskBootstrap .. | .uplinkRecord .. | .batchConfirmation ..
  | .quarantineEnd .. | .taiMidnight .. | .cascadeSessionStart .. | .cascadeSessionLoss .. | .ingestConfirmation .. | .downwardCommand ..
  | .uplinkRecordBatch .. | .rekeyMark .. | .maskRefresh .. | .entropyRecovered .. | .zeroizeRelease .. | .timeIncrWrite ..
  | .snapCapture .. | .tsqPop .. | .pauseQuantaExpiry .. | .pauseIgnoreEnd .. | .pauseRepeat .. | .queueDoneCoalesce ..
  | .mailboxResponseFree .. | .intCauseClear .. | .intEnableWrite .. | .logBoundsCmd .. | .logFreezeCmd .. | .bar0BadAccess ..
  | .gcGroupWrite .. | .erasePendingWrite .. | .blockErase .. | .readRefresh .. | .wearLevelling .. | .checkpoint .. | .bankPowerOff ..
  | .bankClearComplete .. | .capSessionStart .. | .bistSlice .. | .plcThermNRelease .. | .ptpDelayResp .. | .ptpPdelayReq ..
  | .ddrPatrolScrub .. | .lqtAgeing .. | .drbgReseed .. | .jugglerRotationTest .. => false
  | _ => true

/-- The commands that can change the CAP sessions. -/
def Instr.movesSessions : Instr → Bool
  | .porstNRelease .. | .internalRestart .. | .powerStateSetActive .. | .powerStateSetStandby .. | .powerStateSetSleep ..
  | .powerStateSetRestart .. | .iqRetrain .. | .stageItem .. | .stageWithdraw .. | .campaignStart .. | .linkQualityRead ..
  | .resultCommit .. | .endpointAdmit .. | .endpointAdmitMove .. | .endpointRemove .. | .endpointRead .. | .keyUpdateSubmit ..
  | .attestRequest .. | .tariffSetSubmit .. | .billingRead .. | .snapshotRead .. | .topUp .. | .debtSet .. | .lockOutSet ..
  | .switchSubmit .. | .emergencyAccept .. | .nodeWrite .. | .nodeRead .. | .scoreReset .. | .timeSet .. | .servoOwnerChange ..
  | .taiUtcOffsetWrite .. | .pcieLinkUp .. | .pcieLinkDown .. | .storageRead .. | .storageWrite .. | .storageDiscard .. | .storageFormat ..
  | .batteryRingRead .. | .batteryRingAck .. | .logRead .. | .logBounds .. | .legalFreeze .. | .legalThaw .. | .legalExport ..
  | .capSessionStart .. | .capSessionEnd .. | .rs485Frame .. | .capRead .. | .capWrite .. | .capBulkData .. | .capResultRead ..
  | .capAbort .. | .bulkIdleTimeout .. | .catalogueBundleSubmit .. | .storeBankProgrammed .. | .sealSubmit .. | .trustAnchorSubmit ..
  | .firmwareSubmit .. | .firmwareEpochCommit .. | .claspAlarmClear .. | .gateReopen .. | .gateProofTest .. | .bistStart ..
  | .patinaMeasureCmd .. | .patinaRecalibrate .. => true
  | _ => false

end Sys2Proof

namespace Sys2Proof.Machine

/-- The counter within its bounds: nanoseconds below 10^9, a 32-bit fraction, 48 bits of seconds (R246); the increment within 3.998 to
4.002 ns (R247). -/
abbrev Calliope.ok (t : Calliope) : Prop :=
  t.ns < nsPerS ∧ t.frac < fracPerNs ∧ t.sec < 2 ^ 48 ∧ incrMin ≤ t.incr ∧ t.incr ≤ incrMax

/-- Big Top in its canonical form (R338): lines listed in rising order, and none that is zero, as an unlisted line reads. -/
def Memory.wf (m : Memory) : Bool := Tab.rising m.lines && m.lines.all fun e => e.2 != 0

/-- What every step keeps. -/
abbrev State.Sound (s : State) : Prop := s.time.ok ∧ s.mem.wf = true

/-- A request that CAP carries out (R359 to R361): its session `ses` is open, on the mailbox a request is taken, none of the kept responses
answers it, another request may be outstanding on it, the catalogue is ready. -/
abbrev State.Takes (s : State) (r : CapReq) (kind index sub : Nat) (ses : Session) : Prop :=
  tget s.sessions r.sess = some ses ∧ ses.closing = false ∧ (r.sess = 0 → s.hif.mb.busy = true) ∧
    (ses.kept.find? fun p => p.tag == r.tag && p.kind == kind && p.index == index && p.sub == sub) = none ∧
    s.outstanding r.sess < capDepth r.sess ∧ s.catalogueReady = true

/-- An Execute of a command object that CAP carries out: its principal may execute the object (R366). -/
abbrev State.Admits (s : State) (r : CapReq) (k : Nat) (ses : Session) : Prop :=
  s.Takes r 3 (k / 256) (k % 256) ses ∧ ses.mayExec k = true

/-- The response last sent on the session of a request answers it with an outcome (R356, R357). -/
abbrev State.Replied (t : State) (r : CapReq) (kind index sub : Nat) (o : CapOut) : Prop :=
  ((tget t.sessions r.sess).bind fun ses => ses.resp) = some (o.toResp r.tag kind index sub)

/-- The same of an Execute of a command object. -/
abbrev State.Answered (t : State) (r : CapReq) (k : Nat) (o : CapOut) : Prop := t.Replied r 3 (k / 256) (k % 256) o

/-- A start that runs through to the end (R412): clocks, image A, both Ringmaster pairs, DDR and NAND in order, PFI_N released, the role
as before, store 11 blank over erased NAND or a bank of it that passes over intact mirrors. -/
abbrev State.Startable (s : State) (b : Board) : Prop :=
  b.pllOk = true ∧ s.imagePasses 0 = true ∧ b.bist0Ok = true ∧ b.bist1Ok = true ∧ s.pins.pfi = false ∧ 2 ≤ b.ddrGiB ∧ b.nandOk = true ∧
    s.pw.regional = false ∧
    (match s.stores[11]? with
     | some p => (Nat.ble p.a.state 1 && Nat.ble p.b.state 1 && b.nandErased) || (p.a.state == 2 && b.mirrorsOk)
     | none => false) = true

end Sys2Proof.Machine
end

