-- ==== Sys2Proof/Certificates/Slice0/Obligations.lean ====
section
/-! DEFINITION. The statements about this model that are to be proved, by group of commands. -/

open Sys2Proof Sys2Proof.Machine

/-- PORST_N_RELEASE and INTERNAL_RESTART (R412): where nothing stops the start (`State.Startable`), the sequence runs to its last stage:
stage 0x0D, PowerState 0, StartTimeMs as taken. The release of PORST_N does so even after the stop of R426, the internal restart only
without it. -/
def Obligations.StartRunsThrough : Prop :=
  ∀ (s : State) (b : Board), s.Startable b →
    (s.pins.porst = true →
      ∃ t, exec (.porstNRelease b) s = .next t ∧ t.pw.stage = 0x0D ∧ t.get Obj.powerState = 0 ∧ t.get Obj.startTimeMs = b.startMs) ∧
    (s.mayRestart = true → s.pw.stoppedByLimit = false →
      ∃ t, exec (.internalRestart b) s = .next t ∧ t.pw.stage = 0x0D ∧ t.get Obj.powerState = 0 ∧ t.get Obj.startTimeMs = b.startMs)

/-- R413: a clock that does not lock stops the start at 0x82, no image that passes at 0xF0 (recovery), a Ringmaster pair whose BIST fails at
0x84, PFI_N asserted holds it at step 5 with its board kept, DDR below 2 GiB stops it at 0x86. -/
def Obligations.StartStopsAtItsStep : Prop :=
  ∀ (s : State) (b : Board), s.pins.porst = true →
    ∃ t, exec (.porstNRelease b) s = .next t ∧
      (b.pllOk = false → t.pw.stage = 0x82) ∧
      (b.pllOk = true → s.imagePasses 0 = false → s.imagePasses 1 = false → t.pw.stage = 0xF0) ∧
      (b.pllOk = true → s.imagePasses 0 = true → (b.bist0Ok && b.bist1Ok) = false → t.pw.stage = 0x84) ∧
      (b.pllOk = true → s.imagePasses 0 = true → b.bist0Ok = true → b.bist1Ok = true → s.pins.pfi = true →
        t.pw.stage = 5 ∧ t.pw.held = some b) ∧
      (b.pllOk = true → s.imagePasses 0 = true → b.bist0Ok = true → b.bist1Ok = true → s.pins.pfi = false → b.ddrGiB < 2 →
        t.pw.stage = 0x86)

/-- PFI_N_ASSERT and PWR_SAFE_ASSERT (R419): while the part runs and no sequence runs, the assertion starts one with cause 1, PowerState 3,
GateState 3, SAFE_N asserted and Casket suspended; at the end everything committed is programmed, ActiveMark is cleared, the operating time
is copied and PWR_SAFE is asserted. -/
def Obligations.PowerFailSequence : Prop :=
  (∀ s : State, s.pastFive = true → s.pw.cause = 0 →
    ∃ t, exec .pfiNAssert s = .next t ∧ t.pins.pfi = true ∧ t.pw.cause = 1 ∧ t.get Obj.powerState = 3 ∧ t.get Obj.gateState = 3 ∧
      t.pins.safe = true ∧ t.cask.suspended = true) ∧
  (∀ s : State, s.pastFive = true → s.pw.cause ≠ 0 → s.pins.pwrSafe = false →
    ∃ t, exec .pwrSafeAssert s = .next t ∧ t.pins.pwrSafe = true ∧ t.bat.activeMark = false ∧ t.cask.dirty = 0 ∧ t.nandProg = t.nand ∧
      t.bat.opTime = s.nat Obj.operatingTimeMs)

/-- PORST_N_ASSERT (R452, R404), PFI_N_RELEASE (R421), RAILS_LOST (R416), BATTERY_CHANGE_OVER (R453), WAKE_ALARM and VBAT_LOW (R418): PORST_N
stops the part at once with SAFE_N asserted, commits not yet programmed gone unless PWR_SAFE stands, and every modelled output ball but
PWR_SAFE takes its level in reset of R457; the release of PFI_N arms the
restart delay; the loss of the rails leaves the battery domain on VBAT; VBAT takes over below 2.95 V and hands back above 3.00 V; the alarm
and a low VBAT drive WAKE_REQ. -/
def Obligations.PinsAndSupply : Prop :=
  (∀ s : State, s.pins.porst = false → s.pw.rails = true →
    ∃ t, exec .porstNAssert s = .next t ∧ t.pins.porst = true ∧ t.pins.safe = true ∧ t.pw.stage = 0 ∧ t.time = s.time ∧ t.bat = s.bat ∧
      (s.pins.pwrSafe = false → s.cask.dirty ≠ 0 → t.nand = s.nandProg ∧ t.cask.dirty = 0) ∧
      (s.pins.pwrSafe = true → t.nand = s.nand) ∧ (∀ b : Ball, b ≠ .pwrSafe → t.ballHigh b = b.highInReset)) ∧
  (∀ s : State, s.pw.held = none → bit s.bat.stuck 11 = false →
    ∃ t, exec .pfiNRelease s = .next t ∧ t.pins.pfi = false ∧ t.pw.releasedAt = some s.now ∧ t.pw.cause = s.pw.cause ∧ t.cat = s.cat) ∧
  (∀ s : State, s.pw.rails = true → s.pins.porst = true → s.bat.vbat = true →
    ∃ t, exec .railsLost s = .next t ∧ t.pw.rails = false ∧ t.pins.safe = true ∧ t.bat.onVbat = true ∧ t.bat.rtc = s.bat.rtc ∧
      t.nand = s.nand ∧ t.cat = s.cat) ∧
  (∀ (s : State) (mv : Nat), mv < 2950 →
    ∃ t, exec (.batteryChangeOver mv true) s = .next t ∧ t.bat.onVbat = true ∧ t.bat.vbat = true ∧ t.bat.rtc = s.bat.rtc) ∧
  (∀ (s : State) (mv : Nat), 3000 < mv →
    ∃ t, exec (.batteryChangeOver mv true) s = .next t ∧ t.bat.onVbat = false ∧ t.bat.rtc = s.bat.rtc) ∧
  (∀ (s : State) (mv : Nat), mv < 2950 →
    ∃ t, exec (.batteryChangeOver mv false) s = .next t ∧ t.bat.lost = true ∧ t.bat.rtcValid = false ∧ t.bat.salt = 0 ∧
      t.pins.wakeReq = false) ∧
  (∀ s : State, s.claspRuns = true → s.bat.wakeAlarm ≠ 0 → s.bat.wakeAlarm ≤ s.bat.rtc / 32768 →
    ∃ t, exec .wakeAlarm s = .next t ∧ t = { s with pins.wakeReq := true }) ∧
  (∀ s : State, s.claspRuns = true → ∃ t, exec .vbatLow s = .next t ∧ t = { s with pins.wakeReq := true })

/-- POWER_STATE_SET_ACTIVE, _STANDBY, _SLEEP, _RESTART (R417, R418) and STANDBY_ENTERED (R417): each accepted request is answered OK; 1
asks for Standby, 0 returns from it, 2 and 3 run the power-fail sequence with their cause; Standby is entered once the last committed frame
has completed, with the gate closed, SAFE_N asserted and no frame left. -/
def Obligations.PowerStateCommands : Prop :=
  (∀ (s : State) (r : CapReq) (ses : Session), s.Admits r Obj.powerStateSet ses → s.nat Obj.powerState = 1 →
    ∃ t, exec (.powerStateSetActive r) s = .next t ∧ t.Answered r Obj.powerStateSet capOk ∧ t.get Obj.powerState = 0) ∧
  (∀ (s : State) (r : CapReq) (ses : Session), s.Admits r Obj.powerStateSet ses → s.serving = true → s.pw.standby = false →
    ∃ t, exec (.powerStateSetStandby r) s = .next t ∧ t.Answered r Obj.powerStateSet capOk ∧ t.pw.standby = true ∧
      t.get Obj.powerState = s.get Obj.powerState) ∧
  (∀ (s : State) (r : CapReq) (ses : Session), s.Admits r Obj.powerStateSet ses → s.up = true →
    ∃ t, exec (.powerStateSetSleep r) s = .next t ∧ t.Answered r Obj.powerStateSet capOk ∧ t.pw.cause = 2 ∧ t.get Obj.powerState = 3 ∧
      t.get Obj.gateState = 3 ∧ t.pins.safe = true) ∧
  (∀ (s : State) (r : CapReq) (ses : Session), s.Admits r Obj.powerStateSet ses → s.up = true →
    ∃ t, exec (.powerStateSetRestart r) s = .next t ∧ t.Answered r Obj.powerStateSet capOk ∧ t.pw.cause = 3 ∧ t.get Obj.powerState = 3 ∧
      t.get Obj.gateState = 3 ∧ t.pins.safe = true) ∧
  (∀ s : State, s.serving = true → s.pw.standby = true → s.frames = [] →
    ∃ t, exec .standbyEntered s = .next t ∧ t.get Obj.powerState = 1 ∧ t.get Obj.gateState = 3 ∧ t.pins.safe = true ∧
      t.pw.standby = false ∧ t.frames = [])

/-- DDR_UNCORRECTABLE, BIG_TOP_UNCORRECTABLE (R424, R425, R342) and DDR_PATROL_SCRUB (R460): the error leaves the power-fail sequence with
cause 4 run to PWR_SAFE and counts towards the limit of R426; the patrol scrub changes nothing that shows. -/
def Obligations.UncorrectableErrors : Prop :=
  (∀ (s : State) (fr : List Nat), s.pastFive = true → s.pins.pwrSafe = false → s.pw.cause = 0 →
    ∃ t, exec (.ddrUncorrectable fr) s = .next t ∧ t.pins.pwrSafe = true ∧ t.pw.cause = 4 ∧ t.cask.dirty = 0) ∧
  (∀ (s : State) (addr : Nat) (fr : List Nat), s.pastFive = true → s.pins.pwrSafe = false → s.pw.cause = 0 →
    bankOf (lineAt addr) < 8 → s.bank (bankOf (lineAt addr)) = 0 →
    ∃ t, exec (.bigTopUncorrectable addr false fr) s = .next t ∧ t.pins.pwrSafe = true ∧ t.pw.cause = 4 ∧ t.cask.dirty = 0) ∧
  (∀ s : State, exec .ddrPatrolScrub s = .next s)

/-- SEAL_SUBMIT (R384): an open whose checks pass and whose fuse reads back burnt leaves the part unsealed with one break more; a fuse that
does not read back burnt answers CONTAINER 9 with nothing broken. SEAL_SUBMIT 2, SEAL_N_RELEASE and UNSEAL_MAX_EXPIRY (R385) end an
unsealed state; after the 64th break it ends exhausted. -/
def Obligations.SealOpensAndCloses : Prop :=
  (∀ (s : State) (r : CapReq) (ses : Session) (e : Epmeir) (a : SealArg), s.Admits r Obj.sealSubmit ses → s.sealCheck e a = none →
    a.action = 1 →
    ∃ t, exec (.sealSubmit r e a true) s = .next t ∧ t.Answered r Obj.sealSubmit capOk ∧ t.get Obj.sealState = 1 ∧
      t.hall.fuses = s.hall.fuses + 1 ∧ t.get Obj.sealCounter = (s.hall.fuses + 1 : Nat) ∧ t.hall.writes = 0 ∧ t.hall.openAt = s.now) ∧
  (∀ (s : State) (r : CapReq) (ses : Session) (e : Epmeir) (a : SealArg), s.Admits r Obj.sealSubmit ses → s.sealCheck e a = none →
    a.action = 1 →
    ∃ t, exec (.sealSubmit r e a false) s = .next t ∧ t.Answered r Obj.sealSubmit (capErr 14 9) ∧ t.hall = s.hall ∧
      t.get Obj.sealState = s.get Obj.sealState) ∧
  (∀ (s : State) (r : CapReq) (ses : Session) (e : Epmeir) (a : SealArg), s.Admits r Obj.sealSubmit ses → s.sealCheck e a = none →
    a.action = 2 →
    ∃ t, exec (.sealSubmit r e a true) s = .next t ∧ t.Answered r Obj.sealSubmit capOk ∧ t.hall = s.hall ∧
      t.get Obj.sealState = if 64 ≤ s.hall.fuses then 2 else 0) ∧
  (∀ s : State, s.awake = true → s.nat Obj.sealState = 1 → bit s.bat.stuck 10 = false →
    ∃ t, exec .sealNRelease s = .next t ∧ t.pins.sealN = false ∧ t.hall = s.hall ∧
      t.get Obj.sealState = if 64 ≤ s.hall.fuses then 2 else 0) ∧
  (∀ s : State, s.awake = true → s.nat Obj.sealState = 1 → s.elapsedS s.hall.openAt (s.nat Obj.unsealMaxS) = true →
    ∃ t, exec .unsealMaxExpiry s = .next t ∧ t.hall = s.hall ∧ t.pins = s.pins ∧
      t.get Obj.sealState = if 64 ≤ s.hall.fuses then 2 else 0) ∧
  (∀ s : State, ∃ t, exec .sealNAssert s = .next t ∧ t.pins = { s.pins with sealN := true, sealStamp := t.pins.sealStamp } ∧ t.hall = s.hall ∧
    t.get Obj.sealState = s.get Obj.sealState)

/-- TRUST_ANCHOR_SUBMIT (R378), FIRMWARE_SUBMIT (R381), FIRMWARE_EPOCH_COMMIT (R381): a container that passes its checks has its effect: the
anchors after every entry in order, by role; the image in the slot not in force; FirmwareEpoch raised to that of the image in force, never
lowered. A container that fails a check is refused with the number of that check, and the keys and images stay. -/
def Obligations.AnchorsAndFirmware : Prop :=
  (∀ (s : State) (r : CapReq) (ses : Session) (e : Epmeir) (en : List AnchorEntry) (l : List Anchor),
    s.Admits r Obj.trustAnchorSubmit ses → s.containerCheck e 6 false = none → s.ownerSigned e.signer = true →
    s.nat Obj.trustAnchorCounter < e.counter → applyAnchors (s.nat Obj.sealState != 1) s.allAnchors en = some l →
    (en.any (fun x => Nat.ble 5 x.role) = true → s.nat Obj.mediaState = 0) →
    ∃ t, exec (.trustAnchorSubmit r e en) s = .next t ∧ t.Answered r Obj.trustAnchorSubmit capOk ∧
      t.loc.anchors = l.filter (fun a => Nat.ble a.role 4) ∧ t.nand.anchors = l.filter (fun a => Nat.ble 5 a.role)) ∧
  (∀ (s : State) (r : CapReq) (ses : Session) (e : Epmeir) (en : List AnchorEntry) (n : Nat),
    s.Admits r Obj.trustAnchorSubmit ses → s.containerCheck e 6 false = some n →
    ∃ t, exec (.trustAnchorSubmit r e en) s = .next t ∧ t.Answered r Obj.trustAnchorSubmit (capErr 14 n) ∧
      t.loc = s.loc ∧ t.nand.anchors = s.nand.anchors) ∧
  (∀ (s : State) (r : CapReq) (ses : Session) (e : Epmeir) (f : FirmwareArg), s.Admits r Obj.firmwareSubmit ses →
    s.firmwareCheck e f = none → f.readBackOk = true → f.bringsModule = false →
    ∃ t, exec (.firmwareSubmit r e f) s = .next t ∧ t.Answered r Obj.firmwareSubmit capOk ∧
      t.fw = s.fw.write e.counter f.legalHash true ∧ t.nand.legalSlots = s.nand.legalSlots) ∧
  (∀ (s : State) (r : CapReq) (ses : Session), s.Admits r Obj.firmwareEpochCommit ses →
    ∃ t, exec (.firmwareEpochCommit r 1) s = .next t ∧ t.Answered r Obj.firmwareEpochCommit capOk ∧
      t.hall.epoch = Nat.max s.hall.epoch (s.fw.counter / 2 ^ 56) ∧ t.hall.fuses = s.hall.fuses ∧
      t.get Obj.firmwareEpoch = (Nat.max s.hall.epoch (s.fw.counter / 2 ^ 56) : Nat))

/-- TAMPER_ACTIVATION, TAMPER_STUCK, TAMPER_RELEASE, CLASP_ALARM_CLEAR (R387, R388, R390): an enabled source counts and shows active; with
response 1 its alarm bit is set and WAKE_REQ driven; while the part sleeps the event is queued; 24 h of activity marks the source stuck, its
release re-arms it; the clear takes the bits written as 1; a source whose bit in TamperEnable is clear does not act. -/
def Obligations.TamperSources : Prop :=
  (∀ (s : State) (n : Nat) (x : Source), s.claspRuns = true → s.awake = false → n ≤ 8 → bit s.bat.tamperEnable n = true →
    s.tamperResponse n = 1 → s.bat.sources[n]? = some x → s.bat.sleepQueue.length < 16 →
    ∃ t, exec (.tamperActivation n) s = .next t ∧ bit t.bat.claspAlarm n = true ∧ t.pins.wakeReq = true ∧
      (t.bat.sources[n]?).map (fun y => (y.count, y.active)) = some (satAdd 0xFFFFFFFF x.count 1, true) ∧
      t.bat.sleepQueue.length = s.bat.sleepQueue.length + 1 ∧ t.cat = s.cat ∧ t.nand = s.nand ∧ t.loc = s.loc) ∧
  (∀ (s : State) (n : Nat), bit s.bat.tamperEnable n = false → exec (.tamperActivation n) s = .next s) ∧
  (∀ (s : State) (n : Nat) (x : Source), s.claspRuns = true → n ≤ 11 → bit s.bat.stuck n = false → s.bat.sources[n]? = some x →
    x.active = true → x.since + 86400 * 32768 ≤ s.bat.rtc →
    ∃ t, exec (.tamperStuck n) s = .next t ∧ bit t.bat.stuck n = true ∧ t.bat.sources = s.bat.sources ∧ t.pins = s.pins) ∧
  (∀ (s : State) (n : Nat), s.claspRuns = true → bit s.bat.stuck n = true →
    ∃ t, exec (.tamperRelease n) s = .next t ∧ bit t.bat.stuck n = false ∧ t.pins = s.pins) ∧
  (∀ (s : State) (r : CapReq) (ses : Session) (mask : Nat), s.Admits r Obj.claspAlarmClear ses →
    ∃ t, exec (.claspAlarmClear r mask) s = .next t ∧ t.Answered r Obj.claspAlarmClear capOk ∧
      (∀ n, n < 32 → bit t.bat.claspAlarm n = (bit s.bat.claspAlarm n && !bit mask n)) ∧ t.bat.stuck = s.bat.stuck)

/-- R283: an access of a wrong size or alignment has no effect, and a read of that kind returns all ones. -/
def Obligations.BadBarAccess : Prop :=
  ∀ s : State, s.bar = true →
    exec (.bar0BadAccess false) s = .next s ∧ exec (.bar0BadAccess true) s = .next { s with hif.lastRead := 0xFFFFFFFF }

/-- INT_CAUSE_CLEAR, INT_ENABLE_WRITE (R285), MAILBOX_DOORBELL and MAILBOX_RESPONSE_FREE (R287): the clear takes exactly the bits written as
1; the enable register takes its 24 bits; a cause that becomes enabled while set sends one message on its unmasked vector and no other
vector sends; a doorbell on a free mailbox sets Busy and MailboxFree; on a busy one it counts and changes nothing else of the host
interface; the response buffer is freed. -/
def Obligations.InterruptRegisters : Prop :=
  (∀ (s : State) (v : Word), s.bar = true →
    ∃ t, exec (.intCauseClear v) s = .next t ∧ t.cat = s.cat ∧ t.hif = { s.hif with cause := t.hif.cause } ∧
      ∀ n, n < 32 → bit t.hif.cause n = (bit s.hif.cause n && !bit v.toNat n)) ∧
  (∀ (s : State) (v : Word), s.bar = true →
    ∃ t, exec (.intEnableWrite v) s = .next t ∧ t.hif.enable = v.toNat % 16777216 ∧ t.hif.cause = s.hif.cause ∧ t.cat = s.cat ∧
      ∀ n, n < 24 → ((tget s.hif.msix (4 * n + 3)).getD 1) % 2 = 0 →
        (tget t.hif.sent n).getD 0 = (tget s.hif.sent n).getD 0 +
          (if bit s.hif.cause n && bit v.toNat n && !bit s.hif.enable n then 1 else 0)) ∧
  (∀ (s : State) (v : Word), s.bar = true → s.hif.mb.busy = false → s.hif.mb.valid = false → s.flag Obj.mailboxCapEnable = true →
    1 ≤ v.toNat → v.toNat ≤ 512 →
    ∃ t, exec (.mailboxDoorbell v) s = .next t ∧ t.hif.mb = { s.hif.mb with busy := true } ∧ bit t.hif.cause 17 = true ∧
      t.sessions = s.sessions) ∧
  (∀ (s : State) (v : Word), s.bar = true → s.hif.mb.busy = true → s.nat Obj.mailboxBusyWrites < 4294967295 →
    ∃ t, exec (.mailboxDoorbell v) s = .next t ∧ t.hif = s.hif ∧
      t.get Obj.mailboxBusyWrites = (s.nat Obj.mailboxBusyWrites + 1 : Nat)) ∧
  (∀ s : State, s.bar = true → exec .mailboxResponseFree s = .next { s with hif.mb.valid := false })

/-- HQ_DOORBELL (R286), HOST_QUEUE_ENABLE, HOST_QUEUE_DISABLE, DRAIN_COMPLETE (R289), QUEUE_DONE_COALESCE (R288) and DMA_FAULT (R293): a
doorbell beyond the ring is ignored and counted; one within it moves the tail; enabling a ring that is refused leaves Enable 0 with BindRefused
set; a Midway ring drains before it runs, and drains again before it returns; a queue of another kind stops at once; a pending
completion is signalled; a fault stops the queue. -/
def Obligations.HostQueueBinding : Prop :=
  (∀ (s : State) (q : Nat) (tail : Word) (h : HostQueue) (posted : List (Nat × Nat)), s.bar = true → s.hqOf q = some h →
    bit h.ctrl 0 = true → (tail.toNat + 4294967296 - h.head) % 4294967296 ≤ 2 ^ h.size →
    (tail.toNat + 4294967296 - h.tail) % 4294967296 = posted.length → posted.length ≤ 2 ^ h.size →
    ∃ t, exec (.hqDoorbell q tail posted) s = .next t ∧ (t.hqOf q).map (·.tail) = some tail.toNat ∧
      (h.running = false → (t.hqOf q).map (·.posted) = some (h.posted ++ posted))) ∧
  (∀ (s : State) (q : Nat) (tail : Word) (h : HostQueue), s.bar = true → s.hqOf q = some h → bit h.ctrl 0 = true →
    2 ^ h.size < (tail.toNat + 4294967296 - h.head) % 4294967296 → s.nat Obj.doorbellErrors < 4294967295 →
    ∃ t, exec (.hqDoorbell q tail []) s = .next t ∧
      (t.hqOf q).map (fun x => (x.tail, x.posted, x.doorbellError)) = some (h.tail, h.posted, true) ∧
      t.get Obj.doorbellErrors = (s.nat Obj.doorbellErrors + 1 : Nat)) ∧
  (∀ (s : State) (q : Nat) (ctrl : Word) (h : HostQueue), s.bar = true → s.hqOf q = some h → bit h.ctrl 0 = false →
    4 ≤ bits ctrl.toNat 4 1 → s.bindRefused q (setBit (setBit ctrl.toNat 10 false) 11 false) = false → bit ctrl.toNat 0 = true →
    ∃ t, exec (.hostQueueEnable q ctrl) s = .next t ∧
      (t.hqOf q).map (fun x => (bit x.ctrl 0, x.draining, x.running)) = some (true, true, h.running) ∧ t.cat = s.cat ∧ t.ports = s.ports) ∧
  (∀ (s : State) (q : Nat) (ctrl : Word) (h : HostQueue), s.bar = true → s.hqOf q = some h → bit h.ctrl 0 = false →
    s.bindRefused q (setBit (setBit ctrl.toNat 10 false) 11 false) = true →
    ∃ t, exec (.hostQueueEnable q ctrl) s = .next t ∧
      (t.hqOf q).map (fun x => (bit x.ctrl 0, x.bindRefused, x.running)) = some (false, true, h.running) ∧ t.cat = s.cat) ∧
  (∀ (s : State) (q : Nat) (h : HostQueue), s.bar = true → s.hqOf q = some h → bit h.ctrl 0 = true → 4 ≤ bits h.ctrl 4 1 →
    h.draining = false →
    ∃ t, exec (.hostQueueDisable q) s = .next t ∧
      (t.hqOf q).map (fun x => (bit x.ctrl 0, x.draining, x.releasing)) = some (false, true, true)) ∧
  (∀ (s : State) (q : Nat) (h : HostQueue), s.bar = true → s.hqOf q = some h → bit h.ctrl 0 = true → bits h.ctrl 4 1 < 4 → h.posted = [] →
    ∃ t, exec (.hostQueueDisable q) s = .next t ∧
      (t.hqOf q).map (fun x => (bit x.ctrl 0, x.running)) = some (false, false)) ∧
  (∀ (s : State) (q : Nat) (h : HostQueue), s.hqOf q = some h → h.draining = true → h.releasing = true → h.posted = [] →
    ∃ t, exec (.drainComplete q) s = .next t ∧
      (t.hqOf q).map (fun x => (x.running, x.draining, x.releasing)) = some (false, false, false)) ∧
  (∀ (s : State) (q : Nat) (h : HostQueue), s.awake = true → q < 16 → s.hqOf q = some h → h.uncounted ≠ 0 → bits h.ctrl 31 20 ≠ 0 →
    ∃ t, exec (.queueDoneCoalesce q) s = .next t ∧ bit t.hif.cause q = true ∧ (t.hqOf q).map (·.uncounted) = some 0) ∧
  (∀ (s : State) (q : Nat) (h : HostQueue), s.awake = true → s.hqOf q = some h → h.running = true → h.posted = [] → bits h.ctrl 4 1 = 1 →
    s.nat Obj.dmaFaults < 4294967295 →
    ∃ t, exec (.dmaFault q) s = .next t ∧ (t.hqOf q).map (fun x => (x.fault, x.running)) = some (true, false) ∧
      bit t.hif.cause 23 = true ∧ t.get Obj.dmaFaults = (s.nat Obj.dmaFaults + 1 : Nat) ∧ t.nand.retained = s.nand.retained)

/-- REGISTER_WRITE (R14, R283), RC_READ (R15), PCIE_LINK_UP and PCIE_LINK_DOWN (R282, R293): HIF_SCRATCH holds what was written; a write to the
identity registers or a reserved offset changes nothing; HIF_HQ_SIZE takes 6 to 12 while Enable is 0 and nothing while it is 1; a read
of HIF_HQ_COMPLETED returns the count and clears it; the link sets HostLink and opens the mailbox session, and its loss clears
HostLink and Bus Master Enable. -/
def Obligations.BarRegisters : Prop :=
  (∀ (s : State) (v : Word), s.bar = true → exec (.registerWrite 0x0014 v) s = .next { s with hif.scratch := v.toNat }) ∧
  (∀ (s : State) (v : Word) (off : Nat), s.bar = true → off < 0x0014 → exec (.registerWrite off v) s = .next s) ∧
  (∀ (s : State) (v : Word) (off : Nat), s.bar = true → 0x4000 ≤ off → off < 0x8000 → exec (.registerWrite off v) s = .next s) ∧
  (∀ (s : State) (q : Nat) (v : Word) (h : HostQueue), s.bar = true → q < 16 → s.hqOf q = some h → 6 ≤ v.toNat → v.toNat ≤ 12 →
    ∃ t, exec (.registerWrite (0x1000 + 0x100 * q + 0x10) v) s = .next t ∧
      (t.hqOf q).map (·.size) = some (if bit h.ctrl 0 then h.size else v.toNat)) ∧
  (∀ (s : State) (q : Nat) (h : HostQueue), s.bar = true → q < 16 → s.hqOf q = some h →
    ∃ t, exec (.rcRead (0x1000 + 0x100 * q + 0x20)) s = .next t ∧ t.hif.lastRead = s.nat (hqKey q 0x20) ∧
      t.get (hqKey q 0x20) = 0 ∧ ∀ k, k ≠ hqKey q 0x20 → t.get k = s.get k) ∧
  (∀ (s : State) (gen width : Nat), s.up = true → s.forced Obj.hostEnable ≠ 0 → 1 ≤ gen → gen ≤ 3 →
    ∃ t, exec (.pcieLinkUp gen width) s = .next t ∧ t.get Obj.hostLink = (gen % 16 + 16 * width : Nat) ∧ t.hif.busMaster = true ∧
      (tget t.sessions 0).isSome = true) ∧
  (∀ s : State, s.hostUp = true → s.freeze = none → s.sessions = [] →
    ∃ t, exec .pcieLinkDown s = .next t ∧ t.get Obj.hostLink = 0 ∧ t.hif.busMaster = false ∧ t.sessions = [] ∧
      t.hif.cause = s.hif.cause)

/-- R247: the fraction is written first and has no effect of its own; the write of HIF_TIME_INCR_INT loads both halves together; a value outside
3.998 to 4.002 ns (in units of 2^-32 ns, `incrMin` and `incrMax`) loads the nearer limit and sets IncrClamped; after reset the increment is
nominal. TIME_INCR_WRITE and the write of the register at 0x200C are one. -/
def Obligations.IncrementIsLimited : Prop :=
  (∀ (s : State) (v : Word), s.bar = true → s.nat Obj.servoOwner = 1 →
    exec (.registerWrite 0x2008 v) s = .next { s with time.incrFrac := v.toNat }) ∧
  (∀ (s : State) (v : Word), s.bar = true → s.nat Obj.servoOwner = 1 →
    ∃ t, exec (.timeIncrWrite v) s = .next t ∧ exec (.registerWrite 0x200C v) s = .next t ∧
      (incrMin ≤ v.toNat * 4294967296 + s.time.incrFrac → v.toNat * 4294967296 + s.time.incrFrac ≤ incrMax →
        t.time.incr = v.toNat * 4294967296 + s.time.incrFrac ∧ t.time.incrClamped = s.time.incrClamped) ∧
      (v.toNat * 4294967296 + s.time.incrFrac < incrMin → t.time.incr = incrMin ∧ t.time.incrClamped = true) ∧
      (incrMax < v.toNat * 4294967296 + s.time.incrFrac → t.time.incr = incrMax ∧ t.time.incrClamped = true) ∧
      t.time.incr = t.time.incrInt * 4294967296 + t.time.incrFrac ∧ t.time.sec = s.time.sec ∧ t.time.ns = s.time.ns ∧
      t.time.frac = s.time.frac ∧ t.cat = s.cat) ∧
  State.reset.time.incr = 4 * 4294967296 ∧
  1000 * incrMin ≤ 3998 * 4294967296 + 1000 ∧ 3998 * 4294967296 ≤ 1000 * incrMin ∧
  4002 * 4294967296 ≤ 1000 * incrMax + 1000 ∧ 1000 * incrMax ≤ 4002 * 4294967296

/-- R246: at every cycle of the TIME domain with no step waiting the increment is added to the nanoseconds and the fraction, and 10^9 ns carry
into the seconds. An
empty queue idles one cycle (the model's choice, log entry 3); while the part is held in reset the counter stands. -/
def Obligations.IdleStepCounts : Prop :=
  (∀ s : State, s.pending = [] → s.awake = true → s.time.ok → s.time.step = none → s.time.sec + 1 < 2 ^ 48 →
    ∃ t, step s = .next t ∧ t.pending = [] ∧
      (t.time.sec * nsPerS + t.time.ns) * fracPerNs + t.time.frac =
        (s.time.sec * nsPerS + s.time.ns) * fracPerNs + s.time.frac + s.time.incr) ∧
  (∀ s : State, s.pending = [] → s.awake = false →
    ∃ t, step s = .next t ∧ t.time = s.time ∧ t.cat = s.cat ∧ t.nand = s.nand)

/-- COUNTER_SECOND_ROLLOVER (R246): with no step waiting, the counter runs on to the first TIME cycle of its next
second. -/
def Obligations.SecondRollsOver : Prop :=
  ∀ s : State, s.awake = true → s.time.ok → s.time.step = none → s.time.sec + 1 < 2 ^ 48 →
    ∃ t, exec .counterSecondRollover s = .next t ∧ t.time.sec = s.time.sec + 1 ∧ t.time.ns ≤ 4 ∧ t.time.incr = s.time.incr

/-- TIME_STEP (R248, R249, R250, R264): the write of the upper word requests the step, the counter standing as it was. The next idle step, a
TIME cycle (the model's choice, log entry 3), first adds it: one whose result lies within 0 and 2^48 s is added and counted in StepsApplied,
and one no larger than BillingSlewThresholdMs leaves billing TAI where it is; a result outside is discarded and counted in StepsRefused. Then
the cycle counts. -/
def Obligations.StepsOfTheCounter : Prop :=
  (∀ (s : State) (v : Word), s.bar = true → s.nat Obj.servoOwner = 1 → s.time.step = none →
    ∃ t, exec (.timeStep v) s = .next t ∧ t.time.step = some (sgn 8 (s.time.stepLo + 4294967296 * v.toNat)) ∧ t.now = s.now ∧
      t.cat = s.cat ∧ t.nand = s.nand) ∧
  (∀ (s : State) (d : Int), s.pending = [] → s.awake = true → s.time.step = some d → s.time.lockSince = none → s.time.lag = 0 →
    s.time.ok → s.nat Obj.stepsApplied < 4294967295 → 0 ≤ (s.now : Int) + d → (s.now : Int) + d < (2 ^ 48 * nsPerS : Nat) →
    d.natAbs ≤ s.nat Obj.billingSlewThresholdMs * 1000000 →
    step s = .next (s.takeStep.count 1) ∧ s.takeStep.time.step = none ∧ (s.takeStep.now : Int) = (s.now : Int) + d ∧
      s.takeStep.time.ok ∧ s.takeStep.billNow = s.billNow ∧ s.takeStep.get Obj.stepsApplied = (s.nat Obj.stepsApplied + 1 : Nat) ∧ s.takeStep.clock = s.clock) ∧
  (∀ (s : State) (d : Int), s.pending = [] → s.awake = true → s.time.step = some d → s.time.lockSince = none →
    s.nat Obj.stepsRefused < 4294967295 →
    ((s.now : Int) + d < 0 ∨ (2 ^ 48 * nsPerS : Nat) ≤ (s.now : Int) + d) →
    step s = .next (s.takeStep.count 1) ∧ s.takeStep.time.step = none ∧ s.takeStep.now = s.now ∧ s.takeStep.time.lag = s.time.lag ∧
      s.takeStep.get Obj.stepsRefused = (s.nat Obj.stepsRefused + 1 : Nat))

/-- PTP_SYNC, PTP_DELAY_RESP, PPS_EDGE, PTP_ANNOUNCE, HOST_BEAT, HOST_HEARTBEAT_LAPSE, LOCK_QUALIFIED, SOURCE_LOST, HOLDOVER_LIMIT (R254 to
R257, R266, R267): a Sync of a port counts towards its qualification; the path delay is kept; the first PPS edge is noted; an announce
makes the seconds known; a heartbeat is kept with its claim; its lapse ends the host source and loads the mean increment; lock is gained
after LockQualifyS, lost with the source into holdover, and holdover ends in free-running. -/
def Obligations.ClockSources : Prop :=
  (∀ (s : State) (p : Nat) (x : PtpPort) (off : Int), s.up = true → s.nat Obj.ptpPortEnable = 2 ^ p → p ≤ 3 → s.time.ptp[p]? = some x →
    x.syncs < 7 → s.time.ptp.length = 4 → s.nat Obj.servoOwner = 0 → s.nat Obj.selectedSource = 0 → s.time.ppsEdges = 0 → s.time.beatAt = none →
    ∃ t, exec (.ptpSync p off) s = .next t ∧ (t.time.ptp[p]?).map (·.syncs) = some (x.syncs + 1) ∧ t.nat Obj.selectedSource = 0) ∧
  (∀ (s : State) (p : Nat) (d : Int) (x : PtpPort), s.up = true → s.bitOf Obj.ptpPortEnable p = true → s.time.ptp[p]? = some x →
    ∃ t, exec (.ptpDelayResp p d) s = .next t ∧ t.time.ptp[p]? = some { x with pathDelay := d } ∧ t.cat = s.cat) ∧
  (∀ s : State, s.up = true → s.time.ppsLast = 0 →
    exec .ppsEdge s = .next { s with time.ppsLast := s.now }) ∧
  (∀ (s : State) (p : Nat) (off : Int), s.up = true → s.bitOf Obj.ptpPortEnable p = true → p ≤ 3 → s.nat Obj.servoOwner = 1 →
    s.nat Obj.selectedSource = 6 → s.time.beatAt.isSome = true →
    ∃ t, exec (.ptpAnnounce p off false) s = .next t ∧ t.time.secondsKnown = true ∧ t.get Obj.selectedSource = 6) ∧
  (∀ (s : State) (v : Word), s.bar = true → s.nat Obj.servoOwner = 1 → s.nat Obj.selectedSource = 6 → s.time.beatAt.isSome = true →
    bit v.toNat 0 = false → s.clock = 2 →
    ∃ t, exec (.hostBeat v) s = .next t ∧ t.time.beatAt = some s.now ∧ t.time.beatBit = false ∧ t.time.lockSince = none ∧ t.clock = 2) ∧
  (∀ (s : State) (at_ : Nat), s.awake = true → s.nat Obj.servoOwner = 1 → s.time.beatAt = some at_ →
    at_ + s.nat Obj.hostHeartbeatMs * 1000000 ≤ s.now → s.clock = 2 →
    ∃ t, exec .hostHeartbeatLapse s = .next t ∧ t.time.beatAt = none ∧ t.nat Obj.selectedSource = 0 ∧
      t.time.incr = incrClamp (lockedMean s.time.locked)) ∧
  (∀ (s : State) (since : Nat), s.up = true → s.time.lockSince = some since → s.nat Obj.selectedSource ≠ 0 → s.offsetKnown = true →
    s.elapsedS since (s.nat Obj.lockQualifyS) = true → s.nand.spans = [] → s.nand.withheld = [] →
    ∃ t, exec .lockQualified s = .next t ∧ t.clock = 0) ∧
  (∀ s : State, s.up = true → s.nat Obj.servoOwner = 1 → s.nat Obj.selectedSource = 6 → s.clock = 0 → s.nand.spans = [] →
    s.nand.withheld = [] →
    ∃ t, exec .sourceLost s = .next t ∧ t.clock = 1 ∧ t.time.beatAt = none ∧ t.nat Obj.selectedSource = 0) ∧
  (∀ s : State, s.up = true → s.clock = 1 → s.elapsedS s.time.holdoverSince (s.nat Obj.holdoverLimitS) = true →
    s.nand.withheld = [] →
    ∃ t, exec .holdoverLimit s = .next t ∧ t.clock = 2)

/-- SNAP_CAPTURE (R249, R250), TSQ_POP (R261), RTC_HOURLY_WRITE (R258), LEAP_INSTANT (R267), TIME_SET (R259): the snapshot holds the counter, the
short stamp and the status; a pop removes the head; the RTC takes the counter's value; a leap at the end of a UTC day changes TaiUtcOffsetS
by one; TimeSet steps the counter to the value while no PTP or PPS source is selected and is refused with BUSY otherwise. -/
def Obligations.TimeCommands : Prop :=
  (∀ s : State, s.bar = true →
    exec .snapCapture s = .next { s with time.snap := { sec := s.time.sec, ns := s.time.ns, short := s.time.short, status := s.clock } }) ∧
  (∀ (s : State) (p : Nat) (q : TsQueue), s.awake = true → s.nat Obj.servoOwner = 0 → s.time.tsq[p]? = some q →
    ∃ t, exec (.tsqPop p) s = .next t ∧ t.time.tsq[p]? = some { q with entries := q.entries.drop 1 } ∧ t.hif = s.hif ∧ t.cat = s.cat) ∧
  (∀ s : State, s.awake = true → s.clock = 0 →
    ∃ t, exec .rtcHourlyWrite s = .next t ∧ t.bat.rtcValid = true ∧ t.bat.rtc = s.now * 32768 / nsPerS ∧ t.get Obj.rtcValid = 1 ∧
      t.time = s.time) ∧
  (∀ s : State, s.up = true → s.nat Obj.selectedSource = 1 → s.offsetKnown = true → 0 ≤ s.get Obj.taiUtcOffsetS →
    s.get Obj.taiUtcOffsetS ≤ 254 → ((s.billSec : Int) - (s.get Obj.taiUtcOffsetS + 1)) % 86400 = 0 → s.billSec ≠ s.nat Obj.lastLeap →
    ∃ t, exec (.leapInstant 1) s = .next t ∧ t.get Obj.taiUtcOffsetS = s.get Obj.taiUtcOffsetS + 1 ∧ t.time = s.time ∧ t.nand = s.nand) ∧
  (∀ (s : State) (r : CapReq) (ses : Session) (sec ns : Nat), s.Admits r Obj.timeSet ses → ns < nsPerS → sec < 2 ^ 48 →
    1 ≤ s.nat Obj.selectedSource → s.nat Obj.selectedSource ≤ 5 →
    ∃ t, exec (.timeSet r sec ns) s = .next t ∧ t.Answered r Obj.timeSet (capErr 6 0) ∧ t.time = s.time ∧ t.bat = s.bat) ∧
  (∀ (s : State) (r : CapReq) (ses : Session) (sec ns : Nat), s.Admits r Obj.timeSet ses → ns < nsPerS → sec < 2 ^ 48 →
    s.nat Obj.selectedSource = 0 → s.time.lockSince = none → s.nat Obj.servoOwner = 1 → s.time.beatAt = none →
    ∃ t, exec (.timeSet r sec ns) s = .next t ∧ t.Answered r Obj.timeSet capOk ∧ t.time.sec = sec ∧ t.time.ns = ns ∧
      t.bat.rtcValid = true)

/-- IQ_RETRAIN, IQ_TRAINING_PASS, IQ_TRAINING_TIMEOUT (R59), FRAME_SLIP, LOSS_OF_CLOCK, CLOCK_RESTORED (R60), CLIPPED_MILLISECOND (R61): the
state code of the port in IqPortStatus (1 training, 2 up, 3 no clock, 4 failed) and what it received: a port that trains or falls has no
demodulator and no collision group left, and every other port keeps its own. -/
def Obligations.IqPortTraining : Prop :=
  (∀ (s : State) (r : CapReq) (ses : Session) (p : Nat), p ≤ 3 → s.Admits r (Obj.iqRetrain p) ses → s.carouselOn = true →
    s.bitOf Obj.carouselEnable p = true →
    ∃ t, exec (.iqRetrain r p) s = .next t ∧ t.Answered r (Obj.iqRetrain p) capOk ∧ t.iqCode p = 1 ∧
      t.car.demods = s.car.demods.filter (fun d => d.det.port != p)) ∧
  (∀ (s : State) (p : Nat), s.carouselOn = true → p ≤ 3 → s.iqCode p = 1 →
    ∃ t, exec (.iqTrainingPass p) s = .next t ∧ t.iqCode p = 2 ∧ t.car = s.car ∧ ∀ k, k ≠ Obj.iqPortStatus p → t.get k = s.get k) ∧
  (∀ (s : State) (p lanes : Nat) (q : IqPort), s.carouselOn = true → p ≤ 3 → s.iqCode p = 1 → s.car.ports[p]? = some q →
    q.trainAt + 10000000 ≤ s.now →
    ∃ t, exec (.iqTrainingTimeout p lanes) s = .next t ∧ t.iqCode p = 4 ∧ t.nat (Obj.iqPortStatus p) / 16 = lanes % 16 ∧
      t.car = s.car) ∧
  (∀ (s : State) (p : Nat), s.iqUp p = true → s.nat (Obj.portFaults p) < 4294967295 →
    ∃ t, exec (.frameSlip p) s = .next t ∧ t.iqCode p = 1 ∧ t.get (Obj.portFaults p) = (s.nat (Obj.portFaults p) + 1 : Nat) ∧
      t.car.demods = s.car.demods.filter (fun d => d.det.port != p) ∧ t.car.groups = s.car.groups.filter (fun g => g.port != p) ∧
      t.frames = s.frames) ∧
  (∀ (s : State) (p : Nat), s.iqUp p = true → s.nat (Obj.portFaults p) < 4294967295 →
    ∃ t, exec (.lossOfClock p) s = .next t ∧ t.iqCode p = 3 ∧ t.get (Obj.portFaults p) = (s.nat (Obj.portFaults p) + 1 : Nat) ∧
      t.car.demods = s.car.demods.filter (fun d => d.det.port != p) ∧ t.frames = s.frames) ∧
  (∀ (s : State) (p : Nat) (q : IqPort), s.carouselOn = true → p ≤ 3 → s.iqCode p = 3 → s.car.ports[p]? = some q →
    ∃ t, exec (.clockRestored p) s = .next t ∧ t.iqCode p = 1 ∧ (t.car.ports[p]?).map (fun x => (x.trainAt, x.clock)) = some (s.now, true)) ∧
  (∀ (s : State) (p n : Nat), s.iqUp p = true → s.nat (Obj.clipFlagThreshold p) < n → s.nat (Obj.clipCount p) + n < 4294967296 →
    ∃ t, exec (.clippedMillisecond p n) s = .next t ∧ t.get (Obj.clipCount p) = (s.nat (Obj.clipCount p) + n : Nat) ∧
      t.car.demods = s.car.demods.map (fun d => if d.det.port == p && d.phase == 0 then { d with clipped := true } else d))

/-- DETECTION (R66), FRAME_DELIVERY (R70), SYNC_LOST, LENGTH_FIELD_EXCEEDED, DEMOD_MAX_HOLD (R69), CANCELLATION_PASS (R81), once the snippets of
the frames on air have grown to the present instant (R78; `State.growSnippets`, log entry 98): a detection takes one demodulator, and those
of one RADIO cycle are served in an order of their own, not in that of the sender; a frame delivered outside a collision group enters
its cell's queue as step 1 and releases its demodulator; one that fails its checks is counted in CrcFail; an abandoned one releases
it with no frame; a pass is counted in its group, which finishes when no pass is due. -/
def Obligations.DemodulatorPool : Prop :=
  (∀ (s : State) (d : Det) (res : Bool), s.growSnippets.detects d = true → s.growSnippets.demodFor d.port = some res →
    d.unsupported = false → (s.growSnippets.car.demods.find? fun x => x.same d (s.growSnippets.channelAt d.port d.grid d.channel)) = none →
    s.growSnippets.nat (Obj.detections d.port) < 4294967295 →
    ∃ t, exec (.detection [d]) s = .next t ∧ t.car.demods.length = s.growSnippets.car.demods.length + 1 ∧
      t.car.nextDemod = s.car.nextDemod + 1 ∧
      t.get (Obj.detections d.port) = (s.growSnippets.nat (Obj.detections d.port) + 1 : Nat) ∧ t.frames = s.frames) ∧
  (∀ (s : State) (d : Det), s.growSnippets.detects d = true → s.growSnippets.demodFor d.port = none →
    s.growSnippets.nat (Obj.demodBusyDrops d.port d.grid) < 4294967295 →
    ∃ t, exec (.detection [d]) s = .next t ∧ t.car = s.growSnippets.car ∧
      t.get (Obj.demodBusyDrops d.port d.grid) = (s.growSnippets.nat (Obj.demodBusyDrops d.port d.grid) + 1 : Nat)) ∧
  (∀ (s : State) (a b : Det), detRank a ≠ detRank b → exec (.detection [a, b]) s = exec (.detection [b, a]) s) ∧
  (∀ (s : State) (n : Nat) (ok : Bool) (d : Demod) (i j : RxInfo), s.growSnippets.live n = some d → d.group = 0 → d.received ok i = some j →
    s.growSnippets.cellOpen d.det.port = true → s.growSnippets.nat (Obj.delivered d.det.port) < 4294967295 →
    ∃ t, exec (.frameDelivery n ok i) s = .next t ∧ t.demod n = none ∧ t.frames.length = s.frames.length + 1 ∧
      (t.frames.getLast?).map (fun f => (f.id, f.stage, f.cell, f.native)) = some (s.nextFrame, 1, d.det.port, j.native) ∧
      t.get (Obj.delivered d.det.port) = (s.growSnippets.nat (Obj.delivered d.det.port) + 1 : Nat)) ∧
  (∀ (s : State) (n : Nat) (ok : Bool) (d : Demod) (i : RxInfo), s.growSnippets.live n = some d → d.group = 0 → d.received ok i = none →
    d.whole i = true → s.growSnippets.nat (Obj.crcFail d.det.port) < 4294967295 →
    ∃ t, exec (.frameDelivery n ok i) s = .next t ∧ t.demod n = none ∧ t.frames = s.frames ∧
      t.get (Obj.crcFail d.det.port) = (s.growSnippets.nat (Obj.crcFail d.det.port) + 1 : Nat)) ∧
  (∀ (s : State) (n : Nat) (d : Demod), s.growSnippets.live n = some d → d.group = 0 →
    ∃ t, exec (.syncLost n) s = .next t ∧ exec (.lengthFieldExceeded n) s = .next t ∧ t.demod n = none ∧ t.frames = s.frames) ∧
  (∀ (s : State) (n : Nat) (e d : Demod), s.demod n = some e → s.elapsedS e.at_ (s.nat Obj.demodMaxHoldS) = true →
    s.growSnippets.live n = some d → d.group = 0 →
    ∃ t, exec (.demodMaxHold n) s = .next t ∧ t.demod n = none ∧ t.frames = s.frames) ∧
  (∀ (s : State) (n : Nat) (g : Group) (c : Demod), s.group n = some g → g.closed = true → s.iqUp g.port = true → s.passDue g = true →
    strongest ((s.growSnippets.car.demods.filter fun d => g.members.contains d.id).filter fun d => d.phase == 1 && !d.done) = some c →
    ∃ t, exec (.cancellationPass n []) s = .next t ∧ t.frames = s.frames ∧
      (t.group n = none ∨ ((t.group n).map (·.passes) = some (g.passes + 1) ∧ (t.demod c.id).map (·.done) = some true)))

/-- STAGE_ITEM (R93, R94), STAGE_WITHDRAW, ITEM_EXPIRY (R95): an accepted item is appended under the next StageSequence, which the answer
returns; where the store or the endpoint is full the item is refused with queue-full and nothing is staged; a withdrawn or expired item is
gone, and no other item is. -/
def Obligations.StagedItems : Prop :=
  (∀ (s : State) (r : CapReq) (ses : Session) (a : ItemArg) (x : Record), s.Admits r Obj.stageItem ses → s.endpointBusy a.tag = false →
    s.record a.tag = some x → x.live = true → ses.mayTenant x.tenant = true → itemArgOk a = true → s.itemRoom a.tag = true →
    s.nat Obj.mediaState = 0 →
    ∃ t, exec (.stageItem r a) s = .next t ∧ t.Answered r Obj.stageItem (capVal 4 (s.nand.stageSeq + 1)) ∧
      t.nand.stageSeq = s.nand.stageSeq + 1 ∧
      t.nand.items.map (fun i => (i.seq, i.tag, i.cls, i.payload)) =
        s.nand.items.map (fun i => (i.seq, i.tag, i.cls, i.payload)) ++ [(s.nand.stageSeq + 1, a.tag, a.cls, a.payload)]) ∧
  (∀ (s : State) (r : CapReq) (ses : Session) (a : ItemArg) (x : Record), s.Admits r Obj.stageItem ses → s.endpointBusy a.tag = false →
    s.record a.tag = some x → x.live = true → ses.mayTenant x.tenant = true → itemArgOk a = true → s.itemRoom a.tag = false →
    ∃ t, exec (.stageItem r a) s = .next t ∧ t.Answered r Obj.stageItem (capErr 11 0) ∧ t.nand.items = s.nand.items ∧
      t.nand.stageSeq = s.nand.stageSeq) ∧
  (∀ (s : State) (r : CapReq) (ses : Session) (tag seq : Nat) (x : Record) (i : Item), s.Admits r Obj.stageWithdraw ses →
    s.record tag = some x → x.live = true → ses.mayTenant x.tenant = true → ((s.itemsOf tag).find? fun y => y.seq == seq) = some i →
    i.held = false → i.tag = tag → i.request = none → s.nat Obj.mediaState = 0 →
    ∃ t, exec (.stageWithdraw r tag seq) s = .next t ∧ t.Answered r Obj.stageWithdraw capOk ∧
      t.nand.items = s.nand.items.filter (fun y => y.seq != seq)) ∧
  (∀ (s : State) (seq : Nat) (i : Item), s.serving = true → (s.nand.items.find? fun y => y.seq == seq) = some i → i.expiry ≤ s.tai →
    i.request = none →
    ∃ t, exec (.itemExpiry seq) s = .next t ∧ t.nand.items = s.nand.items.filter (fun y => y.seq != seq))

/-- FAST_PATH_RESPONSE, LAUNCH_DEADLINE, RESPONSE_LAUNCH (R89, R90), PENDANT_RESPONSE_LAUNCH (R98), MODULATOR_TX_END (R86), LBT_LISTEN_END
(R97), DUTY_BUCKET_ROLL (R96): a frame past its ingest commit and next of its endpoint gets one response under the next DownlinkCounter,
which waits for the frame's result commit, and its key is purged; past the deadline it is missed; handed over 50 µs before its launch,
it goes on air at the launch on a free modulator, its air time charged to its sub-band; a busy one has it abandoned and its endpoint
acknowledged later; a channel found busy does the same, a clear one lets it go. -/
def Obligations.FastPathResponses : Prop :=
  (∀ (s : State) (n length us width b : Nat) (f : Frame) (x : Record), (s.frames.find? fun f => f.id == n) = some f → f.id = n →
    s.accepting = true → f.resp = true → 4 ≤ f.stage → f.stage ≤ 8 → s.isNext f = true → s.loc.responding.contains n = true →
    (s.dl.responses.any fun r => r.frame == n) = false → s.now ≤ s.deadlineOf f → s.record f.tag = some x →
    s.bandAbout (s.responseHz f) width = some b → s.dutyOk f.port b (s.responseAir f length us) false = true →
    (∀ g ∈ s.frames, g.tag = f.tag → g.down = 0) →
    ∃ t, exec (.fastPathResponse n length us width) s = .next t ∧ t.dl.responses.length = s.dl.responses.length + 1 ∧
      (t.dl.responses.getLast?).map (fun r => (r.frame, r.tag, r.counter, r.handed, r.launch)) =
        some (n, f.tag, x.downCounter + 1, false, s.launchAt f) ∧
      (t.frame n).map (·.down) = some (x.downCounter + 1) ∧ t.nand = s.nand ∧ t.loc.responding.contains n = false) ∧
  (∀ (s : State) (n length us width : Nat) (f : Frame), (s.frames.find? fun f => f.id == n) = some f → f.id = n → s.accepting = true →
    f.resp = true → 4 ≤ f.stage → s.isNext f = true → s.loc.responding.contains n = true →
    (s.dl.responses.any fun r => r.frame == n) = false → s.deadlineOf f < s.now → s.nat (Obj.responsesMissed f.port) < 4294967295 →
    ∃ t, exec (.fastPathResponse n length us width) s = .next t ∧ t.dl.responses = s.dl.responses ∧
      t.get (Obj.responsesMissed f.port) = (s.nat (Obj.responsesMissed f.port) + 1 : Nat) ∧ t.dl.ackDue.contains f.tag = true) ∧
  (∀ (s : State) (n : Nat) (r : Response), (s.dl.responses.find? fun r => r.frame == n) = some r → r.handed = false →
    ∃ t, exec (.launchDeadline n) s = .next t ∧
      ((t.dl.responses.find? fun r => r.frame == n).map (·.handed)) = some true ∧ t.cat = s.cat) ∧
  (∀ (s : State) (n : Nat) (f : Frame), (s.dl.responses.find? fun r => r.frame == n) = none →
    (s.frames.find? fun f => f.id == n && s.mayAsk f) = some f → s.deadlineOf f ≤ s.now →
    s.nat (Obj.responsesMissed f.port) < 4294967295 →
    ∃ t, exec (.launchDeadline n) s = .next t ∧ t.get (Obj.responsesMissed f.port) = (s.nat (Obj.responsesMissed f.port) + 1 : Nat) ∧
      (t.frames.any fun f => f.id == n && f.resp) = false ∧ (4 ≤ f.stage → t.dl.ackDue.contains f.tag = true)) ∧
  (∀ (s : State) (n b : Nat) (p : Bool) (r : Response) (m : Modulator),
    (s.dl.responses.find? fun x => x.frame == n && x.pendant == p) = some r → s.accepting = true → r.handed = true → r.items = [] →
    r.launch ≤ s.now + 1000 → s.modulator r.port = some m → s.busyFor r = false → s.canSend r.port r.centreHz r.widthHz = true →
    s.bandAbout r.centreHz r.widthHz = some b → (s.bandLbt b = false ∨ r.listened = true) → s.dutyOk r.port b r.airUs false = true →
    s.nat (Obj.responsesSent r.port) < 4294967295 →
    ∃ t, (p = false → exec (.responseLaunch n) s = .next t) ∧ (p = true → exec (.pendantResponseLaunch n) s = .next t) ∧
      (t.modulator r.port).bind (·.sending) = some (.response r.pendant r.counter) ∧
      (t.dl.responses.any fun x => x.frame == r.frame) = false ∧
      t.get (Obj.responsesSent r.port) = (s.nat (Obj.responsesSent r.port) + 1 : Nat) ∧
      t.dutyUsed r.port b = s.dutyUsed r.port b + r.airUs) ∧
  (∀ (s : State) (n : Nat) (p : Bool) (r : Response),
    (s.dl.responses.find? fun x => x.frame == n && x.pendant == p) = some r → s.accepting = true → r.handed = true →
    r.launch ≤ s.now + 1000 → s.busyFor r = true → s.dl.waiting = [] → s.nat (Obj.responsesMissed r.port) < 4294967295 →
    ∃ t, (p = false → exec (.responseLaunch n) s = .next t) ∧ (p = true → exec (.pendantResponseLaunch n) s = .next t) ∧
      (t.dl.responses.any fun x => x.frame == r.frame) = false ∧ t.dl.ackDue.contains r.tag = true ∧ t.dl.mods = s.dl.mods ∧
      t.get (Obj.responsesMissed r.port) = (s.nat (Obj.responsesMissed r.port) + 1 : Nat)) ∧
  (∀ (s : State) (n : Nat) (r : Response) (m : Modulator),
    (s.dl.responses.find? fun x => x.frame == n && x.pendant == false) = some r → s.accepting = true → r.handed = true → r.items = [] →
    r.launch ≤ s.now + 1000 → s.modulator r.port = some m → m.sending = none → s.canSend r.port r.centreHz r.widthHz = true →
    s.bandAbout r.centreHz r.widthHz = none → s.dl.waiting = [] → s.nat (Obj.txNoSubband r.port) < 4294967295 →
    ∃ t, exec (.responseLaunch n) s = .next t ∧ t.get (Obj.txNoSubband r.port) = (s.nat (Obj.txNoSubband r.port) + 1 : Nat) ∧
      t.dl.mods = s.dl.mods ∧ t.dl.ackDue.contains r.tag = true) ∧
  (∀ (s : State) (p : Nat) (m : Modulator), s.modulator p = some m → s.dl.waiting = [] →
    ∃ t, exec (.modulatorTxEnd p) s = .next t ∧ t.modulator p = some { m with sending := none } ∧ t.cat = s.cat) ∧
  (∀ (s : State) (p : Nat) (power : Int) (r : Response) (b : Nat),
    (s.dl.responses.find? (s.listens p)) = some r → s.bandAbout r.centreHz r.widthHz = some b → s.bandThreshold b < power →
    s.dl.waiting = [] → s.nat (Obj.lbtBusy r.port) < 4294967295 →
    ∃ t, exec (.lbtListenEnd p power) s = .next t ∧ t.get (Obj.lbtBusy r.port) = (s.nat (Obj.lbtBusy r.port) + 1 : Nat) ∧
      t.dl.ackDue.contains r.tag = true ∧ (t.dl.responses.any fun x => x.frame == r.frame) = false) ∧
  (∀ (s : State) (p : Nat) (power : Int) (r : Response) (b : Nat),
    (s.dl.responses.find? (s.listens p)) = some r → s.bandAbout r.centreHz r.widthHz = some b → power ≤ s.bandThreshold b →
    ∃ t, exec (.lbtListenEnd p power) s = .next t ∧
      (t.dl.responses.find? fun x => x.frame == r.frame).map (·.listened) = some true ∧ t.cat = s.cat) ∧
  (∀ s : State, s.up = true →
    ∃ t, exec .dutyBucketRoll s = .next t ∧ t.cat = s.cat ∧
      ∀ port i l, tget s.dl.duty (16 * port + i) = some l → l.length = 60 → Tab.rising s.dl.duty = true →
        t.dutyUsed port i + l.getLast?.getD 0 = s.dutyUsed port i)

/-- BROADCAST_WINDOW (R100, R101), CAMPAIGN_START, CAMPAIGN_BEGIN, CAMPAIGN_END (R102, R103): a due broadcast takes a free modulator with its
content, and its broadcast counter advances; a campaign accepted is loaded with its image, one whose image fails its check is refused,
a running one is not replaced without its abort flag; at StartTai it runs for the endpoints it addresses, at EndTai it ends, complete
where each of them is. -/
def Obligations.BroadcastsAndCampaigns : Prop :=
  (∀ (s : State) (n us width b : Nat) (m : Modulator), s.accepting = true → n < 16 → s.planReady n = true → s.planOpen n = true →
    s.repeatDue n = true → s.planClass n = 1 → s.modulator (s.planPort n) = some m → m.sending = none →
    s.castBand { entry := n, airUs := us, widthHz := width, alt := 0, fin := some (s.windowEnd n) } = some b → s.bandLbt b = false →
    s.canSend (s.planPort n) (bytesAt (s.planEntry n) 4 4) width = true → s.respDue (s.planPort n) false = false →
    s.dutyOk (s.planPort n) b us true = true →
    (tget s.dl.castCounters (16 * byteAt (s.planEntry n) 3 + s.planPort n)).getD 0 < 4294967295 →
    ∃ t, exec (.broadcastWindow n us width) s = .next t ∧ (t.modulator (s.planPort n)).bind (·.sending) = some (s.castContent n) ∧
      (tget t.dl.castCounters (16 * byteAt (s.planEntry n) 3 + s.planPort n)).getD 0 =
        (tget s.dl.castCounters (16 * byteAt (s.planEntry n) 3 + s.planPort n)).getD 0 + 1 ∧
      t.repeatsOf n = s.repeatsOf n + 1 ∧ t.dutyUsed (s.planPort n) b = s.dutyUsed (s.planPort n) b + us ∧ t.cat = s.cat) ∧
  (∀ (s : State) (r : CapReq) (ses : Session) (a : CampaignArg) (image : Nat), s.Admits r Obj.campaignStart ses → campaignArgOk a = true →
    crcOf a.imageLength image = a.imageCrc →
    (((tget s.dl.campaigns a.campaign).map (·.state)) ≠ some 2 ∨ bit a.flags 0 = true) →
    ∃ t, exec (.campaignStart r a image) s = .next t ∧ t.Answered r Obj.campaignStart capOk ∧
      (tget t.dl.campaigns a.campaign).map (fun c => (c.header, c.image, c.state, c.sent)) = some (a, image, 1, 0)) ∧
  (∀ (s : State) (r : CapReq) (ses : Session) (a : CampaignArg) (image : Nat), s.Admits r Obj.campaignStart ses → campaignArgOk a = true →
    ((tget s.dl.campaigns a.campaign).map (·.state)) ≠ some 2 → crcOf a.imageLength image ≠ a.imageCrc →
    ∃ t, exec (.campaignStart r a image) s = .next t ∧ t.Answered r Obj.campaignStart (capErr 5 28) ∧
      (tget t.dl.campaigns a.campaign).map (·.state) = some 5) ∧
  (∀ (s : State) (r : CapReq) (ses : Session) (a : CampaignArg) (image : Nat), s.Admits r Obj.campaignStart ses → campaignArgOk a = true →
    ((tget s.dl.campaigns a.campaign).map (·.state)) = some 2 → bit a.flags 0 = false →
    ∃ t, exec (.campaignStart r a image) s = .next t ∧ t.Answered r Obj.campaignStart (capErr 6 0) ∧ t.dl = s.dl) ∧
  (∀ (s : State) (n : Nat) (c : Campaign), tget s.dl.campaigns n = some c → s.serving = true → c.state = 1 → c.header.startTai ≤ s.tai →
    ∃ t, exec (.campaignBegin n) s = .next t ∧
      (tget t.dl.campaigns n).map (fun d => (d.state, d.changed, d.addressed)) =
        some (2, s.tai, (s.nand.recs.filter fun e => campaignAddresses c.header e.2).map (·.1)) ∧ t.cat = s.cat ∧ t.nand = s.nand) ∧
  (∀ (s : State) (n : Nat) (c : Campaign), tget s.dl.campaigns n = some c → s.serving = true → c.state = 2 → c.header.endTai ≤ s.tai →
    ∃ t, exec (.campaignEnd n) s = .next t ∧
      tget t.dl.campaigns n = some { c with state := if c.addressed.all c.complete.contains then 3 else 4, changed := s.tai } ∧
      t.cat = s.cat ∧ t.nand = s.nand)

/-- THERMAL_TRIP (R107, R126), PLC_THERM_N_RELEASE, THERMAL_HOLDOFF_END (R107), ZC_EDGE, ZC_MISSING_EDGE (R122), HALF_CYCLE (R109, R123,
R128): a trip turns the driver off, holds the lane until the holdoff after the release has passed and retries the frame it aborted,
degraded; an edge within 1 ms of its prediction is accepted and any other ignored, two edges 7.1 to 12.5 ms apart lock a lane that has lost
its tracking, the eighth missing edge loses it and freezes the map; a half-cycle averages each slot measured in which the lane did not
transmit, sets the gain of an idle lane and puts waiting settings into force. -/
def Obligations.LaneDriver : Prop :=
  (∀ (s : State) (l : Nat) (x : Lane), s.lane l = some x → l ≤ 2 → x.onAir = none → s.nat (Obj.thermalTrips l) < 4294967295 →
    ∃ t, exec (.thermalTrip l) s = .next t ∧ t.pins.therm = s.pins.therm.set l true ∧ t.driving l = false ∧
      t.lane l = some { x with hold := some none, tail := 0 } ∧
      (s.laneOn l = true → t.get (Obj.thermalTrips l) = (s.nat (Obj.thermalTrips l) + 1 : Nat))) ∧
  (∀ (s : State) (l : Nat) (x : Lane) (o : PlcOut), s.lane l = some x → s.laneOn l = true → x.onAir = some o → o.t.kind = 0 →
    o.retries < s.nat Obj.chainRetryLimit →
    ∃ t y p, exec (.thermalTrip l) s = .next t ∧ t.driving l = false ∧ t.lane l = some y ∧ y.onAir = none ∧ y.hold = some none ∧
      (p ∈ y.queue ∨ y.contending = some p) ∧ p.t = o.t ∧ p.retries = o.retries + 1 ∧ p.degraded = true ∧ p.force = some 0 ∧
      p.atten = Nat.min (s.nat (Obj.txAttenDb l) + 3) (s.nat (Obj.txAttenMaxDb l))) ∧
  (∀ (s : State) (l : Nat) (x : Lane), s.lane l = some x → l ≤ 2 →
    ∃ t, exec (.plcThermNRelease l) s = .next t ∧ t.pins.therm = s.pins.therm.set l false ∧
      t.lane l = some { x with hold := x.hold.map fun _ => some s.now }) ∧
  (∀ (s : State) (l a : Nat) (x : Lane), s.lane l = some x → x.hold = some (some a) → s.awake = true →
    ∃ t, exec (.thermalHoldoffEnd l) s = .next t ∧ t.cat = s.cat ∧
      (a + s.nat (Obj.thermalHoldoffMs l) * 1000000 ≤ s.now → t.lane l = some { x with hold := none }) ∧
      (s.now < a + s.nat (Obj.thermalHoldoffMs l) * 1000000 → t.lanes = s.lanes)) ∧
  (∀ (s : State) (l a : Nat) (rising : Bool) (x : Lane), s.lane l = some x → s.tightropeOn = true → x.zc.locked = true →
    s.nat (Obj.zcIgnored l) < 4294967295 → l ≤ 2 →
    ∃ t, exec (.zcEdge l a rising) s = .next t ∧
      (Nat.max (a - 1000 * s.nat (Obj.zcDelayUs l) - x.zc.predicted) (x.zc.predicted - (a - 1000 * s.nat (Obj.zcDelayUs l))) ≤ 1000000 →
        t.lane l = some { x with zc := ({ x.zc with stamp := s.shortAt a } : Zc).accept (a - 1000 * s.nat (Obj.zcDelayUs l)) rising } ∧
        t.cat = s.cat) ∧
      (1000000 < Nat.max (a - 1000 * s.nat (Obj.zcDelayUs l) - x.zc.predicted) (x.zc.predicted - (a - 1000 * s.nat (Obj.zcDelayUs l))) →
        t.lane l = some { x with zc := { x.zc with stamp := s.shortAt a } } ∧
        t.get (Obj.zcIgnored l) = (s.nat (Obj.zcIgnored l) + 1 : Nat))) ∧
  (∀ (s : State) (l a : Nat) (rising : Bool) (x : Lane), s.lane l = some x → s.tightropeOn = true → x.zc.locked = false → x.zc.last ≠ 0 →
    x.zc.last + 7100000 ≤ a - 1000 * s.nat (Obj.zcDelayUs l) → a - 1000 * s.nat (Obj.zcDelayUs l) ≤ x.zc.last + 12500000 →
    ∃ t y, exec (.zcEdge l a rising) s = .next t ∧ t.lane l = some y ∧ y.zc.locked = true ∧ y.frozen = false ∧
      y.zc.half = a - 1000 * s.nat (Obj.zcDelayUs l) - x.zc.last) ∧
  (∀ (s : State) (l : Nat) (x : Lane), s.lane l = some x → s.tightropeOn = true → x.zc.locked = true → x.zc.predicted ≤ s.now →
    ∃ t, exec (.zcMissingEdge l) s = .next t ∧
      (x.zc.filled + 1 < 8 → (t.lane l).map (fun y => (y.zc.last, y.zc.filled, y.zc.locked)) =
        some (x.zc.predicted, x.zc.filled + 1, true)) ∧
      (8 ≤ x.zc.filled + 1 → (t.lane l).map (fun y => (y.zc.locked, y.frozen)) = some (false, true))) ∧
  (∀ (s : State) (l : Nat) (power : List Nat) (rms : Int) (x : Lane), s.lane l = some x → s.laneOn l = true →
    ∃ t y, exec (.halfCycle l power rms) s = .next t ∧ t.lane l = some y ∧ y.held = none ∧ t.cat = s.cat ∧
      (s.nat (Obj.rxGainFixedDb l) ≠ 0xFF → y.gain = s.nat (Obj.rxGainFixedDb l)) ∧
      (s.nat (Obj.rxGainFixedDb l) = 0xFF → x.bound = 0 → x.onAir = none → y.gain = autoGain rms) ∧
      ((x.frozen = true ∨ x.zc.locked = false) → y.noise = x.noise) ∧
      (x.frozen = false → x.zc.locked = true → ∀ i m, i < 64 → power[i]? = some m → y.noise[i]? = some
        (if x.sendsIn (x.zc.last - x.zc.half + i * x.zc.half / 64) (x.zc.last - x.zc.half + (i + 1) * x.zc.half / 64) then x.noise.getD i 0
         else noiseStep (s.nat (Obj.noiseMapTau l)) (x.noise.getD i 0) m)))

/-- PLC_PREAMBLE_DETECTION, CHAIN_HEADER_DECODE, CHAIN_BURST (R113, R114, R121, R124), PLC_FRAME_DELIVERY (R111, R127, R130, R134),
LQT_AGEING (R138), LINK_QUALITY_READ (R143): a header's word holds its fields; a preamble binds a lane that neither transmits nor is bound;
the header decoded follows, or releases the lane, and its frame's end is the end of the virtual busy time; a second burst in a row
without pilots releases it; a frame is delivered, or counted as unsupported or as a CRC failure, and leaves the lane unbound. -/
def Obligations.LaneReception : Prop :=
  (∀ f : ChainFields, f.firstGapUs < 16384 → f.burstPeriodUs < 16384 → f.blocksMinusOne < 8 → f.modulation < 2 → f.priority < 3 →
    chainFields f.word = f ∧ headerOk f.word = true ∧ f.word < 2 ^ 48) ∧
  (∀ (s : State) (l : Nat) (chain : Bool) (x : Lane), s.lane l = some x → s.laneOn l = true → x.onAir = none → x.bound = 0 →
    (chain = true → (s.laneCfg l x).chain = true) →
    ∃ t, exec (.plcPreambleDetection l chain) s = .next t ∧
      (t.lane l).map (fun y => (y.bound, y.header, y.soft)) = some (if chain then 2 else 1, none, [])) ∧
  (∀ (s : State) (l sync : Nat) (soft : List Int) (x : Lane), s.lane l = some x → s.laneOn l = true → x.bound = 2 →
    s.nat (Obj.plcCrcFail l) < 4294967295 →
    ∃ t, exec (.chainHeaderDecode l sync soft) s = .next t ∧
      (headerOk (headerDecode soft) = true → (chainFields (headerDecode soft)).burstPeriodUs ≠ 0 → t.cat = s.cat ∧
        t.lane l = some { x.unmarkAwaited with
          bound := 3, header := some (headerDecode soft), syncNs := sync,
          virtual := some (Nat.max (x.virtual.getD 0)
            (chainEndNs (s.laneCfg l x).profile (s.laneCfg l x).carriers sync (chainFields (headerDecode soft)))) }) ∧
      (headerOk (headerDecode soft) = true → (chainFields (headerDecode soft)).burstPeriodUs = 0 → t.cat = s.cat ∧
        t.lane l = some { x with header := some (headerDecode soft) }) ∧
      (headerOk (headerDecode soft) = false → t.get (Obj.plcCrcFail l) = (s.nat (Obj.plcCrcFail l) + 1 : Nat) ∧
        (t.lane l).map (fun y => (y.bound, y.header)) = some (0, none))) ∧
  (∀ (s : State) (l w : Nat) (before : List Int) (syms : List BurstSymbol) (x : Lane), s.lane l = some x → s.laneOn l = true →
    x.bound = 3 → x.header = some w → x.bursts < (s.laneCfg l x).announced (chainFields w) →
    s.nat (Obj.erasedSymbols l) + syms.length < 4294967296 → s.nat (Obj.plcCrcFail l) < 4294967295 →
    ∃ t u k, exec (.chainBurst l true before syms) s = .next t ∧ exec (.chainBurst l false before syms) s = .next u ∧
      (t.lane l).map (fun y => (y.bound, y.missed, y.bursts, y.soft.length)) =
        some (3, 0, x.bursts + 1, x.soft.length + syms.length) ∧
      k ≤ syms.length ∧ t.get (Obj.erasedSymbols l) = (s.nat (Obj.erasedSymbols l) + k : Nat) ∧
      (x.missed = 0 → (u.lane l).map (fun y => (y.bound, y.missed, y.bursts)) = some (3, 1, x.bursts + 1)) ∧
      (1 ≤ x.missed → (u.lane l).map (·.bound) = some 0 ∧ u.get (Obj.plcCrcFail l) = (s.nat (Obj.plcCrcFail l) + 1 : Nat))) ∧
  (∀ (s : State) (l w crc : Nat) (ok : Bool) (i : RxInfo) (p : PlcInfo) (m : ChainMpdu) (mpdu : List Nat) (x : Lane),
    s.lane l = some x → s.laneOn l = true → p.chain = true → x.bound = 3 → x.header = some w →
    (s.laneCfg l x).announced (chainFields w) ≤ x.bursts → x.chainDecoded (s.laneCfg l x) (chainFields w) = some (m, mpdu, crc) →
    (m.dest = selfShort ∨ m.dest = 0xFFFF) → s.cellOpen (l + 4) = true → 1 < m.hops →
    ∃ t y, exec (.plcFrameDelivery l ok i p) s = .next t ∧ t.lane l = some y ∧ y.bound = 0 ∧ t.frames.length = s.frames.length + 1 ∧
      (t.frames.getLast?).map (fun f => (f.id, f.stage, f.cell, f.native, f.inPlc, f.bytes)) =
        some (s.nextFrame, 1, l + 4, m.native, true, ofBytes mpdu) ∧
      (m.endsAt selfShort = true → y.ackFor = some (crc % 16384, (chainFields w).priority,
        chainEndNs (s.laneCfg l x).profile (s.laneCfg l x).carriers x.syncNs (chainFields w) + 1000 * (s.laneTiming x).ackGapUs))) ∧
  (∀ (s : State) (l w : Nat) (ok : Bool) (i : RxInfo) (p : PlcInfo) (x : Lane), s.lane l = some x → s.laneOn l = true → p.chain = true →
    x.bound = 3 → x.header = some w → (s.laneCfg l x).announced (chainFields w) ≤ x.bursts →
    x.chainDecoded (s.laneCfg l x) (chainFields w) = none → s.nat (Obj.plcCrcFail l) < 4294967295 →
    ∃ t, exec (.plcFrameDelivery l ok i p) s = .next t ∧ (t.lane l).map (·.bound) = some 0 ∧ t.frames = s.frames ∧
      t.get (Obj.plcCrcFail l) = (s.nat (Obj.plcCrcFail l) + 1 : Nat)) ∧
  (∀ (s : State) (l : Nat) (i : RxInfo) (p : PlcInfo) (x : Lane), s.lane l = some x → s.laneOn l = true → p.chain = false →
    x.bound = 1 → s.cellOpen (l + 4) = true → modulationSupported p.modulation = true →
    ∃ t y, exec (.plcFrameDelivery l true i p) s = .next t ∧ t.lane l = some y ∧ y.bound = 0 ∧
      y.virtual = some (Nat.max (x.virtual.getD 0) (i.endNs + p.busyNs)) ∧ t.frames.length = s.frames.length + 1 ∧
      (t.frames.getLast?).map (fun f => (f.id, f.stage, f.cell, f.native, f.inPlc)) = some (s.nextFrame, 1, l + 4, i.native, true)) ∧
  (∀ (s : State) (l : Nat) (ok : Bool) (i : RxInfo) (p : PlcInfo) (x : Lane), s.lane l = some x → s.laneOn l = true → p.chain = false →
    x.bound = 1 → s.nat (Obj.plcUnsupportedFormat l) < 4294967295 → s.nat (Obj.plcCrcFail l) < 4294967295 →
    (modulationSupported p.modulation = false ∨ ok = false) →
    ∃ t, exec (.plcFrameDelivery l ok i p) s = .next t ∧ (t.lane l).map (·.bound) = some 0 ∧ t.frames = s.frames ∧
      (if modulationSupported p.modulation then t.get (Obj.plcCrcFail l) = (s.nat (Obj.plcCrcFail l) + 1 : Nat)
       else t.get (Obj.plcUnsupportedFormat l) = (s.nat (Obj.plcUnsupportedFormat l) + 1 : Nat))) ∧
  (∀ s : State, s.tightropeOn = true →
    ∃ t, exec .lqtAgeing s = .next t ∧ t.cat = s.cat ∧
      ∀ (l : Nat) (x : Lane), s.lane l = some x → ∃ y, t.lane l = some y ∧
        (∀ e ∈ y.links, e.q ≠ 0 ∧ s.tai ≤ e.at_ + 3600 * s.nat Obj.lqtMaxAgeH) ∧
        (∀ e ∈ x.links, s.tai < e.aged + 3600 → e.q ≠ 0 → s.tai ≤ e.at_ + 3600 * s.nat Obj.lqtMaxAgeH → e ∈ y.links) ∧
        (∀ e ∈ x.links, e.aged + 3600 ≤ s.tai → s.tai < e.aged + 7200 → 8 < e.q → s.tai ≤ e.at_ + 3600 * s.nat Obj.lqtMaxAgeH →
          ({ e with q := e.q - 8, aged := e.aged + 3600 } : Link) ∈ y.links)) ∧
  (∀ (s : State) (r : CapReq) (ses : Session) (l short : Nat) (x : Lane), s.Admits r Obj.linkQualityRead ses → s.lane l = some x →
    ∃ t, exec (.linkQualityRead r l short) s = .next t ∧ t.lanes = s.lanes ∧
      t.Answered r Obj.linkQualityRead
        (capVal (6 * (sortLinks (x.links.filter fun e => e.src == short || e.dst == short)).length)
          (pack ((sortLinks (x.links.filter fun e => e.src == short || e.dst == short)).map fun e => (6, e.pack)))))

/-- MEDIUM_IDLE, MEDIUM_BUSY (R129), VIRTUAL_BUSY_END (R130), PLC_FRAME_QUEUED (R132, R136), CHAIN_SLOT_START (R131), STANDARD_CSMA_TX
(R136), PLC_TX_END (R107, R126): a power is busy where it exceeds the slot's noise by the margin; the idle instant is fixed when nothing
keeps the medium busy any more; a contending Chain frame whose slot has not started is deferred; a queued frame contends, a staged item at
the priority of its class; a started one is on air with its driver on; a Chain unicast frame that was sent awaits its acknowledgement, a
degraded one is retried. -/
def Obligations.MediumAccess : Prop :=
  (∀ (s : State) (l power : Nat) (x : Lane), s.lane l = some x → s.laneOn l = true → x.bound = 0 → x.virtual = none → x.onAir = none →
    x.power = true → s.sensed x power = false →
    ∃ t, exec (.mediumIdle l power) s = .next t ∧ (t.lane l).map (fun y => (y.power, y.idleAt, y.timing)) = some (false, s.now, none) ∧
      t.cat = s.cat) ∧
  (∀ (s : State) (l d power : Nat) (x : Lane), s.lane l = some x → s.laneOn l = true → x.drawn = some d → x.idle = true →
    s.sensed x power = true → s.nat (Obj.contentionDeferrals l) < 4294967295 →
    ∃ t, exec (.mediumBusy l power) s = .next t ∧ t.lane l = some { x with power := true, drawn := none } ∧
      t.get (Obj.contentionDeferrals l) = (s.nat (Obj.contentionDeferrals l) + 1 : Nat)) ∧
  (∀ (s : State) (l power : Nat) (x : Lane), s.lane l = some x → s.laneOn l = true →
    ∃ t u, exec (.mediumBusy l power) s = .next t ∧ exec (.mediumIdle l power) s = .next u ∧
      (s.sensed x power = true → (t.lane l).map (·.power) = some true ∧ u = s) ∧
      (s.sensed x power = false → t = s ∧ (u.lane l).map (·.power) = some false)) ∧
  (∀ (s : State) (l e : Nat) (x : Lane), s.lane l = some x → s.laneOn l = true → x.virtual = some e →
    ∃ t, exec (.virtualBusyEnd l) s = .next t ∧ (e ≤ s.now → (t.lane l).map (·.virtual) = some none) ∧ (s.now < e → t = s)) ∧
  (∀ (s : State) (l : Nat) (p : PlcTx) (x : Lane), s.lane l = some x → s.laneOn l = true → p.stage = 0 →
    ((p.kind = 1 ∧ x.wantsRoute p = false) ∨ (p.kind = 0 ∧ s.flag (Obj.chainEnable l) = true ∧ (s.laneCfg l x).chain = true)) →
    x.queue = [] → x.contending = none →
    ∃ t, exec (.plcFrameQueued l p) s = .next t ∧
      (t.lane l).map (fun y => (y.queue, y.contending.map (·.t))) = some ([], some p)) ∧
  (∀ (s : State) (l : Nat) (p : PlcTx) (x : Lane) (i : Item), s.lane l = some x → s.laneOn l = true → p.stage ≠ 0 →
    s.mayCarry p.stage = true → s.nand.items.find? (fun j => j.seq == p.stage && p.stage != 0) = some i → p.kind = 0 →
    s.flag (Obj.chainEnable l) = true → (s.laneCfg l x).chain = true → x.queue = [] → x.contending = none →
    ∃ t y o, exec (.plcFrameQueued l p) s = .next t ∧ t.lane l = some y ∧ y.contending = some o ∧ o.t.stage = p.stage ∧
      (i.cls = 3 → o.t.prio = 2) ∧ (i.cls = 2 → (i.request.map (·.kind)) = some 4 → o.t.prio = 0) ∧
      (i.cls = 2 → (i.request.map (·.kind)) ≠ some 4 → o.t.prio = 1)) ∧
  (∀ (s : State) (l d : Nat) (x : Lane) (o : PlcOut), s.lane l = some x → s.laneOn l = true → x.contending = some o → x.drawn = some d →
    d ≤ s.now → o.t.kind = 0 → (s.laneCfg l x).chain = true → x.idle = true → s.accepting = true → x.hold = none →
    s.pins.therm.getD l false = false →
    ∃ t, exec (.chainSlotStart l) s = .next t ∧ t.driving l = true ∧
      (t.lane l).map (fun y => (y.onAir.map (·.t), y.contending, y.drawn)) = some (some o.t, none, none)) ∧
  (∀ (s : State) (l : Nat) (x : Lane) (o : PlcOut), s.lane l = some x → s.laneOn l = true → x.contending = some o → o.t.kind = 1 →
    x.idle = true → s.accepting = true → x.hold = none → s.pins.therm.getD l false = false →
    ∃ t, exec (.standardCsmaTx l) s = .next t ∧ t.driving l = true ∧ t.cat = s.cat ∧
      (t.lane l).map (fun y => (y.onAir.map fun p => (p.t, p.spans, p.endNs), y.contending, y.drawn, y.routes)) =
        some (some (o.t, [(s.now + 1000 * s.nat (Obj.drvLeadUs l), s.now + 1000 * s.nat (Obj.drvLeadUs l))], none), none, none,
          useRoute o.t.dest x.routes)) ∧
  (∀ (s : State) (l : Nat) (isense : List Nat) (x : Lane) (o : PlcOut), s.lane l = some x → s.laneOn l = true → x.onAir = some o →
    o.t.kind = 0 → o.t.dest ≠ 0xFFFF → o.endNs.getD s.now ≤ s.now → s.nat (Obj.plcTxFrames l) < 4294967295 →
    s.nat (Obj.txDegraded l) < 4294967295 →
    ∃ t y, exec (.plcTxEnd l isense) s = .next t ∧ t.lane l = some y ∧ y.onAir = none ∧
      t.get (Obj.plcTxFrames l) = (s.nat (Obj.plcTxFrames l) + 1 : Nat) ∧
      (s.overCurrent l isense ≤ s.nat (Obj.clipThreshold l) → y.awaiting = x.awaiting ++ [{ o := o, seen := false }]) ∧
      (s.nat (Obj.clipThreshold l) < s.overCurrent l isense → o.retries < s.nat Obj.chainRetryLimit →
        y.awaiting = x.awaiting ∧ t.get (Obj.txDegraded l) = (s.nat (Obj.txDegraded l) + 1 : Nat) ∧
        ∃ p, (p ∈ y.queue ∨ y.contending = some p) ∧ p.t = o.t ∧ p.retries = o.retries + 1 ∧ p.degraded = true))

/-- CHAIN_ACK_SEND (R134), CHAIN_ACK_RECEIVED, ACK_TIMEOUT (R135), LOADNG_MESSAGE, EAP_PSK_BOOTSTRAP (R137): an acknowledgement owed goes on
air without contention when its gap has passed; one received with the CRC bits of a frame awaiting it ends that wait; a timeout retries the
frame, or abandons it at ChainRetryLimit; routes are installed and removed; an endpoint whose PSK opens joins, under the short address it
is registered by. -/
def Obligations.AcknowledgementsAndRoutes : Prop :=
  (∀ (s : State) (l crc prio due : Nat) (x : Lane), s.lane l = some x → s.laneOn l = true → x.ackFor = some (crc, prio, due) →
    ∃ t, exec (.chainAckSend l) s = .next t ∧
      (due ≤ s.now → x.onAir = none → x.bound = 0 → (s.laneCfg l x).chain = true → s.accepting = true → x.hold = none →
        (t.lane l).map (fun y => (y.ackFor, y.onAir.map fun p =>
            (p.t.kind, (chainFields p.header).firstGapUs, (chainFields p.header).burstPeriodUs, (chainFields p.header).priority))) =
          some (none, some (2, crc % 16384, 0, prio % 4))) ∧
      (due ≤ s.now → (x.bound ≠ 0 ∨ x.onAir ≠ none) → (t.lane l).map (fun y => (y.ackFor, y.onAir)) = some (none, x.onAir)) ∧
      (s.now < due → t = s)) ∧
  (∀ (s : State) (l w : Nat) (x : Lane) (a : Await), s.lane l = some x → s.laneOn l = true → x.bound = 2 → x.header = some w →
    a ∈ x.awaiting → a.o.crc % 16384 = (chainFields w).firstGapUs → (∀ b ∈ x.awaiting, b.o.t.stage = 0) →
    ∃ t y, exec (.chainAckReceived l) s = .next t ∧ t.lane l = some y ∧ y.bound = 0 ∧ t.cat = s.cat ∧
      (∀ b ∈ y.awaiting, b.o.crc % 16384 ≠ (chainFields w).firstGapUs) ∧
      (∀ b ∈ x.awaiting, b.o.crc % 16384 ≠ (chainFields w).firstGapUs → ({ b with seen := false } : Await) ∈ y.awaiting)) ∧
  (∀ (s : State) (l : Nat) (x : Lane) (a : Await), s.lane l = some x → s.laneOn l = true →
    x.awaiting.find? ((s.laneTiming x).waited s.now) = some a → a.o.t.stage = 0 → s.nat (Obj.ackTimeouts l) < 4294967295 →
    s.nat (Obj.retriesExhausted l) < 4294967295 →
    ∃ t y, exec (.ackTimeout l) s = .next t ∧ t.lane l = some y ∧ y.awaiting = x.awaiting.erase a ∧
      t.get (Obj.ackTimeouts l) = (s.nat (Obj.ackTimeouts l) + 1 : Nat) ∧
      (a.o.retries < s.nat Obj.chainRetryLimit →
        ∃ p, (p ∈ y.queue ∨ y.contending = some p) ∧ p.t = a.o.t ∧ p.retries = a.o.retries + 1) ∧
      (s.nat Obj.chainRetryLimit ≤ a.o.retries → y = { x with awaiting := x.awaiting.erase a } ∧
        t.get (Obj.retriesExhausted l) = (s.nat (Obj.retriesExhausted l) + 1 : Nat))) ∧
  (∀ (s : State) (l origin next cost : Nat) (x : Lane), s.lane l = some x → s.laneOn l = true →
    ∃ t u, exec (.loadngMessage l 1 origin selfShort next cost) s = .next t ∧
      exec (.loadngMessage l 2 origin selfShort next cost) s = .next u ∧
      t.lane l = some { x with routes := installRoute { dest := origin, next, cost } x.routes } ∧
      u.lane l = some { x with routes := x.routes.filter fun r => !(r.dest == origin && r.next == next) }) ∧
  (∀ (s : State) (l origin target next cost : Nat) (x : Lane), s.lane l = some x → s.laneOn l = true →
    ∃ t y p, exec (.loadngMessage l 0 origin target next cost) s = .next t ∧ t.lane l = some y ∧
      y.routes = installRoute { dest := origin, next, cost } x.routes ∧ (p ∈ y.queue ∨ y.contending = some p) ∧
      p.t.kind = 1 ∧ p.t.dest = (if target = selfShort then next else 0xFFFF)) ∧
  (∀ (s : State) (l tag : Nat) (x : Lane) (r : Record), s.lane l = some x → s.laneOn l = true → s.lookupTag tag = some r →
    r.live = true → typeOnCell r.ntype (l + 4) = true → (tget s.loc.keys.proto (32 * r.tenant + 4 + l)).isSome = true →
    s.pskOpens r = true →
    ∃ t y, exec (.eapPskBootstrap l tag true) s = .next t ∧ t.lane l = some y ∧ (tget y.joined tag).isSome = true ∧ t.nand = s.nand ∧
      (r.ntype = 4 → tget y.joined tag = some (r.naddr % 65536)))

/-- TUNNELLED_DATAGRAM (R38), LINK_LAYER (R26, R30, R43, R44, R171), UNWRAP (R150, R165), INGEST_COMMIT (R27, R33): a frame goes from
step to step in the turn of its tenant, under the record its address selects; an unknown address, a want of what carries it to its commit,
a failed authentication or a commit that cannot be made keeps it from the next one; the commit enters it in the journal under the next
sequence with its counter as the endpoint's UplinkCounter, or in the forwarding journal where it is billed above. -/
def Obligations.PathToTheJournal : Prop :=
  (∀ (s : State) (src n : Nat) (i : RxInfo), s.up = true →
    ((List.range 9).find? fun n => s.bitOf Obj.cellEnable (n + 7) && s.nat (Obj.tunnelBinding n) != 0 &&
      bytesAt (s.nat (Obj.tunnelBinding n)) 0 18 == src % 256 ^ 18) = some n → s.cellOpen (n + 7) = true →
    ∃ t, exec (.tunnelledDatagram src i) s = .next t ∧ t.frames.length = s.frames.length + 1 ∧
      (t.frames.getLast?).map (fun f => (f.id, f.stage, f.cell, f.native)) = some (s.nextFrame, 1, n + 7, i.native)) ∧
  (∀ (s : State) (src : Nat) (i : RxInfo), s.up = true →
    ((List.range 9).find? fun n => s.bitOf Obj.cellEnable (n + 7) && s.nat (Obj.tunnelBinding n) != 0 &&
      bytesAt (s.nat (Obj.tunnelBinding n)) 0 18 == src % 256 ^ 18) = none → s.nat Obj.tunnelUnmatched < 4294967295 →
    ∃ t, exec (.tunnelledDatagram src i) s = .next t ∧ t.frames = s.frames ∧
      t.get Obj.tunnelUnmatched = (s.nat Obj.tunnelUnmatched + 1 : Nat)) ∧
  (∀ (s : State) (n : Nat) (f : Frame) (r : Record), s.frame n = some f → f.stage = 1 → s.commits = true →
    s.recordFor f = some r → r.bad = false → s.enabled r.tenant = true → s.inFlight f r.tag = false →
    (r.upCounter < f.counter ∨ (f.counter = r.upCounter ∧ r.counted = false)) → s.journalFits f r = true →
    s.canCarry f r = true → (s.admitFrame r.tenant).1 = true →
    ∃ t, exec (.linkLayer n) s = .next t ∧
      (t.frame n).map (fun g => (g.stage, g.tag, g.tenant, g.retx)) = some (2, r.tag, r.tenant, false)) ∧
  (∀ (s : State) (n : Nat) (f : Frame) (r : Record), s.frame n = some f → f.stage = 1 → s.commits = true →
    s.recordFor f = some r → r.bad = false → s.enabled r.tenant = true → s.inFlight f r.tag = false → f.counter = r.upCounter →
    r.counted = true → (s.admitFrame r.tenant).1 = true →
    ∃ t, exec (.linkLayer n) s = .next t ∧
      (t.frame n).map (fun g => (g.stage, g.tag, g.tenant, g.retx)) = some (2, r.tag, r.tenant, true)) ∧
  (∀ (s : State) (n : Nat) (f : Frame) (r : Record), s.frame n = some f → f.stage = 1 → s.commits = true →
    s.recordFor f = some r → r.bad = false → s.enabled r.tenant = true → s.inFlight f r.tag = false → r.upCounter < f.counter →
    f.forwarded = none → s.journalFits f r = true → s.canCarry f r = false → r.tenant < 8 →
    s.nat (Obj.ingestRefused r.tenant) < 4294967295 →
    ∃ t, exec (.linkLayer n) s = .next t ∧ t.frame n = none ∧
      t.get (Obj.ingestRefused r.tenant) = (s.nat (Obj.ingestRefused r.tenant) + 1 : Nat)) ∧
  (∀ (s : State) (n : Nat) (f : Frame), s.frame n = some f → f.stage = 1 → s.commits = true → s.recordFor f = none →
    f.forwarded = none → s.nat Obj.unknownAddressFrames < 4294967295 →
    ∃ t, exec (.linkLayer n) s = .next t ∧ t.frame n = none ∧
      t.get Obj.unknownAddressFrames = (s.nat Obj.unknownAddressFrames + 1 : Nat) ∧
      t.unknown.head? = some (f.native, f.cell, f.quality, f.syncNs)) ∧
  (∀ (s : State) (n : Nat) (f : Frame) (r : Record) (tagged : Bool), s.frame n = some f → f.stage = 2 → s.commits = true →
    s.turnOf f (s.frames.filter fun g => g.stage == 2) = true → s.loc.zeroizing = false → s.record f.tag = some r → r.live = true →
    f.suite < 7 → s.loc.working.length < 2048 → s.unwrapResult r f.suite = 0 → f.resp = false → f.retx = false → f.forwarded = none →
    ∃ t u, exec (.unwrap n true tagged) s = .next t ∧ exec (.unwrap n false tagged) s = .next u ∧ u.frame n = none ∧ u.nand = s.nand ∧
      ((tagged = false ∨ s.hasAuthKey r.tenant f.suite = true) → (t.frame n).map (·.stage) = some 3) ∧
      (tagged = true → s.hasAuthKey r.tenant f.suite = false → t.frame n = none)) ∧
  (∀ (s : State) (n : Nat) (f : Frame) (r : Record), s.frame n = some f → f.stage = 3 → s.commits = true →
    s.turnOf f (s.frames.filter fun g => g.stage == 3) = true → s.nat Obj.mediaState = 0 → s.fits f.length = true →
    s.record f.tag = some r → r.live = true → r.tag = f.tag → s.billedAbove r = false → f.forwarded = none →
    ∃ t, exec (.ingestCommit n) s = .next t ∧ t.nand.ingestSeq = s.nand.ingestSeq + 1 ∧
      t.nand.ingest.map (·.seq) = s.nand.ingest.map (·.seq) ++ [s.nand.ingestSeq + 1] ∧
      (t.frame n).map (fun g => (g.stage, g.journal)) = some (4, s.nand.ingestSeq + 1) ∧
      (t.record f.tag).map (·.upCounter) = some f.counter) ∧
  (∀ (s : State) (n : Nat) (f : Frame) (r : Record), s.frame n = some f → f.stage = 3 → s.commits = true →
    s.turnOf f (s.frames.filter fun g => g.stage == 3) = true → s.nat Obj.mediaState = 0 → s.fits f.length = true →
    s.record f.tag = some r → r.live = true → r.tag = f.tag → s.billedAbove r = true → f.forwarded = none →
    s.forwardBytes + f.forwardSize ≤ s.nat Obj.forwardJournalLimit → f.resp = false →
    ∃ t, exec (.ingestCommit n) s = .next t ∧ t.frame n = none ∧
      t.nand.forward.map (fun e => (e.seq, e.msg)) = s.nand.forward.map (fun e => (e.seq, e.msg)) ++
        [(s.nand.ingestSeq + 1, f.message s.ownNumber r.billingHome (s.nand.ingestSeq + 1))]) ∧
  (∀ (s : State) (n : Nat) (f : Frame), s.frame n = some f → f.stage = 3 → s.commits = true → s.nat Obj.mediaState = 0 →
    s.fits f.length = false → exec (.ingestCommit n) s = .next s)

/-- PARSE (R172 to R175), VALIDATION (R178), BILLING (R204), SCALES_ADD (R237), RESULT_COMMIT (R28), UPLINK_RECORD (R22), UPLINK_BATCH,
BATCH_CONFIRMATION (R194). The result-commit clause is about a frame that carries no reading, event or comparand: its journal entry is
superseded and it stands at step 9; one that the buffer cannot take waits. -/
def Obligations.PathToTheUplink : Prop :=
  (∀ (s : State) (n ch : Nat) (f : Frame) (r : Record) (e : Element), s.frame n = some f → f.id = n → f.stage = 4 → s.serving = true →
    s.pw.cause = 0 → s.loc.zeroizing = false → s.record f.tag = some r → r.bad = false → s.turnOf f (s.readyAt 4) = true →
    e.supported = true → e.event = 0 → s.channelFor r e = some ch →
    ∃ t, exec (.parse n [e]) s = .next t ∧ (t.frame n).map (·.stage) = some 5 ∧
      (t.frame n).map (·.readings) = some (f.readings ++ [(s.readingOf f r ch e).1])) ∧
  (∀ (s : State) (n : Nat) (f : Frame) (r : Record) (es : List Element), s.frame n = some f → f.id = n → f.stage = 4 → s.serving = true →
    s.pw.cause = 0 → s.loc.zeroizing = false → s.record f.tag = some r → r.bad = false → s.turnOf f (s.readyAt 4) = true →
    (es.all fun e => !e.supported) = true → s.nat (Obj.parseUnsupported r.tenant) < 4294967295 →
    ∃ t, exec (.parse n es) s = .next t ∧ (t.frame n).map (fun g => { g with item := f.item }) = some { f with stage := 5 } ∧
      t.get (Obj.parseUnsupported r.tenant) = (s.nat (Obj.parseUnsupported r.tenant) + 1 : Nat)) ∧
  (∀ (s : State) (n : Nat) (f : Frame) (r : Record), s.frame n = some f → f.id = n → f.stage = 5 → s.serving = true →
    s.pw.cause = 0 → s.loc.zeroizing = false → s.record f.tag = some r → r.bad = false → s.turnOf f (s.readyAt 5) = true →
    ∃ t, exec (.validation n) s = .next t ∧ (t.frame n).map (·.stage) = some 6 ∧
      (f.readings = [] → (t.frame n).map (fun g => (g.readings, g.rejectedRules)) = some ([], []))) ∧
  (∀ (s : State) (n : Nat) (f : Frame) (r : Record), s.frame n = some f → f.id = n → f.stage = 6 → s.serving = true →
    s.pw.cause = 0 → s.loc.zeroizing = false → s.record f.tag = some r → r.bad = false → s.turnOf f (s.readyAt 6) = true →
    ∃ t, exec (.billing n) s = .next t ∧
      (t.frame n).map (fun g => { g with item := f.item }) =
        some { f with stage := 7, books := f.readings.filterMap (s.attribute f r) } ∧ t.nand = s.nand) ∧
  (∀ (s : State) (n : Nat) (f : Frame) (r : Record), s.frame n = some f → f.id = n → f.stage = 7 → s.serving = true →
    s.pw.cause = 0 → s.loc.zeroizing = false → s.record f.tag = some r → r.bad = false →
    ∃ t, exec (.scalesAdd n) s = .next t ∧ (t.frame n).map (fun g => { g with item := f.item }) = some { f with stage := 8 } ∧ t.nand = s.nand ∧ t.cat = s.cat) ∧
  (∀ (s : State) (n : Nat) (f : Frame) (r : Record), s.frame n = some f → f.id = n → f.stage = 8 → s.serving = true →
    s.pw.cause = 0 → s.loc.zeroizing = false → s.record f.tag = some r → r.bad = false → s.turnOf f (s.readyAt 8) = true →
    r.tag = f.tag → s.fits f.resultSize = true → f.readings = [] →
    f.rejectedRules = [] → f.compare = [] → f.events = [] → s.parked = [] → s.pw.replaying = false →
    ∃ t, exec (.resultCommit n) s = .next t ∧ (t.frame n).map (fun g => { g with item := f.item }) =
        some { f with stage := 9, replay := false, ups := [] } ∧ (t.record f.tag).map (·.downCounter) = some (Nat.max r.downCounter f.down) ∧
      t.nand.ingest = s.nand.ingest.filter (fun e => e.seq != f.journal)) ∧
  (∀ (s : State) (n : Nat) (f : Frame), s.frame n = some f → f.stage = 8 → s.fits f.resultSize = false →
    (∀ r, s.record f.tag = some r → r.bad = false) → exec (.resultCommit n) s = .next s) ∧
  (∀ (s : State) (n : Nat) (f : Frame), s.frame n = some f → f.id = n → f.stage = 9 → s.serving = true → s.pw.cause = 0 →
    s.turnOf f (s.frames.filter fun g => g.stage == 9) = true → f.resp = false →
    ∃ t, exec (.uplinkRecord n) s = .next t ∧ t.frame n = none ∧
      ∀ u b, f.ups = [u] → s.nand.open_[u.1]? = some b → ((t.nand.open_[u.1]?).bind fun b => b.recs.head?) = some u.2.1) ∧
  (∀ (s : State) (k : Nat) (b : Batch), s.up = true → s.pw.cause = 0 → s.enabled k = true → s.nand.open_[k]? = some b →
    b.recs ≠ [] → s.nat (Obj.uplinkTarget k) ≠ 0 →
    ∃ t, exec (.uplinkBatch k) s = .next t ∧ (t.nand.open_[k]?).map (·.recs) = some [] ∧
      t.nand.retained.length = s.nand.retained.length + 1 ∧
      (t.nand.retained.getLast?).map (fun c => (c.seq, c.recs)) = some ((tget s.hif.batchSeq k).getD 0 + 1, b.recs) ∧
      (∀ c ∈ t.nand.retained, c.tenant = k → c.sent = true)) ∧
  (∀ (s : State) (k q : Nat), s.up = true → s.nat (Obj.uplinkTarget k) ≠ 0 →
    ∃ t, exec (.batchConfirmation k q) s = .next t ∧
      t = { s with nand.retained := s.nand.retained.filter fun b => !(b.tenant == k && b.seq == q && b.sent) })

/-- CASCADE_SESSION_START, CASCADE_SESSION_LOSS (R51, R54), FORWARDED_FRAME (R31), INGEST_CONFIRMATION (R54), DOWNWARD_COMMAND (R52),
UPLINK_RECORD_BATCH (R52, R53): in regional role a subordinate of SubordinateTable comes up and its frames enter the path; in field role
the journal is sent again when the session to the concentrator above returns, and a confirmation releases every entry up to it; a session has
traffic keys from its handshake to its loss. -/
def Obligations.CascadeSessions : Prop :=
  (∀ (s : State) (n serial hash : Nat), s.up = true → s.mayHandshake = true → s.pw.regional = true →
    (s.subordinates.any fun e => e.1 == n && e.2.1 == serial && e.2.2 == hash) = true →
    ∃ t, exec (.cascadeSessionStart n serial hash) s = .next t ∧ t.cascadeUp n = true ∧
      (tget t.cascades n).map (·.serial) = some serial ∧ (tget t.loc.traffic (256 + n)).isSome = true ∧ t.nand = s.nand) ∧
  (∀ (s : State) (n serial hash : Nat), s.pw.regional = true →
    ((s.subordinates.any fun e => e.1 == n && e.2.1 == serial && e.2.2 == hash) = false ∨ s.mayHandshake = false) →
    exec (.cascadeSessionStart n serial hash) s = .next s) ∧
  (∀ (s : State) (n serial hash : Nat), s.up = true → s.mayHandshake = true → s.pw.regional = false →
    ∃ t, exec (.cascadeSessionStart n serial hash) s = .next t ∧ t.cascadeUp upstream = true ∧ t.above = n ∧
      t.cascadeOut = s.cascadeOut ++ s.nand.forward.map (fun e => { e.msg with flags := 2, source := s.ownNumber })) ∧
  (∀ (s : State) (n : Nat), s.pw.regional = true →
    ∃ t, exec (.cascadeSessionLoss n) s = .next t ∧ t.cascadeUp n = false ∧ tget t.loc.traffic (256 + n) = none ∧ t.nand = s.nand) ∧
  (∀ (s : State) (n q tag cell : Nat) (i : RxInfo), s.accepting = true → s.fw.matched ≠ 255 → (s.frames.any (·.replay)) = false →
    s.pw.regional = true → s.cascadeUp n = true →
    ∃ t, exec (.forwardedFrame n q tag cell i) s = .next t ∧ t.frames.length = s.frames.length + 1 ∧
      (t.frames.getLast?).map (fun f => (f.id, f.stage, f.tag, f.forwarded)) = some (s.nextFrame, 1, tag, some (n, q))) ∧
  (∀ (s : State) (q : Nat), s.up = true → s.pw.regional = false →
    ∃ t, exec (.ingestConfirmation q) s = .next t ∧ t.nand.forward = s.nand.forward.filter (fun e => Nat.blt q e.seq) ∧
      t.frames = s.frames) ∧
  (∀ (s : State) (bc : Bool) (target tag len p : Nat), s.up = true → s.pw.regional = true →
    ∃ t, exec (.downwardCommand bc target tag len p) s = .next t ∧
      t.cascadeOut = s.cascadeOut ++ (s.subordinates.filter fun e => (bc || e.1 == target) && s.cascadeUp e.1).map
        (fun e => s.downMessage bc s.ownNumber e.1 tag len p)) ∧
  (∀ (s : State) (bc : Bool) (target tag len p : Nat), s.up = true → s.pw.regional = false → s.cascadeUp upstream = true →
    (bc = true ∨ target = s.ownNumber) →
    ∃ t, exec (.downwardCommand bc target tag len p) s = .next t ∧
      t.cascadeIn = s.cascadeIn ++ [s.downMessage bc s.above target tag len p]) ∧
  (∀ (s : State) (n ty data k : Nat) (b : Batch), s.up = true → s.pw.regional = true → s.cascadeUp n = true →
    s.recordTenant ty data = some k → s.enabled k = true → s.nand.open_[k]? = some b →
    ∃ t, exec (.uplinkRecordBatch n [(ty, data)]) s = .next t ∧
      ((t.nand.open_[k]?).bind fun b => b.recs.head?) = some { ty, len := recordLength ty data, data })

/-- ENDPOINT_ADMIT (R45), ENDPOINT_ADMIT_MOVE (R49), ENDPOINT_REMOVE (R50), ENDPOINT_READ (R40), QUARANTINE_END (R50), TAI_MIDNIGHT (R47,
R243): an image that no check refuses opens a record in state Admitted under the tag that the answer returns; a refused one opens none;
removal leaves the record in state Removed until its quarantine ends. The removal clause is about an endpoint whose billing state is held
elsewhere. -/
def Obligations.EndpointRegistry : Prop :=
  (∀ (s : State) (r : CapReq) (ses : Session) (i : Image), s.Admits r Obj.endpointAdmit ses → ses.mayTenant i.tenant = true →
    s.imageRefusal i = none → s.nat Obj.mediaState = 0 →
    ∃ t, exec (.endpointAdmit r i) s = .next t ∧ t.Answered r Obj.endpointAdmit (capVal 8 (s.tagFor i)) ∧
      (t.record (s.tagFor i)).map (fun x => (x.tag, x.state, x.ntype, x.naddr, x.tenant, x.slot)) =
        some (s.tagFor i, 1, i.native.ntype, i.native.addr, i.tenant, s.slotFor (s.tagFor i)) ∧
      (s.holdsBilling (setBit (i.flags % 256) 2 false) = true →
        (t.bill (s.tagFor i)).isSome = true)) ∧
  (∀ (s : State) (r : CapReq) (ses : Session) (i : Image) (o : CapOut), s.Admits r Obj.endpointAdmit ses → ses.mayTenant i.tenant = true →
    s.imageRefusal i = some o →
    ∃ t, exec (.endpointAdmit r i) s = .next t ∧ t.Answered r Obj.endpointAdmit o ∧ t.nand = s.nand) ∧
  (∀ (s : State) (r : CapReq) (ses : Session) (i : Image) (x : MoveExport), s.Admits r Obj.endpointAdmitMove ses →
    ses.mayTenant i.tenant = true → s.exportRefusal i x = none → s.imageRefusal i = none → s.nat Obj.mediaState = 0 →
    ∃ t, exec (.endpointAdmitMove r i x) s = .next t ∧ t.Answered r Obj.endpointAdmitMove (capVal 8 (s.tagFor i)) ∧
      (t.record (s.tagFor i)).map (fun y => (y.tag, y.state, y.naddr, y.prevTag)) = some (s.tagFor i, 1, i.native.addr, x.tag) ∧
      (s.holdsBilling (setBit (i.flags % 256) 2 false) = true →
        (t.bill (s.tagFor i)).map (fun b => b.turn.credit) = some x.credit)) ∧
  (∀ (s : State) (r : CapReq) (ses : Session) (tag : Nat) (x : Record), s.Admits r Obj.endpointRemove ses →
    s.endpointBusy tag = false → s.record tag = some x → x.tag = tag → x.live = true → ses.mayTenant x.tenant = true →
    s.nat Obj.mediaState = 0 → s.loc.zeroizing = false → s.loc.entropyFailed = false → s.bill tag = none → (s.nand.deferred.any fun d => d.tag == tag) = false →
    ∃ t v, exec (.endpointRemove r tag) s = .next t ∧ t.Answered r Obj.endpointRemove (capVal 1024 v) ∧
      t.record tag = some { x with state := 4, blob := none, removedAt := s.tai } ∧ t.nand.hash = hashRemove s.nand.hash x.slot) ∧
  (∀ (s : State) (r : CapReq) (ses : Session) (tag : Nat) (x : Record), s.Admits r Obj.endpointRead ses → s.record tag = some x →
    x.state ≠ 0 → x.bad = false → ses.mayTenant x.tenant = true →
    ∃ t, exec (.endpointRead r tag) s = .next t ∧ t.Answered r Obj.endpointRead (capVal 256 x.pack) ∧ t.nand = s.nand) ∧
  (∀ (s : State) (tag : Nat) (x : Record), s.record tag = some x → s.up = true → x.state = 4 →
    x.removedAt + 86400 * s.nat Obj.indexQuarantineDays ≤ s.tai →
    ∃ t, exec (.quarantineEnd tag) s = .next t ∧ t.record tag = none ∧ (∀ k, k ≠ tag → t.record k = s.record k) ∧ t.cat = s.cat) ∧
  (∀ s : State, s.up = true → s.nand.day < s.tai / 86400 →
    ∃ t, exec .taiMidnight s = .next t ∧ t.nand.day = s.tai / 86400 ∧ t.cat = s.cat ∧
      ∀ tag x, s.record tag = some x → Tab.rising s.nand.recs = true →
        (t.record tag).map (fun y => (y.score, y.heard)) =
          some (x.score - (s.tai / 86400 - s.nand.day) * s.nat Obj.scoreDecayPerDay, heardAges (s.tai / 86400 - s.nand.day) x.heard))

/-- NODE_WRITE (R235), NODE_READ (R245), SCORE_RESET (R243), BALANCE_EVALUATION (R236, R238): a node that passes the checks is written or
taken out, any other is refused with no change; a score reset leaves 0; a balance whose instant has come moves the node to its next
interval, with no energy added to any endpoint. -/
def Obligations.TreeAndBalances : Prop :=
  (∀ (s : State) (r : CapReq) (ses : Session) (a : NodeArg), s.Admits r Obj.nodeWrite ses → s.nodeCheck a = 0 →
    s.nat Obj.mediaState = 0 → a.kind ≠ 0 →
    ∃ t, exec (.nodeWrite r a) s = .next t ∧ t.Answered r Obj.nodeWrite capOk ∧
      (tget t.nand.nodes a.id).map (fun x => (x.parent, x.kind, x.tenant, x.minWh, x.permille, x.name)) =
        some (a.parent, a.kind, a.tenant, a.minWh, a.permille, a.name)) ∧
  (∀ (s : State) (r : CapReq) (ses : Session) (a : NodeArg), s.Admits r Obj.nodeWrite ses → s.nodeCheck a ≠ 0 →
    ∃ t, exec (.nodeWrite r a) s = .next t ∧ t.Answered r Obj.nodeWrite (capErr (s.nodeCheck a) 0) ∧ t.nand = s.nand) ∧
  (∀ (s : State) (r : CapReq) (ses : Session) (n : Nat) (x : Node), s.Admits r Obj.nodeRead ses → n ≤ 16383 →
    tget s.nand.nodes n = some x →
    ∃ t, exec (.nodeRead r n) s = .next t ∧
      t.Answered r Obj.nodeRead (capVal 98 (pack [(32, x.pack n), (2, x.run), (64, x.last)])) ∧ t.nand = s.nand) ∧
  (∀ (s : State) (r : CapReq) (ses : Session) (tag : Nat) (x : Record), s.Admits r Obj.scoreReset ses → s.record tag = some x →
    x.live = true → ses.mayTenant x.tenant = true → s.nat Obj.mediaState = 0 →
    ∃ t, exec (.scoreReset r tag) s = .next t ∧ t.Answered r Obj.scoreReset capOk ∧ (t.record tag).map (·.score) = some 0) ∧
  (∀ (s : State) (n : Nat) (x : Node), s.node n = some x → s.serving = true → s.tai / 86400 ≤ s.nand.day →
    s.balanceEnd x.lastEnd + s.nat Obj.balanceDelayS ≤ s.billSec →
    ∃ t, exec (.balanceEvaluation n) s = .next t ∧ (t.node n).map (·.lastEnd) = some (s.balanceEnd x.lastEnd) ∧
      t.nand.energies = s.nand.energies)

/-- TOP_UP, DEBT_SET (R224), LOCK_OUT_SET (R229), EMERGENCY_ACCEPT (R226), EMERGENCY_OFFER_EXPIRY (R225), SWITCH_SUBMIT (R231, R232): a sequence
above the endpoint's is applied as R224 computes it, the one applied last is answered OK again with no effect; a request that is friendly
credit's is withheld, another gets the next RequestSequence. -/
def Obligations.PrepaymentCommands : Prop :=
  (∀ (s : State) (r : CapReq) (ses : Session) (tag seq : Nat) (a : Int) (x : Record) (b : Bill), s.Admits r Obj.topUp ses →
    s.endpointBusy tag = false → s.record tag = some x → x.live = true → ses.mayTenant x.tenant = true → x.flag 6 = true →
    s.bill tag = some b → 0 < a → b.turn.topUpCounter < seq → s.nat Obj.mediaState = 0 →
    ∃ t, exec (.topUp r tag a seq) s = .next t ∧ t.Answered r Obj.topUp capOk ∧
      (t.bill tag).map (fun c => (c.turn.credit, c.turn.debt, c.turn.topUpCounter, c.turn.lastAmount)) =
        some ((topUpArea b.turn a (s.shareOf x b.turn) seq s.tai).credit, (topUpArea b.turn a (s.shareOf x b.turn) seq s.tai).debt, seq, a)) ∧
  (∀ (s : State) (r : CapReq) (ses : Session) (tag : Nat) (x : Record) (b : Bill), s.Admits r Obj.topUp ses →
    s.endpointBusy tag = false → s.record tag = some x → x.live = true → ses.mayTenant x.tenant = true → x.flag 6 = true →
    s.bill tag = some b → 0 < b.turn.lastAmount → bit b.turn.flags 4 = false →
    ∃ t, exec (.topUp r tag b.turn.lastAmount b.turn.topUpCounter) s = .next t ∧ t.Answered r Obj.topUp capOk ∧ t.nand = s.nand) ∧
  (∀ (s : State) (r : CapReq) (ses : Session) (tag seq : Nat) (v : Int) (x : Record) (b : Bill), s.Admits r Obj.debtSet ses →
    s.endpointBusy tag = false → s.record tag = some x → x.live = true → ses.mayTenant x.tenant = true → x.flag 6 = true →
    s.bill tag = some b → 0 ≤ v → b.turn.topUpCounter < seq → s.nat Obj.mediaState = 0 →
    ∃ t, exec (.debtSet r tag v seq 0xFFFE) s = .next t ∧ t.Answered r Obj.debtSet capOk ∧
      (t.bill tag).map (fun c => (c.turn.debt, c.turn.topUpCounter, c.turn.lastAmount, c.turn.share)) = some (v, seq, v, b.turn.share)) ∧
  (∀ (s : State) (r : CapReq) (ses : Session) (tag on : Nat) (x : Record), s.Admits r Obj.lockOutSet ses → s.endpointBusy tag = false →
    s.record tag = some x → x.live = true → ses.mayTenant x.tenant = true → on ≤ 1 → s.nat Obj.mediaState = 0 →
    ∃ t, exec (.lockOutSet r tag on) s = .next t ∧ t.Answered r Obj.lockOutSet capOk ∧
      (t.record tag).map (·.flags) = some (setBit x.flags 3 (on == 1))) ∧
  (∀ (s : State) (r : CapReq) (ses : Session) (tag : Nat) (x : Record) (b : Bill), s.Admits r Obj.emergencyAccept ses →
    s.endpointBusy tag = false → s.record tag = some x → x.tag = tag → x.live = true → ses.mayTenant x.tenant = true →
    x.flag 6 = true → s.bill tag = some b → b.turn.state = 2 → b.turn.credit ≤ 0 →
    b.turn.credit < s.get (Obj.lowCreditThreshold x.tenant) → -(s.get (Obj.emergencyLimit x.tenant)) < b.turn.credit →
    s.nat Obj.mediaState = 0 →
    ∃ t, exec (.emergencyAccept r tag) s = .next t ∧ t.Answered r Obj.emergencyAccept capOk ∧
      (t.bill tag).map (fun c => (c.turn.state, c.turn.granted)) = some (3, s.get (Obj.emergencyLimit x.tenant))) ∧
  (∀ (s : State) (tag : Nat) (x : Record) (b : Bill), s.record tag = some x → x.tag = tag → s.bill tag = some b → s.serving = true →
    x.flag 6 = true → b.turn.state = 2 → b.turn.since + s.nat (Obj.emergencyOfferS x.tenant) ≤ s.billSec →
    ∃ t, exec (.emergencyOfferExpiry tag) s = .next t ∧ (t.bill tag).map (fun c => (c.turn.state, c.turn.since)) = some (4, s.billSec)) ∧
  (∀ (s : State) (r : CapReq) (ses : Session) (a : SwitchArg) (x : Record) (b : Bill), s.Admits r Obj.switchSubmit ses →
    1 ≤ a.kind → a.kind ≤ 3 → a.expiry ≠ 0 → s.record a.tag = some x → x.live = true → ses.mayTenant x.tenant = true →
    x.dlms = true → x.flag 3 = false → s.bill a.tag = some b → s.friendly b.calendar s.billSec = false →
    ∃ t, exec (.switchSubmit r a) s = .next t ∧ t.Answered r Obj.switchSubmit (capVal 4 (s.nand.requestSeq + 1)) ∧
      t.nand.requestSeq = s.nand.requestSeq + 1 ∧
      t.gate.queue.map (fun q => (q.seq, q.kind, q.tag)) =
        s.gate.queue.map (fun q => (q.seq, q.kind, q.tag)) ++ [(s.nand.requestSeq + 1, a.kind, a.tag)]) ∧
  (∀ (s : State) (r : CapReq) (ses : Session) (a : SwitchArg) (x : Record) (b : Bill), s.Admits r Obj.switchSubmit ses →
    a.kind = 1 ∨ a.kind = 3 → a.expiry ≠ 0 → s.record a.tag = some x → x.live = true → ses.mayTenant x.tenant = true →
    x.dlms = true → x.flag 6 = true → s.bill a.tag = some b → s.friendly b.calendar s.billSec = true →
    ∃ t, exec (.switchSubmit r a) s = .next t ∧ t.Answered r Obj.switchSubmit (capVal 4 0) ∧ t.gate.queue = s.gate.queue ∧
      t.nand.withheld.length = s.nand.withheld.length + 1)

/-- TARIFF_SET_SUBMIT (R200), BILLING_BOUNDARY (R209), CLOSE_SWEEP (R212), BILLING_READ, SNAPSHOT_READ (R219), DEFERRED_RULE (R179),
GAP_ESTIMATION, PROFILE_FORWARD_FILL (R182): an image becomes passive with its container's counter; a boundary whose instant has come is
processed; a deferred item that is carried out is gone. The BILLING_READ clause is about an endpoint with no boundary left to apply. -/
def Obligations.TariffsAndBoundaries : Prop :=
  (∀ (s : State) (r : CapReq) (ses : Session) (e : Epmeir) (g : Nat), s.Admits r Obj.tariffSetSubmit ses → s.tariffCheck e [g] = none →
    s.nat Obj.mediaState = 0 →
    ∃ t, exec (.tariffSetSubmit r e [g]) s = .next t ∧ t.Answered r Obj.tariffSetSubmit capOk ∧
      t.get Obj.tariffSetCounter = (e.counter : Int) ∧
      t.get (Obj.calendarPassive (byteAt g 0)) = (imgWithSource g e.counter : Int)) ∧
  (∀ (s : State) (r : CapReq) (ses : Session) (e : Epmeir) (gs : List Nat) (st d i o : Nat), s.Admits r Obj.tariffSetSubmit ses →
    s.tariffCheck e gs = some (st, d, i, o) →
    ∃ t, exec (.tariffSetSubmit r e gs) s = .next t ∧ t.Answered r Obj.tariffSetSubmit (capErr st d) ∧ t.nand = s.nand ∧
      t.get Obj.tariffSetCounter = s.get Obj.tariffSetCounter) ∧
  (∀ (s : State) (c x : Nat), s.nextBoundary c (s.calState c).last = some x → s.boothRuns x = true →
    ∃ t, exec (.billingBoundary c) s = .next t ∧ (t.calState c).last = x ∧
      ((s.marksAt c x).2.1 = true → (t.calState c).w = x)) ∧
  (∀ (s : State) (c tag : Nat), s.serving = true → (s.calState c).sweep.contains tag = true →
    ∃ t, exec (.closeSweep c tag) s = .next t ∧ (t.calState c).sweep = (s.calState c).sweep.filter (· != tag)) ∧
  (∀ (s : State) (r : CapReq) (ses : Session) (tag : Nat) (x : Record) (b : Bill), s.Admits r Obj.billingRead ses →
    s.record tag = some x → s.bill tag = some b → ses.mayTenant x.tenant = true →
    s.dueBoundaries b (s.calState b.calendar).last = [] → (s.calState b.calendar).sweep.contains tag = false →
    ∃ t, exec (.billingRead r tag) s = .next t ∧ t.Answered r Obj.billingRead (capVal 512 b.pack) ∧ t.bill tag = some b) ∧
  (∀ (s : State) (r : CapReq) (ses : Session) (tag p : Nat) (x : Record) (v : Shot), s.Admits r Obj.snapshotRead ses →
    s.record tag = some x → ses.mayTenant x.tenant = true → tget s.nand.shots (tag * 4294967296 + p) = some v →
    ∃ t, exec (.snapshotRead r tag p) s = .next t ∧ t.Answered r Obj.snapshotRead (capVal 512 v.pack) ∧ t.nand = s.nand) ∧
  (∀ (s : State) (tag ch rule fin : Nat) (d : Deferred) (x : Record),
    (s.nand.deferred.find? fun d => d.tag == tag && d.channel == ch && d.rule == rule && d.fin == fin) = some d → s.serving = true →
    d.due ≤ s.billSec → s.endpointBusy tag = false → s.nat Obj.mediaState = 0 → s.governed = false → s.record tag = some x →
    rule < 64 →
    ∃ t, exec (.deferredRule tag ch rule fin) s = .next t ∧
      (t.nand.deferred.any fun d => d.tag == tag && d.channel == ch && d.rule == rule && d.fin == fin) = false) ∧
  (∀ (s : State) (tag ch fin : Nat) (d : Deferred) (x : Record),
    (s.nand.deferred.find? fun d => d.tag == tag && d.channel == ch && d.rule == 64 && d.fin == fin) = some d → s.serving = true →
    d.due ≤ s.billSec → s.endpointBusy tag = false → s.nat Obj.mediaState = 0 → s.record tag = some x → s.bill tag = none →
    (s.fillGap x 0 ch fin d.by_).1 = true →
    ∃ t, exec (.gapEstimation tag ch fin) s = .next t ∧
      (t.nand.deferred.any fun d => d.tag == tag && d.channel == ch && (d.rule == 64 || d.rule == 65) && d.fin == fin) = false) ∧
  (∀ (s : State) (tag ch fin : Nat) (d : Deferred) (x : Record),
    (s.nand.deferred.find? fun d => d.tag == tag && d.channel == ch && d.rule == 65 && d.fin == fin) = some d → s.serving = true →
    d.due ≤ s.billSec → s.endpointBusy tag = false → s.nat Obj.mediaState = 0 → s.record tag = some x →
    ∃ t, exec (.profileForwardFill tag ch fin) s = .next t ∧
      (t.nand.deferred.any fun d => d.tag == tag && d.channel == ch && d.rule == 65 && d.fin == fin) = false)

/-- GUARANTEE_WINDOW_START (R186), COMMAND_LATENCY_MISS (R187, R188), STORM_WINDOW_END (R189, R191): the first window opens with each enabled
tenant's original reservation; further capacity that levels 1 and 2 take lowers the cap of the window; a miss is counted and listed as a
breach of its tenant at level 5; a key leaves storm mode in a kind that stayed below StormExitCount in the window that ended. -/
def Obligations.AdmissionAndStorms : Prop :=
  (∀ (s : State) (a b : Nat), s.serving = true → s.win.started = false →
    ∃ t, exec (.guaranteeWindowStart a b) s = .next t ∧ t.win.started = true ∧ t.win.ms = s.nat Obj.guaranteeWindowMs ∧
      t.win.taken1 = a ∧ t.win.taken2 = b ∧ t.cat = s.cat ∧
      ∀ k, k < 8 → (t.win.tenants[k]?).map (·.orig) =
        some (if s.enabled k then s.nat Obj.ratedIngest * s.nat Obj.guaranteeWindowMs * s.nat (Obj.ingestShareMille k) / 1000000 else 0)) ∧
  (∀ (s : State) (a b : Nat), s.serving = true → s.win.started = true → s.win.start ≤ s.now →
    s.now < s.win.start + s.win.ms * 1000000 →
    ∃ t, exec (.guaranteeWindowStart a b) s = .next t ∧ t.win.cap = s.win.cap - a - b ∧ t.win.start = s.win.start ∧ t.cat = s.cat) ∧
  (∀ (s : State) (k displaced due onTime : Nat), s.up = true → k < 8 → s.nat (Obj.latencyBreaches k) < 4294967295 →
    ∃ t, exec (.commandLatencyMiss k displaced due onTime) s = .next t ∧ t.win.breached.contains (k, 5) = true ∧
      t.get (Obj.latencyBreaches k) = (s.nat (Obj.latencyBreaches k) + 1 : Nat)) ∧
  (∀ (s : State) (c cell : Nat) (x : StormKey), s.stormKey c cell = some x → s.serving = true → 1 ≤ s.now / s.stormLen →
    ∃ t, exec (.stormWindowEnd c cell) s = .next t ∧
      (t.stormKey c cell).map (fun y => (y.outage, y.restoration)) =
        some (x.outage && Nat.ble (s.nat Obj.stormExitCount) (x.total (s.now / s.stormLen - 1) 1),
          x.restoration && Nat.ble (s.nat Obj.stormExitCount) (x.total (s.now / s.stormLen - 1) 2)))

/-- KEY_UPDATE_SUBMIT (R157 to R160), REWRAP (R148, R153), REKEY_MARK (R154), KEY_HELD_RELEASE (R156), ATTEST_REQUEST (R161): a sealed blob
opens under its key encryption key for its endpoint, and gives its key and header again; a container whose checks pass is applied with its
counter, under a salt, and any other leaves every key as it was; a blob of a draining slot is wrapped again under the current generation in
another slot, and its old slot is free; a marked endpoint has RekeyPending set; a frame whose endpoint has a usable blob again is back on
the path at step 4; an attestation is a statement and a signature of it. The last clause names the signature by Config.signature, which is
open (log entry 111). -/
def Obligations.KeysAndBlobs : Prop :=
  (∀ kind gen tenant slot usage : Nat, kind < 256 → gen < 65536 → tenant < 256 → slot < 256 → usage < 65536 → ∀ kek tag key : Nat,
    blobVersion (sealBlob kek (blobHeader kind gen tenant slot usage) tag key) = 1 ∧
    blobKind (sealBlob kek (blobHeader kind gen tenant slot usage) tag key) = kind ∧
    blobGen (sealBlob kek (blobHeader kind gen tenant slot usage) tag key) = gen ∧
    blobTenant (sealBlob kek (blobHeader kind gen tenant slot usage) tag key) = tenant ∧
    blobSlot (sealBlob kek (blobHeader kind gen tenant slot usage) tag key) = slot ∧
    blobUsage (sealBlob kek (blobHeader kind gen tenant slot usage) tag key) = usage) ∧
  (∀ (s : State) (r : CapReq) (ses : Session) (e : Epmeir) (u : KeyUpdate) (k : KeyEntry), s.Admits r Obj.keyUpdateSubmit ses →
    (ses.role = 1 → ses.tenant = u.tenant) → s.loc.zeroizing = false → s.keyUpdateCheck e u = 0 → u.entries = [k] → k.kind = 1 →
    k.keyKind = 2 → s.loc.keys.protoBytes ≤ 8192 → s.nat Obj.mediaState = 0 →
    ∃ t, exec (.keyUpdateSubmit r e u) s = .next t ∧ t.Answered r Obj.keyUpdateSubmit capOk ∧
      tget t.loc.keys.masters u.tenant = some k.key ∧ t.get (Obj.keyUpdateCounter u.tenant) = (e.counter : Int) ∧ t.bat.salt ≠ 0) ∧
  (∀ (s : State) (r : CapReq) (ses : Session) (e : Epmeir) (u : KeyUpdate), s.Admits r Obj.keyUpdateSubmit ses →
    (ses.role = 1 → ses.tenant = u.tenant) → s.loc.zeroizing = false → (∀ tag ∈ keyUpdateTags u, s.endpointBusy tag = false) →
    s.keyUpdateCheck e u ≠ 0 →
    ∃ t, exec (.keyUpdateSubmit r e u) s = .next t ∧ t.Answered r Obj.keyUpdateSubmit (capErr 13 (s.keyUpdateCheck e u)) ∧
      t.loc = s.loc ∧ t.nand = s.nand ∧ t.bat = s.bat) ∧
  (∀ (s : State) (tag i j b key : Nat) (x : Record) (c p : Nat × Nat × Bool), s.record tag = some x → x.tag = tag →
    x.blob = some j → tget s.nand.blobs j = some b → (s.kek (blobTenant b) (blobSlot b)).cur = some c →
    (s.kek (blobTenant b) (blobSlot b)).prev = some p → s.up = true → s.loc.zeroizing = false → blobGen b = p.1 →
    s.nat Obj.rewrapRate ≠ 0 → s.endpointBusy tag = false → s.freeBlob = some i → openBlob p.2.1 tag b = some key →
    ∃ t, exec (.rewrap tag) s = .next t ∧
      (t.record tag).map (fun y => (y.blob, y.kekGen)) = some (some i,
        blobGen (sealBlob c.2.1 (blobHeader (blobKind b) c.1 (blobTenant b) (blobSlot b) (blobUsage b)) tag key)) ∧
      tget t.nand.blobs i = some (sealBlob c.2.1 (blobHeader (blobKind b) c.1 (blobTenant b) (blobSlot b) (blobUsage b)) tag key) ∧
      ((s.nand.recs.all fun e => e.1 == tag || e.2.blob != some j) = true → tget t.nand.blobs j = none)) ∧
  (∀ (s : State) (tag : Nat) (x : Record), s.up = true → s.loc.rekey.contains tag = true → s.nat Obj.rewrapRate ≠ 0 →
    s.record tag = some x →
    ∃ t, exec (.rekeyMark tag) s = .next t ∧ t.loc.rekey.contains tag = false ∧
      (t.record tag).map (·.flags) = some (setBit x.flags 2 true)) ∧
  (∀ (s : State) (q : Nat) (e : Ingest) (x : Record), (s.nand.ingest.find? fun e => e.seq == q && e.held) = some e →
    s.record e.frame.tag = some x → s.serving = true → s.pw.cause = 0 → s.loc.zeroizing = false → s.unwrapResult x e.frame.suite = 0 →
    ∃ t, exec (.keyHeldRelease q true) s = .next t ∧ t.frames.length = s.frames.length + 1 ∧
      (t.frames.getLast?).map (fun f => (f.id, f.stage, f.tag, f.journal)) = some (s.nextFrame, 4, e.frame.tag, e.frame.journal) ∧
      (t.nand.ingest.any fun y => y.seq == q && y.held) = false) ∧
  (∀ (s : State) (r : CapReq) (ses : Session) (k kind slot g nonce key : Nat), s.Admits r Obj.attestRequest ses →
    s.loc.zeroizing = false → s.loc.entropyFailed = false → s.generatedKey k kind slot g = some key →
    ∃ t hedge, exec (.attestRequest r k kind slot g nonce) s = .next t ∧ t.loc = s.loc ∧
      t.Answered r Obj.attestRequest (capVal 288 (s.statement k kind slot g nonce key + 256 ^ 192 *
        (Config.signature (s.loc.device.getD attestationKey 0) (s.statement k kind slot g nonce key) hedge % 256 ^ 96)))) ∧
  (∀ (s : State) (r : CapReq) (ses : Session) (k kind slot g nonce : Nat), s.Admits r Obj.attestRequest ses →
    ∃ t, exec (.attestRequest r k kind slot g nonce) s = .next t ∧ t.loc = s.loc ∧
      (s.loc.zeroizing = true → t.Answered r Obj.attestRequest (capErr 13 13)) ∧
      (s.loc.zeroizing = false → s.loc.entropyFailed = true → t.Answered r Obj.attestRequest (capErr 13 14)) ∧
      (s.loc.zeroizing = false → s.loc.entropyFailed = false → s.generatedKey k kind slot g = none →
        t.Answered r Obj.attestRequest (capErr 13 15)))

/-- MASK_REFRESH (R147): the value of every word of key SRAM, the exclusive or of its shares, is as before, whatever the fresh bits are,
which go into both shares of the word. DRBG_RESEED, ENTROPY_FAILURE, ENTROPY_RECOVERED (R166), ZEROIZE_RELEASE (R167): no reseeding while
the source has failed; on release the level-1 keys are derived again. -/
def Obligations.EntropyAndMasking : Prop :=
  (∀ (s : State) (w : Nat), ∃ t, exec (.maskRefresh w) s = .next t ∧
    (∀ v, t.keyWord v = s.keyWord v ∧ (t.shares v).1 ^^^ (t.shares v).2 = s.keyWord v) ∧ t.loc.keys = s.loc.keys ∧
    t.cat = s.cat ∧ t.nand = s.nand ∧
    (s.awake = true → s.loc.zeroizing = false → w ≤ 16383 →
      ∃ m, m < 2 ^ 64 ∧ t.shares w = ((s.shares w).1 ^^^ m, (s.shares w).2 ^^^ m)) ∧
    (∀ v, v ≠ w → t.shares v = s.shares v)) ∧
  (∀ s : State, s.awake = true → s.loc.zeroizing = false → ∃ t, exec .drbgReseed s = .next t ∧ t.loc.keys = s.loc.keys ∧
    t.nand = s.nand ∧ t.cat = s.cat ∧ (s.loc.entropyFailed = true → t = s) ∧
    (s.loc.entropyFailed = false → t.loc.reseeds = s.loc.reseeds + 1 ∧ t.loc.drbg < 2 ^ 384)) ∧
  (∀ s : State, s.awake = true → s.nat Obj.entropyFailures < 4294967295 →
    ∃ t, exec .entropyFailure s = .next t ∧ t.loc.entropyFailed = true ∧ t.mayHandshake = false ∧
      t.get Obj.entropyFailures = (s.nat Obj.entropyFailures + 1 : Nat)) ∧
  (∀ s : State, s.awake = true → exec .entropyRecovered s = .next { s with loc.entropyFailed := false }) ∧
  (∀ s : State, ∃ t, exec .zeroizeRelease s = .next t ∧ t.loc.zeroizing = false ∧ t.loc.keys = s.loc.keys ∧ t.bat = s.bat ∧
    t.nand = s.nand ∧ t.cat = s.cat ∧ (s.loc.zeroizing = false → t = s) ∧
    (s.loc.zeroizing = true → s.awake = true → t.loc.device = (List.range 4).map (fun i => Config.deviceKey i % 2 ^ 384) ∧
      t.loc.drbg < 2 ^ 384))

/-- LINK_UP, LINK_DOWN (R269, R270), RX_SFD (R272), RX_FRAME_END (R273), RX_DISPATCH, RX_STARVE_TIMEOUT (R276), TX_FRAME_SENT (R278),
PTP_PDELAY_REQ (R281): a frame whose greatest length fits is admitted at its SFD and any other dropped and counted; a whole one enters the
FIFO, or is counted as what is wrong with it; the head of the FIFO goes to its ring or, once the wait is over, is dropped. The transmit
clause is about a frame of the firmware while no host ring feeds the port. -/
def Obligations.EthernetPorts : Prop :=
  (∀ (s : State) (p : Nat) (auto_ partner : Bool) (x : Port), s.netRuns = true → s.portOn p = true → s.ports[p]? = some x →
    ∃ t, exec (.linkUp p auto_ partner) s = .next t ∧
      (t.ports[p]?).map (fun y => (y.up, y.aneg, y.partnerPause, y.rx)) =
        some (true, auto_ && s.negotiates p, partner && s.negotiates p, x.rx)) ∧
  (∀ (s : State) (p : Nat) (x : Port), s.ports[p]? = some x → x.up = true → s.nat (Obj.linkDowns p) < 4294967295 →
    ∃ t, exec (.linkDown p) s = .next t ∧
      (t.ports[p]?).map (fun y => (y.up, y.arriving, y.tx, y.rx, y.pausedUntil)) = some (false, none, [], x.rx, none) ∧
      t.get (Obj.linkDowns p) = (s.nat (Obj.linkDowns p) + 1 : Nat)) ∧
  (∀ (s : State) (p : Nat) (x : Port), s.ports[p]? = some x → s.netRuns = true → s.portOn p = true → x.up = true → x.arriving = none →
    s.nat (Obj.rxFifoDrops p) < 4294967295 →
    ∃ t, exec (.rxSfd p) s = .next t ∧
      (round64 (s.nat (Obj.maxFrameBytes p)) ≤ x.room →
        (t.ports[p]?).map (fun y => (y.arriving, y.arrivalNs, y.rx)) = some (some (round64 (s.nat (Obj.maxFrameBytes p))), s.now, x.rx)) ∧
      (x.room < round64 (s.nat (Obj.maxFrameBytes p)) →
        t.ports = s.ports ∧ t.get (Obj.rxFifoDrops p) = (s.nat (Obj.rxFifoDrops p) + 1 : Nat))) ∧
  (∀ (s : State) (p n : Nat) (f : EthRx) (x : Port), s.ports[p]? = some x → x.arriving = some n → 64 ≤ f.length →
    f.length ≤ s.nat (Obj.maxFrameBytes p) → f.fcsOk = true → f.macControl = false → s.tcForwards p f false = false →
    s.rxAccepts p f = true → x.filters = none →
    ∃ t, exec (.rxFrameEnd p f) s = .next t ∧
      (t.ports[p]?).map (fun y => (y.arriving, y.rx.map (·.frame), (y.rx.getLast?).map (·.queue))) =
        some (none, x.rx.map (·.frame) ++ [f], some (s.nat (Obj.defaultQueue p)))) ∧
  (∀ (s : State) (p n : Nat) (f : EthRx) (x : Port), s.ports[p]? = some x → x.arriving = some n → f.length < 64 →
    s.nat (Obj.rxRunts p) < 4294967295 →
    ∃ t, exec (.rxFrameEnd p f) s = .next t ∧ (t.ports[p]?).map (fun y => (y.arriving, y.rx)) = some (none, x.rx) ∧
      t.get (Obj.rxRunts p) = (s.nat (Obj.rxRunts p) + 1 : Nat)) ∧
  (∀ (s : State) (p : Nat) (x : Port) (g : RxFifoFrame), s.ports[p]? = some x → x.rx.head? = some g → s.netRuns = true →
    s.ringOwner 4 p g.queue = none → g.truncated = false → s.nat (Obj.rxFrames p) < 4294967295 →
    ∃ t, exec (.rxDispatch p) s = .next t ∧ (t.ports[p]?).map (·.rx) = some (x.rx.drop 1) ∧
      t.get (Obj.rxFrames p) = (s.nat (Obj.rxFrames p) + 1 : Nat)) ∧
  (∀ (s : State) (p q : Nat) (x : Port) (g : RxFifoFrame) (h : HostQueue), s.ports[p]? = some x → x.rx.head? = some g → s.netRuns = true →
    s.ringOwner 4 p g.queue = some q → s.hqOf q = some h → s.hostUp = true → s.hif.busMaster = true → h.running = true →
    descsFor h.posted g.frame.length = none → x.headNs + 1000 * s.nat (Obj.rxStarveWaitUs p) ≤ s.now →
    s.nat (Obj.rxStarved p) < 4294967295 →
    ∃ t, exec (.rxStarveTimeout p) s = .next t ∧ exec (.rxDispatch p) s = .next s ∧ (t.ports[p]?).map (·.rx) = some (x.rx.drop 1) ∧
      t.get (Obj.rxStarved p) = (s.nat (Obj.rxStarved p) + 1 : Nat) ∧ (t.hqOf q).map (·.starved) = some true) ∧
  (∀ (s : State) (p : Nat) (x : Port) (f : TxFrame), s.ports[p]? = some x → (∀ k, k < 7 → s.ringOwner 5 p k = none) → s.netRuns = true →
    s.portOn p = true → x.up = true → x.pausedUntil = none → s.pw.cause = 0 → x.tx = [f] → f.hq = 16 → f.kind = 0 →
    s.nat (Obj.ethTxFrames p) < 4294967295 →
    ∃ t, exec (.txFrameSent p) s = .next t ∧
      (t.ports[p]?).map (fun y => (y.tx, y.lastTx.map fun z => (z.frame, z.time))) = some ([], some (f, s.now)) ∧
      t.get (Obj.ethTxFrames p) = (s.nat (Obj.ethTxFrames p) + 1 : Nat)) ∧
  (∀ (s : State) (p : Nat) (d : Int) (x : Port) (z : PtpPort), s.ports[p]? = some x → s.time.ptp[p]? = some z → s.netRuns = true →
    s.flag Obj.tcEnable = true → s.nat Obj.ptpProfile = 2 → p ≤ 1 → x.up = true →
    ∃ t, exec (.ptpPdelayReq p d) s = .next t ∧ t.time.ptp[p]? = some { z with linkDelay := d } ∧
      (t.ports[p]?).map (·.tx.length) = some (x.tx.length + 1))

/-- PAUSE_RECEIVED, PAUSE_QUANTA_EXPIRY, PAUSE_WATCHDOG, PAUSE_IGNORE_END (R279), PAUSE_REPEAT (R280): an honoured frame pauses the
transmitter for its quanta, quanta of 0 end the pause; a pause that lasts PauseWatchdogMs is broken and PAUSE is ignored as long again; XOFF
is sent again half its pause later while the FIFO stays short of PauseXonBytes. -/
def Obligations.PauseFrames : Prop :=
  (∀ (s : State) (p q : Nat) (x : Port), s.ports[p]? = some x → s.netRuns = true → s.portOn p = true → x.up = true →
    s.honours p x = true → x.ignoreUntil = none → q ≠ 0 → x.pausedUntil = none → s.nat (Obj.pauseReceived p) < 4294967295 →
    ∃ t, exec (.pauseReceived p q) s = .next t ∧
      t.ports[p]? = some { x with pausedUntil := some (s.now + s.bitTimes p (512 * (q % 65536))), pauseFrom := some s.now } ∧
      t.get (Obj.pauseReceived p) = (s.nat (Obj.pauseReceived p) + 1 : Nat)) ∧
  (∀ (s : State) (p : Nat) (x : Port), s.ports[p]? = some x → s.netRuns = true → s.portOn p = true → x.up = true →
    s.honours p x = true → x.ignoreUntil = none →
    ∃ t, exec (.pauseReceived p 0) s = .next t ∧ t.ports[p]? = some { x with pausedUntil := none, pauseFrom := none }) ∧
  (∀ (s : State) (p a : Nat) (x : Port), s.ports[p]? = some x → x.pausedUntil = some a → a ≤ s.now →
    ∃ t, exec (.pauseQuantaExpiry p) s = .next t ∧ t.ports[p]? = some { x with pausedUntil := none, pauseFrom := none } ∧
      t.cat = s.cat) ∧
  (∀ (s : State) (p a : Nat) (x : Port), s.ports[p]? = some x → s.netRuns = true → x.pauseFrom = some a →
    a + s.nat (Obj.pauseWatchdogMs p) * 1000000 ≤ s.now → s.nat (Obj.pauseBroken p) < 4294967295 →
    ∃ t, exec (.pauseWatchdog p) s = .next t ∧
      t.ports[p]? = some { x with pausedUntil := none, pauseFrom := none, ignoreUntil := some (s.now + s.nat (Obj.pauseWatchdogMs p) * 1000000) } ∧
      t.get (Obj.pauseBroken p) = (s.nat (Obj.pauseBroken p) + 1 : Nat)) ∧
  (∀ (s : State) (p a : Nat) (x : Port), s.ports[p]? = some x → x.ignoreUntil = some a → a ≤ s.now →
    ∃ t, exec (.pauseIgnoreEnd p) s = .next t ∧ t.ports[p]? = some { x with ignoreUntil := none } ∧ t.cat = s.cat) ∧
  (∀ (s : State) (p : Nat) (x : Port), s.ports[p]? = some x → s.netRuns = true → x.up = true → x.xoffSent = true →
    x.room < s.nat (Obj.pauseXonBytes p) → bit (s.nat (Obj.pauseControl p)) 1 = true →
    x.pauseNs + s.bitTimes p (512 * 0xFFFF) / 2 ≤ s.now →
    ∃ t, exec (.pauseRepeat p) s = .next t ∧
      t.ports[p]? = some { x with pauseOut := 0xFFFF :: x.pauseOut, pauseNs := s.now } ∧ t.cat = s.cat)

/-- LOG_READ_CMD, LOG_BOUNDS_CMD, LOG_FREEZE_CMD, LOG_THAW_CMD (R328, R329, R332) through BAR0, LOG_READ, LOG_BOUNDS, LEGAL_FREEZE, LEGAL_THAW,
LEGAL_EXPORT (R334) through CAP, REPEAT_WINDOW_END (R324), FREEZE_MAX_EXPIRY (R333), OPERATING_TIME_COPY (R323): a record
that fails RecordCrc comes from the mirror in the legal log and is counted in the others (R322); a freeze fixes the end at the next position,
a second one is refused, its thaw appends what was held, and one that outlasts FreezeMaxS is broken and counted. The
export clause names the signature by Config.signature, which is open (log entry 111). -/
def Obligations.EventRecorder : Prop :=
  (∀ (s : State) (auto_ : Bool) (m : Nat), s.bar = true →
    ∃ t, exec (.logReadCmd auto_ m) s = .next t ∧ t.hif.logAuto = auto_ ∧
      t.hif.logResult = (s.readHeld s.hif.logSelect s.hif.logPos m).1.1 ∧
      (t.hif.logResult = 0 → t.hif.logRecord = (s.readHeld s.hif.logSelect s.hif.logPos m).1.2 ∧
        t.hif.logPos = if auto_ then (s.hif.logPos + 1) % 2 ^ 64 else s.hif.logPos) ∧ (m = 0 → t.nand = s.nand)) ∧
  (∀ (s : State) (auto_ : Bool), s.bar = true → (s.readLog s.hif.logSelect s.hif.logPos).1 = 0 → s.nat Obj.recordCrcFail < 4294967295 →
    s.nat Obj.mirrorRepairs < 4294967295 →
    (s.hif.logSelect = 0 → ∃ t u, exec (.logReadCmd auto_ 1) s = .next t ∧ exec (.logReadCmd auto_ 3) s = .next u ∧ t.hif.logResult = 0 ∧
      u.hif.logResult = 0 ∧ t.hif.logRecord = (s.readLog 0 s.hif.logPos).2 ∧ u.hif.logRecord = (s.readLog 0 s.hif.logPos).2 ∧
      u.get Obj.mirrorRepairs = (s.nat Obj.mirrorRepairs + 1 : Nat)) ∧
    (s.hif.logSelect ≠ 0 → ∃ t, exec (.logReadCmd auto_ 1) s = .next t ∧ t.hif.logResult = 3 ∧
      t.get Obj.recordCrcFail = (s.nat Obj.recordCrcFail + 1 : Nat))) ∧
  (∀ s : State, s.bar = true →
    ∃ t, exec .logBoundsCmd s = .next t ∧ t.hif.logRecord = s.logBounds s.hif.logSelect ∧ t.hif.logResult = 0 ∧ t.nand = s.nand) ∧
  (∀ s : State, s.bar = true → s.hif.logSelect = 0 → s.freeze = none →
    ∃ t, exec .logFreezeCmd s = .next t ∧ t.freeze = some { holder := 0, fin := (s.logOf 0).next, since := s.now } ∧
      t.hif.logResult = 0) ∧
  (∀ (s : State) (f : Freeze), s.bar = true → s.hif.logSelect = 0 → s.freeze = some f →
    ∃ t, exec .logFreezeCmd s = .next t ∧ t.freeze = some f ∧ t.hif.logResult = 5 ∧ t.nand = s.nand) ∧
  (∀ (s : State) (f : Freeze) (l : EvLog), s.bar = true → s.freeze = some f → f.holder = 0 → s.nand.logs[0]? = some l →
    ∃ t, exec .logThawCmd s = .next t ∧ t.freeze = none ∧ t.nand.hold = [] ∧
      (t.nand.logs[0]?).map (·.recs) = some (s.nand.hold ++ l.recs) ∧ t.hif.logResult = 0) ∧
  (∀ (s : State) (r : CapReq) (ses : Session) (log pos m : Nat), s.Admits r Obj.logRead ses → log ≤ 3 →
    ∃ t, exec (.logRead r log pos m) s = .next t ∧
      t.Answered r Obj.logRead (capVal 65 (pack [(1, (s.readHeld log pos m).1.1), (64, (s.readHeld log pos m).1.2)])) ∧
      (m = 0 → t.nand = s.nand)) ∧
  (∀ (s : State) (r : CapReq) (ses : Session) (log : Nat), s.Admits r Obj.logBounds ses → log ≤ 3 →
    ∃ t, exec (.logBounds r log) s = .next t ∧ t.Answered r Obj.logBounds (capVal 64 (s.logBounds log)) ∧ t.nand = s.nand) ∧
  (∀ (s : State) (r : CapReq) (ses : Session), s.Admits r Obj.legalFreeze ses → s.freeze = none →
    ∃ t, exec (.legalFreeze r) s = .next t ∧ t.Answered r Obj.legalFreeze capOk ∧
      t.freeze = some { holder := r.sess + 1, fin := (s.logOf 0).next, since := s.now }) ∧
  (∀ (s : State) (r : CapReq) (ses : Session) (f : Freeze) (l : EvLog), s.Admits r Obj.legalFreeze ses → s.freeze = some f →
    f.holder = r.sess + 1 → s.nand.logs[0]? = some l →
    ∃ t, exec (.legalThaw r) s = .next t ∧ t.Answered r Obj.legalFreeze capOk ∧ t.freeze = none ∧ t.nand.hold = [] ∧
      (t.nand.logs[0]?).map (·.recs) = some (s.nand.hold ++ l.recs)) ∧
  (∀ (s : State) (r : CapReq) (ses : Session) (a b h : Nat), s.Admits r Obj.legalExport ses → s.freeze = none → a ≤ b →
    (s.logOf 0).first ≤ a → s.highestLegal = some h → b ≤ h → s.loc.zeroizing = false → s.loc.entropyFailed = false →
    ∃ t hedge, exec (.legalExport r a b) s = .next t ∧ t.freeze = none ∧
      t.Answered r Obj.legalExport (capVal (64 + 64 * (exportBody (s.logOf 0) s.bat.ring a b).length + 96)
        (pack ((64, s.exportHeader a b) :: (exportBody (s.logOf 0) s.bat.ring a b).map fun r => (64, r)) +
          256 ^ (64 + 64 * (exportBody (s.logOf 0) s.bat.ring a b).length) *
          (Config.signature (s.loc.device.getD identityKey 0)
            (pack ((64, s.exportHeader a b) :: (exportBody (s.logOf 0) s.bat.ring a b).map fun r => (64, r))) hedge % 256 ^ 96)))) ∧
  (∀ (s : State) (f : Freeze), s.freeze = some f → s.awake = true → s.elapsedS f.since (s.nat Obj.freezeMaxS) = true →
    s.nat Obj.freezesBroken < 4294967295 →
    ∃ t, exec .freezeMaxExpiry s = .next t ∧ t.freeze = none ∧ t.hif.freezeBroken = true ∧ t.nand.hold = [] ∧
      t.get Obj.freezesBroken = (s.nat Obj.freezesBroken + 1 : Nat)) ∧
  (∀ (s : State) (n : Nat) (l : EvLog) (e : EvRec), s.nand.logs[n]? = some l → s.logOf n = l → l.recs.head? = some e → l.isOpen = true →
    s.awake = true → e.tai + s.nat Obj.repeatWindowS ≤ s.tai →
    ∃ t, exec (.repeatWindowEnd n) s = .next t ∧ t.nand.logs[n]? = some { l with isOpen := false }) ∧
  (∀ (s : State) (hourly : Bool), s.awake = true →
    ∃ t, exec (.operatingTimeCopy hourly) s = .next t ∧ t.bat.opTime = s.nat Obj.operatingTimeMs ∧
      (hourly = false → t.cat = s.cat ∧ t.stores = s.stores))

/-- NAND_PROGRAM_COMPLETE (R302), GARBAGE_COLLECTION (R308), GC_GROUP_WRITE, ERASE_PENDING_WRITE, BLOCK_ERASE, ERASE_COMPLETE (R309),
READ_REFRESH (R299), WEAR_LEVELLING (R312), CHECKPOINT, CASKET_ROOT_UPDATE (R305), ARCHIVE_DISCARD (R301): a programmed unit is mapped and
taken off the buffer; a victim whose valid units find room is relocated step by step until it is erased and free, or retired. The relocation
clauses are about a victim with at most one valid unit to copy while stream 4 has an open block on each channel. -/
def Obligations.NandAndRelocation : Prop :=
  (∀ (s : State) (p u : Nat), s.mounted = true → p ≤ 6 → (∀ ch, ch ≤ 1 → (s.openBlock (streamOf p) ch).isSome = true) →
    ∃ t, exec (.nandProgramComplete p [u] true) s = .next t ∧ (tget t.cask.map (mapKey p u)).isSome = true ∧
      (s.cask.dirty ≤ 4096 → t.cask.dirty = 0 ∧ t.nandProg = t.nand) ∧ (4096 < s.cask.dirty → t.cask.dirty = s.cask.dirty - 4096)) ∧
  (∀ (s : State) (e : Nat × Block), s.background = true → s.governed = false →
    (s.cask.inState 0).length * 1000 < s.nat Obj.gcLowPermille * s.cask.blocks.length →
    leastBy (fun e => (s.cask.validIn e.1).length * (s.cask.fillSeq + 1) + e.2.filled) (s.cask.inState 2) = some e →
    (∀ ch, ch ≤ 1 → (s.openBlock 4 ch).isSome = true) →
    ((s.cask.validIn e.1).filter fun v => !(s.cask.hinted.contains v.1)).length ≤ 1 → s.nat Obj.gcVictims < 4294967295 →
    ∃ t, exec .garbageCollection s = .next t ∧ t.cask.reloc.map (fun x => (x.victim, x.phase, x.why)) = some (e.1, 1, 0) ∧
      t.get Obj.gcVictims = (s.nat Obj.gcVictims + 1 : Nat) ∧ t.cask.map = s.cask.map) ∧
  (∀ (s : State) (r : Reloc), s.relocAt 1 = some r →
    ∃ t, exec .gcGroupWrite s = .next t ∧ t.cask.reloc = some { r with phase := 2 } ∧
      ∀ k old new, r.copies = [(k, old, new)] → s.cask.hinted = [] →
        tget t.cask.map k = if tget s.cask.map k = some old then some new else tget s.cask.map k) ∧
  (∀ (s : State) (r : Reloc) (b : Block), s.relocAt 2 = some r → tget s.cask.blocks r.victim = some b →
    ∃ t, exec .erasePendingWrite s = .next t ∧ t.cask.reloc = some { r with phase := 3 } ∧
      tget t.cask.blocks r.victim = some { b with state := 3 } ∧ t.cask.map = s.cask.map) ∧
  (∀ (s : State) (r : Reloc), s.relocAt 3 = some r →
    exec .blockErase s = .next { s with cask.reloc := some { r with phase := 4 } }) ∧
  (∀ (s : State) (r : Reloc) (b : Block), s.relocAt 4 = some r → tget s.cask.blocks r.victim = some b →
    ∃ t u, exec (.eraseComplete true) s = .next t ∧ exec (.eraseComplete false) s = .next u ∧ t.cask.reloc = none ∧
      u.cask.reloc = none ∧ (tget t.cask.blocks r.victim).map (fun x => (x.state, x.erases)) = some (0, b.erases + 1) ∧
      (tget u.cask.blocks r.victim).map (·.state) = some 4 ∧
      u.get Obj.grownBadBlocks = s.get Obj.grownBadBlocks + 1) ∧
  (∀ (s : State) (n : Nat) (b : Block), tget s.cask.blocks n = some b → s.background = true → b.refresh = true → b.state = 2 →
    (∀ ch, ch ≤ 1 → (s.openBlock 4 ch).isSome = true) →
    ((s.cask.validIn n).filter fun v => !(s.cask.hinted.contains v.1)).length ≤ 1 →
    ∃ t, exec (.readRefresh n) s = .next t ∧ t.cask.reloc.map (fun x => (x.victim, x.phase, x.why)) = some (n, 1, 1)) ∧
  (∀ (s : State) (e : Nat × Block), s.background = true → s.governed = false → s.nat Obj.wearSpreadLimit < s.nat Obj.eraseCountSpread →
    s.cask.wearHour ≠ s.tai / 3600 → 0 < s.nat Obj.wearMovesPerHour →
    leastBy (·.2.erases) ((s.cask.inState 2).filter fun e => !(s.cask.validIn e.1).isEmpty) = some e →
    (∀ ch, ch ≤ 1 → (s.openBlock 4 ch).isSome = true) →
    ((s.cask.validIn e.1).filter fun v => !(s.cask.hinted.contains v.1)).length ≤ 1 →
    ∃ t, exec .wearLevelling s = .next t ∧ t.cask.reloc.map (fun x => (x.victim, x.phase, x.why)) = some (e.1, 1, 2) ∧
      t.cask.wearMoves = 1 ∧ t.cask.wearHour = s.tai / 3600) ∧
  (∀ s : State, s.mounted = true → s.pw.cause = 0 → s.cask.ckpt = none → s.nat Obj.checkpointJournalMiB * 1048576 ≤ s.cask.journal →
    ∃ t, exec .checkpoint s = .next t ∧ t.cask.ckpt = some (s.cask.journalSeq + 1) ∧ t.cask.journal = s.cask.journal + 64 ∧
      t.nand = s.nand) ∧
  (∀ (s : State) (q : Nat), s.cask.ckpt = some q → s.mounted = true → s.pw.cause = 0 →
    ∃ t, exec .casketRootUpdate s = .next t ∧ t.cask.ckpt = none ∧ t.cask.journal = 32 * (s.cask.journalSeq + 1 - q) ∧
      t.get 0x7800F0 = (q : Int)) ∧
  (∀ s : State, s.mounted = true → s.pw.cause = 0 → s.nat Obj.mediaState = 0 →
    ∃ t, exec .archiveDiscard s = .next t ∧
      (∀ x ∈ t.nand.archive, x ∈ s.nand.archive ∧ s.tai ≤ x.time + s.nat Obj.archiveRetentionDays * 86400) ∧
      (s.nand.archive.length ≤ s.archiveRoom →
        t.nand.archive = s.nand.archive.filter fun x => Nat.ble s.tai (x.time + s.nat Obj.archiveRetentionDays * 86400)))

/-- STORAGE_READ (R298, R299), STORAGE_WRITE (R313), STORAGE_DISCARD (R314), STORAGE_FORMAT (R317), BATTERY_RING_READ, BATTERY_RING_ACK (R316): a unit
written reads back unless the metadata of its physical unit names another, a discarded one reads as zeros, a range past the partition is refused, a format erases every record and needs the
unsealed state. -/
def Obligations.StorageCommands : Prop :=
  (∀ (s : State) (r : CapReq) (ses : Session) (u level : Nat), s.Admits r Obj.storageRead ses → u + 1 ≤ s.userUnits → level < 2 →
    s.cask.hinted = [] →
    ∃ t, exec (.storageRead r u 1 level) s = .next t ∧ t.nand = s.nand ∧
      (s.misplaced u = false → t.Answered r Obj.storageRead (capVal 4096 ((tget s.nand.user u).getD 0))) ∧
      (s.misplaced u = true → t.Answered r Obj.storageRead (capErr 16 0))) ∧
  (∀ (s : State) (r : CapReq) (ses : Session) (u d : Nat), s.Admits r Obj.storageWrite ses → u + 1 ≤ s.userUnits →
    s.nat Obj.mediaState = 0 →
    ∃ t, exec (.storageWrite r u 1 [d]) s = .next t ∧ t.Answered r Obj.storageWrite capOk ∧
      tget t.nand.user u = some (d % 2 ^ 32768) ∧ (∀ v, v ≠ u → u < 2 ^ 32 → tget t.nand.user v = tget s.nand.user v)) ∧
  (∀ (s : State) (r : CapReq) (ses : Session) (u n : Nat) (ds : List Nat), ds.length = n → s.userUnits < u + n →
    (s.Admits r Obj.storageWrite ses →
      ∃ t, exec (.storageWrite r u n ds) s = .next t ∧ t.Answered r Obj.storageWrite (capErr 5 0) ∧ t.nand = s.nand) ∧
    (s.Admits r Obj.storageDiscard ses →
      ∃ t, exec (.storageDiscard r u n) s = .next t ∧ t.Answered r Obj.storageDiscard (capErr 5 0) ∧ t.nand = s.nand)) ∧
  (∀ (s : State) (r : CapReq) (ses : Session) (u : Nat), s.Admits r Obj.storageDiscard ses → u + 1 ≤ s.userUnits → u < 2 ^ 32 →
    s.nat Obj.mediaState = 0 → s.forced Obj.discardMode = 0 →
    ∃ t, exec (.storageDiscard r u 1) s = .next t ∧ t.Answered r Obj.storageDiscard capOk ∧ tget t.nand.user u = none ∧
      tget t.cask.map (mapKey 6 u) = none) ∧
  (∀ (s : State) (r : CapReq) (ses : Session), s.Admits r Obj.storageFormat ses → s.parked = [] → s.nat Obj.sealState = 1 →
    ∃ t, exec (.storageFormat r 1) s = .next t ∧ t.Answered r Obj.storageFormat capOk ∧ t.nand.recs = [] ∧ t.nand.archive = [] ∧
      t.nand.user = [] ∧ t.cask.map = [] ∧ t.frames = [] ∧ t.nand.logs.map (·.next) = s.nand.logs.map (·.next)) ∧
  (∀ (s : State) (r : CapReq) (ses : Session), s.Admits r Obj.storageFormat ses → s.parked = [] → s.nat Obj.sealState ≠ 1 →
    ∃ t, exec (.storageFormat r 1) s = .next t ∧ t.Answered r Obj.storageFormat (capErr 7 0) ∧ t.nand = s.nand ∧ t.cask = s.cask) ∧
  (∀ (s : State) (r : CapReq) (ses : Session) (n : Nat), s.Admits r Obj.batteryRingRead ses → n ≤ 63 → s.bat.alarm = false →
    ∃ t, exec (.batteryRingRead r n) s = .next t ∧ t.Answered r Obj.batteryRingRead (capVal 64 (s.ringSlot n)) ∧
      t.bat.ringRead.contains n = true ∧ t.bat.ring = s.bat.ring) ∧
  (∀ (s : State) (r : CapReq) (ses : Session), s.Admits r Obj.batteryRingAck ses → s.bat.alarm = false →
    ∃ t, exec (.batteryRingAck r 1) s = .next t ∧ t.Answered r Obj.batteryRingAck capOk ∧ t.bat.ringAck = true ∧
      t.bat.ring = s.bat.ring)

/-- BIG_TOP_ALIAS_WRITE (R340), BIG_TOP_SCRUB (R341), ADDRESS_FAULT (R337), BANK_POWER_OFF (R343), BANK_WAKE, BANK_CLEAR_COMPLETE (R344),
CARAVAN_UNCORRECTABLE (R345, R408): a write sets or clears the enabled bits of its line and no other line changes; a write to a bank that is
off waits for it; a bank that goes off, or is clear again, reads as zeros, and every other bank keeps its lines. -/
def Obligations.BigTopAndCaravans : Prop :=
  (∀ (s : State) (portB clear : Bool) (addr : Nat) (data : Line) (en : BitVec 16), s.awake = true → s.bank (bankOf (lineAt addr)) = 0 →
    ∃ t, exec (.bigTopAliasWrite portB clear addr data en none) s = .next t ∧
      t.line (lineAt addr) = (if clear then s.line (lineAt addr) &&& ~~~(data &&& enableMask en)
        else s.line (lineAt addr) ||| (data &&& enableMask en)) ∧
      (∀ n, n ≠ lineAt addr → t.line n = s.line n) ∧ t.mem.banks = s.mem.banks ∧ t.cat = s.cat) ∧
  (∀ (s : State) (portB clear : Bool) (addr : Nat) (data : Line) (en : BitVec 16), s.awake = true →
    s.mem.banks[bankOf (lineAt addr)]? = some 2 → s.nat Obj.bankWakes < 4294967295 → s.nat Obj.bankWakeOnAccess < 4294967295 →
    ∃ t, exec (.bigTopAliasWrite portB clear addr data en none) s = .next t ∧ t.bank (bankOf (lineAt addr)) = 1 ∧
      t.mem.lines = s.mem.lines ∧
      t.mem.stalled = s.mem.stalled ++ [{ line := lineAt addr, kind := if clear then 2 else 1, data, enables := en }] ∧
      t.get Obj.bankWakes = (s.nat Obj.bankWakes + 1 : Nat) ∧ t.get Obj.bankWakeOnAccess = (s.nat Obj.bankWakeOnAccess + 1 : Nat)) ∧
  (∀ (s : State) (addr : Nat) (v : Line), s.awake = true → s.bank (bankOf (lineAt addr)) = 0 → s.nat Obj.bigTopCorrected < 4294967295 →
    ∃ t, exec (.bigTopScrub addr v none) s = .next t ∧ t.line (lineAt addr) = v ∧ (∀ n, n ≠ lineAt addr → t.line n = s.line n) ∧
      t.get Obj.bigTopCorrected = (s.nat Obj.bigTopCorrected + 1 : Nat)) ∧
  (∀ (s : State) (addr : Nat) (v w : Line), s.awake = true → s.bank (bankOf (lineAt addr)) = 0 →
    ∃ t, exec (.bigTopScrub addr v (some w)) s = .next t ∧ t.line (lineAt addr) = w ∧ t.cat = s.cat) ∧
  (∀ (s : State) (addr who : Nat), s.awake = true → s.addressFaults addr who = true → s.nat Obj.addressFaults < 4294967295 →
    ∃ t, exec (.addressFault addr who) s = .next t ∧ t.get Obj.addressFaults = (s.nat Obj.addressFaults + 1 : Nat) ∧ t.mem = s.mem) ∧
  (∀ (s : State) (b : Nat), s.awake = true → s.bankAskedOff b = true → s.mem.banks[b]? = some 0 →
    ∃ t, exec (.bankPowerOff b) s = .next t ∧ t.bank b = 2 ∧ (∀ n, bankOf n = b → t.line n = 0) ∧
      (∀ n, bankOf n ≠ b → t.line n = s.line n) ∧ t.cat = s.cat) ∧
  (∀ (s : State) (b : Nat), s.awake = true → s.mem.banks[b]? = some 2 → s.nat Obj.bankWakes < 4294967295 →
    s.nat Obj.bankWakeOnAccess < 4294967295 →
    ∃ t, exec (.bankWake b true) s = .next t ∧ t.bank b = 1 ∧ t.mem.lines = s.mem.lines ∧
      t.get Obj.bankWakes = (s.nat Obj.bankWakes + 1 : Nat) ∧ t.get Obj.bankWakeOnAccess = (s.nat Obj.bankWakeOnAccess + 1 : Nat)) ∧
  (∀ (s : State) (b : Nat), s.awake = true → s.mem.banks[b]? = some 1 → (s.mem.stalled.any fun w => bankOf w.line == b) = false →
    ∃ t, exec (.bankClearComplete b) s = .next t ∧ t.bank b = 0 ∧ (∀ n, bankOf n = b → t.line n = 0) ∧
      (∀ n, bankOf n ≠ b → t.line n = s.line n) ∧ t.cat = s.cat) ∧
  (∀ (s : State) (b : Nat) (w : LineWrite), s.awake = true → s.mem.banks[b]? = some 1 → s.mem.stalled = [w] → bankOf w.line = b →
    ∃ t, exec (.bankClearComplete b) s = .next t ∧ t.bank b = 0 ∧ t.line w.line = w.apply 0 ∧ t.mem.stalled = []) ∧
  (∀ (s : State) (e : Nat), s.awake = true → e < 20 → s.gate.engines[e]? = some 0 → s.nat Obj.engineFaults < 4294967295 →
    ∃ t, exec (.caravanUncorrectable e) s = .next t ∧ t.gate.engines[e]? = some 1 ∧
      (∀ w, e * 32768 ≤ w → w < (e + 1) * 32768 → tget t.mem.caravan w = none) ∧
      t.get Obj.engineFaults = (s.nat Obj.engineFaults + 1 : Nat))

/-- SEESAW_PUSH (R348 to R350), SEESAW_POP (R350): a push of 128 bits with credit goes to the fill bank, and the banks swap when the drain bank
is empty; any other push is counted and changes no queue; a pop delivers the head of the drain bank, the idle item where it is empty. -/
def Obligations.SeesawQueues : Prop :=
  (∀ (s : State) (q p : Nat) (x : Line) (w : Seesaw), tget s.mem.queues q = some w → s.awake = true → 0 < w.credits.getD p 0 →
    ∃ t u, exec (.seesawPush q p 128 x) s = .next t ∧ tget t.mem.queues q = some u ∧ t.cat = s.cat ∧
      (w.draining ≠ [] → u.draining = w.draining ∧ u.filling = w.filling ++ [x]) ∧
      (w.draining = [] → u.draining = w.filling ++ [x])) ∧
  (∀ (s : State) (q p width : Nat) (x : Line) (w : Seesaw), tget s.mem.queues q = some w → s.awake = true →
    (width ≠ 128 ∨ w.credits.getD p 0 = 0) → s.nat Obj.seesawPortErrors < 4294967295 →
    ∃ t, exec (.seesawPush q p width x) s = .next t ∧ t.mem = s.mem ∧
      t.get Obj.seesawPortErrors = (s.nat Obj.seesawPortErrors + 1 : Nat)) ∧
  (∀ (s : State) (q e : Nat) (x y : Line) (l : List Line) (w : Seesaw), tget s.mem.queues q = some w → s.awake = true →
    w.draining = x :: y :: l → e ≤ 1 →
    ∃ t u, exec (.seesawPop q e) s = .next t ∧ tget t.mem.queues q = some u ∧ u.out = x ∧ u.draining = y :: l ∧
      u.filling = w.filling ∧ t.cat = s.cat) ∧
  (∀ (s : State) (q e : Nat) (w : Seesaw), tget s.mem.queues q = some w → s.awake = true → w.draining = [] → w.filling = [] →
    ∃ t u, exec (.seesawPop q e) s = .next t ∧ tget t.mem.queues q = some u ∧ u.out = 0 ∧ u.draining = [] ∧ u.filling = [])

/-- R361, from the assertion of PFI_N and before the catalogue is ready, outside recovery: an Execute of a command object is answered with
NOT_READY, and the registry, the buffer, the gate and the counter are as they were. -/
def Obligations.NotReadyIsRefused : Prop :=
  ∀ (s : State) (r : CapReq) (ses : Session), tget s.sessions r.sess = some ses → ses.closing = false →
    (r.sess = 0 → s.hif.mb.busy = true) → ses.kept = [] → s.outstanding r.sess < capDepth r.sess → s.catalogueReady = false → s.recovering = false →
    (∀ v, ∃ t, exec (.storageFormat r v) s = .next t ∧ t.Answered r Obj.storageFormat (capErr 19 s.pw.stage) ∧
      (s.parked = [] → t.nand = s.nand ∧ t.cask = s.cask ∧ t.gate = s.gate ∧ t.time = s.time)) ∧
    (∀ a, ∃ t, exec (.stageItem r a) s = .next t ∧ t.Answered r Obj.stageItem (capErr 19 s.pw.stage) ∧ t.nand = s.nand ∧
      t.cask = s.cask ∧ t.gate = s.gate ∧ t.time = s.time) ∧
    (∀ a, ∃ t, exec (.switchSubmit r a) s = .next t ∧ t.Answered r Obj.switchSubmit (capErr 19 s.pw.stage) ∧ t.nand = s.nand ∧
      t.cask = s.cask ∧ t.gate = s.gate ∧ t.time = s.time)

/-- CAP_SESSION_START, CAP_SESSION_END (R363), RS485_FRAME (R364), CAP_BULK_DATA, CAP_RESULT_READ, CAP_ABORT, BULK_IDLE_TIMEOUT (R357, R358). -/
def Obligations.CapSessions : Prop :=
  (∀ (s : State) (n : Nat), s.catalogueReady = true → 1 ≤ n → n ≤ 16 → tget s.sessions n = none →
    s.dtlsCount < s.nat Obj.capMaxSessions → (s.allAnchors.any fun a => a.role == 2) = true →
    s.mayHandshake = true →
    ∃ t, exec (.capSessionStart n 0 0) s = .next t ∧ (tget t.loc.traffic n).isSome = true ∧ (tget t.sessions n).map (fun x => (x.role, x.tenant, x.lastAt)) = some (0, 0xFF, s.now) ∧
      t.cat = s.cat ∧ t.nand = s.nand) ∧
  (∀ (s : State) (n : Nat) (ses : Session), tget s.sessions n = some ses → s.awake = true → 1 ≤ n → n ≤ 16 → s.outstanding n = 0 →
    s.freeze = none →
    ∃ t, exec (.capSessionEnd n) s = .next t ∧ tget t.sessions n = none ∧ t.cat = s.cat ∧ t.nand = s.nand) ∧
  (∀ (s : State) (body : List Nat), s.capRuns = true → s.nat Obj.servicePortMode ≠ 0 → s.nat Obj.rsFrameErrors < 4294967295 →
    ∃ t u, exec (.rs485Frame (0xA5 :: body) true) s = .next t ∧ exec (.rs485Frame (0xA5 :: body) false) s = .next u ∧
      (rsFrameOk body = true → (tget t.sessions 17).map (·.lastAt) = some s.now) ∧
      (rsFrameOk body = false → t = u) ∧
      u.get Obj.rsFrameErrors = (s.nat Obj.rsFrameErrors + 1 : Nat) ∧ u.sessions = s.sessions) ∧
  (∀ (s : State) (r : CapReq) (m : CapMsg) (ses : Session) (b : Bulk) (n : Nat) (v : Int), s.Takes r 4 m.index m.sub ses →
    m.version = 1 → m.lengthAgrees = true → ses.bulk = some b → b.index = m.index → b.sub = m.sub → b.total = m.total → m.offset = b.got →
    b.got + n < b.total →
    ∃ t, exec (.capBulkData r m n v true) s = .next t ∧ t.Replied r 4 m.index m.sub capOk ∧
      ((tget t.sessions r.sess).bind (·.bulk)).map (fun c => (c.got, c.total, c.lastAt)) = some (b.got + n, b.total, s.now) ∧
      t.nand = s.nand) ∧
  (∀ (s : State) (r : CapReq) (m : CapMsg) (ses : Session) (b : Bulk) (n : Nat) (v : Int) (more : Bool), s.Takes r 4 m.index m.sub ses →
    m.version = 1 → m.lengthAgrees = true → ses.bulk = some b → m.offset ≠ b.got ∨ m.total ≠ b.total →
    ∃ t, exec (.capBulkData r m n v more) s = .next t ∧ t.Replied r 4 m.index m.sub (capErr 17 0) ∧
      (tget t.sessions r.sess).bind (·.bulk) = none) ∧
  (∀ (s : State) (r : CapReq) (ses : Session) (v n off : Nat), s.Takes r 5 0 0 ses → ses.held = some (v, n) →
    ∃ t, exec (.capResultRead r off) s = .next t ∧ t.Replied r 5 0 0 (capFrom n v off) ∧ t.nand = s.nand) ∧
  (∀ (s : State) (r : CapReq) (ses : Session) (b : Bulk), s.Takes r 6 0 0 ses → ses.bulk = some b → b.tag = r.tag →
    ∃ t, exec (.capAbort r) s = .next t ∧ t.Replied r 6 0 0 capOk ∧ (tget t.sessions r.sess).bind (·.bulk) = none) ∧
  (∀ (s : State) (n : Nat) (ses : Session) (b : Bulk), tget s.sessions n = some ses → ses.closing = false → ses.bulk = some b →
    s.awake = true → s.elapsedS b.lastAt (s.nat Obj.bulkIdleS) = true →
    ∃ t, exec (.bulkIdleTimeout n) s = .next t ∧ (tget t.sessions n).bind (·.bulk) = none ∧
      ((tget t.sessions n).bind (·.resp)).map (fun x => (x.tag, x.status)) = some (b.tag, 18))

/-- CAP_READ, CAP_WRITE (R355, R357), CATALOGUE_BUNDLE_SUBMIT (R367), STORE_BANK_PROGRAMMED (R371), SERVO_OWNER_CHANGE (R254) and
TAI_UTC_OFFSET_WRITE (R267) as Writes: a Read answers the object (one that the part keeps in the catalogue, not one it computes); a Write of a paired object waits in its store for the next image; the image
that passes makes the catalogue show the value and answers, the second failure refuses with STORE_FAILED. The image and bundle clauses are
about the tenant objects 0x5000 to 0x5FFF, whose change has no further effect at once. -/
def Obligations.CatalogueAccess : Prop :=
  (∀ (s : State) (r : CapReq) (m : CapMsg) (ses : Session) (row : ObjRow), s.Takes r 1 m.index m.sub ses → m.version = 1 →
    m.lengthAgrees = true → 1 ≤ m.sub → findObject m.index m.sub = .ok row → row.acc = .rw →
    ses.mayRead (256 * m.index + m.sub) = true → m.offset = 0 → m.index < 0xF000 → (Cat.count m.index).isSome = true →
    s.shownLow (256 * m.index + m.sub) = none → s.shownHigh (256 * m.index + m.sub) = none →
    ∃ t, exec (.capRead r m) s = .next t ∧ t.nand = s.nand ∧
      t.Replied r 1 m.index m.sub (capVal row.ty.size (enc row.ty.size (s.get (256 * m.index + m.sub))))) ∧
  (∀ (s : State) (r : CapReq) (m : CapMsg) (ses : Session) (row : ObjRow) (p : PStore) (n : Nat) (v w : Int),
    s.Takes r 2 m.index m.sub ses → m.version = 1 → m.lengthAgrees = true → m.offset = 0 →
    s.writeCheck ses m.index m.sub n (enc n v) = .ok (row, w) → row.pers = .paired →
    s.stores[storeOf (256 * m.index + m.sub)]? = some p → p.overflows [(256 * m.index + m.sub, w)] = false →
    ∃ t, exec (.capWrite r m n v false) s = .next t ∧ t.get (256 * m.index + m.sub) = s.get (256 * m.index + m.sub) ∧
      t.stores[storeOf (256 * m.index + m.sub)]? =
        some (p.take { sess := r.sess, tag := r.tag, kind := 2, key := 256 * m.index + m.sub, val := w })) ∧
  (∀ (s : State) (r : CapReq) (m : CapMsg) (ses : Session) (n : Nat) (v : Int) (o : CapOut), s.Takes r 2 m.index m.sub ses →
    m.version = 1 → m.lengthAgrees = true → m.offset = 0 → s.writeCheck ses m.index m.sub n (enc n v) = .error o →
    ∃ t, exec (.capWrite r m n v false) s = .next t ∧ t.Replied r 2 m.index m.sub o ∧ t.stores = s.stores ∧ t.nand = s.nand) ∧
  (∀ (s : State) (r : CapReq) (ses : Session) (p : PStore) (owner : Nat), s.Takes r 2 0x1800 1 ses → ses.role = 0 → owner ≤ 1 →
    s.stores[1]? = some p → p.overflows [(Obj.servoOwner, (owner : Int))] = false →
    ∃ t, exec (.servoOwnerChange r owner) s = .next t ∧ t.get Obj.servoOwner = s.get Obj.servoOwner ∧
      t.stores[1]? = some (p.take { sess := r.sess, tag := r.tag, kind := 2, key := Obj.servoOwner, val := owner })) ∧
  (∀ (s : State) (r : CapReq) (ses : Session) (p : PStore) (off : Nat), s.Takes r 2 0x1803 4 ses → ses.role = 0 → off ≤ 255 →
    s.stores[1]? = some p → p.overflows [(Obj.taiUtcOffsetS, (off : Int))] = false →
    ∃ t, exec (.taiUtcOffsetWrite r off) s = .next t ∧ t.get Obj.taiUtcOffsetS = s.get Obj.taiUtcOffsetS ∧
      t.stores[1]? = some (p.take { sess := r.sess, tag := r.tag, kind := 2, key := Obj.taiUtcOffsetS, val := off })) ∧
  (∀ (s : State) (r : CapReq) (ses : Session) (e : Epmeir) (b : BundleEntry) (row : ObjRow) (v : Int),
    s.Admits r Obj.catalogueBundleSubmit ses → s.containerCheck e 5 true = none → s.anchorHas 2 0 e.signer = true →
    s.nat Obj.catalogueBundleCounter < e.counter → s.bundleCheck 0 [b] = .ok [(256 * b.index + b.sub, row, v)] → row.pers = .paired →
    0x5000 ≤ b.index → b.index < 0x6000 → b.sub < 256 → s.bundleRoom [(256 * b.index + b.sub, v)] = none →
    ∃ t u, exec (.catalogueBundleSubmit r e [b] none) s = .next t ∧ t.Answered r Obj.catalogueBundleSubmit capOk ∧
      t.get Obj.catalogueBundleCounter = (e.counter : Int) ∧ t.get (256 * b.index + b.sub) = v ∧
      exec (.catalogueBundleSubmit r e [b] (some (storeOf (256 * b.index + b.sub)))) s = .next u ∧
      u.Answered r Obj.catalogueBundleSubmit (capErr 21 (storeOf (256 * b.index + b.sub))) ∧
      u.get Obj.catalogueBundleCounter = s.get Obj.catalogueBundleCounter ∧ u.get (256 * b.index + b.sub) = s.get (256 * b.index + b.sub)) ∧
  (∀ (s : State) (n : Nat) (p : PStore) (w : Waiter) (ses : Session), s.stores[n]? = some p → p.prog = [w] → s.awake = true →
    s.lateRefusal w = none → 0x5000 ≤ w.key / 256 → w.key / 256 < 0x6000 → tget s.sessions w.sess = some ses → ses.closing = false →
    ∃ t, exec (.storeBankProgrammed n true) s = .next t ∧ t.get w.key = w.val ∧
      t.Replied { sess := w.sess, tag := w.tag } w.kind (w.key / 256) (w.key % 256) capOk) ∧
  (∀ (s : State) (n : Nat) (p : PStore) (w : Waiter) (ses : Session), s.stores[n]? = some p → p.prog = [w] → s.awake = true →
    s.pins.pfi = false → s.pw.cause = 0 → tget s.sessions w.sess = some ses → ses.closing = false →
    ∃ t, exec (.storeBankProgrammed n false) s = .next t ∧
      (p.tries = 0 → t = { s with stores := s.stores.set n { p with tries := 1 } }) ∧
      (p.tries ≠ 0 → 0x5000 ≤ w.key / 256 → w.key / 256 < 0x6000 → t.get w.key = s.get w.key ∧
        t.Replied { sess := w.sess, tag := w.tag } w.kind (w.key / 256) (w.key % 256) (capErr 21 n)))

/-- GATE_REQUEST (R397, R399), GATE_CONFIRMATION (R400), ITEM_REPORT (R401), FANOUT_TIMER_EXPIRY (R402): a request whose checks pass and whose
digest agrees is staged and its digest kept; one that fails a check closes the gate with the cause of R406, SAFE_N asserted; a confirmed item
is one whose kept digest and tag agree; a reported item has left the stage. -/
def Obligations.CommandGate : Prop :=
  (∀ (s : State) (q : SwitchReq) (rest : List SwitchReq) (x : Record) (auth : Nat) (d : List Nat), s.up = true → s.pw.cause = 0 →
    s.gate.queue = q :: rest → s.record q.tag = some x → x.bad = false → x.live = true → s.nat Obj.gateState = 0 → s.billSec < q.expiry →
    s.gateChecks q auth = 0 → digestMismatch (s.gateDigests q) d = none → q.kind ≠ 4 →
    (s.nand.items.any fun i => i.tag == q.tag && i.cls == 2) = false → s.itemRoom q.tag = true →
    s.nat Obj.gateReleased < 4294967295 →
    ∃ t, exec (.gateRequest q.seq auth d) s = .next t ∧ t.gate.queue = rest ∧ t.get Obj.gateState = 0 ∧
      t.get Obj.gateReleased = (s.nat Obj.gateReleased + 1 : Nat) ∧
      t.gate.kept = s.gate.kept ++ [(s.nand.stageSeq + 1, (s.gateDigests q).headD 0)] ∧
      (t.nand.items.getLast?).map (fun i => (i.seq, i.tag, i.cls, i.request)) = some (s.nand.stageSeq + 1, q.tag, 2, some q)) ∧
  (∀ (s : State) (q : SwitchReq) (rest : List SwitchReq) (x : Record) (auth : Nat) (d : List Nat), s.up = true → s.pw.cause = 0 →
    s.gate.queue = q :: rest → s.record q.tag = some x → x.bad = false → x.live = true → s.nat Obj.gateState = 0 → s.billSec < q.expiry →
    s.gateChecks q auth ≠ 0 → gateHard (s.gateChecks q auth) = false →
    ∃ t, exec (.gateRequest q.seq auth d) s = .next t ∧ t.gate.queue = rest ∧ t.get Obj.gateState = 1 ∧
      t.get Obj.gateCloseCause = (s.gateChecks q auth : Int) ∧ t.pins.safe = true) ∧
  (∀ (s : State) (stage digest : Nat) (i : Item), s.up = true → s.nat Obj.gateState = 0 →
    (s.nand.items.find? fun i => i.seq == stage && i.cls == 2) = some i →
    (s.gate.kept.find? fun e => e.1 == stage) = some (stage, digest) →
    ∃ t, exec (.gateConfirmation stage i.tag digest) s = .next t ∧ t.gate.confirmed.contains stage = true ∧ t.pins = s.pins ∧
      t.cat = s.cat) ∧
  (∀ (s : State) (stage tag digest kept : Nat) (i : Item), s.up = true → s.nat Obj.gateState = 0 →
    (s.nand.items.find? fun i => i.seq == stage && i.cls == 2) = some i →
    (s.gate.kept.find? fun e => e.1 == stage) = some (stage, kept) → (digest ≠ kept ∨ tag ≠ i.tag) →
    ∃ t, exec (.gateConfirmation stage tag digest) s = .next t ∧ t.gate.confirmed = [] ∧ t.pins.safe = true ∧
      t.get Obj.gateState = 1 ∧ t.get Obj.gateCloseCause = 6) ∧
  (∀ (s : State) (stage outcome : Nat) (i : Item) (x : Record), s.up = true →
    (s.nand.items.find? fun i => i.seq == stage && i.cls == 2) = some i → 1 ≤ outcome → outcome ≤ 4 → s.record i.tag = some x →
    x.tag = i.tag → (s.nand.items.find? fun i => i.seq == stage && i.tag == x.tag && (i.sends != 0 || i.held)) = some i →
    stage ≤ s.nand.stageSeq →
    ∃ t, exec (.itemReport stage outcome) s = .next t ∧ (t.nand.items.any fun i => i.seq == stage) = false) ∧
  (∀ (s : State) (q : SwitchReq), s.up = true → s.nat Obj.gateState = 0 →
    (s.gate.queue.find? fun q => q.kind == 4 && Nat.ble (q.formed + 10000000) s.now) = some q →
    ∃ t, exec .fanoutTimerExpiry s = .next t ∧ t.gate.queue = s.gate.queue.erase q ∧ t.get Obj.gateState = 1 ∧
      t.get Obj.gateCloseCause = 7 ∧ t.pins.safe = true)

/-- LOCKSTEP_MISMATCH, CLOCK_MONITOR_FAULT, RINGMASTER_SCRUB (R407), RINGMASTER_DAILY_TEST (R395), GATE_REOPEN (R404), GATE_PROOF_TEST (R411). -/
def Obligations.RingmasterDiagnostics : Prop :=
  (∀ (s : State) (p : Nat), s.up = true → s.nat Obj.dangerousDetected < 4294967295 →
    ∃ t u v, exec (.lockstepMismatch p) s = .next t ∧ exec .clockMonitorFault s = .next u ∧ exec (.ringmasterScrub p true) s = .next v ∧
      (∀ w c, (w = t ∧ c = 8) ∨ (w = u ∧ c = 10) ∨ (w = v ∧ c = 9) →
        w.pins.safe = true ∧ w.get Obj.gateState = 2 ∧ w.get Obj.gateCloseCause = c ∧ w.gate.confirmed = [] ∧
        w.get Obj.dangerousDetected = (s.nat Obj.dangerousDetected + 1 : Nat))) ∧
  (∀ (s : State) (p : Nat), s.up = true →
    exec (.ringmasterScrub p false) s = .next { s with gate.corrected := s.gate.corrected + 1 }) ∧
  (∀ s : State, s.up = true → s.tai % 86400 / 3600 = s.nat Obj.ringmasterTestHour → s.gate.bistDay ≠ s.tai / 86400 →
    ∃ t u, exec (.ringmasterDailyTest true true) s = .next t ∧ exec (.ringmasterDailyTest true false) s = .next u ∧
      t.gate.pairOk = [true, true] ∧ t.gate.bistDay = s.tai / 86400 ∧ t.cat = s.cat ∧
      u.gate.pairOk = [true, false] ∧ u.get Obj.gateState = 2 ∧ u.get Obj.gateCloseCause = 14 ∧ u.pins.safe = true) ∧
  (∀ (s : State) (r : CapReq) (ses : Session), s.Admits r Obj.gateReopen ses → s.nat Obj.gateState = 1 →
    ∃ t, exec (.gateReopen r 1 true true) s = .next t ∧ t.Answered r Obj.gateReopen capOk ∧ t.get Obj.gateState = 0 ∧
      t.get Obj.gateCloseCause = 0 ∧ t.pins.safe = false) ∧
  (∀ (s : State) (r : CapReq) (ses : Session) (a b : Bool), s.Admits r Obj.gateReopen ses → 2 ≤ s.nat Obj.gateState →
    ∃ t, exec (.gateReopen r 1 a b) s = .next t ∧ t.Answered r Obj.gateReopen (capErr 6 0) ∧ t.pins = s.pins ∧
      t.get Obj.gateState = s.get Obj.gateState) ∧
  (∀ (s : State) (r : CapReq) (ses : Session), s.Admits r Obj.gateProofTest ses → (s.gate.queue.any fun q => q.kind == 4) = false →
    s.nat Obj.gateState ≤ 1 →
    ∃ t, exec (.gateProofTest r 1) s = .next t ∧ t.Answered r Obj.gateProofTest capOk ∧ t.get Obj.gateState = 1 ∧
      t.get Obj.gateCloseCause = 12 ∧ t.pins.safe = true ∧ t.get Obj.dangerousDetected = s.get Obj.dangerousDetected)

/-- ENGINE_WATCHDOG (R408), JUGGLER_ROTATION_TEST, BIST_SLICE (R440), BIST_START (R439), BIST_COMPLETE (R441), TEMPERATURE_SAMPLE (R429),
GOVERNOR_EVALUATION (R431), THERMAL_ALARM_CLEAR (R433), PATINA_MEASURE, VDD_SETTLE, PATINA_MEASURE_CMD (R435, R436), PATINA_RECALIBRATE
(R437). -/
def Obligations.TestsAgeingAndHeat : Prop :=
  (∀ (s : State) (e : Nat), s.awake = true → e < 20 → s.gate.engines[e]? = some 0 → s.nat Obj.engineFaults < 4294967295 →
    ∃ t, exec (.engineWatchdog e) s = .next t ∧ t.gate.engines[e]? = some 1 ∧
      t.get Obj.engineFaults = (s.nat Obj.engineFaults + 1 : Nat)) ∧
  (∀ (s : State) (e : Nat), s.up = true → s.pw.cause = 0 → s.pat.target = none → s.elapsedS s.pat.rotatedAt 600 = true →
    s.nextEngine = some e →
    ∃ t, exec .jugglerRotationTest s = .next t ∧ t.pat.target = some e ∧ t.pat.origin = 1 ∧ t.pat.slices = 0 ∧
      t.pat.rotation = (e + 1) % 20 ∧ t.pat.rotatedAt = s.now ∧ t.gate = s.gate) ∧
  (∀ (s : State) (e : Nat) (ok : Bool), s.pat.target = some e → s.up = true → s.pw.cause = 0 → e ≤ 0x13 → s.pat.slices < 65 →
    (s.pat.slices = 0 ∨ s.pat.sliceAt + 10000000 ≤ s.now) →
    ∃ t, exec (.bistSlice ok) s = .next t ∧ t.pat.slices = s.pat.slices + 1 ∧ t.pat.sliceAt = s.now ∧
      t.pat.failing = (if ok then s.pat.failing else some (s.pat.failing.getD (s.pat.slices / 16)))) ∧
  (∀ (s : State) (r : CapReq) (ses : Session) (n : Nat), s.Admits r Obj.bistStart ses → bistTarget n = true → s.bistBusy n = false →
    s.bistMay n = true →
    ∃ t, exec (.bistStart r n) s = .next t ∧ t.Answered r Obj.bistStart capOk ∧ t.pat.target = some n ∧ t.pat.origin = 0 ∧
      t.pat.slices = 0) ∧
  (∀ (s : State) (e set_ : Nat) (sig : List Nat), s.pat.target = some e → s.awake = true → e < 20 → s.gate.engines[e]? = some 0 →
    s.pat.slices = 65 → s.pat.failing = none →
    ∃ t, exec (.bistComplete 0 set_ sig) s = .next t ∧ t.pat.target = none ∧ t.gate.engines[e]? = some 0 ∧
      t.get Obj.bistResult = (bistPayload e 0 s.pat.origin 0xFF sig : Int)) ∧
  (∀ (s : State) (e n set_ : Nat) (sig : List Nat), s.pat.target = some e → s.awake = true → e < 20 → s.gate.engines[e]? = some 0 →
    s.pat.slices = 65 → s.pat.failing = some n → (s.pat.failures[e]?).getD 0 = 0 → s.nat Obj.bistFailures < 4294967295 →
    ∃ t, exec (.bistComplete 0 set_ sig) s = .next t ∧ t.gate.engines[e]? = some 1 ∧
      t.get Obj.bistResult = (bistPayload e 1 s.pat.origin n sig : Int) ∧
      t.get Obj.bistFailures = (s.nat Obj.bistFailures + 1 : Nat)) ∧
  (∀ (s : State) (x : List Int), s.awake = true → x.length = 8 →
    ∃ t, exec (.temperatureSample x) s = .next t ∧ t.get Obj.junctionTempDeciC = hottest x ∧ t.pat.peak = max s.pat.peak (hottest x) ∧
      (1100 < hottest x → t.pat.hot = true) ∧ (hottest x < 1070 → t.pat.hot = false)) ∧
  (∀ s : State, s.up = true → s.pw.cause = 0 → s.elapsedS s.pat.evalAt (s.nat Obj.governorStepS) = true →
    s.get Obj.governorTripDeciC ≤ s.get Obj.junctionTempDeciC → s.nat Obj.engineClockMHz ≠ s.nat Obj.governorFloorMHz →
    s.nat Obj.governorEvents < 4294967295 →
    ∃ t, exec .governorEvaluation s = .next t ∧ t.get Obj.governorSteps = (s.nat Obj.governorSteps + 1 : Nat) ∧
      t.get Obj.governorEvents = (s.nat Obj.governorEvents + 1 : Nat) ∧ t.pat.evalAt = s.now) ∧
  (∀ (s : State) (a : Nat), s.pat.coolSince = some a → s.awake = true → s.elapsedS a 60 = true →
    ∃ t, exec .thermalAlarmClear s = .next t ∧ t.get Obj.thermalAlarm = 0 ∧ t.pat = s.pat ∧
      ∀ k, k ≠ Obj.thermalAlarm → t.get k = s.get k) ∧
  (∀ (s : State) (x : List Int), s.up = true → x.length = 24 → s.pat.measuredHour ≠ s.nat Obj.operatingTimeMs / 3600000 + 1 →
    ∃ t, exec (.patinaMeasure x) s = .next t ∧ t.get Obj.worstMarginPermille = (lowest x).1 ∧
      t.get Obj.worstMonitor = ((lowest x).2 : Int) ∧ t.pat.measuredHour = s.nat Obj.operatingTimeMs / 3600000 + 1 ∧
      (s.nat Obj.vddSetpointMv < 880 → (lowest x).1 < s.get Obj.marginTargetPermille →
        t.get Obj.vddSetpointMv = (s.nat Obj.vddSetpointMv + 5 : Nat) ∧ t.pat.waiting = true)) ∧
  (∀ (s : State) (x : List Int), s.up = true → s.pat.waiting = true → x.length = 24 →
    ∃ t, exec (.vddSettle x) s = .next t ∧ t.get Obj.worstMarginPermille = (lowest x).1 ∧
      (s.nat Obj.vddSetpointMv < 880 → s.get Obj.marginTargetPermille ≤ (lowest x).1 → t.pat.waiting = false ∧
        t.get Obj.vddSetpointMv = s.get Obj.vddSetpointMv)) ∧
  (∀ (s : State) (r : CapReq) (ses : Session) (x : List Int), s.Admits r Obj.patinaMeasure ses → x.length = 24 →
    ∃ t, exec (.patinaMeasureCmd r 1 x) s = .next t ∧ t.Answered r Obj.patinaMeasure capOk ∧
      t.get Obj.worstMarginPermille = (lowest x).1) ∧
  (∀ (s : State) (r : CapReq) (ses : Session), s.Admits r Obj.patinaRecalibrate ses →
    ∃ t, exec (.patinaRecalibrate r 1) s = .next t ∧ t.Answered r Obj.patinaRecalibrate capOk ∧ t.flag Obj.recalibrate = true ∧
      t.get Obj.vddSetpointMv = s.get Obj.vddSetpointMv)

/-- The frame of every command, for the counter and its increment, the power state, the fuse bank of the seal, the firmware slots and what the
tests have found: a command outside the list of a group (`movesCounter` and the rest, in Safety.lean) leaves the group as it was. -/
def Obligations.FrameOfTimeAndPower : Prop :=
  ∀ (c : Instr) (s t : State), exec c s = .next t →
    (c.movesCounter = false → t.time.sec = s.time.sec ∧ t.time.ns = s.time.ns ∧ t.time.frac = s.time.frac) ∧
    (c.movesIncrement = false → t.time.incr = s.time.incr ∧ t.time.incrClamped = s.time.incrClamped ∧
      t.time.incrFrac = s.time.incrFrac ∧ t.time.incrInt = s.time.incrInt) ∧
    (c.movesPower = false → t.pw = s.pw) ∧
    (c.movesFuses = false → t.hall = s.hall) ∧
    (c.movesFirmware = false → t.fw = s.fw) ∧
    (c.movesPatina = false → t.pat = s.pat)

/-- The frame of every command, for what NAND holds of trust anchors and legal modules, user units, key blobs, the hash table, topology nodes,
the forwarding journal, invalid spans and withheld requests: a command outside the list of a group leaves it as it was. -/
def Obligations.FrameOfStorage : Prop :=
  ∀ (c : Instr) (s t : State), exec c s = .next t →
    (c.movesAnchors = false → t.nand.anchors = s.nand.anchors ∧ t.nand.legalSlots = s.nand.legalSlots) ∧
    (c.movesUnits = false → t.nand.user = s.nand.user) ∧
    (c.movesBlobs = false → t.nand.blobs = s.nand.blobs) ∧
    (c.movesHash = false → t.nand.hash = s.nand.hash) ∧
    (c.movesNodes = false → t.nand.nodes = s.nand.nodes) ∧
    (c.movesForward = false → t.nand.forward = s.nand.forward) ∧
    (c.movesSpans = false → t.nand.spans = s.nand.spans) ∧
    (c.movesWithheld = false → t.nand.withheld = s.nand.withheld)

/-- The frame of every command, for radio, downlink, lanes, Ethernet ports, the lines of Big Top, the Seesaw queues, phase votes, the
guarantee window, storms, cascade sessions, the catalogue and the CAP sessions: a command outside the list of a group leaves it as it was. -/
def Obligations.FrameOfEngines : Prop :=
  ∀ (c : Instr) (s t : State), exec c s = .next t →
    (c.movesCarousel = false → t.car = s.car) ∧
    (c.movesDownlink = false → t.dl = s.dl) ∧
    (c.movesLanes = false → t.lanes = s.lanes) ∧
    (c.movesPorts = false → t.ports = s.ports) ∧
    (c.movesLines = false → t.mem.lines = s.mem.lines ∧ t.mem.poisoned = s.mem.poisoned) ∧
    (c.movesQueues = false → t.mem.queues = s.mem.queues) ∧
    (c.movesVotes = false → t.votes = s.votes) ∧
    (c.movesWindow = false → t.win = s.win) ∧
    (c.movesStorms = false → t.storms = s.storms) ∧
    (c.movesCascades = false → t.cascades = s.cascades) ∧
    (c.movesCatalogue = false → t.cat = s.cat) ∧
    (c.movesSessions = false → t.sessions = s.sessions)

/-- The model's own step (log entry 2): with a command at the front of the queue, the step is the effect of that command on the state whose queue
is the rest. -/
def Obligations.StepTakesFront : Prop :=
  ∀ (c : Instr) (rest : List Instr) (s : State), s.pending = c :: rest → step s = exec c { s with pending := rest }

/-- For every command and every state, the effect is a next state, whose queue is as it was. -/
def Obligations.QueueKept : Prop := ∀ (c : Instr) (s : State), ∃ t, exec c s = .next t ∧ t.pending = s.pending

/-- From every state in which the counter stands within its bounds (R246: nanoseconds below 10^9, 48 bits of seconds; R247: the increment
within 3.998 to 4.002 ns) and Big Top has its canonical form (the model's own: lines rising, none that reads as an unlisted one), every
step, whatever command it carries out, answers a state in which both hold. -/
def Obligations.SoundKept : Prop := ∀ s : State, s.Sound → ∃ t, step s = .next t ∧ t.Sound

/-- R246, R247: at reset the counter holds 0 seconds, 0 nanoseconds and fraction 0, the increment is nominal, and the billing clock is invalid
(R266). The invariant of SoundKept holds there, no command waits, and Big Top lists nothing. -/
def Obligations.SoundAtReset : Prop :=
  State.reset.time.sec = 0 ∧ State.reset.time.ns = 0 ∧ State.reset.time.frac = 0 ∧ State.reset.time.incr = incrNominal ∧
    State.reset.time.incrInt = 4 ∧ State.reset.time.incrFrac = 0 ∧ State.reset.clock = 3 ∧ State.reset.pending = [] ∧
    State.reset.mem.lines = [] ∧ State.reset.Sound

/-- R259: TimeSet carries a TIME and is applied as a step of the difference, so that the counter stands at it and the step is counted in
StepsApplied. It is accepted only while no PTP or PPS source (codes 1 to 5) is selected, and otherwise refused with BUSY, with no effect on
the counter, the RTC or the legal log. Accepted, it writes a legal-log record, of type 0x1019, that names both values, and the RTC. The
record is stated where the legal log takes it at once: store mounted and writable, a free block, no freeze. -/
def Obligations.TimeSetIsAStep : Prop :=
  ∀ (s : State) (r : CapReq) (ses : Session) (sec ns : Nat), s.Admits r Obj.timeSet ses → ns < nsPerS → sec < 2 ^ 48 →
    (1 ≤ s.nat Obj.selectedSource → s.nat Obj.selectedSource ≤ 5 →
      ∃ t, exec (.timeSet r sec ns) s = .next t ∧ t.Answered r Obj.timeSet (capErr 6 0) ∧ t.time = s.time ∧ t.bat = s.bat ∧
        t.nand = s.nand) ∧
    (s.nat Obj.selectedSource = 0 ∨ 6 ≤ s.nat Obj.selectedSource →
      ∃ t, exec (.timeSet r sec ns) s = .next t ∧ t.Answered r Obj.timeSet capOk ∧ t.now = sec * nsPerS + ns ∧
        (s.nat Obj.stepsApplied < 4294967295 → t.get Obj.stepsApplied = (s.nat Obj.stepsApplied + 1 : Nat)) ∧
        t.bat.rtc = (sec * nsPerS + ns) * 32768 / nsPerS ∧ t.bat.rtcValid = true ∧
        (s.nat Obj.mediaState = 0 → s.poolEmpty = false → s.freeze = none →
          ∃ l ∈ t.nand.logs.head?, ∃ e ∈ l.recs, e.code = 0x1019 ∧
            e.payload = pack [(10, s.timeNow), (10, sec + 2 ^ 48 * ns), (12, 0)]))

/-- R317: accepted only while unsealed and otherwise refused with SEALED and no effect on NAND, MediaState or the sizes in force. Accepted, it
erases every mounted block that is not bad (its erase count goes up by one, no unit is mapped any more), leaves every log without a record,
the legal log among them, sets MediaState 0, and puts PartitionSizeMiB and OverprovisionPermille as they stand into force. -/
def Obligations.FormatOnlyUnsealed : Prop :=
  ∀ (s : State) (r : CapReq) (ses : Session), s.Admits r Obj.storageFormat ses → s.parked = [] →
    (s.nat Obj.sealState = 1 →
      ∃ t, exec (.storageFormat r 1) s = .next t ∧ t.Answered r Obj.storageFormat capOk ∧ t.get Obj.mediaState = 0 ∧
        t.cask.blocks.map (fun e => (e.1, e.2.erases)) =
          s.cask.blocks.map (fun e => (e.1, if e.2.state = 4 then e.2.erases else e.2.erases + 1)) ∧
        (∀ e ∈ t.cask.blocks, e.2.state = 4 ∨ e.2.used = 0) ∧ t.cask.map = [] ∧ (∀ l ∈ t.nand.logs, l.recs = []) ∧
        t.forced Obj.overprovisionPermille = s.nat Obj.overprovisionPermille ∧
        (∀ i < 7, t.forced (Obj.partitionSizeMiB i) = s.nat (Obj.partitionSizeMiB i))) ∧
    (s.nat Obj.sealState ≠ 1 →
      ∃ t, exec (.storageFormat r 1) s = .next t ∧ t.Answered r Obj.storageFormat (capErr 7 0) ∧ t.nand = s.nand ∧ t.cask = s.cask ∧
        t.get Obj.mediaState = s.get Obj.mediaState ∧ t.inForce = s.inForce)
end

