-- ==== Sys2Proof/Laws/Keeps.lean ====
section
/-! SUPPORT. Two relations between a state and the one after an operation: nothing of the queue, the counter and Big Top changed, and
the queue unchanged with the bounds of the counter and the form of Big Top kept. -/

namespace Sys2Proof.Machine

/-- The queue, the counter with its increment, and the lines of Big Top are as they were. -/
abbrev Quiet (s t : State) : Prop :=
  t.pending = s.pending ∧ t.time.sec = s.time.sec ∧ t.time.ns = s.time.ns ∧ t.time.frac = s.time.frac ∧ t.time.incr = s.time.incr ∧
    t.mem.lines = s.mem.lines

/-- The queue is as it was; the counter keeps its bounds and Big Top its form. -/
abbrev Steady (s t : State) : Prop := t.pending = s.pending ∧ (s.time.ok → t.time.ok) ∧ (s.mem.wf = true → t.mem.wf = true)

/-- The bounds of the counter, spelled out. -/
theorem Calliope.ok_iff (t : Calliope) :
    t.ok ↔ t.ns < nsPerS ∧ t.frac < fracPerNs ∧ t.sec < 2 ^ 48 ∧ incrMin ≤ t.incr ∧ t.incr ≤ incrMax := Iff.rfl

/-- The bounds of a counter rest on its own parts alone. -/
theorem Calliope.ok_congr {t u : Calliope} (a : u.sec = t.sec) (b : u.ns = t.ns) (c : u.frac = t.frac) (d : u.incr = t.incr) :
    u.ok ↔ t.ok := by
  simp only [Calliope.ok, a, b, c, d]

/-- The form of Big Top rests on its lines alone. -/
theorem Memory.wf_congr {m n : Memory} (h : n.lines = m.lines) : n.wf = m.wf := by
  simp only [Memory.wf, h]

/-- What leaves all as it was keeps the bounds and the form. -/
theorem Quiet.steady {s t : State} (h : Quiet s t) : Steady s t := by
  obtain ⟨a, b, c, d, e, f⟩ := h
  exact ⟨a, (Calliope.ok_congr b c d e).2, fun w => (Memory.wf_congr f).trans w⟩

/-- One quiet operation after another. -/
theorem Quiet.trans {s t u : State} (h : Quiet s t) (k : Quiet t u) : Quiet s u := by
  obtain ⟨a, b, c, d, e, f⟩ := h
  obtain ⟨a', b', c', d', e', f'⟩ := k
  exact ⟨a'.trans a, b'.trans b, c'.trans c, d'.trans d, e'.trans e, f'.trans f⟩

/-- One steady operation after another. -/
theorem Steady.trans {s t u : State} (h : Steady s t) (k : Steady t u) : Steady s u :=
  ⟨k.1.trans h.1, fun w => k.2.1 (h.2.1 w), fun w => k.2.2 (h.2.2 w)⟩

/-- A fold of quiet operations. -/
theorem foldl_quiet {α : Type} (f : State → α → State) (l : List α) (s : State) (h : ∀ s x, Quiet s (f s x)) :
    Quiet s (l.foldl f s) := by
  induction l generalizing s with
  | nil => exact ⟨rfl, rfl, rfl, rfl, rfl, rfl⟩
  | cons a t ih => exact (h s a).trans (ih _)

/-- A fold of steady operations. -/
theorem foldl_steady {α : Type} (f : State → α → State) (l : List α) (s : State) (h : ∀ s x, Steady s (f s x)) :
    Steady s (l.foldl f s) := by
  induction l generalizing s with
  | nil => exact ⟨rfl, id, id⟩
  | cons a t ih => exact (h s a).trans (ih _)

end Sys2Proof.Machine
end

