-- ==== Sys2Proof/Laws/State.lean ====
section
/-! SUPPORT. What the updates of one part of a state leave of every field: each true by unfolding, so that no proof unfolds a record
update. -/

namespace Sys2Proof.Machine

variable (s : State)

/-! ### set: a catalogue object set -/

@[simp] theorem State.set_pending (k : Nat) (v : Int) : (s.set k v).pending = s.pending := rfl
@[simp] theorem State.set_free (k : Nat) (v : Int) : (s.set k v).free = s.free := rfl
@[simp] theorem State.set_cat (k : Nat) (v : Int) : (s.set k v).cat = catPut s.cat k v := rfl
@[simp] theorem State.set_inForce (k : Nat) (v : Int) : (s.set k v).inForce = s.inForce := rfl
@[simp] theorem State.set_stores (k : Nat) (v : Int) : (s.set k v).stores = s.stores := rfl
@[simp] theorem State.set_time (k : Nat) (v : Int) : (s.set k v).time = s.time := rfl
@[simp] theorem State.set_bat (k : Nat) (v : Int) : (s.set k v).bat = s.bat := rfl
@[simp] theorem State.set_pins (k : Nat) (v : Int) : (s.set k v).pins = s.pins := rfl
@[simp] theorem State.set_pw (k : Nat) (v : Int) : (s.set k v).pw = s.pw := rfl
@[simp] theorem State.set_hif (k : Nat) (v : Int) : (s.set k v).hif = s.hif := rfl
@[simp] theorem State.set_ports (k : Nat) (v : Int) : (s.set k v).ports = s.ports := rfl
@[simp] theorem State.set_sessions (k : Nat) (v : Int) : (s.set k v).sessions = s.sessions := rfl
@[simp] theorem State.set_cask (k : Nat) (v : Int) : (s.set k v).cask = s.cask := rfl
@[simp] theorem State.set_mem (k : Nat) (v : Int) : (s.set k v).mem = s.mem := rfl
@[simp] theorem State.set_fw (k : Nat) (v : Int) : (s.set k v).fw = s.fw := rfl
@[simp] theorem State.set_hall (k : Nat) (v : Int) : (s.set k v).hall = s.hall := rfl
@[simp] theorem State.set_gate (k : Nat) (v : Int) : (s.set k v).gate = s.gate := rfl
@[simp] theorem State.set_pat (k : Nat) (v : Int) : (s.set k v).pat = s.pat := rfl
@[simp] theorem State.set_loc (k : Nat) (v : Int) : (s.set k v).loc = s.loc := rfl
@[simp] theorem State.set_freeze (k : Nat) (v : Int) : (s.set k v).freeze = s.freeze := rfl
@[simp] theorem State.set_frames (k : Nat) (v : Int) : (s.set k v).frames = s.frames := rfl
@[simp] theorem State.set_nextFrame (k : Nat) (v : Int) : (s.set k v).nextFrame = s.nextFrame := rfl
@[simp] theorem State.set_win (k : Nat) (v : Int) : (s.set k v).win = s.win := rfl
@[simp] theorem State.set_storms (k : Nat) (v : Int) : (s.set k v).storms = s.storms := rfl
@[simp] theorem State.set_unknown (k : Nat) (v : Int) : (s.set k v).unknown = s.unknown := rfl
@[simp] theorem State.set_cascades (k : Nat) (v : Int) : (s.set k v).cascades = s.cascades := rfl
@[simp] theorem State.set_cascadeOut (k : Nat) (v : Int) : (s.set k v).cascadeOut = s.cascadeOut := rfl
@[simp] theorem State.set_cascadeIn (k : Nat) (v : Int) : (s.set k v).cascadeIn = s.cascadeIn := rfl
@[simp] theorem State.set_car (k : Nat) (v : Int) : (s.set k v).car = s.car := rfl
@[simp] theorem State.set_dl (k : Nat) (v : Int) : (s.set k v).dl = s.dl := rfl
@[simp] theorem State.set_lanes (k : Nat) (v : Int) : (s.set k v).lanes = s.lanes := rfl
@[simp] theorem State.set_votes (k : Nat) (v : Int) : (s.set k v).votes = s.votes := rfl
@[simp] theorem State.set_parked (k : Nat) (v : Int) : (s.set k v).parked = s.parked := rfl
@[simp] theorem State.set_upHold (k : Nat) (v : Int) : (s.set k v).upHold = s.upHold := rfl
@[simp] theorem State.set_nand (k : Nat) (v : Int) : (s.set k v).nand = s.nand := rfl
@[simp] theorem State.set_nandProg (k : Nat) (v : Int) : (s.set k v).nandProg = s.nandProg := rfl

/-! ### modSession: a CAP session changed -/

@[simp] theorem State.modSession_pending (n : Nat) (f : Session → Session) : (s.modSession n f).pending = s.pending := rfl
@[simp] theorem State.modSession_free (n : Nat) (f : Session → Session) : (s.modSession n f).free = s.free := rfl
@[simp] theorem State.modSession_cat (n : Nat) (f : Session → Session) : (s.modSession n f).cat = s.cat := rfl
@[simp] theorem State.modSession_inForce (n : Nat) (f : Session → Session) : (s.modSession n f).inForce = s.inForce := rfl
@[simp] theorem State.modSession_stores (n : Nat) (f : Session → Session) : (s.modSession n f).stores = s.stores := rfl
@[simp] theorem State.modSession_time (n : Nat) (f : Session → Session) : (s.modSession n f).time = s.time := rfl
@[simp] theorem State.modSession_bat (n : Nat) (f : Session → Session) : (s.modSession n f).bat = s.bat := rfl
@[simp] theorem State.modSession_pins (n : Nat) (f : Session → Session) : (s.modSession n f).pins = s.pins := rfl
@[simp] theorem State.modSession_pw (n : Nat) (f : Session → Session) : (s.modSession n f).pw = s.pw := rfl
@[simp] theorem State.modSession_hif (n : Nat) (f : Session → Session) : (s.modSession n f).hif = s.hif := rfl
@[simp] theorem State.modSession_ports (n : Nat) (f : Session → Session) : (s.modSession n f).ports = s.ports := rfl
@[simp] theorem State.modSession_sessions (n : Nat) (f : Session → Session) : (s.modSession n f).sessions = tmod s.sessions n f := rfl
@[simp] theorem State.modSession_cask (n : Nat) (f : Session → Session) : (s.modSession n f).cask = s.cask := rfl
@[simp] theorem State.modSession_mem (n : Nat) (f : Session → Session) : (s.modSession n f).mem = s.mem := rfl
@[simp] theorem State.modSession_fw (n : Nat) (f : Session → Session) : (s.modSession n f).fw = s.fw := rfl
@[simp] theorem State.modSession_hall (n : Nat) (f : Session → Session) : (s.modSession n f).hall = s.hall := rfl
@[simp] theorem State.modSession_gate (n : Nat) (f : Session → Session) : (s.modSession n f).gate = s.gate := rfl
@[simp] theorem State.modSession_pat (n : Nat) (f : Session → Session) : (s.modSession n f).pat = s.pat := rfl
@[simp] theorem State.modSession_loc (n : Nat) (f : Session → Session) : (s.modSession n f).loc = s.loc := rfl
@[simp] theorem State.modSession_freeze (n : Nat) (f : Session → Session) : (s.modSession n f).freeze = s.freeze := rfl
@[simp] theorem State.modSession_frames (n : Nat) (f : Session → Session) : (s.modSession n f).frames = s.frames := rfl
@[simp] theorem State.modSession_nextFrame (n : Nat) (f : Session → Session) : (s.modSession n f).nextFrame = s.nextFrame := rfl
@[simp] theorem State.modSession_win (n : Nat) (f : Session → Session) : (s.modSession n f).win = s.win := rfl
@[simp] theorem State.modSession_storms (n : Nat) (f : Session → Session) : (s.modSession n f).storms = s.storms := rfl
@[simp] theorem State.modSession_unknown (n : Nat) (f : Session → Session) : (s.modSession n f).unknown = s.unknown := rfl
@[simp] theorem State.modSession_cascades (n : Nat) (f : Session → Session) : (s.modSession n f).cascades = s.cascades := rfl
@[simp] theorem State.modSession_cascadeOut (n : Nat) (f : Session → Session) : (s.modSession n f).cascadeOut = s.cascadeOut := rfl
@[simp] theorem State.modSession_cascadeIn (n : Nat) (f : Session → Session) : (s.modSession n f).cascadeIn = s.cascadeIn := rfl
@[simp] theorem State.modSession_car (n : Nat) (f : Session → Session) : (s.modSession n f).car = s.car := rfl
@[simp] theorem State.modSession_dl (n : Nat) (f : Session → Session) : (s.modSession n f).dl = s.dl := rfl
@[simp] theorem State.modSession_lanes (n : Nat) (f : Session → Session) : (s.modSession n f).lanes = s.lanes := rfl
@[simp] theorem State.modSession_votes (n : Nat) (f : Session → Session) : (s.modSession n f).votes = s.votes := rfl
@[simp] theorem State.modSession_parked (n : Nat) (f : Session → Session) : (s.modSession n f).parked = s.parked := rfl
@[simp] theorem State.modSession_upHold (n : Nat) (f : Session → Session) : (s.modSession n f).upHold = s.upHold := rfl
@[simp] theorem State.modSession_nand (n : Nat) (f : Session → Session) : (s.modSession n f).nand = s.nand := rfl
@[simp] theorem State.modSession_nandProg (n : Nat) (f : Session → Session) : (s.modSession n f).nandProg = s.nandProg := rfl

/-! ### modHq: a host queue changed -/

@[simp] theorem State.modHq_pending (q : Nat) (f : HostQueue → HostQueue) : (s.modHq q f).pending = s.pending := rfl
@[simp] theorem State.modHq_free (q : Nat) (f : HostQueue → HostQueue) : (s.modHq q f).free = s.free := rfl
@[simp] theorem State.modHq_cat (q : Nat) (f : HostQueue → HostQueue) : (s.modHq q f).cat = s.cat := rfl
@[simp] theorem State.modHq_inForce (q : Nat) (f : HostQueue → HostQueue) : (s.modHq q f).inForce = s.inForce := rfl
@[simp] theorem State.modHq_stores (q : Nat) (f : HostQueue → HostQueue) : (s.modHq q f).stores = s.stores := rfl
@[simp] theorem State.modHq_time (q : Nat) (f : HostQueue → HostQueue) : (s.modHq q f).time = s.time := rfl
@[simp] theorem State.modHq_bat (q : Nat) (f : HostQueue → HostQueue) : (s.modHq q f).bat = s.bat := rfl
@[simp] theorem State.modHq_pins (q : Nat) (f : HostQueue → HostQueue) : (s.modHq q f).pins = s.pins := rfl
@[simp] theorem State.modHq_pw (q : Nat) (f : HostQueue → HostQueue) : (s.modHq q f).pw = s.pw := rfl
@[simp] theorem State.modHq_hif (q : Nat) (f : HostQueue → HostQueue) : (s.modHq q f).hif = { s.hif with hq := lmod s.hif.hq q f } := rfl
@[simp] theorem State.modHq_ports (q : Nat) (f : HostQueue → HostQueue) : (s.modHq q f).ports = s.ports := rfl
@[simp] theorem State.modHq_sessions (q : Nat) (f : HostQueue → HostQueue) : (s.modHq q f).sessions = s.sessions := rfl
@[simp] theorem State.modHq_cask (q : Nat) (f : HostQueue → HostQueue) : (s.modHq q f).cask = s.cask := rfl
@[simp] theorem State.modHq_mem (q : Nat) (f : HostQueue → HostQueue) : (s.modHq q f).mem = s.mem := rfl
@[simp] theorem State.modHq_fw (q : Nat) (f : HostQueue → HostQueue) : (s.modHq q f).fw = s.fw := rfl
@[simp] theorem State.modHq_hall (q : Nat) (f : HostQueue → HostQueue) : (s.modHq q f).hall = s.hall := rfl
@[simp] theorem State.modHq_gate (q : Nat) (f : HostQueue → HostQueue) : (s.modHq q f).gate = s.gate := rfl
@[simp] theorem State.modHq_pat (q : Nat) (f : HostQueue → HostQueue) : (s.modHq q f).pat = s.pat := rfl
@[simp] theorem State.modHq_loc (q : Nat) (f : HostQueue → HostQueue) : (s.modHq q f).loc = s.loc := rfl
@[simp] theorem State.modHq_freeze (q : Nat) (f : HostQueue → HostQueue) : (s.modHq q f).freeze = s.freeze := rfl
@[simp] theorem State.modHq_frames (q : Nat) (f : HostQueue → HostQueue) : (s.modHq q f).frames = s.frames := rfl
@[simp] theorem State.modHq_nextFrame (q : Nat) (f : HostQueue → HostQueue) : (s.modHq q f).nextFrame = s.nextFrame := rfl
@[simp] theorem State.modHq_win (q : Nat) (f : HostQueue → HostQueue) : (s.modHq q f).win = s.win := rfl
@[simp] theorem State.modHq_storms (q : Nat) (f : HostQueue → HostQueue) : (s.modHq q f).storms = s.storms := rfl
@[simp] theorem State.modHq_unknown (q : Nat) (f : HostQueue → HostQueue) : (s.modHq q f).unknown = s.unknown := rfl
@[simp] theorem State.modHq_cascades (q : Nat) (f : HostQueue → HostQueue) : (s.modHq q f).cascades = s.cascades := rfl
@[simp] theorem State.modHq_cascadeOut (q : Nat) (f : HostQueue → HostQueue) : (s.modHq q f).cascadeOut = s.cascadeOut := rfl
@[simp] theorem State.modHq_cascadeIn (q : Nat) (f : HostQueue → HostQueue) : (s.modHq q f).cascadeIn = s.cascadeIn := rfl
@[simp] theorem State.modHq_car (q : Nat) (f : HostQueue → HostQueue) : (s.modHq q f).car = s.car := rfl
@[simp] theorem State.modHq_dl (q : Nat) (f : HostQueue → HostQueue) : (s.modHq q f).dl = s.dl := rfl
@[simp] theorem State.modHq_lanes (q : Nat) (f : HostQueue → HostQueue) : (s.modHq q f).lanes = s.lanes := rfl
@[simp] theorem State.modHq_votes (q : Nat) (f : HostQueue → HostQueue) : (s.modHq q f).votes = s.votes := rfl
@[simp] theorem State.modHq_parked (q : Nat) (f : HostQueue → HostQueue) : (s.modHq q f).parked = s.parked := rfl
@[simp] theorem State.modHq_upHold (q : Nat) (f : HostQueue → HostQueue) : (s.modHq q f).upHold = s.upHold := rfl
@[simp] theorem State.modHq_nand (q : Nat) (f : HostQueue → HostQueue) : (s.modHq q f).nand = s.nand := rfl
@[simp] theorem State.modHq_nandProg (q : Nat) (f : HostQueue → HostQueue) : (s.modHq q f).nandProg = s.nandProg := rfl

/-! ### modPort: an Ethernet port changed -/

@[simp] theorem State.modPort_pending (p : Nat) (f : Port → Port) : (s.modPort p f).pending = s.pending := rfl
@[simp] theorem State.modPort_free (p : Nat) (f : Port → Port) : (s.modPort p f).free = s.free := rfl
@[simp] theorem State.modPort_cat (p : Nat) (f : Port → Port) : (s.modPort p f).cat = s.cat := rfl
@[simp] theorem State.modPort_inForce (p : Nat) (f : Port → Port) : (s.modPort p f).inForce = s.inForce := rfl
@[simp] theorem State.modPort_stores (p : Nat) (f : Port → Port) : (s.modPort p f).stores = s.stores := rfl
@[simp] theorem State.modPort_time (p : Nat) (f : Port → Port) : (s.modPort p f).time = s.time := rfl
@[simp] theorem State.modPort_bat (p : Nat) (f : Port → Port) : (s.modPort p f).bat = s.bat := rfl
@[simp] theorem State.modPort_pins (p : Nat) (f : Port → Port) : (s.modPort p f).pins = s.pins := rfl
@[simp] theorem State.modPort_pw (p : Nat) (f : Port → Port) : (s.modPort p f).pw = s.pw := rfl
@[simp] theorem State.modPort_hif (p : Nat) (f : Port → Port) : (s.modPort p f).hif = s.hif := rfl
@[simp] theorem State.modPort_ports (p : Nat) (f : Port → Port) : (s.modPort p f).ports = lmod s.ports p f := rfl
@[simp] theorem State.modPort_sessions (p : Nat) (f : Port → Port) : (s.modPort p f).sessions = s.sessions := rfl
@[simp] theorem State.modPort_cask (p : Nat) (f : Port → Port) : (s.modPort p f).cask = s.cask := rfl
@[simp] theorem State.modPort_mem (p : Nat) (f : Port → Port) : (s.modPort p f).mem = s.mem := rfl
@[simp] theorem State.modPort_fw (p : Nat) (f : Port → Port) : (s.modPort p f).fw = s.fw := rfl
@[simp] theorem State.modPort_hall (p : Nat) (f : Port → Port) : (s.modPort p f).hall = s.hall := rfl
@[simp] theorem State.modPort_gate (p : Nat) (f : Port → Port) : (s.modPort p f).gate = s.gate := rfl
@[simp] theorem State.modPort_pat (p : Nat) (f : Port → Port) : (s.modPort p f).pat = s.pat := rfl
@[simp] theorem State.modPort_loc (p : Nat) (f : Port → Port) : (s.modPort p f).loc = s.loc := rfl
@[simp] theorem State.modPort_freeze (p : Nat) (f : Port → Port) : (s.modPort p f).freeze = s.freeze := rfl
@[simp] theorem State.modPort_frames (p : Nat) (f : Port → Port) : (s.modPort p f).frames = s.frames := rfl
@[simp] theorem State.modPort_nextFrame (p : Nat) (f : Port → Port) : (s.modPort p f).nextFrame = s.nextFrame := rfl
@[simp] theorem State.modPort_win (p : Nat) (f : Port → Port) : (s.modPort p f).win = s.win := rfl
@[simp] theorem State.modPort_storms (p : Nat) (f : Port → Port) : (s.modPort p f).storms = s.storms := rfl
@[simp] theorem State.modPort_unknown (p : Nat) (f : Port → Port) : (s.modPort p f).unknown = s.unknown := rfl
@[simp] theorem State.modPort_cascades (p : Nat) (f : Port → Port) : (s.modPort p f).cascades = s.cascades := rfl
@[simp] theorem State.modPort_cascadeOut (p : Nat) (f : Port → Port) : (s.modPort p f).cascadeOut = s.cascadeOut := rfl
@[simp] theorem State.modPort_cascadeIn (p : Nat) (f : Port → Port) : (s.modPort p f).cascadeIn = s.cascadeIn := rfl
@[simp] theorem State.modPort_car (p : Nat) (f : Port → Port) : (s.modPort p f).car = s.car := rfl
@[simp] theorem State.modPort_dl (p : Nat) (f : Port → Port) : (s.modPort p f).dl = s.dl := rfl
@[simp] theorem State.modPort_lanes (p : Nat) (f : Port → Port) : (s.modPort p f).lanes = s.lanes := rfl
@[simp] theorem State.modPort_votes (p : Nat) (f : Port → Port) : (s.modPort p f).votes = s.votes := rfl
@[simp] theorem State.modPort_parked (p : Nat) (f : Port → Port) : (s.modPort p f).parked = s.parked := rfl
@[simp] theorem State.modPort_upHold (p : Nat) (f : Port → Port) : (s.modPort p f).upHold = s.upHold := rfl
@[simp] theorem State.modPort_nand (p : Nat) (f : Port → Port) : (s.modPort p f).nand = s.nand := rfl
@[simp] theorem State.modPort_nandProg (p : Nat) (f : Port → Port) : (s.modPort p f).nandProg = s.nandProg := rfl

/-! ### modLane: a power-line lane changed -/

@[simp] theorem State.modLane_pending (l : Nat) (f : Lane → Lane) : (s.modLane l f).pending = s.pending := rfl
@[simp] theorem State.modLane_free (l : Nat) (f : Lane → Lane) : (s.modLane l f).free = s.free := rfl
@[simp] theorem State.modLane_cat (l : Nat) (f : Lane → Lane) : (s.modLane l f).cat = s.cat := rfl
@[simp] theorem State.modLane_inForce (l : Nat) (f : Lane → Lane) : (s.modLane l f).inForce = s.inForce := rfl
@[simp] theorem State.modLane_stores (l : Nat) (f : Lane → Lane) : (s.modLane l f).stores = s.stores := rfl
@[simp] theorem State.modLane_time (l : Nat) (f : Lane → Lane) : (s.modLane l f).time = s.time := rfl
@[simp] theorem State.modLane_bat (l : Nat) (f : Lane → Lane) : (s.modLane l f).bat = s.bat := rfl
@[simp] theorem State.modLane_pins (l : Nat) (f : Lane → Lane) : (s.modLane l f).pins = s.pins := rfl
@[simp] theorem State.modLane_pw (l : Nat) (f : Lane → Lane) : (s.modLane l f).pw = s.pw := rfl
@[simp] theorem State.modLane_hif (l : Nat) (f : Lane → Lane) : (s.modLane l f).hif = s.hif := rfl
@[simp] theorem State.modLane_ports (l : Nat) (f : Lane → Lane) : (s.modLane l f).ports = s.ports := rfl
@[simp] theorem State.modLane_sessions (l : Nat) (f : Lane → Lane) : (s.modLane l f).sessions = s.sessions := rfl
@[simp] theorem State.modLane_cask (l : Nat) (f : Lane → Lane) : (s.modLane l f).cask = s.cask := rfl
@[simp] theorem State.modLane_mem (l : Nat) (f : Lane → Lane) : (s.modLane l f).mem = s.mem := rfl
@[simp] theorem State.modLane_fw (l : Nat) (f : Lane → Lane) : (s.modLane l f).fw = s.fw := rfl
@[simp] theorem State.modLane_hall (l : Nat) (f : Lane → Lane) : (s.modLane l f).hall = s.hall := rfl
@[simp] theorem State.modLane_gate (l : Nat) (f : Lane → Lane) : (s.modLane l f).gate = s.gate := rfl
@[simp] theorem State.modLane_pat (l : Nat) (f : Lane → Lane) : (s.modLane l f).pat = s.pat := rfl
@[simp] theorem State.modLane_loc (l : Nat) (f : Lane → Lane) : (s.modLane l f).loc = s.loc := rfl
@[simp] theorem State.modLane_freeze (l : Nat) (f : Lane → Lane) : (s.modLane l f).freeze = s.freeze := rfl
@[simp] theorem State.modLane_frames (l : Nat) (f : Lane → Lane) : (s.modLane l f).frames = s.frames := rfl
@[simp] theorem State.modLane_nextFrame (l : Nat) (f : Lane → Lane) : (s.modLane l f).nextFrame = s.nextFrame := rfl
@[simp] theorem State.modLane_win (l : Nat) (f : Lane → Lane) : (s.modLane l f).win = s.win := rfl
@[simp] theorem State.modLane_storms (l : Nat) (f : Lane → Lane) : (s.modLane l f).storms = s.storms := rfl
@[simp] theorem State.modLane_unknown (l : Nat) (f : Lane → Lane) : (s.modLane l f).unknown = s.unknown := rfl
@[simp] theorem State.modLane_cascades (l : Nat) (f : Lane → Lane) : (s.modLane l f).cascades = s.cascades := rfl
@[simp] theorem State.modLane_cascadeOut (l : Nat) (f : Lane → Lane) : (s.modLane l f).cascadeOut = s.cascadeOut := rfl
@[simp] theorem State.modLane_cascadeIn (l : Nat) (f : Lane → Lane) : (s.modLane l f).cascadeIn = s.cascadeIn := rfl
@[simp] theorem State.modLane_car (l : Nat) (f : Lane → Lane) : (s.modLane l f).car = s.car := rfl
@[simp] theorem State.modLane_dl (l : Nat) (f : Lane → Lane) : (s.modLane l f).dl = s.dl := rfl
@[simp] theorem State.modLane_lanes (l : Nat) (f : Lane → Lane) : (s.modLane l f).lanes = lmod s.lanes l f := rfl
@[simp] theorem State.modLane_votes (l : Nat) (f : Lane → Lane) : (s.modLane l f).votes = s.votes := rfl
@[simp] theorem State.modLane_parked (l : Nat) (f : Lane → Lane) : (s.modLane l f).parked = s.parked := rfl
@[simp] theorem State.modLane_upHold (l : Nat) (f : Lane → Lane) : (s.modLane l f).upHold = s.upHold := rfl
@[simp] theorem State.modLane_nand (l : Nat) (f : Lane → Lane) : (s.modLane l f).nand = s.nand := rfl
@[simp] theorem State.modLane_nandProg (l : Nat) (f : Lane → Lane) : (s.modLane l f).nandProg = s.nandProg := rfl

/-! ### modLog: a log changed -/

@[simp] theorem State.modLog_pending (l : Nat) (f : EvLog → EvLog) : (s.modLog l f).pending = s.pending := rfl
@[simp] theorem State.modLog_free (l : Nat) (f : EvLog → EvLog) : (s.modLog l f).free = s.free := rfl
@[simp] theorem State.modLog_cat (l : Nat) (f : EvLog → EvLog) : (s.modLog l f).cat = s.cat := rfl
@[simp] theorem State.modLog_inForce (l : Nat) (f : EvLog → EvLog) : (s.modLog l f).inForce = s.inForce := rfl
@[simp] theorem State.modLog_stores (l : Nat) (f : EvLog → EvLog) : (s.modLog l f).stores = s.stores := rfl
@[simp] theorem State.modLog_time (l : Nat) (f : EvLog → EvLog) : (s.modLog l f).time = s.time := rfl
@[simp] theorem State.modLog_bat (l : Nat) (f : EvLog → EvLog) : (s.modLog l f).bat = s.bat := rfl
@[simp] theorem State.modLog_pins (l : Nat) (f : EvLog → EvLog) : (s.modLog l f).pins = s.pins := rfl
@[simp] theorem State.modLog_pw (l : Nat) (f : EvLog → EvLog) : (s.modLog l f).pw = s.pw := rfl
@[simp] theorem State.modLog_hif (l : Nat) (f : EvLog → EvLog) : (s.modLog l f).hif = s.hif := rfl
@[simp] theorem State.modLog_ports (l : Nat) (f : EvLog → EvLog) : (s.modLog l f).ports = s.ports := rfl
@[simp] theorem State.modLog_sessions (l : Nat) (f : EvLog → EvLog) : (s.modLog l f).sessions = s.sessions := rfl
@[simp] theorem State.modLog_cask (l : Nat) (f : EvLog → EvLog) : (s.modLog l f).cask = s.cask := rfl
@[simp] theorem State.modLog_mem (l : Nat) (f : EvLog → EvLog) : (s.modLog l f).mem = s.mem := rfl
@[simp] theorem State.modLog_fw (l : Nat) (f : EvLog → EvLog) : (s.modLog l f).fw = s.fw := rfl
@[simp] theorem State.modLog_hall (l : Nat) (f : EvLog → EvLog) : (s.modLog l f).hall = s.hall := rfl
@[simp] theorem State.modLog_gate (l : Nat) (f : EvLog → EvLog) : (s.modLog l f).gate = s.gate := rfl
@[simp] theorem State.modLog_pat (l : Nat) (f : EvLog → EvLog) : (s.modLog l f).pat = s.pat := rfl
@[simp] theorem State.modLog_loc (l : Nat) (f : EvLog → EvLog) : (s.modLog l f).loc = s.loc := rfl
@[simp] theorem State.modLog_freeze (l : Nat) (f : EvLog → EvLog) : (s.modLog l f).freeze = s.freeze := rfl
@[simp] theorem State.modLog_frames (l : Nat) (f : EvLog → EvLog) : (s.modLog l f).frames = s.frames := rfl
@[simp] theorem State.modLog_nextFrame (l : Nat) (f : EvLog → EvLog) : (s.modLog l f).nextFrame = s.nextFrame := rfl
@[simp] theorem State.modLog_win (l : Nat) (f : EvLog → EvLog) : (s.modLog l f).win = s.win := rfl
@[simp] theorem State.modLog_storms (l : Nat) (f : EvLog → EvLog) : (s.modLog l f).storms = s.storms := rfl
@[simp] theorem State.modLog_unknown (l : Nat) (f : EvLog → EvLog) : (s.modLog l f).unknown = s.unknown := rfl
@[simp] theorem State.modLog_cascades (l : Nat) (f : EvLog → EvLog) : (s.modLog l f).cascades = s.cascades := rfl
@[simp] theorem State.modLog_cascadeOut (l : Nat) (f : EvLog → EvLog) : (s.modLog l f).cascadeOut = s.cascadeOut := rfl
@[simp] theorem State.modLog_cascadeIn (l : Nat) (f : EvLog → EvLog) : (s.modLog l f).cascadeIn = s.cascadeIn := rfl
@[simp] theorem State.modLog_car (l : Nat) (f : EvLog → EvLog) : (s.modLog l f).car = s.car := rfl
@[simp] theorem State.modLog_dl (l : Nat) (f : EvLog → EvLog) : (s.modLog l f).dl = s.dl := rfl
@[simp] theorem State.modLog_lanes (l : Nat) (f : EvLog → EvLog) : (s.modLog l f).lanes = s.lanes := rfl
@[simp] theorem State.modLog_votes (l : Nat) (f : EvLog → EvLog) : (s.modLog l f).votes = s.votes := rfl
@[simp] theorem State.modLog_parked (l : Nat) (f : EvLog → EvLog) : (s.modLog l f).parked = s.parked := rfl
@[simp] theorem State.modLog_upHold (l : Nat) (f : EvLog → EvLog) : (s.modLog l f).upHold = s.upHold := rfl
@[simp] theorem State.modLog_nand (l : Nat) (f : EvLog → EvLog) : (s.modLog l f).nand = { s.nand with logs := lmod s.nand.logs l f } := rfl
@[simp] theorem State.modLog_nandProg (l : Nat) (f : EvLog → EvLog) : (s.modLog l f).nandProg = s.nandProg := rfl

/-! ### modRecord: a registry record changed -/

@[simp] theorem State.modRecord_pending (tag : Nat) (f : Record → Record) : (s.modRecord tag f).pending = s.pending := rfl
@[simp] theorem State.modRecord_free (tag : Nat) (f : Record → Record) : (s.modRecord tag f).free = s.free := rfl
@[simp] theorem State.modRecord_cat (tag : Nat) (f : Record → Record) : (s.modRecord tag f).cat = s.cat := rfl
@[simp] theorem State.modRecord_inForce (tag : Nat) (f : Record → Record) : (s.modRecord tag f).inForce = s.inForce := rfl
@[simp] theorem State.modRecord_stores (tag : Nat) (f : Record → Record) : (s.modRecord tag f).stores = s.stores := rfl
@[simp] theorem State.modRecord_time (tag : Nat) (f : Record → Record) : (s.modRecord tag f).time = s.time := rfl
@[simp] theorem State.modRecord_bat (tag : Nat) (f : Record → Record) : (s.modRecord tag f).bat = s.bat := rfl
@[simp] theorem State.modRecord_pins (tag : Nat) (f : Record → Record) : (s.modRecord tag f).pins = s.pins := rfl
@[simp] theorem State.modRecord_pw (tag : Nat) (f : Record → Record) : (s.modRecord tag f).pw = s.pw := rfl
@[simp] theorem State.modRecord_hif (tag : Nat) (f : Record → Record) : (s.modRecord tag f).hif = s.hif := rfl
@[simp] theorem State.modRecord_ports (tag : Nat) (f : Record → Record) : (s.modRecord tag f).ports = s.ports := rfl
@[simp] theorem State.modRecord_sessions (tag : Nat) (f : Record → Record) : (s.modRecord tag f).sessions = s.sessions := rfl
@[simp] theorem State.modRecord_cask (tag : Nat) (f : Record → Record) : (s.modRecord tag f).cask = s.cask := rfl
@[simp] theorem State.modRecord_mem (tag : Nat) (f : Record → Record) : (s.modRecord tag f).mem = s.mem := rfl
@[simp] theorem State.modRecord_fw (tag : Nat) (f : Record → Record) : (s.modRecord tag f).fw = s.fw := rfl
@[simp] theorem State.modRecord_hall (tag : Nat) (f : Record → Record) : (s.modRecord tag f).hall = s.hall := rfl
@[simp] theorem State.modRecord_gate (tag : Nat) (f : Record → Record) : (s.modRecord tag f).gate = s.gate := rfl
@[simp] theorem State.modRecord_pat (tag : Nat) (f : Record → Record) : (s.modRecord tag f).pat = s.pat := rfl
@[simp] theorem State.modRecord_loc (tag : Nat) (f : Record → Record) : (s.modRecord tag f).loc = s.loc := rfl
@[simp] theorem State.modRecord_freeze (tag : Nat) (f : Record → Record) : (s.modRecord tag f).freeze = s.freeze := rfl
@[simp] theorem State.modRecord_frames (tag : Nat) (f : Record → Record) : (s.modRecord tag f).frames = s.frames := rfl
@[simp] theorem State.modRecord_nextFrame (tag : Nat) (f : Record → Record) : (s.modRecord tag f).nextFrame = s.nextFrame := rfl
@[simp] theorem State.modRecord_win (tag : Nat) (f : Record → Record) : (s.modRecord tag f).win = s.win := rfl
@[simp] theorem State.modRecord_storms (tag : Nat) (f : Record → Record) : (s.modRecord tag f).storms = s.storms := rfl
@[simp] theorem State.modRecord_unknown (tag : Nat) (f : Record → Record) : (s.modRecord tag f).unknown = s.unknown := rfl
@[simp] theorem State.modRecord_cascades (tag : Nat) (f : Record → Record) : (s.modRecord tag f).cascades = s.cascades := rfl
@[simp] theorem State.modRecord_cascadeOut (tag : Nat) (f : Record → Record) : (s.modRecord tag f).cascadeOut = s.cascadeOut := rfl
@[simp] theorem State.modRecord_cascadeIn (tag : Nat) (f : Record → Record) : (s.modRecord tag f).cascadeIn = s.cascadeIn := rfl
@[simp] theorem State.modRecord_car (tag : Nat) (f : Record → Record) : (s.modRecord tag f).car = s.car := rfl
@[simp] theorem State.modRecord_dl (tag : Nat) (f : Record → Record) : (s.modRecord tag f).dl = s.dl := rfl
@[simp] theorem State.modRecord_lanes (tag : Nat) (f : Record → Record) : (s.modRecord tag f).lanes = s.lanes := rfl
@[simp] theorem State.modRecord_votes (tag : Nat) (f : Record → Record) : (s.modRecord tag f).votes = s.votes := rfl
@[simp] theorem State.modRecord_parked (tag : Nat) (f : Record → Record) : (s.modRecord tag f).parked = s.parked := rfl
@[simp] theorem State.modRecord_upHold (tag : Nat) (f : Record → Record) : (s.modRecord tag f).upHold = s.upHold := rfl
@[simp] theorem State.modRecord_nand (tag : Nat) (f : Record → Record) : (s.modRecord tag f).nand = { s.nand with recs := tmod s.nand.recs tag f } := rfl
@[simp] theorem State.modRecord_nandProg (tag : Nat) (f : Record → Record) : (s.modRecord tag f).nandProg = s.nandProg := rfl

/-! ### modBill: a billing state changed -/

@[simp] theorem State.modBill_pending (tag : Nat) (f : Bill → Bill) : (s.modBill tag f).pending = s.pending := rfl
@[simp] theorem State.modBill_free (tag : Nat) (f : Bill → Bill) : (s.modBill tag f).free = s.free := rfl
@[simp] theorem State.modBill_cat (tag : Nat) (f : Bill → Bill) : (s.modBill tag f).cat = s.cat := rfl
@[simp] theorem State.modBill_inForce (tag : Nat) (f : Bill → Bill) : (s.modBill tag f).inForce = s.inForce := rfl
@[simp] theorem State.modBill_stores (tag : Nat) (f : Bill → Bill) : (s.modBill tag f).stores = s.stores := rfl
@[simp] theorem State.modBill_time (tag : Nat) (f : Bill → Bill) : (s.modBill tag f).time = s.time := rfl
@[simp] theorem State.modBill_bat (tag : Nat) (f : Bill → Bill) : (s.modBill tag f).bat = s.bat := rfl
@[simp] theorem State.modBill_pins (tag : Nat) (f : Bill → Bill) : (s.modBill tag f).pins = s.pins := rfl
@[simp] theorem State.modBill_pw (tag : Nat) (f : Bill → Bill) : (s.modBill tag f).pw = s.pw := rfl
@[simp] theorem State.modBill_hif (tag : Nat) (f : Bill → Bill) : (s.modBill tag f).hif = s.hif := rfl
@[simp] theorem State.modBill_ports (tag : Nat) (f : Bill → Bill) : (s.modBill tag f).ports = s.ports := rfl
@[simp] theorem State.modBill_sessions (tag : Nat) (f : Bill → Bill) : (s.modBill tag f).sessions = s.sessions := rfl
@[simp] theorem State.modBill_cask (tag : Nat) (f : Bill → Bill) : (s.modBill tag f).cask = s.cask := rfl
@[simp] theorem State.modBill_mem (tag : Nat) (f : Bill → Bill) : (s.modBill tag f).mem = s.mem := rfl
@[simp] theorem State.modBill_fw (tag : Nat) (f : Bill → Bill) : (s.modBill tag f).fw = s.fw := rfl
@[simp] theorem State.modBill_hall (tag : Nat) (f : Bill → Bill) : (s.modBill tag f).hall = s.hall := rfl
@[simp] theorem State.modBill_gate (tag : Nat) (f : Bill → Bill) : (s.modBill tag f).gate = s.gate := rfl
@[simp] theorem State.modBill_pat (tag : Nat) (f : Bill → Bill) : (s.modBill tag f).pat = s.pat := rfl
@[simp] theorem State.modBill_loc (tag : Nat) (f : Bill → Bill) : (s.modBill tag f).loc = s.loc := rfl
@[simp] theorem State.modBill_freeze (tag : Nat) (f : Bill → Bill) : (s.modBill tag f).freeze = s.freeze := rfl
@[simp] theorem State.modBill_frames (tag : Nat) (f : Bill → Bill) : (s.modBill tag f).frames = s.frames := rfl
@[simp] theorem State.modBill_nextFrame (tag : Nat) (f : Bill → Bill) : (s.modBill tag f).nextFrame = s.nextFrame := rfl
@[simp] theorem State.modBill_win (tag : Nat) (f : Bill → Bill) : (s.modBill tag f).win = s.win := rfl
@[simp] theorem State.modBill_storms (tag : Nat) (f : Bill → Bill) : (s.modBill tag f).storms = s.storms := rfl
@[simp] theorem State.modBill_unknown (tag : Nat) (f : Bill → Bill) : (s.modBill tag f).unknown = s.unknown := rfl
@[simp] theorem State.modBill_cascades (tag : Nat) (f : Bill → Bill) : (s.modBill tag f).cascades = s.cascades := rfl
@[simp] theorem State.modBill_cascadeOut (tag : Nat) (f : Bill → Bill) : (s.modBill tag f).cascadeOut = s.cascadeOut := rfl
@[simp] theorem State.modBill_cascadeIn (tag : Nat) (f : Bill → Bill) : (s.modBill tag f).cascadeIn = s.cascadeIn := rfl
@[simp] theorem State.modBill_car (tag : Nat) (f : Bill → Bill) : (s.modBill tag f).car = s.car := rfl
@[simp] theorem State.modBill_dl (tag : Nat) (f : Bill → Bill) : (s.modBill tag f).dl = s.dl := rfl
@[simp] theorem State.modBill_lanes (tag : Nat) (f : Bill → Bill) : (s.modBill tag f).lanes = s.lanes := rfl
@[simp] theorem State.modBill_votes (tag : Nat) (f : Bill → Bill) : (s.modBill tag f).votes = s.votes := rfl
@[simp] theorem State.modBill_parked (tag : Nat) (f : Bill → Bill) : (s.modBill tag f).parked = s.parked := rfl
@[simp] theorem State.modBill_upHold (tag : Nat) (f : Bill → Bill) : (s.modBill tag f).upHold = s.upHold := rfl
@[simp] theorem State.modBill_nand (tag : Nat) (f : Bill → Bill) : (s.modBill tag f).nand = { s.nand with bills := tmod s.nand.bills tag f } := rfl
@[simp] theorem State.modBill_nandProg (tag : Nat) (f : Bill → Bill) : (s.modBill tag f).nandProg = s.nandProg := rfl

/-! ### modNode: a topology node changed -/

@[simp] theorem State.modNode_pending (n : Nat) (f : Node → Node) : (s.modNode n f).pending = s.pending := rfl
@[simp] theorem State.modNode_free (n : Nat) (f : Node → Node) : (s.modNode n f).free = s.free := rfl
@[simp] theorem State.modNode_cat (n : Nat) (f : Node → Node) : (s.modNode n f).cat = s.cat := rfl
@[simp] theorem State.modNode_inForce (n : Nat) (f : Node → Node) : (s.modNode n f).inForce = s.inForce := rfl
@[simp] theorem State.modNode_stores (n : Nat) (f : Node → Node) : (s.modNode n f).stores = s.stores := rfl
@[simp] theorem State.modNode_time (n : Nat) (f : Node → Node) : (s.modNode n f).time = s.time := rfl
@[simp] theorem State.modNode_bat (n : Nat) (f : Node → Node) : (s.modNode n f).bat = s.bat := rfl
@[simp] theorem State.modNode_pins (n : Nat) (f : Node → Node) : (s.modNode n f).pins = s.pins := rfl
@[simp] theorem State.modNode_pw (n : Nat) (f : Node → Node) : (s.modNode n f).pw = s.pw := rfl
@[simp] theorem State.modNode_hif (n : Nat) (f : Node → Node) : (s.modNode n f).hif = s.hif := rfl
@[simp] theorem State.modNode_ports (n : Nat) (f : Node → Node) : (s.modNode n f).ports = s.ports := rfl
@[simp] theorem State.modNode_sessions (n : Nat) (f : Node → Node) : (s.modNode n f).sessions = s.sessions := rfl
@[simp] theorem State.modNode_cask (n : Nat) (f : Node → Node) : (s.modNode n f).cask = s.cask := rfl
@[simp] theorem State.modNode_mem (n : Nat) (f : Node → Node) : (s.modNode n f).mem = s.mem := rfl
@[simp] theorem State.modNode_fw (n : Nat) (f : Node → Node) : (s.modNode n f).fw = s.fw := rfl
@[simp] theorem State.modNode_hall (n : Nat) (f : Node → Node) : (s.modNode n f).hall = s.hall := rfl
@[simp] theorem State.modNode_gate (n : Nat) (f : Node → Node) : (s.modNode n f).gate = s.gate := rfl
@[simp] theorem State.modNode_pat (n : Nat) (f : Node → Node) : (s.modNode n f).pat = s.pat := rfl
@[simp] theorem State.modNode_loc (n : Nat) (f : Node → Node) : (s.modNode n f).loc = s.loc := rfl
@[simp] theorem State.modNode_freeze (n : Nat) (f : Node → Node) : (s.modNode n f).freeze = s.freeze := rfl
@[simp] theorem State.modNode_frames (n : Nat) (f : Node → Node) : (s.modNode n f).frames = s.frames := rfl
@[simp] theorem State.modNode_nextFrame (n : Nat) (f : Node → Node) : (s.modNode n f).nextFrame = s.nextFrame := rfl
@[simp] theorem State.modNode_win (n : Nat) (f : Node → Node) : (s.modNode n f).win = s.win := rfl
@[simp] theorem State.modNode_storms (n : Nat) (f : Node → Node) : (s.modNode n f).storms = s.storms := rfl
@[simp] theorem State.modNode_unknown (n : Nat) (f : Node → Node) : (s.modNode n f).unknown = s.unknown := rfl
@[simp] theorem State.modNode_cascades (n : Nat) (f : Node → Node) : (s.modNode n f).cascades = s.cascades := rfl
@[simp] theorem State.modNode_cascadeOut (n : Nat) (f : Node → Node) : (s.modNode n f).cascadeOut = s.cascadeOut := rfl
@[simp] theorem State.modNode_cascadeIn (n : Nat) (f : Node → Node) : (s.modNode n f).cascadeIn = s.cascadeIn := rfl
@[simp] theorem State.modNode_car (n : Nat) (f : Node → Node) : (s.modNode n f).car = s.car := rfl
@[simp] theorem State.modNode_dl (n : Nat) (f : Node → Node) : (s.modNode n f).dl = s.dl := rfl
@[simp] theorem State.modNode_lanes (n : Nat) (f : Node → Node) : (s.modNode n f).lanes = s.lanes := rfl
@[simp] theorem State.modNode_votes (n : Nat) (f : Node → Node) : (s.modNode n f).votes = s.votes := rfl
@[simp] theorem State.modNode_parked (n : Nat) (f : Node → Node) : (s.modNode n f).parked = s.parked := rfl
@[simp] theorem State.modNode_upHold (n : Nat) (f : Node → Node) : (s.modNode n f).upHold = s.upHold := rfl
@[simp] theorem State.modNode_nand (n : Nat) (f : Node → Node) : (s.modNode n f).nand = { s.nand with nodes := tmod s.nand.nodes n f } := rfl
@[simp] theorem State.modNode_nandProg (n : Nat) (f : Node → Node) : (s.modNode n f).nandProg = s.nandProg := rfl

/-! ### modFrame: a frame on the path changed -/

@[simp] theorem State.modFrame_pending (id : Nat) (f : Frame → Frame) : (s.modFrame id f).pending = s.pending := rfl
@[simp] theorem State.modFrame_free (id : Nat) (f : Frame → Frame) : (s.modFrame id f).free = s.free := rfl
@[simp] theorem State.modFrame_cat (id : Nat) (f : Frame → Frame) : (s.modFrame id f).cat = s.cat := rfl
@[simp] theorem State.modFrame_inForce (id : Nat) (f : Frame → Frame) : (s.modFrame id f).inForce = s.inForce := rfl
@[simp] theorem State.modFrame_stores (id : Nat) (f : Frame → Frame) : (s.modFrame id f).stores = s.stores := rfl
@[simp] theorem State.modFrame_time (id : Nat) (f : Frame → Frame) : (s.modFrame id f).time = s.time := rfl
@[simp] theorem State.modFrame_bat (id : Nat) (f : Frame → Frame) : (s.modFrame id f).bat = s.bat := rfl
@[simp] theorem State.modFrame_pins (id : Nat) (f : Frame → Frame) : (s.modFrame id f).pins = s.pins := rfl
@[simp] theorem State.modFrame_pw (id : Nat) (f : Frame → Frame) : (s.modFrame id f).pw = s.pw := rfl
@[simp] theorem State.modFrame_hif (id : Nat) (f : Frame → Frame) : (s.modFrame id f).hif = s.hif := rfl
@[simp] theorem State.modFrame_ports (id : Nat) (f : Frame → Frame) : (s.modFrame id f).ports = s.ports := rfl
@[simp] theorem State.modFrame_sessions (id : Nat) (f : Frame → Frame) : (s.modFrame id f).sessions = s.sessions := rfl
@[simp] theorem State.modFrame_cask (id : Nat) (f : Frame → Frame) : (s.modFrame id f).cask = s.cask := rfl
@[simp] theorem State.modFrame_mem (id : Nat) (f : Frame → Frame) : (s.modFrame id f).mem = s.mem := rfl
@[simp] theorem State.modFrame_fw (id : Nat) (f : Frame → Frame) : (s.modFrame id f).fw = s.fw := rfl
@[simp] theorem State.modFrame_hall (id : Nat) (f : Frame → Frame) : (s.modFrame id f).hall = s.hall := rfl
@[simp] theorem State.modFrame_gate (id : Nat) (f : Frame → Frame) : (s.modFrame id f).gate = s.gate := rfl
@[simp] theorem State.modFrame_pat (id : Nat) (f : Frame → Frame) : (s.modFrame id f).pat = s.pat := rfl
@[simp] theorem State.modFrame_loc (id : Nat) (f : Frame → Frame) : (s.modFrame id f).loc = s.loc := rfl
@[simp] theorem State.modFrame_freeze (id : Nat) (f : Frame → Frame) : (s.modFrame id f).freeze = s.freeze := rfl
@[simp] theorem State.modFrame_frames (id : Nat) (f : Frame → Frame) : (s.modFrame id f).frames = s.frames.map fun (x : Frame) => if x.id == id then f x else x := rfl
@[simp] theorem State.modFrame_nextFrame (id : Nat) (f : Frame → Frame) : (s.modFrame id f).nextFrame = s.nextFrame := rfl
@[simp] theorem State.modFrame_win (id : Nat) (f : Frame → Frame) : (s.modFrame id f).win = s.win := rfl
@[simp] theorem State.modFrame_storms (id : Nat) (f : Frame → Frame) : (s.modFrame id f).storms = s.storms := rfl
@[simp] theorem State.modFrame_unknown (id : Nat) (f : Frame → Frame) : (s.modFrame id f).unknown = s.unknown := rfl
@[simp] theorem State.modFrame_cascades (id : Nat) (f : Frame → Frame) : (s.modFrame id f).cascades = s.cascades := rfl
@[simp] theorem State.modFrame_cascadeOut (id : Nat) (f : Frame → Frame) : (s.modFrame id f).cascadeOut = s.cascadeOut := rfl
@[simp] theorem State.modFrame_cascadeIn (id : Nat) (f : Frame → Frame) : (s.modFrame id f).cascadeIn = s.cascadeIn := rfl
@[simp] theorem State.modFrame_car (id : Nat) (f : Frame → Frame) : (s.modFrame id f).car = s.car := rfl
@[simp] theorem State.modFrame_dl (id : Nat) (f : Frame → Frame) : (s.modFrame id f).dl = s.dl := rfl
@[simp] theorem State.modFrame_lanes (id : Nat) (f : Frame → Frame) : (s.modFrame id f).lanes = s.lanes := rfl
@[simp] theorem State.modFrame_votes (id : Nat) (f : Frame → Frame) : (s.modFrame id f).votes = s.votes := rfl
@[simp] theorem State.modFrame_parked (id : Nat) (f : Frame → Frame) : (s.modFrame id f).parked = s.parked := rfl
@[simp] theorem State.modFrame_upHold (id : Nat) (f : Frame → Frame) : (s.modFrame id f).upHold = s.upHold := rfl
@[simp] theorem State.modFrame_nand (id : Nat) (f : Frame → Frame) : (s.modFrame id f).nand = s.nand := rfl
@[simp] theorem State.modFrame_nandProg (id : Nat) (f : Frame → Frame) : (s.modFrame id f).nandProg = s.nandProg := rfl

/-! ### modDemod: a demodulator changed -/

@[simp] theorem State.modDemod_pending (id : Nat) (f : Demod → Demod) : (s.modDemod id f).pending = s.pending := rfl
@[simp] theorem State.modDemod_free (id : Nat) (f : Demod → Demod) : (s.modDemod id f).free = s.free := rfl
@[simp] theorem State.modDemod_cat (id : Nat) (f : Demod → Demod) : (s.modDemod id f).cat = s.cat := rfl
@[simp] theorem State.modDemod_inForce (id : Nat) (f : Demod → Demod) : (s.modDemod id f).inForce = s.inForce := rfl
@[simp] theorem State.modDemod_stores (id : Nat) (f : Demod → Demod) : (s.modDemod id f).stores = s.stores := rfl
@[simp] theorem State.modDemod_time (id : Nat) (f : Demod → Demod) : (s.modDemod id f).time = s.time := rfl
@[simp] theorem State.modDemod_bat (id : Nat) (f : Demod → Demod) : (s.modDemod id f).bat = s.bat := rfl
@[simp] theorem State.modDemod_pins (id : Nat) (f : Demod → Demod) : (s.modDemod id f).pins = s.pins := rfl
@[simp] theorem State.modDemod_pw (id : Nat) (f : Demod → Demod) : (s.modDemod id f).pw = s.pw := rfl
@[simp] theorem State.modDemod_hif (id : Nat) (f : Demod → Demod) : (s.modDemod id f).hif = s.hif := rfl
@[simp] theorem State.modDemod_ports (id : Nat) (f : Demod → Demod) : (s.modDemod id f).ports = s.ports := rfl
@[simp] theorem State.modDemod_sessions (id : Nat) (f : Demod → Demod) : (s.modDemod id f).sessions = s.sessions := rfl
@[simp] theorem State.modDemod_cask (id : Nat) (f : Demod → Demod) : (s.modDemod id f).cask = s.cask := rfl
@[simp] theorem State.modDemod_mem (id : Nat) (f : Demod → Demod) : (s.modDemod id f).mem = s.mem := rfl
@[simp] theorem State.modDemod_fw (id : Nat) (f : Demod → Demod) : (s.modDemod id f).fw = s.fw := rfl
@[simp] theorem State.modDemod_hall (id : Nat) (f : Demod → Demod) : (s.modDemod id f).hall = s.hall := rfl
@[simp] theorem State.modDemod_gate (id : Nat) (f : Demod → Demod) : (s.modDemod id f).gate = s.gate := rfl
@[simp] theorem State.modDemod_pat (id : Nat) (f : Demod → Demod) : (s.modDemod id f).pat = s.pat := rfl
@[simp] theorem State.modDemod_loc (id : Nat) (f : Demod → Demod) : (s.modDemod id f).loc = s.loc := rfl
@[simp] theorem State.modDemod_freeze (id : Nat) (f : Demod → Demod) : (s.modDemod id f).freeze = s.freeze := rfl
@[simp] theorem State.modDemod_frames (id : Nat) (f : Demod → Demod) : (s.modDemod id f).frames = s.frames := rfl
@[simp] theorem State.modDemod_nextFrame (id : Nat) (f : Demod → Demod) : (s.modDemod id f).nextFrame = s.nextFrame := rfl
@[simp] theorem State.modDemod_win (id : Nat) (f : Demod → Demod) : (s.modDemod id f).win = s.win := rfl
@[simp] theorem State.modDemod_storms (id : Nat) (f : Demod → Demod) : (s.modDemod id f).storms = s.storms := rfl
@[simp] theorem State.modDemod_unknown (id : Nat) (f : Demod → Demod) : (s.modDemod id f).unknown = s.unknown := rfl
@[simp] theorem State.modDemod_cascades (id : Nat) (f : Demod → Demod) : (s.modDemod id f).cascades = s.cascades := rfl
@[simp] theorem State.modDemod_cascadeOut (id : Nat) (f : Demod → Demod) : (s.modDemod id f).cascadeOut = s.cascadeOut := rfl
@[simp] theorem State.modDemod_cascadeIn (id : Nat) (f : Demod → Demod) : (s.modDemod id f).cascadeIn = s.cascadeIn := rfl
@[simp] theorem State.modDemod_car (id : Nat) (f : Demod → Demod) : (s.modDemod id f).car = { s.car with demods := s.car.demods.map fun d => if d.id == id then f d else d } := rfl
@[simp] theorem State.modDemod_dl (id : Nat) (f : Demod → Demod) : (s.modDemod id f).dl = s.dl := rfl
@[simp] theorem State.modDemod_lanes (id : Nat) (f : Demod → Demod) : (s.modDemod id f).lanes = s.lanes := rfl
@[simp] theorem State.modDemod_votes (id : Nat) (f : Demod → Demod) : (s.modDemod id f).votes = s.votes := rfl
@[simp] theorem State.modDemod_parked (id : Nat) (f : Demod → Demod) : (s.modDemod id f).parked = s.parked := rfl
@[simp] theorem State.modDemod_upHold (id : Nat) (f : Demod → Demod) : (s.modDemod id f).upHold = s.upHold := rfl
@[simp] theorem State.modDemod_nand (id : Nat) (f : Demod → Demod) : (s.modDemod id f).nand = s.nand := rfl
@[simp] theorem State.modDemod_nandProg (id : Nat) (f : Demod → Demod) : (s.modDemod id f).nandProg = s.nandProg := rfl

/-! ### modMod: a modulator changed -/

@[simp] theorem State.modMod_pending (p : Nat) (f : Modulator → Modulator) : (s.modMod p f).pending = s.pending := rfl
@[simp] theorem State.modMod_free (p : Nat) (f : Modulator → Modulator) : (s.modMod p f).free = s.free := rfl
@[simp] theorem State.modMod_cat (p : Nat) (f : Modulator → Modulator) : (s.modMod p f).cat = s.cat := rfl
@[simp] theorem State.modMod_inForce (p : Nat) (f : Modulator → Modulator) : (s.modMod p f).inForce = s.inForce := rfl
@[simp] theorem State.modMod_stores (p : Nat) (f : Modulator → Modulator) : (s.modMod p f).stores = s.stores := rfl
@[simp] theorem State.modMod_time (p : Nat) (f : Modulator → Modulator) : (s.modMod p f).time = s.time := rfl
@[simp] theorem State.modMod_bat (p : Nat) (f : Modulator → Modulator) : (s.modMod p f).bat = s.bat := rfl
@[simp] theorem State.modMod_pins (p : Nat) (f : Modulator → Modulator) : (s.modMod p f).pins = s.pins := rfl
@[simp] theorem State.modMod_pw (p : Nat) (f : Modulator → Modulator) : (s.modMod p f).pw = s.pw := rfl
@[simp] theorem State.modMod_hif (p : Nat) (f : Modulator → Modulator) : (s.modMod p f).hif = s.hif := rfl
@[simp] theorem State.modMod_ports (p : Nat) (f : Modulator → Modulator) : (s.modMod p f).ports = s.ports := rfl
@[simp] theorem State.modMod_sessions (p : Nat) (f : Modulator → Modulator) : (s.modMod p f).sessions = s.sessions := rfl
@[simp] theorem State.modMod_cask (p : Nat) (f : Modulator → Modulator) : (s.modMod p f).cask = s.cask := rfl
@[simp] theorem State.modMod_mem (p : Nat) (f : Modulator → Modulator) : (s.modMod p f).mem = s.mem := rfl
@[simp] theorem State.modMod_fw (p : Nat) (f : Modulator → Modulator) : (s.modMod p f).fw = s.fw := rfl
@[simp] theorem State.modMod_hall (p : Nat) (f : Modulator → Modulator) : (s.modMod p f).hall = s.hall := rfl
@[simp] theorem State.modMod_gate (p : Nat) (f : Modulator → Modulator) : (s.modMod p f).gate = s.gate := rfl
@[simp] theorem State.modMod_pat (p : Nat) (f : Modulator → Modulator) : (s.modMod p f).pat = s.pat := rfl
@[simp] theorem State.modMod_loc (p : Nat) (f : Modulator → Modulator) : (s.modMod p f).loc = s.loc := rfl
@[simp] theorem State.modMod_freeze (p : Nat) (f : Modulator → Modulator) : (s.modMod p f).freeze = s.freeze := rfl
@[simp] theorem State.modMod_frames (p : Nat) (f : Modulator → Modulator) : (s.modMod p f).frames = s.frames := rfl
@[simp] theorem State.modMod_nextFrame (p : Nat) (f : Modulator → Modulator) : (s.modMod p f).nextFrame = s.nextFrame := rfl
@[simp] theorem State.modMod_win (p : Nat) (f : Modulator → Modulator) : (s.modMod p f).win = s.win := rfl
@[simp] theorem State.modMod_storms (p : Nat) (f : Modulator → Modulator) : (s.modMod p f).storms = s.storms := rfl
@[simp] theorem State.modMod_unknown (p : Nat) (f : Modulator → Modulator) : (s.modMod p f).unknown = s.unknown := rfl
@[simp] theorem State.modMod_cascades (p : Nat) (f : Modulator → Modulator) : (s.modMod p f).cascades = s.cascades := rfl
@[simp] theorem State.modMod_cascadeOut (p : Nat) (f : Modulator → Modulator) : (s.modMod p f).cascadeOut = s.cascadeOut := rfl
@[simp] theorem State.modMod_cascadeIn (p : Nat) (f : Modulator → Modulator) : (s.modMod p f).cascadeIn = s.cascadeIn := rfl
@[simp] theorem State.modMod_car (p : Nat) (f : Modulator → Modulator) : (s.modMod p f).car = s.car := rfl
@[simp] theorem State.modMod_dl (p : Nat) (f : Modulator → Modulator) : (s.modMod p f).dl = { s.dl with mods := lmod s.dl.mods p f } := rfl
@[simp] theorem State.modMod_lanes (p : Nat) (f : Modulator → Modulator) : (s.modMod p f).lanes = s.lanes := rfl
@[simp] theorem State.modMod_votes (p : Nat) (f : Modulator → Modulator) : (s.modMod p f).votes = s.votes := rfl
@[simp] theorem State.modMod_parked (p : Nat) (f : Modulator → Modulator) : (s.modMod p f).parked = s.parked := rfl
@[simp] theorem State.modMod_upHold (p : Nat) (f : Modulator → Modulator) : (s.modMod p f).upHold = s.upHold := rfl
@[simp] theorem State.modMod_nand (p : Nat) (f : Modulator → Modulator) : (s.modMod p f).nand = s.nand := rfl
@[simp] theorem State.modMod_nandProg (p : Nat) (f : Modulator → Modulator) : (s.modMod p f).nandProg = s.nandProg := rfl

/-! ### modSource: a tamper source changed -/

@[simp] theorem State.modSource_pending (n : Nat) (f : Source → Source) : (s.modSource n f).pending = s.pending := rfl
@[simp] theorem State.modSource_free (n : Nat) (f : Source → Source) : (s.modSource n f).free = s.free := rfl
@[simp] theorem State.modSource_cat (n : Nat) (f : Source → Source) : (s.modSource n f).cat = s.cat := rfl
@[simp] theorem State.modSource_inForce (n : Nat) (f : Source → Source) : (s.modSource n f).inForce = s.inForce := rfl
@[simp] theorem State.modSource_stores (n : Nat) (f : Source → Source) : (s.modSource n f).stores = s.stores := rfl
@[simp] theorem State.modSource_time (n : Nat) (f : Source → Source) : (s.modSource n f).time = s.time := rfl
@[simp] theorem State.modSource_bat (n : Nat) (f : Source → Source) : (s.modSource n f).bat = { s.bat with sources := lmod s.bat.sources n f } := rfl
@[simp] theorem State.modSource_pins (n : Nat) (f : Source → Source) : (s.modSource n f).pins = s.pins := rfl
@[simp] theorem State.modSource_pw (n : Nat) (f : Source → Source) : (s.modSource n f).pw = s.pw := rfl
@[simp] theorem State.modSource_hif (n : Nat) (f : Source → Source) : (s.modSource n f).hif = s.hif := rfl
@[simp] theorem State.modSource_ports (n : Nat) (f : Source → Source) : (s.modSource n f).ports = s.ports := rfl
@[simp] theorem State.modSource_sessions (n : Nat) (f : Source → Source) : (s.modSource n f).sessions = s.sessions := rfl
@[simp] theorem State.modSource_cask (n : Nat) (f : Source → Source) : (s.modSource n f).cask = s.cask := rfl
@[simp] theorem State.modSource_mem (n : Nat) (f : Source → Source) : (s.modSource n f).mem = s.mem := rfl
@[simp] theorem State.modSource_fw (n : Nat) (f : Source → Source) : (s.modSource n f).fw = s.fw := rfl
@[simp] theorem State.modSource_hall (n : Nat) (f : Source → Source) : (s.modSource n f).hall = s.hall := rfl
@[simp] theorem State.modSource_gate (n : Nat) (f : Source → Source) : (s.modSource n f).gate = s.gate := rfl
@[simp] theorem State.modSource_pat (n : Nat) (f : Source → Source) : (s.modSource n f).pat = s.pat := rfl
@[simp] theorem State.modSource_loc (n : Nat) (f : Source → Source) : (s.modSource n f).loc = s.loc := rfl
@[simp] theorem State.modSource_freeze (n : Nat) (f : Source → Source) : (s.modSource n f).freeze = s.freeze := rfl
@[simp] theorem State.modSource_frames (n : Nat) (f : Source → Source) : (s.modSource n f).frames = s.frames := rfl
@[simp] theorem State.modSource_nextFrame (n : Nat) (f : Source → Source) : (s.modSource n f).nextFrame = s.nextFrame := rfl
@[simp] theorem State.modSource_win (n : Nat) (f : Source → Source) : (s.modSource n f).win = s.win := rfl
@[simp] theorem State.modSource_storms (n : Nat) (f : Source → Source) : (s.modSource n f).storms = s.storms := rfl
@[simp] theorem State.modSource_unknown (n : Nat) (f : Source → Source) : (s.modSource n f).unknown = s.unknown := rfl
@[simp] theorem State.modSource_cascades (n : Nat) (f : Source → Source) : (s.modSource n f).cascades = s.cascades := rfl
@[simp] theorem State.modSource_cascadeOut (n : Nat) (f : Source → Source) : (s.modSource n f).cascadeOut = s.cascadeOut := rfl
@[simp] theorem State.modSource_cascadeIn (n : Nat) (f : Source → Source) : (s.modSource n f).cascadeIn = s.cascadeIn := rfl
@[simp] theorem State.modSource_car (n : Nat) (f : Source → Source) : (s.modSource n f).car = s.car := rfl
@[simp] theorem State.modSource_dl (n : Nat) (f : Source → Source) : (s.modSource n f).dl = s.dl := rfl
@[simp] theorem State.modSource_lanes (n : Nat) (f : Source → Source) : (s.modSource n f).lanes = s.lanes := rfl
@[simp] theorem State.modSource_votes (n : Nat) (f : Source → Source) : (s.modSource n f).votes = s.votes := rfl
@[simp] theorem State.modSource_parked (n : Nat) (f : Source → Source) : (s.modSource n f).parked = s.parked := rfl
@[simp] theorem State.modSource_upHold (n : Nat) (f : Source → Source) : (s.modSource n f).upHold = s.upHold := rfl
@[simp] theorem State.modSource_nand (n : Nat) (f : Source → Source) : (s.modSource n f).nand = s.nand := rfl
@[simp] theorem State.modSource_nandProg (n : Nat) (f : Source → Source) : (s.modSource n f).nandProg = s.nandProg := rfl

/-! ### modPtp: a PTP port changed -/

@[simp] theorem State.modPtp_pending (p : Nat) (f : PtpPort → PtpPort) : (s.modPtp p f).pending = s.pending := rfl
@[simp] theorem State.modPtp_free (p : Nat) (f : PtpPort → PtpPort) : (s.modPtp p f).free = s.free := rfl
@[simp] theorem State.modPtp_cat (p : Nat) (f : PtpPort → PtpPort) : (s.modPtp p f).cat = s.cat := rfl
@[simp] theorem State.modPtp_inForce (p : Nat) (f : PtpPort → PtpPort) : (s.modPtp p f).inForce = s.inForce := rfl
@[simp] theorem State.modPtp_stores (p : Nat) (f : PtpPort → PtpPort) : (s.modPtp p f).stores = s.stores := rfl
@[simp] theorem State.modPtp_time (p : Nat) (f : PtpPort → PtpPort) : (s.modPtp p f).time = { s.time with ptp := lmod s.time.ptp p f } := rfl
@[simp] theorem State.modPtp_bat (p : Nat) (f : PtpPort → PtpPort) : (s.modPtp p f).bat = s.bat := rfl
@[simp] theorem State.modPtp_pins (p : Nat) (f : PtpPort → PtpPort) : (s.modPtp p f).pins = s.pins := rfl
@[simp] theorem State.modPtp_pw (p : Nat) (f : PtpPort → PtpPort) : (s.modPtp p f).pw = s.pw := rfl
@[simp] theorem State.modPtp_hif (p : Nat) (f : PtpPort → PtpPort) : (s.modPtp p f).hif = s.hif := rfl
@[simp] theorem State.modPtp_ports (p : Nat) (f : PtpPort → PtpPort) : (s.modPtp p f).ports = s.ports := rfl
@[simp] theorem State.modPtp_sessions (p : Nat) (f : PtpPort → PtpPort) : (s.modPtp p f).sessions = s.sessions := rfl
@[simp] theorem State.modPtp_cask (p : Nat) (f : PtpPort → PtpPort) : (s.modPtp p f).cask = s.cask := rfl
@[simp] theorem State.modPtp_mem (p : Nat) (f : PtpPort → PtpPort) : (s.modPtp p f).mem = s.mem := rfl
@[simp] theorem State.modPtp_fw (p : Nat) (f : PtpPort → PtpPort) : (s.modPtp p f).fw = s.fw := rfl
@[simp] theorem State.modPtp_hall (p : Nat) (f : PtpPort → PtpPort) : (s.modPtp p f).hall = s.hall := rfl
@[simp] theorem State.modPtp_gate (p : Nat) (f : PtpPort → PtpPort) : (s.modPtp p f).gate = s.gate := rfl
@[simp] theorem State.modPtp_pat (p : Nat) (f : PtpPort → PtpPort) : (s.modPtp p f).pat = s.pat := rfl
@[simp] theorem State.modPtp_loc (p : Nat) (f : PtpPort → PtpPort) : (s.modPtp p f).loc = s.loc := rfl
@[simp] theorem State.modPtp_freeze (p : Nat) (f : PtpPort → PtpPort) : (s.modPtp p f).freeze = s.freeze := rfl
@[simp] theorem State.modPtp_frames (p : Nat) (f : PtpPort → PtpPort) : (s.modPtp p f).frames = s.frames := rfl
@[simp] theorem State.modPtp_nextFrame (p : Nat) (f : PtpPort → PtpPort) : (s.modPtp p f).nextFrame = s.nextFrame := rfl
@[simp] theorem State.modPtp_win (p : Nat) (f : PtpPort → PtpPort) : (s.modPtp p f).win = s.win := rfl
@[simp] theorem State.modPtp_storms (p : Nat) (f : PtpPort → PtpPort) : (s.modPtp p f).storms = s.storms := rfl
@[simp] theorem State.modPtp_unknown (p : Nat) (f : PtpPort → PtpPort) : (s.modPtp p f).unknown = s.unknown := rfl
@[simp] theorem State.modPtp_cascades (p : Nat) (f : PtpPort → PtpPort) : (s.modPtp p f).cascades = s.cascades := rfl
@[simp] theorem State.modPtp_cascadeOut (p : Nat) (f : PtpPort → PtpPort) : (s.modPtp p f).cascadeOut = s.cascadeOut := rfl
@[simp] theorem State.modPtp_cascadeIn (p : Nat) (f : PtpPort → PtpPort) : (s.modPtp p f).cascadeIn = s.cascadeIn := rfl
@[simp] theorem State.modPtp_car (p : Nat) (f : PtpPort → PtpPort) : (s.modPtp p f).car = s.car := rfl
@[simp] theorem State.modPtp_dl (p : Nat) (f : PtpPort → PtpPort) : (s.modPtp p f).dl = s.dl := rfl
@[simp] theorem State.modPtp_lanes (p : Nat) (f : PtpPort → PtpPort) : (s.modPtp p f).lanes = s.lanes := rfl
@[simp] theorem State.modPtp_votes (p : Nat) (f : PtpPort → PtpPort) : (s.modPtp p f).votes = s.votes := rfl
@[simp] theorem State.modPtp_parked (p : Nat) (f : PtpPort → PtpPort) : (s.modPtp p f).parked = s.parked := rfl
@[simp] theorem State.modPtp_upHold (p : Nat) (f : PtpPort → PtpPort) : (s.modPtp p f).upHold = s.upHold := rfl
@[simp] theorem State.modPtp_nand (p : Nat) (f : PtpPort → PtpPort) : (s.modPtp p f).nand = s.nand := rfl
@[simp] theorem State.modPtp_nandProg (p : Nat) (f : PtpPort → PtpPort) : (s.modPtp p f).nandProg = s.nandProg := rfl

/-! ### modQueue: a Seesaw queue changed -/

@[simp] theorem State.modQueue_pending (q : Nat) (f : Seesaw → Seesaw) : (s.modQueue q f).pending = s.pending := rfl
@[simp] theorem State.modQueue_free (q : Nat) (f : Seesaw → Seesaw) : (s.modQueue q f).free = s.free := rfl
@[simp] theorem State.modQueue_cat (q : Nat) (f : Seesaw → Seesaw) : (s.modQueue q f).cat = s.cat := rfl
@[simp] theorem State.modQueue_inForce (q : Nat) (f : Seesaw → Seesaw) : (s.modQueue q f).inForce = s.inForce := rfl
@[simp] theorem State.modQueue_stores (q : Nat) (f : Seesaw → Seesaw) : (s.modQueue q f).stores = s.stores := rfl
@[simp] theorem State.modQueue_time (q : Nat) (f : Seesaw → Seesaw) : (s.modQueue q f).time = s.time := rfl
@[simp] theorem State.modQueue_bat (q : Nat) (f : Seesaw → Seesaw) : (s.modQueue q f).bat = s.bat := rfl
@[simp] theorem State.modQueue_pins (q : Nat) (f : Seesaw → Seesaw) : (s.modQueue q f).pins = s.pins := rfl
@[simp] theorem State.modQueue_pw (q : Nat) (f : Seesaw → Seesaw) : (s.modQueue q f).pw = s.pw := rfl
@[simp] theorem State.modQueue_hif (q : Nat) (f : Seesaw → Seesaw) : (s.modQueue q f).hif = s.hif := rfl
@[simp] theorem State.modQueue_ports (q : Nat) (f : Seesaw → Seesaw) : (s.modQueue q f).ports = s.ports := rfl
@[simp] theorem State.modQueue_sessions (q : Nat) (f : Seesaw → Seesaw) : (s.modQueue q f).sessions = s.sessions := rfl
@[simp] theorem State.modQueue_cask (q : Nat) (f : Seesaw → Seesaw) : (s.modQueue q f).cask = s.cask := rfl
@[simp] theorem State.modQueue_mem (q : Nat) (f : Seesaw → Seesaw) : (s.modQueue q f).mem = { s.mem with queues := tmod s.mem.queues q f } := rfl
@[simp] theorem State.modQueue_fw (q : Nat) (f : Seesaw → Seesaw) : (s.modQueue q f).fw = s.fw := rfl
@[simp] theorem State.modQueue_hall (q : Nat) (f : Seesaw → Seesaw) : (s.modQueue q f).hall = s.hall := rfl
@[simp] theorem State.modQueue_gate (q : Nat) (f : Seesaw → Seesaw) : (s.modQueue q f).gate = s.gate := rfl
@[simp] theorem State.modQueue_pat (q : Nat) (f : Seesaw → Seesaw) : (s.modQueue q f).pat = s.pat := rfl
@[simp] theorem State.modQueue_loc (q : Nat) (f : Seesaw → Seesaw) : (s.modQueue q f).loc = s.loc := rfl
@[simp] theorem State.modQueue_freeze (q : Nat) (f : Seesaw → Seesaw) : (s.modQueue q f).freeze = s.freeze := rfl
@[simp] theorem State.modQueue_frames (q : Nat) (f : Seesaw → Seesaw) : (s.modQueue q f).frames = s.frames := rfl
@[simp] theorem State.modQueue_nextFrame (q : Nat) (f : Seesaw → Seesaw) : (s.modQueue q f).nextFrame = s.nextFrame := rfl
@[simp] theorem State.modQueue_win (q : Nat) (f : Seesaw → Seesaw) : (s.modQueue q f).win = s.win := rfl
@[simp] theorem State.modQueue_storms (q : Nat) (f : Seesaw → Seesaw) : (s.modQueue q f).storms = s.storms := rfl
@[simp] theorem State.modQueue_unknown (q : Nat) (f : Seesaw → Seesaw) : (s.modQueue q f).unknown = s.unknown := rfl
@[simp] theorem State.modQueue_cascades (q : Nat) (f : Seesaw → Seesaw) : (s.modQueue q f).cascades = s.cascades := rfl
@[simp] theorem State.modQueue_cascadeOut (q : Nat) (f : Seesaw → Seesaw) : (s.modQueue q f).cascadeOut = s.cascadeOut := rfl
@[simp] theorem State.modQueue_cascadeIn (q : Nat) (f : Seesaw → Seesaw) : (s.modQueue q f).cascadeIn = s.cascadeIn := rfl
@[simp] theorem State.modQueue_car (q : Nat) (f : Seesaw → Seesaw) : (s.modQueue q f).car = s.car := rfl
@[simp] theorem State.modQueue_dl (q : Nat) (f : Seesaw → Seesaw) : (s.modQueue q f).dl = s.dl := rfl
@[simp] theorem State.modQueue_lanes (q : Nat) (f : Seesaw → Seesaw) : (s.modQueue q f).lanes = s.lanes := rfl
@[simp] theorem State.modQueue_votes (q : Nat) (f : Seesaw → Seesaw) : (s.modQueue q f).votes = s.votes := rfl
@[simp] theorem State.modQueue_parked (q : Nat) (f : Seesaw → Seesaw) : (s.modQueue q f).parked = s.parked := rfl
@[simp] theorem State.modQueue_upHold (q : Nat) (f : Seesaw → Seesaw) : (s.modQueue q f).upHold = s.upHold := rfl
@[simp] theorem State.modQueue_nand (q : Nat) (f : Seesaw → Seesaw) : (s.modQueue q f).nand = s.nand := rfl
@[simp] theorem State.modQueue_nandProg (q : Nat) (f : Seesaw → Seesaw) : (s.modQueue q f).nandProg = s.nandProg := rfl

/-! ### modBlock: a NAND block changed -/

@[simp] theorem State.modBlock_pending (b : Nat) (f : Block → Block) : (s.modBlock b f).pending = s.pending := rfl
@[simp] theorem State.modBlock_free (b : Nat) (f : Block → Block) : (s.modBlock b f).free = s.free := rfl
@[simp] theorem State.modBlock_cat (b : Nat) (f : Block → Block) : (s.modBlock b f).cat = s.cat := rfl
@[simp] theorem State.modBlock_inForce (b : Nat) (f : Block → Block) : (s.modBlock b f).inForce = s.inForce := rfl
@[simp] theorem State.modBlock_stores (b : Nat) (f : Block → Block) : (s.modBlock b f).stores = s.stores := rfl
@[simp] theorem State.modBlock_time (b : Nat) (f : Block → Block) : (s.modBlock b f).time = s.time := rfl
@[simp] theorem State.modBlock_bat (b : Nat) (f : Block → Block) : (s.modBlock b f).bat = s.bat := rfl
@[simp] theorem State.modBlock_pins (b : Nat) (f : Block → Block) : (s.modBlock b f).pins = s.pins := rfl
@[simp] theorem State.modBlock_pw (b : Nat) (f : Block → Block) : (s.modBlock b f).pw = s.pw := rfl
@[simp] theorem State.modBlock_hif (b : Nat) (f : Block → Block) : (s.modBlock b f).hif = s.hif := rfl
@[simp] theorem State.modBlock_ports (b : Nat) (f : Block → Block) : (s.modBlock b f).ports = s.ports := rfl
@[simp] theorem State.modBlock_sessions (b : Nat) (f : Block → Block) : (s.modBlock b f).sessions = s.sessions := rfl
@[simp] theorem State.modBlock_cask (b : Nat) (f : Block → Block) : (s.modBlock b f).cask = { s.cask with blocks := tmod s.cask.blocks b f } := rfl
@[simp] theorem State.modBlock_mem (b : Nat) (f : Block → Block) : (s.modBlock b f).mem = s.mem := rfl
@[simp] theorem State.modBlock_fw (b : Nat) (f : Block → Block) : (s.modBlock b f).fw = s.fw := rfl
@[simp] theorem State.modBlock_hall (b : Nat) (f : Block → Block) : (s.modBlock b f).hall = s.hall := rfl
@[simp] theorem State.modBlock_gate (b : Nat) (f : Block → Block) : (s.modBlock b f).gate = s.gate := rfl
@[simp] theorem State.modBlock_pat (b : Nat) (f : Block → Block) : (s.modBlock b f).pat = s.pat := rfl
@[simp] theorem State.modBlock_loc (b : Nat) (f : Block → Block) : (s.modBlock b f).loc = s.loc := rfl
@[simp] theorem State.modBlock_freeze (b : Nat) (f : Block → Block) : (s.modBlock b f).freeze = s.freeze := rfl
@[simp] theorem State.modBlock_frames (b : Nat) (f : Block → Block) : (s.modBlock b f).frames = s.frames := rfl
@[simp] theorem State.modBlock_nextFrame (b : Nat) (f : Block → Block) : (s.modBlock b f).nextFrame = s.nextFrame := rfl
@[simp] theorem State.modBlock_win (b : Nat) (f : Block → Block) : (s.modBlock b f).win = s.win := rfl
@[simp] theorem State.modBlock_storms (b : Nat) (f : Block → Block) : (s.modBlock b f).storms = s.storms := rfl
@[simp] theorem State.modBlock_unknown (b : Nat) (f : Block → Block) : (s.modBlock b f).unknown = s.unknown := rfl
@[simp] theorem State.modBlock_cascades (b : Nat) (f : Block → Block) : (s.modBlock b f).cascades = s.cascades := rfl
@[simp] theorem State.modBlock_cascadeOut (b : Nat) (f : Block → Block) : (s.modBlock b f).cascadeOut = s.cascadeOut := rfl
@[simp] theorem State.modBlock_cascadeIn (b : Nat) (f : Block → Block) : (s.modBlock b f).cascadeIn = s.cascadeIn := rfl
@[simp] theorem State.modBlock_car (b : Nat) (f : Block → Block) : (s.modBlock b f).car = s.car := rfl
@[simp] theorem State.modBlock_dl (b : Nat) (f : Block → Block) : (s.modBlock b f).dl = s.dl := rfl
@[simp] theorem State.modBlock_lanes (b : Nat) (f : Block → Block) : (s.modBlock b f).lanes = s.lanes := rfl
@[simp] theorem State.modBlock_votes (b : Nat) (f : Block → Block) : (s.modBlock b f).votes = s.votes := rfl
@[simp] theorem State.modBlock_parked (b : Nat) (f : Block → Block) : (s.modBlock b f).parked = s.parked := rfl
@[simp] theorem State.modBlock_upHold (b : Nat) (f : Block → Block) : (s.modBlock b f).upHold = s.upHold := rfl
@[simp] theorem State.modBlock_nand (b : Nat) (f : Block → Block) : (s.modBlock b f).nand = s.nand := rfl
@[simp] theorem State.modBlock_nandProg (b : Nat) (f : Block → Block) : (s.modBlock b f).nandProg = s.nandProg := rfl

end Sys2Proof.Machine
end

