-- ==== Sys2Proof/Laws/Ops.lean ====
section
/-! SUPPORT. Laws of the shared operations: tables, the catalogue store, the records and completions that every unit makes, the
envelope of a CAP request. -/

namespace Sys2Proof.Machine

set_option Elab.async false

/-! ### Tables -/

@[simp] theorem tget_nil {α : Type} (x : Nat) : tget ([] : Tab α) x = none := rfl

@[simp] theorem tget_cons {α : Type} (k : Nat) (v : α) (t : Tab α) (x : Nat) :
    tget ((k, v) :: t) x = if k = x then some v else tget t x := by
  rw [tget]
  by_cases h : k = x <;> simp [h]

/-- Reading the key just set gives the value set. -/
@[simp] theorem tget_tput_self {α : Type} (t : Tab α) (x : Nat) (v : α) : tget (tput t x v) x = some v := by
  induction t with
  | nil => simp [tput]
  | cons a t ih =>
    obtain ⟨k, w⟩ := a
    rw [tput]
    by_cases h : x < k
    · simp [h]
    · by_cases e : k = x <;> simp [h, e, ih]

/-- Setting a key leaves every other. -/
theorem tget_tput_ne {α : Type} (t : Tab α) {x y : Nat} (v : α) (h : y ≠ x) : tget (tput t x v) y = tget t y := by
  induction t with
  | nil => simp [tput, Ne.symm h]
  | cons a t ih =>
    obtain ⟨k, w⟩ := a
    rw [tput]
    by_cases l : x < k
    · simp [l, Ne.symm h]
    · by_cases e : k = x
      · subst e; simp [Ne.symm h]
      · simp [l, e, ih]

/-- A deleted key reads as nothing. -/
@[simp] theorem tget_tdel_self {α : Type} (t : Tab α) (x : Nat) : tget (tdel t x) x = none := by
  induction t with
  | nil => simp [tdel]
  | cons a t ih =>
    obtain ⟨k, w⟩ := a
    rw [tdel]
    by_cases e : k = x <;> simp [e, ih]

/-- Deleting a key leaves every other. -/
theorem tget_tdel_ne {α : Type} (t : Tab α) {x y : Nat} (h : y ≠ x) : tget (tdel t x) y = tget t y := by
  induction t with
  | nil => simp [tdel]
  | cons a t ih =>
    obtain ⟨k, w⟩ := a
    rw [tdel]
    by_cases e : k = x
    · subst e; simp [ih, Ne.symm h]
    · simp [e, ih]

/-- A key changed where it has a value. -/
theorem tget_tmod_self {α : Type} (t : Tab α) (x : Nat) (f : α → α) : tget (tmod t x f) x = (tget t x).map f := by
  unfold tmod
  cases h : tget t x <;> simp [h]

/-- Changing a key leaves every other. -/
theorem tget_tmod_ne {α : Type} (t : Tab α) {x y : Nat} (f : α → α) (h : y ≠ x) : tget (tmod t x f) y = tget t y := by
  unfold tmod
  cases tget t x with
  | none => rfl
  | some v => exact tget_tput_ne t _ h

/-- Whether every key of a table is above a bound. -/
abbrev Tab.above {α : Type} (n : Nat) (t : Tab α) : Prop := ∀ e ∈ t, n < e.1

/-- A table rises when its head is below the rest, which rises. -/
theorem Tab.rising_cons {α : Type} (a : Nat × α) (t : Tab α) :
    Tab.rising (a :: t) = true ↔ Tab.above a.1 t ∧ Tab.rising t = true := by
  induction t generalizing a with
  | nil => simp [Tab.rising, Tab.above]
  | cons b t ih =>
    obtain ⟨k, v⟩ := a
    obtain ⟨l, w⟩ := b
    simp only [Tab.rising, Bool.and_eq_true, Nat.blt_eq]
    constructor
    · rintro ⟨h, r⟩
      refine ⟨?_, r⟩
      intro e m
      rcases List.mem_cons.1 m with rfl | m
      · exact h
      · exact Nat.lt_trans h (((ih (l, w)).1 r).1 e m)
    · rintro ⟨h, r⟩
      exact ⟨h _ (List.mem_cons_self ..), r⟩

/-- The keys of a table after a key is set. -/
theorem mem_tput {α : Type} {t : Tab α} {x : Nat} {v : α} {e : Nat × α} (h : e ∈ tput t x v) : e = (x, v) ∨ e ∈ t := by
  induction t with
  | nil => simpa [tput] using h
  | cons a t ih =>
    obtain ⟨k, w⟩ := a
    rw [tput] at h
    split at h
    · simpa using h
    · split at h
      · rcases List.mem_cons.1 h with h | h <;> simp [h]
      · rcases List.mem_cons.1 h with h | h
        · simp [h]
        · rcases ih h with h | h <;> simp [h]

/-- The entries of a table after a key is deleted were there before. -/
theorem mem_tdel {α : Type} {t : Tab α} {x : Nat} {e : Nat × α} (h : e ∈ tdel t x) : e ∈ t := by
  induction t with
  | nil => simp [tdel] at h
  | cons a t ih =>
    obtain ⟨k, w⟩ := a
    rw [tdel] at h
    split at h
    · exact List.mem_cons_of_mem _ (ih h)
    · rcases List.mem_cons.1 h with h | h
      · simp [h]
      · exact List.mem_cons_of_mem _ (ih h)

/-- Setting a key keeps a table rising. -/
theorem tput_rising {α : Type} (t : Tab α) (x : Nat) (v : α) (h : Tab.rising t = true) : Tab.rising (tput t x v) = true := by
  induction t with
  | nil => rfl
  | cons a t ih =>
    obtain ⟨k, w⟩ := a
    obtain ⟨ab, r⟩ := (Tab.rising_cons _ _).1 h
    rw [tput]
    split
    · rename_i l
      simp only [Nat.blt_eq] at l
      refine (Tab.rising_cons _ _).2 ⟨?_, h⟩
      intro e m
      rcases List.mem_cons.1 m with rfl | m
      · exact l
      · exact Nat.lt_trans l (ab e m)
    · split
      · rename_i e
        simp only [Nat.beq_eq] at e
        subst e
        exact (Tab.rising_cons _ _).2 ⟨ab, r⟩
      · rename_i l e
        simp only [Nat.blt_eq, Nat.beq_eq] at l e
        refine (Tab.rising_cons _ _).2 ⟨?_, ih r⟩
        intro y m
        rcases mem_tput m with rfl | m
        · simp only; omega
        · exact ab y m

/-- Deleting a key keeps a table rising. -/
theorem tdel_rising {α : Type} (t : Tab α) (x : Nat) (h : Tab.rising t = true) : Tab.rising (tdel t x) = true := by
  induction t with
  | nil => rfl
  | cons a t ih =>
    obtain ⟨k, w⟩ := a
    obtain ⟨ab, r⟩ := (Tab.rising_cons _ _).1 h
    rw [tdel]
    split
    · exact ih r
    · exact (Tab.rising_cons _ _).2 ⟨fun e m => ab e (mem_tdel m), ih r⟩

/-- Leaving entries out keeps a table rising. -/
theorem filter_rising {α : Type} (t : Tab α) (p : Nat × α → Bool) (h : Tab.rising t = true) : Tab.rising (t.filter p) = true := by
  induction t with
  | nil => rfl
  | cons a t ih =>
    obtain ⟨ab, r⟩ := (Tab.rising_cons _ _).1 h
    simp only [List.filter_cons]
    split
    · exact (Tab.rising_cons _ _).2 ⟨fun e m => ab e (List.mem_filter.1 m).1, ih r⟩
    · exact ih r

/-! ### The catalogue store -/

/-- Reading an object just set gives the value set. -/
@[simp] theorem catGet_catPut_self (c : Tab Int) (k : Nat) (v : Int) : catGet (catPut c k v) k = v := by
  unfold catGet catPut
  split <;> simp_all

/-- Setting an object leaves every other. -/
theorem catGet_catPut_ne (c : Tab Int) {k j : Nat} (v : Int) (h : j ≠ k) : catGet (catPut c k v) j = catGet c j := by
  unfold catGet catPut
  split
  · rw [tget_tdel_ne _ h]
  · rw [tget_tput_ne _ _ h]

/-- Setting an object keeps the canonical form of the store. -/
theorem catPut_wf (c : Tab Int) (k : Nat) (v : Int) (h : Cat.wf c = true) : Cat.wf (catPut c k v) = true := by
  simp only [Cat.wf, Bool.and_eq_true, List.all_eq_true, bne_iff_ne] at h ⊢
  unfold catPut
  split
  · exact ⟨tdel_rising _ _ h.1, fun e m => h.2 e (mem_tdel m)⟩
  · rename_i n
    refine ⟨tput_rising _ _ _ h.1, fun e m => ?_⟩
    rcases mem_tput m with rfl | m
    · exact n
    · exact h.2 e m

@[simp] theorem State.get_set_self (s : State) (k : Nat) (v : Int) : (s.set k v).get k = v := by simp [State.get]

theorem State.get_set_ne (s : State) {k j : Nat} (v : Int) (h : j ≠ k) : (s.set k v).get j = s.get j := by
  simp [State.get, catGet_catPut_ne _ _ h]

@[simp] theorem State.nat_set_self (s : State) (k n : Nat) : (s.set k (n : Int)).nat k = n := by simp [State.nat]

theorem State.nat_set_ne (s : State) {k j : Nat} (v : Int) (h : j ≠ k) : (s.set k v).nat j = s.nat j := by
  simp [State.nat, State.get_set_ne _ _ h]

/-- A counter below its last value goes up by one, and nothing else changes (R15). -/
theorem State.bump_eq (s : State) (k : Nat) (h : s.nat k < 4294967295) : s.bump k = s.set k (s.nat k + 1 : Nat) := by
  unfold State.bump State.bumpBy
  simp only
  rw [if_pos (by omega)]

/-- Counting leaves every other object. -/
theorem State.get_bump_ne (s : State) {k j : Nat} (h : j ≠ k) : (s.bump k).get j = s.get j := by
  unfold State.bump State.bumpBy State.draw
  simp only
  split
  · exact State.get_set_ne _ _ h
  · rw [State.get_set_ne _ _ h]; rfl

/-! ### Operations that every unit uses leave the queue, the counter and Big Top -/

theorem State.set_keeps (s : State) (k : Nat) (v : Int) : Quiet s (State.set s k v) := by
  unfold State.set; grind

theorem State.draw_keeps (s : State) : Quiet s (State.draw s).2 := by
  unfold State.draw; grind

theorem State.bumpBy_keeps (s : State) (k n : Nat) : Quiet s (State.bumpBy s k n) := by
  unfold State.bumpBy; grind [State.draw_keeps, State.set_keeps]

theorem State.bump_keeps (s : State) (k : Nat) : Quiet s (State.bump s k) := by
  unfold State.bump; grind [State.bumpBy_keeps]

theorem State.msi_keeps (s : State) (n : Nat) : Quiet s (State.msi s n) := by
  unfold State.msi; grind

theorem State.raise_keeps (s : State) (n : Nat) : Quiet s (State.raise s n) := by
  unfold State.raise; grind [State.msi_keeps]

theorem State.modHq_keeps (s : State) (q : Nat) (f : HostQueue → HostQueue) : Quiet s (State.modHq s q f) := by
  unfold State.modHq; grind

theorem State.hqSignal_keeps (s : State) (q : Nat) : Quiet s (State.hqSignal s q) := by
  unfold State.hqSignal; grind [State.modHq_keeps, State.raise_keeps]

theorem State.hqCompleteAt_keeps (s : State) (stamp q n len cls word status extra data : Nat) :
    Quiet s (State.hqCompleteAt s stamp q n len cls word status extra data) := by
  unfold State.hqCompleteAt; grind [State.bumpBy_keeps, State.modHq_keeps, State.hqSignal_keeps]

theorem State.hqComplete_keeps (s : State) (q n len cls word status extra data : Nat) :
    Quiet s (State.hqComplete s q n len cls word status extra data) := by
  unfold State.hqComplete; grind [State.hqCompleteAt_keeps]

theorem State.hqStarve_keeps (s : State) (q : Nat) : Quiet s (State.hqStarve s q) := by
  unfold State.hqStarve; grind [State.bump_keeps, State.modHq_keeps, State.raise_keeps]

theorem State.commitPaired_keeps (s : State) (changes : List (Nat × Int)) : Quiet s (State.commitPaired s changes) := by
  unfold State.commitPaired; grind [State.bumpBy_keeps, foldl_quiet]

theorem State.setPaired_keeps (s : State) (k : Nat) (v : Int) : Quiet s (State.setPaired s k v) := by
  unfold State.setPaired; grind [State.commitPaired_keeps]

theorem State.setSealed_keeps (s : State) (k : Nat) (v : Int) : Quiet s (State.setSealed s k v) := by
  unfold State.setSealed; grind [State.set_keeps]

theorem State.modLog_keeps (s : State) (l : Nat) (f : EvLog → EvLog) : Quiet s (State.modLog s l f) := by
  unfold State.modLog; grind

theorem State.timeField_keeps (s : State) : Quiet s (State.timeField s).2 := by
  unfold State.timeField; grind [State.set_keeps]

theorem State.newRec_keeps (s : State) (log code tenant payload pos : Nat) (ring rtc : Bool) (tai : Nat) :
    Quiet s (State.newRec s log code tenant payload pos ring rtc tai).2 := by
  unfold State.newRec; grind [State.timeField_keeps]

theorem State.fold_keeps (s : State) (r : EvRec) : Quiet s (State.fold s r).2 := by
  unfold State.fold; grind [State.bump_keeps]

theorem State.pumpLogTo_keeps (s : State) (q log : Nat) : Quiet s (State.pumpLogTo s q log) := by
  unfold State.pumpLogTo; grind [State.hqStarve_keeps, State.modHq_keeps, State.hqComplete_keeps]

theorem State.pumpLog_keeps (s : State) (log : Nat) : Quiet s (State.pumpLog s log) := by
  unfold State.pumpLog; grind (splits := 30) (ematch := 20) (gen := 12) [State.pumpLogTo_keeps, foldl_quiet]

theorem State.logChanged_keeps (s : State) : Quiet s (State.logChanged s) := by
  unfold State.logChanged; grind [State.raise_keeps]

theorem State.storeOther_keeps (s : State) (log code tenant payload : Nat) (rtc : Bool) (tai : Nat) :
    Quiet s (State.storeOther s log code tenant payload rtc tai) := by
  unfold State.storeOther; grind [State.bump_keeps, State.fold_keeps, State.modLog_keeps, State.newRec_keeps, State.pumpLog_keeps]

theorem State.logAt_keeps (s : State) (log code tenant payload : Nat) (rtc : Bool) (tai : Nat) :
    Quiet s (State.logAt s log code tenant payload rtc tai) := by
  unfold State.logAt; grind [State.bump_keeps, State.storeOther_keeps]

theorem State.logSec_keeps (s : State) (code tenant payload : Nat) : Quiet s (State.logSec s code tenant payload) := by
  unfold State.logSec; grind [State.logAt_keeps]

theorem State.logOp_keeps (s : State) (code tenant payload : Nat) : Quiet s (State.logOp s code tenant payload) := by
  unfold State.logOp; grind [State.logAt_keeps]

theorem State.logDiag_keeps (s : State) (code tenant payload : Nat) : Quiet s (State.logDiag s code tenant payload) := by
  unfold State.logDiag; grind [State.logAt_keeps]

theorem State.logOpFree_keeps (s : State) (event payload : Nat) : Quiet s (State.logOpFree s event payload) := by
  unfold State.logOpFree; grind [State.logOp_keeps]

theorem State.logDiagFree_keeps (s : State) (event payload : Nat) : Quiet s (State.logDiagFree s event payload) := by
  unfold State.logDiagFree; grind [State.logDiag_keeps]

theorem State.endFreeze_keeps (s : State) : Quiet s (State.endFreeze s) := by
  unfold State.endFreeze; grind [State.modLog_keeps, State.pumpLog_keeps]

theorem State.breakFreeze_keeps (s : State) : Quiet s (State.breakFreeze s) := by
  unfold State.breakFreeze; grind [State.bump_keeps, State.logChanged_keeps, State.logOpFree_keeps, State.endFreeze_keeps]

theorem State.storageAlarm_keeps (s : State) : Quiet s (State.storageAlarm s) := by
  unfold State.storageAlarm; grind [State.setPaired_keeps]

theorem State.ringLegal_keeps (s : State) (code tenant payload : Nat) (rtc : Bool) (tai : Nat) :
    Quiet s (State.ringLegal s code tenant payload rtc tai) := by
  unfold State.ringLegal; grind [State.fold_keeps, State.storageAlarm_keeps, State.modLog_keeps, State.newRec_keeps]

theorem State.appendLegal_keeps (s : State) (code tenant payload : Nat) (rtc : Bool) (tai : Nat) :
    Quiet s (State.appendLegal s code tenant payload rtc tai) := by
  unfold State.appendLegal; grind [State.fold_keeps, State.modLog_keeps, State.newRec_keeps]

theorem State.takeReserve_keeps (s : State) : Quiet s (State.takeReserve s).2 := by
  unfold State.takeReserve; grind [State.set_keeps]

theorem State.holdLegal_keeps (s : State) (code tenant payload : Nat) (rtc : Bool) (tai : Nat) :
    Quiet s (State.holdLegal s code tenant payload rtc tai) := by
  unfold State.holdLegal; grind [State.fold_keeps, State.modLog_keeps, State.logChanged_keeps, State.newRec_keeps]

theorem State.legalAt_keeps (s : State) (code tenant payload : Nat) (rtc : Bool) (tai : Nat) :
    Quiet s (State.legalAt s code tenant payload rtc tai) := by
  unfold State.legalAt; grind [State.holdLegal_keeps, State.takeReserve_keeps, State.breakFreeze_keeps, State.appendLegal_keeps, State.ringLegal_keeps, State.pumpLog_keeps]

theorem State.logLegal_keeps (s : State) (code tenant payload : Nat) : Quiet s (State.logLegal s code tenant payload) := by
  unfold State.logLegal; grind [State.legalAt_keeps]

theorem State.closeBatch_keeps (s : State) (t : Nat) : Quiet s (State.closeBatch s t) := by
  unfold State.closeBatch; grind

theorem State.uplinkNow_keeps (s : State) (t : Nat) (r : UpRec) (journal : Nat) : Quiet s (State.uplinkNow s t r journal) := by
  unfold State.uplinkNow; grind [State.closeBatch_keeps]

theorem State.uplink_keeps (s : State) (t : Nat) (r : UpRec) (journal : Nat) : Quiet s (State.uplink s t r journal) := by
  unfold State.uplink; grind [State.uplinkNow_keeps]

theorem State.notice_keeps (s : State) (t kind code rest : Nat) : Quiet s (State.notice s t kind code rest) := by
  unfold State.notice; grind [State.uplink_keeps]

theorem State.noticeAll_keeps (s : State) (kind code rest : Nat) : Quiet s (State.noticeAll s kind code rest) := by
  unfold State.noticeAll; grind (splits := 30) (ematch := 20) (gen := 12) [State.notice_keeps, foldl_quiet]

theorem State.commit_keeps (s : State) (n k : Nat) : Quiet s (State.commit s n k) := by
  unfold State.commit; grind

end Sys2Proof.Machine
end

