-- ==== Sys2Proof/Laws/Memory.lean ====
section
/-! SUPPORT. Laws of Big Top: reads after writes, and its canonical form, which every operation over it keeps. -/

namespace Sys2Proof.Machine

/-- A line just set reads as the value set. -/
@[simp] theorem State.line_setLine_self (s : State) (n : Nat) (v : Line) : (s.setLine n v).line n = v := by
  unfold State.line State.setLine
  by_cases h : v = 0
  · rw [if_pos h, tget_tdel_self, h]; rfl
  · simp only [if_neg h, tget_tput_self, Option.getD_some]

/-- Setting a line leaves every other. -/
theorem State.line_setLine_ne (s : State) {n m : Nat} (v : Line) (h : m ≠ n) : (s.setLine n v).line m = s.line m := by
  unfold State.line State.setLine
  by_cases z : v = 0
  · simp only [if_pos z, tget_tdel_ne _ h]
  · simp only [if_neg z, tget_tput_ne _ _ h]

/-- Setting a line keeps the form. -/
theorem State.setLine_wf (s : State) (n : Nat) (v : Line) (h : s.mem.wf = true) : (s.setLine n v).mem.wf = true := by
  simp only [Memory.wf, Bool.and_eq_true, List.all_eq_true, bne_iff_ne] at h ⊢
  simp only [State.setLine]
  split
  · exact ⟨tdel_rising _ _ h.1, fun e m => h.2 e (mem_tdel m)⟩
  · rename_i z
    refine ⟨tput_rising _ _ _ h.1, fun e m => ?_⟩
    rcases mem_tput m with rfl | m
    · exact z
    · exact h.2 e m

/-- Leaving lines out keeps the form. -/
theorem Memory.filter_wf (m : Memory) (p : Nat × Line → Bool) (h : m.wf = true) : ({ m with lines := m.lines.filter p }).wf = true := by
  simp only [Memory.wf, Bool.and_eq_true, List.all_eq_true] at h ⊢
  exact ⟨filter_rising _ _ h.1, fun e m => h.2 e (List.mem_filter.1 m).1⟩

/-- A write keeps the form. -/
theorem State.writeLine_wf (s : State) (w : LineWrite) (h : s.mem.wf = true) : (s.writeLine w).mem.wf = true :=
  s.setLine_wf _ _ h

/-- Waking a bank leaves every line. -/
theorem State.wakeBank_lines (s : State) (b : Nat) (a : Bool) : (s.wakeBank b a).mem.lines = s.mem.lines := by
  unfold State.wakeBank
  split
  · rfl
  · split
    · exact ((State.bump_keeps _ _).2.2.2.2.2).trans ((State.bump_keeps _ _).2.2.2.2.2)
    · exact (State.bump_keeps _ _).2.2.2.2.2

/-- A write that reaches its bank keeps the form, carried out or stalled. -/
theorem State.access_wf (s : State) (w : LineWrite) (h : s.mem.wf = true) : (s.access w).mem.wf = true := by
  unfold State.access
  simp only
  split
  · exact s.writeLine_wf w h
  · exact (Memory.wf_congr (s.wakeBank_lines _ _)).trans h

/-- A bank that goes off keeps the form. -/
theorem State.bankOff_wf (s : State) (b : Nat) (h : s.mem.wf = true) : (s.bankOff b).mem.wf = true := by
  unfold State.bankOff
  split
  · exact (Memory.wf_congr rfl).trans (s.mem.filter_wf _ h)
  · exact h

/-- A fold of writes keeps the form. -/
theorem foldl_writeLine_wf (ws : List LineWrite) (s : State) (h : s.mem.wf = true) :
    (ws.foldl State.writeLine s).mem.wf = true := by
  induction ws generalizing s with
  | nil => exact h
  | cons w t ih => exact ih _ (s.writeLine_wf w h)

/-- A bank that has cleared keeps the form, the stalled writes carried out. -/
theorem State.bankClear_wf (s : State) (b : Nat) (h : s.mem.wf = true) : (s.bankClear b).mem.wf = true := by
  unfold State.bankClear
  split
  · exact h
  · exact foldl_writeLine_wf _ _ ((Memory.wf_congr rfl).trans (s.mem.filter_wf _ h))

/-- At reset Big Top lists nothing. -/
theorem Memory.reset_wf : State.reset.mem.wf = true := rfl

end Sys2Proof.Machine
end

