-- ==== Sys2Proof/Laws/Operands.lean ====
section
/-! SUPPORT. Laws of the CAP envelope (R356 to R366): what a request that the part takes does around the command's own effect. -/

namespace Sys2Proof.Machine

/-- A request taken (R359, R363): counted, and its instant kept with the session. -/
def State.taken (s : State) (r : CapReq) (ses : Session) : State :=
  let t := s.bump Obj.capRequests
  { t with sessions := tput t.sessions r.sess { ses with lastAt := t.now } }

theorem State.bump_fields (s : State) (k : Nat) :
    (s.bump k).pw = s.pw ∧ (s.bump k).pins = s.pins ∧ (s.bump k).parked = s.parked ∧ (s.bump k).stores = s.stores ∧
      (s.bump k).hif = s.hif ∧ (s.bump k).sessions = s.sessions ∧ (s.bump k).nand = s.nand ∧ (s.bump k).time = s.time := by
  unfold State.bump State.bumpBy State.draw
  simp only
  split <;> exact ⟨rfl, rfl, rfl, rfl, rfl, rfl, rfl, rfl⟩

/-- Counting a request leaves whether the catalogue is ready. -/
theorem State.taken_ready (s : State) (r : CapReq) (ses : Session) : (s.taken r ses).catalogueReady = s.catalogueReady := by
  have h : (s.taken r ses).nat Obj.powerState = s.nat Obj.powerState := by
    show ((s.bump Obj.capRequests).get Obj.powerState).toNat = _
    rw [State.get_bump_ne _ (by decide)]
    rfl
  obtain ⟨a, b, -⟩ := s.bump_fields Obj.capRequests
  unfold State.catalogueReady
  rw [h]
  show ((s.bump Obj.capRequests).pw.rails && _ && _ && _ && _) = _
  rw [show (s.taken r ses).pins = s.pins from b, show (s.taken r ses).pw = s.pw from a, a]

/-- Counting a request leaves how many are outstanding. -/
theorem State.taken_outstanding (s : State) (r : CapReq) (ses : Session) (n : Nat) :
    (s.taken r ses).outstanding n = s.outstanding n := by
  obtain ⟨-, -, c, d, -⟩ := s.bump_fields Obj.capRequests
  unfold State.outstanding
  rw [show (s.taken r ses).parked = s.parked from c, show (s.taken r ses).stores = s.stores from d]

/-- A request that CAP carries out, of a principal with the right to it: the body runs on the state in which the request is taken, and
its outcome is the response. -/
theorem State.capRun_takes (s : State) (r : CapReq) (kind index sub : Nat) (allow : Session → Bool)
    (body : Session → State → Option CapOut × State) (ses : Session)
    (open_ : tget s.sessions r.sess = some ses) (closing : ses.closing = false) (mail : r.sess = 0 → s.hif.mb.busy = true)
    (fresh : (ses.kept.find? fun p => p.tag == r.tag && p.kind == kind && p.index == index && p.sub == sub) = none)
    (room : s.outstanding r.sess < capDepth r.sess) (ready : s.catalogueReady = true) (may : allow ses = true) :
    s.capRun r kind index sub allow body =
      match body ses (s.taken r ses) with
      | (some o, t) => t.respond r.sess (o.toResp r.tag kind index sub) true
      | (none, t) => t := by
  have g : (s.taken r ses).capGate r.sess kind index = none := by
    unfold State.capGate
    rw [State.taken_outstanding, State.taken_ready, ready, if_neg (by simpa using room), if_pos rfl]
  have b : (ses.closing || (r.sess == 0 && !s.hif.mb.busy)) = false := by
    by_cases z : r.sess = 0
    · simp [closing, mail z]
    · simp [closing, z]
  unfold State.capRun
  rw [open_]
  simp only [b, Bool.false_eq_true, if_false]
  show (match ses.kept.find? _ with
    | some p => (s.taken r ses).respond r.sess p false
    | none => match (s.taken r ses).capGate r.sess kind index with
      | some o => (s.taken r ses).respond r.sess (o.toResp r.tag kind index sub) true
      | none => if !allow ses then (s.taken r ses).respond r.sess ((capErr 3 0).toResp r.tag kind index sub) true
          else match body ses (s.taken r ses) with
            | (some o, t) => t.respond r.sess (o.toResp r.tag kind index sub) true
            | (none, t) => t) = _
  rw [fresh]
  simp only [g, may, Bool.not_true, Bool.false_eq_true, if_false]

theorem State.openSession_keeps (s : State) (n role tenant : Nat) : Quiet s (State.openSession s n role tenant) := by
  unfold State.openSession; grind

theorem State.respond_keeps (s : State) (sess : Nat) (r : Resp) (keep : Bool) : Quiet s (State.respond s sess r keep) := by
  unfold State.respond; (repeat' split) <;> grind [State.bump_keeps, State.openSession_keeps, State.raise_keeps]

end Sys2Proof.Machine
end

