-- ==== Sys2Proof/Laws/PerInstr.lean ====
section
/-! SUPPORT. A fact of the syntax, told command by command: in a well-formed command that comes as a CAP request, the request is
well formed. -/

namespace Sys2Proof.Laws.Requests

/-- The request that a command comes with, where it is one of CAP (R356). -/
def request : Instr → Option CapReq
  | .powerStateSetActive r => some r | .powerStateSetStandby r => some r | .powerStateSetSleep r => some r
  | .powerStateSetRestart r => some r | .iqRetrain r _ => some r | .stageItem r _ => some r | .stageWithdraw r _ _ => some r
  | .campaignStart r _ _ => some r | .linkQualityRead r _ _ => some r | .endpointAdmit r _ => some r | .endpointAdmitMove r _ _ => some r
  | .endpointRemove r _ => some r | .endpointRead r _ => some r | .keyUpdateSubmit r _ _ => some r | .attestRequest r _ _ _ _ _ => some r
  | .tariffSetSubmit r _ _ => some r | .billingRead r _ => some r | .snapshotRead r _ _ => some r | .topUp r _ _ _ => some r
  | .debtSet r _ _ _ _ => some r | .lockOutSet r _ _ => some r | .switchSubmit r _ => some r | .emergencyAccept r _ => some r
  | .nodeWrite r _ => some r | .nodeRead r _ => some r | .scoreReset r _ => some r | .timeSet r _ _ => some r
  | .servoOwnerChange r _ => some r | .taiUtcOffsetWrite r _ => some r | .storageRead r _ _ _ => some r | .storageWrite r _ _ _ => some r
  | .storageDiscard r _ _ => some r | .storageFormat r _ => some r | .batteryRingRead r _ => some r | .batteryRingAck r _ => some r
  | .logRead r _ _ _ => some r | .logBounds r _ => some r | .legalFreeze r => some r | .legalThaw r => some r
  | .legalExport r _ _ => some r | .capRead r _ => some r | .capWrite r _ _ _ _ => some r | .capBulkData r _ _ _ _ => some r
  | .capResultRead r _ => some r | .capAbort r => some r | .catalogueBundleSubmit r _ _ _ => some r | .sealSubmit r _ _ _ => some r
  | .trustAnchorSubmit r _ _ => some r | .firmwareSubmit r _ _ => some r | .firmwareEpochCommit r _ => some r
  | .claspAlarmClear r _ => some r | .gateReopen r _ _ _ => some r | .gateProofTest r _ => some r | .bistStart r _ => some r
  | .patinaMeasureCmd r _ _ => some r | .patinaRecalibrate r _ => some r
  | _ => none

/-- The request of a well-formed command is well formed. -/
def Statement (i : Instr) : Prop := ∀ q, i.wf = true → request i = some q → q.wf = true

/-- The first of two conditions that hold. -/
theorem left {a b : Bool} (h : (a && b) = true) : a = true := (Bool.and_eq_true_iff.1 h).1

theorem porstNRelease (b : Board) : Statement (.porstNRelease b) := fun _ _ e => nomatch e
theorem porstNAssert : Statement (.porstNAssert) := fun _ _ e => nomatch e
theorem pfiNAssert : Statement (.pfiNAssert) := fun _ _ e => nomatch e
theorem pwrSafeAssert : Statement (.pwrSafeAssert) := fun _ _ e => nomatch e
theorem pfiNRelease : Statement (.pfiNRelease) := fun _ _ e => nomatch e
theorem internalRestart (b : Board) : Statement (.internalRestart b) := fun _ _ e => nomatch e
theorem railsLost : Statement (.railsLost) := fun _ _ e => nomatch e
theorem powerStateSetActive (r : CapReq) : Statement (.powerStateSetActive r) := fun _ h e => Option.some.inj e ▸ h
theorem powerStateSetStandby (r : CapReq) : Statement (.powerStateSetStandby r) := fun _ h e => Option.some.inj e ▸ h
theorem standbyEntered : Statement (.standbyEntered) := fun _ _ e => nomatch e
theorem powerStateSetSleep (r : CapReq) : Statement (.powerStateSetSleep r) := fun _ h e => Option.some.inj e ▸ h
theorem powerStateSetRestart (r : CapReq) : Statement (.powerStateSetRestart r) := fun _ h e => Option.some.inj e ▸ h
theorem wakeAlarm : Statement (.wakeAlarm) := fun _ _ e => nomatch e
theorem vbatLow : Statement (.vbatLow) := fun _ _ e => nomatch e
theorem batteryChangeOver (vio3v3Mv : Nat) (vbatPresent : Bool) : Statement (.batteryChangeOver vio3v3Mv vbatPresent) := fun _ _ e => nomatch e
theorem ddrUncorrectable (frames : List Nat) : Statement (.ddrUncorrectable frames) := fun _ _ e => nomatch e
theorem iqRetrain (r : CapReq) (port : Nat) : Statement (.iqRetrain r port) := fun _ h e => Option.some.inj e ▸ left (h)
theorem iqTrainingPass (port : Nat) : Statement (.iqTrainingPass port) := fun _ _ e => nomatch e
theorem iqTrainingTimeout (port : Nat) (lanes : Nat) : Statement (.iqTrainingTimeout port lanes) := fun _ _ e => nomatch e
theorem frameSlip (port : Nat) : Statement (.frameSlip port) := fun _ _ e => nomatch e
theorem lossOfClock (port : Nat) : Statement (.lossOfClock port) := fun _ _ e => nomatch e
theorem clockRestored (port : Nat) : Statement (.clockRestored port) := fun _ _ e => nomatch e
theorem clippedMillisecond (port : Nat) (clipped : Nat) : Statement (.clippedMillisecond port clipped) := fun _ _ e => nomatch e
theorem detection (ds : List Det) : Statement (.detection ds) := fun _ _ e => nomatch e
theorem frameDelivery (dem : Nat) (ok : Bool) (i : RxInfo) : Statement (.frameDelivery dem ok i) := fun _ _ e => nomatch e
theorem syncLost (dem : Nat) : Statement (.syncLost dem) := fun _ _ e => nomatch e
theorem demodMaxHold (dem : Nat) : Statement (.demodMaxHold dem) := fun _ _ e => nomatch e
theorem cancellationPass (group : Nat) (decoded : List (Nat × RxInfo)) : Statement (.cancellationPass group decoded) := fun _ _ e => nomatch e
theorem fastPathResponse (frame length airUs widthHz : Nat) : Statement (.fastPathResponse frame length airUs widthHz) := fun _ _ e => nomatch e
theorem launchDeadline (frame : Nat) : Statement (.launchDeadline frame) := fun _ _ e => nomatch e
theorem responseLaunch (frame : Nat) : Statement (.responseLaunch frame) := fun _ _ e => nomatch e
theorem lbtListenEnd (port : Nat) (power : Int) : Statement (.lbtListenEnd port power) := fun _ _ e => nomatch e
theorem modulatorTxEnd (port : Nat) : Statement (.modulatorTxEnd port) := fun _ _ e => nomatch e
theorem pendantResponseLaunch (frame : Nat) : Statement (.pendantResponseLaunch frame) := fun _ _ e => nomatch e
theorem stageItem (r : CapReq) (a : ItemArg) : Statement (.stageItem r a) := fun _ h e => Option.some.inj e ▸ left (h)
theorem stageWithdraw (r : CapReq) (tag seq : Nat) : Statement (.stageWithdraw r tag seq) := fun _ h e => Option.some.inj e ▸ left (h)
theorem itemExpiry (seq : Nat) : Statement (.itemExpiry seq) := fun _ _ e => nomatch e
theorem dutyBucketRoll : Statement (.dutyBucketRoll) := fun _ _ e => nomatch e
theorem broadcastWindow (entry : Nat) (airUs widthHz : Nat) : Statement (.broadcastWindow entry airUs widthHz) := fun _ _ e => nomatch e
theorem campaignStart (r : CapReq) (a : CampaignArg) (image : Nat) : Statement (.campaignStart r a image) := fun _ h e => Option.some.inj e ▸ left (left (h))
theorem campaignBegin (campaign : Nat) : Statement (.campaignBegin campaign) := fun _ _ e => nomatch e
theorem campaignEnd (campaign : Nat) : Statement (.campaignEnd campaign) := fun _ _ e => nomatch e
theorem thermalTrip (lane : Nat) : Statement (.thermalTrip lane) := fun _ _ e => nomatch e
theorem thermalHoldoffEnd (lane : Nat) : Statement (.thermalHoldoffEnd lane) := fun _ _ e => nomatch e
theorem zcEdge (lane : Nat) (atNs : Nat) (rising : Bool) : Statement (.zcEdge lane atNs rising) := fun _ _ e => nomatch e
theorem zcMissingEdge (lane : Nat) : Statement (.zcMissingEdge lane) := fun _ _ e => nomatch e
theorem halfCycle (lane : Nat) (power : List Nat) (rmsDb : Int) : Statement (.halfCycle lane power rmsDb) := fun _ _ e => nomatch e
theorem plcPreambleDetection (lane : Nat) (chain : Bool) : Statement (.plcPreambleDetection lane chain) := fun _ _ e => nomatch e
theorem chainHeaderDecode (lane syncNs : Nat) (soft : List Int) : Statement (.chainHeaderDecode lane syncNs soft) := fun _ _ e => nomatch e
theorem chainBurst (lane : Nat) (pilots : Bool) (before : List Int) (symbols : List BurstSymbol) : Statement (.chainBurst lane pilots before symbols) := fun _ _ e => nomatch e
theorem plcFrameDelivery (lane : Nat) (ok : Bool) (i : RxInfo) (p : PlcInfo) : Statement (.plcFrameDelivery lane ok i p) := fun _ _ e => nomatch e
theorem mediumIdle (lane power : Nat) : Statement (.mediumIdle lane power) := fun _ _ e => nomatch e
theorem virtualBusyEnd (lane : Nat) : Statement (.virtualBusyEnd lane) := fun _ _ e => nomatch e
theorem plcFrameQueued (lane : Nat) (t : PlcTx) : Statement (.plcFrameQueued lane t) := fun _ _ e => nomatch e
theorem chainSlotStart (lane : Nat) : Statement (.chainSlotStart lane) := fun _ _ e => nomatch e
theorem standardCsmaTx (lane : Nat) : Statement (.standardCsmaTx lane) := fun _ _ e => nomatch e
theorem plcTxEnd (lane : Nat) (isenseMv : List Nat) : Statement (.plcTxEnd lane isenseMv) := fun _ _ e => nomatch e
theorem chainAckSend (lane : Nat) : Statement (.chainAckSend lane) := fun _ _ e => nomatch e
theorem chainAckReceived (lane : Nat) : Statement (.chainAckReceived lane) := fun _ _ e => nomatch e
theorem ackTimeout (lane : Nat) : Statement (.ackTimeout lane) := fun _ _ e => nomatch e
theorem loadngMessage (lane kind origin target next cost : Nat) : Statement (.loadngMessage lane kind origin target next cost) := fun _ _ e => nomatch e
theorem eapPskBootstrap (lane tag : Nat) (ok : Bool) : Statement (.eapPskBootstrap lane tag ok) := fun _ _ e => nomatch e
theorem linkQualityRead (r : CapReq) (lane short : Nat) : Statement (.linkQualityRead r lane short) := fun _ h e => Option.some.inj e ▸ left (left (h))
theorem tunnelledDatagram (source : Nat) (i : RxInfo) : Statement (.tunnelledDatagram source i) := fun _ _ e => nomatch e
theorem linkLayer (frame : Nat) : Statement (.linkLayer frame) := fun _ _ e => nomatch e
theorem unwrap (frame : Nat) (authentic tagged : Bool) : Statement (.unwrap frame authentic tagged) := fun _ _ e => nomatch e
theorem ingestCommit (frame : Nat) : Statement (.ingestCommit frame) := fun _ _ e => nomatch e
theorem parse (frame : Nat) (elements : List Element) : Statement (.parse frame elements) := fun _ _ e => nomatch e
theorem validation (frame : Nat) : Statement (.validation frame) := fun _ _ e => nomatch e
theorem billing (frame : Nat) : Statement (.billing frame) := fun _ _ e => nomatch e
theorem scalesAdd (frame : Nat) : Statement (.scalesAdd frame) := fun _ _ e => nomatch e
theorem resultCommit (frame : Nat) : Statement (.resultCommit frame) := fun _ _ e => nomatch e
theorem uplinkRecord (frame : Nat) : Statement (.uplinkRecord frame) := fun _ _ e => nomatch e
theorem uplinkBatch (tenant : Nat) : Statement (.uplinkBatch tenant) := fun _ _ e => nomatch e
theorem batchConfirmation (tenant : Nat) (sequence : Nat) : Statement (.batchConfirmation tenant sequence) := fun _ _ e => nomatch e
theorem endpointAdmit (r : CapReq) (image : Image) : Statement (.endpointAdmit r image) := fun _ h e => Option.some.inj e ▸ left (h)
theorem endpointAdmitMove (r : CapReq) (image : Image) (x : MoveExport) : Statement (.endpointAdmitMove r image x) := fun _ h e => Option.some.inj e ▸ left (left (h))
theorem endpointRemove (r : CapReq) (tag : Nat) : Statement (.endpointRemove r tag) := fun _ h e => Option.some.inj e ▸ left (h)
theorem endpointRead (r : CapReq) (tag : Nat) : Statement (.endpointRead r tag) := fun _ h e => Option.some.inj e ▸ left (h)
theorem quarantineEnd (tag : Nat) : Statement (.quarantineEnd tag) := fun _ _ e => nomatch e
theorem taiMidnight : Statement (.taiMidnight) := fun _ _ e => nomatch e
theorem cascadeSessionStart (number serial keyHash : Nat) : Statement (.cascadeSessionStart number serial keyHash) := fun _ _ e => nomatch e
theorem cascadeSessionLoss (number : Nat) : Statement (.cascadeSessionLoss number) := fun _ _ e => nomatch e
theorem forwardedFrame (number sequence tag cell : Nat) (i : RxInfo) : Statement (.forwardedFrame number sequence tag cell i) := fun _ _ e => nomatch e
theorem ingestConfirmation (sequence : Nat) : Statement (.ingestConfirmation sequence) := fun _ _ e => nomatch e
theorem downwardCommand (broadcast : Bool) (target tag length payload : Nat) : Statement (.downwardCommand broadcast target tag length payload) := fun _ _ e => nomatch e
theorem uplinkRecordBatch (number : Nat) (records : List (Nat × Nat)) : Statement (.uplinkRecordBatch number records) := fun _ _ e => nomatch e
theorem keyUpdateSubmit (r : CapReq) (e : Epmeir) (u : KeyUpdate) : Statement (.keyUpdateSubmit r e u) := fun _ h e => Option.some.inj e ▸ left (left (h))
theorem rewrap (tag : Nat) : Statement (.rewrap tag) := fun _ _ e => nomatch e
theorem rekeyMark (tag : Nat) : Statement (.rekeyMark tag) := fun _ _ e => nomatch e
theorem keyHeldRelease (sequence : Nat) (authentic : Bool) : Statement (.keyHeldRelease sequence authentic) := fun _ _ e => nomatch e
theorem attestRequest (r : CapReq) (tenant kind slot generation nonce : Nat) : Statement (.attestRequest r tenant kind slot generation nonce) := fun _ h e => Option.some.inj e ▸ left (left (left (left (h))))
theorem maskRefresh (word : Nat) : Statement (.maskRefresh word) := fun _ _ e => nomatch e
theorem entropyFailure : Statement (.entropyFailure) := fun _ _ e => nomatch e
theorem entropyRecovered : Statement (.entropyRecovered) := fun _ _ e => nomatch e
theorem zeroizeRelease : Statement (.zeroizeRelease) := fun _ _ e => nomatch e
theorem guaranteeWindowStart (level1 level2 : Nat) : Statement (.guaranteeWindowStart level1 level2) := fun _ _ e => nomatch e
theorem commandLatencyMiss (tenant displacedBy due onTime : Nat) : Statement (.commandLatencyMiss tenant displacedBy due onTime) := fun _ _ e => nomatch e
theorem stormWindowEnd (concentrator cell : Nat) : Statement (.stormWindowEnd concentrator cell) := fun _ _ e => nomatch e
theorem deferredRule (tag channel rule intervalEnd : Nat) : Statement (.deferredRule tag channel rule intervalEnd) := fun _ _ e => nomatch e
theorem gapEstimation (tag channel t0 : Nat) : Statement (.gapEstimation tag channel t0) := fun _ _ e => nomatch e
theorem profileForwardFill (tag channel t0 : Nat) : Statement (.profileForwardFill tag channel t0) := fun _ _ e => nomatch e
theorem tariffSetSubmit (r : CapReq) (e : Epmeir) (images : List Nat) : Statement (.tariffSetSubmit r e images) := fun _ h e => Option.some.inj e ▸ left (h)
theorem billingBoundary (calendar : Nat) : Statement (.billingBoundary calendar) := fun _ _ e => nomatch e
theorem closeSweep (calendar tag : Nat) : Statement (.closeSweep calendar tag) := fun _ _ e => nomatch e
theorem billingRead (r : CapReq) (tag : Nat) : Statement (.billingRead r tag) := fun _ h e => Option.some.inj e ▸ left (h)
theorem snapshotRead (r : CapReq) (tag period : Nat) : Statement (.snapshotRead r tag period) := fun _ h e => Option.some.inj e ▸ left (left (h))
theorem topUp (r : CapReq) (tag : Nat) (amount : Int) (sequence : Nat) : Statement (.topUp r tag amount sequence) := fun _ h e => Option.some.inj e ▸ left (left (left (h)))
theorem debtSet (r : CapReq) (tag : Nat) (debt : Int) (sequence share : Nat) : Statement (.debtSet r tag debt sequence share) := fun _ h e => Option.some.inj e ▸ left (left (left (left (h))))
theorem lockOutSet (r : CapReq) (tag : Nat) (on : Nat) : Statement (.lockOutSet r tag on) := fun _ h e => Option.some.inj e ▸ left (left (h))
theorem switchSubmit (r : CapReq) (a : SwitchArg) : Statement (.switchSubmit r a) := fun _ h e => Option.some.inj e ▸ left (h)
theorem emergencyAccept (r : CapReq) (tag : Nat) : Statement (.emergencyAccept r tag) := fun _ h e => Option.some.inj e ▸ left (h)
theorem emergencyOfferExpiry (tag : Nat) : Statement (.emergencyOfferExpiry tag) := fun _ _ e => nomatch e
theorem nodeWrite (r : CapReq) (a : NodeArg) : Statement (.nodeWrite r a) := fun _ h e => Option.some.inj e ▸ left (h)
theorem nodeRead (r : CapReq) (node : Nat) : Statement (.nodeRead r node) := fun _ h e => Option.some.inj e ▸ left (h)
theorem scoreReset (r : CapReq) (tag : Nat) : Statement (.scoreReset r tag) := fun _ h e => Option.some.inj e ▸ left (h)
theorem balanceEvaluation (node : Nat) : Statement (.balanceEvaluation node) := fun _ _ e => nomatch e
theorem counterSecondRollover : Statement (.counterSecondRollover) := fun _ _ e => nomatch e
theorem timeStep (upper : Word) : Statement (.timeStep upper) := fun _ _ e => nomatch e
theorem timeIncrWrite (int : Word) : Statement (.timeIncrWrite int) := fun _ _ e => nomatch e
theorem hostBeat (v : Word) : Statement (.hostBeat v) := fun _ _ e => nomatch e
theorem hostHeartbeatLapse : Statement (.hostHeartbeatLapse) := fun _ _ e => nomatch e
theorem snapCapture : Statement (.snapCapture) := fun _ _ e => nomatch e
theorem tsqPop (port : Nat) : Statement (.tsqPop port) := fun _ _ e => nomatch e
theorem ppsEdge : Statement (.ppsEdge) := fun _ _ e => nomatch e
theorem ptpSync (port : Nat) (offsetNs : Int) : Statement (.ptpSync port offsetNs) := fun _ _ e => nomatch e
theorem ptpAnnounce (port : Nat) (utcOffset : Int) (valid : Bool) : Statement (.ptpAnnounce port utcOffset valid) := fun _ _ e => nomatch e
theorem lockQualified : Statement (.lockQualified) := fun _ _ e => nomatch e
theorem sourceLost : Statement (.sourceLost) := fun _ _ e => nomatch e
theorem holdoverLimit : Statement (.holdoverLimit) := fun _ _ e => nomatch e
theorem leapInstant (flag : Int) : Statement (.leapInstant flag) := fun _ _ e => nomatch e
theorem rtcHourlyWrite : Statement (.rtcHourlyWrite) := fun _ _ e => nomatch e
theorem timeSet (r : CapReq) (sec ns : Nat) : Statement (.timeSet r sec ns) := fun _ h e => Option.some.inj e ▸ left (left (h))
theorem servoOwnerChange (r : CapReq) (owner : Nat) : Statement (.servoOwnerChange r owner) := fun _ h e => Option.some.inj e ▸ left (h)
theorem taiUtcOffsetWrite (r : CapReq) (offset : Int) : Statement (.taiUtcOffsetWrite r offset) := fun _ h e => Option.some.inj e ▸ left (h)
theorem linkUp (port : Nat) (autoNegotiated partnerPause : Bool) : Statement (.linkUp port autoNegotiated partnerPause) := fun _ _ e => nomatch e
theorem linkDown (port : Nat) : Statement (.linkDown port) := fun _ _ e => nomatch e
theorem rxSfd (port : Nat) : Statement (.rxSfd port) := fun _ _ e => nomatch e
theorem rxFrameEnd (port : Nat) (f : EthRx) : Statement (.rxFrameEnd port f) := fun _ _ e => nomatch e
theorem rxDispatch (port : Nat) : Statement (.rxDispatch port) := fun _ _ e => nomatch e
theorem rxStarveTimeout (port : Nat) : Statement (.rxStarveTimeout port) := fun _ _ e => nomatch e
theorem txFrameSent (port : Nat) : Statement (.txFrameSent port) := fun _ _ e => nomatch e
theorem pauseReceived (port quanta : Nat) : Statement (.pauseReceived port quanta) := fun _ _ e => nomatch e
theorem pauseQuantaExpiry (port : Nat) : Statement (.pauseQuantaExpiry port) := fun _ _ e => nomatch e
theorem pauseWatchdog (port : Nat) : Statement (.pauseWatchdog port) := fun _ _ e => nomatch e
theorem pauseIgnoreEnd (port : Nat) : Statement (.pauseIgnoreEnd port) := fun _ _ e => nomatch e
theorem pauseRepeat (port : Nat) : Statement (.pauseRepeat port) := fun _ _ e => nomatch e
theorem pcieLinkUp (gen width : Nat) : Statement (.pcieLinkUp gen width) := fun _ _ e => nomatch e
theorem pcieLinkDown : Statement (.pcieLinkDown) := fun _ _ e => nomatch e
theorem dmaFault (queue : Nat) : Statement (.dmaFault queue) := fun _ _ e => nomatch e
theorem hqDoorbell (queue : Nat) (tail : Word) (posted : List (Nat × Nat)) : Statement (.hqDoorbell queue tail posted) := fun _ _ e => nomatch e
theorem hostQueueEnable (queue : Nat) (ctrl : Word) : Statement (.hostQueueEnable queue ctrl) := fun _ _ e => nomatch e
theorem hostQueueDisable (queue : Nat) : Statement (.hostQueueDisable queue) := fun _ _ e => nomatch e
theorem drainComplete (queue : Nat) : Statement (.drainComplete queue) := fun _ _ e => nomatch e
theorem queueDoneCoalesce (queue : Nat) : Statement (.queueDoneCoalesce queue) := fun _ _ e => nomatch e
theorem mailboxDoorbell (length : Word) : Statement (.mailboxDoorbell length) := fun _ _ e => nomatch e
theorem mailboxResponseFree : Statement (.mailboxResponseFree) := fun _ _ e => nomatch e
theorem intCauseClear (v : Word) : Statement (.intCauseClear v) := fun _ _ e => nomatch e
theorem intEnableWrite (v : Word) : Statement (.intEnableWrite v) := fun _ _ e => nomatch e
theorem logReadCmd (autoIncrement : Bool) (media : Nat) : Statement (.logReadCmd autoIncrement media) := fun _ _ e => nomatch e
theorem logBoundsCmd : Statement (.logBoundsCmd) := fun _ _ e => nomatch e
theorem logFreezeCmd : Statement (.logFreezeCmd) := fun _ _ e => nomatch e
theorem logThawCmd : Statement (.logThawCmd) := fun _ _ e => nomatch e
theorem bar0BadAccess (read : Bool) : Statement (.bar0BadAccess read) := fun _ _ e => nomatch e
theorem registerWrite (offset : Nat) (v : Word) : Statement (.registerWrite offset v) := fun _ _ e => nomatch e
theorem rcRead (offset : Nat) : Statement (.rcRead offset) := fun _ _ e => nomatch e
theorem nandProgramComplete (partition : Nat) (units : List Nat) (ok : Bool) : Statement (.nandProgramComplete partition units ok) := fun _ _ e => nomatch e
theorem garbageCollection : Statement (.garbageCollection) := fun _ _ e => nomatch e
theorem gcGroupWrite : Statement (.gcGroupWrite) := fun _ _ e => nomatch e
theorem erasePendingWrite : Statement (.erasePendingWrite) := fun _ _ e => nomatch e
theorem blockErase : Statement (.blockErase) := fun _ _ e => nomatch e
theorem eraseComplete (ok : Bool) : Statement (.eraseComplete ok) := fun _ _ e => nomatch e
theorem readRefresh (block : Nat) : Statement (.readRefresh block) := fun _ _ e => nomatch e
theorem wearLevelling : Statement (.wearLevelling) := fun _ _ e => nomatch e
theorem checkpoint : Statement (.checkpoint) := fun _ _ e => nomatch e
theorem casketRootUpdate : Statement (.casketRootUpdate) := fun _ _ e => nomatch e
theorem archiveDiscard : Statement (.archiveDiscard) := fun _ _ e => nomatch e
theorem storageRead (r : CapReq) (unit count level : Nat) : Statement (.storageRead r unit count level) := fun _ h e => Option.some.inj e ▸ left (left (left (h)))
theorem storageWrite (r : CapReq) (unit count : Nat) (data : List Nat) : Statement (.storageWrite r unit count data) := fun _ h e => Option.some.inj e ▸ left (left (left (h)))
theorem storageDiscard (r : CapReq) (unit count : Nat) : Statement (.storageDiscard r unit count) := fun _ h e => Option.some.inj e ▸ left (left (h))
theorem storageFormat (r : CapReq) (v : Nat) : Statement (.storageFormat r v) := fun _ h e => Option.some.inj e ▸ left (h)
theorem batteryRingRead (r : CapReq) (slot : Nat) : Statement (.batteryRingRead r slot) := fun _ h e => Option.some.inj e ▸ left (h)
theorem batteryRingAck (r : CapReq) (v : Nat) : Statement (.batteryRingAck r v) := fun _ h e => Option.some.inj e ▸ left (h)
theorem repeatWindowEnd (log : Nat) : Statement (.repeatWindowEnd log) := fun _ _ e => nomatch e
theorem logRead (r : CapReq) (log position media : Nat) : Statement (.logRead r log position media) := fun _ h e => Option.some.inj e ▸ left (left (left (h)))
theorem logBounds (r : CapReq) (log : Nat) : Statement (.logBounds r log) := fun _ h e => Option.some.inj e ▸ left (h)
theorem legalFreeze (r : CapReq) : Statement (.legalFreeze r) := fun _ h e => Option.some.inj e ▸ h
theorem legalThaw (r : CapReq) : Statement (.legalThaw r) := fun _ h e => Option.some.inj e ▸ h
theorem legalExport (r : CapReq) (first last : Nat) : Statement (.legalExport r first last) := fun _ h e => Option.some.inj e ▸ left (left (h))
theorem operatingTimeCopy (hourly : Bool) : Statement (.operatingTimeCopy hourly) := fun _ _ e => nomatch e
theorem bigTopAliasWrite (portB clear : Bool) (addr : Nat) (data : Line) (enables : BitVec 16) (other : Option (Nat × Line × BitVec 16)) : Statement (.bigTopAliasWrite portB clear addr data enables other) := fun _ _ e => nomatch e
theorem bigTopScrub (addr : Nat) (corrected : Line) (portWrote : Option Line) : Statement (.bigTopScrub addr corrected portWrote) := fun _ _ e => nomatch e
theorem bigTopUncorrectable (addr : Nat) (committed : Bool) (frames : List Nat) : Statement (.bigTopUncorrectable addr committed frames) := fun _ _ e => nomatch e
theorem addressFault (addr : Nat) (requester : Nat) : Statement (.addressFault addr requester) := fun _ _ e => nomatch e
theorem bankPowerOff (bank : Nat) : Statement (.bankPowerOff bank) := fun _ _ e => nomatch e
theorem bankWake (bank : Nat) (onAccess : Bool) : Statement (.bankWake bank onAccess) := fun _ _ e => nomatch e
theorem bankClearComplete (bank : Nat) : Statement (.bankClearComplete bank) := fun _ _ e => nomatch e
theorem caravanUncorrectable (engine : Nat) : Statement (.caravanUncorrectable engine) := fun _ _ e => nomatch e
theorem seesawPush (queue port width : Nat) (item : Line) : Statement (.seesawPush queue port width item) := fun _ _ e => nomatch e
theorem seesawPop (queue : Nat) (error : Nat) : Statement (.seesawPop queue error) := fun _ _ e => nomatch e
theorem capSessionStart (session role tenant : Nat) : Statement (.capSessionStart session role tenant) := fun _ _ e => nomatch e
theorem capSessionEnd (session : Nat) : Statement (.capSessionEnd session) := fun _ _ e => nomatch e
theorem rs485Frame (frame : List Nat) (gapOk : Bool) : Statement (.rs485Frame frame gapOk) := fun _ _ e => nomatch e
theorem capRead (r : CapReq) (m : CapMsg) : Statement (.capRead r m) := fun _ h e => Option.some.inj e ▸ left (h)
theorem capWrite (r : CapReq) (m : CapMsg) (length : Nat) (value : Int) (more : Bool) : Statement (.capWrite r m length value more) := fun _ h e => Option.some.inj e ▸ left (left (h))
theorem capBulkData (r : CapReq) (m : CapMsg) (length : Nat) (value : Int) (more : Bool) : Statement (.capBulkData r m length value more) := fun _ h e => Option.some.inj e ▸ left (left (h))
theorem capResultRead (r : CapReq) (offset : Nat) : Statement (.capResultRead r offset) := fun _ h e => Option.some.inj e ▸ left (h)
theorem capAbort (r : CapReq) : Statement (.capAbort r) := fun _ h e => Option.some.inj e ▸ h
theorem bulkIdleTimeout (session : Nat) : Statement (.bulkIdleTimeout session) := fun _ _ e => nomatch e
theorem catalogueBundleSubmit (r : CapReq) (e : Epmeir) (entries : List BundleEntry) (failed : Option Nat) : Statement (.catalogueBundleSubmit r e entries failed) := fun _ h e => Option.some.inj e ▸ left (left (h))
theorem storeBankProgrammed (store : Nat) (ok : Bool) : Statement (.storeBankProgrammed store ok) := fun _ _ e => nomatch e
theorem sealSubmit (r : CapReq) (e : Epmeir) (a : SealArg) (burnOk : Bool) : Statement (.sealSubmit r e a burnOk) := fun _ h e => Option.some.inj e ▸ left (h)
theorem trustAnchorSubmit (r : CapReq) (e : Epmeir) (entries : List AnchorEntry) : Statement (.trustAnchorSubmit r e entries) := fun _ h e => Option.some.inj e ▸ left (h)
theorem firmwareSubmit (r : CapReq) (e : Epmeir) (f : FirmwareArg) : Statement (.firmwareSubmit r e f) := fun _ h e => Option.some.inj e ▸ left (h)
theorem firmwareEpochCommit (r : CapReq) (v : Nat) : Statement (.firmwareEpochCommit r v) := fun _ h e => Option.some.inj e ▸ left (h)
theorem tamperActivation (source : Nat) : Statement (.tamperActivation source) := fun _ _ e => nomatch e
theorem tamperStuck (source : Nat) : Statement (.tamperStuck source) := fun _ _ e => nomatch e
theorem tamperRelease (source : Nat) : Statement (.tamperRelease source) := fun _ _ e => nomatch e
theorem claspAlarmClear (r : CapReq) (mask : Nat) : Statement (.claspAlarmClear r mask) := fun _ h e => Option.some.inj e ▸ left (h)
theorem gateRequest (sequence authTag : Nat) (digests : List Nat) : Statement (.gateRequest sequence authTag digests) := fun _ _ e => nomatch e
theorem gateConfirmation (stage windowTag digest : Nat) : Statement (.gateConfirmation stage windowTag digest) := fun _ _ e => nomatch e
theorem itemReport (stage outcome : Nat) : Statement (.itemReport stage outcome) := fun _ _ e => nomatch e
theorem lockstepMismatch (pair : Nat) : Statement (.lockstepMismatch pair) := fun _ _ e => nomatch e
theorem ringmasterScrub (pair : Nat) (uncorrectable : Bool) : Statement (.ringmasterScrub pair uncorrectable) := fun _ _ e => nomatch e
theorem ringmasterDailyTest (pair0Ok pair1Ok : Bool) : Statement (.ringmasterDailyTest pair0Ok pair1Ok) := fun _ _ e => nomatch e
theorem gateReopen (r : CapReq) (v : Nat) (pair0Ok pair1Ok : Bool) : Statement (.gateReopen r v pair0Ok pair1Ok) := fun _ h e => Option.some.inj e ▸ left (h)
theorem gateProofTest (r : CapReq) (v : Nat) : Statement (.gateProofTest r v) := fun _ h e => Option.some.inj e ▸ left (h)
theorem engineWatchdog (engine : Nat) : Statement (.engineWatchdog engine) := fun _ _ e => nomatch e
theorem bistSlice (signatureOk : Bool) : Statement (.bistSlice signatureOk) := fun _ _ e => nomatch e
theorem bistStart (r : CapReq) (target : Nat) : Statement (.bistStart r target) := fun _ h e => Option.some.inj e ▸ left (h)
theorem bistComplete (result failingSet : Nat) (signatures : List Nat) : Statement (.bistComplete result failingSet signatures) := fun _ _ e => nomatch e
theorem temperatureSample (sensors : List Int) : Statement (.temperatureSample sensors) := fun _ _ e => nomatch e
theorem patinaMeasure (margins : List Int) : Statement (.patinaMeasure margins) := fun _ _ e => nomatch e
theorem vddSettle (margins : List Int) : Statement (.vddSettle margins) := fun _ _ e => nomatch e
theorem patinaMeasureCmd (r : CapReq) (v : Nat) (margins : List Int) : Statement (.patinaMeasureCmd r v margins) := fun _ h e => Option.some.inj e ▸ left (h)
theorem patinaRecalibrate (r : CapReq) (v : Nat) : Statement (.patinaRecalibrate r v) := fun _ h e => Option.some.inj e ▸ left (h)
theorem plcThermNRelease (lane : Nat) : Statement (.plcThermNRelease lane) := fun _ _ e => nomatch e
theorem mediumBusy (lane power : Nat) : Statement (.mediumBusy lane power) := fun _ _ e => nomatch e
theorem lengthFieldExceeded (dem : Nat) : Statement (.lengthFieldExceeded dem) := fun _ _ e => nomatch e
theorem ptpDelayResp (port : Nat) (delayNs : Int) : Statement (.ptpDelayResp port delayNs) := fun _ _ e => nomatch e
theorem ptpPdelayReq (port : Nat) (delayNs : Int) : Statement (.ptpPdelayReq port delayNs) := fun _ _ e => nomatch e
theorem ddrPatrolScrub : Statement (.ddrPatrolScrub) := fun _ _ e => nomatch e
theorem lqtAgeing : Statement (.lqtAgeing) := fun _ _ e => nomatch e
theorem drbgReseed : Statement (.drbgReseed) := fun _ _ e => nomatch e
theorem freezeMaxExpiry : Statement (.freezeMaxExpiry) := fun _ _ e => nomatch e
theorem sealNAssert : Statement (.sealNAssert) := fun _ _ e => nomatch e
theorem sealNRelease : Statement (.sealNRelease) := fun _ _ e => nomatch e
theorem unsealMaxExpiry : Statement (.unsealMaxExpiry) := fun _ _ e => nomatch e
theorem fanoutTimerExpiry : Statement (.fanoutTimerExpiry) := fun _ _ e => nomatch e
theorem clockMonitorFault : Statement (.clockMonitorFault) := fun _ _ e => nomatch e
theorem jugglerRotationTest : Statement (.jugglerRotationTest) := fun _ _ e => nomatch e
theorem governorEvaluation : Statement (.governorEvaluation) := fun _ _ e => nomatch e
theorem thermalAlarmClear : Statement (.thermalAlarmClear) := fun _ _ e => nomatch e

end Sys2Proof.Laws.Requests
end

