-- ==== Sys2Proof/Tests/Slice0.lean ====
section
/-! SUPPORT. Tests: ill-formed commands refused by WellFormed, the worked examples of the spec, and for every obligation with
hypotheses a state and operands that meet the hypotheses of each of its clauses. -/

namespace Sys2Proof.Tests

open Sys2Proof Sys2Proof.Machine

set_option maxRecDepth 10000
set_option synthInstance.maxHeartbeats 200000
set_option synthInstance.maxSize 1024
set_option linter.unusedVariables false
set_option Elab.async false

/-! ### Well-formedness -/

/-- Operands within their fields. -/
def goodCapReq : CapReq := ⟨1, 0⟩
/-- Operands within their fields. -/
def goodEpmeir : Epmeir := ⟨false, 0, 0, 0, 0, 0, false, false, 0⟩
/-- Operands within their fields. -/
def goodBoard : Board := ⟨false, 0, false, 0, false, false, false, false, false, false, false, 0, 0, 0, 0, 3, 0, 0, [], []⟩
/-- Operands within their fields. -/
def goodNative : Native := ⟨1, 0⟩
/-- Operands within their fields. -/
def goodDet : Det := ⟨0, 0, 0, 0, 0, 0, 0, 0, 0, 0, false⟩
/-- Operands within their fields. -/
def goodRxInfo : RxInfo := ⟨0, 0, goodNative, 0, 0, false, 0, 0, 0, 0, 0, []⟩
/-- Operands within their fields. -/
def goodElement : Element := ⟨0, 0, 0, 0, 0, 0, false, 0, false, false, 0, 0, 0⟩
/-- Operands within their fields. -/
def goodItemArg : ItemArg := ⟨0, 0, 0, 0, 0, 0, 0, 0⟩
/-- Operands within their fields. -/
def goodCampaignArg : CampaignArg := ⟨0, 0, 0, 0, 0, 0, 0, 0, 0, 0, 0, 0, 0⟩
/-- Operands within their fields. -/
def goodPlcTx : PlcTx := ⟨0, 1, 0, 0, 0, 0⟩
/-- Operands within their fields. -/
def goodPlcInfo : PlcInfo := ⟨false, false, 0, 0, 0, none, false⟩
/-- A data symbol without samples. -/
def goodSymbol : BurstSymbol := ⟨[], [], []⟩
/-- Operands within their fields. -/
def goodImage : Image := ⟨0, goodNative, 0, 0, 0, 0, 0, 0, 0, 0, [], 0⟩
/-- Operands within their fields. -/
def goodMoveExport : MoveExport := ⟨0, 0, 0, 0, [], 0, 0, 0, 0, 0, 0, 0, 0, 0, 0, 0, 0, 0, false, 0, false⟩
/-- Operands within their fields. -/
def goodKeyUpdate : KeyUpdate := ⟨0, 0, 0, 0, false, false, []⟩
/-- Operands within their fields. -/
def goodSwitchArg : SwitchArg := ⟨0, 0, 0, 0, 0, 0, 0, 0, 0, 0⟩
/-- Operands within their fields. -/
def goodNodeArg : NodeArg := ⟨0, 0, 0, 0, 0, 0, 0, 0⟩
/-- Operands within their fields. -/
def goodEthRx : EthRx := ⟨0, 0⟩
/-- Operands within their fields. -/
def goodCapMsg : CapMsg := ⟨0, 0, 0, 0, false, 0, false⟩
/-- Operands within their fields. -/
def goodSealArg : SealArg := ⟨0, 0, 0, 0, 0⟩
/-- Operands within their fields. -/
def goodFirmwareArg : FirmwareArg := ⟨0, false, false⟩

theorem test_wf_CapReq : goodCapReq.wf = true ∧ ([
      { goodCapReq with sess := 18 }, { goodCapReq with tag := (2 ^ 16) }] : List CapReq).all (fun x => !x.wf) = true := by decide
theorem test_wf_Epmeir : goodEpmeir.wf = true ∧ ([
      { goodEpmeir with typ := (2 ^ 16) }, { goodEpmeir with version := (2 ^ 16) }, { goodEpmeir with targetKind := (2 ^ 8) },
      { goodEpmeir with target := (2 ^ 64) }, { goodEpmeir with counter := (2 ^ 64) }] : List Epmeir).all (fun x => !x.wf) = true := by decide
theorem test_wf_Board : goodBoard.wf = true ∧ ([
      { goodBoard with fuseVariant := (2 ^ 8) }, { goodBoard with pcieGen := 4 }, { goodBoard with pcieWidth := (2 ^ 8) }] : List Board).all (fun x => !x.wf) = true := by decide
theorem test_wf_Native : goodNative.wf = true ∧ ([
      { goodNative with ntype := 0 }, { goodNative with ntype := 5 }, { goodNative with addr := (2 ^ 64) },
      ⟨3, 2 ^ 80⟩] : List Native).all (fun x => !x.wf) = true := by decide
theorem test_wf_Det : goodDet.wf = true ∧ ([
      { goodDet with port := 4 }, { goodDet with channel := (2 ^ 16) }, { goodDet with mode := (2 ^ 8) },
      { goodDet with sync := (2 ^ 64) }] : List Det).all (fun x => !x.wf) = true := by decide
theorem test_wf_RxInfo : goodRxInfo.wf = true ∧ ([
      { goodRxInfo with native := { goodNative with ntype := 0 } }, { goodRxInfo with syncNs := 2, endNs := 1 },
      { goodRxInfo with counter := (2 ^ 32) }, { goodRxInfo with rssi := (2 ^ 15) }, { goodRxInfo with esn0 := (2 ^ 15) },
      { goodRxInfo with length := (2 ^ 16) }] : List RxInfo).all (fun x => !x.wf) = true := by decide
theorem test_wf_Element : goodElement.wf = true ∧ ([
      { goodElement with timeKind := 3 }, { goodElement with event := 10 }, { goodElement with value := (2 ^ 63) }] : List Element).all (fun x => !x.wf) = true := by decide
theorem test_wf_ItemArg : goodItemArg.wf = true ∧ ([
      { goodItemArg with tag := (2 ^ 44) }, { goodItemArg with cls := (2 ^ 8) }, { goodItemArg with prio := (2 ^ 8) },
      { goodItemArg with length := (2 ^ 16) }, { goodItemArg with notBefore := (2 ^ 48) }, { goodItemArg with expiry := (2 ^ 48) },
      { goodItemArg with flags := (2 ^ 8) }] : List ItemArg).all (fun x => !x.wf) = true := by decide
theorem test_wf_CampaignArg : goodCampaignArg.wf = true ∧ ([
      { goodCampaignArg with campaign := (2 ^ 32) }, { goodCampaignArg with tenant := (2 ^ 8) },
      { goodCampaignArg with blockSize := (2 ^ 16) }, { goodCampaignArg with imageLength := (2 ^ 32) },
      { goodCampaignArg with startTai := (2 ^ 48) }, { goodCampaignArg with endTai := (2 ^ 48) }] : List CampaignArg).all (fun x => !x.wf) = true := by decide
theorem test_wf_PlcTx : goodPlcTx.wf = true ∧ ([
      { goodPlcTx with kind := 2 }, { goodPlcTx with prio := 3 }, { goodPlcTx with kind := 1, prio := 0 },
      { goodPlcTx with dest := (2 ^ 16) }, { goodPlcTx with bytes := 541 }, { goodPlcTx with payload := 1 }] : List PlcTx).all (fun x => !x.wf) = true := by decide
theorem test_wf_PlcInfo : goodPlcInfo.wf = true ∧ ([
      { goodPlcInfo with sender := (2 ^ 16) }, { goodPlcInfo with modulation := (2 ^ 8) }] : List PlcInfo).all (fun x => !x.wf) = true := by decide
theorem test_wf_Image : goodImage.wf = true ∧ ([
      { goodImage with tag := (2 ^ 44) }, { goodImage with cell := (2 ^ 8) }, { goodImage with tenant := (2 ^ 8) },
      { goodImage with channelMask := (2 ^ 16) }, { goodImage with channelConfig := (List.replicate 17 0) }] : List Image).all (fun x => !x.wf) = true := by decide
theorem test_wf_MoveExport : goodMoveExport.wf = true ∧ ([
      { goodMoveExport with tag := (2 ^ 44) }, { goodMoveExport with tenant := (2 ^ 8) }, { goodMoveExport with serial := (2 ^ 64) },
      { goodMoveExport with energy := (List.replicate 33 0) }] : List MoveExport).all (fun x => !x.wf) = true := by decide
theorem test_wf_KeyUpdate : goodKeyUpdate.wf = true ∧ ([
      { goodKeyUpdate with tenant := (2 ^ 8) }, { goodKeyUpdate with serial := (2 ^ 64) }, { goodKeyUpdate with entryCount := 3 }] : List KeyUpdate).all (fun x => !x.wf) = true := by decide
theorem test_wf_SwitchArg : goodSwitchArg.wf = true ∧ ([
      { goodSwitchArg with tag := (2 ^ 44) }, { goodSwitchArg with kind := (2 ^ 8) }, { goodSwitchArg with tenant := (2 ^ 8) },
      { goodSwitchArg with limitW := (2 ^ 32) }, { goodSwitchArg with durationS := (2 ^ 32) },
      { goodSwitchArg with cellMask := (2 ^ 16) }] : List SwitchArg).all (fun x => !x.wf) = true := by decide
theorem test_wf_NodeArg : goodNodeArg.wf = true ∧ ([
      { goodNodeArg with id := (2 ^ 16) }, { goodNodeArg with parent := (2 ^ 16) }, { goodNodeArg with kind := (2 ^ 8) },
      { goodNodeArg with tenant := (2 ^ 8) }] : List NodeArg).all (fun x => !x.wf) = true := by decide
theorem test_wf_EthRx : goodEthRx.wf = true ∧ ([{ goodEthRx with length := 2 ^ 16 }, { goodEthRx with data := 1 }] : List EthRx).all
    (fun x => !x.wf) = true := by decide
theorem test_wf_CapMsg : goodCapMsg.wf = true ∧ ([
      { goodCapMsg with version := (2 ^ 8) }, { goodCapMsg with index := (2 ^ 16) }, { goodCapMsg with sub := (2 ^ 8) },
      { goodCapMsg with offset := (2 ^ 32) }, { goodCapMsg with total := (2 ^ 32) }] : List CapMsg).all (fun x => !x.wf) = true := by decide
theorem test_wf_commands_1 : (
    [.porstNRelease goodBoard, .porstNAssert, .pfiNAssert, .pwrSafeAssert, .pfiNRelease, .internalRestart goodBoard,
      .railsLost, .powerStateSetActive goodCapReq, .powerStateSetStandby goodCapReq, .standbyEntered,
      .powerStateSetSleep goodCapReq, .powerStateSetRestart goodCapReq, .wakeAlarm, .vbatLow, .batteryChangeOver 0 false,
      .ddrUncorrectable [], .ddrPatrolScrub, .iqRetrain goodCapReq 0, .iqTrainingPass 0, .iqTrainingTimeout 0 0,
      .frameSlip 0, .lossOfClock 0, .clockRestored 0, .clippedMillisecond 0 0, .detection [goodDet],
      .frameDelivery 0 false goodRxInfo, .syncLost 0, .demodMaxHold 0, .cancellationPass 0 [], .fastPathResponse 0 0 0 0,
      .launchDeadline 0, .responseLaunch 0, .lbtListenEnd 0 0, .modulatorTxEnd 0, .pendantResponseLaunch 0,
      .stageItem goodCapReq goodItemArg, .stageWithdraw goodCapReq 0 0, .itemExpiry 0, .dutyBucketRoll,
      .broadcastWindow 0 0 0, .campaignStart goodCapReq goodCampaignArg 0, .campaignBegin 0, .campaignEnd 0, .thermalTrip 0,
      .thermalHoldoffEnd 0, .zcEdge 0 0 false, .zcMissingEdge 0, .halfCycle 0 [] 0, .plcPreambleDetection 0 false,
      .chainHeaderDecode 0 0 [], .chainBurst 0 false [] (List.replicate 4 goodSymbol), .plcFrameDelivery 0 false goodRxInfo goodPlcInfo,
      .mediumIdle 0 0, .virtualBusyEnd 0, .plcFrameQueued 0 goodPlcTx, .chainSlotStart 0, .standardCsmaTx 0, .plcTxEnd 0 [],
      .chainAckSend 0, .chainAckReceived 0, .ackTimeout 0, .lqtAgeing, .loadngMessage 0 0 0 0 0 0,
      .eapPskBootstrap 0 0 false] : List Instr).all Instr.wf = true := by decide
theorem test_wf_commands_2 : (
    [.linkQualityRead goodCapReq 0 0, .tunnelledDatagram 0 goodRxInfo, .linkLayer 0, .unwrap 0 false false, .ingestCommit 0,
      .parse 0 [], .validation 0, .billing 0, .scalesAdd 0, .resultCommit 0, .uplinkRecord 0, .uplinkBatch 0,
      .batchConfirmation 0 0, .endpointAdmit goodCapReq goodImage, .endpointAdmitMove goodCapReq goodImage goodMoveExport,
      .endpointRemove goodCapReq 0, .endpointRead goodCapReq 0, .quarantineEnd 0, .taiMidnight, .cascadeSessionStart 0 0 0,
      .cascadeSessionLoss 0, .forwardedFrame 0 0 0 0 goodRxInfo, .ingestConfirmation 0, .downwardCommand false 0 0 0 0,
      .uplinkRecordBatch 0 [], .keyUpdateSubmit goodCapReq goodEpmeir goodKeyUpdate, .rewrap 0, .rekeyMark 0,
      .keyHeldRelease 0 false, .attestRequest goodCapReq 0 0 0 0 0, .maskRefresh 0, .drbgReseed, .entropyFailure,
      .entropyRecovered, .zeroizeRelease, .guaranteeWindowStart 0 0, .commandLatencyMiss 0 0 0 0, .stormWindowEnd 0 0,
      .deferredRule 0 0 0 0, .gapEstimation 0 0 0, .profileForwardFill 0 0 0, .tariffSetSubmit goodCapReq goodEpmeir [],
      .billingBoundary 0, .closeSweep 0 0, .billingRead goodCapReq 0, .snapshotRead goodCapReq 0 0, .topUp goodCapReq 0 0 0,
      .debtSet goodCapReq 0 0 0 0, .lockOutSet goodCapReq 0 0, .switchSubmit goodCapReq goodSwitchArg,
      .emergencyAccept goodCapReq 0, .emergencyOfferExpiry 0, .nodeWrite goodCapReq goodNodeArg, .nodeRead goodCapReq 0,
      .scoreReset goodCapReq 0, .balanceEvaluation 0, .counterSecondRollover, .timeStep default, .timeIncrWrite default,
      .hostBeat default, .hostHeartbeatLapse, .snapCapture, .tsqPop 0, .ppsEdge] : List Instr).all Instr.wf = true := by decide
theorem test_wf_commands_3 : (
    [.ptpSync 0 0, .ptpAnnounce 0 0 false, .lockQualified, .sourceLost, .holdoverLimit, .leapInstant 1, .rtcHourlyWrite,
      .timeSet goodCapReq 0 0, .servoOwnerChange goodCapReq 0, .taiUtcOffsetWrite goodCapReq 0, .linkUp 0 false false,
      .linkDown 0, .rxSfd 0, .rxFrameEnd 0 goodEthRx, .rxDispatch 0, .rxStarveTimeout 0, .txFrameSent 0, .pauseReceived 0 0,
      .pauseQuantaExpiry 0, .pauseWatchdog 0, .pauseIgnoreEnd 0, .pauseRepeat 0, .pcieLinkUp 0 0, .pcieLinkDown,
      .dmaFault 0, .hqDoorbell 0 default [], .hostQueueEnable 0 default, .hostQueueDisable 0, .drainComplete 0,
      .queueDoneCoalesce 0, .mailboxDoorbell default, .mailboxResponseFree, .intCauseClear default, .intEnableWrite default,
      .logReadCmd false 0, .logBoundsCmd, .logFreezeCmd, .logThawCmd, .bar0BadAccess false, .registerWrite 0 default,
      .rcRead 0, .nandProgramComplete 0 [] false, .garbageCollection, .gcGroupWrite, .erasePendingWrite, .blockErase,
      .eraseComplete false, .readRefresh 0, .wearLevelling, .checkpoint, .casketRootUpdate, .archiveDiscard,
      .storageRead goodCapReq 0 0 0, .storageWrite goodCapReq 0 0 [], .storageDiscard goodCapReq 0 0,
      .storageFormat goodCapReq 0, .batteryRingRead goodCapReq 0, .batteryRingAck goodCapReq 0, .repeatWindowEnd 0,
      .logRead goodCapReq 0 0 0, .logBounds goodCapReq 0, .legalFreeze goodCapReq, .legalThaw goodCapReq,
      .legalExport goodCapReq 0 0] : List Instr).all Instr.wf = true := by decide
theorem test_wf_commands_4 : (
    [.freezeMaxExpiry, .operatingTimeCopy false, .bigTopAliasWrite false false 0 0 0 none, .bigTopScrub 0 0 none,
      .bigTopUncorrectable 0 false [], .addressFault 0 0, .bankPowerOff 0, .bankWake 0 false, .bankClearComplete 0,
      .caravanUncorrectable 0, .seesawPush 0 0 0 0, .seesawPop 0 0, .capSessionStart 1 0 0, .capSessionEnd 0,
      .rs485Frame [] false, .capRead goodCapReq goodCapMsg, .capWrite goodCapReq goodCapMsg 0 0 false,
      .capBulkData goodCapReq goodCapMsg 0 0 false, .capResultRead goodCapReq 0, .capAbort goodCapReq, .bulkIdleTimeout 0,
      .catalogueBundleSubmit goodCapReq goodEpmeir [] none, .storeBankProgrammed 0 false,
      .sealSubmit goodCapReq goodEpmeir goodSealArg false, .sealNAssert, .sealNRelease, .unsealMaxExpiry,
      .trustAnchorSubmit goodCapReq goodEpmeir [], .firmwareSubmit goodCapReq goodEpmeir goodFirmwareArg,
      .firmwareEpochCommit goodCapReq 0, .tamperActivation 0, .tamperStuck 0, .tamperRelease 0,
      .claspAlarmClear goodCapReq 0, .gateRequest 0 0 [], .gateConfirmation 0 0 0, .itemReport 0 0, .fanoutTimerExpiry,
      .lockstepMismatch 0, .clockMonitorFault, .ringmasterScrub 0 false, .ringmasterDailyTest false false,
      .gateReopen goodCapReq 0 false false, .gateProofTest goodCapReq 0, .engineWatchdog 0, .jugglerRotationTest,
      .bistSlice false, .bistStart goodCapReq 0, .bistComplete 0 0 [], .temperatureSample (List.replicate 8 0),
      .governorEvaluation, .thermalAlarmClear, .patinaMeasure [], .vddSettle [], .patinaMeasureCmd goodCapReq 0 [],
      .patinaRecalibrate goodCapReq 0, .plcThermNRelease 0, .mediumBusy 0 0, .lengthFieldExceeded 0, .ptpDelayResp 0 0,
      .ptpPdelayReq 0 0] : List Instr).all Instr.wf = true := by decide
theorem test_ill_formed_1 : (
    [.porstNRelease ({ goodBoard with fuseVariant := (2 ^ 8) }),
      .internalRestart ({ goodBoard with fuseVariant := (2 ^ 8) }), .powerStateSetActive ({ goodCapReq with sess := 18 }),
      .powerStateSetStandby ({ goodCapReq with sess := 18 }), .powerStateSetSleep ({ goodCapReq with sess := 18 }),
      .powerStateSetRestart ({ goodCapReq with sess := 18 }), .iqRetrain ({ goodCapReq with sess := 18 }) 0,
      .iqRetrain goodCapReq 4, .iqTrainingPass 4, .iqTrainingTimeout 4 0, .frameSlip 4, .lossOfClock 4, .clockRestored 4,
      .clippedMillisecond 4 0, .detection [{ goodDet with port := 4 }], .fastPathResponse 0 (2 ^ 16) 0 0,
      .frameDelivery 0 false ({ goodRxInfo with native := { goodNative with ntype := 0 } }),
      .cancellationPass 0 [(0, { goodRxInfo with native := { goodNative with ntype := 0 } })], .lbtListenEnd 4 0, .modulatorTxEnd 4,
      .stageItem ({ goodCapReq with sess := 18 }) goodItemArg, .stageItem goodCapReq ({ goodItemArg with tag := (2 ^ 44) }),
      .stageWithdraw ({ goodCapReq with sess := 18 }) 0 0, .stageWithdraw goodCapReq (2 ^ 44) 0,
      .broadcastWindow (2 ^ 8) 0 0, .campaignStart ({ goodCapReq with sess := 18 }) goodCampaignArg 0,
      .campaignStart goodCapReq ({ goodCampaignArg with campaign := (2 ^ 32) }) 0, .campaignBegin (2 ^ 32),
      .campaignEnd (2 ^ 32), .thermalTrip 3, .thermalHoldoffEnd 3, .zcEdge 3 0 false, .zcMissingEdge 3, .halfCycle 3 [] 0,
      .plcPreambleDetection 3 false, .chainHeaderDecode 3 0 [],
      .chainBurst 3 false [] (List.replicate 4 goodSymbol), .chainBurst 0 false [] [], .campaignStart goodCapReq goodCampaignArg 1,
      .plcFrameDelivery 3 false goodRxInfo goodPlcInfo,
      .plcFrameDelivery 0 false ({ goodRxInfo with native := { goodNative with ntype := 0 } }) goodPlcInfo,
      .plcFrameDelivery 0 false goodRxInfo ({ goodPlcInfo with sender := (2 ^ 16) }), .mediumIdle 3 0,
      .virtualBusyEnd 3, .plcFrameQueued 3 goodPlcTx, .plcFrameQueued 0 ({ goodPlcTx with kind := 2 }), .chainSlotStart 3,
      .standardCsmaTx 3, .plcTxEnd 3 [], .chainAckSend 3] : List Instr).all (fun c => !c.wf) = true := by decide
theorem test_ill_formed_2 : (
    [.chainAckReceived 3, .ackTimeout 3, .loadngMessage 3 0 0 0 0 0, .loadngMessage 0 (2 ^ 8) 0 0 0 0,
      .loadngMessage 0 0 (2 ^ 16) 0 0 0, .loadngMessage 0 0 0 (2 ^ 16) 0 0, .loadngMessage 0 0 0 0 (2 ^ 16) 0, .eapPskBootstrap 3 0 false,
      .eapPskBootstrap 0 (2 ^ 44) false, .linkQualityRead ({ goodCapReq with sess := 18 }) 0 0,
      .linkQualityRead goodCapReq 3 0, .linkQualityRead goodCapReq 0 (2 ^ 16),
      .tunnelledDatagram 0 ({ goodRxInfo with native := { goodNative with ntype := 0 } }),
      .parse 0 [{ goodElement with timeKind := 3 }], .uplinkBatch 8, .batchConfirmation 8 0,
      .endpointAdmit ({ goodCapReq with sess := 18 }) goodImage,
      .endpointAdmit goodCapReq ({ goodImage with tag := (2 ^ 44) }),
      .endpointAdmitMove ({ goodCapReq with sess := 18 }) goodImage goodMoveExport,
      .endpointAdmitMove goodCapReq ({ goodImage with tag := (2 ^ 44) }) goodMoveExport,
      .endpointAdmitMove goodCapReq goodImage ({ goodMoveExport with tag := (2 ^ 44) }),
      .endpointRemove ({ goodCapReq with sess := 18 }) 0, .endpointRemove goodCapReq (2 ^ 44),
      .endpointRead ({ goodCapReq with sess := 18 }) 0, .endpointRead goodCapReq (2 ^ 44), .quarantineEnd (2 ^ 44),
      .cascadeSessionStart (2 ^ 16) 0 0, .cascadeSessionStart 0 (2 ^ 64) 0, .cascadeSessionLoss (2 ^ 16),
      .forwardedFrame (2 ^ 16) 0 0 0 goodRxInfo, .forwardedFrame 0 0 (2 ^ 44) 0 goodRxInfo,
      .forwardedFrame 0 0 0 (2 ^ 4) goodRxInfo,
      .forwardedFrame 0 0 0 0 ({ goodRxInfo with native := { goodNative with ntype := 0 } }),
      .downwardCommand false (2 ^ 16) 0 0 0, .downwardCommand false 0 (2 ^ 44) 0 0, .downwardCommand false 0 0 (2 ^ 32) 0,
      .uplinkRecordBatch (2 ^ 16) [],
      .keyUpdateSubmit ({ goodCapReq with sess := 18 }) goodEpmeir goodKeyUpdate,
      .keyUpdateSubmit goodCapReq ({ goodEpmeir with typ := (2 ^ 16) }) goodKeyUpdate,
      .keyUpdateSubmit goodCapReq goodEpmeir ({ goodKeyUpdate with tenant := (2 ^ 8) }), .rewrap (2 ^ 44),
      .rekeyMark (2 ^ 44), .attestRequest ({ goodCapReq with sess := 18 }) 0 0 0 0 0,
      .attestRequest goodCapReq (2 ^ 8) 0 0 0 0, .attestRequest goodCapReq 0 (2 ^ 8) 0 0 0,
      .attestRequest goodCapReq 0 0 (2 ^ 8) 0 0, .attestRequest goodCapReq 0 0 0 (2 ^ 32) 0, .commandLatencyMiss 8 0 0 0,
      .commandLatencyMiss 0 0 1 2, .stormWindowEnd 0 (2 ^ 4), .deferredRule (2 ^ 44) 0 0 0, .deferredRule 0 16 0 0,
      .deferredRule 0 0 64 0] : List Instr).all (fun c => !c.wf) = true := by decide
theorem test_ill_formed_3 : (
    [.gapEstimation (2 ^ 44) 0 0, .gapEstimation 0 16 0, .profileForwardFill (2 ^ 44) 0 0, .profileForwardFill 0 16 0,
      .tariffSetSubmit ({ goodCapReq with sess := 18 }) goodEpmeir [],
      .tariffSetSubmit goodCapReq ({ goodEpmeir with typ := (2 ^ 16) }) [], .billingBoundary (2 ^ 8), .closeSweep (2 ^ 8) 0,
      .closeSweep 0 (2 ^ 44), .billingRead ({ goodCapReq with sess := 18 }) 0, .billingRead goodCapReq (2 ^ 44),
      .snapshotRead ({ goodCapReq with sess := 18 }) 0 0, .snapshotRead goodCapReq (2 ^ 44) 0,
      .snapshotRead goodCapReq 0 (2 ^ 32), .topUp ({ goodCapReq with sess := 18 }) 0 0 0, .topUp goodCapReq (2 ^ 44) 0 0,
      .topUp goodCapReq 0 (2 ^ 63) 0, .topUp goodCapReq 0 0 (2 ^ 64), .debtSet ({ goodCapReq with sess := 18 }) 0 0 0 0,
      .debtSet goodCapReq (2 ^ 44) 0 0 0, .debtSet goodCapReq 0 (2 ^ 63) 0 0, .debtSet goodCapReq 0 0 (2 ^ 64) 0,
      .debtSet goodCapReq 0 0 0 (2 ^ 16), .lockOutSet ({ goodCapReq with sess := 18 }) 0 0,
      .lockOutSet goodCapReq (2 ^ 44) 0, .lockOutSet goodCapReq 0 (2 ^ 8),
      .switchSubmit ({ goodCapReq with sess := 18 }) goodSwitchArg,
      .switchSubmit goodCapReq ({ goodSwitchArg with tag := (2 ^ 44) }),
      .emergencyAccept ({ goodCapReq with sess := 18 }) 0, .emergencyAccept goodCapReq (2 ^ 44),
      .emergencyOfferExpiry (2 ^ 44), .nodeWrite ({ goodCapReq with sess := 18 }) goodNodeArg,
      .nodeWrite goodCapReq ({ goodNodeArg with id := (2 ^ 16) }), .nodeRead ({ goodCapReq with sess := 18 }) 0,
      .nodeRead goodCapReq (2 ^ 16), .scoreReset ({ goodCapReq with sess := 18 }) 0, .scoreReset goodCapReq (2 ^ 44),
      .balanceEvaluation (2 ^ 16), .tsqPop 4, .ptpSync 4 0, .ptpAnnounce 4 0 false, .ptpAnnounce 0 (2 ^ 15) false,
      .leapInstant 0, .timeSet ({ goodCapReq with sess := 18 }) 0 0, .timeSet goodCapReq (2 ^ 48) 0,
      .timeSet goodCapReq 0 (2 ^ 32), .servoOwnerChange ({ goodCapReq with sess := 18 }) 0,
      .servoOwnerChange goodCapReq (2 ^ 8), .taiUtcOffsetWrite ({ goodCapReq with sess := 18 }) 0,
      .taiUtcOffsetWrite goodCapReq (2 ^ 15)] : List Instr).all (fun c => !c.wf) = true := by decide
theorem test_ill_formed_4 : (
    [.linkUp 4 false false, .linkDown 4, .rxSfd 4, .rxFrameEnd 4 goodEthRx, .rxFrameEnd 0 ({ goodEthRx with data := 1 }),
      .rxDispatch 4, .rxStarveTimeout 4, .txFrameSent 4, .pauseReceived 4 0, .pauseReceived 0 (2 ^ 16),
      .pauseQuantaExpiry 4, .pauseWatchdog 4, .pauseIgnoreEnd 4, .pauseRepeat 4, .pcieLinkUp 4 0, .pcieLinkUp 0 (2 ^ 8),
      .dmaFault 16, .hqDoorbell 16 default [], .hostQueueEnable 16 default, .hostQueueDisable 16, .drainComplete 16,
      .queueDoneCoalesce 16, .registerWrite 0x10000 default, .registerWrite 2 default, .rcRead 0x10000, .rcRead 2,
      .nandProgramComplete 8 [] false, .storageRead ({ goodCapReq with sess := 18 }) 0 0 0,
      .storageRead goodCapReq (2 ^ 32) 0 0, .storageRead goodCapReq 0 (2 ^ 16) 0, .storageRead goodCapReq 0 0 (2 ^ 8),
      .storageWrite ({ goodCapReq with sess := 18 }) 0 0 [], .storageWrite goodCapReq (2 ^ 32) 0 [],
      .storageWrite goodCapReq 0 (2 ^ 16) [], .storageWrite goodCapReq 0 0 [0],
      .storageDiscard ({ goodCapReq with sess := 18 }) 0 0, .storageDiscard goodCapReq (2 ^ 32) 0,
      .storageDiscard goodCapReq 0 (2 ^ 32), .storageFormat ({ goodCapReq with sess := 18 }) 0,
      .storageFormat goodCapReq (2 ^ 32), .batteryRingRead ({ goodCapReq with sess := 18 }) 0,
      .batteryRingRead goodCapReq (2 ^ 8), .batteryRingAck ({ goodCapReq with sess := 18 }) 0,
      .batteryRingAck goodCapReq (2 ^ 8), .repeatWindowEnd 4, .logRead ({ goodCapReq with sess := 18 }) 0 0 0,
      .logRead goodCapReq (2 ^ 8) 0 0, .logRead goodCapReq 0 (2 ^ 64) 0, .logRead goodCapReq 0 0 5, .logReadCmd false 5, .logBounds ({ goodCapReq with sess := 18 }) 0,
      .logBounds goodCapReq (2 ^ 8)] : List Instr).all (fun c => !c.wf) = true := by decide
theorem test_ill_formed_5 : (
    [.legalFreeze ({ goodCapReq with sess := 18 }), .legalThaw ({ goodCapReq with sess := 18 }),
      .legalExport ({ goodCapReq with sess := 18 }) 0 0, .legalExport goodCapReq (2 ^ 64) 0,
      .legalExport goodCapReq 0 (2 ^ 64), .bigTopAliasWrite false false 0x1000000 0 0 none,
      .bigTopAliasWrite false false 8 0 0 none, .bigTopScrub 0x1000000 0 none, .bigTopScrub 8 0 none,
      .bigTopUncorrectable 0x1000000 false [], .bankPowerOff 32, .bankWake 32 false, .bankClearComplete 32,
      .caravanUncorrectable 20, .seesawPush 96 0 0 0, .seesawPop 96 0, .seesawPop 0 3, .capSessionStart 0 0 0,
      .capSessionStart 17 0 0, .capSessionStart 1 3 0, .capSessionStart 1 0 8, .capSessionEnd 18,
      .capRead ({ goodCapReq with sess := 18 }) goodCapMsg, .capRead goodCapReq ({ goodCapMsg with version := (2 ^ 8) }),
      .rs485Frame [256] false, .gateRequest 0 (2 ^ 64) [], .capWrite ({ goodCapReq with sess := 18 }) goodCapMsg 0 0 false,
      .capWrite goodCapReq ({ goodCapMsg with version := (2 ^ 8) }) 0 0 false, .capWrite goodCapReq goodCapMsg (2 ^ 16) 0 false,
      .capBulkData ({ goodCapReq with sess := 18 }) goodCapMsg 0 0 false,
      .capBulkData goodCapReq ({ goodCapMsg with version := (2 ^ 8) }) 0 0 false,
      .capBulkData goodCapReq goodCapMsg (2 ^ 16) 0 false, .capResultRead ({ goodCapReq with sess := 18 }) 0,
      .capResultRead goodCapReq (2 ^ 32), .capAbort ({ goodCapReq with sess := 18 }), .bulkIdleTimeout 18,
      .catalogueBundleSubmit ({ goodCapReq with sess := 18 }) goodEpmeir [] none,
      .catalogueBundleSubmit goodCapReq ({ goodEpmeir with typ := (2 ^ 16) }) [] none,
      .catalogueBundleSubmit goodCapReq goodEpmeir [] (some 16), .storeBankProgrammed 16 false,
      .sealSubmit ({ goodCapReq with sess := 18 }) goodEpmeir goodSealArg false,
      .sealSubmit goodCapReq ({ goodEpmeir with typ := (2 ^ 16) }) goodSealArg false,
      .trustAnchorSubmit ({ goodCapReq with sess := 18 }) goodEpmeir [],
      .trustAnchorSubmit goodCapReq ({ goodEpmeir with typ := (2 ^ 16) }) [],
      .firmwareSubmit ({ goodCapReq with sess := 18 }) goodEpmeir goodFirmwareArg,
      .firmwareSubmit goodCapReq ({ goodEpmeir with typ := (2 ^ 16) }) goodFirmwareArg,
      .firmwareEpochCommit ({ goodCapReq with sess := 18 }) 0, .firmwareEpochCommit goodCapReq (2 ^ 8),
      .tamperActivation 12, .tamperStuck 15, .tamperRelease 15, .claspAlarmClear ({ goodCapReq with sess := 18 }) 0,
      .claspAlarmClear goodCapReq (2 ^ 32)] : List Instr).all (fun c => !c.wf) = true := by decide
theorem test_ill_formed_6 : (
    [.lockstepMismatch 2, .ringmasterScrub 2 false, .gateReopen ({ goodCapReq with sess := 18 }) 0 false false,
      .gateReopen goodCapReq (2 ^ 8) false false, .gateProofTest ({ goodCapReq with sess := 18 }) 0,
      .gateProofTest goodCapReq (2 ^ 8), .engineWatchdog 20, .bistStart ({ goodCapReq with sess := 18 }) 0,
      .bistStart goodCapReq (2 ^ 8), .bistComplete 3 0 [], .temperatureSample [],
      .patinaMeasureCmd ({ goodCapReq with sess := 18 }) 0 [], .patinaMeasureCmd goodCapReq (2 ^ 8) [],
      .patinaRecalibrate ({ goodCapReq with sess := 18 }) 0, .patinaRecalibrate goodCapReq (2 ^ 8), .plcThermNRelease 3,
      .mediumBusy 3 0, .ptpDelayResp 4 0, .ptpPdelayReq 4 0] : List Instr).all (fun c => !c.wf) = true := by decide

/-! ### States -/

/-- A part with catalogue objects set. -/
def wc (s : State) (l : List (Nat × Int)) : State := l.foldl (fun (s : State) (e : Nat × Int) => s.set e.1 e.2) s
/-- A part that runs: start-up over, the link to the host up, a free block. -/
def up0 : State :=
  wc { State.reset with
    pins := { State.reset.pins with porst := false, safe := false }
    pw := { State.reset.pw with stage := 0x0D, carousel := true, tightrope := true }
    time := { State.reset.time with sec := 800000000 }
    cask := { State.reset.cask with unitsPerBlock := 8, logicalUnits := 100, dirtyLimit := 1000000, blocks :=
      [(0, { state := 0, erases := 0, stream := 0, used := 0, filled := 0, refresh := false }),
       (1, { state := 0, erases := 0, stream := 0, used := 0, filled := 0, refresh := false })] } } [(Obj.hostLink, 0x0704), (Obj.powerState, 0), (Obj.gateState, 0)]
/-- A session of a principal. -/
def sesOf (role tenant : Nat) : Session :=
  { role, tenant, lastAt := 0, kept := [], resp := none, bulk := none, held := none, closing := false }
/-- The administrator's session. -/
def adm : Session := sesOf 0 0xFF
/-- A request on it. -/
def r1 : CapReq := { sess := 1, tag := 7 }
/-- The part with the administrator's session open. -/
def cap0 : State := { up0 with sessions := [(1, adm)] }
/-- A part with a host queue changed. -/
def hq0 (h : HostQueue) : State := { up0 with hif.hq := h :: List.replicate 15 .reset }
/-- A board on which nothing fails. -/
def board0 : Board :=
  { fuseOk := true, fuseVariant := 0, pllOk := true, ddrGiB := 8, ddrCacheOk := true, bist0Ok := true, bist1Ok := true,
    entropyOk := true, nandOk := true, mirrorsOk := true, nandErased := true, chipEnables := 4, ceMiB := 65536, goodBlocks := 4096,
    unitsPerBlock := 256, pcieGen := 4, pcieWidth := 8, startMs := 900, lostIngest := [], lostRecords := [] }
/-- A container with nothing wrong in it, of a type and signer. -/
def ep (typ signer counter : Nat) : Epmeir :=
  { magicOk := true, typ, version := 1, targetKind := 1, target := Config.deviceSerial, counter, lengthOk := true, hashOk := true, signer }
/-- A record of an endpoint of tenant 0 in cell 0. -/
def rec0 (tag : Nat) : Record :=
  { tag, state := 2, ntype := 1, cell := 0, tenant := 0, naddr := 500, flags := 0, billingHome := 0, kekGen := 0, blob := none, upCounter := 0,
    lastHeard := 0, lastCell := 0, lastQuality := 0, heard := [], calendar := 0, phase := 0, node := 0, score := 0, chanMask := 0,
    chanConfig := [], tamperCount := 0, tamperFirst := 0, tamperLast := 0, tamperCode := 0,
    summary := { outages := 0, restorations := 0, lastOutage := 0, lastRestoration := 0, alarms := 0, lastAlarmCode := 0, lastAlarm := 0, flags := 0 },
    admittedAt := 0, moves := 0, serving := 0, bucket := 0, downPending := 0, downCounter := 0, prevTag := 0, removedAt := 0, slot := 0,
    scoreArmed := false, bad := false, counted := true }
/-- A frame of endpoint 5 on the path, at a stage. -/
def frame0 (stage : Nat) : Frame :=
  { id := 1, stage, cell := 0, quality := 100, native := { ntype := 1, addr := 500 }, tag := 5, tenant := 0, counter := 1, suite := 0,
    ackReq := false, syncNs := 0, endNs := 0, length := 20, bytes := 0, mode := 1, channel := 0, forwarded := none, resp := false,
    retx := false, missed := false, journal := 0, bill := 0, status := 0, storm := false, readings := [], compare := [], events := [],
    rejectedRules := [], books := [], replay := false, inPlc := false, port := 0, centreHz := 0, rxPass := 0, desc := 0, stageSeen := 0,
    ups := [], item := 0, ask := 0, down := 0 }
/-- An item staged for endpoint 5. -/
def item0 : Item :=
  { seq := 1, tag := 5, cls := 1, prio := 0, length := 10, notBefore := 0, expiry := 0, sends := 0, flags := 0, payload := 3, held := false,
    request := none }
/-- The part with the record of endpoint 5 and the administrator's session. -/
def end0 : State := { cap0 with nand.recs := [(5, rec0 5)] }
/-- A demodulator on port 0. -/
def det0 : Det :=
  { port := 0, grid := 0, channel := 3, mode := 1, syncNs := 800000000000000000, freqOff := 0, metric := 50, power := -90, symNs := 10000, sync := 0, unsupported := false }
def demod0 : Demod :=
  { id := 1, det := det0, hz := 868950000, at_ := 800000000000000000, reserved := false, group := 0, clipped := false, phase := 0, snip := none, done := false }
/-- Port 0 up. -/
def rad0 : State := wc { cap0 with car.demods := [demod0], car.nextDemod := 2 } [(Obj.iqPortStatus 0, 2), (Obj.carouselEnable, 1), (Obj.cellEnable, 1)]
/-- What a receiver decoded. -/
def info0 : RxInfo :=
  { syncNs := 800000000000000000, endNs := 800000000001000000, native := { ntype := 1, addr := 500 }, counter := 1, suite := 0, ackReq := false, rssi := -90, esn0 := 20,
    modeParam := 0, length := 20, frame := 99, copies := [] }
/-- The same with its native address in the hash table, and tenant 0 enabled. -/
def reg0 : State :=
  let s : State := wc end0 [(Obj.tenantEnable, 1)]
  { s with nand.hash := ((s.placeRecord [] 0 5 { ntype := 1, addr := 500 }).map (·.1)).getD [] }
/-- Lane 0 in use. -/
def lan0 (x : Lane) : State :=
  wc { cap0 with lanes := [x, .reset, .reset] } [(Obj.tightropeEnable, 7), (Obj.chainEnable 0, 1), (Obj.cellEnable, 0xFFFF)]
/-- A frame to be sent on a lane. -/
def out0 : PlcOut :=
  freshOut { kind := 0, prio := 1, dest := 9, stage := 0, bytes := 20, payload := 77 } 0 0
def lane0 : Lane := .reset
def lockedZc : Zc := { last := 800000000000000000 - 10000000, halves := List.replicate 16 10000000, filled := 0, locked := true, rise := 0, stamp := 0 }
def plc0 : PlcInfo :=
  { chain := false, clipped := false, modulation := 1, sender := 4, busyNs := 5000, toneMap := none, toneMapRequest := false }
/-- A header of a frame of one block in BPSK. -/
def hdr0 : ChainFields :=
  { sourceRouted := false, firstGapUs := 100, burstPeriodUs := 10000, blocksMinusOne := 0, modulation := 0, priority := 1 }
/-- The soft values of a header word as they come. -/
def hsoft (w : Nat) : List Int := (headerCoded w).map fun b => if b then -8 else 8
/-- The billing state of endpoint 5. -/
def bill0 : Bill :=
  { tag := 5, calendar := 0, rate := 0, flags := 0, period := 0, lastBoundary := 800000000, energy := List.replicate 32 0,
    demand := List.replicate 32 (0, 0), ringBase := 0, ring := [], ringOff := 0, ringNoDemand := 0, seed := 0,
    turn := { credit := 0, granted := 0, debt := 0, topUpCounter := 0, lastTopUp := 0, since := 0, state := 0, flags := 0, share := 0, spend := 0,
              switchSeq := 0, lastAmount := 0, remainder := 0 } }
/-- Endpoint 5 in prepayment, with its billing state. -/
def pre0 (b : Bill) : State := { reg0 with nand.recs := [(5, { rec0 5 with flags := 64 })], nand.bills := [(5, b)] }
/-- A tree node. -/
def node0 : Node :=
  { parent := 65535, kind := 1, tenant := 0, flags := 0, minWh := 0, permille := 100, name := 0, run := 0, last := 0, lastEnd := 700000000,
    faulted := false, touched := [] }
/-- Its record there. -/
def rp : Record := { rec0 5 with flags := 64 }

/-- The key of endpoint 5, wrapped under key encryption key 9 of generation 0. -/
def blb5 : Nat :=
  5977407644881102491874046812320669247329945916183275539166046258832484396869859676409293547305302025610559034660500680476062022932765406029685287882326273

/-- The blob opens under its key encryption key, for endpoint 5, and holds key 4. -/
theorem blb5_opens : openBlob 9 5 blb5 = some 4 := by decide +kernel

/-- So the key of a record of endpoint 5 unwraps wherever the blob and that key encryption key are held. -/
theorem key5_result (s : State) (x : Record) (j : Nat) (hx : x.tag = 5 ∧ x.tenant = 0 ∧ x.kekGen = 0 ∧ x.blob = some j)
    (hb : tget s.nand.blobs j = some blb5) (hk : (s.kek 0 0).cur = some (0, 9, false)) (n : Nat) (hn : bit 63 n = true) :
    s.unwraps x blb5 = true ∧ s.unwrapResult x n = 0 := by
  obtain ⟨ht, hten, hg, hj⟩ := hx
  have h0 : blobVersion blb5 = 1 ∧ blobKind blb5 = 1 ∧ blobTenant blb5 = 0 ∧ blobSlot blb5 = 0 ∧ blobGen blb5 = 0 ∧ blobUsage blb5 = 63 := by
    decide +kernel
  obtain ⟨hv, hki, h1, h2, h3, hu⟩ := h0
  have h9 : (s.kek 0 0).byGen 0 = some 9 := by unfold KekSlot.byGen; rw [hk]; rfl
  have hun : s.unwraps x blb5 = true := by simp [State.unwraps, State.keyOf, h1, h2, h3, h9, ht, blb5_opens]
  refine ⟨hun, ?_⟩
  simp only [State.unwrapResult, State.blobOf, hj, Option.bind_some, hb, hv, hki, h1, h2, h3, hu, hten, hg, hun, hn, h9]
  cases hp : (s.kek 0 0).prev <;> simp [KekSlot.state, hk, hp]

/-- And a bootstrapping PSK opens. -/
theorem key5_psk (s : State) (x : Record) (j : Nat) (hx : x.tag = 5 ∧ x.tenant = 0 ∧ x.kekGen = 0 ∧ x.blob = some j)
    (hb : tget s.nand.blobs j = some blb5) (hk : (s.kek 0 0).cur = some (0, 9, false)) : s.pskOpens x = true := by
  have hu : bit (blobUsage blb5) 5 = true := by decide +kernel
  simp [State.pskOpens, State.blobOf, hx.2.2.2, hb, hu, (key5_result s x j hx hb hk 0 (by decide)).1]

/-- The record of endpoint 5 with that blob. -/
def rb : Record := { rec0 5 with blob := some 2 }
/-- Key SRAM with that key encryption key. -/
def keys9 : KeySet := { KeySet.empty with proto := [(4, 8)], keks := [(0, { cur := some (0, 9, false), prev := none })] }
/-- A catalogue with the tenants' queues as they are after a start. -/
def depths : List (Nat × Int) := (List.range 96).map fun q => (Obj.seesawDepth q, 64)

/-! ### The worked examples of the spec -/

/-- Whether a command answers a next state of which a check holds. -/
def after (c : Instr) (s : State) (f : State → Bool) : Bool :=
  match exec c s with
  | .next t => f t
  | _ => false

/-- Phase identification: three lanes locked at 50 Hz, their last rising edges 7,400, 733 and 14,067 µs before the sync instant. -/
def rises : State :=
  { up0 with lanes := [7400000, 733000, 14067000].map fun d => { lane0 with zc := { lockedZc with rise := 800000000000000000 - d } } }

/-- The example of R142: a ZcOffsetUs of 4,090 observes phase C inverted, 23 µs off. -/
theorem test_phase_example : bestPhase (rises.phaseCandidates 800000000000000000 4090) = some (0x83, -23000) := by decide +kernel

/-- The example of R183: the gap between 184,302 and 184,362 estimated linearly at three instants. -/
theorem test_gap_example : [1, 2, 3].map (fun k => linear 184302 184362 k 4) = [184317, 184332, 184347] := by decide

/-- The example of R244: the loss of transformer node 417 is 1,140 Wh; imbalances of 1,760 and 1,560 Wh are 23 and 20 permille. -/
theorem test_balance_example :
    lossOf 600000 44 15 75000000 = 1140000 ∧ permilleOf 1760000 75000000 = 23 ∧ permilleOf 1560000 75000000 = 20 := by decide

/-- The example of R192: levels 1 and 2 take 300,000 of 2,500,000 frames; the shares of tenants 0 and 1 are cut pro rata. -/
theorem test_guarantee_example :
    after (.guaranteeWindowStart 250000 50000) (wc up0 [(Obj.tenantEnable, 3), (Obj.ratedIngest, 2500000), (Obj.guaranteeWindowMs, 1000),
        (Obj.engineClockMHz, 1000), (Obj.ingestShareMille 0, 600), (Obj.ingestShareMille 1, 300)])
      (fun t => t.win.cap == 2200000 && (t.win.tenants.map (·.res)).take 2 == [1466666, 733333] && t.win.spare == 1) = true := by decide +kernel

/-- The example of R233: of a top-up of 20,000, 15,925 fills the credit, a share of 250 permille of the rest recovers debt. -/
theorem test_top_up_example :
    (fun t => (t.credit, t.debt)) (topUpArea { bill0.turn with credit := -15925, debt := 40000 } 20000 250 1 0) = (3057, 38982) := by decide

/-- The example of R340: one line written through both aliases in one cycle, port A first. -/
theorem test_alias_collision_example :
    after (.bigTopAliasWrite true true 0x900040 0x81 1 (some (1, 0x0F, 1))) { up0 with mem.lines := [(0x900040 / 16, 0xF0)] }
      (fun t => t.line (0x900040 / 16) == 0x7E && t.get Obj.writeCollisions == 1) = true := by decide +kernel

/-- The queue of the example of R351 before its step 4: bank 0 fills with c to f, b waits in bank 1, no credit is left. -/
def seesaw4 : Seesaw :=
  { bank0 := [3, 4, 5, 6], bank1 := [2], fill := 0, credits := [0], seqs := [6], waiting := [], ports := 1, depth := 4, poison := false,
    corrected := 0, out := 0 }

/-- Step 4 of the example of R351: the pop returns b, the banks swap and the credit is full. -/
theorem test_seesaw_example :
    after (.seesawPop 40 0) { up0 with mem.queues := [(40, seesaw4)] }
      (fun t => t.mem.queues == [(40, { seesaw4 with bank1 := [], fill := 1, credits := [4], out := 2 })]) = true := by decide +kernel

/-- The receive FIFO of the example of R278: A of 9,000 bytes and some B of 1,500. -/
def fifo (n : Nat) : State :=
  let f (len : Nat) : RxFifoFrame := { frame := { goodEthRx with length := len }, queue := 3, filter := 0, truncated := false, tcCopy := false, stamp := 0 }
  wc { up0 with ports := [{ Port.reset with up := true, rx := f 9000 :: List.replicate n (f 1500) }] }
    [(Obj.midwayEnable, 1), (Obj.portMode 0, 1), (Obj.maxFrameBytes 0, 9216)]

/-- The example of R278: after B9 there is room for B10; after B10 the next frame is dropped whole at its SFD. -/
theorem test_fifo_example :
    ((fifo 9).ports.map Port.room) = [9920] ∧ ((fifo 10).ports.map Port.room) = [8384] ∧
    after (.rxSfd 0) (fifo 9) (fun t => (t.ports.map (·.arriving)) == [some 9216]) = true ∧
    after (.rxSfd 0) (fifo 10) (fun t => t.get (Obj.rxFifoDrops 0) == 1 && (t.ports.map (·.arriving)) == [none]) = true := by decide +kernel

/-- A Sync message of 64 bytes with one VLAN tag (R274, R281): VlanId 5, priority 3, sequenceId 7, correctionField 0x0000_0102_0000_0000. -/
def syncFrame : EthRx :=
  { length := 64, data := withFcs 64 (putNet (putNet (putNet (putNet 0 12 4 0x81006005) 16 2 0x88F7) 26 8 0x0000010200000000) 48 2 7) }

/-- The tag, the EtherType and the message of a frame (R274, R281); its correctionField 65,536 higher, the FCS computed anew (R260). The FCS
is the check value of the CRC of IEEE 802.3. -/
theorem test_ether :
    (syncFrame.tags, syncFrame.tci, syncFrame.etherType, syncFrame.isPtp, syncFrame.msgType, syncFrame.fcsOk) =
      (1, 0x6005, 0x88F7, true, 0, true) ∧
    netAt (syncFrame.corrected 65536) 26 8 = 0x0000010200010000 ∧
    ({ syncFrame with data := syncFrame.corrected 65536 } : EthRx).fcsOk = true ∧
    ethFcs [0x31, 0x32, 0x33, 0x34, 0x35, 0x36, 0x37, 0x38, 0x39] = 0xCBF43926 := by decide +kernel

/-- Steps 3 and 5 of the example of R267: a step of −2.6 s passes to the billing clock at once, one of +0.35 s only through λ. -/
theorem test_step_example :
    (up0.stepCounter (-2600000000)).time.lag = 0 ∧ (up0.stepCounter (-2600000000)).billNow + 2600000000 = up0.billNow ∧
    (up0.stepCounter 350000000).time.lag = 350000000 * lagUnit ∧ (up0.stepCounter 350000000).billNow = up0.billNow := by decide +kernel

/-- The part of the example of R434 just before step 2. -/
def warm (trip : Bool) (peak j : Int) (steps : Nat) : State :=
  { wc up0 [(Obj.governorTripDeciC, 1050), (Obj.governorHystDeciC, 30), (Obj.junctionTempDeciC, j), (Obj.governorSteps, steps),
      (Obj.engineClockMHz, 1000 - 100 * (steps : Int)), (Obj.governorFloorMHz, 500),
      (Obj.engineCeilingMHz, 1000), (Obj.patinaCeilingMHz, 1000)] with pat := { up0.pat with trip := trip, peak := peak } }

/-- Steps 2, 6 and 7 of the example of R434: 105.0 °C takes a step; the clock stays while the period saw 102.0 °C or more. -/
theorem test_governor_example :
    after .governorEvaluation (warm true 1050 1050 0) (fun t => t.get Obj.governorSteps == 1 && t.get Obj.engineClockMHz == 900) = true ∧
    after .governorEvaluation (warm false 1024 1018 2) (fun t => t.get Obj.governorSteps == 2) = true ∧
    after .governorEvaluation (warm false 1018 1010 2) (fun t => t.get Obj.governorSteps == 1 && t.get Obj.engineClockMHz == 900) = true := by
  decide +kernel

/-- A source of tampering after n activations in the present second. -/
def chatter (n : Nat) : State :=
  let x : Source := { count := n, storm := 0, first := 1, last := 1, active := false, since := 0, secAt := 800000000, inSec := n }
  { up0 with bat := { up0.bat with tamperEnable := 4, tamperResponse := [1, 1, 1], sources := List.replicate 12 x } }

/-- Step 3 of the example of R390: the eighth activation of a second is within RateLimit, the ninth beyond it. -/
theorem test_tamper_example :
    after (.tamperActivation 2) (chatter 7) (fun t => t.bat.sources[2]?.map (fun x => (x.count, x.storm)) == some (8, 0)) = true ∧
    after (.tamperActivation 2) (chatter 8) (fun t => t.bat.sources[2]?.map (fun x => (x.count, x.storm)) == some (9, 1)) = true := by
  decide +kernel

/-- CRC-32C (R42) and the CRC of R364 at their published check values, of the digits 1 to 9. -/
theorem test_crc :
    crc32c 0xFFFFFFFF [0x31, 0x32, 0x33, 0x34, 0x35, 0x36, 0x37, 0x38, 0x39] = 0xE3069283 ∧
    crc16 [0x31, 0x32, 0x33, 0x34, 0x35, 0x36, 0x37, 0x38, 0x39] = 0x29B1 := by decide +kernel

/-- A frame of R364 after its start byte: Length 24, a message of a header alone, the CRC of both worked out from the polynomial. One
changed bit fails the CRC. -/
theorem test_rs485 :
    rsFrameOk [24, 0, 1, 0, 0, 0, 0, 0, 0, 0, 0, 0, 0, 0, 0, 0, 0, 0, 0, 0, 0, 0, 0, 0, 0, 0, 186, 83] = true ∧
    rsFrameOk [24, 0, 1, 0, 0, 1, 0, 0, 0, 0, 0, 0, 0, 0, 0, 0, 0, 0, 0, 0, 0, 0, 0, 0, 0, 0, 186, 83] = false := by decide +kernel

/-- CMAC under a 256-bit key over 40 bytes: the example of NIST SP 800-38B for AES-256. -/
theorem test_cmac :
    cmac 0xF4DF1409A310982DD708613B072C351F81777D85F0AE732BBE71CA1510EB3D60 40
      0x11E45CA3461CC830518EAF45AC6FB79E9CAC031E578A2DAE2A179373117E3DE9969F402EE2BEC16B = 0xE611C9B969B1F532C24056DEF1D8F3AA := by
  decide +kernel

/-- The digest of R398: the first eight bytes of the SHA-256 of 144 zero bytes, 81 C6 11 F3 5B FF 79 49. -/
theorem test_digest : gateDigest 0 = 0x4979FF5BF311C681 := by decide +kernel

/-! ### Witnesses -/

def cold : State := { State.reset with pins.porst := true }
def restartable : State := { up0 with pins.pwrSafe := true, pw.cause := 3 }

/-- What meets the hypotheses of StartRunsThrough. -/
theorem witness_StartRunsThrough :
    (∃ (s : State) (b : Board), (s.Startable b) ∧ (s.pins.porst = true)) ∧
    (∃ (s : State) (b : Board), (s.Startable b) ∧ (s.mayRestart = true) ∧ (s.pw.stoppedByLimit = false)) := by
  refine ⟨⟨cold, board0, by decide +kernel⟩,
    ⟨restartable, board0, by decide +kernel⟩⟩

/-- What meets the hypotheses of StartStopsAtItsStep. -/
theorem witness_StartStopsAtItsStep :
    ∃ (s : State), (s.pins.porst = true) := by
  exact ⟨State.reset, by decide +kernel⟩

/-- What meets the hypotheses of PowerFailSequence. -/
theorem witness_PowerFailSequence :
    (∃ (s : State), (s.pastFive = true) ∧ (s.pw.cause = 0)) ∧
    (∃ (s : State), (s.pastFive = true) ∧ (s.pw.cause ≠ 0) ∧ (s.pins.pwrSafe = false)) := by
  refine ⟨⟨up0, by decide +kernel⟩,
    ⟨{ up0 with pins.pfi := true, pw.cause := 1, cask.dirty := 500 }, by decide +kernel⟩⟩

/-- What meets the hypotheses of PinsAndSupply. -/
theorem witness_PinsAndSupply :
    (∃ (s : State), (s.pins.porst = false) ∧ (s.pw.rails = true)) ∧
    (∃ (s : State), (s.pw.held = none) ∧ (bit s.bat.stuck 11 = false)) ∧
    (∃ (s : State), (s.pw.rails = true) ∧ (s.pins.porst = true) ∧ (s.bat.vbat = true)) ∧
    (∃ (mv : Nat), (mv < 2950)) ∧
    (∃ (mv : Nat), (3000 < mv)) ∧
    (∃ (mv : Nat), (mv < 2950)) ∧
    (∃ (s : State), (s.claspRuns = true) ∧ (s.bat.wakeAlarm ≠ 0) ∧ (s.bat.wakeAlarm ≤ s.bat.rtc / 32768)) ∧
    (∃ (s : State), (s.claspRuns = true)) := by
  refine ⟨⟨{ up0 with cask.dirty := 500 }, by decide +kernel⟩,
    ⟨{ up0 with pins.pfi := true, pw.cause := 1 }, by decide +kernel⟩,
    ⟨{ up0 with pins.porst := true }, by decide +kernel⟩,
    ⟨2949, by decide +kernel⟩,
    ⟨3001, by decide +kernel⟩,
    ⟨2949, by decide +kernel⟩,
    ⟨{ up0 with bat.wakeAlarm := 5, bat.rtc := 200000 }, by decide +kernel⟩,
    ⟨up0, by decide +kernel⟩⟩

/-- What meets the hypotheses of PowerStateCommands. -/
theorem witness_PowerStateCommands :
    (∃ (s : State) (r : CapReq) (ses : Session), (s.Admits r Obj.powerStateSet ses) ∧ (s.nat Obj.powerState = 1)) ∧
    (∃ (s : State) (r : CapReq) (ses : Session), (s.Admits r Obj.powerStateSet ses) ∧ (s.serving = true) ∧ (s.pw.standby = false)) ∧
    (∃ (s : State) (r : CapReq) (ses : Session), (s.Admits r Obj.powerStateSet ses) ∧ (s.up = true)) ∧
    (∃ (s : State) (r : CapReq) (ses : Session), (s.Admits r Obj.powerStateSet ses) ∧ (s.up = true)) ∧
    (∃ (s : State), (s.serving = true) ∧ (s.pw.standby = true) ∧ (s.frames = [])) := by
  refine ⟨⟨wc cap0 [(Obj.powerState, 1)], r1, adm, by decide +kernel⟩,
    ⟨cap0, r1, adm, by decide +kernel⟩,
    ⟨cap0, r1, adm, by decide +kernel⟩,
    ⟨cap0, r1, adm, by decide +kernel⟩,
    ⟨{ up0 with pw.standby := true }, by decide +kernel⟩⟩

/-- What meets the hypotheses of UncorrectableErrors. -/
theorem witness_UncorrectableErrors :
    (∃ (s : State), (s.pastFive = true) ∧ (s.pins.pwrSafe = false) ∧ (s.pw.cause = 0)) ∧
    (∃ (s : State) (addr : Nat), (s.pastFive = true) ∧ (s.pins.pwrSafe = false) ∧ (s.pw.cause = 0) ∧ (bankOf (lineAt addr) < 8) ∧ (s.bank
      (bankOf (lineAt addr)) = 0)) := by
  refine ⟨⟨up0, by decide +kernel⟩,
    ⟨{ up0 with cask.dirty := 500 }, 0x1000, by decide +kernel⟩⟩

def sealAuth : Anchor := { role := 6, tenant := 0xFF, slot := 0, kind := 1, key := 77 }
def sealArg (action breaks : Nat) : SealArg :=
  { action, reason := 1, serial := Config.deviceSerial, expectedBreaks := breaks, operator := 5 }
def seal0 : State := { cap0 with pins.sealN := true, nand.anchors := [sealAuth] }
def open0 : State := { wc seal0 [(Obj.sealState, 1), (Obj.sealCounter, 1)] with hall.fuses := 1 }

/-- A container of the part's own passes the checks of every container. -/
theorem container_ok (s : State) (t g c : Nat) (b : Bool) : s.containerCheck (ep t g c) t b = none := by
  simp [State.containerCheck, State.targetOk, ep]

/-- An open of the seal passes its checks. -/
theorem seal0_check : seal0.sealCheck (ep 4 77 9) (sealArg 1 0) = none := by
  simp only [State.sealCheck, container_ok, sealArg, beq_self_eq_true]
  decide +kernel

/-- A close of the seal passes its checks. -/
theorem open0_check : open0.sealCheck (ep 4 77 9) (sealArg 2 1) = none := by
  simp only [State.sealCheck, container_ok, sealArg, beq_self_eq_true]
  decide +kernel

/-- What meets the hypotheses of SealOpensAndCloses. -/
theorem witness_SealOpensAndCloses :
    (∃ (s : State) (r : CapReq) (ses : Session) (e : Epmeir) (a : SealArg), (s.Admits r Obj.sealSubmit ses) ∧ (s.sealCheck e a = none) ∧
      (a.action = 1)) ∧
    (∃ (s : State) (r : CapReq) (ses : Session) (e : Epmeir) (a : SealArg), (s.Admits r Obj.sealSubmit ses) ∧ (s.sealCheck e a = none) ∧
      (a.action = 1)) ∧
    (∃ (s : State) (r : CapReq) (ses : Session) (e : Epmeir) (a : SealArg), (s.Admits r Obj.sealSubmit ses) ∧ (s.sealCheck e a = none) ∧
      (a.action = 2)) ∧
    (∃ (s : State), (s.awake = true) ∧ (s.nat Obj.sealState = 1) ∧ (bit s.bat.stuck 10 = false)) ∧
    (∃ (s : State), (s.awake = true) ∧ (s.nat Obj.sealState = 1) ∧ (s.elapsedS s.hall.openAt (s.nat Obj.unsealMaxS) = true)) := by
  refine ⟨⟨seal0, r1, adm, ep 4 77 9, sealArg 1 0, by decide +kernel, seal0_check, rfl⟩,
    ⟨seal0, r1, adm, ep 4 77 9, sealArg 1 0, by decide +kernel, seal0_check, rfl⟩,
    ⟨open0, r1, adm, ep 4 77 9, sealArg 2 1, by decide +kernel, open0_check, rfl⟩,
    ⟨open0, by decide +kernel⟩,
    ⟨{ open0 with time.sec := 900000000 }, by decide +kernel⟩⟩

def owner0 : Anchor := { role := 1, tenant := 0xFF, slot := 0, kind := 1, key := 55 }
def own0 : State := { cap0 with loc.anchors := [owner0], nand.legalSlots := [some 31, none] }

/-- A container whose payload does not hash right fails check 3. -/
theorem own0_bad : own0.containerCheck { ep 6 55 9 with hashOk := false } 6 false = some 3 := by
  simp [State.containerCheck, State.targetOk, ep]

/-- A firmware container passes its checks. -/
theorem own0_firmware : own0.firmwareCheck (ep 1 Config.firmwareKey (2 ^ 56 + 5))
    { legalHash := 31, bringsModule := false, readBackOk := true } = none := by
  have h : (ep 1 Config.firmwareKey (2 ^ 56 + 5)).signer == Config.firmwareKey := by simp [ep]
  simp only [State.firmwareCheck, container_ok, h]
  decide +kernel

/-- What meets the hypotheses of AnchorsAndFirmware. -/
theorem witness_AnchorsAndFirmware :
    (∃ (s : State) (r : CapReq) (ses : Session) (e : Epmeir) (en : List AnchorEntry) (l : List Anchor), (s.Admits r Obj.trustAnchorSubmit ses)
      ∧ (s.containerCheck e 6 false = none) ∧ (s.ownerSigned e.signer = true) ∧ (s.nat Obj.trustAnchorCounter < e.counter) ∧ (applyAnchors
      (s.nat Obj.sealState != 1) s.allAnchors en = some l) ∧ ((en.any (fun x => Nat.ble 5 x.role) = true → s.nat Obj.mediaState = 0))) ∧
    (∃ (s : State) (r : CapReq) (ses : Session) (e : Epmeir) (n : Nat), (s.Admits r Obj.trustAnchorSubmit ses) ∧ (s.containerCheck e 6 false =
      some n)) ∧
    (∃ (s : State) (r : CapReq) (ses : Session) (e : Epmeir) (f : FirmwareArg), (s.Admits r Obj.firmwareSubmit ses) ∧ (s.firmwareCheck e f =
      none) ∧ (f.readBackOk = true) ∧ (f.bringsModule = false)) ∧
    (∃ (s : State) (r : CapReq) (ses : Session), (s.Admits r Obj.firmwareEpochCommit ses)) := by
  refine ⟨⟨own0, r1, adm, ep 6 55 9, [{ action := 1, role := 2, tenant := 0xFF, slot := 0, keyKind := 1, key := 66 }], [owner0,
      { role := 2, tenant := 0, slot := 0, kind := 1, key := 66 }], by decide +kernel, container_ok _ _ _ _ _, by decide +kernel,
      by decide +kernel, by decide +kernel, by decide +kernel⟩,
    ⟨own0, r1, adm, { ep 6 55 9 with hashOk := false }, 3, by decide +kernel, own0_bad⟩,
    ⟨own0, r1, adm, ep 1 Config.firmwareKey (2 ^ 56 + 5), { legalHash := 31, bringsModule := false, readBackOk := true }, by decide +kernel,
      own0_firmware, rfl, rfl⟩,
    ⟨own0, r1, adm, by decide +kernel⟩⟩

def src0 : Source := { count := 0, storm := 0, first := 0, last := 0, active := false, since := 0, secAt := 0, inSec := 0 }
def slp0 : State := { up0 with pins.porst := true, bat.tamperEnable := 1 }

/-- What meets the hypotheses of TamperSources. -/
theorem witness_TamperSources :
    (∃ (s : State) (n : Nat) (x : Source), (s.claspRuns = true) ∧ (s.awake = false) ∧ (n ≤ 8) ∧ (bit s.bat.tamperEnable n = true) ∧
      (s.tamperResponse n = 1) ∧ (s.bat.sources[n]? = some x) ∧ (s.bat.sleepQueue.length < 16)) ∧
    (∃ (s : State) (n : Nat), (bit s.bat.tamperEnable n = false)) ∧
    (∃ (s : State) (n : Nat) (x : Source), (s.claspRuns = true) ∧ (n ≤ 11) ∧ (bit s.bat.stuck n = false) ∧ (s.bat.sources[n]? = some x) ∧
      (x.active = true) ∧ (x.since + 86400 * 32768 ≤ s.bat.rtc)) ∧
    (∃ (s : State) (n : Nat), (s.claspRuns = true) ∧ (bit s.bat.stuck n = true)) ∧
    (∃ (s : State) (r : CapReq) (ses : Session), (s.Admits r Obj.claspAlarmClear ses)) := by
  refine ⟨⟨slp0, 0, src0, by decide +kernel⟩,
    ⟨{ slp0 with bat.tamperEnable := 0 }, 3, by decide +kernel⟩,
    ⟨{ up0 with bat.sources := { src0 with active := true } :: List.replicate 11 src0, bat.rtc := 86400 * 32768 }, 0,
      { src0 with active := true }, by decide +kernel⟩,
    ⟨{ up0 with bat.stuck := 5 }, 2, by decide +kernel⟩,
    ⟨{ cap0 with bat.claspAlarm := 7 }, r1, adm, by decide +kernel⟩⟩

/-- What meets the hypotheses of BadBarAccess. -/
theorem witness_BadBarAccess :
    ∃ (s : State), (s.bar = true) := by
  exact ⟨up0, by decide +kernel⟩

/-- What meets the hypotheses of InterruptRegisters. -/
theorem witness_InterruptRegisters :
    (∃ (s : State), (s.bar = true)) ∧
    (∃ (s : State), (s.bar = true)) ∧
    (∃ (s : State) (v : Word), (s.bar = true) ∧ (s.hif.mb.busy = false) ∧ (s.hif.mb.valid = false) ∧ (s.flag Obj.mailboxCapEnable = true) ∧ (1
      ≤ v.toNat) ∧ (v.toNat ≤ 512)) ∧
    (∃ (s : State), (s.bar = true) ∧ (s.hif.mb.busy = true) ∧ (s.nat Obj.mailboxBusyWrites < 4294967295)) ∧
    (∃ (s : State), (s.bar = true)) := by
  refine ⟨⟨{ up0 with hif.cause := 7 }, by decide +kernel⟩,
    ⟨up0, by decide +kernel⟩,
    ⟨wc up0 [(Obj.mailboxCapEnable, 1)], 24, by decide +kernel⟩,
    ⟨{ up0 with hif.mb.busy := true }, by decide +kernel⟩,
    ⟨up0, by decide +kernel⟩⟩

def hr : HostQueue := { HostQueue.reset with size := 6 }

/-- What meets the hypotheses of HostQueueBinding. -/
theorem witness_HostQueueBinding :
    (∃ (s : State) (q : Nat) (tail : Word) (h : HostQueue) (posted : List (Nat × Nat)), (s.bar = true) ∧ (s.hqOf q = some h) ∧ (bit h.ctrl 0 =
      true) ∧ ((tail.toNat + 4294967296 - h.head) % 4294967296 ≤ 2 ^ h.size) ∧ ((tail.toNat + 4294967296 - h.tail) % 4294967296 =
      posted.length) ∧ (posted.length ≤ 2 ^ h.size)) ∧
    (∃ (s : State) (q : Nat) (tail : Word) (h : HostQueue), (s.bar = true) ∧ (s.hqOf q = some h) ∧ (bit h.ctrl 0 = true) ∧ (2 ^ h.size <
      (tail.toNat + 4294967296 - h.head) % 4294967296) ∧ (s.nat Obj.doorbellErrors < 4294967295)) ∧
    (∃ (s : State) (q : Nat) (ctrl : Word) (h : HostQueue), (s.bar = true) ∧ (s.hqOf q = some h) ∧ (bit h.ctrl 0 = false) ∧ (4 ≤ bits
      ctrl.toNat 4 1) ∧ (s.bindRefused q (setBit (setBit ctrl.toNat 10 false) 11 false) = false) ∧ (bit ctrl.toNat 0 = true)) ∧
    (∃ (s : State) (q : Nat) (ctrl : Word) (h : HostQueue), (s.bar = true) ∧ (s.hqOf q = some h) ∧ (bit h.ctrl 0 = false) ∧ (s.bindRefused q
      (setBit (setBit ctrl.toNat 10 false) 11 false) = true)) ∧
    (∃ (s : State) (q : Nat) (h : HostQueue), (s.bar = true) ∧ (s.hqOf q = some h) ∧ (bit h.ctrl 0 = true) ∧ (4 ≤ bits h.ctrl 4 1) ∧
      (h.draining = false)) ∧
    (∃ (s : State) (q : Nat) (h : HostQueue), (s.bar = true) ∧ (s.hqOf q = some h) ∧ (bit h.ctrl 0 = true) ∧ (bits h.ctrl 4 1 < 4) ∧ (h.posted
      = [])) ∧
    (∃ (s : State) (q : Nat) (h : HostQueue), (s.hqOf q = some h) ∧ (h.draining = true) ∧ (h.releasing = true) ∧ (h.posted = [])) ∧
    (∃ (s : State) (q : Nat) (h : HostQueue), (s.awake = true) ∧ (q < 16) ∧ (s.hqOf q = some h) ∧ (h.uncounted ≠ 0) ∧ (bits h.ctrl 31 20 ≠ 0)) ∧
    (∃ (s : State) (q : Nat) (h : HostQueue), (s.awake = true) ∧ (s.hqOf q = some h) ∧ (h.running = true) ∧ (h.posted = []) ∧ (bits h.ctrl 4 1
      = 1) ∧ (s.nat Obj.dmaFaults < 4294967295)) := by
  refine ⟨⟨hq0 { hr with ctrl := 9 }, 0, 2, { hr with ctrl := 9 }, [(4096, 100), (8192, 100)], by decide +kernel⟩,
    ⟨hq0 { hr with ctrl := 9 }, 0, 65, { hr with ctrl := 9 }, by decide +kernel⟩,
    ⟨wc (hq0 hr) [(Obj.midwayEnable, 1), (Obj.portMode 0, 1)], 0, 9, hr, by decide +kernel⟩,
    ⟨hq0 hr, 0, 0x0D, hr, by decide +kernel⟩,
    ⟨hq0 { hr with ctrl := 9 }, 0, { hr with ctrl := 9 }, by decide +kernel⟩,
    ⟨hq0 { hr with ctrl := 3 }, 0, { hr with ctrl := 3 }, by decide +kernel⟩,
    ⟨hq0 { hr with draining := true, releasing := true }, 0, { hr with draining := true, releasing := true }, by decide +kernel⟩,
    ⟨hq0 { hr with ctrl := 0x00100003, uncounted := 2 }, 0, { hr with ctrl := 0x00100003, uncounted := 2 }, by decide +kernel⟩,
    ⟨hq0 { hr with ctrl := 3, running := true }, 0, { hr with ctrl := 3, running := true }, by decide +kernel⟩⟩

/-- What meets the hypotheses of BarRegisters. -/
theorem witness_BarRegisters :
    (∃ (s : State), (s.bar = true)) ∧
    (∃ (s : State) (off : Nat), (s.bar = true) ∧ (off < 0x0014)) ∧
    (∃ (s : State) (off : Nat), (s.bar = true) ∧ (0x4000 ≤ off) ∧ (off < 0x8000)) ∧
    (∃ (s : State) (q : Nat) (v : Word) (h : HostQueue), (s.bar = true) ∧ (q < 16) ∧ (s.hqOf q = some h) ∧ (6 ≤ v.toNat) ∧ (v.toNat ≤ 12)) ∧
    (∃ (s : State) (q : Nat) (h : HostQueue), (s.bar = true) ∧ (q < 16) ∧ (s.hqOf q = some h)) ∧
    (∃ (s : State) (gen : Nat), (s.up = true) ∧ (s.forced Obj.hostEnable ≠ 0) ∧ (1 ≤ gen) ∧ (gen ≤ 3)) ∧
    (∃ (s : State), (s.hostUp = true) ∧ (s.freeze = none) ∧ (s.sessions = [])) := by
  refine ⟨⟨up0, by decide +kernel⟩,
    ⟨up0, 0x10, by decide +kernel⟩,
    ⟨up0, 0x4000, by decide +kernel⟩,
    ⟨hq0 .reset, 0, 6, .reset, by decide +kernel⟩,
    ⟨hq0 .reset, 0, .reset, by decide +kernel⟩,
    ⟨{ up0 with inForce := [(Obj.hostEnable, 1)] }, 3, by decide +kernel⟩,
    ⟨up0, by decide +kernel⟩⟩

def hs : State := wc up0 [(Obj.servoOwner, 1)]

/-- What meets the hypotheses of IncrementIsLimited. -/
theorem witness_IncrementIsLimited :
    (∃ (s : State), (s.bar = true) ∧ (s.nat Obj.servoOwner = 1)) ∧
    (∃ (s : State), (s.bar = true) ∧ (s.nat Obj.servoOwner = 1)) := by
  refine ⟨⟨hs, by decide +kernel⟩,
    ⟨hs, by decide +kernel⟩⟩

/-- What meets the hypotheses of IdleStepCounts. -/
theorem witness_IdleStepCounts :
    (∃ (s : State), (s.pending = []) ∧ (s.awake = true) ∧ (s.time.ok) ∧ (s.time.step = none) ∧ (s.time.sec + 1 < 2 ^ 48)) ∧
    (∃ (s : State), (s.pending = []) ∧ (s.awake = false)) := by
  refine ⟨⟨up0, by decide +kernel⟩,
    ⟨State.reset, by decide +kernel⟩⟩

/-- What meets the hypotheses of SecondRollsOver. -/
theorem witness_SecondRollsOver :
    (∃ (s : State), (s.awake = true) ∧ (s.time.ok) ∧ (s.time.step = none) ∧ (s.time.sec + 1 < 2 ^ 48)) := by
  exact ⟨{ up0 with time.ns := 999999990 }, by decide +kernel⟩

def hsx : State := { wc up0 [(Obj.servoOwner, 1)] with time.stepLo := 500 }
def stx (d : Int) : State := { hsx with time.step := some d, time.ns := 3 }

/-- What meets the hypotheses of StepsOfTheCounter. -/
theorem witness_StepsOfTheCounter :
    (∃ (s : State), (s.bar = true) ∧ (s.nat Obj.servoOwner = 1) ∧ (s.time.step = none)) ∧
    (∃ (s : State) (d : Int), (s.pending = []) ∧ (s.awake = true) ∧ (s.time.step = some d) ∧ (s.time.lockSince = none) ∧ (s.time.lag = 0) ∧
      (s.time.ok) ∧ (s.nat Obj.stepsApplied < 4294967295) ∧ (0 ≤ (s.now : Int) + d) ∧ ((s.now : Int) + d < (2 ^ 48 * nsPerS : Nat)) ∧
      (d.natAbs ≤ s.nat Obj.billingSlewThresholdMs * 1000000)) ∧
    (∃ (s : State) (d : Int), (s.pending = []) ∧ (s.awake = true) ∧ (s.time.step = some d) ∧ (s.time.lockSince = none) ∧ (s.nat
      Obj.stepsRefused < 4294967295) ∧ (((s.now : Int) + d < 0 ∨ (2 ^ 48 * nsPerS : Nat) ≤ (s.now : Int) + d))) := by
  refine ⟨⟨hsx, by decide +kernel⟩,
    ⟨stx 500, 500, by decide +kernel⟩,
    ⟨stx (-9223372036854775807), -9223372036854775807, by decide +kernel⟩⟩

def pp (p : Nat) : State := wc up0 [(Obj.ptpPortEnable, 2 ^ p)]
def ptp0 : PtpPort := { syncs := 0, pathDelay := 0, linkDelay := 0 }
def host6 : State := { wc up0 [(Obj.servoOwner, 1), (Obj.selectedSource, 6), (Obj.clockStatus, 2)] with time.beatAt := some 5 }

/-- What meets the hypotheses of ClockSources. -/
theorem witness_ClockSources :
    (∃ (s : State) (p : Nat) (x : PtpPort), (s.up = true) ∧ (s.nat Obj.ptpPortEnable = 2 ^ p) ∧ (p ≤ 3) ∧ (s.time.ptp[p]? = some x) ∧ (x.syncs
      < 7) ∧ (s.time.ptp.length = 4) ∧ (s.nat Obj.servoOwner = 0) ∧ (s.nat Obj.selectedSource = 0) ∧ (s.time.ppsEdges = 0) ∧
      (s.time.beatAt = none)) ∧
    (∃ (s : State) (p : Nat) (x : PtpPort), (s.up = true) ∧ (s.bitOf Obj.ptpPortEnable p = true) ∧ (s.time.ptp[p]? = some x)) ∧
    (∃ (s : State), (s.up = true) ∧ (s.time.ppsLast = 0)) ∧
    (∃ (s : State) (p : Nat), (s.up = true) ∧ (s.bitOf Obj.ptpPortEnable p = true) ∧ (p ≤ 3) ∧ (s.nat Obj.servoOwner = 1) ∧ (s.nat
      Obj.selectedSource = 6) ∧ (s.time.beatAt.isSome = true)) ∧
    (∃ (s : State) (v : Word), (s.bar = true) ∧ (s.nat Obj.servoOwner = 1) ∧ (s.nat Obj.selectedSource = 6) ∧ (s.time.beatAt.isSome = true) ∧
      (bit v.toNat 0 = false) ∧ (s.clock = 2)) ∧
    (∃ (s : State) (at_ : Nat), (s.awake = true) ∧ (s.nat Obj.servoOwner = 1) ∧ (s.time.beatAt = some at_) ∧ (at_ + s.nat Obj.hostHeartbeatMs
      * 1000000 ≤ s.now) ∧ (s.clock = 2)) ∧
    (∃ (s : State) (since : Nat), (s.up = true) ∧ (s.time.lockSince = some since) ∧ (s.nat Obj.selectedSource ≠ 0) ∧ (s.offsetKnown = true) ∧
      (s.elapsedS since (s.nat Obj.lockQualifyS) = true) ∧ (s.nand.spans = []) ∧ (s.nand.withheld = [])) ∧
    (∃ (s : State), (s.up = true) ∧ (s.nat Obj.servoOwner = 1) ∧ (s.nat Obj.selectedSource = 6) ∧ (s.clock = 0) ∧ (s.nand.spans = []) ∧
      (s.nand.withheld = [])) ∧
    (∃ (s : State), (s.up = true) ∧ (s.clock = 1) ∧ (s.elapsedS s.time.holdoverSince (s.nat Obj.holdoverLimitS) = true) ∧ (s.nand.withheld =
      [])) := by
  refine ⟨⟨pp 3, 3, ptp0, by decide +kernel⟩,
    ⟨pp 1, 1, ptp0, by decide +kernel⟩,
    ⟨up0, by decide +kernel⟩,
    ⟨{ wc host6 [(Obj.ptpPortEnable, 1)] with time.beatAt := some 5 }, 0, by decide +kernel⟩,
    ⟨host6, 0, by decide +kernel⟩,
    ⟨host6, 5, by decide +kernel⟩,
    ⟨{ wc up0 [(Obj.selectedSource, 1), (Obj.taiUtcOffsetS, 37)] with time.lockSince := some 5 }, 5, by decide +kernel⟩,
    ⟨wc host6 [(Obj.clockStatus, 0)], by decide +kernel⟩,
    ⟨wc up0 [(Obj.clockStatus, 1)], by decide +kernel⟩⟩

/-- What meets the hypotheses of TimeCommands. -/
theorem witness_TimeCommands :
    (∃ (s : State), (s.bar = true)) ∧
    (∃ (s : State) (p : Nat) (q : TsQueue), (s.awake = true) ∧ (s.nat Obj.servoOwner = 0) ∧ (s.time.tsq[p]? = some q)) ∧
    (∃ (s : State), (s.awake = true) ∧ (s.clock = 0)) ∧
    (∃ (s : State), (s.up = true) ∧ (s.nat Obj.selectedSource = 1) ∧ (s.offsetKnown = true) ∧ (0 ≤ s.get Obj.taiUtcOffsetS) ∧ (s.get
      Obj.taiUtcOffsetS ≤ 254) ∧ (((s.billSec : Int) - (s.get Obj.taiUtcOffsetS + 1)) % 86400 = 0) ∧ (s.billSec ≠ s.nat Obj.lastLeap)) ∧
    (∃ (s : State) (r : CapReq) (ses : Session) (sec ns : Nat), (s.Admits r Obj.timeSet ses) ∧ (ns < nsPerS) ∧ (sec < 2 ^ 48) ∧ (1 ≤ s.nat
      Obj.selectedSource) ∧ (s.nat Obj.selectedSource ≤ 5)) ∧
    (∃ (s : State) (r : CapReq) (ses : Session) (sec ns : Nat), (s.Admits r Obj.timeSet ses) ∧ (ns < nsPerS) ∧ (sec < 2 ^ 48) ∧ (s.nat
      Obj.selectedSource = 0) ∧ (s.time.lockSince = none) ∧ (s.nat Obj.servoOwner = 1) ∧ (s.time.beatAt = none)) := by
  refine ⟨⟨up0, by decide +kernel⟩,
    ⟨up0, 3, { entries := [], lost := false, lostCount := 0, ring := [0, 0, 0, 0] }, by decide +kernel⟩,
    ⟨wc up0 [(Obj.clockStatus, 0)], by decide +kernel⟩,
    ⟨{ wc up0 [(Obj.selectedSource, 1), (Obj.taiUtcOffsetS, 37)] with time.sec := 86400 * 9000 + 38 }, by decide +kernel⟩,
    ⟨wc cap0 [(Obj.selectedSource, 1)], r1, adm, 5, 0, by decide +kernel⟩,
    ⟨wc cap0 [(Obj.servoOwner, 1)], r1, adm, 5, 999999999, by decide +kernel⟩⟩

def iq (p code : Nat) : State := wc cap0 [(Obj.iqPortStatus p, code), (Obj.carouselEnable, 15)]

/-- What meets the hypotheses of IqPortTraining. -/
theorem witness_IqPortTraining :
    (∃ (s : State) (r : CapReq) (ses : Session) (p : Nat), (p ≤ 3) ∧ (s.Admits r (Obj.iqRetrain p) ses) ∧ (s.carouselOn = true) ∧ (s.bitOf
      Obj.carouselEnable p = true)) ∧
    (∃ (s : State) (p : Nat), (s.carouselOn = true) ∧ (p ≤ 3) ∧ (s.iqCode p = 1)) ∧
    (∃ (s : State) (p : Nat) (q : IqPort), (s.carouselOn = true) ∧ (p ≤ 3) ∧ (s.iqCode p = 1) ∧ (s.car.ports[p]? = some q) ∧ (q.trainAt +
      10000000 ≤ s.now)) ∧
    (∃ (s : State) (p : Nat), (s.iqUp p = true) ∧ (s.nat (Obj.portFaults p) < 4294967295)) ∧
    (∃ (s : State) (p : Nat), (s.iqUp p = true) ∧ (s.nat (Obj.portFaults p) < 4294967295)) ∧
    (∃ (s : State) (p : Nat) (q : IqPort), (s.carouselOn = true) ∧ (p ≤ 3) ∧ (s.iqCode p = 3) ∧ (s.car.ports[p]? = some q)) ∧
    (∃ (s : State) (p n : Nat), (s.iqUp p = true) ∧ (s.nat (Obj.clipFlagThreshold p) < n) ∧ (s.nat (Obj.clipCount p) + n < 4294967296)) := by
  refine ⟨⟨iq 0 2, r1, adm, 0, by decide +kernel⟩,
    ⟨iq 2 1, 2, by decide +kernel⟩,
    ⟨iq 2 1, 2, { trainAt := 0, patternAt := 0, clock := true }, by decide +kernel⟩,
    ⟨iq 1 2, 1, by decide +kernel⟩,
    ⟨iq 1 2, 1, by decide +kernel⟩,
    ⟨iq 1 3, 1, { trainAt := 0, patternAt := 0, clock := true }, by decide +kernel⟩,
    ⟨iq 1 2, 1, 5000, by decide +kernel⟩⟩

def radE : State :=
  wc { up0 with car.demods := [] } [(Obj.iqPortStatus 0, 2), (Obj.carouselEnable, 1), (Obj.cellEnable, 1), (Obj.gridEnable 0, 63), (Obj.modeEnable 0,
    0x3FFE), (Obj.modeGrid 0, 0), (Obj.centreHz 0, 868950000), (Obj.gridOrigin 0 0, 868950000)]
def g0 : Group := { id := 1, port := 0, grid := 0, channel := 3, members := [1, 2], closed := true, passes := 0 }
def d1 : Demod := { demod0 with phase := 1, group := 1 }
def d2 : Demod := { demod0 with id := 2, phase := 2, group := 1 }
def pdet : Demod := { demod0 with det := { det0 with mode := 13, sync := syncOne } }
def psoft : List Int := (pendantCopy 8 [1, 2, 3, 4, 5, 6, 7, 8, 9]).map fun b => if b then -4 else 4
def pinfo : RxInfo := { info0 with copies := List.replicate 4 psoft }
def pgot : RxInfo := (pdet.received true pinfo).getD info0
def radP : State := { rad0 with car.demods := [pdet] }

/-- What meets the hypotheses of DemodulatorPool. -/
theorem witness_DemodulatorPool :
    (∃ (s : State) (d : Det) (res : Bool), (s.growSnippets.detects d = true) ∧ (s.growSnippets.demodFor d.port = some res) ∧ (d.unsupported
      = false) ∧ ((s.growSnippets.car.demods.find? fun x => x.same d (s.growSnippets.channelAt d.port d.grid d.channel)) = none) ∧
      (s.growSnippets.nat (Obj.detections d.port) < 4294967295)) ∧
    (∃ (s : State) (d : Det), (s.growSnippets.detects d = true) ∧ (s.growSnippets.demodFor d.port = none) ∧ (s.growSnippets.nat
      (Obj.demodBusyDrops d.port d.grid) < 4294967295)) ∧
    (∃ (a b : Det), (detRank a ≠ detRank b)) ∧
    (∃ (s : State) (n : Nat) (ok : Bool) (d : Demod) (i j : RxInfo), (s.growSnippets.live n = some d) ∧ (d.group = 0) ∧ (d.received ok i =
      some j) ∧ (s.growSnippets.cellOpen d.det.port = true) ∧ (s.growSnippets.nat (Obj.delivered d.det.port) < 4294967295)) ∧
    (∃ (s : State) (n : Nat) (ok : Bool) (d : Demod) (i : RxInfo), (s.growSnippets.live n = some d) ∧ (d.group = 0) ∧ (d.received ok i =
      none) ∧ (d.whole i = true) ∧ (s.growSnippets.nat (Obj.crcFail d.det.port) < 4294967295)) ∧
    (∃ (s : State) (n : Nat) (d : Demod), (s.growSnippets.live n = some d) ∧ (d.group = 0)) ∧
    (∃ (s : State) (n : Nat) (e d : Demod), (s.demod n = some e) ∧ (s.elapsedS e.at_ (s.nat Obj.demodMaxHoldS) = true) ∧
      (s.growSnippets.live n = some d) ∧ (d.group = 0)) ∧
    (∃ (s : State) (n : Nat) (g : Group) (c : Demod), (s.group n = some g) ∧ (g.closed = true) ∧ (s.iqUp g.port = true) ∧ (s.passDue g =
      true) ∧ (strongest ((s.growSnippets.car.demods.filter fun d => g.members.contains d.id).filter fun d => d.phase == 1 && !d.done) =
      some c)) := by
  refine ⟨⟨radE, det0, false, by decide +kernel⟩,
    ⟨{ radE with car.demods := List.replicate 1024 demod0 }, det0, by decide +kernel⟩,
    ⟨det0, { det0 with channel := 2 }, by decide +kernel⟩,
    ⟨rad0, 1, true, demod0, info0, info0, by decide +kernel⟩,
    ⟨rad0, 1, false, demod0, info0, by decide +kernel⟩,
    ⟨rad0, 1, demod0, by decide +kernel⟩,
    ⟨{ rad0 with time.sec := 900000000 }, 1, demod0, demod0, by decide +kernel⟩,
    ⟨{ rad0 with car.demods := [d1, d2], car.groups := [g0] }, 1, g0, d1, by decide +kernel⟩⟩

def ia : ItemArg := { tag := 5, cls := 1, prio := 0, length := 10, notBefore := 0, expiry := 900000000, flags := 0, payload := 3 }

/-- What meets the hypotheses of StagedItems. -/
theorem witness_StagedItems :
    (∃ (s : State) (r : CapReq) (ses : Session) (a : ItemArg) (x : Record), (s.Admits r Obj.stageItem ses) ∧ (s.endpointBusy a.tag = false) ∧
      (s.record a.tag = some x) ∧ (x.live = true) ∧ (ses.mayTenant x.tenant = true) ∧ (itemArgOk a = true) ∧ (s.itemRoom a.tag = true) ∧
      (s.nat Obj.mediaState = 0)) ∧
    (∃ (s : State) (r : CapReq) (ses : Session) (a : ItemArg) (x : Record), (s.Admits r Obj.stageItem ses) ∧ (s.endpointBusy a.tag = false) ∧
      (s.record a.tag = some x) ∧ (x.live = true) ∧ (ses.mayTenant x.tenant = true) ∧ (itemArgOk a = true) ∧ (s.itemRoom a.tag = false)) ∧
    (∃ (s : State) (r : CapReq) (ses : Session) (tag seq : Nat) (x : Record) (i : Item), (s.Admits r Obj.stageWithdraw ses) ∧ (s.record tag =
      some x) ∧ (x.live = true) ∧ (ses.mayTenant x.tenant = true) ∧ (((s.itemsOf tag).find? fun y => y.seq == seq) = some i) ∧ (i.held =
      false) ∧ (i.tag = tag) ∧ (i.request = none) ∧ (s.nat Obj.mediaState = 0)) ∧
    (∃ (s : State) (seq : Nat) (i : Item), (s.serving = true) ∧ ((s.nand.items.find? fun y => y.seq == seq) = some i) ∧ (i.expiry ≤ s.tai) ∧
      (i.request = none)) := by
  refine ⟨⟨end0, r1, adm, ia, rec0 5, by decide +kernel⟩,
    ⟨{ wc end0 [(Obj.stageMaxPerEndpoint, 1)] with nand.items := [item0] }, r1, adm, ia, rec0 5, by decide +kernel⟩,
    ⟨{ end0 with nand.items := [item0] }, r1, adm, 5, 1, rec0 5, item0, by decide +kernel⟩,
    ⟨{ end0 with nand.items := [item0] }, 1, item0, by decide +kernel⟩⟩

def fr : Frame := { frame0 4 with resp := true, centreHz := 868950000, endNs := 800000000000000000 }
def rsp : Response :=
  { frame := 1, tag := 5, port := 0, pendant := false, centreHz := 868950000, mode := 1, launch := 800000000000000000, items := [], counter := 7,
    handed := true, airUs := 1000, widthHz := 20000, listened := false }
def band0 : Int := (868000000 + 2 ^ 32 * 869000000 + 2 ^ 64 * 9000 : Nat)
def bandL : Int := (868000000 + 2 ^ 32 * 869000000 + 2 ^ 64 * 10000 + 2 ^ 88 + 2 ^ 96 * 0xFFB0 : Nat)
def mod0 : Modulator := { sending := none, listen := none }
def busy0 : Modulator := { sending := some (.response false 7), listen := none }
def prt : List (Nat × Int) := [(Obj.iqPortStatus 0, 2), (Obj.carouselEnable, 1), (Obj.centreHz 0, 868950000)]
def dl0 (r : Response) : State := wc { end0 with dl.responses := [r], dl.mods := List.replicate 4 mod0 } ([(Obj.dutyBand 0, band0)] ++ prt)
def cmps : State := wc { end0 with frames := [fr], loc.responding := [1] } ([(Obj.dutyBand 0, band0), (Obj.responseOffsetUs 0, 9000)] ++ prt)

/-- What meets the hypotheses of FastPathResponses. -/
theorem witness_FastPathResponses :
    (∃ (s : State) (n length us width b : Nat) (f : Frame) (x : Record), ((s.frames.find? fun f => f.id == n) = some f) ∧ (f.id = n) ∧
      (s.accepting = true) ∧ (f.resp = true) ∧ (4 ≤ f.stage) ∧ (f.stage ≤ 8) ∧ (s.isNext f = true) ∧ (s.loc.responding.contains n = true) ∧
      ((s.dl.responses.any fun r => r.frame == n) = false) ∧ (s.now ≤ s.deadlineOf f) ∧ (s.record f.tag = some x) ∧ (s.bandAbout
      (s.responseHz f) width = some b) ∧ (s.dutyOk f.port b (s.responseAir f length us) false = true) ∧ ((∀ g ∈ s.frames, g.tag = f.tag →
      g.down = 0))) ∧
    (∃ (s : State) (n : Nat) (f : Frame), ((s.frames.find? fun f => f.id == n) = some f) ∧ (f.id = n) ∧ (s.accepting = true) ∧ (f.resp =
      true) ∧ (4 ≤ f.stage) ∧ (s.isNext f = true) ∧ (s.loc.responding.contains n = true) ∧ ((s.dl.responses.any fun r => r.frame == n) =
      false) ∧ (s.deadlineOf f < s.now) ∧ (s.nat (Obj.responsesMissed f.port) < 4294967295)) ∧
    (∃ (s : State) (n : Nat) (r : Response), ((s.dl.responses.find? fun r => r.frame == n) = some r) ∧ (r.handed = false)) ∧
    (∃ (s : State) (n : Nat) (f : Frame), ((s.dl.responses.find? fun r => r.frame == n) = none) ∧ ((s.frames.find? fun f => f.id == n &&
      s.mayAsk f) = some f) ∧ (s.deadlineOf f ≤ s.now) ∧ (s.nat (Obj.responsesMissed f.port) < 4294967295)) ∧
    (∃ (s : State) (n b : Nat) (p : Bool) (r : Response) (m : Modulator), ((s.dl.responses.find? fun x => x.frame == n && x.pendant == p) =
      some r) ∧ (s.accepting = true) ∧ (r.handed = true) ∧ (r.items = []) ∧ (r.launch ≤ s.now + 1000) ∧ (s.modulator r.port = some m) ∧
      (s.busyFor r = false) ∧ (s.canSend r.port r.centreHz r.widthHz = true) ∧ (s.bandAbout r.centreHz r.widthHz = some b) ∧ ((s.bandLbt b =
      false ∨ r.listened = true)) ∧ (s.dutyOk r.port b r.airUs false = true) ∧ (s.nat (Obj.responsesSent r.port) < 4294967295)) ∧
    (∃ (s : State) (n : Nat) (p : Bool) (r : Response), ((s.dl.responses.find? fun x => x.frame == n && x.pendant == p) = some r) ∧
      (s.accepting = true) ∧ (r.handed = true) ∧ (r.launch ≤ s.now + 1000) ∧ (s.busyFor r = true) ∧ (s.dl.waiting = []) ∧ (s.nat
      (Obj.responsesMissed r.port) < 4294967295)) ∧
    (∃ (s : State) (n : Nat) (r : Response) (m : Modulator), ((s.dl.responses.find? fun x => x.frame == n && x.pendant == false) = some r) ∧
      (s.accepting = true) ∧ (r.handed = true) ∧ (r.items = []) ∧ (r.launch ≤ s.now + 1000) ∧ (s.modulator r.port = some m) ∧ (m.sending =
      none) ∧ (s.canSend r.port r.centreHz r.widthHz = true) ∧ (s.bandAbout r.centreHz r.widthHz = none) ∧ (s.dl.waiting = []) ∧ (s.nat
      (Obj.txNoSubband r.port) < 4294967295)) ∧
    (∃ (s : State) (p : Nat) (m : Modulator), (s.modulator p = some m) ∧ (s.dl.waiting = [])) ∧
    (∃ (s : State) (p : Nat) (power : Int) (r : Response) (b : Nat), ((s.dl.responses.find? (s.listens p)) = some r) ∧ (s.bandAbout
      r.centreHz r.widthHz = some b) ∧ (s.bandThreshold b < power) ∧ (s.dl.waiting = []) ∧ (s.nat (Obj.lbtBusy r.port) < 4294967295)) ∧
    (∃ (s : State) (p : Nat) (power : Int) (r : Response) (b : Nat), ((s.dl.responses.find? (s.listens p)) = some r) ∧ (s.bandAbout
      r.centreHz r.widthHz = some b) ∧ (power ≤ s.bandThreshold b)) ∧
    (∃ (s : State), (s.up = true)) := by
  refine ⟨⟨cmps, 1, 20, 100, 20000, 0, fr, rec0 5, by decide +kernel⟩,
    ⟨{ cmps with time.sec := 800000001 }, 1, fr, by decide +kernel⟩,
    ⟨dl0 { rsp with handed := false }, 1, { rsp with handed := false }, by decide +kernel⟩,
    ⟨{ end0 with frames := [{ fr with endNs := 0 }] }, 1, { fr with endNs := 0 }, by decide +kernel⟩,
    ⟨dl0 rsp, 1, 0, false, rsp, mod0, by decide +kernel⟩,
    ⟨{ dl0 rsp with dl.mods := [busy0] }, 1, false, rsp, by decide +kernel⟩,
    ⟨wc (dl0 rsp) [(Obj.dutyBand 0, 0)], 1, rsp, mod0, by decide +kernel⟩,
    ⟨{ up0 with dl.mods := [busy0] }, 0, busy0, by decide +kernel⟩,
    ⟨wc (dl0 rsp) [(Obj.dutyBand 0, bandL)], 0, -40, rsp, 0, by decide +kernel⟩,
    ⟨wc (dl0 rsp) [(Obj.dutyBand 0, bandL)], 0, -90, rsp, 0, by decide +kernel⟩,
    ⟨up0, by decide +kernel⟩⟩

def plan0 : Int := (0 + 256 * 1 + 2 ^ 32 * 868500000 + 2 ^ (8 * 24) * 3600 + 2 ^ (8 * 32) * 3600 + 2 ^ (8 * 37) * 200 : Nat)
def bc : State :=
  { wc { up0 with dl.mods := List.replicate 4 mod0 } ([(Obj.broadcastPlan 0, plan0), (Obj.dutyBand 0, band0), (Obj.clockStatus, 0)]
    ++ prt) with loc.keys := { KeySet.empty with proto := [(16, 1)] } }
def ca : CampaignArg :=
  { campaign := 0, tenant := 0, blockSize := 32, flags := 0, imageLength := 64, manufacturer := 0, deviceType := 0, version := 0, cellMask := 1,
    startTai := 5, endTai := 800000100, imageCrc := crcOf 64 5, imageHash := 0 }
def cp : Campaign :=
  { header := ca, image := 5, announced := false, state := 1, sent := 0, resends := 0, next := 0, missing := [], addressed := [], complete := [],
    changed := 0 }

/-- What meets the hypotheses of BroadcastsAndCampaigns. -/
theorem witness_BroadcastsAndCampaigns :
    (∃ (s : State) (n us width b : Nat) (m : Modulator), (s.accepting = true) ∧ (n < 16) ∧ (s.planReady n = true) ∧ (s.planOpen n = true) ∧
      (s.repeatDue n = true) ∧ (s.planClass n = 1) ∧ (s.modulator (s.planPort n) = some m) ∧ (m.sending = none) ∧ (s.castBand
      { entry := n, airUs := us, widthHz := width, alt := 0, fin := some (s.windowEnd n) } = some b) ∧ (s.bandLbt b = false) ∧ (s.canSend
      (s.planPort n) (bytesAt (s.planEntry n) 4 4) width = true) ∧ (s.respDue (s.planPort n) false = false) ∧ (s.dutyOk (s.planPort n) b us
      true = true) ∧ ((tget s.dl.castCounters (16 * byteAt (s.planEntry n) 3 + s.planPort n)).getD 0 < 4294967295)) ∧
    (∃ (s : State) (r : CapReq) (ses : Session) (a : CampaignArg) (image : Nat), (s.Admits r Obj.campaignStart ses) ∧ (campaignArgOk a =
      true) ∧ (crcOf a.imageLength image = a.imageCrc) ∧ ((((tget s.dl.campaigns a.campaign).map (·.state)) ≠ some 2 ∨ bit a.flags 0 =
      true))) ∧
    (∃ (s : State) (r : CapReq) (ses : Session) (a : CampaignArg) (image : Nat), (s.Admits r Obj.campaignStart ses) ∧ (campaignArgOk a =
      true) ∧ (((tget s.dl.campaigns a.campaign).map (·.state)) ≠ some 2) ∧ (crcOf a.imageLength image ≠ a.imageCrc)) ∧
    (∃ (s : State) (r : CapReq) (ses : Session) (a : CampaignArg), (s.Admits r Obj.campaignStart ses) ∧ (campaignArgOk a = true) ∧ (((tget
      s.dl.campaigns a.campaign).map (·.state)) = some 2) ∧ (bit a.flags 0 = false)) ∧
    (∃ (s : State) (n : Nat) (c : Campaign), (tget s.dl.campaigns n = some c) ∧ (s.serving = true) ∧ (c.state = 1) ∧ (c.header.startTai ≤
      s.tai)) ∧
    (∃ (s : State) (n : Nat) (c : Campaign), (tget s.dl.campaigns n = some c) ∧ (s.serving = true) ∧ (c.state = 2) ∧ (c.header.endTai ≤
      s.tai)) := by
  refine ⟨⟨bc, 0, 1000, 20000, 0, mod0, by decide +kernel⟩,
    ⟨cap0, r1, adm, ca, 5, by decide +kernel⟩,
    ⟨cap0, r1, adm, ca, 6, by decide +kernel⟩,
    ⟨{ cap0 with dl.campaigns := [(0, { cp with state := 2 })] }, r1, adm, ca, by decide +kernel⟩,
    ⟨{ up0 with dl.campaigns := [(0, cp)] }, 0, cp, by decide +kernel⟩,
    ⟨{ up0 with dl.campaigns := [(0, { cp with state := 2, header := { ca with endTai := 800000000 } })] }, 0, { cp with state := 2, header :=
      { ca with endTai := 800000000 } }, by decide +kernel⟩⟩

def lockL : Lane := { lane0 with zc := lockedZc }
def airL : Lane := { lane0 with onAir := some { out0 with retries := 1 } }
def loseL : Lane := { lane0 with zc := { lockedZc with locked := false } }

/-- What meets the hypotheses of LaneDriver. -/
theorem witness_LaneDriver :
    (∃ (s : State) (l : Nat) (x : Lane), (s.lane l = some x) ∧ (l ≤ 2) ∧ (x.onAir = none) ∧ (s.nat (Obj.thermalTrips l) < 4294967295)) ∧
    (∃ (s : State) (l : Nat) (x : Lane) (o : PlcOut), (s.lane l = some x) ∧ (s.laneOn l = true) ∧ (x.onAir = some o) ∧ (o.t.kind = 0) ∧
      (o.retries < s.nat Obj.chainRetryLimit)) ∧
    (∃ (s : State) (l : Nat) (x : Lane), (s.lane l = some x) ∧ (l ≤ 2)) ∧
    (∃ (s : State) (l a : Nat) (x : Lane), (s.lane l = some x) ∧ (x.hold = some (some a)) ∧ (s.awake = true)) ∧
    (∃ (s : State) (l : Nat) (x : Lane), (s.lane l = some x) ∧ (s.tightropeOn = true) ∧ (x.zc.locked = true) ∧ (s.nat (Obj.zcIgnored l) <
      4294967295) ∧ (l ≤ 2)) ∧
    (∃ (s : State) (l a : Nat) (x : Lane), (s.lane l = some x) ∧ (s.tightropeOn = true) ∧ (x.zc.locked = false) ∧ (x.zc.last ≠ 0) ∧
      (x.zc.last + 7100000 ≤ a - 1000 * s.nat (Obj.zcDelayUs l)) ∧ (a - 1000 * s.nat (Obj.zcDelayUs l) ≤ x.zc.last + 12500000)) ∧
    (∃ (s : State) (l : Nat) (x : Lane), (s.lane l = some x) ∧ (s.tightropeOn = true) ∧ (x.zc.locked = true) ∧ (x.zc.predicted ≤ s.now)) ∧
    (∃ (s : State) (l : Nat) (x : Lane), (s.lane l = some x) ∧ (s.laneOn l = true)) := by
  refine ⟨⟨lan0 lane0, 0, lane0, by decide +kernel⟩,
    ⟨lan0 airL, 0, airL, { out0 with retries := 1 }, by decide +kernel⟩,
    ⟨lan0 lane0, 2, lane0, by decide +kernel⟩,
    ⟨lan0 { lane0 with hold := some (some 5) }, 0, 5, { lane0 with hold := some (some 5) }, by decide +kernel⟩,
    ⟨lan0 lockL, 0, lockL, by decide +kernel⟩,
    ⟨lan0 loseL, 0, 800000000000000000, loseL, by decide +kernel⟩,
    ⟨lan0 lockL, 0, lockL, by decide +kernel⟩,
    ⟨wc (lan0 lockL) [(Obj.rxGainFixedDb 0, 12)], 0, lockL, by decide +kernel⟩⟩

def mpduR : List Nat := [74, 0] ++ List.replicate 12 255 ++ List.replicate 8 100 ++ [7, 0, 254, 255, 9, 0, 0, 0, 1, 2, 3]
def softR : List (List Int) :=
  [1031229475, 734087983, 640402471, 28027128, 929857207, 1005733167, 166336516, 400419422, 60899958, 149773734, 263722668, 60503739, 716214594,
    169553025, 225524926, 1017824963, 189904665, 858927705, 799652300, 297188613, 195592492, 253720224, 705453093, 118209396, 827087669, 680164717,
    1056766357, 143244839, 383888896, 875067544, 639579800, 710625409, 1022301735, 930165125, 493372816, 416764373, 144622167, 1051326561, 85520778,
    215669659].map fun w => (lsbBits 30 w).map fun b => if b then -8 else 8
def crcR : Nat := 3513883083
def hdrR : ChainFields := { hdr0 with sourceRouted := true }
def lanR : Lane := { lane0 with bound := 3, header := some hdrR.word, bursts := 10, syncNs := 799999999000000000, soft := softR }
def mR : ChainMpdu :=
  (chainMpdu selfShort true mpduR).getD
    { hops := 0, hop := 0, towards := false, nodes := [], quality := [], pan := 0, dest := 0, source := 0, zcOffsetUs := 0 }
def b3 (n : Nat) : Lane := { lane0 with bound := 3, header := some hdr0.word, missed := n }
def b2 : Lane := { lane0 with bound := 2 }
def lnkL : Lane :=
  { lane0 with links := [{ src := 1, dst := 2, q := 9, at_ := 5, aged := 5 }, { src := 1, dst := 3, q := 9, at_ := 799990000, aged := 799996000 },
    { src := 2, dst := 1, q := 9, at_ := 800000000, aged := 800000000 }] }

/-- What meets the hypotheses of LaneReception. -/
theorem witness_LaneReception :
    (∃ (f : ChainFields), (f.firstGapUs < 16384) ∧ (f.burstPeriodUs < 16384) ∧ (f.blocksMinusOne < 8) ∧ (f.modulation < 2) ∧ (f.priority <
      3)) ∧
    (∃ (s : State) (l : Nat) (chain : Bool) (x : Lane), (s.lane l = some x) ∧ (s.laneOn l = true) ∧ (x.onAir = none) ∧ (x.bound = 0) ∧
      ((chain = true → (s.laneCfg l x).chain = true))) ∧
    (∃ (s : State) (l : Nat) (x : Lane), (s.lane l = some x) ∧ (s.laneOn l = true) ∧ (x.bound = 2) ∧ (s.nat (Obj.plcCrcFail l) <
      4294967295)) ∧
    (∃ (s : State) (l w : Nat) (syms : List BurstSymbol) (x : Lane), (s.lane l = some x) ∧ (s.laneOn l = true) ∧ (x.bound = 3) ∧ (x.header =
      some w) ∧ (x.bursts < (s.laneCfg l x).announced (chainFields w)) ∧ (s.nat (Obj.erasedSymbols l) + syms.length < 4294967296) ∧ (s.nat
      (Obj.plcCrcFail l) < 4294967295)) ∧
    (∃ (s : State) (l w crc : Nat) (p : PlcInfo) (m : ChainMpdu) (mpdu : List Nat) (x : Lane), (s.lane l = some x) ∧ (s.laneOn l = true) ∧
      (p.chain = true) ∧ (x.bound = 3) ∧ (x.header = some w) ∧ ((s.laneCfg l x).announced (chainFields w) ≤ x.bursts) ∧ (x.chainDecoded
      (s.laneCfg l x) (chainFields w) = some (m, mpdu, crc)) ∧ ((m.dest = selfShort ∨ m.dest = 0xFFFF)) ∧ (s.cellOpen (l + 4) = true) ∧ (1 <
      m.hops)) ∧
    (∃ (s : State) (l w : Nat) (p : PlcInfo) (x : Lane), (s.lane l = some x) ∧ (s.laneOn l = true) ∧ (p.chain = true) ∧ (x.bound = 3) ∧
      (x.header = some w) ∧ ((s.laneCfg l x).announced (chainFields w) ≤ x.bursts) ∧ (x.chainDecoded (s.laneCfg l x) (chainFields w) = none)
      ∧ (s.nat (Obj.plcCrcFail l) < 4294967295)) ∧
    (∃ (s : State) (l : Nat) (p : PlcInfo) (x : Lane), (s.lane l = some x) ∧ (s.laneOn l = true) ∧ (p.chain = false) ∧ (x.bound = 1) ∧
      (s.cellOpen (l + 4) = true) ∧ (modulationSupported p.modulation = true)) ∧
    (∃ (s : State) (l : Nat) (ok : Bool) (p : PlcInfo) (x : Lane), (s.lane l = some x) ∧ (s.laneOn l = true) ∧ (p.chain = false) ∧ (x.bound
      = 1) ∧ (s.nat (Obj.plcUnsupportedFormat l) < 4294967295) ∧ (s.nat (Obj.plcCrcFail l) < 4294967295) ∧ ((modulationSupported
      p.modulation = false ∨ ok = false))) ∧
    (∃ (s : State), (s.tightropeOn = true)) ∧
    (∃ (s : State) (r : CapReq) (ses : Session) (l : Nat) (x : Lane), (s.Admits r Obj.linkQualityRead ses) ∧ (s.lane l = some x)) := by
  refine ⟨⟨hdr0, by decide +kernel⟩,
    ⟨lan0 lane0, 0, true, lane0, by decide +kernel⟩,
    ⟨lan0 b2, 0, b2, by decide +kernel⟩,
    ⟨lan0 (b3 0), 0, hdr0.word, List.replicate 4 { samples := [], noise := [], soft := [] }, b3 0, by decide +kernel⟩,
    ⟨lan0 lanR, 0, hdrR.word, crcR, { plc0 with chain := true }, mR, mpduR, lanR, by decide +kernel⟩,
    ⟨lan0 { lanR with soft := [] }, 0, hdrR.word, { plc0 with chain := true }, { lanR with soft := [] }, by decide +kernel⟩,
    ⟨lan0 { lane0 with bound := 1 }, 0, plc0, { lane0 with bound := 1 }, by decide +kernel⟩,
    ⟨lan0 { lane0 with bound := 1 }, 0, false, plc0, { lane0 with bound := 1 }, by decide +kernel⟩,
    ⟨lan0 lnkL, by decide +kernel⟩,
    ⟨lan0 lane0, r1, adm, 0, lane0, by decide +kernel⟩⟩

def pwr : Lane := { lane0 with power := true, timing := some { slotUs := 1, ifsUs := 1, p0 := 1, p1 := 1, p2 := 1, ackGapUs := 1 } }
def oc : Lane := { lane0 with contending := some out0, drawn := some 3 }
def vir : Lane := { lane0 with virtual := some 5 }
def out1 : PlcOut := { out0 with t := { out0.t with kind := 1 } }
def oc1 : Lane := { oc with contending := some out1 }
def onA : Lane := { lane0 with onAir := some { out0 with endNs := some 5 } }
def it9 (c : Nat) : Item := { item0 with seq := 4, cls := c }

/-- What meets the hypotheses of MediumAccess. -/
theorem witness_MediumAccess :
    (∃ (s : State) (l power : Nat) (x : Lane), (s.lane l = some x) ∧ (s.laneOn l = true) ∧ (x.bound = 0) ∧ (x.virtual = none) ∧ (x.onAir =
      none) ∧ (x.power = true) ∧ (s.sensed x power = false)) ∧
    (∃ (s : State) (l d power : Nat) (x : Lane), (s.lane l = some x) ∧ (s.laneOn l = true) ∧ (x.drawn = some d) ∧ (x.idle = true) ∧
      (s.sensed x power = true) ∧ (s.nat (Obj.contentionDeferrals l) < 4294967295)) ∧
    (∃ (s : State) (l : Nat) (x : Lane), (s.lane l = some x) ∧ (s.laneOn l = true)) ∧
    (∃ (s : State) (l e : Nat) (x : Lane), (s.lane l = some x) ∧ (s.laneOn l = true) ∧ (x.virtual = some e)) ∧
    (∃ (s : State) (l : Nat) (p : PlcTx) (x : Lane), (s.lane l = some x) ∧ (s.laneOn l = true) ∧ (p.stage = 0) ∧ (((p.kind = 1 ∧
      x.wantsRoute p = false) ∨ (p.kind = 0 ∧ s.flag (Obj.chainEnable l) = true ∧ (s.laneCfg l x).chain = true))) ∧ (x.queue = []) ∧
      (x.contending = none)) ∧
    (∃ (s : State) (l : Nat) (p : PlcTx) (x : Lane) (i : Item), (s.lane l = some x) ∧ (s.laneOn l = true) ∧ (p.stage ≠ 0) ∧ (s.mayCarry
      p.stage = true) ∧ (s.nand.items.find? (fun j => j.seq == p.stage && p.stage != 0) = some i) ∧ (p.kind = 0) ∧ (s.flag (Obj.chainEnable
      l) = true) ∧ ((s.laneCfg l x).chain = true) ∧ (x.queue = []) ∧ (x.contending = none)) ∧
    (∃ (s : State) (l d : Nat) (x : Lane) (o : PlcOut), (s.lane l = some x) ∧ (s.laneOn l = true) ∧ (x.contending = some o) ∧ (x.drawn =
      some d) ∧ (d ≤ s.now) ∧ (o.t.kind = 0) ∧ ((s.laneCfg l x).chain = true) ∧ (x.idle = true) ∧ (s.accepting = true) ∧ (x.hold = none) ∧
      (s.pins.therm.getD l false = false)) ∧
    (∃ (s : State) (l : Nat) (x : Lane) (o : PlcOut), (s.lane l = some x) ∧ (s.laneOn l = true) ∧ (x.contending = some o) ∧ (o.t.kind = 1) ∧
      (x.idle = true) ∧ (s.accepting = true) ∧ (x.hold = none) ∧ (s.pins.therm.getD l false = false)) ∧
    (∃ (s : State) (l : Nat) (x : Lane) (o : PlcOut), (s.lane l = some x) ∧ (s.laneOn l = true) ∧ (x.onAir = some o) ∧ (o.t.kind = 0) ∧
      (o.t.dest ≠ 0xFFFF) ∧ (o.endNs.getD s.now ≤ s.now) ∧ (s.nat (Obj.plcTxFrames l) < 4294967295) ∧ (s.nat (Obj.txDegraded l) <
      4294967295)) := by
  refine ⟨⟨lan0 pwr, 0, 0, pwr, by decide +kernel⟩,
    ⟨lan0 oc, 0, 3, 99999, oc, by decide +kernel⟩,
    ⟨lan0 oc, 0, oc, by decide +kernel⟩,
    ⟨lan0 vir, 0, 5, vir, by decide +kernel⟩,
    ⟨lan0 lane0, 0, out0.t, lane0, by decide +kernel⟩,
    ⟨{ lan0 lane0 with nand.items := [it9 3] }, 0, { out0.t with stage := 4 }, lane0, it9 3, by decide +kernel⟩,
    ⟨lan0 oc, 0, 3, oc, out0, by decide +kernel⟩,
    ⟨lan0 oc1, 0, oc1, out1, by decide +kernel⟩,
    ⟨lan0 onA, 0, onA, { out0 with endNs := some 5 }, by decide +kernel⟩⟩

def ackL (due : Nat) : Lane := { lane0 with ackFor := some (44, 1, due) }
def outA : PlcOut := { out0 with crc := 77, endNs := some 5 }
def awt (o : PlcOut) : Await := { o := o, seen := false }
def ackW : Nat := { hdr0 with firstGapUs := 77, burstPeriodUs := 0 : ChainFields }.word
def aw2 : Lane := { lane0 with bound := 2, header := some ackW, awaiting := [awt outA, awt { outA with crc := 78 }] }
def aw (n : Nat) : Lane := { lane0 with awaiting := [awt { outA with retries := n }] }
def plcr : Record := { rb with ntype := 3 }
def eap : State := { wc (lan0 lane0) [(Obj.tenantEnable, 1)] with nand.recs := [(5, plcr)], nand.blobs := [(2, blb5)], loc.keys := keys9 }

/-- What meets the hypotheses of AcknowledgementsAndRoutes. -/
theorem witness_AcknowledgementsAndRoutes :
    (∃ (s : State) (l crc prio due : Nat) (x : Lane), (s.lane l = some x) ∧ (s.laneOn l = true) ∧ (x.ackFor = some (crc, prio, due))) ∧
    (∃ (s : State) (l w : Nat) (x : Lane) (a : Await), (s.lane l = some x) ∧ (s.laneOn l = true) ∧ (x.bound = 2) ∧ (x.header = some w) ∧ (a
      ∈ x.awaiting) ∧ (a.o.crc % 16384 = (chainFields w).firstGapUs) ∧ ((∀ b ∈ x.awaiting, b.o.t.stage = 0))) ∧
    (∃ (s : State) (l : Nat) (x : Lane) (a : Await), (s.lane l = some x) ∧ (s.laneOn l = true) ∧ (x.awaiting.find? ((s.laneTiming x).waited
      s.now) = some a) ∧ (a.o.t.stage = 0) ∧ (s.nat (Obj.ackTimeouts l) < 4294967295) ∧ (s.nat (Obj.retriesExhausted l) < 4294967295)) ∧
    (∃ (s : State) (l : Nat) (x : Lane), (s.lane l = some x) ∧ (s.laneOn l = true)) ∧
    (∃ (s : State) (l : Nat) (x : Lane), (s.lane l = some x) ∧ (s.laneOn l = true)) ∧
    (∃ (s : State) (l tag : Nat) (x : Lane) (r : Record), (s.lane l = some x) ∧ (s.laneOn l = true) ∧ (s.lookupTag tag = some r) ∧ (r.live =
      true) ∧ (typeOnCell r.ntype (l + 4) = true) ∧ ((tget s.loc.keys.proto (32 * r.tenant + 4 + l)).isSome = true) ∧ (s.pskOpens r = true)) := by
  refine ⟨⟨lan0 (ackL 5), 0, 44, 1, 5, ackL 5, by decide +kernel⟩,
    ⟨lan0 aw2, 0, ackW, aw2, awt outA, by decide +kernel⟩,
    ⟨lan0 (aw 0), 0, aw 0, awt { outA with retries := 0 }, by decide +kernel⟩,
    ⟨lan0 lane0, 0, lane0, by decide +kernel⟩,
    ⟨lan0 lane0, 0, lane0, by decide +kernel⟩,
    ⟨eap, 0, 5, lane0, plcr, by decide +kernel, by decide +kernel, by decide +kernel, by decide +kernel, by decide +kernel, by decide +kernel,
      key5_psk _ _ 2 ⟨rfl, rfl, rfl, rfl⟩ rfl rfl⟩⟩

def tun : State := wc reg0 [(Obj.cellEnable, 0xFFFF), (Obj.tunnelBinding 0, 3)]
def path (f : Frame) : State := { wc reg0 depths with frames := [f], nextFrame := 2 }
def uw (f : Frame) : State := { path f with nand.recs := [(5, rb)], nand.blobs := [(2, blb5)], loc.keys := keys9 }
def recA : Record := { rec0 5 with flags := 1, billingHome := 3 }
def abv (f : Frame) : State := { path f with nand.recs := [(5, recA)] }
def f0 : Frame := { frame0 1 with counter := 0 }

/-- What meets the hypotheses of PathToTheJournal. -/
theorem witness_PathToTheJournal :
    (∃ (s : State) (src n : Nat), (s.up = true) ∧ (((List.range 9).find? fun n => s.bitOf Obj.cellEnable (n + 7) && s.nat (Obj.tunnelBinding
      n) != 0 && bytesAt (s.nat (Obj.tunnelBinding n)) 0 18 == src % 256 ^ 18) = some n) ∧ (s.cellOpen (n + 7) = true)) ∧
    (∃ (s : State) (src : Nat), (s.up = true) ∧ (((List.range 9).find? fun n => s.bitOf Obj.cellEnable (n + 7) && s.nat (Obj.tunnelBinding
      n) != 0 && bytesAt (s.nat (Obj.tunnelBinding n)) 0 18 == src % 256 ^ 18) = none) ∧ (s.nat Obj.tunnelUnmatched < 4294967295)) ∧
    (∃ (s : State) (n : Nat) (f : Frame) (r : Record), (s.frame n = some f) ∧ (f.stage = 1) ∧ (s.commits = true) ∧ (s.recordFor f = some r)
      ∧ (r.bad = false) ∧ (s.enabled r.tenant = true) ∧ (s.inFlight f r.tag = false) ∧ ((r.upCounter < f.counter ∨ (f.counter = r.upCounter
      ∧ r.counted = false))) ∧ (s.journalFits f r = true) ∧ (s.canCarry f r = true) ∧ ((s.admitFrame r.tenant).1 = true)) ∧
    (∃ (s : State) (n : Nat) (f : Frame) (r : Record), (s.frame n = some f) ∧ (f.stage = 1) ∧ (s.commits = true) ∧ (s.recordFor f = some r)
      ∧ (r.bad = false) ∧ (s.enabled r.tenant = true) ∧ (s.inFlight f r.tag = false) ∧ (f.counter = r.upCounter) ∧ (r.counted = true) ∧
      ((s.admitFrame r.tenant).1 = true)) ∧
    (∃ (s : State) (n : Nat) (f : Frame) (r : Record), (s.frame n = some f) ∧ (f.stage = 1) ∧ (s.commits = true) ∧ (s.recordFor f = some r)
      ∧ (r.bad = false) ∧ (s.enabled r.tenant = true) ∧ (s.inFlight f r.tag = false) ∧ (r.upCounter < f.counter) ∧ (f.forwarded = none) ∧
      (s.journalFits f r = true) ∧ (s.canCarry f r = false) ∧ (r.tenant < 8) ∧ (s.nat (Obj.ingestRefused r.tenant) < 4294967295)) ∧
    (∃ (s : State) (n : Nat) (f : Frame), (s.frame n = some f) ∧ (f.stage = 1) ∧ (s.commits = true) ∧ (s.recordFor f = none) ∧ (f.forwarded
      = none) ∧ (s.nat Obj.unknownAddressFrames < 4294967295)) ∧
    (∃ (s : State) (n : Nat) (f : Frame) (r : Record), (s.frame n = some f) ∧ (f.stage = 2) ∧ (s.commits = true) ∧ (s.turnOf f
      (s.frames.filter fun g => g.stage == 2) = true) ∧ (s.loc.zeroizing = false) ∧ (s.record f.tag = some r) ∧ (r.live = true) ∧ (f.suite <
      7) ∧ (s.loc.working.length < 2048) ∧ (s.unwrapResult r f.suite = 0) ∧ (f.resp = false) ∧ (f.retx = false) ∧ (f.forwarded = none)) ∧
    (∃ (s : State) (n : Nat) (f : Frame) (r : Record), (s.frame n = some f) ∧ (f.stage = 3) ∧ (s.commits = true) ∧ (s.turnOf f
      (s.frames.filter fun g => g.stage == 3) = true) ∧ (s.nat Obj.mediaState = 0) ∧ (s.fits f.length = true) ∧ (s.record f.tag = some r) ∧
      (r.live = true) ∧ (r.tag = f.tag) ∧ (s.billedAbove r = false) ∧ (f.forwarded = none)) ∧
    (∃ (s : State) (n : Nat) (f : Frame) (r : Record), (s.frame n = some f) ∧ (f.stage = 3) ∧ (s.commits = true) ∧ (s.turnOf f
      (s.frames.filter fun g => g.stage == 3) = true) ∧ (s.nat Obj.mediaState = 0) ∧ (s.fits f.length = true) ∧ (s.record f.tag = some r) ∧
      (r.live = true) ∧ (r.tag = f.tag) ∧ (s.billedAbove r = true) ∧ (f.forwarded = none) ∧ (s.forwardBytes + f.forwardSize ≤ s.nat
      Obj.forwardJournalLimit) ∧ (f.resp = false)) ∧
    (∃ (s : State) (n : Nat) (f : Frame), (s.frame n = some f) ∧ (f.stage = 3) ∧ (s.commits = true) ∧ (s.nat Obj.mediaState = 0) ∧ (s.fits
      f.length = false)) := by
  refine ⟨⟨tun, 3, 0, by decide +kernel⟩,
    ⟨tun, 4, by decide +kernel⟩,
    ⟨path (frame0 1), 1, frame0 1, rec0 5, by decide +kernel⟩,
    ⟨path f0, 1, f0, rec0 5, by decide +kernel⟩,
    ⟨{ path (frame0 1) with cask.dirtyLimit := 5 }, 1, frame0 1, rec0 5, by decide +kernel⟩,
    ⟨path { frame0 1 with native := { ntype := 1, addr := 501 } }, 1, { frame0 1 with native := { ntype := 1, addr := 501 } },
      by decide +kernel⟩,
    ⟨uw (frame0 2), 1, frame0 2, rb, by decide +kernel, by decide +kernel, by decide +kernel, by decide +kernel, by decide +kernel,
      by decide +kernel, by decide +kernel, by decide +kernel, by decide +kernel, (key5_result _ _ 2 ⟨rfl, rfl, rfl, rfl⟩ rfl rfl _ rfl).2,
      rfl, rfl, rfl⟩,
    ⟨path (frame0 3), 1, frame0 3, rec0 5, by decide +kernel⟩,
    ⟨abv (frame0 3), 1, frame0 3, recA, by decide +kernel⟩,
    ⟨{ path (frame0 3) with cask.dirtyLimit := 5 }, 1, frame0 3, by decide +kernel⟩⟩

def el0 : Element :=
  { proto := 1, ident := 8, value := 100, scaler := 0, timeKind := 0, time := 0, leap := false, interval := 0, supported := true, powerOff := false,
    event := 0, code := 0, aux := 0 }
def rch : Record := { rec0 5 with chanMask := 1, chanConfig := [16] }
def f4 : Frame := { frame0 4 with journal := 1, endNs := 800000000000000000, syncNs := 800000000000000000 }
def rd0 : Reading := { key := 5 * 16, time := 799999200, interval := 0, status := 0, rule := 0, tenant := 0, origin := 0, value := 100, delta := 0 }
def pt (f : Frame) : State :=
  { wc (path f) [(Obj.parseMap 0 0, (1 + 2 ^ 16 * 8 + 2 ^ 64 * 1 : Nat)), (Obj.uplinkTarget 0, 1), (Obj.taiUtcOffsetS, 37), (Obj.clockStatus, 0)]
    with nand.recs := [(5, rch)] }
def bt : Batch := { tenant := 0, seq := 0, recs := [{ ty := 1, len := 4, data := 9 }], bytes := 7, journal := 1, sent := false, redelivered := false }

/-- What meets the hypotheses of PathToTheUplink. -/
theorem witness_PathToTheUplink :
    (∃ (s : State) (n ch : Nat) (f : Frame) (r : Record) (e : Element), (s.frame n = some f) ∧ (f.id = n) ∧ (f.stage = 4) ∧ (s.serving =
      true) ∧ (s.pw.cause = 0) ∧ (s.loc.zeroizing = false) ∧ (s.record f.tag = some r) ∧ (r.bad = false) ∧ (s.turnOf f (s.readyAt 4) = true)
      ∧ (e.supported = true) ∧ (e.event = 0) ∧ (s.channelFor r e = some ch)) ∧
    (∃ (s : State) (n : Nat) (f : Frame) (r : Record) (es : List Element), (s.frame n = some f) ∧ (f.id = n) ∧ (f.stage = 4) ∧ (s.serving =
      true) ∧ (s.pw.cause = 0) ∧ (s.loc.zeroizing = false) ∧ (s.record f.tag = some r) ∧ (r.bad = false) ∧ (s.turnOf f (s.readyAt 4) = true)
      ∧ ((es.all fun e => !e.supported) = true) ∧ (s.nat (Obj.parseUnsupported r.tenant) < 4294967295)) ∧
    (∃ (s : State) (n : Nat) (f : Frame) (r : Record), (s.frame n = some f) ∧ (f.id = n) ∧ (f.stage = 5) ∧ (s.serving = true) ∧ (s.pw.cause
      = 0) ∧ (s.loc.zeroizing = false) ∧ (s.record f.tag = some r) ∧ (r.bad = false) ∧ (s.turnOf f (s.readyAt 5) = true)) ∧
    (∃ (s : State) (n : Nat) (f : Frame) (r : Record), (s.frame n = some f) ∧ (f.id = n) ∧ (f.stage = 6) ∧ (s.serving = true) ∧ (s.pw.cause
      = 0) ∧ (s.loc.zeroizing = false) ∧ (s.record f.tag = some r) ∧ (r.bad = false) ∧ (s.turnOf f (s.readyAt 6) = true)) ∧
    (∃ (s : State) (n : Nat) (f : Frame) (r : Record), (s.frame n = some f) ∧ (f.id = n) ∧ (f.stage = 7) ∧ (s.serving = true) ∧ (s.pw.cause
      = 0) ∧ (s.loc.zeroizing = false) ∧ (s.record f.tag = some r) ∧ (r.bad = false)) ∧
    (∃ (s : State) (n : Nat) (f : Frame) (r : Record), (s.frame n = some f) ∧ (f.id = n) ∧ (f.stage = 8) ∧ (s.serving = true) ∧ (s.pw.cause
      = 0) ∧ (s.loc.zeroizing = false) ∧ (s.record f.tag = some r) ∧ (r.bad = false) ∧ (s.turnOf f (s.readyAt 8) = true) ∧ (r.tag = f.tag) ∧
      (s.fits f.resultSize = true) ∧ (f.readings = []) ∧ (f.rejectedRules = []) ∧ (f.compare = []) ∧ (f.events = []) ∧ (s.parked = []) ∧
      (s.pw.replaying = false)) ∧
    (∃ (s : State) (n : Nat) (f : Frame), (s.frame n = some f) ∧ (f.stage = 8) ∧ (s.fits f.resultSize = false) ∧ ((∀ r, s.record f.tag =
      some r → r.bad = false))) ∧
    (∃ (s : State) (n : Nat) (f : Frame), (s.frame n = some f) ∧ (f.id = n) ∧ (f.stage = 9) ∧ (s.serving = true) ∧ (s.pw.cause = 0) ∧
      (s.turnOf f (s.frames.filter fun g => g.stage == 9) = true) ∧ (f.resp = false)) ∧
    (∃ (s : State) (k : Nat) (b : Batch), (s.up = true) ∧ (s.pw.cause = 0) ∧ (s.enabled k = true) ∧ (s.nand.open_[k]? = some b) ∧ (b.recs ≠
      []) ∧ (s.nat (Obj.uplinkTarget k) ≠ 0)) ∧
    (∃ (s : State) (k : Nat), (s.up = true) ∧ (s.nat (Obj.uplinkTarget k) ≠ 0)) := by
  refine ⟨⟨pt f4, 1, 0, f4, rch, el0, by decide +kernel⟩,
    ⟨pt f4, 1, f4, rch, [{ el0 with supported := false }], by decide +kernel⟩,
    ⟨pt { f4 with stage := 5, readings := [rd0] }, 1, { f4 with stage := 5, readings := [rd0] }, rch, by decide +kernel⟩,
    ⟨pt { f4 with stage := 6, readings := [rd0] }, 1, { f4 with stage := 6, readings := [rd0] }, rch, by decide +kernel⟩,
    ⟨pt { f4 with stage := 7 }, 1, { f4 with stage := 7 }, rch, by decide +kernel⟩,
    ⟨pt { f4 with stage := 8 }, 1, { f4 with stage := 8 }, rch, by decide +kernel⟩,
    ⟨{ pt { f4 with stage := 8 } with cask.dirtyLimit := 5 }, 1, { f4 with stage := 8 }, by decide +kernel⟩,
    ⟨pt { f4 with stage := 9 }, 1, { f4 with stage := 9 }, by decide +kernel⟩,
    ⟨{ pt { f4 with stage := 9 } with nand.open_ := [bt] }, 0, bt, by decide +kernel⟩,
    ⟨{ pt f4 with nand.retained := [{ bt with seq := 3 }, { bt with seq := 5 }] }, 0, by decide +kernel⟩⟩

def sub0 : Int := (3 + 2 ^ 16 * 77 + 2 ^ 80 * 88 : Nat)
def regn : State :=
  { wc reg0 [(Obj.subordinateTable 0, sub0), (Obj.tenantEnable, 1)] with pw.regional := true, cascades := [(3,
    { up := true, serial := 77, number := 3, failed := none })] }

/-- What meets the hypotheses of CascadeSessions. -/
theorem witness_CascadeSessions :
    (∃ (s : State) (n serial hash : Nat), (s.up = true) ∧ (s.mayHandshake = true) ∧ (s.pw.regional = true) ∧ ((s.subordinates.any fun e =>
      e.1 == n && e.2.1 == serial && e.2.2 == hash) = true)) ∧
    (∃ (s : State) (n serial hash : Nat), (s.pw.regional = true) ∧ (((s.subordinates.any fun e => e.1 == n && e.2.1 == serial && e.2.2 ==
      hash) = false ∨ s.mayHandshake = false))) ∧
    (∃ (s : State), (s.up = true) ∧ (s.mayHandshake = true) ∧ (s.pw.regional = false)) ∧
    (∃ (s : State), (s.pw.regional = true)) ∧
    (∃ (s : State) (n : Nat), (s.accepting = true) ∧ (s.fw.matched ≠ 255) ∧ ((s.frames.any (·.replay)) = false) ∧ (s.pw.regional = true) ∧
      (s.cascadeUp n = true)) ∧
    (∃ (s : State), (s.up = true) ∧ (s.pw.regional = false)) ∧
    (∃ (s : State), (s.up = true) ∧ (s.pw.regional = true)) ∧
    (∃ (s : State) (bc : Bool) (target : Nat), (s.up = true) ∧ (s.pw.regional = false) ∧ (s.cascadeUp upstream = true) ∧ ((bc = true ∨
      target = s.ownNumber))) ∧
    (∃ (s : State) (n ty data k : Nat) (b : Batch), (s.up = true) ∧ (s.pw.regional = true) ∧ (s.cascadeUp n = true) ∧ (s.recordTenant ty
      data = some k) ∧ (s.enabled k = true) ∧ (s.nand.open_[k]? = some b)) := by
  refine ⟨⟨regn, 3, 77, 88, by decide +kernel⟩,
    ⟨regn, 4, 77, 88, by decide +kernel⟩,
    ⟨up0, by decide +kernel⟩,
    ⟨regn, by decide +kernel⟩,
    ⟨regn, 3, by decide +kernel⟩,
    ⟨up0, by decide +kernel⟩,
    ⟨regn, by decide +kernel⟩,
    ⟨{ end0 with cascades := [(upstream, { up := true, serial := 77, number := 3, failed := none })] }, true, 9, by decide +kernel⟩,
    ⟨regn, 3, 3, 0, 0, { tenant := 0, seq := 0, recs := [], bytes := 0, journal := 0, sent := false, redelivered := false }, by decide +kernel⟩⟩

def im : Image :=
  { tag := 0, native := { ntype := 1, addr := 600 }, cell := 0, tenant := 0, flags := 0, billingHome := 0, calendar := 0, phase := 0,
    topology := 0xFFFF, channelMask := 1, channelConfig := [16], previousTag := 0 }
def adm0 : State := wc reg0 [(Obj.registryShare 0, 10), (Obj.registryLimit, 10)]
def mx : MoveExport :=
  { version := 1, tenant := 0, serial := 6, tag := 9, energy := [5], credit := 0, emergency := 0, debt := 0, topUpCounter := 0, lastTopUp := 0,
    stateSince := 0, creditState := 0, tflags := 0, share := 0, periodSpend := 0, switchSeq := 0, lastAmount := 0, remainder := 0, certOk := true,
    certSerial := 6, signatureOk := true }

/-- What meets the hypotheses of EndpointRegistry. -/
theorem witness_EndpointRegistry :
    (∃ (s : State) (r : CapReq) (ses : Session) (i : Image), (s.Admits r Obj.endpointAdmit ses) ∧ (ses.mayTenant i.tenant = true) ∧
      (s.imageRefusal i = none) ∧ (s.nat Obj.mediaState = 0)) ∧
    (∃ (s : State) (r : CapReq) (ses : Session) (i : Image) (o : CapOut), (s.Admits r Obj.endpointAdmit ses) ∧ (ses.mayTenant i.tenant =
      true) ∧ (s.imageRefusal i = some o)) ∧
    (∃ (s : State) (r : CapReq) (ses : Session) (i : Image) (x : MoveExport), (s.Admits r Obj.endpointAdmitMove ses) ∧ (ses.mayTenant
      i.tenant = true) ∧ (s.exportRefusal i x = none) ∧ (s.imageRefusal i = none) ∧ (s.nat Obj.mediaState = 0)) ∧
    (∃ (s : State) (r : CapReq) (ses : Session) (tag : Nat) (x : Record), (s.Admits r Obj.endpointRemove ses) ∧ (s.endpointBusy tag = false)
      ∧ (s.record tag = some x) ∧ (x.tag = tag) ∧ (x.live = true) ∧ (ses.mayTenant x.tenant = true) ∧ (s.nat Obj.mediaState = 0) ∧
      (s.loc.zeroizing = false) ∧ (s.loc.entropyFailed = false) ∧ (s.bill tag = none) ∧ ((s.nand.deferred.any fun d => d.tag == tag) =
      false)) ∧
    (∃ (s : State) (r : CapReq) (ses : Session) (tag : Nat) (x : Record), (s.Admits r Obj.endpointRead ses) ∧ (s.record tag = some x) ∧
      (x.state ≠ 0) ∧ (x.bad = false) ∧ (ses.mayTenant x.tenant = true)) ∧
    (∃ (s : State) (tag : Nat) (x : Record), (s.record tag = some x) ∧ (s.up = true) ∧ (x.state = 4) ∧ (x.removedAt + 86400 * s.nat
      Obj.indexQuarantineDays ≤ s.tai)) ∧
    (∃ (s : State), (s.up = true) ∧ (s.nand.day < s.tai / 86400)) := by
  refine ⟨⟨adm0, r1, adm, im, by decide +kernel⟩,
    ⟨adm0, r1, adm, { im with tenant := 9 }, capErr 5 0, by decide +kernel⟩,
    ⟨adm0, r1, adm, im, mx, by decide +kernel⟩,
    ⟨reg0, r1, adm, 5, rec0 5, by decide +kernel⟩,
    ⟨reg0, r1, adm, 5, rec0 5, by decide +kernel⟩,
    ⟨{ reg0 with nand.recs := [(5, { rec0 5 with state := 4 })] }, 5, { rec0 5 with state := 4 }, by decide +kernel⟩,
    ⟨reg0, by decide +kernel⟩⟩

def na : NodeArg := { id := 4, parent := 65535, kind := 1, tenant := 0, flags := 0, minWh := 5, permille := 100, name := 7 }
def tre : State := { wc reg0 [(Obj.clockStatus, 0), (Obj.taiUtcOffsetS, 37)] with nand.nodes := [(4, node0)] }

/-- What meets the hypotheses of TreeAndBalances. -/
theorem witness_TreeAndBalances :
    (∃ (s : State) (r : CapReq) (ses : Session) (a : NodeArg), (s.Admits r Obj.nodeWrite ses) ∧ (s.nodeCheck a = 0) ∧ (s.nat Obj.mediaState
      = 0) ∧ (a.kind ≠ 0)) ∧
    (∃ (s : State) (r : CapReq) (ses : Session) (a : NodeArg), (s.Admits r Obj.nodeWrite ses) ∧ (s.nodeCheck a ≠ 0)) ∧
    (∃ (s : State) (r : CapReq) (ses : Session) (n : Nat) (x : Node), (s.Admits r Obj.nodeRead ses) ∧ (n ≤ 16383) ∧ (tget s.nand.nodes n =
      some x)) ∧
    (∃ (s : State) (r : CapReq) (ses : Session) (tag : Nat) (x : Record), (s.Admits r Obj.scoreReset ses) ∧ (s.record tag = some x) ∧
      (x.live = true) ∧ (ses.mayTenant x.tenant = true) ∧ (s.nat Obj.mediaState = 0)) ∧
    (∃ (s : State) (n : Nat) (x : Node), (s.node n = some x) ∧ (s.serving = true) ∧ (s.tai / 86400 ≤ s.nand.day) ∧ (s.balanceEnd x.lastEnd +
      s.nat Obj.balanceDelayS ≤ s.billSec)) := by
  refine ⟨⟨reg0, r1, adm, na, by decide +kernel⟩,
    ⟨reg0, r1, adm, { na with permille := 0 }, by decide +kernel⟩,
    ⟨tre, r1, adm, 4, node0, by decide +kernel⟩,
    ⟨reg0, r1, adm, 5, rec0 5, by decide +kernel⟩,
    ⟨{ tre with nand.day := 100000000 }, 4, node0, by decide +kernel⟩⟩

def pre : State := pre0 bill0
def bb : Bill := { bill0 with turn := { bill0.turn with state := 2, credit := -5 } }
def swA : SwitchArg :=
  { tag := 5, kind := 1, tenant := 0, flags := 0, notBefore := 0, expiry := 900000000, limitW := 0, durationS := 0, cellMask := 0,
    reference := 0 }
def head : Session := sesOf 1 0

/-- What meets the hypotheses of PrepaymentCommands. -/
theorem witness_PrepaymentCommands :
    (∃ (s : State) (r : CapReq) (ses : Session) (tag seq : Nat) (a : Int) (x : Record) (b : Bill), (s.Admits r Obj.topUp ses) ∧
      (s.endpointBusy tag = false) ∧ (s.record tag = some x) ∧ (x.live = true) ∧ (ses.mayTenant x.tenant = true) ∧ (x.flag 6 = true) ∧
      (s.bill tag = some b) ∧ (0 < a) ∧ (b.turn.topUpCounter < seq) ∧ (s.nat Obj.mediaState = 0)) ∧
    (∃ (s : State) (r : CapReq) (ses : Session) (tag : Nat) (x : Record) (b : Bill), (s.Admits r Obj.topUp ses) ∧ (s.endpointBusy tag = false)
      ∧ (s.record tag = some x) ∧ (x.live = true) ∧ (ses.mayTenant x.tenant = true) ∧ (x.flag 6 = true) ∧ (s.bill tag = some b) ∧ (0 <
      b.turn.lastAmount) ∧ (bit b.turn.flags 4 = false)) ∧
    (∃ (s : State) (r : CapReq) (ses : Session) (tag seq : Nat) (v : Int) (x : Record) (b : Bill), (s.Admits r Obj.debtSet ses) ∧
      (s.endpointBusy tag = false) ∧ (s.record tag = some x) ∧ (x.live = true) ∧ (ses.mayTenant x.tenant = true) ∧ (x.flag 6 = true) ∧
      (s.bill tag = some b) ∧ (0 ≤ v) ∧ (b.turn.topUpCounter < seq) ∧ (s.nat Obj.mediaState = 0)) ∧
    (∃ (s : State) (r : CapReq) (ses : Session) (tag on : Nat) (x : Record), (s.Admits r Obj.lockOutSet ses) ∧ (s.endpointBusy tag = false) ∧
      (s.record tag = some x) ∧ (x.live = true) ∧ (ses.mayTenant x.tenant = true) ∧ (on ≤ 1) ∧ (s.nat Obj.mediaState = 0)) ∧
    (∃ (s : State) (r : CapReq) (ses : Session) (tag : Nat) (x : Record) (b : Bill), (s.Admits r Obj.emergencyAccept ses) ∧ (s.endpointBusy
      tag = false) ∧ (s.record tag = some x) ∧ (x.tag = tag) ∧ (x.live = true) ∧ (ses.mayTenant x.tenant = true) ∧ (x.flag 6 = true) ∧
      (s.bill tag = some b) ∧ (b.turn.state = 2) ∧ (b.turn.credit ≤ 0) ∧ (b.turn.credit < s.get (Obj.lowCreditThreshold x.tenant)) ∧
      (-(s.get (Obj.emergencyLimit x.tenant)) < b.turn.credit) ∧ (s.nat Obj.mediaState = 0)) ∧
    (∃ (s : State) (tag : Nat) (x : Record) (b : Bill), (s.record tag = some x) ∧ (x.tag = tag) ∧ (s.bill tag = some b) ∧ (s.serving = true) ∧
      (x.flag 6 = true) ∧ (b.turn.state = 2) ∧ (b.turn.since + s.nat (Obj.emergencyOfferS x.tenant) ≤ s.billSec)) ∧
    (∃ (s : State) (r : CapReq) (ses : Session) (a : SwitchArg) (x : Record) (b : Bill), (s.Admits r Obj.switchSubmit ses) ∧ (1 ≤ a.kind) ∧
      (a.kind ≤ 3) ∧ (a.expiry ≠ 0) ∧ (s.record a.tag = some x) ∧ (x.live = true) ∧ (ses.mayTenant x.tenant = true) ∧ (x.dlms = true) ∧
      (x.flag 3 = false) ∧ (s.bill a.tag = some b) ∧ (s.friendly b.calendar s.billSec = false)) ∧
    (∃ (s : State) (r : CapReq) (ses : Session) (a : SwitchArg) (x : Record) (b : Bill), (s.Admits r Obj.switchSubmit ses) ∧ (a.kind = 1 ∨
      a.kind = 3) ∧ (a.expiry ≠ 0) ∧ (s.record a.tag = some x) ∧ (x.live = true) ∧ (ses.mayTenant x.tenant = true) ∧ (x.dlms = true) ∧
      (x.flag 6 = true) ∧ (s.bill a.tag = some b) ∧ (s.friendly b.calendar s.billSec = true)) := by
  refine ⟨⟨pre, r1, adm, 5, 1, 500, rp, bill0, by decide +kernel⟩,
    ⟨pre0 { bill0 with turn := { bill0.turn with lastAmount := 300, topUpCounter := 4 } }, r1, adm, 5, rp,
      { bill0 with turn := { bill0.turn with lastAmount := 300, topUpCounter := 4 } }, by decide +kernel⟩,
    ⟨pre, r1, adm, 5, 1, 700, rp, bill0, by decide +kernel⟩,
    ⟨pre, r1, adm, 5, 1, rp, by decide +kernel⟩,
    ⟨wc (pre0 bb) [(Obj.lowCreditThreshold 0, 10), (Obj.emergencyLimit 0, 100)], r1, adm, 5, rp, bb, by decide +kernel⟩,
    ⟨pre0 bb, 5, rp, bb, by decide +kernel⟩,
    ⟨{ wc pre [(Obj.clockStatus, 0), (Obj.taiUtcOffsetS, 37)] with sessions := [(1, head)] }, r1, head, swA, rp, bill0, by decide +kernel⟩,
    ⟨{ wc pre [(Obj.clockStatus, 3)] with sessions := [(1, head)] }, r1, head, swA, rp, bill0, by decide +kernel⟩⟩

def bytesSum (l : List (Nat × Nat)) : Nat := l.foldl (fun (n : Nat) (e : Nat × Nat) => n + 256 ^ e.1 * e.2) 0
def img0 (act : Nat) : Nat :=
  imgWithActivation (bytesSum ([(1, 1), (3, 15), (4, 15), (5, 1), (9, 1), (52, 1), (64, 1), (65, 1)] ++ ((List.range 16).flatMap fun d => (List.range
    11).map fun i => (144 + 48 * d + 4 * (i + 1), 0xFFFF)))) act
def legalA : Anchor := { role := 5, tenant := 0, slot := 0, kind := 1, key := 44 }
def tar : State := { wc reg0 [(Obj.taiUtcOffsetS, 37), (Obj.clockStatus, 0)] with nand.anchors := [legalA], sessions := [(1, adm)] }
def act1 : Nat := 800000137
def calD : State :=
  { wc tar [(Obj.calendarActive 0, (img0 1 : Nat))] with nand.cals := [(0, { (tar.calState 0) with last := 799990000, sweep := [5] })] }
def shot0 : Shot := { bill := bill0, start := 5, fin := 9 }
def df (rule : Nat) : Deferred := { tag := 5, channel := 0, rule, fin := 799999200, due := 5, by_ := 3 }
def dst (rule : Nat) : State := { tar with nand.deferred := [df rule] }

/-- What meets the hypotheses of TariffsAndBoundaries. -/
theorem witness_TariffsAndBoundaries :
    (∃ (s : State) (r : CapReq) (ses : Session) (e : Epmeir) (g : Nat), (s.Admits r Obj.tariffSetSubmit ses) ∧ (s.tariffCheck e [g] = none)
      ∧ (s.nat Obj.mediaState = 0)) ∧
    (∃ (s : State) (r : CapReq) (ses : Session) (e : Epmeir) (gs : List Nat) (st d i o : Nat), (s.Admits r Obj.tariffSetSubmit ses) ∧
      (s.tariffCheck e gs = some (st, d, i, o))) ∧
    (∃ (s : State) (c x : Nat), (s.nextBoundary c (s.calState c).last = some x) ∧ (s.boothRuns x = true)) ∧
    (∃ (s : State) (c tag : Nat), (s.serving = true) ∧ ((s.calState c).sweep.contains tag = true)) ∧
    (∃ (s : State) (r : CapReq) (ses : Session) (tag : Nat) (x : Record) (b : Bill), (s.Admits r Obj.billingRead ses) ∧ (s.record tag = some
      x) ∧ (s.bill tag = some b) ∧ (ses.mayTenant x.tenant = true) ∧ (s.dueBoundaries b (s.calState b.calendar).last = []) ∧ ((s.calState
      b.calendar).sweep.contains tag = false)) ∧
    (∃ (s : State) (r : CapReq) (ses : Session) (tag p : Nat) (x : Record) (v : Shot), (s.Admits r Obj.snapshotRead ses) ∧ (s.record tag =
      some x) ∧ (ses.mayTenant x.tenant = true) ∧ (tget s.nand.shots (tag * 4294967296 + p) = some v)) ∧
    (∃ (s : State) (tag ch rule fin : Nat) (d : Deferred) (x : Record), ((s.nand.deferred.find? fun d => d.tag == tag && d.channel == ch &&
      d.rule == rule && d.fin == fin) = some d) ∧ (s.serving = true) ∧ (d.due ≤ s.billSec) ∧ (s.endpointBusy tag = false) ∧ (s.nat
      Obj.mediaState = 0) ∧ (s.governed = false) ∧ (s.record tag = some x) ∧ (rule < 64)) ∧
    (∃ (s : State) (tag ch fin : Nat) (d : Deferred) (x : Record), ((s.nand.deferred.find? fun d => d.tag == tag && d.channel == ch &&
      d.rule == 64 && d.fin == fin) = some d) ∧ (s.serving = true) ∧ (d.due ≤ s.billSec) ∧ (s.endpointBusy tag = false) ∧ (s.nat
      Obj.mediaState = 0) ∧ (s.record tag = some x) ∧ (s.bill tag = none) ∧ ((s.fillGap x 0 ch fin d.by_).1 = true)) ∧
    (∃ (s : State) (tag ch fin : Nat) (d : Deferred) (x : Record), ((s.nand.deferred.find? fun d => d.tag == tag && d.channel == ch &&
      d.rule == 65 && d.fin == fin) = some d) ∧ (s.serving = true) ∧ (d.due ≤ s.billSec) ∧ (s.endpointBusy tag = false) ∧ (s.nat
      Obj.mediaState = 0) ∧ (s.record tag = some x)) := by
  refine ⟨⟨tar, r1, adm, { ep 2 44 9 with targetKind := 0, target := 0x1048 }, img0 (((800000000 - 37) / 900 + 1) * 900 + 37), by decide +kernel⟩,
    ⟨tar, r1, adm, { ep 2 44 9 with targetKind := 0, target := 0x1048 }, [], 14, 3, 0, 0, by decide +kernel⟩,
    ⟨calD, 0, (calD.nextBoundary 0 799990000).getD 0, by decide +kernel⟩,
    ⟨calD, 0, 5, by decide +kernel⟩,
    ⟨pre0 bill0, r1, adm, 5, rp, bill0, by decide +kernel⟩,
    ⟨{ pre0 bill0 with nand.shots := [(5 * 4294967296 + 3, shot0)] }, r1, adm, 5, 3, rp, shot0, by decide +kernel⟩,
    ⟨dst 3, 5, 0, 3, 799999200, df 3, rec0 5, by decide +kernel⟩,
    ⟨dst 64, 5, 0, 799999200, df 64, rec0 5, by decide +kernel⟩,
    ⟨dst 65, 5, 0, 799999200, df 65, rec0 5, by decide +kernel⟩⟩

def w0 : State := { reg0 with win := { reg0.win with started := true, start := 799999999999000000, ms := 1000 } }
def sk : StormKey := { serving := 1, cell := 2, outage := true, restoration := false, wins := [], changed := [], seen := [] }

/-- What meets the hypotheses of AdmissionAndStorms. -/
theorem witness_AdmissionAndStorms :
    (∃ (s : State), (s.serving = true) ∧ (s.win.started = false)) ∧
    (∃ (s : State), (s.serving = true) ∧ (s.win.started = true) ∧ (s.win.start ≤ s.now) ∧ (s.now < s.win.start + s.win.ms * 1000000)) ∧
    (∃ (s : State) (k : Nat), (s.up = true) ∧ (k < 8) ∧ (s.nat (Obj.latencyBreaches k) < 4294967295)) ∧
    (∃ (s : State) (c cell : Nat) (x : StormKey), (s.stormKey c cell = some x) ∧ (s.serving = true) ∧ (1 ≤ s.now / s.stormLen)) := by
  refine ⟨⟨reg0, by decide +kernel⟩,
    ⟨w0, by decide +kernel⟩,
    ⟨reg0, 7, by decide +kernel⟩,
    ⟨{ reg0 with storms := [sk] }, 1, 2, sk, by decide +kernel⟩⟩

def kA : Anchor := { role := 3, tenant := 0, slot := 0, kind := 1, key := 44 }
def ky : State := { reg0 with loc.anchors := [kA] }
def kE : KeyEntry := { kind := 1, keyKind := 2, generation := 3, slot := 0, usage := 0, tag := 0, key := 8 }
def kU : KeyUpdate :=
  { version := 1, entryCount := 1, tenant := 0, serial := Config.deviceSerial, keyHashOk := true, decrypts := true, entries := [kE] }
def rwS : State :=
  wc
    { uw (frame0 3) with frames := [], loc.keys := { KeySet.empty with keks := [(0, { cur := some (1, 10, false), prev := some (0, 9, false) })], ident := [(0, (3, 6))] }, loc.rekey := [5] }
    [(Obj.rewrapRate, 10)]
def inH : Ingest := { seq := 4, frame := frame0 4, held := true, programmed := true }
def khr : State := { uw (frame0 3) with frames := [], nand.ingest := [inH] }

/-- The key update passes its checks. -/
theorem ky_check : ky.keyUpdateCheck (ep 3 44 9) kU = 0 := by
  have h : ky.targetOk (ep 3 44 9) false = true := by simp [State.targetOk, ep]
  have h2 : kU.serial = Config.deviceSerial := rfl
  simp only [State.keyUpdateCheck, h, h2, ne_eq, not_true_eq_false, false_or]
  decide +kernel

/-- With an old counter it fails. -/
theorem ky_old : ky.keyUpdateCheck (ep 3 44 0) kU ≠ 0 := by
  have h : ky.targetOk (ep 3 44 0) false = true := by simp [State.targetOk, ep]
  have h2 : kU.serial = Config.deviceSerial := rfl
  simp only [State.keyUpdateCheck, h, h2, ne_eq, not_true_eq_false, false_or]
  decide +kernel

/-- What meets the hypotheses of KeysAndBlobs. -/
theorem witness_KeysAndBlobs :
    (∃ (kind gen tenant slot usage : Nat), (kind < 256) ∧ (gen < 65536) ∧ (tenant < 256) ∧ (slot < 256) ∧ (usage < 65536)) ∧
    (∃ (s : State) (r : CapReq) (ses : Session) (e : Epmeir) (u : KeyUpdate) (k : KeyEntry), (s.Admits r Obj.keyUpdateSubmit ses) ∧
      ((ses.role = 1 → ses.tenant = u.tenant)) ∧ (s.loc.zeroizing = false) ∧ (s.keyUpdateCheck e u = 0) ∧ (u.entries = [k]) ∧ (k.kind = 1) ∧
      (k.keyKind = 2) ∧ (s.loc.keys.protoBytes ≤ 8192) ∧ (s.nat Obj.mediaState = 0)) ∧
    (∃ (s : State) (r : CapReq) (ses : Session) (e : Epmeir) (u : KeyUpdate), (s.Admits r Obj.keyUpdateSubmit ses) ∧ ((ses.role = 1 →
      ses.tenant = u.tenant)) ∧ (s.loc.zeroizing = false) ∧ ((∀ tag ∈ keyUpdateTags u, s.endpointBusy tag = false)) ∧ (s.keyUpdateCheck e u
      ≠ 0)) ∧
    (∃ (s : State) (tag i j b key : Nat) (x : Record) (c p : Nat × Nat × Bool), (s.record tag = some x) ∧ (x.tag = tag) ∧ (x.blob = some j)
      ∧ (tget s.nand.blobs j = some b) ∧ ((s.kek (blobTenant b) (blobSlot b)).cur = some c) ∧ ((s.kek (blobTenant b) (blobSlot b)).prev =
      some p) ∧ (s.up = true) ∧ (s.loc.zeroizing = false) ∧ (blobGen b = p.1) ∧ (s.nat Obj.rewrapRate ≠ 0) ∧ (s.endpointBusy tag = false) ∧
      (s.freeBlob = some i) ∧ (openBlob p.2.1 tag b = some key)) ∧
    (∃ (s : State) (tag : Nat) (x : Record), (s.up = true) ∧ (s.loc.rekey.contains tag = true) ∧ (s.nat Obj.rewrapRate ≠ 0) ∧ (s.record tag
      = some x)) ∧
    (∃ (s : State) (q : Nat) (e : Ingest) (x : Record), ((s.nand.ingest.find? fun e => e.seq == q && e.held) = some e) ∧ (s.record
      e.frame.tag = some x) ∧ (s.serving = true) ∧ (s.pw.cause = 0) ∧ (s.loc.zeroizing = false) ∧ (s.unwrapResult x e.frame.suite = 0)) ∧
    (∃ (s : State) (r : CapReq) (ses : Session) (k kind slot g key : Nat), (s.Admits r Obj.attestRequest ses) ∧ (s.loc.zeroizing = false) ∧
      (s.loc.entropyFailed = false) ∧ (s.generatedKey k kind slot g = some key)) ∧
    (∃ (s : State) (r : CapReq) (ses : Session), (s.Admits r Obj.attestRequest ses)) := by
  refine ⟨⟨1, 0, 0, 0, 63, by decide +kernel⟩,
    ⟨ky, r1, adm, ep 3 44 9, kU, kE, by decide +kernel, by decide +kernel, rfl, ky_check, rfl, rfl, rfl, by decide +kernel, by decide +kernel⟩,
    ⟨ky, r1, adm, ep 3 44 0, kU, by decide +kernel, by decide +kernel, rfl, by decide +kernel, ky_old⟩,
    ⟨rwS, 5, 0, 2, blb5, 4, rb, (1, 10, false), (0, 9, false), by decide +kernel, by decide +kernel, by decide +kernel, by decide +kernel, by
      decide +kernel, by decide +kernel, by decide +kernel, by decide +kernel, by decide +kernel, by decide +kernel, by decide +kernel, by
      decide +kernel, blb5_opens⟩,
    ⟨rwS, 5, rb, by decide +kernel⟩,
    ⟨khr, 4, inH, rb, by decide +kernel, by decide +kernel, by decide +kernel, by decide +kernel, by decide +kernel, (key5_result _ _ 2 ⟨rfl,
      rfl, rfl, rfl⟩ rfl rfl _ rfl).2⟩,
    ⟨rwS, r1, adm, 0, 3, 0, 0, 6, by decide +kernel⟩,
    ⟨rwS, r1, adm, by decide +kernel⟩⟩

/-- What meets the hypotheses of EntropyAndMasking. -/
theorem witness_EntropyAndMasking :
    (∃ (s : State), (s.awake = true) ∧ (s.loc.zeroizing = false)) ∧
    (∃ (s : State), (s.awake = true) ∧ (s.nat Obj.entropyFailures < 4294967295)) ∧
    (∃ (s : State), (s.awake = true)) := by
  refine ⟨⟨up0, by decide +kernel⟩,
    ⟨up0, by decide +kernel⟩,
    ⟨up0, by decide +kernel⟩⟩

def po : Port := { Port.reset with up := true }
def eth (x : Port) : State := wc { up0 with ports := [x, .reset, .reset, .reset] } [(Obj.midwayEnable, 1), (Obj.portMode 0, 1)]
def ef (n : Nat) : EthRx := { length := n, data := withFcs n 0 }
def rxf : RxFifoFrame := { frame := ef 64, queue := 0, filter := 0, truncated := false, tcCopy := false, stamp := 0 }
def txf : TxFrame :=
  { queue := 0, length := 64, hq := 16, ndesc := 0, kind := 0, toCorrection := false, seqId := 0, what := 0, ingress := 0, ptp := 0, data := none }
def hqr : HostQueue := { HostQueue.reset with ctrl := 9, size := 6, running := true }
def ethq : State := { eth { po with rx := [rxf] } with hif := { up0.hif with busMaster := true, hq := hqr :: List.replicate 15 .reset } }

/-- What meets the hypotheses of EthernetPorts. -/
theorem witness_EthernetPorts :
    (∃ (s : State) (p : Nat) (x : Port), (s.netRuns = true) ∧ (s.portOn p = true) ∧ (s.ports[p]? = some x)) ∧
    (∃ (s : State) (p : Nat) (x : Port), (s.ports[p]? = some x) ∧ (x.up = true) ∧ (s.nat (Obj.linkDowns p) < 4294967295)) ∧
    (∃ (s : State) (p : Nat) (x : Port), (s.ports[p]? = some x) ∧ (s.netRuns = true) ∧ (s.portOn p = true) ∧ (x.up = true) ∧ (x.arriving =
      none) ∧ (s.nat (Obj.rxFifoDrops p) < 4294967295)) ∧
    (∃ (s : State) (p n : Nat) (f : EthRx) (x : Port), (s.ports[p]? = some x) ∧ (x.arriving = some n) ∧ (64 ≤ f.length) ∧ (f.length ≤ s.nat
      (Obj.maxFrameBytes p)) ∧ (f.fcsOk = true) ∧ (f.macControl = false) ∧ (s.tcForwards p f false = false) ∧ (s.rxAccepts p f = true) ∧
      (x.filters = none)) ∧
    (∃ (s : State) (p n : Nat) (f : EthRx) (x : Port), (s.ports[p]? = some x) ∧ (x.arriving = some n) ∧ (f.length < 64) ∧ (s.nat
      (Obj.rxRunts p) < 4294967295)) ∧
    (∃ (s : State) (p : Nat) (x : Port) (g : RxFifoFrame), (s.ports[p]? = some x) ∧ (x.rx.head? = some g) ∧ (s.netRuns = true) ∧
      (s.ringOwner 4 p g.queue = none) ∧ (g.truncated = false) ∧ (s.nat (Obj.rxFrames p) < 4294967295)) ∧
    (∃ (s : State) (p q : Nat) (x : Port) (g : RxFifoFrame) (h : HostQueue), (s.ports[p]? = some x) ∧ (x.rx.head? = some g) ∧ (s.netRuns =
      true) ∧ (s.ringOwner 4 p g.queue = some q) ∧ (s.hqOf q = some h) ∧ (s.hostUp = true) ∧ (s.hif.busMaster = true) ∧ (h.running = true) ∧
      (descsFor h.posted g.frame.length = none) ∧ (x.headNs + 1000 * s.nat (Obj.rxStarveWaitUs p) ≤ s.now) ∧ (s.nat (Obj.rxStarved p) <
      4294967295)) ∧
    (∃ (s : State) (p : Nat) (x : Port) (f : TxFrame), (s.ports[p]? = some x) ∧ ((∀ k, k < 7 → s.ringOwner 5 p k = none)) ∧ (s.netRuns =
      true) ∧ (s.portOn p = true) ∧ (x.up = true) ∧ (x.pausedUntil = none) ∧ (s.pw.cause = 0) ∧ (x.tx = [f]) ∧ (f.hq = 16) ∧ (f.kind = 0) ∧
      (s.nat (Obj.ethTxFrames p) < 4294967295)) ∧
    (∃ (s : State) (p : Nat) (x : Port) (z : PtpPort), (s.ports[p]? = some x) ∧ (s.time.ptp[p]? = some z) ∧ (s.netRuns = true) ∧ (s.flag
      Obj.tcEnable = true) ∧ (s.nat Obj.ptpProfile = 2) ∧ (p ≤ 1) ∧ (x.up = true)) := by
  refine ⟨⟨eth .reset, 0, .reset, by decide +kernel⟩,
    ⟨eth po, 0, po, by decide +kernel⟩,
    ⟨eth po, 0, po, by decide +kernel⟩,
    ⟨wc (eth { po with arriving := some 1518 }) [(Obj.rxControl 0, 1)], 0, 1518, ef 64, { po with arriving := some 1518 }, by decide +kernel⟩,
    ⟨eth { po with arriving := some 1518 }, 0, 1518, ef 63, { po with arriving := some 1518 }, by decide +kernel⟩,
    ⟨eth { po with rx := [rxf] }, 0, { po with rx := [rxf] }, rxf, by decide +kernel⟩,
    ⟨ethq, 0, 0, { po with rx := [rxf] }, rxf, hqr, by decide +kernel⟩,
    ⟨eth { po with tx := [txf] }, 0, { po with tx := [txf] }, txf, by decide +kernel⟩,
    ⟨wc (eth po) [(Obj.tcEnable, 1), (Obj.ptpProfile, 2)], 0, po, ptp0, by decide +kernel⟩⟩

def pse (x : Port) : State := wc (eth x) [(Obj.pauseControl 0, 3)]

/-- What meets the hypotheses of PauseFrames. -/
theorem witness_PauseFrames :
    (∃ (s : State) (p q : Nat) (x : Port), (s.ports[p]? = some x) ∧ (s.netRuns = true) ∧ (s.portOn p = true) ∧ (x.up = true) ∧ (s.honours p
      x = true) ∧ (x.ignoreUntil = none) ∧ (q ≠ 0) ∧ (x.pausedUntil = none) ∧ (s.nat (Obj.pauseReceived p) < 4294967295)) ∧
    (∃ (s : State) (p : Nat) (x : Port), (s.ports[p]? = some x) ∧ (s.netRuns = true) ∧ (s.portOn p = true) ∧ (x.up = true) ∧ (s.honours p x
      = true) ∧ (x.ignoreUntil = none)) ∧
    (∃ (s : State) (p a : Nat) (x : Port), (s.ports[p]? = some x) ∧ (x.pausedUntil = some a) ∧ (a ≤ s.now)) ∧
    (∃ (s : State) (p a : Nat) (x : Port), (s.ports[p]? = some x) ∧ (s.netRuns = true) ∧ (x.pauseFrom = some a) ∧ (a + s.nat
      (Obj.pauseWatchdogMs p) * 1000000 ≤ s.now) ∧ (s.nat (Obj.pauseBroken p) < 4294967295)) ∧
    (∃ (s : State) (p a : Nat) (x : Port), (s.ports[p]? = some x) ∧ (x.ignoreUntil = some a) ∧ (a ≤ s.now)) ∧
    (∃ (s : State) (p : Nat) (x : Port), (s.ports[p]? = some x) ∧ (s.netRuns = true) ∧ (x.up = true) ∧ (x.xoffSent = true) ∧ (x.room < s.nat
      (Obj.pauseXonBytes p)) ∧ (bit (s.nat (Obj.pauseControl p)) 1 = true) ∧ (x.pauseNs + s.bitTimes p (512 * 0xFFFF) / 2 ≤ s.now)) := by
  refine ⟨⟨pse po, 0, 9, po, by decide +kernel⟩,
    ⟨pse po, 0, po, by decide +kernel⟩,
    ⟨pse { po with pausedUntil := some 5 }, 0, 5, { po with pausedUntil := some 5 }, by decide +kernel⟩,
    ⟨pse { po with pausedUntil := some (2 ^ 70), pauseFrom := some 5 }, 0, 5, { po with pausedUntil := some (2 ^ 70), pauseFrom := some 5 },
      by decide +kernel⟩,
    ⟨pse { po with ignoreUntil := some 5 }, 0, 5, { po with ignoreUntil := some 5 }, by decide +kernel⟩,
    ⟨wc (pse { po with xoffSent := true }) [(Obj.pauseXonBytes 0, 1000000)], 0, { po with xoffSent := true }, by decide +kernel⟩⟩

def evr (pos code : Nat) : EvRec :=
  { code, rep := 1, rtc := false, ring := false, form := 0, log := 0, tenant := 0xFF, tai := 5, time := 0, pos, payload := 0 }
def lg : EvLog := { recs := [evr 1 0x1019, evr 0 0x1019], next := 2, isOpen := true }
def evs : State := { cap0 with nand.logs := [lg, .blank, .blank, .blank] }
def fz (h : Nat) : Freeze := { holder := h, fin := 2, since := 5 }

/-- What meets the hypotheses of EventRecorder. -/
theorem witness_EventRecorder :
    (∃ (s : State), (s.bar = true)) ∧
    (∃ (s : State), (s.bar = true) ∧ ((s.readLog s.hif.logSelect s.hif.logPos).1 = 0) ∧ (s.nat Obj.recordCrcFail < 4294967295) ∧ (s.nat
      Obj.mirrorRepairs < 4294967295) ∧ (s.hif.logSelect = 0)) ∧
    (∃ (s : State), (s.bar = true) ∧ ((s.readLog s.hif.logSelect s.hif.logPos).1 = 0) ∧ (s.nat Obj.recordCrcFail < 4294967295) ∧ (s.nat
      Obj.mirrorRepairs < 4294967295) ∧ (s.hif.logSelect ≠ 0)) ∧
    (∃ (s : State), (s.bar = true)) ∧
    (∃ (s : State), (s.bar = true) ∧ (s.hif.logSelect = 0) ∧ (s.freeze = none)) ∧
    (∃ (s : State) (f : Freeze), (s.bar = true) ∧ (s.hif.logSelect = 0) ∧ (s.freeze = some f)) ∧
    (∃ (s : State) (f : Freeze) (l : EvLog), (s.bar = true) ∧ (s.freeze = some f) ∧ (f.holder = 0) ∧ (s.nand.logs[0]? = some l)) ∧
    (∃ (s : State) (r : CapReq) (ses : Session) (log : Nat), (s.Admits r Obj.logRead ses) ∧ (log ≤ 3)) ∧
    (∃ (s : State) (r : CapReq) (ses : Session) (log : Nat), (s.Admits r Obj.logBounds ses) ∧ (log ≤ 3)) ∧
    (∃ (s : State) (r : CapReq) (ses : Session), (s.Admits r Obj.legalFreeze ses) ∧ (s.freeze = none)) ∧
    (∃ (s : State) (r : CapReq) (ses : Session) (f : Freeze) (l : EvLog), (s.Admits r Obj.legalFreeze ses) ∧ (s.freeze = some f) ∧ (f.holder
      = r.sess + 1) ∧ (s.nand.logs[0]? = some l)) ∧
    (∃ (s : State) (r : CapReq) (ses : Session) (a b h : Nat), (s.Admits r Obj.legalExport ses) ∧ (s.freeze = none) ∧ (a ≤ b) ∧ ((s.logOf
      0).first ≤ a) ∧ (s.highestLegal = some h) ∧ (b ≤ h) ∧ (s.loc.zeroizing = false) ∧ (s.loc.entropyFailed = false)) ∧
    (∃ (s : State) (f : Freeze), (s.freeze = some f) ∧ (s.awake = true) ∧ (s.elapsedS f.since (s.nat Obj.freezeMaxS) = true) ∧ (s.nat
      Obj.freezesBroken < 4294967295)) ∧
    (∃ (s : State) (n : Nat) (l : EvLog) (e : EvRec), (s.nand.logs[n]? = some l) ∧ (s.logOf n = l) ∧ (l.recs.head? = some e) ∧ (l.isOpen =
      true) ∧ (s.awake = true) ∧ (e.tai + s.nat Obj.repeatWindowS ≤ s.tai)) ∧
    (∃ (s : State), (s.awake = true)) := by
  refine ⟨⟨evs, by decide +kernel⟩,
    ⟨evs, by decide +kernel⟩,
    ⟨{ evs with hif.logSelect := 1, nand.logs := [lg, lg, .blank, .blank] }, by decide +kernel⟩,
    ⟨evs, by decide +kernel⟩,
    ⟨evs, by decide +kernel⟩,
    ⟨{ evs with freeze := some (fz 3) }, fz 3, by decide +kernel⟩,
    ⟨{ evs with freeze := some (fz 0), nand.hold := [evr 2 0x1019] }, fz 0, lg, by decide +kernel⟩,
    ⟨evs, r1, adm, 0, by decide +kernel⟩,
    ⟨evs, r1, adm, 0, by decide +kernel⟩,
    ⟨evs, r1, adm, by decide +kernel⟩,
    ⟨{ evs with freeze := some (fz 2), nand.hold := [evr 2 0x1019] }, r1, adm, fz 2, lg, by decide +kernel⟩,
    ⟨evs, r1, adm, 0, 1, 1, by decide +kernel⟩,
    ⟨{ evs with freeze := some (fz 3), nand.hold := [evr 2 0x1019] }, fz 3, by decide +kernel⟩,
    ⟨evs, 0, lg, evr 1 0x1019, by decide +kernel⟩,
    ⟨evs, by decide +kernel⟩⟩

def blk (st n stream filled : Nat) : Block := { state := st, erases := n, stream, used := 0, filled, refresh := false }
def rel (phase : Nat) : Reloc := { victim := 3, phase, copies := [(5, 24, 0)], why := 0 }
def nd : State := wc
  { cap0 with cask := { cap0.cask with blocks := [(0, blk 1 0 1 0), (1, blk 1 0 4 0), (2, blk 1 0 1 0), (3, blk 2 0 1 7)], map := [(5, 24)] } }
  []
def opens : List (Nat × Block) := [(0, blk 1 0 1 0), (1, blk 1 0 1 0), (2, blk 1 0 4 0), (3, blk 2 2 1 7), (4, blk 1 0 1 0), (5, blk 1 0 4
  0)]
def nd2 : State :=
  { cap0 with
    pw := { cap0.pw with board := some { board0 with ceMiB := 1, unitsPerBlock := 256 } },
    cask := { cap0.cask with blocks := opens, map := [(5, 24)] } }
def nd3 (phase : Nat) : State := { nd2 with cask := { nd2.cask with reloc := some (rel phase) } }

/-- What meets the hypotheses of NandAndRelocation. -/
theorem witness_NandAndRelocation :
    (∃ (s : State) (p : Nat), (s.mounted = true) ∧ (p ≤ 6) ∧ ((∀ ch, ch ≤ 1 → (s.openBlock (streamOf p) ch).isSome = true))) ∧
    (∃ (s : State) (e : Nat × Block), (s.background = true) ∧ (s.governed = false) ∧ ((s.cask.inState 0).length * 1000 < s.nat
      Obj.gcLowPermille * s.cask.blocks.length) ∧ (leastBy (fun e => (s.cask.validIn e.1).length * (s.cask.fillSeq + 1) + e.2.filled)
      (s.cask.inState 2) = some e) ∧ ((∀ ch, ch ≤ 1 → (s.openBlock 4 ch).isSome = true)) ∧ (((s.cask.validIn e.1).filter fun v =>
      !(s.cask.hinted.contains v.1)).length ≤ 1) ∧ (s.nat Obj.gcVictims < 4294967295)) ∧
    (∃ (s : State) (r : Reloc), (s.relocAt 1 = some r)) ∧
    (∃ (s : State) (r : Reloc) (b : Block), (s.relocAt 2 = some r) ∧ (tget s.cask.blocks r.victim = some b)) ∧
    (∃ (s : State) (r : Reloc), (s.relocAt 3 = some r)) ∧
    (∃ (s : State) (r : Reloc) (b : Block), (s.relocAt 4 = some r) ∧ (tget s.cask.blocks r.victim = some b)) ∧
    (∃ (s : State) (n : Nat) (b : Block), (tget s.cask.blocks n = some b) ∧ (s.background = true) ∧ (b.refresh = true) ∧ (b.state = 2) ∧ ((∀
      ch, ch ≤ 1 → (s.openBlock 4 ch).isSome = true)) ∧ (((s.cask.validIn n).filter fun v => !(s.cask.hinted.contains v.1)).length ≤ 1)) ∧
    (∃ (s : State) (e : Nat × Block), (s.background = true) ∧ (s.governed = false) ∧ (s.nat Obj.wearSpreadLimit < s.nat Obj.eraseCountSpread)
      ∧ (s.cask.wearHour ≠ s.tai / 3600) ∧ (0 < s.nat Obj.wearMovesPerHour) ∧ (leastBy (·.2.erases) ((s.cask.inState 2).filter fun e =>
      !(s.cask.validIn e.1).isEmpty) = some e) ∧ ((∀ ch, ch ≤ 1 → (s.openBlock 4 ch).isSome = true)) ∧ (((s.cask.validIn e.1).filter fun v
      => !(s.cask.hinted.contains v.1)).length ≤ 1)) ∧
    (∃ (s : State), (s.mounted = true) ∧ (s.pw.cause = 0) ∧ (s.cask.ckpt = none) ∧ (s.nat Obj.checkpointJournalMiB * 1048576 ≤
      s.cask.journal)) ∧
    (∃ (s : State) (q : Nat), (s.cask.ckpt = some q) ∧ (s.mounted = true) ∧ (s.pw.cause = 0)) ∧
    (∃ (s : State), (s.mounted = true) ∧ (s.pw.cause = 0) ∧ (s.nat Obj.mediaState = 0)) := by
  refine ⟨⟨nd2, 0, by decide +kernel⟩,
    ⟨nd2, (3, blk 2 2 1 7), by decide +kernel⟩,
    ⟨nd3 1, rel 1, by decide +kernel⟩,
    ⟨nd3 2, rel 2, blk 2 2 1 7, by decide +kernel⟩,
    ⟨nd3 3, rel 3, by decide +kernel⟩,
    ⟨nd3 4, rel 4, blk 2 2 1 7, by decide +kernel⟩,
    ⟨{ nd2 with cask := { nd2.cask with blocks := tput opens 3 { blk 2 2 1 7 with refresh := true } } }, 3,
      { blk 2 2 1 7 with refresh := true }, by decide +kernel⟩,
    ⟨wc nd2 [(Obj.eraseCountSpread, 100000)], (3, blk 2 2 1 7), by decide +kernel⟩,
    ⟨{ nd2 with cask := { nd2.cask with journal := 2 ^ 40 } }, by decide +kernel⟩,
    ⟨{ nd2 with cask := { nd2.cask with ckpt := some 4 } }, 4, by decide +kernel⟩,
    ⟨nd2, by decide +kernel⟩⟩

def stu : State :=
  { cap0 with
    inForce := [(Obj.partitionSizeMiB 6, 4)], cask := { cap0.cask with logicalUnits := 1000 }, nand.user := [(3, 99)] }

/-- What meets the hypotheses of StorageCommands. -/
theorem witness_StorageCommands :
    (∃ (s : State) (r : CapReq) (ses : Session) (u level : Nat), (s.Admits r Obj.storageRead ses) ∧ (u + 1 ≤ s.userUnits) ∧ (level < 2) ∧
      (s.cask.hinted = [])) ∧
    (∃ (s : State) (r : CapReq) (ses : Session) (u : Nat), (s.Admits r Obj.storageWrite ses) ∧ (u + 1 ≤ s.userUnits) ∧ (s.nat Obj.mediaState =
      0)) ∧
    (∃ (s : State) (r : CapReq) (ses : Session) (u n : Nat) (ds : List Nat), (ds.length = n) ∧ (s.userUnits < u + n) ∧ (s.Admits r
      Obj.storageWrite ses)) ∧
    (∃ (s : State) (r : CapReq) (ses : Session) (u n : Nat) (ds : List Nat), (ds.length = n) ∧ (s.userUnits < u + n) ∧ (s.Admits r
      Obj.storageDiscard ses)) ∧
    (∃ (s : State) (r : CapReq) (ses : Session) (u : Nat), (s.Admits r Obj.storageDiscard ses) ∧ (u + 1 ≤ s.userUnits) ∧ (u < 2 ^ 32) ∧ (s.nat
      Obj.mediaState = 0) ∧ (s.forced Obj.discardMode = 0)) ∧
    (∃ (s : State) (r : CapReq) (ses : Session), (s.Admits r Obj.storageFormat ses) ∧ (s.parked = []) ∧ (s.nat Obj.sealState = 1)) ∧
    (∃ (s : State) (r : CapReq) (ses : Session), (s.Admits r Obj.storageFormat ses) ∧ (s.parked = []) ∧ (s.nat Obj.sealState ≠ 1)) ∧
    (∃ (s : State) (r : CapReq) (ses : Session) (n : Nat), (s.Admits r Obj.batteryRingRead ses) ∧ (n ≤ 63) ∧ (s.bat.alarm = false)) ∧
    (∃ (s : State) (r : CapReq) (ses : Session), (s.Admits r Obj.batteryRingAck ses) ∧ (s.bat.alarm = false)) := by
  refine ⟨⟨stu, r1, adm, 3, 0, by decide +kernel⟩,
    ⟨stu, r1, adm, 4, by decide +kernel⟩,
    ⟨stu, r1, adm, 2 ^ 40, 2, [1, 2], by decide +kernel⟩,
    ⟨stu, r1, adm, 2 ^ 40, 2, [1, 2], by decide +kernel⟩,
    ⟨stu, r1, adm, 3, by decide +kernel⟩,
    ⟨wc stu [(Obj.sealState, 1)], r1, adm, by decide +kernel⟩,
    ⟨stu, r1, adm, by decide +kernel⟩,
    ⟨cap0, r1, adm, 63, by decide +kernel⟩,
    ⟨cap0, r1, adm, by decide +kernel⟩⟩

def bnk (b c : Nat) : State :=
  { up0 with
    mem.banks := (List.replicate 32 0).set b c, mem.lines := [(5, 7), (32768 * 2, 9)], mem.poisoned := [6] }
def lw (l : Nat) : LineWrite := { line := l, kind := 0, data := 77, enables := 0xFFFF }

/-- What meets the hypotheses of BigTopAndCaravans. -/
theorem witness_BigTopAndCaravans :
    (∃ (s : State) (addr : Nat), (s.awake = true) ∧ (s.bank (bankOf (lineAt addr)) = 0)) ∧
    (∃ (s : State) (addr : Nat), (s.awake = true) ∧ (s.mem.banks[bankOf (lineAt addr)]? = some 2) ∧ (s.nat Obj.bankWakes < 4294967295) ∧
      (s.nat Obj.bankWakeOnAccess < 4294967295)) ∧
    (∃ (s : State) (addr : Nat), (s.awake = true) ∧ (s.bank (bankOf (lineAt addr)) = 0) ∧ (s.nat Obj.bigTopCorrected < 4294967295)) ∧
    (∃ (s : State) (addr : Nat), (s.awake = true) ∧ (s.bank (bankOf (lineAt addr)) = 0)) ∧
    (∃ (s : State) (addr who : Nat), (s.awake = true) ∧ (s.addressFaults addr who = true) ∧ (s.nat Obj.addressFaults < 4294967295)) ∧
    (∃ (s : State) (b : Nat), (s.awake = true) ∧ (s.bankAskedOff b = true) ∧ (s.mem.banks[b]? = some 0)) ∧
    (∃ (s : State) (b : Nat), (s.awake = true) ∧ (s.mem.banks[b]? = some 2) ∧ (s.nat Obj.bankWakes < 4294967295) ∧ (s.nat Obj.bankWakeOnAccess
      < 4294967295)) ∧
    (∃ (s : State) (b : Nat), (s.awake = true) ∧ (s.mem.banks[b]? = some 1) ∧ ((s.mem.stalled.any fun w => bankOf w.line == b) = false)) ∧
    (∃ (s : State) (b : Nat) (w : LineWrite), (s.awake = true) ∧ (s.mem.banks[b]? = some 1) ∧ (s.mem.stalled = [w]) ∧ (bankOf w.line = b)) ∧
    (∃ (s : State) (e : Nat), (s.awake = true) ∧ (e < 20) ∧ (s.gate.engines[e]? = some 0) ∧ (s.nat Obj.engineFaults < 4294967295)) := by
  refine ⟨⟨bnk 0 0, 0x50, by decide +kernel⟩,
    ⟨bnk 31 2, 0xFFFFF0, by decide +kernel⟩,
    ⟨bnk 0 0, 0x50, by decide +kernel⟩,
    ⟨bnk 0 0, 0x50, by decide +kernel⟩,
    ⟨bnk 0 0, 2 ^ 45, 1, by decide +kernel⟩,
    ⟨wc (bnk 0 0) [(Obj.bigTopBankOff, 2 ^ 20)], 20, by decide +kernel⟩,
    ⟨bnk 20 2, 20, by decide +kernel⟩,
    ⟨bnk 20 1, 20, by decide +kernel⟩,
    ⟨{ bnk 2 1 with mem.stalled := [lw (32768 * 2 + 1)] }, 2, lw (32768 * 2 + 1), by decide +kernel⟩,
    ⟨up0, 19, by decide +kernel⟩⟩

def sqq (a b : List Line) : Seesaw :=
  { bank0 := a, bank1 := b, fill := 0, credits := [2, 0], seqs := [0, 0], waiting := [], ports := 2, depth := 4, poison := false,
    corrected := 0, out := 0 }
def sqs (w : Seesaw) : State := { up0 with mem.queues := [(7, w)] }

/-- What meets the hypotheses of SeesawQueues. -/
theorem witness_SeesawQueues :
    (∃ (s : State) (q p : Nat) (w : Seesaw), (tget s.mem.queues q = some w) ∧ (s.awake = true) ∧ (0 < w.credits.getD p 0)) ∧
    (∃ (s : State) (q p width : Nat) (w : Seesaw), (tget s.mem.queues q = some w) ∧ (s.awake = true) ∧ ((width ≠ 128 ∨ w.credits.getD p 0 =
      0)) ∧ (s.nat Obj.seesawPortErrors < 4294967295)) ∧
    (∃ (s : State) (q e : Nat) (x y : Line) (l : List Line) (w : Seesaw), (tget s.mem.queues q = some w) ∧ (s.awake = true) ∧ (w.draining = x
      :: y :: l) ∧ (e ≤ 1)) ∧
    (∃ (s : State) (q : Nat) (w : Seesaw), (tget s.mem.queues q = some w) ∧ (s.awake = true) ∧ (w.draining = []) ∧ (w.filling = [])) := by
  refine ⟨⟨sqs (sqq [] []), 7, 0, sqq [] [], by decide +kernel⟩,
    ⟨sqs (sqq [] []), 7, 0, 64, sqq [] [], by decide +kernel⟩,
    ⟨sqs (sqq [9] [4, 5, 6]), 7, 0, 4, 5, [6], sqq [9] [4, 5, 6], by decide +kernel⟩,
    ⟨sqs (sqq [] []), 7, sqq [] [], by decide +kernel⟩⟩

def nr : State := { cap0 with pins.pfi := true, pw.cause := 1 }

/-- What meets the hypotheses of NotReadyIsRefused. -/
theorem witness_NotReadyIsRefused :
    (∃ (s : State) (r : CapReq) (ses : Session), (tget s.sessions r.sess = some ses) ∧ (ses.closing = false) ∧ ((r.sess = 0 → s.hif.mb.busy
      = true)) ∧ (ses.kept = []) ∧ (s.outstanding r.sess < capDepth r.sess) ∧ (s.catalogueReady = false) ∧ (s.recovering = false)) ∧
    (∃ (s : State) (r : CapReq) (ses : Session), (tget s.sessions r.sess = some ses) ∧ (ses.closing = false) ∧ ((r.sess = 0 → s.hif.mb.busy
      = true)) ∧ (ses.kept = []) ∧ (s.outstanding r.sess < capDepth r.sess) ∧ (s.catalogueReady = false) ∧ (s.recovering = false)) ∧
    (∃ (s : State) (r : CapReq) (ses : Session), (tget s.sessions r.sess = some ses) ∧ (ses.closing = false) ∧ ((r.sess = 0 → s.hif.mb.busy
      = true)) ∧ (ses.kept = []) ∧ (s.outstanding r.sess < capDepth r.sess) ∧ (s.catalogueReady = false) ∧ (s.recovering = false)) := by
  refine ⟨⟨nr, r1, adm, by decide +kernel⟩,
    ⟨nr, r1, adm, by decide +kernel⟩,
    ⟨nr, r1, adm, by decide +kernel⟩⟩

def ow2 : Anchor := { role := 2, tenant := 0, slot := 0, kind := 1, key := 44 }
def bk : Bulk := { tag := 7, index := 0x5018, sub := 1, total := 600, got := 400, value := 3, lastAt := 5 }
def bks : Session := { adm with bulk := some bk }
def ms (index sub offset : Nat) : CapMsg := { version := 1, index, sub, offset, whole := false, total := 600, lengthAgrees := true }
def wses (x : Session) : State := { up0 with sessions := [(1, x)] }

/-- What meets the hypotheses of CapSessions. -/
theorem witness_CapSessions :
    (∃ (s : State) (n : Nat), (s.catalogueReady = true) ∧ (1 ≤ n) ∧ (n ≤ 16) ∧ (tget s.sessions n = none) ∧ (s.dtlsCount < s.nat
      Obj.capMaxSessions) ∧ ((s.allAnchors.any fun a => a.role == 2) = true) ∧ (s.mayHandshake = true)) ∧
    (∃ (s : State) (n : Nat) (ses : Session), (tget s.sessions n = some ses) ∧ (s.awake = true) ∧ (1 ≤ n) ∧ (n ≤ 16) ∧ (s.outstanding n = 0)
      ∧ (s.freeze = none)) ∧
    (∃ (s : State), (s.capRuns = true) ∧ (s.nat Obj.servicePortMode ≠ 0) ∧ (s.nat Obj.rsFrameErrors < 4294967295)) ∧
    (∃ (s : State) (r : CapReq) (m : CapMsg) (ses : Session) (b : Bulk) (n : Nat), (s.Takes r 4 m.index m.sub ses) ∧ (m.version = 1) ∧
      (m.lengthAgrees = true) ∧ (ses.bulk = some b) ∧ (b.index = m.index) ∧ (b.sub = m.sub) ∧ (b.total = m.total) ∧ (m.offset = b.got) ∧
      (b.got + n < b.total)) ∧
    (∃ (s : State) (r : CapReq) (m : CapMsg) (ses : Session) (b : Bulk), (s.Takes r 4 m.index m.sub ses) ∧ (m.version = 1) ∧ (m.lengthAgrees
      = true) ∧ (ses.bulk = some b) ∧ (m.offset ≠ b.got ∨ m.total ≠ b.total)) ∧
    (∃ (s : State) (r : CapReq) (ses : Session) (v n : Nat), (s.Takes r 5 0 0 ses) ∧ (ses.held = some (v, n))) ∧
    (∃ (s : State) (r : CapReq) (ses : Session) (b : Bulk), (s.Takes r 6 0 0 ses) ∧ (ses.bulk = some b) ∧ (b.tag = r.tag)) ∧
    (∃ (s : State) (n : Nat) (ses : Session) (b : Bulk), (tget s.sessions n = some ses) ∧ (ses.closing = false) ∧ (ses.bulk = some b) ∧
      (s.awake = true) ∧ (s.elapsedS b.lastAt (s.nat Obj.bulkIdleS) = true)) := by
  refine ⟨⟨{ up0 with loc.anchors := [ow2] }, 16, by decide +kernel⟩,
    ⟨cap0, 1, adm, by decide +kernel⟩,
    ⟨wc up0 [(Obj.servicePortMode, 1)], by decide +kernel⟩,
    ⟨wses bks, r1, ms 0x5018 1 400, bks, bk, 100, by decide +kernel⟩,
    ⟨wses bks, r1, ms 0x5018 1 300, bks, bk, by decide +kernel⟩,
    ⟨wses { adm with held := some (1000, 2000) }, r1, { adm with held := some (1000, 2000) }, 1000, 2000, by decide +kernel⟩,
    ⟨wses bks, r1, bks, bk, by decide +kernel⟩,
    ⟨wses bks, 1, bks, bk, by decide +kernel⟩⟩

def wr (index sub : Nat) : State := cap0
def pw (k : Nat) (v : Int) : State :=
  { cap0 with stores := State.reset.stores.set 2 { PStore.blank with prog := [{ sess := 1, tag := 7, kind := 2, key := k, val := v }] } }
def bun : State := { cap0 with loc.anchors := [ow2] }
def ent (n : Nat) (v : Int) : BundleEntry := { index := 0x5018, sub := 1, length := n, value := v }

/-- What meets the hypotheses of CatalogueAccess. -/
theorem witness_CatalogueAccess :
    (∃ (s : State) (r : CapReq) (m : CapMsg) (ses : Session) (row : ObjRow), (s.Takes r 1 m.index m.sub ses) ∧ (m.version = 1) ∧
      (m.lengthAgrees = true) ∧ (1 ≤ m.sub) ∧ (findObject m.index m.sub = .ok row) ∧ (row.acc = .rw) ∧ (ses.mayRead (256 * m.index + m.sub)
      = true) ∧ (m.offset = 0) ∧ (m.index < 0xF000) ∧ ((Cat.count m.index).isSome = true) ∧ (s.shownLow (256 * m.index + m.sub) = none) ∧
      (s.shownHigh (256 * m.index + m.sub) = none)) ∧
    (∃ (s : State) (r : CapReq) (m : CapMsg) (ses : Session) (row : ObjRow) (p : PStore) (n : Nat) (v w : Int), (s.Takes r 2 m.index m.sub
      ses) ∧ (m.version = 1) ∧ (m.lengthAgrees = true) ∧ (m.offset = 0) ∧ (s.writeCheck ses m.index m.sub n (enc n v) = .ok (row, w)) ∧
      (row.pers = .paired) ∧ (s.stores[storeOf (256 * m.index + m.sub)]? = some p) ∧ (p.overflows [(256 * m.index + m.sub, w)] = false)) ∧
    (∃ (s : State) (r : CapReq) (m : CapMsg) (ses : Session) (n : Nat) (v : Int) (o : CapOut), (s.Takes r 2 m.index m.sub ses) ∧ (m.version
      = 1) ∧ (m.lengthAgrees = true) ∧ (m.offset = 0) ∧ (s.writeCheck ses m.index m.sub n (enc n v) = .error o)) ∧
    (∃ (s : State) (r : CapReq) (ses : Session) (p : PStore) (owner : Nat), (s.Takes r 2 0x1800 1 ses) ∧ (ses.role = 0) ∧ (owner ≤ 1) ∧
      (s.stores[1]? = some p) ∧ (p.overflows [(Obj.servoOwner, (owner : Int))] = false)) ∧
    (∃ (s : State) (r : CapReq) (ses : Session) (p : PStore) (off : Nat), (s.Takes r 2 0x1803 4 ses) ∧ (ses.role = 0) ∧ (off ≤ 255) ∧
      (s.stores[1]? = some p) ∧ (p.overflows [(Obj.taiUtcOffsetS, (off : Int))] = false)) ∧
    (∃ (s : State) (r : CapReq) (ses : Session) (e : Epmeir) (b : BundleEntry) (row : ObjRow) (v : Int), (s.Admits r
      Obj.catalogueBundleSubmit ses) ∧ (s.containerCheck e 5 true = none) ∧ (s.anchorHas 2 0 e.signer = true) ∧ (s.nat
      Obj.catalogueBundleCounter < e.counter) ∧ (s.bundleCheck 0 [b] = .ok [(256 * b.index + b.sub, row, v)]) ∧ (row.pers = .paired) ∧
      (0x5000 ≤ b.index) ∧ (b.index < 0x6000) ∧ (b.sub < 256) ∧ (s.bundleRoom [(256 * b.index + b.sub, v)] = none)) ∧
    (∃ (s : State) (n : Nat) (p : PStore) (w : Waiter) (ses : Session), (s.stores[n]? = some p) ∧ (p.prog = [w]) ∧ (s.awake = true) ∧
      (s.lateRefusal w = none) ∧ (0x5000 ≤ w.key / 256) ∧ (w.key / 256 < 0x6000) ∧ (tget s.sessions w.sess = some ses) ∧ (ses.closing =
      false)) ∧
    (∃ (s : State) (n : Nat) (p : PStore) (w : Waiter) (ses : Session), (s.stores[n]? = some p) ∧ (p.prog = [w]) ∧ (s.awake = true) ∧
      (s.pins.pfi = false) ∧ (s.pw.cause = 0) ∧ (tget s.sessions w.sess = some ses) ∧ (ses.closing = false)) := by
  refine ⟨⟨cap0, r1, ms 0x1801 1 0, adm, ⟨0x1801, 0x1801, 1, 1, .u 1, .rw, .paired, 0, none⟩, by decide +kernel⟩,
    ⟨cap0, r1, ms 0x1801 1 0, adm, ⟨0x1801, 0x1801, 1, 1, .u 1, .rw, .paired, 0, none⟩, .blank, 1, 5, 5, by decide +kernel⟩,
    ⟨cap0, r1, ms 0x1801 1 0, adm, 3, 5, (match cap0.writeCheck adm 0x1801 1 3 (enc 3 5) with | .error o => o | _ => capOk), by decide +kernel⟩,
    ⟨cap0, r1, adm, .blank, 1, by decide +kernel⟩,
    ⟨cap0, r1, adm, .blank, 37, by decide +kernel⟩,
    ⟨bun, r1, adm, { ep 5 44 9 with targetKind := 0, target := 0x1048 }, { index := 0x5001, sub := 1, length := 1, value := 5 }, ⟨0x5001,
      0x5001, 1, 8, .u 1, .rw, .paired, 8, some (0, 96)⟩, 5, by decide +kernel⟩,
    ⟨pw 0x500101 5, 2, { PStore.blank with prog := [{ sess := 1, tag := 7, kind := 2, key := 0x500101, val := 5 }] },
      { sess := 1, tag := 7, kind := 2, key := 0x500101, val := 5 }, adm, by decide +kernel⟩,
    ⟨pw 0x500101 5, 2, { PStore.blank with prog := [{ sess := 1, tag := 7, kind := 2, key := 0x500101, val := 5 }] },
      { sess := 1, tag := 7, kind := 2, key := 0x500101, val := 5 }, adm, by decide +kernel⟩⟩

def rq0 : SwitchReq :=
  { seq := 9, origin := 2, kind := 1, tenant := 0, tag := 5, flags := 0, notBefore := 0, expiry := 900000000, limitW := 0, durationS := 0,
    cellMask := 0, reference := 0, formed := 5 }
def gat (q : SwitchReq) : State := { wc reg0 [(Obj.stageMaxPerEndpoint, 5)] with gate := { reg0.gate with queue := [q] } }
def it2 : Item := { item0 with cls := 2, sends := 1, request := some rq0 }
def gk : State := { reg0 with nand.items := [it2], nand.stageSeq := 1, gate := { reg0.gate with kept := [(1, 77)] } }

/-- Equal lists of digests agree. -/
theorem digests_agree (l : List Nat) : digestMismatch l l = none := by
  induction l with
  | nil => rfl
  | cons a t ih => simp [digestMismatch, ih]

/-- A head end's disconnect with its AuthTag passes the checks. -/
theorem gate_passes : (gat rq0).gateChecks rq0 ((gat rq0).authTag rq0) = 0 := by
  have h : (gat rq0).gateEvidence rq0 ((gat rq0).authTag rq0) = 0 := by simp only [State.gateEvidence, rq0, if_true]
  unfold State.gateChecks
  rw [h]
  decide +kernel

/-- What meets the hypotheses of CommandGate. -/
theorem witness_CommandGate :
    (∃ (s : State) (q : SwitchReq) (rest : List SwitchReq) (x : Record) (auth : Nat) (d : List Nat), (s.up = true) ∧ (s.pw.cause = 0) ∧
      (s.gate.queue = q :: rest) ∧ (s.record q.tag = some x) ∧ (x.bad = false) ∧ (x.live = true) ∧ (s.nat Obj.gateState = 0) ∧ (s.billSec <
      q.expiry) ∧ (s.gateChecks q auth = 0) ∧ (digestMismatch (s.gateDigests q) d = none) ∧ (q.kind ≠ 4) ∧ ((s.nand.items.any fun i => i.tag
      == q.tag && i.cls == 2) = false) ∧ (s.itemRoom q.tag = true) ∧ (s.nat Obj.gateReleased < 4294967295)) ∧
    (∃ (s : State) (q : SwitchReq) (rest : List SwitchReq) (x : Record) (auth : Nat), (s.up = true) ∧ (s.pw.cause = 0) ∧ (s.gate.queue = q
      :: rest) ∧ (s.record q.tag = some x) ∧ (x.bad = false) ∧ (x.live = true) ∧ (s.nat Obj.gateState = 0) ∧ (s.billSec < q.expiry) ∧
      (s.gateChecks q auth ≠ 0) ∧ (gateHard (s.gateChecks q auth) = false)) ∧
    (∃ (s : State) (stage digest : Nat) (i : Item), (s.up = true) ∧ (s.nat Obj.gateState = 0) ∧ ((s.nand.items.find? fun i => i.seq == stage
      && i.cls == 2) = some i) ∧ ((s.gate.kept.find? fun e => e.1 == stage) = some (stage, digest))) ∧
    (∃ (s : State) (stage tag digest kept : Nat) (i : Item), (s.up = true) ∧ (s.nat Obj.gateState = 0) ∧ ((s.nand.items.find? fun i => i.seq
      == stage && i.cls == 2) = some i) ∧ ((s.gate.kept.find? fun e => e.1 == stage) = some (stage, kept)) ∧ ((digest ≠ kept ∨ tag ≠
      i.tag))) ∧
    (∃ (s : State) (stage outcome : Nat) (i : Item) (x : Record), (s.up = true) ∧ ((s.nand.items.find? fun i => i.seq == stage && i.cls ==
      2) = some i) ∧ (1 ≤ outcome) ∧ (outcome ≤ 4) ∧ (s.record i.tag = some x) ∧ (x.tag = i.tag) ∧ ((s.nand.items.find? fun i => i.seq ==
      stage && i.tag == x.tag && (i.sends != 0 || i.held)) = some i) ∧ (stage ≤ s.nand.stageSeq)) ∧
    (∃ (s : State) (q : SwitchReq), (s.up = true) ∧ (s.nat Obj.gateState = 0) ∧ ((s.gate.queue.find? fun q => q.kind == 4 && Nat.ble
      (q.formed + 10000000) s.now) = some q)) := by
  refine ⟨⟨gat rq0, rq0, [], rec0 5, (gat rq0).authTag rq0, (gat rq0).gateDigests rq0, by decide +kernel, by decide +kernel, by decide +kernel,
      by decide +kernel, by decide +kernel, by decide +kernel, by decide +kernel, by decide +kernel, gate_passes, digests_agree _,
      by decide +kernel, by decide +kernel, by decide +kernel, by decide +kernel⟩,
    ⟨gat { rq0 with kind := 9 }, { rq0 with kind := 9 }, [], rec0 5, 0, by decide +kernel⟩,
    ⟨gk, 1, 77, it2, by decide +kernel⟩,
    ⟨gk, 1, 5, 78, 77, it2, by decide +kernel⟩,
    ⟨gk, 1, 1, it2, rec0 5, by decide +kernel⟩,
    ⟨gat { rq0 with kind := 4 }, { rq0 with kind := 4 }, by decide +kernel⟩⟩

/-- What meets the hypotheses of RingmasterDiagnostics. -/
theorem witness_RingmasterDiagnostics :
    (∃ (s : State), (s.up = true) ∧ (s.nat Obj.dangerousDetected < 4294967295)) ∧
    (∃ (s : State), (s.up = true)) ∧
    (∃ (s : State), (s.up = true) ∧ (s.tai % 86400 / 3600 = s.nat Obj.ringmasterTestHour) ∧ (s.gate.bistDay ≠ s.tai / 86400)) ∧
    (∃ (s : State) (r : CapReq) (ses : Session), (s.Admits r Obj.gateReopen ses) ∧ (s.nat Obj.gateState = 1)) ∧
    (∃ (s : State) (r : CapReq) (ses : Session), (s.Admits r Obj.gateReopen ses) ∧ (2 ≤ s.nat Obj.gateState)) ∧
    (∃ (s : State) (r : CapReq) (ses : Session), (s.Admits r Obj.gateProofTest ses) ∧ ((s.gate.queue.any fun q => q.kind == 4) = false) ∧
      (s.nat Obj.gateState ≤ 1)) := by
  refine ⟨⟨up0, by decide +kernel⟩,
    ⟨up0, by decide +kernel⟩,
    ⟨wc up0 [(Obj.ringmasterTestHour, (800000000 % 86400 / 3600 : Nat))], by decide +kernel⟩,
    ⟨wc cap0 [(Obj.gateState, 1)], r1, adm, by decide +kernel⟩,
    ⟨wc cap0 [(Obj.gateState, 3)], r1, adm, by decide +kernel⟩,
    ⟨cap0, r1, adm, by decide +kernel⟩⟩

def pt0 (f : Patina → Patina) : State := { cap0 with pat := f cap0.pat }

/-- What meets the hypotheses of TestsAgeingAndHeat. -/
theorem witness_TestsAgeingAndHeat :
    (∃ (s : State) (e : Nat), (s.awake = true) ∧ (e < 20) ∧ (s.gate.engines[e]? = some 0) ∧ (s.nat Obj.engineFaults < 4294967295)) ∧
    (∃ (s : State) (e : Nat), (s.up = true) ∧ (s.pw.cause = 0) ∧ (s.pat.target = none) ∧ (s.elapsedS s.pat.rotatedAt 600 = true) ∧
      (s.nextEngine = some e)) ∧
    (∃ (s : State) (e : Nat), (s.pat.target = some e) ∧ (s.up = true) ∧ (s.pw.cause = 0) ∧ (e ≤ 0x13) ∧ (s.pat.slices < 65) ∧ ((s.pat.slices =
      0 ∨ s.pat.sliceAt + 10000000 ≤ s.now))) ∧
    (∃ (s : State) (r : CapReq) (ses : Session) (n : Nat), (s.Admits r Obj.bistStart ses) ∧ (bistTarget n = true) ∧ (s.bistBusy n = false) ∧
      (s.bistMay n = true)) ∧
    (∃ (s : State) (e : Nat), (s.pat.target = some e) ∧ (s.awake = true) ∧ (e < 20) ∧ (s.gate.engines[e]? = some 0) ∧ (s.pat.slices = 65) ∧
      (s.pat.failing = none)) ∧
    (∃ (s : State) (e n : Nat), (s.pat.target = some e) ∧ (s.awake = true) ∧ (e < 20) ∧ (s.gate.engines[e]? = some 0) ∧ (s.pat.slices = 65) ∧
      (s.pat.failing = some n) ∧ ((s.pat.failures[e]?).getD 0 = 0) ∧ (s.nat Obj.bistFailures < 4294967295)) ∧
    (∃ (s : State) (x : List Int), (s.awake = true) ∧ (x.length = 8)) ∧
    (∃ (s : State), (s.up = true) ∧ (s.pw.cause = 0) ∧ (s.elapsedS s.pat.evalAt (s.nat Obj.governorStepS) = true) ∧ (s.get
      Obj.governorTripDeciC ≤ s.get Obj.junctionTempDeciC) ∧ (s.nat Obj.engineClockMHz ≠ s.nat Obj.governorFloorMHz) ∧ (s.nat
      Obj.governorEvents < 4294967295)) ∧
    (∃ (s : State) (a : Nat), (s.pat.coolSince = some a) ∧ (s.awake = true) ∧ (s.elapsedS a 60 = true)) ∧
    (∃ (s : State) (x : List Int), (s.up = true) ∧ (x.length = 24) ∧ (s.pat.measuredHour ≠ s.nat Obj.operatingTimeMs / 3600000 + 1)) ∧
    (∃ (s : State) (x : List Int), (s.up = true) ∧ (s.pat.waiting = true) ∧ (x.length = 24)) ∧
    (∃ (s : State) (r : CapReq) (ses : Session) (x : List Int), (s.Admits r Obj.patinaMeasure ses) ∧ (x.length = 24)) ∧
    (∃ (s : State) (r : CapReq) (ses : Session), (s.Admits r Obj.patinaRecalibrate ses)) := by
  refine ⟨⟨up0, 19, by decide +kernel⟩,
    ⟨up0, (up0.nextEngine).getD 0, by decide +kernel⟩,
    ⟨pt0 (fun p => { p with target := some 3 }), 3, by decide +kernel⟩,
    ⟨cap0, r1, adm, 3, by decide +kernel⟩,
    ⟨pt0 (fun p => { p with target := some 3, slices := 65 }), 3, by decide +kernel⟩,
    ⟨pt0 (fun p => { p with target := some 3, slices := 65, failing := some 2 }), 3, 2, by decide +kernel⟩,
    ⟨up0, [1, 2, 3, -4, 900, 5, 6, 7], by decide +kernel⟩,
    ⟨wc up0 [(Obj.junctionTempDeciC, 2000)], by decide +kernel⟩,
    ⟨pt0 (fun p => { p with coolSince := some 5 }), 5, by decide +kernel⟩,
    ⟨up0, List.replicate 24 50, by decide +kernel⟩,
    ⟨pt0 (fun p => { p with waiting := true }), List.replicate 24 50, by decide +kernel⟩,
    ⟨cap0, r1, adm, List.replicate 24 50, by decide +kernel⟩,
    ⟨cap0, r1, adm, by decide +kernel⟩⟩

/-- What meets the hypotheses of TimeSetIsAStep. -/
theorem witness_TimeSetIsAStep :
    (∃ (s : State) (r : CapReq) (ses : Session) (sec ns : Nat), (s.Admits r Obj.timeSet ses) ∧ (ns < nsPerS) ∧ (sec < 2 ^ 48) ∧ (1 ≤ s.nat
      Obj.selectedSource) ∧ (s.nat Obj.selectedSource ≤ 5)) ∧
    (∃ (s : State) (r : CapReq) (ses : Session) (sec ns : Nat), (s.Admits r Obj.timeSet ses) ∧ (ns < nsPerS) ∧ (sec < 2 ^ 48) ∧ (s.nat
      Obj.selectedSource = 0 ∨ 6 ≤ s.nat Obj.selectedSource)) := by
  refine ⟨⟨wc cap0 [(Obj.selectedSource, 1)], r1, adm, 5, 0, by decide +kernel⟩,
    ⟨cap0, r1, adm, 281474976710655, 999999999, by decide +kernel⟩⟩

/-- What meets the hypotheses of FormatOnlyUnsealed. -/
theorem witness_FormatOnlyUnsealed :
    (∃ (s : State) (r : CapReq) (ses : Session), (s.Admits r Obj.storageFormat ses) ∧ (s.parked = []) ∧ (s.nat Obj.sealState = 1)) ∧
    (∃ (s : State) (r : CapReq) (ses : Session), (s.Admits r Obj.storageFormat ses) ∧ (s.parked = []) ∧ (s.nat Obj.sealState ≠ 1)) := by
  refine ⟨⟨{ wc cap0 [(Obj.sealState, 1)] with nand.archive := [] }, r1, adm, by decide +kernel⟩,
    ⟨cap0, r1, adm, by decide +kernel⟩⟩

/-- What meets the hypotheses of FrameOfTimeAndPower, FrameOfStorage and FrameOfEngines: DDR_PATROL_SCRUB moves none of their groups. -/
theorem witness_Frames : ∃ (c : Instr) (s t : State), exec c s = .next t ∧
    ([c.movesCounter, c.movesIncrement, c.movesPower, c.movesFuses, c.movesFirmware, c.movesPatina, c.movesAnchors, c.movesUnits,
      c.movesBlobs, c.movesHash, c.movesNodes, c.movesForward, c.movesSpans, c.movesWithheld, c.movesCarousel, c.movesDownlink,
      c.movesLanes, c.movesPorts, c.movesLines, c.movesQueues, c.movesVotes, c.movesWindow, c.movesStorms, c.movesCascades,
      c.movesCatalogue, c.movesSessions].all fun b => !b) = true :=
  ⟨.ddrPatrolScrub, up0, up0, rfl, by decide⟩

/-- What meets the hypothesis of StepTakesFront. -/
theorem witness_StepTakesFront : ∃ (c : Instr) (rest : List Instr) (s : State), s.pending = c :: rest :=
  ⟨.railsLost, [.porstNAssert], { State.reset with pending := [.railsLost, .porstNAssert] }, rfl⟩

/-- What meets the hypothesis of SoundKept: a part with a line in Big Top. -/
theorem witness_SoundKept : ∃ s : State, s.Sound := ⟨{ up0 with mem.lines := [(5, 7)] }, by decide +kernel⟩

/-- The balls in reset (R457). -/
theorem test_ballsInReset : ([Ball.safeN, .pwrSafe, .plcDrven 0, .rs485De, .rs485Txd, .xspiResetN, .ethTxdis 1].map
    State.reset.ballHigh) = [false, false, false, false, true, false, true] := by decide +kernel

/-- The word of no row: the table gives the commands no bits. -/
theorem test_decode : decodeTableWord 32 0 = none := rfl

end Sys2Proof.Tests
end

/-! PROOFS. The increment of the counter (R247), and TimeSet (R259). -/

namespace Sys2Proof.Machine

/-! ### The increment (R247) -/

/-- An increment within the limits is loaded as it was asked for. -/
theorem incrClamp_of_within {v : Nat} (lo : incrMin ≤ v) (hi : v ≤ incrMax) : incrClamp v = v := by
  unfold incrClamp
  rw [if_neg (by omega), if_neg (by omega)]

/-- An increment below the limits loads the least. -/
theorem incrClamp_of_lt {v : Nat} (h : v < incrMin) : incrClamp v = incrMin := if_pos h

/-- An increment above the limits loads the greatest. -/
theorem incrClamp_of_gt {v : Nat} (h : incrMax < v) : incrClamp v = incrMax := by
  have high : ¬ v < incrMin := by
    have : incrMin ≤ incrMax := by decide
    omega
  unfold incrClamp
  rw [if_neg high, if_pos h]

@[simp] theorem State.loadIncr_incr (s : State) (v : Nat) : (s.loadIncr v).time.incr = incrClamp v := rfl

@[simp] theorem State.loadIncr_incrClamped (s : State) (v : Nat) :
    (s.loadIncr v).time.incrClamped = (s.time.incrClamped || incrClamp v != v) := rfl

/-- Loading an increment leaves the counter and the catalogue. -/
theorem State.loadIncr_keeps (s : State) (v : Nat) :
    (s.loadIncr v).time.sec = s.time.sec ∧ (s.loadIncr v).time.ns = s.time.ns ∧ (s.loadIncr v).time.frac = s.time.frac ∧
      (s.loadIncr v).cat = s.cat := ⟨rfl, rfl, rfl, rfl⟩

/-- The two halves loaded together make up the increment. -/
theorem State.loadIncr_halves (s : State) (v : Nat) :
    (s.loadIncr v).time.incr = (s.loadIncr v).time.incrInt * 4294967296 + (s.loadIncr v).time.incrFrac :=
  (Nat.div_add_mod' (incrClamp v) 4294967296).symm

/-- IncrClamped stays as it was when the increment asked for is within the limits. -/
theorem State.loadIncr_of_within (s : State) {v : Nat} (lo : incrMin ≤ v) (hi : v ≤ incrMax) :
    (s.loadIncr v).time.incr = v ∧ (s.loadIncr v).time.incrClamped = s.time.incrClamped := by
  simp [incrClamp_of_within lo hi]

/-- IncrClamped is set when the increment asked for is below the limits. -/
theorem State.loadIncr_of_lt (s : State) {v : Nat} (h : v < incrMin) :
    (s.loadIncr v).time.incr = incrMin ∧ (s.loadIncr v).time.incrClamped = true := by
  have changed : incrMin ≠ v := by omega
  simp [incrClamp_of_lt h, changed]

/-- IncrClamped is set when the increment asked for is above the limits. -/
theorem State.loadIncr_of_gt (s : State) {v : Nat} (h : incrMax < v) :
    (s.loadIncr v).time.incr = incrMax ∧ (s.loadIncr v).time.incrClamped = true := by
  have changed : incrMax ≠ v := by omega
  simp [incrClamp_of_gt h, changed]

/-- The write of HIF_TIME_INCR_INT by the servo's owner loads it with the fraction written before. -/
theorem State.incrWrite_of_owner (s : State) (int : Word) (bar : s.bar = true) (owner : s.nat Obj.servoOwner = 1) :
    s.incrWrite int = s.loadIncr (int.toNat * 4294967296 + s.time.incrFrac) := by
  unfold State.incrWrite
  rw [if_neg (by simp [bar, owner])]

/-- A write that the host can make to the time registers goes to them. -/
theorem State.registerWrite_time (s : State) (off : Nat) (v : Word) (bar : s.bar = true) (lo : 0x2000 ≤ off) (hi : off < 0x3000)
    (aligned : off % 4 = 0) : s.registerWrite off v = s.timeWrite off v := by
  have below : Nat.ble seesawBase off = false := by
    have : 0x3000 ≤ seesawBase := by decide
    rw [Bool.eq_false_iff, ne_eq, Nat.ble_eq]
    omega
  have above : Nat.blt off 0x2000 = false := by
    rw [Bool.eq_false_iff, ne_eq, Nat.blt_eq]
    omega
  have low : Nat.ble 0x2000 off = true := by simpa using lo
  have high : Nat.blt off 0x3000 = true := by simpa using hi
  simp [State.registerWrite, below, above, low, high, bar, aligned]

/-- HIF_TIME_INCR_FRAC takes what the servo's owner writes, and nothing else changes. -/
theorem State.timeWrite_incrFrac (s : State) (v : Word) (owner : s.nat Obj.servoOwner = 1) :
    s.timeWrite 0x2008 v = { s with time.incrFrac := v.toNat } := by
  simp [State.timeWrite, owner]

/-- A write of the register at 0x200C is TIME_INCR_WRITE. -/
theorem State.timeWrite_incrInt (s : State) (v : Word) : s.timeWrite 0x200C v = s.incrWrite v := by
  simp [State.timeWrite]

/-- Settles O14: both ways of writing HIF_TIME_INCR_INT come to `State.loadIncr`, whose value is split at the two limits. -/
theorem incrementIsLimited : Obligations.IncrementIsLimited := by
  unfold Obligations.IncrementIsLimited
  refine ⟨fun s v bar owner => ?_, fun s v bar owner => ?_, rfl, by decide, by decide, by decide, by decide⟩
  · have write := (s.registerWrite_time 0x2008 v bar (by decide) (by decide) rfl).trans (s.timeWrite_incrFrac v owner)
    exact congrArg Host.Outcome.next write
  · have load := s.incrWrite_of_owner v bar owner
    have write := (s.registerWrite_time 0x200C v bar (by decide) (by decide) rfl).trans (s.timeWrite_incrInt v)
    exact ⟨s.loadIncr (v.toNat * 4294967296 + s.time.incrFrac), congrArg Host.Outcome.next load,
      congrArg Host.Outcome.next (write.trans load), s.loadIncr_of_within, s.loadIncr_of_lt, s.loadIncr_of_gt,
      s.loadIncr_halves _, s.loadIncr_keeps _⟩

/-! ### TimeSet (R259) -/

/-- An administrator's CAP session, with nothing answered on it. -/
def freshAdministrator : Session :=
  { role := 0, tenant := 0xFF, lastAt := 0, kept := [], resp := none, bulk := none, held := none, closing := false }

/-- A running part with a free block and an administrator's session 1, whose NAND holds no list of records at all, not even an
empty one for the legal log. `State` allows it, though `State.reset` starts with the four logs of R319. -/
def partWithoutLogs : State :=
  { State.reset with
    pins.porst := false
    pw.stage := 0x0D
    sessions := [(1, freshAdministrator)]
    cask.blocks := [(0, { state := 0, erases := 0, stream := 0, used := 0, filled := 0, refresh := false })]
    nand.logs := [] }

/-- CAP takes a TimeSet of the administrator on it. -/
theorem partWithoutLogs_admits : partWithoutLogs.Admits { sess := 1, tag := 7 } Obj.timeSet freshAdministrator := by
  decide +kernel

/-- The store is mounted and writable, a block is free and no freeze stands, but the record of TimeSet finds no log to go into. -/
theorem partWithoutLogs_timeSet_logs : (partWithoutLogs.timeSet { sess := 1, tag := 7 } 0 1).nand.logs = [] := by
  decide +kernel

/-- Refutes O59: the statement asks for the legal log of the state after, and does not ask that the state before has one. On
`partWithoutLogs` TimeSet to 1 ns meets every hypothesis, and no log is there afterwards to hold the record. -/
theorem not_timeSetIsAStep : ¬ Obligations.TimeSetIsAStep := by
  unfold Obligations.TimeSetIsAStep
  intro h
  obtain ⟨-, accepted⟩ := h partWithoutLogs _ _ 0 1 partWithoutLogs_admits (by decide) (by decide)
  obtain ⟨t, runs, -, -, -, -, -, recorded⟩ := accepted (.inl (by decide +kernel))
  obtain ⟨l, mem, -⟩ := recorded (by decide +kernel) (by decide +kernel) rfl
  obtain rfl : partWithoutLogs.timeSet _ 0 1 = t := Host.Outcome.next.inj runs
  rw [partWithoutLogs_timeSet_logs] at mem
  exact absurd mem (by simp)

end Sys2Proof.Machine

/-! PROOFS. StorageFormat (R317). -/

namespace Sys2Proof.Machine

/-! ### What a format and its answer leave of Casket -/

/-- Casket and the commands that wait for a frame are as they were. -/
abbrev CaskKept (s t : State) : Prop := t.cask = s.cask ∧ t.parked = s.parked

theorem CaskKept.trans {s t u : State} (h : CaskKept s t) (k : CaskKept t u) : CaskKept s u :=
  ⟨k.1.trans h.1, k.2.trans h.2⟩

/-- Blocks and waiting commands shown before what keeps them hold after it. -/
theorem CaskKept.blocks {s t : State} {b : Tab Block} {p : List Parked} (h : CaskKept s t) (k : s.cask.blocks = b ∧ s.parked = p) :
    t.cask.blocks = b ∧ t.parked = p :=
  ⟨(congrArg Casket.blocks h.1).trans k.1, h.2.trans k.2⟩

theorem State.bumpBy_caskKept (s : State) (k n : Nat) : CaskKept s (s.bumpBy k n) := by
  unfold State.bumpBy State.draw
  simp only
  split <;> exact ⟨rfl, rfl⟩

theorem State.commitPaired_caskKept (s : State) (changes : List (Nat × Int)) : CaskKept s (s.commitPaired changes) := by
  unfold State.commitPaired
  split
  · exact ⟨rfl, rfl⟩
  · exact CaskKept.trans ⟨rfl, rfl⟩ (State.bumpBy_caskKept _ _ _)

theorem State.clearAlarm_caskKept (s : State) : CaskKept s s.clearAlarm := by
  unfold State.clearAlarm
  split
  · exact CaskKept.trans ⟨rfl, rfl⟩ (State.commitPaired_caskKept _ _)
  · exact ⟨rfl, rfl⟩

theorem State.storeKeys_caskKept (s : State) : CaskKept s s.storeKeys := by
  unfold State.storeKeys
  split
  · exact ⟨rfl, rfl⟩
  · exact CaskKept.trans ⟨rfl, rfl⟩ (State.commitPaired_caskKept _ _)

theorem State.dropFrame_caskKept (s : State) (id : Nat) : CaskKept s (s.dropFrame id) := by
  unfold State.dropFrame State.takeAsk State.takeFrom State.takeItem
  (repeat' split) <;> exact ⟨rfl, rfl⟩

theorem State.dropFrames_caskKept (s : State) (fs : List Frame) :
    CaskKept s (fs.foldl (fun (s : State) (f : Frame) => s.dropFrame f.id) s) := by
  induction fs generalizing s with
  | nil => exact ⟨rfl, rfl⟩
  | cons f fs ih => exact (s.dropFrame_caskKept f.id).trans (ih _)

theorem State.raise_caskKept (s : State) (n : Nat) : CaskKept s (s.raise n) := by
  unfold State.raise State.msi
  simp only
  (repeat' split) <;> exact ⟨rfl, rfl⟩

/-- A response moves its session, the mailbox and a counter. -/
theorem State.respond_caskKept (s : State) (sess : Nat) (r : Resp) (keep : Bool) : CaskKept s (s.respond sess r keep) := by
  unfold State.respond State.openSession State.bump
  (repeat' split) <;> grind [State.bumpBy_caskKept, State.raise_caskKept]

theorem State.set_caskKept (s : State) (k : Nat) (v : Int) : CaskKept s (s.set k v) := ⟨rfl, rfl⟩

/-- The blocks after a format are those of `Casket.formatted`, and no command comes to wait. -/
theorem State.format_blocks (s : State) : s.format.cask.blocks = s.cask.formatted ∧ s.format.parked = s.parked := by
  unfold State.format
  refine (State.clearAlarm_caskKept _).blocks ?_
  refine (State.set_caskKept _ Obj.mediaState 0).blocks ?_
  refine (State.commitPaired_caskKept _ _).blocks ?_
  refine (State.set_caskKept _ Obj.eraseCountSpread _).blocks ?_
  refine (State.set_caskKept _ Obj.keyHeldFrames _).blocks ?_
  refine (State.set_caskKept _ Obj.stagedItems 0).blocks ?_
  refine (State.set_caskKept _ Obj.spareBlocks _).blocks ?_
  refine (State.set_caskKept _ Obj.legalReserveFree _).blocks ?_
  refine (State.dropFrames_caskKept _ _).blocks ?_
  exact (State.storeKeys_caskKept _).blocks ⟨rfl, rfl⟩

/-! ### StorageFormat (R317) -/

/-- The state in which a command object taken on a session acts: the request counted, the session's held result gone. -/
def State.executing (s : State) (r : CapReq) (ses : Session) : State :=
  { s.taken r ses with sessions := tmod (s.taken r ses).sessions r.sess fun p => { p with held := none } }

theorem State.executing_caskKept (s : State) (r : CapReq) (ses : Session) : CaskKept s (s.executing r ses) :=
  s.bumpBy_caskKept Obj.capRequests 1

theorem State.executing_nat (s : State) (r : CapReq) (ses : Session) {k : Nat} (h : k ≠ Obj.capRequests) :
    (s.executing r ses).nat k = s.nat k :=
  congrArg Int.toNat (s.get_bump_ne h)

/-- A command object that CAP carries out answers what its body gives. -/
theorem State.capExec_admits (s : State) (r : CapReq) (k : Nat) (ses : Session) (body : Session → State → CapOut × State)
    (admits : s.Admits r k ses) :
    s.capExec r k body =
      (body ses (s.executing r ses)).2.respond r.sess
        ((body ses (s.executing r ses)).1.toResp r.tag 3 (k / 256) (k % 256)) true := by
  obtain ⟨⟨opened, closing, mail, fresh, room, ready⟩, may⟩ := admits
  exact s.capRun_takes r 3 (k / 256) (k % 256) _ _ ses opened closing mail fresh room ready may

/-- StorageFormat on an unsealed part leaves the blocks of `Casket.formatted`. -/
theorem State.storageFormat_blocks (s : State) (r : CapReq) (ses : Session) (admits : s.Admits r Obj.storageFormat ses)
    (parked : s.parked = []) (unsealed : s.nat Obj.sealState = 1) :
    (s.storageFormat r 1).cask.blocks = s.cask.formatted := by
  obtain ⟨cask, waits⟩ := s.executing_caskKept r ses
  have sealState : (s.executing r ses).nat Obj.sealState = 1 := (s.executing_nat r ses (by decide)).trans unsealed
  obtain ⟨blocks, empty⟩ := (State.respond_caskKept _ r.sess
    (capOk.toResp r.tag 3 (Obj.storageFormat / 256) (Obj.storageFormat % 256)) true).blocks (s.executing r ses).format_blocks
  rw [waits, parked] at empty
  rw [cask] at blocks
  unfold State.storageFormat
  rw [s.capExec_admits r _ ses _ admits]
  simp [boolCommand, sealState, empty, blocks]

/-- A running unsealed part with an administrator's session 1, whose table of blocks names block 0 twice: as a good block, and as a bad
one with a unit programmed. `State` allows it, though a `Tab` is meant to have rising keys: the type does not ask for them. -/
def partWithDoubleBlock : State :=
  let good : Block := { state := 0, erases := 0, stream := 0, used := 0, filled := 0, refresh := false }
  { State.reset with
    cat := catPut State.reset.cat Obj.sealState 1
    pins.porst := false
    pw.stage := 0x0D
    sessions := [(1, freshAdministrator)]
    cask.blocks := [(0, good), (0, { good with state := 4, used := 1 })] }

/-- CAP takes a StorageFormat of the administrator on it. -/
theorem partWithDoubleBlock_admits :
    partWithDoubleBlock.Admits { sess := 1, tag := 7 } Obj.storageFormat freshAdministrator := by
  decide +kernel

theorem partWithDoubleBlock_unsealed : partWithDoubleBlock.nat Obj.sealState = 1 := by
  decide +kernel

/-- The erase passes over the bad entry, but the legal reserve takes its one block by number (R315) and so moves that entry out of
state 4 with its unit programmed. -/
theorem partWithDoubleBlock_formatted :
    ∃ e ∈ partWithDoubleBlock.cask.formatted, ¬ (e.2.state = 4 ∨ e.2.used = 0) := by
  decide +kernel

/-- Refutes O60: the statement asks that after a format only a bad block has a unit programmed, and does not ask that the table of
blocks before names each block once. On `partWithDoubleBlock`, which meets every hypothesis, a reserve block has one. -/
theorem not_formatOnlyUnsealed : ¬ Obligations.FormatOnlyUnsealed := by
  unfold Obligations.FormatOnlyUnsealed
  intro h
  obtain ⟨accepted, -⟩ := h partWithDoubleBlock _ _ partWithDoubleBlock_admits rfl
  obtain ⟨t, runs, -, -, -, erased, -⟩ := accepted partWithDoubleBlock_unsealed
  obtain rfl : partWithDoubleBlock.storageFormat _ 1 = t := Host.Outcome.next.inj runs
  rw [State.storageFormat_blocks _ _ _ partWithDoubleBlock_admits rfl partWithDoubleBlock_unsealed] at erased
  obtain ⟨e, listed, programmed⟩ := partWithDoubleBlock_formatted
  exact programmed (erased e listed)

end Sys2Proof.Machine

namespace Sys2Proof.Machine

set_option Elab.async false
/-- The parts of a state that the frames of the operations speak of: each field, with the counter, its increment and the rest of Calliope,
Big Top's lines, the Seesaw queues and the rest of memory, and what NAND holds, as parts of their own. -/
inductive Part where
  | pending | free | cat | inForce | stores | bat | pins | pw | hif | ports | sessions | cask | fw | hall | gate | pat | loc
  | freeze | frames | nextFrame | win | storms | unknown | relayed | cascades | cascadeOut | cascadeIn | car | dl | lanes | votes
  | parked | upHold | nandProg | counter | increment | clockwork | lines | queues | memory | logs | anchors | user | uplinks
  | recs | hash | blobs | bills | spans | nodes | ingest | forward | withheld | items | series | records
deriving DecidableEq

/-- What a part holds. -/
abbrev Part.Val : Part → Type
  | .pending => List Instr
  | .free => Nat
  | .cat => Tab Int
  | .inForce => Tab Int
  | .stores => List PStore
  | .bat => Battery
  | .pins => Pins
  | .pw => Power
  | .hif => HostIf
  | .ports => List Port
  | .sessions => Tab Session
  | .cask => Casket
  | .fw => Firmware
  | .hall => Hallmark
  | .gate => Gate
  | .pat => Patina
  | .loc => Locket
  | .freeze => Option Freeze
  | .frames => List Frame
  | .nextFrame => Nat
  | .win => Window
  | .storms => List StormKey
  | .unknown => List (Native × Nat × Nat × Nat)
  | .relayed => Tab (Nat × Nat × Nat)
  | .cascades => Tab Cascade
  | .cascadeOut => List CascadeMsg
  | .cascadeIn => List CascadeMsg
  | .car => Carousel
  | .dl => Downlink
  | .lanes => List Lane
  | .votes => Tab (Nat × Nat)
  | .parked => List Parked
  | .upHold => Option (List (Nat × UpRec × Nat))
  | .nandProg => Nand
  | .counter => Nat × Nat × Nat
  | .increment => Nat × Nat × Nat × Bool
  | .clockwork => Nat × Nat × Option Int × Nat × Nat × Snap × List TsQueue × Int × List PtpPort × Nat × Nat × Nat × Bool × Option Nat ×
      Nat × (List (Nat × Nat)) × Bool × Option Nat × Nat
  | .lines => Tab Line × List Nat
  | .queues => Tab Seesaw
  | .memory => List Nat × List LineWrite × Tab (BitVec 64) × List Nat
  | .logs => List EvLog × List EvRec
  | .anchors => List Anchor × List (Option Nat)
  | .user => Tab Nat
  | .uplinks => List Batch × List Batch
  | .recs => Tab Record
  | .hash => List HashEntry
  | .blobs => Tab Nat
  | .bills => Tab Bill
  | .spans => List (Nat × Option Nat)
  | .nodes => Tab Node
  | .ingest => List Ingest
  | .forward => List Forward
  | .withheld => List SwitchReq
  | .items => List Item
  | .series => Nat × Nat × Nat
  | .records => Tab Int × Option KeyCommit × Tab Shot × Tab CalState × List Reading × List Booked × List NodeEnergy × List Deferred × Tab
      Brought × Nat × Nat × Nat × Nat

/-- What a part of a state holds. -/
def Part.of : (p : Part) → State → p.Val
  | .pending, s => s.pending
  | .free, s => s.free
  | .cat, s => s.cat
  | .inForce, s => s.inForce
  | .stores, s => s.stores
  | .bat, s => s.bat
  | .pins, s => s.pins
  | .pw, s => s.pw
  | .hif, s => s.hif
  | .ports, s => s.ports
  | .sessions, s => s.sessions
  | .cask, s => s.cask
  | .fw, s => s.fw
  | .hall, s => s.hall
  | .gate, s => s.gate
  | .pat, s => s.pat
  | .loc, s => s.loc
  | .freeze, s => s.freeze
  | .frames, s => s.frames
  | .nextFrame, s => s.nextFrame
  | .win, s => s.win
  | .storms, s => s.storms
  | .unknown, s => s.unknown
  | .relayed, s => s.relayed
  | .cascades, s => s.cascades
  | .cascadeOut, s => s.cascadeOut
  | .cascadeIn, s => s.cascadeIn
  | .car, s => s.car
  | .dl, s => s.dl
  | .lanes, s => s.lanes
  | .votes, s => s.votes
  | .parked, s => s.parked
  | .upHold, s => s.upHold
  | .nandProg, s => s.nandProg
  | .counter, s => (s.time.sec, s.time.ns, s.time.frac)
  | .increment, s => (s.time.incr, s.time.incrFrac, s.time.incrInt, s.time.incrClamped)
  | .clockwork, s => (s.time.stepLo, s.time.stepHi, s.time.step, s.time.short, s.time.qtr, s.time.snap, s.time.tsq, s.time.lag,
      s.time.ptp, s.time.ppsEdges, s.time.ppsLast, s.time.ppsShort, s.time.secondsKnown, s.time.lockSince, s.time.holdoverSince,
      s.time.locked, s.time.beatBit, s.time.beatAt, s.time.subMs)
  | .lines, s => (s.mem.lines, s.mem.poisoned)
  | .queues, s => s.mem.queues
  | .memory, s => (s.mem.banks, s.mem.stalled, s.mem.caravan, s.mem.turns)
  | .logs, s => (s.nand.logs, s.nand.hold)
  | .anchors, s => (s.nand.anchors, s.nand.legalSlots)
  | .user, s => s.nand.user
  | .uplinks, s => (s.nand.open_, s.nand.retained)
  | .recs, s => s.nand.recs
  | .hash, s => s.nand.hash
  | .blobs, s => s.nand.blobs
  | .bills, s => s.nand.bills
  | .spans, s => s.nand.spans
  | .nodes, s => s.nand.nodes
  | .ingest, s => s.nand.ingest
  | .forward, s => s.nand.forward
  | .withheld, s => s.nand.withheld
  | .items, s => s.nand.items
  | .series, s => (s.nand.requestSeq, s.nand.stageSeq, s.nand.ingestSeq)
  | .records, s => (s.nand.sealedVals, s.nand.keyUp, s.nand.shots, s.nand.cals, s.nand.archive, s.nand.booked, s.nand.energies,
      s.nand.deferred, s.nand.brought, s.nand.balanceMin, s.nand.balanceOld, s.nand.balanceFrom, s.nand.day)

/-- A record update leaves every part none of whose fields it changes. -/
theorem Part.of_update (p : Part) (s : State) (free' : Nat) (cat' : Tab Int) (inForce' : Tab Int) (stores' : List PStore) (time' :
    Calliope) (bat' : Battery) (pins' : Pins) (pw' : Power) (hif' : HostIf) (ports' : List Port) (sessions' : Tab Session) (cask' :
    Casket) (mem' : Memory) (fw' : Firmware) (hall' : Hallmark) (gate' : Gate) (pat' : Patina) (loc' : Locket) (freeze' : Option Freeze)
    (frames' : List Frame) (nextFrame' : Nat) (win' : Window) (storms' : List StormKey) (unknown' : List (Native × Nat × Nat × Nat))
    (relayed' : Tab (Nat × Nat × Nat)) (cascades' : Tab Cascade) (cascadeOut' : List CascadeMsg) (cascadeIn' : List CascadeMsg) (car' :
    Carousel) (dl' : Downlink) (lanes' : List Lane) (votes' : Tab (Nat × Nat)) (parked' : List Parked) (upHold' : Option (List (Nat ×
    UpRec × Nat))) (nand' : Nand) (nandProg' : Nand)
    (h : (p = .free → free' = s.free) ∧
      (p = .cat → cat' = s.cat) ∧
      (p = .inForce → inForce' = s.inForce) ∧
      (p = .stores → stores' = s.stores) ∧
      (p = .bat → bat' = s.bat) ∧
      (p = .pins → pins' = s.pins) ∧
      (p = .pw → pw' = s.pw) ∧
      (p = .hif → hif' = s.hif) ∧
      (p = .ports → ports' = s.ports) ∧
      (p = .sessions → sessions' = s.sessions) ∧
      (p = .cask → cask' = s.cask) ∧
      (p = .fw → fw' = s.fw) ∧
      (p = .hall → hall' = s.hall) ∧
      (p = .gate → gate' = s.gate) ∧
      (p = .pat → pat' = s.pat) ∧
      (p = .loc → loc' = s.loc) ∧
      (p = .freeze → freeze' = s.freeze) ∧
      (p = .frames → frames' = s.frames) ∧
      (p = .nextFrame → nextFrame' = s.nextFrame) ∧
      (p = .win → win' = s.win) ∧
      (p = .storms → storms' = s.storms) ∧
      (p = .unknown → unknown' = s.unknown) ∧
      (p = .relayed → relayed' = s.relayed) ∧
      (p = .cascades → cascades' = s.cascades) ∧
      (p = .cascadeOut → cascadeOut' = s.cascadeOut) ∧
      (p = .cascadeIn → cascadeIn' = s.cascadeIn) ∧
      (p = .car → car' = s.car) ∧
      (p = .dl → dl' = s.dl) ∧
      (p = .lanes → lanes' = s.lanes) ∧
      (p = .votes → votes' = s.votes) ∧
      (p = .parked → parked' = s.parked) ∧
      (p = .upHold → upHold' = s.upHold) ∧
      (p = .nandProg → nandProg' = s.nandProg) ∧
      (p = .counter → time'.sec = s.time.sec ∧ time'.ns = s.time.ns ∧ time'.frac = s.time.frac) ∧
      (p = .increment → time'.incr = s.time.incr ∧ time'.incrFrac = s.time.incrFrac ∧ time'.incrInt = s.time.incrInt ∧ time'.incrClamped
          = s.time.incrClamped) ∧
      (p = .clockwork → time'.stepLo = s.time.stepLo ∧ time'.stepHi = s.time.stepHi ∧ time'.step = s.time.step ∧ time'.short =
          s.time.short ∧ time'.qtr = s.time.qtr ∧ time'.snap = s.time.snap ∧ time'.tsq = s.time.tsq ∧ time'.lag = s.time.lag ∧ time'.ptp
          = s.time.ptp ∧ time'.ppsEdges = s.time.ppsEdges ∧ time'.ppsLast = s.time.ppsLast ∧ time'.ppsShort = s.time.ppsShort ∧
          time'.secondsKnown = s.time.secondsKnown ∧ time'.lockSince = s.time.lockSince ∧ time'.holdoverSince = s.time.holdoverSince ∧
          time'.locked = s.time.locked ∧ time'.beatBit = s.time.beatBit ∧ time'.beatAt = s.time.beatAt ∧ time'.subMs = s.time.subMs) ∧
      (p = .lines → mem'.lines = s.mem.lines ∧ mem'.poisoned = s.mem.poisoned) ∧
      (p = .queues → mem'.queues = s.mem.queues) ∧
      (p = .memory → mem'.banks = s.mem.banks ∧ mem'.stalled = s.mem.stalled ∧ mem'.caravan = s.mem.caravan ∧ mem'.turns = s.mem.turns) ∧
      (p = .logs → nand'.logs = s.nand.logs ∧ nand'.hold = s.nand.hold) ∧
      (p = .anchors → nand'.anchors = s.nand.anchors ∧ nand'.legalSlots = s.nand.legalSlots) ∧
      (p = .user → nand'.user = s.nand.user) ∧
      (p = .uplinks → nand'.open_ = s.nand.open_ ∧ nand'.retained = s.nand.retained) ∧
      (p = .recs → nand'.recs = s.nand.recs) ∧
      (p = .hash → nand'.hash = s.nand.hash) ∧
      (p = .blobs → nand'.blobs = s.nand.blobs) ∧
      (p = .bills → nand'.bills = s.nand.bills) ∧
      (p = .spans → nand'.spans = s.nand.spans) ∧
      (p = .nodes → nand'.nodes = s.nand.nodes) ∧
      (p = .ingest → nand'.ingest = s.nand.ingest) ∧
      (p = .forward → nand'.forward = s.nand.forward) ∧
      (p = .withheld → nand'.withheld = s.nand.withheld) ∧
      (p = .items → nand'.items = s.nand.items) ∧
      (p = .series → nand'.requestSeq = s.nand.requestSeq ∧ nand'.stageSeq = s.nand.stageSeq ∧ nand'.ingestSeq = s.nand.ingestSeq) ∧
      (p = .records → nand'.sealedVals = s.nand.sealedVals ∧ nand'.keyUp = s.nand.keyUp ∧ nand'.shots = s.nand.shots ∧ nand'.cals =
          s.nand.cals ∧ nand'.archive = s.nand.archive ∧ nand'.booked = s.nand.booked ∧ nand'.energies = s.nand.energies ∧ nand'.deferred
          = s.nand.deferred ∧ nand'.brought = s.nand.brought ∧ nand'.balanceMin = s.nand.balanceMin ∧ nand'.balanceOld =
          s.nand.balanceOld ∧ nand'.balanceFrom = s.nand.balanceFrom ∧ nand'.day = s.nand.day)) :
    p.of (State.mk s.pending free' cat' inForce' stores' time' bat' pins' pw' hif' ports' sessions' cask' mem' fw' hall' gate' pat' loc'
        freeze' frames' nextFrame' win' storms' unknown' relayed' cascades' cascadeOut' cascadeIn' car' dl' lanes' votes' parked' upHold'
        nand' nandProg') = p.of s := by
  cases p <;> simp_all [Part.of]
end Sys2Proof.Machine

namespace Sys2Proof.Machine

set_option Elab.async false
/-- Setting one field leaves every part that it does not belong to. -/
theorem Part.of_set (p : Part) (s : State) :
    (∀ v, p ≠ .free → p.of { s with free := v } = p.of s) ∧
    (∀ v, p ≠ .cat → p.of { s with cat := v } = p.of s) ∧
    (∀ v, p ≠ .inForce → p.of { s with inForce := v } = p.of s) ∧
    (∀ v, p ≠ .stores → p.of { s with stores := v } = p.of s) ∧
    (∀ v, p ≠ .bat → p.of { s with bat := v } = p.of s) ∧
    (∀ v, p ≠ .pins → p.of { s with pins := v } = p.of s) ∧
    (∀ v, p ≠ .pw → p.of { s with pw := v } = p.of s) ∧
    (∀ v, p ≠ .hif → p.of { s with hif := v } = p.of s) ∧
    (∀ v, p ≠ .ports → p.of { s with ports := v } = p.of s) ∧
    (∀ v, p ≠ .sessions → p.of { s with sessions := v } = p.of s) ∧
    (∀ v, p ≠ .cask → p.of { s with cask := v } = p.of s) ∧
    (∀ v, p ≠ .fw → p.of { s with fw := v } = p.of s) ∧
    (∀ v, p ≠ .hall → p.of { s with hall := v } = p.of s) ∧
    (∀ v, p ≠ .gate → p.of { s with gate := v } = p.of s) ∧
    (∀ v, p ≠ .pat → p.of { s with pat := v } = p.of s) ∧
    (∀ v, p ≠ .loc → p.of { s with loc := v } = p.of s) ∧
    (∀ v, p ≠ .freeze → p.of { s with freeze := v } = p.of s) ∧
    (∀ v, p ≠ .frames → p.of { s with frames := v } = p.of s) ∧
    (∀ v, p ≠ .win → p.of { s with win := v } = p.of s) ∧
    (∀ v, p ≠ .storms → p.of { s with storms := v } = p.of s) ∧
    (∀ v, p ≠ .unknown → p.of { s with unknown := v } = p.of s) ∧
    (∀ v, p ≠ .relayed → p.of { s with relayed := v } = p.of s) ∧
    (∀ v, p ≠ .cascades → p.of { s with cascades := v } = p.of s) ∧
    (∀ v, p ≠ .cascadeOut → p.of { s with cascadeOut := v } = p.of s) ∧
    (∀ v, p ≠ .cascadeIn → p.of { s with cascadeIn := v } = p.of s) ∧
    (∀ v, p ≠ .car → p.of { s with car := v } = p.of s) ∧
    (∀ v, p ≠ .dl → p.of { s with dl := v } = p.of s) ∧
    (∀ v, p ≠ .lanes → p.of { s with lanes := v } = p.of s) ∧
    (∀ v, p ≠ .votes → p.of { s with votes := v } = p.of s) ∧
    (∀ v, p ≠ .parked → p.of { s with parked := v } = p.of s) ∧
    (∀ v, p ≠ .upHold → p.of { s with upHold := v } = p.of s) ∧
    (∀ v, p ≠ .nandProg → p.of { s with nandProg := v } = p.of s) := by
  cases p <;> simp [Part.of]

/-- Setting a field of what NAND holds leaves every other part. -/
theorem Part.of_setNand (p : Part) (s : State) :
    (∀ v, p ≠ .logs → p.of { s with nand.logs := v } = p.of s) ∧
    (∀ v, p ≠ .logs → p.of { s with nand.hold := v } = p.of s) ∧
    (∀ v, p ≠ .records → p.of { s with nand.sealedVals := v } = p.of s) ∧
    (∀ v, p ≠ .user → p.of { s with nand.user := v } = p.of s) ∧
    (∀ v, p ≠ .uplinks → p.of { s with nand.open_ := v } = p.of s) ∧
    (∀ v, p ≠ .uplinks → p.of { s with nand.retained := v } = p.of s) ∧
    (∀ v, p ≠ .recs → p.of { s with nand.recs := v } = p.of s) ∧
    (∀ v, p ≠ .hash → p.of { s with nand.hash := v } = p.of s) ∧
    (∀ v, p ≠ .blobs → p.of { s with nand.blobs := v } = p.of s) ∧
    (∀ v, p ≠ .records → p.of { s with nand.keyUp := v } = p.of s) ∧
    (∀ v, p ≠ .bills → p.of { s with nand.bills := v } = p.of s) ∧
    (∀ v, p ≠ .records → p.of { s with nand.shots := v } = p.of s) ∧
    (∀ v, p ≠ .records → p.of { s with nand.cals := v } = p.of s) ∧
    (∀ v, p ≠ .spans → p.of { s with nand.spans := v } = p.of s) ∧
    (∀ v, p ≠ .records → p.of { s with nand.archive := v } = p.of s) ∧
    (∀ v, p ≠ .records → p.of { s with nand.booked := v } = p.of s) ∧
    (∀ v, p ≠ .nodes → p.of { s with nand.nodes := v } = p.of s) ∧
    (∀ v, p ≠ .records → p.of { s with nand.energies := v } = p.of s) ∧
    (∀ v, p ≠ .records → p.of { s with nand.deferred := v } = p.of s) ∧
    (∀ v, p ≠ .ingest → p.of { s with nand.ingest := v } = p.of s) ∧
    (∀ v, p ≠ .forward → p.of { s with nand.forward := v } = p.of s) ∧
    (∀ v, p ≠ .records → p.of { s with nand.brought := v } = p.of s) ∧
    (∀ v, p ≠ .withheld → p.of { s with nand.withheld := v } = p.of s) ∧
    (∀ v, p ≠ .items → p.of { s with nand.items := v } = p.of s) ∧
    (∀ v, p ≠ .series → p.of { s with nand.requestSeq := v } = p.of s) ∧
    (∀ v, p ≠ .series → p.of { s with nand.ingestSeq := v } = p.of s) := by
  cases p <;> simp [Part.of]

/-- Setting a field of memory leaves every other part. -/
theorem Part.of_setMem (p : Part) (s : State) :
    (∀ v, p ≠ .lines → p.of { s with mem.poisoned := v } = p.of s) ∧
    (∀ v, p ≠ .memory → p.of { s with mem.banks := v } = p.of s) ∧
    (∀ v, p ≠ .memory → p.of { s with mem.stalled := v } = p.of s) ∧
    (∀ v, p ≠ .memory → p.of { s with mem.caravan := v } = p.of s) ∧
    (∀ v, p ≠ .queues → p.of { s with mem.queues := v } = p.of s) ∧
    (∀ v, p ≠ .memory → p.of { s with mem.turns := v } = p.of s) := by
  cases p <;> simp [Part.of]

/-- Setting a field of Calliope leaves every other part. -/
theorem Part.of_setTime (p : Part) (s : State) :
    (∀ v, p ≠ .increment → p.of { s with time.incrFrac := v } = p.of s) ∧
    (∀ v, p ≠ .increment → p.of { s with time.incrClamped := v } = p.of s) ∧
    (∀ v, p ≠ .clockwork → p.of { s with time.stepLo := v } = p.of s) ∧
    (∀ v, p ≠ .clockwork → p.of { s with time.step := v } = p.of s) ∧
    (∀ v, p ≠ .clockwork → p.of { s with time.snap := v } = p.of s) ∧
    (∀ v, p ≠ .clockwork → p.of { s with time.tsq := v } = p.of s) ∧
    (∀ v, p ≠ .clockwork → p.of { s with time.lag := v } = p.of s) ∧
    (∀ v, p ≠ .clockwork → p.of { s with time.ptp := v } = p.of s) ∧
    (∀ v, p ≠ .clockwork → p.of { s with time.ppsEdges := v } = p.of s) ∧
    (∀ v, p ≠ .clockwork → p.of { s with time.secondsKnown := v } = p.of s) ∧
    (∀ v, p ≠ .clockwork → p.of { s with time.lockSince := v } = p.of s) ∧
    (∀ v, p ≠ .clockwork → p.of { s with time.holdoverSince := v } = p.of s) ∧
    (∀ v, p ≠ .clockwork → p.of { s with time.locked := v } = p.of s) ∧
    (∀ v, p ≠ .clockwork → p.of { s with time.beatAt := v } = p.of s) := by
  cases p <;> simp [Part.of]
/-- A part of one of two states. -/
theorem Part.of_ite (p : Part) (c : Prop) [Decidable c] (a b : State) :
    p.of (if c then a else b) = if c then p.of a else p.of b := apply_ite p.of c a b

/-- A part of the state in one of two answers. -/
theorem Part.of_ite_snd {α : Type} (p : Part) (c : Prop) [Decidable c] (a b : α × State) :
    p.of (if c then a else b).2 = if c then p.of a.2 else p.of b.2 := apply_ite (fun x : α × State => p.of x.2) c a b

/-- A part of the state in an answer. -/
theorem Part.of_pair {α : Type} (p : Part) (a : α) (s : State) : p.of (a, s).2 = p.of s := rfl

/-- What every round of a fold leaves, the fold leaves. -/
theorem Part.of_foldl {α : Type} (p : Part) (f : State → α → State) (l : List α) (s : State) (h : ∀ s x, p.of (f s x) = p.of s) :
    p.of (l.foldl f s) = p.of s := by
  induction l generalizing s with
  | nil => rfl
  | cons a t ih => exact (ih _).trans (h s a)

/-- The same of a fold over an answer and a state. -/
theorem Part.of_foldl_snd {α β : Type} (p : Part) (f : β × State → α → β × State) (l : List α) (a : β × State)
    (h : ∀ a x, p.of (f a x).2 = p.of a.2) : p.of (l.foldl f a).2 = p.of a.2 := by
  induction l generalizing a with
  | nil => rfl
  | cons x t ih => exact (ih _).trans (h a x)

/-- What an operation leaves where it applies, it leaves. -/
theorem Part.of_getD {p : Part} {s : State} {o : Option State} (h : ∀ u, o = some u → p.of u = p.of s) :
    p.of (o.getD s) = p.of s := by
  cases o with
  | none => rfl
  | some u => exact h u rfl

/-- Being outside a list of parts, one part at a time. -/
theorem Part.outside (p q : Part) (l : List Part) : (p ∉ ([] : List Part) ↔ True) ∧ (p ∉ q :: l ↔ ¬p = q ∧ p ∉ l) := by simp
end Sys2Proof.Machine

namespace Sys2Proof.Machine

set_option Elab.async false
/-! ### Ops -/

theorem State.set_frame {p : Part} (s : State) (k : Nat) (v : Int) (h : p ∉ [Part.cat]) : p.of (s.set k v) = p.of s := by
  simp only [Part.outside] at h
  simp only [State.set, ↓Part.of_set, h, not_false_eq_true, ne_eq]

theorem State.draw_frame {p : Part} (s : State) (h : p ∉ [Part.free]) : p.of s.draw.2 = p.of s := by
  simp only [Part.outside] at h
  simp only [State.draw, ↓Part.of_set, h, not_false_eq_true, ne_eq]

theorem State.bumpBy_frame {p : Part} (s : State) (k n : Nat) (h : p ∉ [Part.free, .cat]) : p.of (s.bumpBy k n) = p.of s := by
  simp only [Part.outside] at h
  simp only [State.bumpBy, ↓Part.of_ite, ↓State.set_frame, ↓State.draw_frame, Part.outside, h, not_false_eq_true, and_self, ite_self]

theorem State.countUp_frame {p : Part} (s : State) (n : Nat) (h : p ∉ [Part.free]) : p.of (s.countUp n).2 = p.of s := by
  simp only [Part.outside] at h
  simp only [State.countUp, ↓State.draw_frame, Part.outside, h, not_false_eq_true, and_self, ite_self, ↓Part.of_ite_snd, ↓Part.of_pair]

theorem State.bump_frame {p : Part} (s : State) (k : Nat) (h : p ∉ [Part.free, .cat]) : p.of (s.bump k) = p.of s := by
  simp only [Part.outside] at h
  simp only [State.bump, ↓State.bumpBy_frame, Part.outside, h, not_false_eq_true, and_self]

theorem State.msi_frame {p : Part} (s : State) (n : Nat) (h : p ∉ [Part.hif]) : p.of (s.msi n) = p.of s := by
  simp only [Part.outside] at h
  simp only [State.msi, ↓Part.of_ite, ↓Part.of_set, h, not_false_eq_true, ite_self, ne_eq]

theorem State.raise_frame {p : Part} (s : State) (n : Nat) (h : p ∉ [Part.hif]) : p.of (s.raise n) = p.of s := by
  simp only [Part.outside] at h
  simp only [State.raise, ↓Part.of_ite, ↓Part.of_set, ↓State.msi_frame, Part.outside, h, not_false_eq_true, and_self, ite_self, ne_eq]

theorem State.modHq_frame {p : Part} (s : State) (q : Nat) (f : HostQueue → HostQueue) (h : p ∉ [Part.hif]) : p.of (s.modHq q f) = p.of s
    := by
  simp only [Part.outside] at h
  simp only [State.modHq, ↓Part.of_set, h, not_false_eq_true, ne_eq]

theorem State.hqSignal_frame {p : Part} (s : State) (q : Nat) (h : p ∉ [Part.hif]) : p.of (s.hqSignal q) = p.of s := by
  simp only [Part.outside] at h
  unfold State.hqSignal
  split <;> simp only [↓Part.of_ite, ↓State.raise_frame, ↓State.modHq_frame, Part.outside, h, not_false_eq_true, and_self, ite_self,
      ne_eq]

theorem State.hqCompleteAt_frame {p : Part} (s : State) (stamp q : Nat) (n len : Nat) (cls word : Nat) (status extra data : Nat) (h : p ∉
    [Part.free, .cat, .hif]) : p.of (s.hqCompleteAt stamp q n len cls word status extra data) = p.of s := by
  simp only [Part.outside] at h
  unfold State.hqCompleteAt
  split <;> simp only [↓State.modHq_frame, ↓State.hqSignal_frame, ↓State.bumpBy_frame, Part.outside, h, not_false_eq_true, and_self]

theorem State.hqComplete_frame {p : Part} (s : State) (q n : Nat) (len cls : Nat) (word status : Nat) (extra data : Nat) (h : p ∉
    [Part.free, .cat, .hif]) : p.of (s.hqComplete q n len cls word status extra data) = p.of s := by
  simp only [Part.outside] at h
  simp only [State.hqComplete, ↓State.hqCompleteAt_frame, Part.outside, h, not_false_eq_true, and_self]

theorem State.hqStarve_frame {p : Part} (s : State) (q : Nat) (h : p ∉ [Part.free, .cat, .hif]) : p.of (s.hqStarve q) = p.of s := by
  simp only [Part.outside] at h
  simp only [State.hqStarve, ↓State.raise_frame, ↓State.bump_frame, ↓State.modHq_frame, Part.outside, h, not_false_eq_true, and_self]

theorem State.commitPaired_frame {p : Part} (s : State) (changes : List (Nat × Int)) (h : p ∉ [Part.free, .cat,
    .stores]) : p.of (s.commitPaired changes) = p.of s := by
  simp only [Part.outside] at h
  simp only [State.commitPaired, ↓Part.of_ite, ↓Part.of_update, ↓State.bumpBy_frame, Part.outside, h, not_false_eq_true, and_self,
      ite_self, implies_true, IsEmpty.forall_iff]

theorem State.setPaired_frame {p : Part} (s : State) (k : Nat) (v : Int) (h : p ∉ [Part.free, .cat,
    .stores]) : p.of (s.setPaired k v) = p.of s := by
  simp only [Part.outside] at h
  simp only [State.setPaired, ↓State.commitPaired_frame, Part.outside, h, not_false_eq_true, and_self]

theorem State.setSealed_frame {p : Part} (s : State) (k : Nat) (v : Int) (h : p ∉ [Part.cat,
    .records]) : p.of (s.setSealed k v) = p.of s := by
  simp only [Part.outside] at h
  simp only [State.setSealed, ↓Part.of_setNand, ↓State.set_frame, Part.outside, h, not_false_eq_true, and_self, ne_eq]

theorem State.modLog_frame {p : Part} (s : State) (l : Nat) (f : EvLog → EvLog) (h : p ∉ [Part.logs]) : p.of (s.modLog l f) = p.of s := by
  simp only [Part.outside] at h
  simp only [State.modLog, ↓Part.of_setNand, h, not_false_eq_true, ne_eq]

theorem State.timeField_frame {p : Part} (s : State) (h : p ∉ [Part.cat]) : p.of s.timeField.2 = p.of s := by
  simp only [Part.outside] at h
  simp only [State.timeField, ↓State.set_frame, Part.outside, h, not_false_eq_true, and_self, ite_self, ↓Part.of_ite_snd, ↓Part.of_pair]

theorem State.newRec_frame {p : Part} (s : State) (log code : Nat) (tenant payload pos : Nat) (ring rtc : Bool) (tai : Nat) (h : p ∉
    [Part.cat]) : p.of (s.newRec log code tenant payload pos ring rtc tai).2 = p.of s := by
  simp only [Part.outside] at h
  simp only [State.newRec, ↓State.timeField_frame, Part.outside, h, not_false_eq_true, and_self]

theorem State.fold_frame {p : Part} (s : State) (r : EvRec) (h : p ∉ [Part.free, .cat]) : p.of (s.fold r).2 = p.of s := by
  simp only [Part.outside] at h
  simp only [State.fold, ↓State.bump_frame, Part.outside, h, not_false_eq_true, and_self, ite_self, ↓Part.of_ite_snd, ↓Part.of_pair]

theorem State.pumpLogTo_frame {p : Part} (s : State) (q log : Nat) (h : p ∉ [Part.free, .cat,
    .hif]) : p.of (s.pumpLogTo q log) = p.of s := by
  simp only [Part.outside] at h
  simp only [State.pumpLogTo]
  (repeat' split) <;> simp only [↓Part.of_set, ↓State.hqStarve_frame, ↓State.modHq_frame, ↓State.hqComplete_frame, Part.outside, h,
      not_false_eq_true, and_self, ne_eq]

theorem State.pumpLog_frame {p : Part} (s : State) (log : Nat) (h : p ∉ [Part.free, .cat, .hif]) : p.of (s.pumpLog log) = p.of s := by
  simp only [Part.outside] at h
  simp only [State.pumpLog, ↓State.pumpLogTo_frame, Part.outside, h, not_false_eq_true, and_self, ↓Part.of_foldl, implies_true]

theorem State.logChanged_frame {p : Part} (s : State) (h : p ∉ [Part.hif]) : p.of s.logChanged = p.of s := by
  simp only [Part.outside] at h
  simp only [State.logChanged, ↓Part.of_ite, ↓Part.of_set, ↓State.raise_frame, Part.outside, h, not_false_eq_true, and_self, ite_self,
      ne_eq]

theorem State.storeOther_frame {p : Part} (s : State) (log code : Nat) (tenant payload : Nat) (rtc : Bool) (tai : Nat) (h : p ∉
    [Part.free, .cat, .hif, .logs]) : p.of (s.storeOther log code tenant payload rtc tai) = p.of s := by
  simp only [Part.outside] at h
  simp only [State.storeOther, ↓State.pumpLog_frame, Part.outside, h, not_false_eq_true, and_self]
  (repeat' split) <;> simp only [↓State.newRec_frame, ↓State.modLog_frame, ↓State.bump_frame, ↓State.fold_frame, Part.outside, h,
      not_false_eq_true, and_self]

theorem State.logAt_frame {p : Part} (s : State) (log code : Nat) (tenant payload : Nat) (rtc : Bool) (tai : Nat) (h : p ∉ [Part.free,
    .cat, .hif, .logs]) : p.of (s.logAt log code tenant payload rtc tai) = p.of s := by
  simp only [Part.outside] at h
  unfold State.logAt
  split <;> simp only [↓State.storeOther_frame, ↓State.bump_frame, Part.outside, h, not_false_eq_true, and_self]

theorem State.logSec_frame {p : Part} (s : State) (code tenant payload : Nat) (h : p ∉ [Part.free, .cat, .hif,
    .logs]) : p.of (s.logSec code tenant payload) = p.of s := by
  simp only [Part.outside] at h
  simp only [State.logSec, ↓State.logAt_frame, Part.outside, h, not_false_eq_true, and_self]

theorem State.logOp_frame {p : Part} (s : State) (code tenant payload : Nat) (h : p ∉ [Part.free, .cat, .hif,
    .logs]) : p.of (s.logOp code tenant payload) = p.of s := by
  simp only [Part.outside] at h
  simp only [State.logOp, ↓State.logAt_frame, Part.outside, h, not_false_eq_true, and_self]

theorem State.logDiag_frame {p : Part} (s : State) (code tenant payload : Nat) (h : p ∉ [Part.free, .cat, .hif,
    .logs]) : p.of (s.logDiag code tenant payload) = p.of s := by
  simp only [Part.outside] at h
  simp only [State.logDiag, ↓State.logAt_frame, Part.outside, h, not_false_eq_true, and_self]

theorem State.logOpFree_frame {p : Part} (s : State) (event payload : Nat) (h : p ∉ [Part.free, .cat, .hif,
    .logs]) : p.of (s.logOpFree event payload) = p.of s := by
  simp only [Part.outside] at h
  simp only [State.logOpFree, ↓State.logOp_frame, Part.outside, h, not_false_eq_true, and_self]

theorem State.logDiagFree_frame {p : Part} (s : State) (event payload : Nat) (h : p ∉ [Part.free, .cat, .hif,
    .logs]) : p.of (s.logDiagFree event payload) = p.of s := by
  simp only [Part.outside] at h
  simp only [State.logDiagFree, ↓State.logDiag_frame, Part.outside, h, not_false_eq_true, and_self]

theorem State.endFreeze_frame {p : Part} (s : State) (h : p ∉ [Part.free, .cat, .hif, .freeze, .logs]) : p.of s.endFreeze = p.of s := by
  simp only [Part.outside] at h
  simp only [State.endFreeze, ↓Part.of_update, ↓State.pumpLog_frame, ↓State.modLog_frame, Part.outside, h, not_false_eq_true, and_self,
      implies_true, true_and, IsEmpty.forall_iff]

theorem State.breakFreeze_frame {p : Part} (s : State) (h : p ∉ [Part.free, .cat, .hif, .freeze,
    .logs]) : p.of s.breakFreeze = p.of s := by
  simp only [Part.outside] at h
  simp only [State.breakFreeze, ↓Part.of_ite, ↓Part.of_set, ↓State.endFreeze_frame, ↓State.logChanged_frame, ↓State.logOpFree_frame,
      ↓State.bump_frame, Part.outside, h, not_false_eq_true, and_self, ite_self, ne_eq]

theorem State.storageAlarm_frame {p : Part} (s : State) (h : p ∉ [Part.free, .cat, .stores, .bat]) : p.of s.storageAlarm = p.of s := by
  simp only [Part.outside] at h
  simp only [State.storageAlarm, ↓Part.of_ite, ↓Part.of_set, ↓State.setPaired_frame, Part.outside, h, not_false_eq_true, and_self,
      ite_self, ne_eq]

theorem State.ringLegal_frame {p : Part} (s : State) (code tenant payload : Nat) (rtc : Bool) (tai : Nat) (h : p ∉ [Part.free, .cat,
    .stores, .bat, .logs]) : p.of (s.ringLegal code tenant payload rtc tai) = p.of s := by
  simp only [Part.outside] at h
  unfold State.ringLegal
  split <;> simp only [↓Part.of_ite, ↓Part.of_set, ↓State.fold_frame, ↓State.newRec_frame, ↓State.modLog_frame,
      ↓State.storageAlarm_frame, Part.outside, h, not_false_eq_true, and_self, ite_self, ne_eq]

theorem State.appendLegal_frame {p : Part} (s : State) (code tenant payload : Nat) (rtc : Bool) (tai : Nat) (h : p ∉ [Part.free, .cat,
    .logs]) : p.of (s.appendLegal code tenant payload rtc tai) = p.of s := by
  simp only [Part.outside] at h
  simp only [State.appendLegal]
  (repeat' split) <;> simp only [↓State.newRec_frame, ↓State.modLog_frame, ↓State.fold_frame, Part.outside, h, not_false_eq_true,
      and_self]

theorem State.takeReserve_frame {p : Part} (s : State) (h : p ∉ [Part.cat, .cask]) : p.of s.takeReserve.2 = p.of s := by
  simp only [Part.outside] at h
  simp only [State.takeReserve, ↓Part.of_set, ↓State.set_frame, Part.outside, h, not_false_eq_true, and_self, ite_self, ne_eq,
      ↓Part.of_ite_snd, ↓Part.of_pair]

theorem State.holdLegal_frame {p : Part} (s : State) (code tenant payload : Nat) (rtc : Bool) (tai : Nat) (h : p ∉ [Part.free, .cat,
    .hif, .logs]) : p.of (s.holdLegal code tenant payload rtc tai) = p.of s := by
  simp only [Part.outside] at h
  unfold State.holdLegal
  split <;> simp only [↓Part.of_ite, ↓Part.of_setNand, ↓State.newRec_frame, ↓State.modLog_frame, ↓State.logChanged_frame,
      ↓State.fold_frame, Part.outside, h, not_false_eq_true, and_self, ite_self, ne_eq]

theorem State.legalAt_frame {p : Part} (s : State) (code tenant payload : Nat) (rtc : Bool) (tai : Nat) (h : p ∉ [Part.free, .cat,
    .stores, .bat, .hif, .cask, .freeze, .logs]) : p.of (s.legalAt code tenant payload rtc tai) = p.of s := by
  have g := h
  simp only [Part.outside] at g
  have h0 : p.of (if s.freeze.isSome && Nat.ble 4096 s.nand.hold.length then s.breakFreeze else s) = p.of s := by
    simp only [↓Part.of_ite, ↓State.breakFreeze_frame, Part.outside, g, not_false_eq_true, and_self, ite_self]
  unfold State.legalAt
  generalize (if s.freeze.isSome && Nat.ble 4096 s.nand.hold.length then s.breakFreeze else s) = u at h0
  rw [← h0]
  have h1 : p.of u.takeReserve.2 = p.of u := by
    simp only [↓State.takeReserve_frame, Part.outside, g, not_false_eq_true, and_self]
  dsimp only
  generalize u.takeReserve = w at h1 ⊢
  obtain ⟨b, t⟩ := w
  cases b <;> (repeat' split) <;>
    simp_all only [↓State.holdLegal_frame, ↓State.appendLegal_frame, ↓State.pumpLog_frame, ↓State.ringLegal_frame, Part.outside,
        not_false_eq_true, and_self, reduceCtorEq, Prod.mk.injEq, false_and]

theorem State.logLegal_frame {p : Part} (s : State) (code tenant payload : Nat) (h : p ∉ [Part.free, .cat, .stores, .bat, .hif, .cask,
    .freeze, .logs]) : p.of (s.logLegal code tenant payload) = p.of s := by
  simp only [Part.outside] at h
  simp only [State.logLegal, ↓State.legalAt_frame, Part.outside, h, not_false_eq_true, and_self]

theorem State.closeBatch_frame {p : Part} (s : State) (t : Nat) (h : p ∉ [Part.hif, .uplinks]) : p.of (s.closeBatch t) = p.of s := by
  simp only [Part.outside] at h
  unfold State.closeBatch
  (repeat' split) <;> simp only [↓Part.of_update, h, and_self, implies_true, IsEmpty.forall_iff]

theorem State.uplinkNow_frame {p : Part} (s : State) (t : Nat) (r : UpRec) (journal : Nat) (h : p ∉ [Part.hif,
    .uplinks]) : p.of (s.uplinkNow t r journal) = p.of s := by
  simp only [Part.outside] at h
  unfold State.uplinkNow
  (repeat' split) <;> simp only [↓Part.of_setNand, ↓State.closeBatch_frame, Part.outside, h, not_false_eq_true, and_self, ne_eq]

theorem State.uplink_frame {p : Part} (s : State) (t : Nat) (r : UpRec) (journal : Nat) (h : p ∉ [Part.hif, .upHold,
    .uplinks]) : p.of (s.uplink t r journal) = p.of s := by
  simp only [Part.outside] at h
  unfold State.uplink
  (repeat' split) <;> simp only [↓Part.of_set, ↓State.uplinkNow_frame, Part.outside, h, not_false_eq_true, and_self, ne_eq]

theorem State.notice_frame {p : Part} (s : State) (t kind : Nat) (code rest : Nat) (h : p ∉ [Part.hif, .upHold,
    .uplinks]) : p.of (s.notice t kind code rest) = p.of s := by
  simp only [Part.outside] at h
  simp only [State.notice, ↓State.uplink_frame, Part.outside, h, not_false_eq_true, and_self]

theorem State.noticeAll_frame {p : Part} (s : State) (kind code rest : Nat) (h : p ∉ [Part.hif, .upHold,
    .uplinks]) : p.of (s.noticeAll kind code rest) = p.of s := by
  simp only [Part.outside] at h
  simp only [State.noticeAll, ↓State.notice_frame, Part.outside, h, not_false_eq_true, and_self, ↓Part.of_foldl, implies_true]

theorem State.commit_frame {p : Part} (s : State) (n k : Nat) (h : p ∉ [Part.cask]) : p.of (s.commit n k) = p.of s := by
  simp only [Part.outside] at h
  simp only [State.commit, ↓Part.of_set, h, not_false_eq_true, ne_eq]

/-! ### Operands -/

theorem State.openSession_frame {p : Part} (s : State) (n role tenant : Nat) (h : p ∉ [Part.sessions]) : p.of (s.openSession n role
    tenant) = p.of s := by
  simp only [Part.outside] at h
  simp only [State.openSession, ↓Part.of_set, h, not_false_eq_true, ne_eq]

theorem State.respond_frame {p : Part} (s : State) (sess : Nat) (r : Resp) (keep : Bool) (h : p ∉ [Part.free, .cat, .hif,
    .sessions]) : p.of (s.respond sess r keep) = p.of s := by
  simp only [Part.outside] at h
  unfold State.respond
  split <;> simp only [↓Part.of_ite, ↓Part.of_set, ↓State.bump_frame, ↓State.openSession_frame, ↓State.raise_frame, Part.outside, h,
      not_false_eq_true, and_self, ite_self, ne_eq]

theorem State.capRun_frame {p : Part} (s : State) (r : CapReq) (kind index sub : Nat) (allow : Session → Bool) (body : Session → State →
    Option CapOut × State) (h : p ∉ [Part.free, .cat, .hif, .sessions]) (hb : ∀ ses t,
    p.of (body ses t).2 = p.of t) : p.of (s.capRun r kind index sub allow body) = p.of s := by
  simp only [Part.outside] at h
  unfold State.capRun
  split
  · rfl
  · simp only [↓Part.of_ite]
    split
    · rfl
    · split
      · simp only [↓State.respond_frame, ↓Part.of_set, ↓State.bump_frame, Part.outside, h, not_false_eq_true, and_self, ne_eq]
      · split
        · simp only [↓State.respond_frame, ↓Part.of_set, ↓State.bump_frame, Part.outside, h, not_false_eq_true, and_self, ne_eq]
        · split
          · simp only [↓State.respond_frame, ↓Part.of_set, ↓State.bump_frame, Part.outside, h, not_false_eq_true, and_self, ne_eq]
          · split <;> rename_i e <;> have k := hb _ _ ▸ congrArg (fun x : Option CapOut × State => p.of x.2) e
            all_goals simp only [↓Part.of_set, ↓State.bump_frame, Part.outside, h, not_false_eq_true, and_self, ne_eq] at k
            all_goals simp only [↓State.respond_frame, Part.outside, h, not_false_eq_true, and_self, k]

theorem State.capExec_frame {p : Part} (s : State) (r : CapReq) (k : Nat) (body : Session → State → CapOut × State) (h : p ∉ [Part.free,
    .cat, .hif, .sessions]) (hb : ∀ ses t, p.of (body ses t).2 = p.of t) : p.of (s.capExec r k body) = p.of s := by
  have g := h
  simp only [Part.outside] at g
  unfold State.capExec
  refine State.capRun_frame _ _ _ _ _ _ _ h fun ses t => ?_
  simp only [hb, ↓Part.of_set, g, ne_eq, not_false_eq_true]

theorem State.capOrdered_frame {p : Part} (s : State) (r : CapReq) (k : Nat) (tags : List Nat) (c : Instr) (body : Session → State →
    CapOut × State) (h : p ∉ [Part.free, .cat, .hif, .sessions, .parked]) (hb : ∀ ses t,
    p.of (body ses t).2 = p.of t) : p.of (s.capOrdered r k tags c body) = p.of s := by
  simp only [Part.outside] at h
  unfold State.capOrdered
  refine State.capRun_frame _ _ _ _ _ _ _ (by simp only [Part.outside, h, not_false_eq_true, and_self]) fun ses t => ?_
  simp only [↓Part.of_ite_snd, ↓Part.of_pair, hb, ↓Part.of_set, h, ne_eq, not_false_eq_true, ite_self]

theorem State.finishOrdered_frame {p : Part} (s : State) (q : Parked) (k : Nat) (body : Session → State → CapOut × State) (h : p ∉
    [Part.free, .cat, .hif, .sessions]) (hb : ∀ ses t, p.of (body ses t).2 = p.of t) : p.of (s.finishOrdered q k body) = p.of s := by
  simp only [Part.outside] at h
  unfold State.finishOrdered
  simp only [↓State.respond_frame, hb, Part.outside, h, not_false_eq_true, and_self]

theorem State.mediaGate_frame {p : Part} (s : State) (body : State → CapOut × State) (h : p ∉ [Part.free,
    .cat]) (hb : p.of (body s).2 = p.of s) : p.of (s.mediaGate body).2 = p.of s := by
  simp only [Part.outside] at h
  unfold State.mediaGate
  simp only [↓Part.of_ite_snd, hb, ↓State.bump_frame, Part.outside, h, not_false_eq_true, and_self, ite_self]

/-! ### Bist -/

theorem State.clearCaravan_frame {p : Part} (s : State) (e : Nat) (h : p ∉ [Part.memory]) : p.of (s.clearCaravan e) = p.of s := by
  simp only [Part.outside] at h
  simp only [State.clearCaravan, ↓Part.of_setMem, h, not_false_eq_true, ne_eq]

theorem State.engineOut_frame {p : Part} (s : State) (e : Nat) (h : p ∉ [Part.free, .cat, .hif, .gate, .pat, .memory,
    .logs]) : p.of (s.engineOut e) = p.of s := by
  simp only [Part.outside] at h
  simp only [State.engineOut, ↓Part.of_ite, ↓Part.of_set, ↓State.clearCaravan_frame, ↓State.logDiagFree_frame, ↓State.bump_frame,
      Part.outside, h, not_false_eq_true, and_self, ite_self, ne_eq]

theorem State.engineFails_frame {p : Part} (s : State) (e : Nat) (h : p ∉ [Part.free, .cat, .hif, .gate, .pat, .memory,
    .logs]) : p.of (s.engineFails e) = p.of s := by
  simp only [Part.outside] at h
  simp only [State.engineFails, ↓Part.of_ite, ↓State.engineOut_frame, Part.outside, h, not_false_eq_true, and_self, ite_self]

theorem State.bistEnd_frame {p : Part} (s : State) (target result failingSet : Nat) (signatures : List Nat) (h : p ∉ [Part.free, .cat,
    .hif, .pat, .logs]) : p.of (s.bistEnd target result failingSet signatures) = p.of s := by
  simp only [Part.outside] at h
  simp only [State.bistEnd, ↓Part.of_ite, ↓Part.of_set, ↓State.logDiag_frame, ↓State.set_frame, ↓State.bump_frame, Part.outside, h,
      not_false_eq_true, and_self, ite_self, ne_eq]

theorem State.bistAbort_frame {p : Part} (s : State) (h : p ∉ [Part.free, .cat, .hif, .gate, .pat,
    .logs]) : p.of s.bistAbort = p.of s := by
  simp only [Part.outside] at h
  unfold State.bistAbort
  split <;> simp only [↓Part.of_ite, ↓Part.of_set, ↓State.bistEnd_frame, Part.outside, h, not_false_eq_true, and_self, ite_self, ne_eq]

/-! ### RegistryOps -/

theorem State.modRecord_frame {p : Part} (s : State) (tag : Nat) (f : Record → Record) (h : p ∉ [Part.recs]) : p.of (s.modRecord tag f) =
    p.of s := by
  simp only [Part.outside] at h
  simp only [State.modRecord, ↓Part.of_setNand, h, not_false_eq_true, ne_eq]

theorem State.badRecord_frame {p : Part} (s : State) (r : Record) (h : p ∉ [Part.free, .cat, .hif, .logs,
    .recs]) : p.of (s.badRecord r) = p.of s := by
  simp only [Part.outside] at h
  simp only [State.badRecord, ↓State.modRecord_frame, ↓State.logOp_frame, Part.outside, h, not_false_eq_true, and_self]

/-! ### Tariff -/

theorem State.modCal_frame {p : Part} (s : State) (c : Nat) (f : CalState → CalState) (h : p ∉ [Part.records]) : p.of (s.modCal c f) =
    p.of s := by
  simp only [Part.outside] at h
  simp only [State.modCal, ↓Part.of_setNand, h, not_false_eq_true, ne_eq]

/-! ### Items -/

theorem State.fitInt_frame {p : Part} (s : State) (n : Nat) (v : Int) (h : p ∉ [Part.free]) : p.of (s.fitInt n v).2 = p.of s := by
  simp only [Part.outside] at h
  simp only [State.fitInt, ↓State.draw_frame, Part.outside, h, not_false_eq_true, and_self, ite_self, ↓Part.of_ite_snd, ↓Part.of_pair]

theorem State.countItems_frame {p : Part} (s : State) (tag : Nat) (h : p ∉ [Part.cat, .recs]) : p.of (s.countItems tag) = p.of s := by
  simp only [Part.outside] at h
  simp only [State.countItems, ↓State.set_frame, ↓State.modRecord_frame, Part.outside, h, not_false_eq_true, and_self]

theorem State.stage_frame {p : Part} (s : State) (i : Item) (h : p ∉ [Part.cat, .cask, .recs, .items,
    .series]) : p.of (s.stage i).2 = p.of s := by
  simp only [Part.outside] at h
  simp only [State.stage, ↓Part.of_update, ↓State.commit_frame, ↓State.countItems_frame, Part.outside, h, not_false_eq_true, and_self,
      implies_true, true_and, and_true, IsEmpty.forall_iff]

theorem State.unstage_frame {p : Part} (s : State) (seq tag : Nat) (h : p ∉ [Part.cat, .recs,
    .items]) : p.of (s.unstage seq tag) = p.of s := by
  simp only [Part.outside] at h
  simp only [State.unstage, ↓Part.of_setNand, ↓State.countItems_frame, Part.outside, h, not_false_eq_true, and_self, ne_eq]

theorem State.switchOutcome_frame {p : Part} (s : State) (q : SwitchReq) (outcome : Nat) (h : p ∉ [Part.hif, .upHold,
    .uplinks]) : p.of (s.switchOutcome q outcome) = p.of s := by
  simp only [Part.outside] at h
  simp only [State.switchOutcome, ↓State.notice_frame, Part.outside, h, not_false_eq_true, and_self]

theorem State.clearTurnFlag_frame {p : Part} (s : State) (tag b : Nat) (h : p ∉ [Part.bills]) : p.of (s.clearTurnFlag tag b) = p.of s :=
    by
  simp only [Part.outside] at h
  simp only [State.clearTurnFlag, ↓Part.of_setNand, h, not_false_eq_true, ne_eq]

theorem State.endRequest_frame {p : Part} (s : State) (q : SwitchReq) (stage outcome : Nat) (h : p ∉ [Part.hif, .gate, .upHold, .uplinks,
    .bills]) : p.of (s.endRequest q stage outcome) = p.of s := by
  simp only [Part.outside] at h
  simp only [State.endRequest, ↓Part.of_ite, ↓Part.of_set, ↓State.clearTurnFlag_frame, ↓State.switchOutcome_frame, Part.outside, h,
      not_false_eq_true, and_self, ite_self, ne_eq]

theorem State.dropItem_frame {p : Part} (s : State) (i : Item) (outcome : Nat) (h : p ∉ [Part.free, .cat, .hif, .gate, .upHold, .logs,
    .uplinks, .recs, .bills, .items]) : p.of (s.dropItem i outcome) = p.of s := by
  simp only [Part.outside] at h
  unfold State.dropItem
  split <;> simp only [↓State.unstage_frame, ↓State.logOp_frame, ↓State.endRequest_frame, Part.outside, h, not_false_eq_true, and_self]

theorem State.withdrawRequests_frame {part : Part} (s : State) (unsent : Bool) (p : SwitchReq → Bool) (h : part ∉ [Part.free, .cat, .hif,
    .gate, .upHold, .logs, .uplinks, .recs, .bills, .items]) : part.of (s.withdrawRequests unsent p).2 = part.of s := by
  simp only [Part.outside] at h
  simp only [State.withdrawRequests, ↓Part.of_set, ↓State.endRequest_frame, ↓State.dropItem_frame, Part.outside, h, not_false_eq_true,
      and_self, ne_eq, ↓Part.of_foldl, implies_true]

theorem State.nextRequest_frame {p : Part} (s : State) (h : p ∉ [Part.series]) : p.of s.nextRequest.2 = p.of s := by
  simp only [Part.outside] at h
  simp only [State.nextRequest, ↓Part.of_setNand, h, not_false_eq_true, ne_eq]

theorem State.submit_frame {p : Part} (s : State) (q : SwitchReq) (h : p ∉ [Part.gate]) : p.of (s.submit q) = p.of s := by
  simp only [Part.outside] at h
  simp only [State.submit, ↓Part.of_ite, ↓Part.of_set, h, not_false_eq_true, ite_self, ne_eq]

theorem State.turnRequest_frame {p : Part} (s : State) (r : Record) (kind expiry : Nat) (h : p ∉ [Part.gate, .bills,
    .series]) : p.of (s.turnRequest r kind expiry) = p.of s := by
  simp only [Part.outside] at h
  simp only [State.turnRequest, ↓Part.of_setNand, ↓State.nextRequest_frame, ↓State.submit_frame, Part.outside, h, not_false_eq_true,
      and_self, ne_eq]

/-! ### Credit -/

theorem State.modBill_frame {p : Part} (s : State) (tag : Nat) (f : Bill → Bill) (h : p ∉ [Part.bills]) : p.of (s.modBill tag f) = p.of s
    := by
  simp only [Part.outside] at h
  simp only [State.modBill, ↓Part.of_setNand, h, not_false_eq_true, ne_eq]

theorem State.saturated_frame {p : Part} (s : State) (r : Record) (h : p ∉ [Part.free, .cat, .hif,
    .logs]) : p.of (s.saturated r) = p.of s := by
  simp only [Part.outside] at h
  simp only [State.saturated, ↓State.logOp_frame, Part.outside, h, not_false_eq_true, and_self]

theorem State.charge_frame {p : Part} (s : State) (r : Record) (q : Int) (h : p ∉ [Part.free, .cat, .hif, .logs,
    .bills]) : p.of (s.charge r q) = p.of s := by
  simp only [Part.outside] at h
  unfold State.charge
  split <;> simp only [↓Part.of_ite, ↓State.fitInt_frame, ↓State.modBill_frame, ↓State.saturated_frame, Part.outside, h,
      not_false_eq_true, and_self, ite_self]

theorem State.standing_frame {p : Part} (s : State) (r : Record) (x : Int) (h : p ∉ [Part.free, .cat, .hif, .logs,
    .bills]) : p.of (s.standing r x) = p.of s := by
  simp only [Part.outside] at h
  unfold State.standing
  split <;> simp only [↓Part.of_ite, ↓State.fitInt_frame, ↓State.modBill_frame, ↓State.saturated_frame, Part.outside, h,
      not_false_eq_true, and_self, ite_self]

theorem State.formReconnect_frame {p : Part} (s : State) (r : Record) (h : p ∉ [Part.gate, .bills,
    .series]) : p.of (s.formReconnect r) = p.of s := by
  simp only [Part.outside] at h
  simp only [State.formReconnect, ↓Part.of_ite, ↓State.turnRequest_frame, Part.outside, h, not_false_eq_true, and_self, ite_self]

theorem State.creditMove_frame {p : Part} (s : State) (r : Record) (old new at_ : Nat) (h : p ∉ [Part.free, .cat, .hif, .cask, .gate,
    .upHold, .logs, .uplinks, .recs, .bills, .items, .series]) : p.of (s.creditMove r old new at_) = p.of s := by
  simp only [Part.outside] at h
  simp only [State.creditMove]
  (repeat' split) <;> simp only [↓State.modBill_frame, ↓State.stage_frame, ↓State.notice_frame, ↓State.formReconnect_frame,
      ↓State.withdrawRequests_frame, ↓State.bumpBy_frame, Part.outside, h, not_false_eq_true, and_self]

theorem State.creditUpdate_frame {p : Part} (s : State) (r : Record) (at_ : Nat) (h : p ∉ [Part.free, .cat, .hif, .cask, .gate, .upHold,
    .logs, .uplinks, .recs, .bills, .items, .series]) : p.of (s.creditUpdate r at_) = p.of s := by
  simp only [Part.outside] at h
  unfold State.creditUpdate
  (repeat' split) <;> simp only [↓Part.of_ite, ↓State.modBill_frame, ↓State.creditMove_frame, Part.outside, h, not_false_eq_true,
      and_self, ite_self]

theorem State.disconnectTest_frame {p : Part} (s : State) (r : Record) (h : p ∉ [Part.free, .cat, .gate, .bills,
    .series]) : p.of (s.disconnectTest r) = p.of s := by
  simp only [Part.outside] at h
  unfold State.disconnectTest
  split <;> simp only [↓Part.of_ite, ↓State.bump_frame, ↓State.modBill_frame, ↓State.turnRequest_frame, Part.outside, h,
      not_false_eq_true, and_self, ite_self]

theorem State.acceptEmergency_frame {p : Part} (s : State) (r : Record) (h : p ∉ [Part.free, .cat, .hif, .cask, .gate, .upHold, .logs,
    .uplinks, .recs, .bills, .items, .series]) : p.of (s.acceptEmergency r) = p.of s := by
  simp only [Part.outside] at h
  unfold State.acceptEmergency
  split <;> simp only [↓Part.of_ite, ↓State.modBill_frame, ↓State.creditUpdate_frame, Part.outside, h, not_false_eq_true, and_self,
      ite_self]

theorem State.switchAcked_frame {p : Part} (s : State) (r : Record) (q : SwitchReq) (h : p ∉ [Part.free, .cat, .hif, .cask, .gate,
    .upHold, .logs, .uplinks, .recs, .bills, .items, .series]) : p.of (s.switchAcked r q) = p.of s := by
  simp only [Part.outside] at h
  unfold State.switchAcked
  split <;> simp only [↓Part.of_ite, ↓State.modBill_frame, ↓State.creditMove_frame, ↓State.formReconnect_frame, Part.outside, h,
      not_false_eq_true, and_self, ite_self]

/-! ### Booth -/

theorem State.demandAdd_frame {p : Part} (s : State) (tag start : Nat) (fin interval : Nat) (delta : Int) (h : p ∉ [Part.free, .cat,
    .bills]) : p.of (s.demandAdd tag start fin interval delta) = p.of s := by
  simp only [Part.outside] at h
  unfold State.demandAdd
  (repeat' split) <;> simp only [↓Part.of_ite, ↓State.bump_frame, ↓State.fitInt_frame, ↓State.modBill_frame, Part.outside, h,
      not_false_eq_true, and_self, ite_self, ne_eq]

theorem State.bookNow_frame {p : Part} (s : State) (r : Record) (w : Nat) (k : Booked) (h : p ∉ [Part.free, .cat, .stores, .bat, .hif,
    .cask, .gate, .freeze, .upHold, .logs, .uplinks, .recs, .bills, .items, .series]) : p.of (s.bookNow r w k) = p.of s := by
  simp only [Part.outside] at h
  unfold State.bookNow
  split <;> simp only [↓Part.of_ite, ↓State.fitInt_frame, ↓State.modBill_frame, ↓State.bump_frame, ↓State.logLegal_frame,
      ↓State.demandAdd_frame, ↓State.charge_frame, ↓State.disconnectTest_frame, ↓State.creditUpdate_frame, Part.outside, h,
      not_false_eq_true, and_self, ite_self]

theorem State.correct_frame {p : Part} (s : State) (r : Record) (w start : Nat) (x : Reading) (diff : Int) (h : p ∉ [Part.free, .cat,
    .stores, .bat, .hif, .cask, .gate, .freeze, .upHold, .logs, .uplinks, .recs, .bills, .items,
    .series]) : p.of (s.correct r w start x diff) = p.of s := by
  simp only [Part.outside] at h
  simp only [State.correct, ↓Part.of_ite]
  (repeat' split) <;> simp only [↓State.bookNow_frame, Part.outside, h, not_false_eq_true, and_self]

theorem State.closeSub_frame {p : Part} (s : State) (r : Record) (d : Boundary) (h : p ∉ [Part.bills]) : p.of (s.closeSub r d) = p.of s
    := by
  simp only [Part.outside] at h
  unfold State.closeSub
  split <;> simp only [↓Part.of_ite, ↓State.modBill_frame, Part.outside, h, not_false_eq_true, and_self, ite_self]

theorem State.beginSub_frame {p : Part} (s : State) (r : Record) (d : Boundary) (h : p ∉ [Part.free, .cat, .hif, .cask, .gate, .upHold,
    .logs, .uplinks, .recs, .bills, .items, .series]) : p.of (s.beginSub r d) = p.of s := by
  simp only [Part.outside] at h
  unfold State.beginSub
  split <;> simp only [↓Part.of_ite, ↓State.modBill_frame, ↓State.standing_frame, ↓State.creditUpdate_frame, Part.outside, h,
      not_false_eq_true, and_self, ite_self]

theorem State.shadow_frame {p : Part} (s : State) (r : Record) (ch rate time : Nat) (value : Int) (h : p ∉ [Part.free, .cat, .stores,
    .bat, .hif, .cask, .freeze, .logs, .bills]) : p.of (s.shadow r ch rate time value) = p.of s := by
  simp only [Part.outside] at h
  unfold State.shadow
  (repeat' split) <;> simp only [↓Part.of_ite, ↓State.modBill_frame, ↓State.logLegal_frame, ↓State.logOp_frame, ↓State.bump_frame,
      Part.outside, h, not_false_eq_true, and_self, ite_self]

/-! ### ScalesOps -/

theorem State.modEnergy_frame {p : Part} (s : State) (tag fin : Nat) (f : NodeEnergy → NodeEnergy) (h : p ∉ [Part.records]) : p.of
    (s.modEnergy tag fin f) = p.of s := by
  simp only [Part.outside] at h
  simp only [State.modEnergy, ↓Part.of_ite, ↓Part.of_setNand, h, not_false_eq_true, ite_self, ne_eq]

theorem State.scalesPut_frame {p : Part} (s : State) (r : Record) (x : Reading) (was now minutes : Int) (h : p ∉ [Part.free, .cat,
    .records]) : p.of (s.scalesPut r x was now minutes) = p.of s := by
  simp only [Part.outside] at h
  simp only [State.scalesPut, ↓Part.of_ite, ↓State.bump_frame, ↓State.modEnergy_frame, Part.outside, h, not_false_eq_true, and_self,
      ite_self]

theorem State.scalesEnter_frame {p : Part} (s : State) (r : Record) (x : Reading) (h : p ∉ [Part.free, .cat,
    .records]) : p.of (s.scalesEnter r x) = p.of s := by
  simp only [Part.outside] at h
  simp only [State.scalesEnter, ↓Part.of_ite, ↓State.bump_frame, ↓State.scalesPut_frame, Part.outside, h, not_false_eq_true, and_self,
      ite_self]

theorem State.scoreLower_frame {p : Part} (s : State) (tag score : Nat) (h : p ∉ [Part.recs]) : p.of (s.scoreLower tag score) = p.of s :=
    by
  simp only [Part.outside] at h
  simp only [State.scoreLower, ↓State.modRecord_frame, Part.outside, h, not_false_eq_true, and_self]

theorem State.decayScores_frame {p : Part} (s : State) (by_ : Nat) (h : p ∉ [Part.recs]) : p.of (s.decayScores by_) = p.of s := by
  simp only [Part.outside] at h
  simp only [State.decayScores, ↓State.scoreLower_frame, Part.outside, h, not_false_eq_true, and_self, ↓Part.of_foldl, implies_true]

theorem State.balanceMidnight_frame {p : Part} (s : State) (t : Nat) (h : p ∉ [Part.nodes,
    .records]) : p.of (s.balanceMidnight t) = p.of s := by
  simp only [Part.outside] at h
  simp only [State.balanceMidnight, ↓Part.of_ite, ↓Part.of_update, h, and_self, ite_self, implies_true, true_and, and_true,
      IsEmpty.forall_iff]

theorem State.taiMidnight_frame {p : Part} (s : State) (h : p ∉ [Part.cask, .recs, .nodes, .records]) : p.of s.taiMidnight = p.of s := by
  simp only [Part.outside] at h
  simp only [State.taiMidnight, ↓Part.of_ite, ↓Part.of_update, ↓State.commit_frame, ↓State.balanceMidnight_frame,
      ↓State.decayScores_frame, Part.outside, h, not_false_eq_true, and_self, ite_self, implies_true, true_and, IsEmpty.forall_iff]

theorem State.scoreAdd_frame {p : Part} (s : State) (tag points event : Nat) (h : p ∉ [Part.free, .cat, .hif, .cask, .upHold, .logs,
    .uplinks, .recs, .nodes, .records]) : p.of (s.scoreAdd tag points event) = p.of s := by
  simp only [Part.outside] at h
  simp only [State.scoreAdd]
  (repeat' split) <;> simp only [↓State.taiMidnight_frame, ↓State.modRecord_frame, ↓State.notice_frame, ↓State.bump_frame,
      ↓State.logOp_frame, Part.outside, h, not_false_eq_true, and_self]

/-! ### Assay -/

theorem State.store_frame {p : Part} (s : State) (x : Reading) (h : p ∉ [Part.records]) : p.of (s.store x) = p.of s := by
  simp only [Part.outside] at h
  simp only [State.store, ↓Part.of_setNand, h, not_false_eq_true, ne_eq]

theorem State.restate_frame {p : Part} (s : State) (r : Record) (w journal : Nat) (old : Reading) (new : Reading) (h : p ∉ [Part.free,
    .cat, .stores, .bat, .hif, .cask, .gate, .freeze, .upHold, .logs, .uplinks, .recs, .bills, .items, .series,
    .records]) : p.of (s.restate r w journal old new) = p.of s := by
  simp only [Part.outside] at h
  simp only [State.restate, ↓State.scalesPut_frame, Part.outside, h, not_false_eq_true, and_self]
  (repeat' split) <;> simp only [↓State.uplink_frame, ↓State.store_frame, ↓State.bump_frame, ↓State.correct_frame, Part.outside, h,
      not_false_eq_true, and_self]

theorem State.recompute_frame {p : Part} (s : State) (r : Record) (w journal : Nat) (key t : Nat) (h : p ∉ [Part.free, .cat, .stores,
    .bat, .hif, .cask, .gate, .freeze, .upHold, .logs, .uplinks, .recs, .bills, .items, .series,
    .records]) : p.of (s.recompute r w journal key t) = p.of s := by
  simp only [Part.outside] at h
  unfold State.recompute
  (repeat' split) <;> simp only [↓Part.of_ite, ↓State.restate_frame, Part.outside, h, not_false_eq_true, and_self, ite_self]

theorem State.bookFirst_frame {p : Part} (s : State) (r : Record) (w : Nat) (x : Reading) (dflt : Bool) (h : p ∉ [Part.free, .cat,
    .stores, .bat, .hif, .cask, .gate, .freeze, .upHold, .logs, .uplinks, .recs, .bills, .items, .series,
    .records]) : p.of (s.bookFirst r w x dflt) = p.of s := by
  simp only [Part.outside] at h
  simp only [State.bookFirst, ↓Part.of_ite, ↓State.scalesEnter_frame, Part.outside, h, not_false_eq_true, and_self]
  (repeat' split) <;> simp only [↓Part.of_setNand, ↓State.scalesEnter_frame, ↓State.bookNow_frame, Part.outside, h, not_false_eq_true,
      and_self, ne_eq]

theorem State.countDeferred_frame {p : Part} (s : State) (h : p ∉ [Part.cat]) : p.of s.countDeferred = p.of s := by
  simp only [Part.outside] at h
  simp only [State.countDeferred, ↓State.set_frame, Part.outside, h, not_false_eq_true, and_self]

theorem State.defer_frame {p : Part} (s : State) (d : Deferred) (h : p ∉ [Part.cat, .records]) : p.of (s.defer d) = p.of s := by
  simp only [Part.outside] at h
  simp only [State.defer, ↓Part.of_ite, ↓Part.of_setNand, ↓State.countDeferred_frame, Part.outside, h, not_false_eq_true, and_self,
      ite_self, ne_eq]

theorem State.undefer_frame {p : Part} (s : State) (d : Deferred) (h : p ∉ [Part.cat, .records]) : p.of (s.undefer d) = p.of s := by
  simp only [Part.outside] at h
  simp only [State.undefer, ↓Part.of_setNand, ↓State.countDeferred_frame, Part.outside, h, not_false_eq_true, and_self, ne_eq]

theorem State.deferFor_frame {p : Part} (s : State) (r : Record) (x : Reading) (h : p ∉ [Part.cat,
    .records]) : p.of (s.deferFor r x) = p.of s := by
  simp only [Part.outside] at h
  simp only [State.deferFor, ↓Part.of_ite, ↓State.defer_frame, Part.outside, h, not_false_eq_true, and_self, ite_self, ↓Part.of_foldl,
      implies_true]

theorem State.estimate_frame {p : Part} (s : State) (r : Record) (w key : Nat) (interval t : Nat) (value delta : Int) (method rule : Nat)
    (h : p ∉ [Part.free, .cat, .stores, .bat, .hif, .cask, .gate, .freeze, .upHold, .logs, .uplinks, .recs, .bills, .items, .series,
    .records]) : p.of (s.estimate r w key interval t value delta method rule) = p.of s := by
  simp only [Part.outside] at h
  unfold State.estimate
  split <;> simp only [↓Part.of_ite, ↓State.restate_frame, ↓State.bump_frame, ↓State.uplink_frame, ↓State.store_frame,
      ↓State.bookFirst_frame, Part.outside, h, not_false_eq_true, and_self, ite_self, ne_eq]

theorem State.putEstimates_frame {p : Part} (s : State) (r : Record) (w key : Nat) (interval method : Nat) (rule x7 : Nat) (x8 : Int) (x9
    : List Int) (h : p ∉ [Part.free, .cat, .stores, .bat, .hif, .cask, .gate, .freeze, .upHold, .logs, .uplinks, .recs, .bills, .items,
    .series, .records]) : p.of (s.putEstimates r w key interval method rule x7 x8 x9) = p.of s := by
  induction x9 generalizing s x7 x8 with
  | nil => rfl
  | cons e es ih =>
    have g := h
    simp only [Part.outside] at g
    unfold State.putEstimates
    simp only [ih, ↓State.estimate_frame, Part.outside, g, not_false_eq_true, and_self]

theorem State.gapNotice_frame {p : Part} (s : State) (r : Record) (ch n : Nat) (interval t0 : Nat) (h : p ∉ [Part.hif, .upHold,
    .uplinks]) : p.of (s.gapNotice r ch n interval t0) = p.of s := by
  simp only [Part.outside] at h
  simp only [State.gapNotice, ↓State.notice_frame, Part.outside, h, not_false_eq_true, and_self]

theorem State.fillGap_frame {p : Part} (s : State) (r : Record) (w ch : Nat) (t0 rule : Nat) (h : p ∉ [Part.free, .cat, .stores, .bat,
    .hif, .cask, .gate, .freeze, .upHold, .logs, .uplinks, .recs, .bills, .items, .series,
    .records]) : p.of (s.fillGap r w ch t0 rule).2 = p.of s := by
  simp only [Part.outside] at h
  simp only [State.fillGap, ne_eq]
  (repeat' split) <;> simp only [↓State.gapNotice_frame, ↓State.putEstimates_frame, ↓State.recompute_frame, Part.outside, h,
      not_false_eq_true, and_self, ↓Part.of_pair]

theorem State.fillForward_frame {p : Part} (s : State) (r : Record) (w ch : Nat) (t0 upTo rule : Nat) (h : p ∉ [Part.free, .cat, .stores,
    .bat, .hif, .cask, .gate, .freeze, .upHold, .logs, .uplinks, .recs, .bills, .items, .series,
    .records]) : p.of (s.fillForward r w ch t0 upTo rule) = p.of s := by
  simp only [Part.outside] at h
  simp only [State.fillForward]
  (repeat' split) <;> simp only [↓State.gapNotice_frame, ↓State.putEstimates_frame, Part.outside, h, not_false_eq_true, and_self]

theorem State.amend_frame {p : Part} (s : State) (r : Record) (w rule action : Nat) (y : Reading) (h : p ∉ [Part.free, .cat, .stores,
    .bat, .hif, .cask, .gate, .freeze, .upHold, .logs, .uplinks, .recs, .bills, .items, .series,
    .records]) : p.of (s.amend r w rule action y) = p.of s := by
  simp only [Part.outside] at h
  unfold State.amend
  split <;> simp only [↓Part.of_ite, ↓State.restate_frame, ↓State.recompute_frame, Part.outside, h, not_false_eq_true, and_self, ite_self]

theorem State.runRule_frame {p : Part} (s : State) (r : Record) (w : Nat) (d : Deferred) (h : p ∉ [Part.free, .cat, .stores, .bat, .hif,
    .cask, .gate, .freeze, .upHold, .logs, .uplinks, .recs, .bills, .items, .series, .records]) : p.of (s.runRule r w d) = p.of s := by
  simp only [Part.outside] at h
  simp only [State.runRule, ↓Part.of_ite, ne_eq]
  (repeat' split) <;> simp only [↓State.amend_frame, ↓State.defer_frame, Part.outside, h, not_false_eq_true, and_self, ↓Part.of_foldl,
      implies_true]

theorem State.runDeferred_frame {p : Part} (s : State) (r : Record) (w upTo : Nat) (d : Deferred) (h : p ∉ [Part.free, .cat, .stores,
    .bat, .hif, .cask, .gate, .freeze, .upHold, .logs, .uplinks, .recs, .bills, .items, .series,
    .records]) : p.of (s.runDeferred r w upTo d) = p.of s := by
  simp only [Part.outside] at h
  have k : p.of (s.fillGap r w d.channel d.fin d.by_).2 = p.of s := by
    simp only [↓State.fillGap_frame, Part.outside, h, not_false_eq_true, and_self]
  unfold State.runDeferred
  split
  · split <;> rename_i e <;> rw [e] at k <;>
      simp only [↓State.undefer_frame, Part.outside, h, not_false_eq_true, and_self, k]
  · simp only [↓Part.of_ite, ↓State.undefer_frame, ↓State.fillForward_frame, ↓State.runRule_frame, Part.outside, h, not_false_eq_true,
      and_self, ite_self]

theorem State.commitReading_frame {p : Part} (s : State) (r : Record) (w journal : Nat) (dflt : Bool) (x : Reading) (h : p ∉ [Part.free,
    .cat, .stores, .bat, .hif, .cask, .gate, .freeze, .upHold, .logs, .uplinks, .recs, .bills, .items, .series,
    .records]) : p.of (s.commitReading r w journal dflt x) = p.of s := by
  simp only [Part.outside] at h
  simp only [State.commitReading]
  (repeat' split) <;> simp only [↓State.bump_frame, ↓State.restate_frame, ↓State.bookFirst_frame, ↓State.uplink_frame,
      ↓State.store_frame, ↓State.recompute_frame, ↓State.deferFor_frame, ↓State.fillGap_frame, Part.outside, h, not_false_eq_true,
      and_self]

/-! ### Sweep -/

theorem State.applyAll_frame {p : Part} (s : State) (r : Record) (ds : List Boundary) (h : p ∉ [Part.free, .cat, .hif, .cask, .gate,
    .upHold, .logs, .uplinks, .recs, .bills, .items, .series]) : p.of (s.applyAll r ds) = p.of s := by
  simp only [Part.outside] at h
  simp only [State.applyAll, ↓State.beginSub_frame, ↓State.closeSub_frame, Part.outside, h, not_false_eq_true, and_self, ↓Part.of_foldl,
      implies_true]

theorem State.countSweep_frame {p : Part} (s : State) (h : p ∉ [Part.cat]) : p.of s.countSweep = p.of s := by
  simp only [Part.outside] at h
  simp only [State.countSweep, ↓State.set_frame, Part.outside, h, not_false_eq_true, and_self]

theorem State.endSweep_frame {p : Part} (s : State) (c : Nat) (h : p ∉ [Part.free, .cat, .stores, .bat, .hif, .cask, .freeze, .logs,
    .records]) : p.of (s.endSweep c) = p.of s := by
  simp only [Part.outside] at h
  simp only [State.endSweep, ↓Part.of_ite, ↓State.setSealed_frame, ↓State.modCal_frame, ↓State.logLegal_frame, Part.outside, h,
      not_false_eq_true, and_self, ite_self]

theorem State.runPending_frame {part : Part} (s : State) (r : Record) (w at_ : Nat) (p : Nat → Bool) (h : part ∉ [Part.free, .cat,
    .stores, .bat, .hif, .cask, .gate, .freeze, .upHold, .logs, .uplinks, .recs, .bills, .items, .series,
    .records]) : part.of (s.runPending r w at_ p) = part.of s := by
  simp only [Part.outside] at h
  simp only [State.runPending, ↓State.runDeferred_frame, Part.outside, h, not_false_eq_true, and_self, ↓Part.of_foldl, implies_true]

theorem State.closePeriod_frame {p : Part} (s : State) (r : Record) (k : CalState) (d : Boundary) (h : p ∉ [Part.free, .cat, .stores,
    .bat, .hif, .cask, .gate, .freeze, .upHold, .logs, .uplinks, .recs, .bills, .items, .series,
    .records]) : p.of (s.closePeriod r k d) = p.of s := by
  simp only [Part.outside] at h
  simp only [State.closePeriod]
  (repeat' split) <;> simp only [↓Part.of_setNand, ↓State.runPending_frame, ↓State.uplink_frame, ↓State.beginSub_frame,
      ↓State.modBill_frame, Part.outside, h, not_false_eq_true, and_self, ne_eq]

theorem State.sweepStep_frame {p : Part} (s : State) (c tag : Nat) (h : p ∉ [Part.free, .cat, .stores, .bat, .hif, .cask, .gate, .freeze,
    .upHold, .logs, .uplinks, .recs, .bills, .items, .series, .records]) : p.of (s.sweepStep c tag) = p.of s := by
  simp only [Part.outside] at h
  simp only [State.sweepStep, ↓Part.of_ite, ↓State.modCal_frame, ↓State.countSweep_frame, ↓State.endSweep_frame, Part.outside, h,
      not_false_eq_true, and_self]
  (repeat' split) <;> simp only [↓State.applyAll_frame, ↓State.closePeriod_frame, ↓State.closeSub_frame, Part.outside, h,
      not_false_eq_true, and_self]

theorem State.advance_frame {p : Part} (s : State) (tag t : Nat) (h : p ∉ [Part.free, .cat, .stores, .bat, .hif, .cask, .gate, .freeze,
    .upHold, .logs, .uplinks, .recs, .bills, .items, .series, .records]) : p.of (s.advance tag t) = p.of s := by
  simp only [Part.outside] at h
  simp only [State.advance]
  (repeat' split) <;> simp only [↓State.sweepStep_frame, ↓State.applyAll_frame, Part.outside, h, not_false_eq_true, and_self]

theorem State.advanceFor_frame {p : Part} (s : State) (tag start : Nat) (h : p ∉ [Part.free, .cat, .stores, .bat, .hif, .cask, .gate,
    .freeze, .upHold, .logs, .uplinks, .recs, .bills, .items, .series, .records]) : p.of (s.advanceFor tag start) = p.of s := by
  simp only [Part.outside] at h
  unfold State.advanceFor
  split <;> simp only [↓State.advance_frame, Part.outside, h, not_false_eq_true, and_self]

theorem State.activate_frame {p : Part} (s : State) (c g t : Nat) (h : p ∉ [Part.free, .cat, .stores, .bat, .hif, .cask, .freeze, .logs,
    .records]) : p.of (s.activate c g t) = p.of s := by
  simp only [Part.outside] at h
  simp only [State.activate, ↓Part.of_ite, ↓State.setSealed_frame, ↓State.modCal_frame, ↓State.logLegal_frame, Part.outside, h,
      not_false_eq_true, and_self, ite_self]

theorem State.activateAt_frame {p : Part} (s : State) (c t : Nat) (h : p ∉ [Part.free, .cat, .stores, .bat, .hif, .cask, .freeze, .logs,
    .records]) : p.of (s.activateAt c t) = p.of s := by
  simp only [Part.outside] at h
  simp only [State.activateAt]
  (repeat' split) <;> simp only [↓State.modCal_frame, ↓State.activate_frame, ↓State.setSealed_frame, Part.outside, h, not_false_eq_true,
      and_self]

theorem State.priceAt_frame {p : Part} (s : State) (c t : Nat) (h : p ∉ [Part.free, .cat, .stores, .bat, .hif, .cask, .freeze,
    .logs]) : p.of (s.priceAt c t) = p.of s := by
  simp only [Part.outside] at h
  simp only [State.priceAt, ↓Part.of_ite, ↓State.logLegal_frame, ↓State.commitPaired_frame, Part.outside, h, not_false_eq_true, and_self,
      ite_self, ne_eq]

theorem State.releaseWithheld_frame {p : Part} (s : State) (c : Nat) (h : p ∉ [Part.hif, .gate, .upHold, .uplinks, .withheld,
    .series]) : p.of (s.releaseWithheld c) = p.of s := by
  simp only [Part.outside] at h
  simp only [State.releaseWithheld, ↓Part.of_ite, ↓Part.of_setNand, ↓State.switchOutcome_frame, ↓State.nextRequest_frame,
      ↓State.submit_frame, Part.outside, h, not_false_eq_true, and_self, ite_self, ne_eq, ↓Part.of_foldl, implies_true]

theorem State.prepayAt_frame {p : Part} (s : State) (c t : Nat) (demand : Bool) (h : p ∉ [Part.free, .cat, .stores, .bat, .hif, .cask,
    .gate, .freeze, .upHold, .logs, .uplinks, .recs, .bills, .items, .series, .records]) : p.of (s.prepayAt c t demand) = p.of s := by
  simp only [Part.outside] at h
  unfold State.prepayAt
  refine Part.of_foldl _ _ _ _ fun s tag => ?_
  split
  · simp only [↓Part.of_ite, ↓State.advance_frame, ↓State.disconnectTest_frame, Part.outside, h, not_false_eq_true, and_self, ite_self]
  · rfl

theorem State.processBoundary_frame {p : Part} (s : State) (c t : Nat) (off : Bool) (h : p ∉ [Part.free, .cat, .stores, .bat, .hif,
    .cask, .gate, .freeze, .upHold, .logs, .uplinks, .recs, .bills, .withheld, .items, .series,
    .records]) : p.of (s.processBoundary c t off) = p.of s := by
  simp only [Part.outside] at h
  simp only [State.processBoundary, ↓Part.of_ite, ↓State.sweepStep_frame, ↓State.modCal_frame, ↓State.activateAt_frame,
      ↓State.priceAt_frame, ↓State.commit_frame, ↓State.countSweep_frame, ↓State.endSweep_frame, ↓State.releaseWithheld_frame,
      ↓State.prepayAt_frame, Part.outside, h, not_false_eq_true, and_self, ite_self, ↓Part.of_foldl, implies_true]

theorem State.catchUp_frame {p : Part} (s : State) (c upTo : Nat) (off : Bool) (x4 : Nat) (h : p ∉ [Part.free, .cat, .stores, .bat, .hif,
    .cask, .gate, .freeze, .upHold, .logs, .uplinks, .recs, .bills, .withheld, .items, .series,
    .records]) : p.of (s.catchUp c upTo off x4).2.2.2 = p.of s := by
  induction x4 generalizing s with
  | zero => rfl
  | succ n ih =>
    have g := h
    simp only [Part.outside] at g
    unfold State.catchUp
    split
    · rfl
    · split
      · rfl
      · simp only [ih, ↓State.processBoundary_frame, Part.outside, g, not_false_eq_true, and_self]

theorem State.replayCalendar_frame {p : Part} (s : State) (c : Nat) (off : Bool) (h : p ∉ [Part.free, .cat, .stores, .bat, .hif, .cask,
    .gate, .freeze, .upHold, .logs, .uplinks, .recs, .bills, .withheld, .items, .series,
    .records]) : p.of (s.replayCalendar c off) = p.of s := by
  simp only [Part.outside] at h
  simp only [State.replayCalendar, ↓Part.of_ite, ↓State.catchUp_frame, ↓State.logLegal_frame, ↓State.bumpBy_frame, Part.outside, h,
      not_false_eq_true, and_self, ite_self]

theorem State.replayBoundaries_frame {p : Part} (s : State) (off : Bool) (h : p ∉ [Part.free, .cat, .stores, .bat, .hif, .cask, .gate,
    .freeze, .upHold, .logs, .uplinks, .recs, .bills, .withheld, .items, .series,
    .records]) : p.of (s.replayBoundaries off) = p.of s := by
  simp only [Part.outside] at h
  simp only [State.replayBoundaries, ↓Part.of_ite, ↓State.replayCalendar_frame, Part.outside, h, not_false_eq_true, and_self, ite_self,
      ↓Part.of_foldl, implies_true]

theorem State.finishReplay_frame {p : Part} (s : State) (h : p ∉ [Part.free, .cat, .stores, .bat, .pw, .hif, .cask, .gate, .freeze,
    .upHold, .logs, .uplinks, .recs, .bills, .withheld, .items, .series, .records]) : p.of s.finishReplay = p.of s := by
  simp only [Part.outside] at h
  simp only [State.finishReplay, ↓Part.of_ite, ↓Part.of_set, ↓State.replayBoundaries_frame, Part.outside, h, not_false_eq_true, and_self,
      ite_self, ne_eq]

theorem State.billingBoundary_frame {p : Part} (s : State) (c : Nat) (h : p ∉ [Part.free, .cat, .stores, .bat, .hif, .cask, .gate,
    .freeze, .upHold, .logs, .uplinks, .recs, .bills, .withheld, .items, .series, .records]) : p.of (s.billingBoundary c) = p.of s := by
  simp only [Part.outside] at h
  unfold State.billingBoundary
  split <;> simp only [↓Part.of_ite, ↓State.processBoundary_frame, Part.outside, h, not_false_eq_true, and_self, ite_self]

theorem State.closeSweep_frame {p : Part} (s : State) (c tag : Nat) (h : p ∉ [Part.free, .cat, .stores, .bat, .hif, .cask, .gate,
    .freeze, .upHold, .logs, .uplinks, .recs, .bills, .items, .series, .records]) : p.of (s.closeSweep c tag) = p.of s := by
  simp only [Part.outside] at h
  simp only [State.closeSweep, ↓Part.of_ite, ↓State.sweepStep_frame, Part.outside, h, not_false_eq_true, and_self, ite_self]

/-! ### Billing -/

theorem State.tariffResult_frame {p : Part} (s : State) (status image : Nat) (offset counter : Nat) (h : p ∉ [Part.cat]) : p.of
    (s.tariffResult status image offset counter) = p.of s := by
  simp only [Part.outside] at h
  simp only [State.tariffResult, ↓State.set_frame, Part.outside, h, not_false_eq_true, and_self]

theorem State.tariffApply_frame {p : Part} (s : State) (counter : Nat) (gs : List Nat) (h : p ∉ [Part.free, .cat, .stores, .bat, .hif,
    .cask, .freeze, .logs, .records]) : p.of (s.tariffApply counter gs) = p.of s := by
  simp only [Part.outside] at h
  simp only [State.tariffApply, ↓State.setSealed_frame, ↓State.commit_frame, ↓State.logLegal_frame, Part.outside, h, not_false_eq_true,
      and_self, ↓Part.of_foldl, implies_true]

theorem State.tariffSetSubmit_frame {p : Part} (s : State) (r : CapReq) (e : Epmeir) (gs : List Nat) (h : p ∉ [Part.free, .cat, .stores,
    .bat, .hif, .sessions, .cask, .freeze, .logs, .records]) : p.of (s.tariffSetSubmit r e gs) = p.of s := by
  simp only [Part.outside] at h
  unfold State.tariffSetSubmit
  refine State.capExec_frame _ _ _ _ (by simp only [Part.outside, h, not_false_eq_true, and_self]) fun a b => ?_
  split <;> simp only [↓State.tariffResult_frame, ↓State.mediaGate_frame, ↓State.tariffApply_frame, Part.outside, h, not_false_eq_true,
      and_self, ↓Part.of_pair]

theorem State.billingRead_frame {p : Part} (s : State) (r : CapReq) (tag : Nat) (h : p ∉ [Part.free, .cat, .stores, .bat, .hif,
    .sessions, .cask, .gate, .freeze, .upHold, .logs, .uplinks, .recs, .bills, .items, .series,
    .records]) : p.of (s.billingRead r tag) = p.of s := by
  simp only [Part.outside] at h
  unfold State.billingRead
  refine State.capExec_frame _ _ _ _ (by simp only [Part.outside, h, not_false_eq_true, and_self]) fun a b => ?_
  split <;> simp only [ite_self, ↓Part.of_ite_snd, ↓Part.of_pair]

theorem State.snapshotRead_frame {p : Part} (s : State) (r : CapReq) (tag period : Nat) (h : p ∉ [Part.free, .cat, .hif,
    .sessions]) : p.of (s.snapshotRead r tag period) = p.of s := by
  simp only [Part.outside] at h
  unfold State.snapshotRead
  refine State.capExec_frame _ _ _ _ (by simp only [Part.outside, h, not_false_eq_true, and_self]) fun a b => ?_
  split <;> simp only [ite_self, ↓Part.of_ite_snd, ↓Part.of_pair]

/-! ### Turnstile -/

theorem State.target_frame {p : Part} (s : State) (ses : Session) (tag : Nat) (prepay : Bool) (body : Record → CapOut × State) (h : p ∉
    [Part.free, .cat, .hif, .logs, .recs]) (hb : ∀ r, p.of (body r).2 = p.of s) : p.of (s.target ses tag prepay body).2 = p.of s := by
  simp only [Part.outside] at h
  unfold State.target
  split
  · rfl
  · simp only [↓Part.of_ite_snd, ↓Part.of_pair, ↓State.badRecord_frame, hb, Part.outside, h, not_false_eq_true, and_self, ite_self]

theorem State.topUpBody_frame {p : Part} (s : State) (tag : Nat) (a : Int) (seq : Nat) (ses : Session) (h : p ∉ [Part.free, .cat,
    .stores, .bat, .hif, .cask, .gate, .freeze, .upHold, .logs, .uplinks, .recs, .bills, .items,
    .series]) : p.of (s.topUpBody tag a seq ses).2 = p.of s := by
  simp only [Part.outside] at h
  unfold State.topUpBody
  refine State.target_frame _ _ _ _ _ (by simp only [Part.outside, h, not_false_eq_true, and_self]) fun r => ?_
  split
  · rfl
  · split
    · simp only [↓State.bump_frame, Part.outside, h, not_false_eq_true, and_self, ↓Part.of_pair]
    · split
      · rfl
      · simp only [↓State.bump_frame, Part.outside, h, not_false_eq_true, and_self, ↓Part.of_pair]
      · refine State.mediaGate_frame _ _ (by simp only [Part.outside, h, not_false_eq_true, and_self]) ?_
        simp only [↓Part.of_ite, ↓State.bump_frame, ↓State.commit_frame, ↓State.modBill_frame, ↓State.saturated_frame,
            ↓State.logLegal_frame, ↓State.disconnectTest_frame, ↓State.creditUpdate_frame, Part.outside, h, not_false_eq_true, and_self,
            ite_self, ↓Part.of_pair]

theorem State.debtSetBody_frame {p : Part} (s : State) (tag : Nat) (v : Int) (seq share : Nat) (ses : Session) (h : p ∉ [Part.free, .cat,
    .stores, .bat, .hif, .cask, .gate, .freeze, .upHold, .logs, .uplinks, .recs, .bills, .items,
    .series]) : p.of (s.debtSetBody tag v seq share ses).2 = p.of s := by
  simp only [Part.outside] at h
  unfold State.debtSetBody
  refine State.target_frame _ _ _ _ _ (by simp only [Part.outside, h, not_false_eq_true, and_self]) fun r => ?_
  split
  · rfl
  · split
    · simp only [↓State.bump_frame, Part.outside, h, not_false_eq_true, and_self, ↓Part.of_pair]
    · split
      · rfl
      · simp only [↓State.bump_frame, Part.outside, h, not_false_eq_true, and_self, ↓Part.of_pair]
      · refine State.mediaGate_frame _ _ (by simp only [Part.outside, h, not_false_eq_true, and_self]) ?_
        simp only [↓State.commit_frame, ↓State.modBill_frame, ↓State.logLegal_frame, ↓State.creditUpdate_frame, Part.outside, h,
            not_false_eq_true, and_self, ↓Part.of_pair]

theorem State.lockOutBody_frame {p : Part} (s : State) (tag on : Nat) (ses : Session) (h : p ∉ [Part.free, .cat, .stores, .bat, .hif,
    .cask, .gate, .freeze, .logs, .recs, .bills, .series]) : p.of (s.lockOutBody tag on ses).2 = p.of s := by
  simp only [Part.outside] at h
  unfold State.lockOutBody
  refine State.target_frame _ _ _ _ _ (by simp only [Part.outside, h, not_false_eq_true, and_self]) fun r => ?_
  split
  · rfl
  · refine State.mediaGate_frame _ _ (by simp only [Part.outside, h, not_false_eq_true, and_self]) ?_
    simp only [↓Part.of_ite, ↓State.commit_frame, ↓State.modRecord_frame, ↓State.logLegal_frame, ↓State.formReconnect_frame,
        Part.outside, h, not_false_eq_true, and_self, ite_self, ↓Part.of_pair]

theorem State.emergencyBody_frame {p : Part} (s : State) (tag : Nat) (ses : Session) (h : p ∉ [Part.free, .cat, .hif, .cask, .gate,
    .upHold, .logs, .uplinks, .recs, .bills, .items, .series]) : p.of (s.emergencyBody tag ses).2 = p.of s := by
  simp only [Part.outside] at h
  unfold State.emergencyBody
  refine State.target_frame _ _ _ _ _ (by simp only [Part.outside, h, not_false_eq_true, and_self]) fun r => ?_
  split
  · refine State.mediaGate_frame _ _ (by simp only [Part.outside, h, not_false_eq_true, and_self]) ?_
    simp only [↓State.commit_frame, ↓State.acceptEmergency_frame, Part.outside, h, not_false_eq_true, and_self, ↓Part.of_pair]
  · rfl

theorem State.switchBody_frame {p : Part} (s : State) (a : SwitchArg) (ses : Session) (h : p ∉ [Part.free, .cat, .hif, .gate, .logs,
    .recs, .withheld, .series]) : p.of (s.switchBody a ses).2 = p.of s := by
  simp only [Part.outside] at h
  simp only [State.switchBody, ↓Part.of_setNand, ↓State.nextRequest_frame, ↓State.submit_frame, ↓State.target_frame, ↓State.bump_frame,
      Part.outside, h, not_false_eq_true, and_self, ite_self, ne_eq, ↓Part.of_ite_snd, ↓Part.of_pair, implies_true]

theorem State.topUp_frame {p : Part} (s : State) (r : CapReq) (tag : Nat) (a : Int) (seq : Nat) (h : p ∉ [Part.free, .cat, .stores, .bat,
    .hif, .sessions, .cask, .gate, .freeze, .parked, .upHold, .logs, .uplinks, .recs, .bills, .items,
    .series]) : p.of (s.topUp r tag a seq) = p.of s := by
  simp only [Part.outside] at h
  simp only [State.topUp, ↓State.capOrdered_frame, ↓State.topUpBody_frame, Part.outside, h, not_false_eq_true, and_self, implies_true]

theorem State.debtSet_frame {p : Part} (s : State) (r : CapReq) (tag : Nat) (v : Int) (seq share : Nat) (h : p ∉ [Part.free, .cat,
    .stores, .bat, .hif, .sessions, .cask, .gate, .freeze, .parked, .upHold, .logs, .uplinks, .recs, .bills, .items,
    .series]) : p.of (s.debtSet r tag v seq share) = p.of s := by
  simp only [Part.outside] at h
  simp only [State.debtSet, ↓State.capOrdered_frame, ↓State.debtSetBody_frame, Part.outside, h, not_false_eq_true, and_self, implies_true]

theorem State.lockOutSet_frame {p : Part} (s : State) (r : CapReq) (tag on : Nat) (h : p ∉ [Part.free, .cat, .stores, .bat, .hif,
    .sessions, .cask, .gate, .freeze, .parked, .logs, .recs, .bills, .series]) : p.of (s.lockOutSet r tag on) = p.of s := by
  simp only [Part.outside] at h
  simp only [State.lockOutSet, ↓State.capOrdered_frame, ↓State.lockOutBody_frame, Part.outside, h, not_false_eq_true, and_self,
      implies_true]

theorem State.emergencyAccept_frame {p : Part} (s : State) (r : CapReq) (tag : Nat) (h : p ∉ [Part.free, .cat, .hif, .sessions, .cask,
    .gate, .parked, .upHold, .logs, .uplinks, .recs, .bills, .items, .series]) : p.of (s.emergencyAccept r tag) = p.of s := by
  simp only [Part.outside] at h
  simp only [State.emergencyAccept, ↓State.capOrdered_frame, ↓State.emergencyBody_frame, Part.outside, h, not_false_eq_true, and_self,
      implies_true]

theorem State.switchSubmit_frame {p : Part} (s : State) (r : CapReq) (a : SwitchArg) (h : p ∉ [Part.free, .cat, .hif, .sessions, .gate,
    .logs, .recs, .withheld, .series]) : p.of (s.switchSubmit r a) = p.of s := by
  simp only [Part.outside] at h
  simp only [State.switchSubmit, ↓State.capExec_frame, ↓State.switchBody_frame, Part.outside, h, not_false_eq_true, and_self,
      implies_true]

theorem State.offerExpiry_frame {p : Part} (s : State) (tag : Nat) (h : p ∉ [Part.free, .cat, .hif, .cask, .gate, .upHold, .logs,
    .uplinks, .recs, .bills, .items, .series]) : p.of (s.offerExpiry tag) = p.of s := by
  simp only [Part.outside] at h
  unfold State.offerExpiry
  split <;> simp only [↓Part.of_ite, ↓State.creditMove_frame, Part.outside, h, not_false_eq_true, and_self, ite_self]

/-! ### Calliope -/

theorem State.loadIncr_frame {p : Part} (s : State) (v : Nat) (h : p ∉ [Part.increment]) : p.of (s.loadIncr v) = p.of s := by
  simp only [Part.outside] at h
  simp only [State.loadIncr, ↓Part.of_update, h, and_self, implies_true, IsEmpty.forall_iff]

theorem State.writeRtc_frame {p : Part} (s : State) (h : p ∉ [Part.cat, .bat]) : p.of s.writeRtc = p.of s := by
  simp only [Part.outside] at h
  simp only [State.writeRtc, ↓Part.of_set, ↓State.set_frame, Part.outside, h, not_false_eq_true, and_self, ne_eq]

theorem State.openSpan_frame {p : Part} (s : State) (h : p ∉ [Part.free, .cat, .stores, .bat, .hif, .cask, .freeze, .logs,
    .spans]) : p.of s.openSpan = p.of s := by
  simp only [Part.outside] at h
  unfold State.openSpan
  split <;> simp only [↓Part.of_setNand, ↓State.logLegal_frame, Part.outside, h, not_false_eq_true, and_self, ne_eq]

theorem State.closeSpan_frame {p : Part} (s : State) (h : p ∉ [Part.free, .cat, .stores, .bat, .hif, .cask, .gate, .freeze, .upHold,
    .logs, .uplinks, .recs, .bills, .spans, .withheld, .items, .series, .records]) : p.of s.closeSpan = p.of s := by
  simp only [Part.outside] at h
  unfold State.closeSpan
  split <;> simp only [↓Part.of_setNand, ↓State.replayBoundaries_frame, ↓State.logLegal_frame, Part.outside, h, not_false_eq_true,
      and_self, ne_eq]

theorem State.releaseAll_frame {p : Part} (s : State) (h : p ∉ [Part.hif, .gate, .upHold, .uplinks, .withheld,
    .series]) : p.of s.releaseAll = p.of s := by
  simp only [Part.outside] at h
  simp only [State.releaseAll, ↓Part.of_ite, ↓State.releaseWithheld_frame, Part.outside, h, not_false_eq_true, and_self, ite_self,
      ↓Part.of_foldl, implies_true]

theorem State.putClock_frame {p : Part} (s : State) (status : Nat) (h : p ∉ [Part.cat, .hif]) : p.of (s.putClock status) = p.of s := by
  simp only [Part.outside] at h
  simp only [State.putClock, ↓State.raise_frame, ↓State.set_frame, Part.outside, h, not_false_eq_true, and_self]

theorem State.enterHoldover_frame {p : Part} (s : State) (h : p ∉ [Part.increment, .clockwork]) : p.of s.enterHoldover = p.of s := by
  simp only [Part.outside] at h
  simp only [State.enterHoldover, ↓Part.of_ite, ↓Part.of_setTime, ↓State.loadIncr_frame, Part.outside, h, not_false_eq_true, and_self,
      ite_self, ne_eq]

theorem State.clockEntered_frame {p : Part} (s : State) (new : Nat) (h : p ∉ [Part.free, .cat, .stores, .bat, .hif, .cask, .gate,
    .freeze, .upHold, .increment, .clockwork, .logs, .uplinks, .recs, .bills, .spans, .withheld, .items, .series,
    .records]) : p.of (s.clockEntered new) = p.of s := by
  simp only [Part.outside] at h
  simp only [State.clockEntered, ↓Part.of_ite, ↓State.enterHoldover_frame, ↓State.openSpan_frame, ↓State.closeSpan_frame, Part.outside,
      h, not_false_eq_true, and_self, ite_self]

theorem State.setClock_frame {p : Part} (s : State) (new cause : Nat) (h : p ∉ [Part.free, .cat, .stores, .bat, .hif, .cask, .gate,
    .freeze, .upHold, .increment, .clockwork, .logs, .uplinks, .recs, .bills, .spans, .withheld, .items, .series,
    .records]) : p.of (s.setClock new cause) = p.of s := by
  simp only [Part.outside] at h
  simp only [State.setClock, ↓Part.of_ite, ↓State.logOp_frame, ↓State.putClock_frame, ↓State.releaseAll_frame, ↓State.clockEntered_frame,
      Part.outside, h, not_false_eq_true, and_self, ite_self]

theorem State.billingStep_frame {p : Part} (s : State) (t1 t2 : Int) (h : p ∉ [Part.free, .cat, .stores, .bat, .hif, .cask, .gate,
    .freeze, .upHold, .increment, .clockwork, .logs, .uplinks, .recs, .bills, .spans, .withheld, .items, .series,
    .records]) : p.of (s.billingStep t1 t2) = p.of s := by
  simp only [Part.outside] at h
  simp only [State.billingStep, ↓Part.of_ite, ↓State.logLegal_frame, ↓State.bump_frame, ↓State.setClock_frame, Part.outside, h,
      not_false_eq_true, and_self, ite_self, ↓Part.of_foldl, implies_true]

theorem State.stepCounter_frame {p : Part} (s : State) (d : Int) (h : p ∉ [Part.free, .cat, .stores, .bat, .hif, .cask, .gate, .freeze,
    .upHold, .counter, .increment, .clockwork, .logs, .uplinks, .recs, .bills, .spans, .withheld, .items, .series,
    .records]) : p.of (s.stepCounter d) = p.of s := by
  simp only [Part.outside] at h
  simp only [State.stepCounter, ↓Part.of_ite, ↓Part.of_update, ↓State.bump_frame, ↓State.billingStep_frame, Part.outside, h,
      not_false_eq_true, and_self, ite_self, implies_true, true_and, and_true, IsEmpty.forall_iff]

theorem State.reselect_frame {p : Part} (s : State) (h : p ∉ [Part.free, .cat, .stores, .bat, .hif, .cask, .gate, .freeze, .upHold,
    .increment, .clockwork, .logs, .uplinks, .recs, .bills, .spans, .withheld, .items, .series,
    .records]) : p.of s.reselect = p.of s := by
  simp only [Part.outside] at h
  simp only [State.reselect, ↓Part.of_ite, ↓Part.of_setTime, ↓State.set_frame, ↓State.setClock_frame, Part.outside, h, not_false_eq_true,
      and_self, ite_self, ne_eq]

theorem State.evaluate_frame {p : Part} (s : State) (h : p ∉ [Part.free, .cat, .stores, .bat, .hif, .cask, .gate, .freeze, .upHold,
    .increment, .clockwork, .logs, .uplinks, .recs, .bills, .spans, .withheld, .items, .series,
    .records]) : p.of s.evaluate = p.of s := by
  simp only [Part.outside] at h
  unfold State.evaluate
  split <;> simp only [↓Part.of_ite, ↓State.setClock_frame, Part.outside, h, not_false_eq_true, and_self, ite_self, ne_eq]

theorem State.measure_frame {p : Part} (s : State) (resid : Nat) (h : p ∉ [Part.clockwork]) : p.of (s.measure resid) = p.of s := by
  simp only [Part.outside] at h
  simp only [State.measure, ↓Part.of_ite, ↓Part.of_setTime, h, not_false_eq_true, ite_self, ne_eq]

theorem State.servo_frame {p : Part} (s : State) (offset : Int) (h : p ∉ [Part.free, .cat, .stores, .bat, .hif, .cask, .gate, .freeze,
    .upHold, .counter, .increment, .clockwork, .logs, .uplinks, .recs, .bills, .spans, .withheld, .items, .series,
    .records]) : p.of (s.servo offset) = p.of s := by
  simp only [Part.outside] at h
  simp only [State.servo, ↓Part.of_ite, ↓Part.of_setTime, ↓State.set_frame, ↓State.stepCounter_frame, ↓State.draw_frame,
      ↓State.loadIncr_frame, ↓State.setClock_frame, ↓State.evaluate_frame, ↓State.measure_frame, Part.outside, h, not_false_eq_true,
      and_self, ite_self, ne_eq]

theorem State.lostSource_frame {p : Part} (s : State) (h : p ∉ [Part.free, .cat, .stores, .bat, .hif, .cask, .gate, .freeze, .upHold,
    .increment, .clockwork, .logs, .uplinks, .recs, .bills, .spans, .withheld, .items, .series,
    .records]) : p.of s.lostSource = p.of s := by
  simp only [Part.outside] at h
  simp only [State.lostSource, ↓Part.of_ite, ↓Part.of_setTime, ↓State.reselect_frame, ↓State.setClock_frame, Part.outside, h,
      not_false_eq_true, and_self, ite_self, ne_eq]

theorem State.modPtp_frame {part : Part} (s : State) (p : Nat) (f : PtpPort → PtpPort) (h : part ∉ [Part.clockwork]) : part.of (s.modPtp
    p f) = part.of s := by
  simp only [Part.outside] at h
  simp only [State.modPtp, ↓Part.of_setTime, h, not_false_eq_true, ne_eq]

theorem State.ptpSync_frame {p : Part} (s : State) (port : Nat) (offset : Int) (h : p ∉ [Part.free, .cat, .stores, .bat, .hif, .cask,
    .gate, .freeze, .upHold, .counter, .increment, .clockwork, .logs, .uplinks, .recs, .bills, .spans, .withheld, .items, .series,
    .records]) : p.of (s.ptpSync port offset) = p.of s := by
  simp only [Part.outside] at h
  simp only [State.ptpSync, ↓Part.of_ite, ↓Part.of_setTime, ↓State.reselect_frame, ↓State.modPtp_frame, ↓State.servo_frame, Part.outside,
      h, not_false_eq_true, and_self, ite_self, ne_eq]

theorem State.ppsEdge_frame {p : Part} (s : State) (h : p ∉ [Part.free, .cat, .stores, .bat, .hif, .cask, .gate, .freeze, .upHold,
    .counter, .increment, .clockwork, .logs, .uplinks, .recs, .bills, .spans, .withheld, .items, .series,
    .records]) : p.of s.ppsEdge = p.of s := by
  simp only [Part.outside] at h
  simp only [State.ppsEdge, ↓Part.of_ite, ↓Part.of_update, ↓State.reselect_frame, ↓State.servo_frame, ↓State.bump_frame,
      ↓State.lostSource_frame, Part.outside, h, not_false_eq_true, and_self, ite_self, implies_true, true_and, and_true,
      IsEmpty.forall_iff]

theorem State.ptpAnnounce_frame {p : Part} (s : State) (port : Nat) (off : Int) (valid : Bool) (h : p ∉ [Part.free, .cat, .stores, .bat,
    .hif, .cask, .gate, .freeze, .upHold, .increment, .clockwork, .logs, .uplinks, .recs, .bills, .spans, .withheld, .items, .series,
    .records]) : p.of (s.ptpAnnounce port off valid) = p.of s := by
  simp only [Part.outside] at h
  simp only [State.ptpAnnounce, ↓Part.of_ite, ↓Part.of_setTime, ↓State.reselect_frame, ↓State.evaluate_frame, ↓State.logOp_frame,
      ↓State.setPaired_frame, ↓State.bump_frame, Part.outside, h, not_false_eq_true, and_self, ite_self, ne_eq]

theorem State.ptpDelayResp_frame {p : Part} (s : State) (port : Nat) (delay : Int) (h : p ∉ [Part.clockwork]) : p.of (s.ptpDelayResp port
    delay) = p.of s := by
  simp only [Part.outside] at h
  simp only [State.ptpDelayResp, ↓Part.of_ite, ↓State.modPtp_frame, Part.outside, h, not_false_eq_true, and_self, ite_self]

theorem State.lockQualified_frame {p : Part} (s : State) (h : p ∉ [Part.free, .cat, .stores, .bat, .hif, .cask, .gate, .freeze, .upHold,
    .increment, .clockwork, .logs, .uplinks, .recs, .bills, .spans, .withheld, .items, .series,
    .records]) : p.of s.lockQualified = p.of s := by
  simp only [Part.outside] at h
  simp only [State.lockQualified, ↓Part.of_ite, ↓State.evaluate_frame, Part.outside, h, not_false_eq_true, and_self, ite_self]

theorem State.sourceLost_frame {p : Part} (s : State) (h : p ∉ [Part.free, .cat, .stores, .bat, .hif, .cask, .gate, .freeze, .upHold,
    .increment, .clockwork, .logs, .uplinks, .recs, .bills, .spans, .withheld, .items, .series,
    .records]) : p.of s.sourceLost = p.of s := by
  simp only [Part.outside] at h
  simp only [State.sourceLost, ↓Part.of_ite, ↓Part.of_setTime, ↓State.modPtp_frame, ↓State.lostSource_frame, Part.outside, h,
      not_false_eq_true, and_self, ite_self, ne_eq]

theorem State.holdoverLimit_frame {p : Part} (s : State) (h : p ∉ [Part.free, .cat, .stores, .bat, .hif, .cask, .gate, .freeze, .upHold,
    .increment, .clockwork, .logs, .uplinks, .recs, .bills, .spans, .withheld, .items, .series,
    .records]) : p.of s.holdoverLimit = p.of s := by
  simp only [Part.outside] at h
  simp only [State.holdoverLimit, ↓Part.of_ite, ↓State.setClock_frame, Part.outside, h, not_false_eq_true, and_self, ite_self]

theorem State.hostBeat_frame {p : Part} (s : State) (v : Word) (h : p ∉ [Part.free, .cat, .stores, .bat, .hif, .cask, .gate, .freeze,
    .upHold, .increment, .clockwork, .logs, .uplinks, .recs, .bills, .spans, .withheld, .items, .series,
    .records]) : p.of (s.hostBeat v) = p.of s := by
  simp only [Part.outside] at h
  simp only [State.hostBeat, ↓Part.of_ite, ↓Part.of_update, ↓State.reselect_frame, ↓State.evaluate_frame, ↓State.setClock_frame,
      Part.outside, h, not_false_eq_true, and_self, ite_self, implies_true, true_and, and_true, IsEmpty.forall_iff]

theorem State.heartbeatLapse_frame {p : Part} (s : State) (h : p ∉ [Part.free, .cat, .stores, .bat, .hif, .cask, .gate, .freeze, .upHold,
    .increment, .clockwork, .logs, .uplinks, .recs, .bills, .spans, .withheld, .items, .series,
    .records]) : p.of s.heartbeatLapse = p.of s := by
  simp only [Part.outside] at h
  unfold State.heartbeatLapse
  split <;> simp only [↓Part.of_ite, ↓Part.of_setTime, ↓State.loadIncr_frame, ↓State.lostSource_frame, Part.outside, h,
      not_false_eq_true, and_self, ite_self, ne_eq]

theorem State.ownerChanged_frame {p : Part} (s : State) (h : p ∉ [Part.free, .cat, .stores, .bat, .hif, .cask, .gate, .freeze, .upHold,
    .increment, .clockwork, .logs, .uplinks, .recs, .bills, .spans, .withheld, .items, .series,
    .records]) : p.of s.ownerChanged = p.of s := by
  simp only [Part.outside] at h
  simp only [State.ownerChanged, ↓Part.of_ite, ↓Part.of_update, ↓State.reselect_frame, ↓State.putClock_frame, ↓State.logOp_frame,
      Part.outside, h, not_false_eq_true, and_self, ite_self, implies_true, true_and, and_true, IsEmpty.forall_iff]

theorem State.takeStep_frame {p : Part} (s : State) (h : p ∉ [Part.free, .cat, .stores, .bat, .hif, .cask, .gate, .freeze, .upHold,
    .counter, .increment, .clockwork, .logs, .uplinks, .recs, .bills, .spans, .withheld, .items, .series,
    .records]) : p.of s.takeStep = p.of s := by
  simp only [Part.outside] at h
  unfold State.takeStep
  split <;> simp only [↓Part.of_setTime, ↓State.evaluate_frame, ↓State.stepCounter_frame, Part.outside, h, not_false_eq_true, and_self,
      ne_eq]

theorem State.count_frame {p : Part} (s : State) (n : Nat) (h : p ∉ [Part.cat, .bat, .counter,
    .clockwork]) : p.of (s.count n) = p.of s := by
  simp only [Part.outside] at h
  simp only [State.count, ↓Part.of_ite, ↓Part.of_update, ↓State.set_frame, Part.outside, h, not_false_eq_true, and_self, ite_self,
      implies_true, true_and, and_true, IsEmpty.forall_iff]

theorem State.pass_frame {p : Part} (s : State) (n : Nat) (h : p ∉ [Part.free, .cat, .stores, .bat, .hif, .cask, .gate, .freeze, .upHold,
    .counter, .increment, .clockwork, .logs, .uplinks, .recs, .bills, .spans, .withheld, .items, .series,
    .records]) : p.of (s.pass n) = p.of s := by
  simp only [Part.outside] at h
  simp only [State.pass, ↓Part.of_ite, ↓State.count_frame, ↓State.takeStep_frame, Part.outside, h, not_false_eq_true, and_self, ite_self]

theorem State.secondRollover_frame {p : Part} (s : State) (h : p ∉ [Part.free, .cat, .stores, .bat, .hif, .cask, .gate, .freeze, .upHold,
    .counter, .increment, .clockwork, .logs, .uplinks, .recs, .bills, .spans, .withheld, .items, .series,
    .records]) : p.of s.secondRollover = p.of s := by
  simp only [Part.outside] at h
  simp only [State.secondRollover, ↓Part.of_ite, ↓State.takeStep_frame, ↓State.count_frame, Part.outside, h, not_false_eq_true, and_self,
      ite_self]

theorem State.advanceAll_frame {p : Part} (s : State) (h : p ∉ [Part.free, .cat, .stores, .bat, .hif, .cask, .gate, .freeze, .upHold,
    .logs, .uplinks, .recs, .bills, .items, .series, .records]) : p.of s.advanceAll = p.of s := by
  simp only [Part.outside] at h
  simp only [State.advanceAll, ↓State.advance_frame, Part.outside, h, not_false_eq_true, and_self, ↓Part.of_foldl, implies_true]

theorem State.offsetWritten_frame {p : Part} (s : State) (old new : Int) (h : p ∉ [Part.free, .cat, .stores, .bat, .hif, .cask, .gate,
    .freeze, .upHold, .increment, .clockwork, .logs, .uplinks, .recs, .bills, .spans, .withheld, .items, .series,
    .records]) : p.of (s.offsetWritten old new) = p.of s := by
  simp only [Part.outside] at h
  simp only [State.offsetWritten, ↓Part.of_update, ↓State.advanceAll_frame, ↓State.billingStep_frame, Part.outside, h, not_false_eq_true,
      and_self, implies_true, true_and, and_true, IsEmpty.forall_iff]

theorem State.applyLeap_frame {p : Part} (s : State) (t : Nat) (new : Int) (h : p ∉ [Part.free, .cat,
    .stores]) : p.of (s.applyLeap t new) = p.of s := by
  simp only [Part.outside] at h
  simp only [State.applyLeap, ↓State.commitPaired_frame, Part.outside, h, not_false_eq_true, and_self]

theorem State.leapDue_frame {p : Part} (s : State) (h : p ∉ [Part.free, .cat, .stores]) : p.of s.leapDue = p.of s := by
  simp only [Part.outside] at h
  unfold State.leapDue
  split <;> simp only [↓Part.of_ite, ↓State.applyLeap_frame, Part.outside, h, not_false_eq_true, and_self, ite_self]

theorem State.leapInstant_frame {p : Part} (s : State) (flag : Int) (h : p ∉ [Part.free, .cat,
    .stores]) : p.of (s.leapInstant flag) = p.of s := by
  simp only [Part.outside] at h
  simp only [State.leapInstant, ↓Part.of_ite, ↓State.leapDue_frame, ↓State.applyLeap_frame, Part.outside, h, not_false_eq_true, and_self,
      ite_self, ne_eq]

theorem State.startTime_frame {p : Part} (s : State) (h : p ∉ [Part.free, .cat, .stores, .bat, .hif, .cask, .freeze, .counter, .logs,
    .spans]) : p.of s.startTime = p.of s := by
  simp only [Part.outside] at h
  simp only [State.startTime, ↓Part.of_ite, ↓Part.of_update, ↓State.set_frame, ↓State.leapDue_frame, ↓State.openSpan_frame,
      ↓State.logOp_frame, ↓State.putClock_frame, Part.outside, h, not_false_eq_true, and_self, ite_self, implies_true, and_true,
      IsEmpty.forall_iff]

theorem State.timeStep_frame {p : Part} (s : State) (upper : Word) (h : p ∉ [Part.free, .cat, .stores, .bat, .hif, .cask, .gate, .freeze,
    .upHold, .counter, .increment, .clockwork, .logs, .uplinks, .recs, .bills, .spans, .withheld, .items, .series,
    .records]) : p.of (s.timeStep upper) = p.of s := by
  simp only [Part.outside] at h
  simp only [State.timeStep, ↓Part.of_ite, ↓Part.of_update, ↓State.takeStep_frame, Part.outside, h, not_false_eq_true, and_self,
      ite_self, implies_true, true_and, and_true, IsEmpty.forall_iff]

theorem State.incrWrite_frame {p : Part} (s : State) (int : Word) (h : p ∉ [Part.increment]) : p.of (s.incrWrite int) = p.of s := by
  simp only [Part.outside] at h
  simp only [State.incrWrite, ↓Part.of_ite, ↓State.loadIncr_frame, Part.outside, h, not_false_eq_true, and_self, ite_self]

theorem State.snapCapture_frame {p : Part} (s : State) (h : p ∉ [Part.clockwork]) : p.of s.snapCapture = p.of s := by
  simp only [Part.outside] at h
  simp only [State.snapCapture, ↓Part.of_ite, ↓Part.of_setTime, h, not_false_eq_true, ite_self, ne_eq]

theorem State.tsqPop_frame {p : Part} (s : State) (port : Nat) (h : p ∉ [Part.hif, .clockwork]) : p.of (s.tsqPop port) = p.of s := by
  simp only [Part.outside] at h
  unfold State.tsqPop
  split <;> simp only [↓Part.of_ite, ↓Part.of_set, ↓Part.of_setTime, h, not_false_eq_true, ite_self, ne_eq]

theorem State.rtcHourly_frame {p : Part} (s : State) (h : p ∉ [Part.cat, .bat]) : p.of s.rtcHourly = p.of s := by
  simp only [Part.outside] at h
  simp only [State.rtcHourly, ↓Part.of_ite, ↓State.writeRtc_frame, Part.outside, h, not_false_eq_true, and_self, ite_self]

theorem State.timeSet_frame {p : Part} (s : State) (r : CapReq) (sec ns : Nat) (h : p ∉ [Part.free, .cat, .stores, .bat, .hif, .sessions,
    .cask, .gate, .freeze, .upHold, .counter, .increment, .clockwork, .logs, .uplinks, .recs, .bills, .spans, .withheld, .items, .series,
    .records]) : p.of (s.timeSet r sec ns) = p.of s := by
  simp only [Part.outside] at h
  unfold State.timeSet
  refine State.capExec_frame _ _ _ _ (by simp only [Part.outside, h, not_false_eq_true, and_self]) fun a b => ?_
  simp only [↓Part.of_setTime, ↓State.stepCounter_frame, ↓State.logLegal_frame, ↓State.evaluate_frame, ↓State.reselect_frame,
      ↓State.writeRtc_frame, Part.outside, h, not_false_eq_true, and_self, ite_self, ne_eq, ↓Part.of_ite_snd, ↓Part.of_pair]

/-! ### Scales -/

theorem State.modNode_frame {p : Part} (s : State) (n : Nat) (f : Node → Node) (h : p ∉ [Part.nodes]) : p.of (s.modNode n f) = p.of s :=
    by
  simp only [Part.outside] at h
  simp only [State.modNode, ↓Part.of_setNand, h, not_false_eq_true, ne_eq]

theorem State.touchNode_frame {p : Part} (s : State) (x1 x2 : Nat) (h : p ∉ [Part.nodes]) : p.of (s.touchNode x1 x2) = p.of s := by
  induction x1 generalizing s x2 with
  | zero => rfl
  | succ n ih =>
    have g := h
    simp only [Part.outside] at g
    unfold State.touchNode
    split
    · rfl
    · simp only
      split
      · simp only [↓State.modNode_frame, Part.outside, g, not_false_eq_true, and_self]
      · split <;> simp only [ih, ↓State.modNode_frame, Part.outside, g, not_false_eq_true, and_self]

theorem State.nodeApply_frame {p : Part} (s : State) (a : NodeArg) (h : p ∉ [Part.cask, .nodes]) : p.of (s.nodeApply a) = p.of s := by
  simp only [Part.outside] at h
  simp only [State.nodeApply, ↓Part.of_ite, ↓Part.of_setNand, ↓State.touchNode_frame, ↓State.commit_frame, Part.outside, h,
      not_false_eq_true, and_self, ite_self, ne_eq]

theorem State.nodeWrite_frame {p : Part} (s : State) (r : CapReq) (a : NodeArg) (h : p ∉ [Part.free, .cat, .hif, .sessions, .cask,
    .nodes]) : p.of (s.nodeWrite r a) = p.of s := by
  simp only [Part.outside] at h
  unfold State.nodeWrite
  refine State.capExec_frame _ _ _ _ (by simp only [Part.outside, h, not_false_eq_true, and_self]) fun a b => ?_
  split <;> simp only [↓State.mediaGate_frame, ↓State.nodeApply_frame, ↓State.set_frame, Part.outside, h, not_false_eq_true, and_self,
      ↓Part.of_pair]

theorem State.nodeRead_frame {p : Part} (s : State) (r : CapReq) (n : Nat) (h : p ∉ [Part.free, .cat, .hif,
    .sessions]) : p.of (s.nodeRead r n) = p.of s := by
  simp only [Part.outside] at h
  unfold State.nodeRead
  refine State.capExec_frame _ _ _ _ (by simp only [Part.outside, h, not_false_eq_true, and_self]) fun a b => ?_
  (repeat' split) <;> simp only [↓Part.of_pair]

theorem State.scoreReset_frame {p : Part} (s : State) (r : CapReq) (tag : Nat) (h : p ∉ [Part.free, .cat, .hif, .sessions, .cask, .logs,
    .recs]) : p.of (s.scoreReset r tag) = p.of s := by
  simp only [Part.outside] at h
  unfold State.scoreReset
  refine State.capExec_frame _ _ _ _ (by simp only [Part.outside, h, not_false_eq_true, and_self]) fun a s => ?_
  refine State.target_frame _ _ _ _ _ (by simp only [Part.outside, h, not_false_eq_true, and_self]) fun r => ?_
  refine State.mediaGate_frame _ _ (by simp only [Part.outside, h, not_false_eq_true, and_self]) ?_
  simp only [↓State.commit_frame, ↓State.logOp_frame, ↓State.scoreLower_frame, Part.outside, h, not_false_eq_true, and_self,
      ↓Part.of_pair]

theorem State.evaluateNode_frame {p : Part} (s : State) (n : Nat) (x : Node) (ref : Record) (fin B : Nat) (h : p ∉ [Part.free, .cat,
    .hif, .cask, .upHold, .logs, .uplinks, .recs, .nodes, .records]) : p.of (s.evaluateNode n x ref fin B) = p.of s := by
  simp only [Part.outside] at h
  simp only [State.evaluateNode, ↓Part.of_ite, ↓State.modNode_frame, ↓State.bump_frame, ↓State.commit_frame, ↓State.uplink_frame,
      ↓State.logOp_frame, ↓State.scoreAdd_frame, Part.outside, h, not_false_eq_true, and_self, ite_self, ↓Part.of_foldl, implies_true]

theorem State.balanceEvaluation_frame {p : Part} (s : State) (n : Nat) (h : p ∉ [Part.free, .cat, .hif, .cask, .upHold, .logs, .uplinks,
    .recs, .nodes, .records]) : p.of (s.balanceEvaluation n) = p.of s := by
  simp only [Part.outside] at h
  simp only [State.balanceEvaluation]
  (repeat' split) <;> simp only [↓State.taiMidnight_frame, ↓State.modNode_frame, ↓State.bump_frame, ↓State.logOp_frame,
      ↓State.evaluateNode_frame, Part.outside, h, not_false_eq_true, and_self]

/-! ### Deferred -/

theorem State.deferredWork_frame {p : Part} (s : State) (tag channel : Nat) (rule fin : Nat) (h : p ∉ [Part.free, .cat, .stores, .bat,
    .hif, .cask, .gate, .freeze, .upHold, .logs, .uplinks, .recs, .bills, .items, .series,
    .records]) : p.of (s.deferredWork tag channel rule fin) = p.of s := by
  simp only [Part.outside] at h
  unfold State.deferredWork
  (repeat' split) <;> simp only [↓State.undefer_frame, ↓State.advanceFor_frame, ↓State.commit_frame, ↓State.runDeferred_frame,
      Part.outside, h, not_false_eq_true, and_self]

/-! ### MemoryOps -/

theorem State.setLine_frame {p : Part} (s : State) (n : Nat) (v : Line) (h : p ∉ [Part.lines]) : p.of (s.setLine n v) = p.of s := by
  simp only [Part.outside] at h
  simp only [State.setLine, ↓Part.of_update, h, and_self, implies_true, IsEmpty.forall_iff]

theorem State.writeLine_frame {p : Part} (s : State) (w : LineWrite) (h : p ∉ [Part.lines]) : p.of (s.writeLine w) = p.of s := by
  simp only [Part.outside] at h
  simp only [State.writeLine, ↓State.setLine_frame, Part.outside, h, not_false_eq_true, and_self]

theorem State.wakeBank_frame {p : Part} (s : State) (b : Nat) (onAccess : Bool) (h : p ∉ [Part.free, .cat,
    .memory]) : p.of (s.wakeBank b onAccess) = p.of s := by
  simp only [Part.outside] at h
  simp only [State.wakeBank, ↓Part.of_ite, ↓Part.of_setMem, ↓State.bump_frame, Part.outside, h, not_false_eq_true, and_self, ite_self,
      ne_eq]

theorem State.access_frame {p : Part} (s : State) (w : LineWrite) (h : p ∉ [Part.free, .cat, .lines,
    .memory]) : p.of (s.access w) = p.of s := by
  simp only [Part.outside] at h
  simp only [State.access, ↓Part.of_ite, ↓Part.of_setMem, ↓State.writeLine_frame, ↓State.wakeBank_frame, Part.outside, h,
      not_false_eq_true, and_self, ite_self, ne_eq]

theorem State.bankOff_frame {p : Part} (s : State) (b : Nat) (h : p ∉ [Part.lines, .memory]) : p.of (s.bankOff b) = p.of s := by
  simp only [Part.outside] at h
  simp only [State.bankOff, ↓Part.of_ite, ↓Part.of_update, h, and_self, ite_self, implies_true, and_true, IsEmpty.forall_iff]

theorem State.bankClear_frame {p : Part} (s : State) (b : Nat) (h : p ∉ [Part.lines, .memory]) : p.of (s.bankClear b) = p.of s := by
  simp only [Part.outside] at h
  simp only [State.bankClear, ↓Part.of_ite, ↓Part.of_update, ↓State.writeLine_frame, Part.outside, h, not_false_eq_true, and_self,
      ite_self, ne_eq, ↓Part.of_foldl, implies_true, and_true, IsEmpty.forall_iff]

theorem State.modQueue_frame {p : Part} (s : State) (q : Nat) (f : Seesaw → Seesaw) (h : p ∉ [Part.queues]) : p.of (s.modQueue q f) =
    p.of s := by
  simp only [Part.outside] at h
  simp only [State.modQueue, ↓Part.of_setMem, h, not_false_eq_true, ne_eq]

theorem State.takeItem_frame {p : Part} (s : State) (q : Nat) (x : Line) (h : p ∉ [Part.queues]) : p.of (s.takeItem q x) = p.of s := by
  simp only [Part.outside] at h
  simp only [State.takeItem, ↓State.modQueue_frame, Part.outside, h, not_false_eq_true, and_self]

theorem State.offerTo_frame {p : Part} (s : State) (q body : Nat) (h : p ∉ [Part.queues]) : p.of (s.offerTo q body).2 = p.of s := by
  simp only [Part.outside] at h
  unfold State.offerTo
  split <;> simp only [↓Part.of_setMem, h, not_false_eq_true, ne_eq, ↓Part.of_pair]

theorem State.freeLines_frame {p : Part} (s : State) (n : Nat) (h : p ∉ [Part.free]) : p.of (s.freeLines n).2 = p.of s := by
  simp only [Part.outside] at h
  simp only [State.freeLines, ↓State.draw_frame, Part.outside, h, not_false_eq_true, and_self]

theorem State.writeLines_frame {p : Part} (s : State) (line n data : Nat) (h : p ∉ [Part.lines]) : p.of (s.writeLines line n data) = p.of
    s := by
  simp only [Part.outside] at h
  simp only [State.writeLines, ↓State.setLine_frame, Part.outside, h, not_false_eq_true, and_self, ↓Part.of_foldl, implies_true]

theorem State.placeData_frame {p : Part} (s : State) (line n data : Nat) (h : p ∉ [Part.free, .cat, .lines,
    .memory]) : p.of (s.placeData line n data) = p.of s := by
  simp only [Part.outside] at h
  simp only [State.placeData, ↓Part.of_ite, ↓State.writeLines_frame, ↓State.access_frame, Part.outside, h, not_false_eq_true, and_self,
      ite_self, ↓Part.of_foldl, implies_true]

theorem State.pushFrame_frame {p : Part} (s : State) (cell head n : Nat) (at_ : Option Nat) (length data : Nat) (h : p ∉ [Part.free,
    .cat, .lines, .queues, .memory]) : p.of (s.pushFrame cell head n at_ length data).2.2 = p.of s := by
  simp only [Part.outside] at h
  simp only [State.pushFrame, ↓State.freeLines_frame, ↓State.placeData_frame, ↓State.offerTo_frame, Part.outside, h, not_false_eq_true,
      and_self]

theorem State.modFrame_frame {p : Part} (s : State) (id : Nat) (g : Frame → Frame) (h : p ∉ [Part.frames]) : p.of (s.modFrame id g) =
    p.of s := by
  simp only [Part.outside] at h
  simp only [State.modFrame, ↓Part.of_set, h, not_false_eq_true, ne_eq]

theorem State.takeAsk_frame {p : Part} (s : State) (f : Frame) (h : p ∉ [Part.queues]) : p.of (s.takeAsk f) = p.of s := by
  simp only [Part.outside] at h
  simp only [State.takeAsk, ↓Part.of_ite, ↓State.takeItem_frame, Part.outside, h, not_false_eq_true, and_self, ite_self]

theorem State.askResponse_frame {p : Part} (s : State) (f : Frame) (h : p ∉ [Part.queues]) : p.of (s.askResponse f).2 = p.of s := by
  simp only [Part.outside] at h
  simp only [State.askResponse, ↓State.offerTo_frame, Part.outside, h, not_false_eq_true, and_self]

theorem State.takeFrom_frame {p : Part} (s : State) (f : Frame) (h : p ∉ [Part.queues]) : p.of (s.takeFrom f) = p.of s := by
  simp only [Part.outside] at h
  unfold State.takeFrom
  split <;> simp only [↓State.takeItem_frame, Part.outside, h, not_false_eq_true, and_self]

theorem State.dropFrame_frame {p : Part} (s : State) (id : Nat) (h : p ∉ [Part.frames, .queues]) : p.of (s.dropFrame id) = p.of s := by
  simp only [Part.outside] at h
  unfold State.dropFrame
  split <;> simp only [↓Part.of_set, ↓State.takeAsk_frame, ↓State.takeFrom_frame, Part.outside, h, not_false_eq_true, and_self, ne_eq]

theorem State.served_frame {p : Part} (s : State) (f : Frame) (h : p ∉ [Part.memory]) : p.of (s.served f) = p.of s := by
  simp only [Part.outside] at h
  simp only [State.served, ↓Part.of_ite, ↓Part.of_setMem, h, not_false_eq_true, ite_self, ne_eq]

theorem State.toStage_frame {p : Part} (s : State) (f : Frame) (stage : Nat) (h : p ∉ [Part.frames, .queues,
    .memory]) : p.of (s.toStage f stage) = p.of s := by
  simp only [Part.outside] at h
  unfold State.toStage
  split <;> simp only [↓Part.of_set, ↓State.takeFrom_frame, ↓State.served_frame, ↓State.offerTo_frame, Part.outside, h,
      not_false_eq_true, and_self, ne_eq]

theorem State.seesawPush_frame {p : Part} (s : State) (q port width : Nat) (x : Line) (h : p ∉ [Part.free, .cat,
    .queues]) : p.of (s.seesawPush q port width x) = p.of s := by
  simp only [Part.outside] at h
  unfold State.seesawPush
  split <;> simp only [↓Part.of_ite, ↓Part.of_setMem, ↓State.bump_frame, Part.outside, h, not_false_eq_true, and_self, ite_self, ne_eq]

/-! ### LocketOps -/

theorem State.setKek_frame {p : Part} (s : State) (t slot : Nat) (k : KekSlot) (h : p ∉ [Part.loc]) : p.of (s.setKek t slot k) = p.of s
    := by
  simp only [Part.outside] at h
  simp only [State.setKek, ↓Part.of_set, h, not_false_eq_true, ne_eq]

theorem State.putBlob_frame {p : Part} (s : State) (r : Record) (b : Nat) (h : p ∉ [Part.recs,
    .blobs]) : p.of (s.putBlob r b) = p.of s := by
  simp only [Part.outside] at h
  unfold State.putBlob
  split <;> simp only [↓Part.of_setNand, ↓State.modRecord_frame, Part.outside, h, not_false_eq_true, and_self, ne_eq]

theorem State.freeOldBlobs_frame {p : Part} (s : State) (h : p ∉ [Part.blobs]) : p.of s.freeOldBlobs = p.of s := by
  simp only [Part.outside] at h
  simp only [State.freeOldBlobs, ↓Part.of_setNand, h, not_false_eq_true, ne_eq]

theorem State.refuseBlob_frame {p : Part} (s : State) (r : Record) (code : Nat) (h : p ∉ [Part.free, .cat, .hif, .logs,
    .recs]) : p.of (s.refuseBlob r code) = p.of s := by
  simp only [Part.outside] at h
  simp only [State.refuseBlob, ↓Part.of_ite, ↓State.bump_frame, ↓State.modRecord_frame, ↓State.logSec_frame, Part.outside, h,
      not_false_eq_true, and_self, ite_self]

theorem State.refuseSecurity_frame {p : Part} (s : State) (r : Record) (h : p ∉ [Part.free, .cat, .hif,
    .logs]) : p.of (s.refuseSecurity r) = p.of s := by
  simp only [Part.outside] at h
  simp only [State.refuseSecurity, ↓State.logSec_frame, ↓State.bump_frame, Part.outside, h, not_false_eq_true, and_self]

theorem State.purgeDedicated_frame {p : Part} (s : State) (tags : List Nat) (h : p ∉ [Part.loc]) : p.of (s.purgeDedicated tags) = p.of s
    := by
  simp only [Part.outside] at h
  simp only [State.purgeDedicated, ↓Part.of_set, h, not_false_eq_true, ne_eq]

theorem State.applyEntry_frame {p : Part} (s : State) (t : Nat) (e : KeyEntry) (h : p ∉ [Part.free, .loc, .recs, .blobs]) : ∀ u,
    s.applyEntry t e = some u → p.of u = p.of s := by
  simp only [Part.outside] at h
  intro u e
  unfold State.applyEntry at e
  split at e
  · simp only [Option.ite_none_right_eq_some, Option.some.injEq] at e
    obtain ⟨-, rfl⟩ := e
    simp only [↓Part.of_set, h, not_false_eq_true, ne_eq]
  · simp only [Option.ite_none_right_eq_some, Option.map_eq_some_iff] at e
    obtain ⟨-, k, -, rfl⟩ := e
    simp only [↓State.setKek_frame, Part.outside, h, not_false_eq_true, and_self]
  · simp only [Option.ite_none_left_eq_some, Option.map_eq_some_iff] at e
    obtain ⟨-, k, -, rfl⟩ := e
    simp only [↓State.purgeDedicated_frame, ↓Part.of_set, ↓State.setKek_frame, Part.outside, h, not_false_eq_true, and_self, ne_eq]
  · split at e
    · exact nomatch e
    · simp only at e
      split at e
      · exact nomatch e
      · simp only [Option.ite_none_right_eq_some, Option.some.injEq] at e
        obtain ⟨-, rfl⟩ := e
        simp only [↓Part.of_set, ↓State.modRecord_frame, ↓State.putBlob_frame, Part.outside, h, not_false_eq_true, and_self, ne_eq]
  · simp only [Option.ite_none_right_eq_some, Option.some.injEq] at e
    obtain ⟨-, rfl⟩ := e
    simp only [↓Part.of_set, h, not_false_eq_true, ne_eq]
  · simp only [Option.ite_none_left_eq_some] at e
    obtain ⟨-, e⟩ := e
    split at e
    · obtain ⟨k, -, rfl⟩ := Option.map_eq_some_iff.1 e
      simp only [↓State.setKek_frame, ↓State.draw_frame, Part.outside, h, not_false_eq_true, and_self]
    · simp only [Option.ite_none_right_eq_some, Option.some.injEq] at e
      obtain ⟨-, rfl⟩ := e
      simp only [↓Part.of_set, ↓State.draw_frame, Part.outside, h, not_false_eq_true, and_self, ne_eq]
  · obtain rfl := Option.some.inj e
    simp only [↓State.purgeDedicated_frame, ↓Part.of_set, Part.outside, h, not_false_eq_true, and_self, ne_eq]
  · exact nomatch e

theorem State.applyEntries_frame {p : Part} (s : State) (t x2 : Nat) (x3 : List KeyEntry) (h : p ∉ [Part.free, .loc, .recs,
    .blobs]) : p.of (s.applyEntries t x2 x3).1 = p.of s := by
  induction x3 generalizing s x2 with
  | nil => rfl
  | cons e es ih =>
    unfold State.applyEntries
    split
    · rename_i u he
      exact (ih u (x2 + 1)).trans (s.applyEntry_frame t e h u he)
    · rfl

theorem State.persistKeys_frame {p : Part} (s : State) (h : p ∉ [Part.records]) : p.of s.persistKeys = p.of s := by
  simp only [Part.outside] at h
  simp only [State.persistKeys, ↓Part.of_setNand, h, not_false_eq_true, ne_eq]

theorem State.storeKeys_frame {p : Part} (s : State) (h : p ∉ [Part.free, .cat, .stores, .bat, .loc,
    .records]) : p.of s.storeKeys = p.of s := by
  simp only [Part.outside] at h
  unfold State.storeKeys
  split <;> simp only [↓Part.of_update, ↓State.commitPaired_frame, Part.outside, h, not_false_eq_true, and_self, implies_true, true_and,
      and_true, IsEmpty.forall_iff]

theorem State.drain_frame {p : Part} (s : State) (t slot : Nat) (h : p ∉ [Part.free, .cat, .hif, .loc, .logs,
    .records]) : p.of (s.drain t slot) = p.of s := by
  simp only [Part.outside] at h
  simp only [State.drain]
  (repeat' split) <;> simp only [↓State.logSec_frame, ↓State.persistKeys_frame, ↓State.setKek_frame, Part.outside, h, not_false_eq_true,
      and_self]

theorem State.keyResult_frame {p : Part} (s : State) (code t : Nat) (idx counter : Nat) (h : p ∉ [Part.cat]) : p.of (s.keyResult code t
    idx counter).2 = p.of s := by
  simp only [Part.outside] at h
  simp only [State.keyResult, ↓State.set_frame, Part.outside, h, not_false_eq_true, and_self]

theorem State.ensureSalt_frame {p : Part} (s : State) (h : p ∉ [Part.free, .bat]) : p.of s.ensureSalt = p.of s := by
  simp only [Part.outside] at h
  simp only [State.ensureSalt, ↓Part.of_ite, ↓Part.of_set, ↓State.draw_frame, Part.outside, h, not_false_eq_true, and_self, ite_self,
      ne_eq]

theorem State.keyUpdateApply_frame {p : Part} (s : State) (e : Epmeir) (u : KeyUpdate) (h : p ∉ [Part.free, .cat, .bat, .hif, .cask,
    .loc, .logs, .blobs, .records]) : p.of (s.keyUpdateApply e u) = p.of s := by
  simp only [Part.outside] at h
  simp only [State.keyUpdateApply, ↓State.persistKeys_frame, ↓State.set_frame, ↓State.ensureSalt_frame, ↓State.freeOldBlobs_frame,
      ↓State.commit_frame, ↓State.logSec_frame, ↓State.drain_frame, Part.outside, h, not_false_eq_true, and_self, ↓Part.of_foldl,
      implies_true]

theorem State.keyUpdateBody_frame {p : Part} (s : State) (e : Epmeir) (u : KeyUpdate) (ses : Session) (h : p ∉ [Part.free, .cat, .bat,
    .hif, .cask, .loc, .logs, .recs, .blobs, .records]) : p.of (s.keyUpdateBody e u ses).2 = p.of s := by
  simp only [Part.outside] at h
  have k : p.of (s.applyEntries u.tenant 0 u.entries).1 = p.of s := by
    simp only [↓State.applyEntries_frame, Part.outside, h, not_false_eq_true, and_self]
  unfold State.keyUpdateBody
  split
  · rfl
  · split
    · simp only [↓State.keyResult_frame, Part.outside, h, not_false_eq_true, and_self]
    · split
      · split
        · simp only [↓State.keyResult_frame, Part.outside, h, not_false_eq_true, and_self]
        · rename_i w e
          rw [e] at k
          simp only [↓State.keyResult_frame, ↓State.bump_frame, ↓State.keyUpdateApply_frame, Part.outside, h, not_false_eq_true,
              and_self, ite_self, ne_eq, ↓Part.of_ite_snd, ↓Part.of_pair, k]
      · simp only [↓State.keyResult_frame, Part.outside, h, not_false_eq_true, and_self]

theorem State.keyUpdateSubmit_frame {p : Part} (s : State) (r : CapReq) (e : Epmeir) (u : KeyUpdate) (h : p ∉ [Part.free, .cat, .bat,
    .hif, .sessions, .cask, .loc, .parked, .logs, .recs, .blobs, .records]) : p.of (s.keyUpdateSubmit r e u) = p.of s := by
  simp only [Part.outside] at h
  unfold State.keyUpdateSubmit
  refine State.capOrdered_frame _ _ _ _ _ _ (by simp only [Part.outside, h, not_false_eq_true, and_self]) fun a b => ?_
  simp only [↓State.keyUpdateBody_frame, Part.outside, h, not_false_eq_true, and_self]

theorem State.rewrap_frame {p : Part} (s : State) (tag : Nat) (h : p ∉ [Part.free, .cat, .hif, .cask, .loc, .logs, .recs, .blobs,
    .records]) : p.of (s.rewrap tag) = p.of s := by
  have key : ∀ f, f = State.rewrap → p.of (f s tag) = p.of s := by
    intro f hf
    delta State.rewrap at hf
    subst hf
    simp only [Part.outside] at h
    beta_reduce
    split
    · rfl
    · split
      · rfl
      · extract_lets t slot k
        split
        · split
          · rfl
          · split
            · extract_lets n
              simp only [↓State.drain_frame, ↓State.freeOldBlobs_frame, ↓State.commit_frame, ↓State.putBlob_frame, Part.outside, h,
                  not_false_eq_true, and_self]
            · simp only [↓State.drain_frame, ↓State.bump_frame, ↓State.modRecord_frame, Part.outside, h, not_false_eq_true, and_self]
        · rfl
  exact key _ rfl

theorem State.rekeyMark_frame {p : Part} (s : State) (tag : Nat) (h : p ∉ [Part.cask, .loc,
    .recs]) : p.of (s.rekeyMark tag) = p.of s := by
  simp only [Part.outside] at h
  simp only [State.rekeyMark, ↓Part.of_ite, ↓Part.of_set, ↓State.commit_frame, ↓State.modRecord_frame, Part.outside, h,
      not_false_eq_true, and_self, ite_self, ne_eq]

theorem State.sign_frame {p : Part} (s : State) (key body : Nat) (h : p ∉ [Part.free]) : p.of (s.sign key body).2 = p.of s := by
  simp only [Part.outside] at h
  simp only [State.sign, ↓State.draw_frame, Part.outside, h, not_false_eq_true, and_self]

theorem State.attestRequest_frame {p : Part} (s : State) (r : CapReq) (t kind : Nat) (slot g nonce : Nat) (h : p ∉ [Part.free, .cat,
    .hif, .sessions]) : p.of (s.attestRequest r t kind slot g nonce) = p.of s := by
  simp only [Part.outside] at h
  unfold State.attestRequest
  refine State.capExec_frame _ _ _ _ (by simp only [Part.outside, h, not_false_eq_true, and_self]) fun a b => ?_
  (repeat' split) <;> simp only [↓State.sign_frame, Part.outside, h, not_false_eq_true, and_self, ↓Part.of_pair]

theorem State.maskRefresh_frame {p : Part} (s : State) (w : Nat) (h : p ∉ [Part.free, .loc]) : p.of (s.maskRefresh w) = p.of s := by
  simp only [Part.outside] at h
  simp only [State.maskRefresh, ↓Part.of_ite, ↓Part.of_set, ↓State.draw_frame, Part.outside, h, not_false_eq_true, and_self, ite_self,
      ne_eq]

theorem State.holdKey_frame {p : Part} (s : State) (frame key : Nat) (h : p ∉ [Part.loc]) : p.of (s.holdKey frame key) = p.of s := by
  simp only [Part.outside] at h
  unfold State.holdKey
  split <;> simp only [↓Part.of_set, h, not_false_eq_true, ne_eq]

theorem State.purgeSlot_frame {p : Part} (s : State) (id : Nat) (h : p ∉ [Part.loc]) : p.of (s.purgeSlot id) = p.of s := by
  simp only [Part.outside] at h
  simp only [State.purgeSlot, ↓Part.of_set, h, not_false_eq_true, ne_eq]

theorem State.holdDedicated_frame {p : Part} (s : State) (tag key : Nat) (h : p ∉ [Part.loc]) : p.of (s.holdDedicated tag key) = p.of s
    := by
  simp only [Part.outside] at h
  simp only [State.holdDedicated, ↓Part.of_ite, ↓Part.of_set, h, not_false_eq_true, ite_self, ne_eq]

theorem State.openTraffic_frame {p : Part} (s : State) (session : Nat) (h : p ∉ [Part.free,
    .loc]) : p.of (s.openTraffic session) = p.of s := by
  simp only [Part.outside] at h
  simp only [State.openTraffic, ↓Part.of_set, ↓State.draw_frame, Part.outside, h, not_false_eq_true, and_self, ne_eq]

theorem State.closeTraffic_frame {p : Part} (s : State) (session : Nat) (h : p ∉ [Part.loc]) : p.of (s.closeTraffic session) = p.of s :=
    by
  simp only [Part.outside] at h
  simp only [State.closeTraffic, ↓Part.of_set, h, not_false_eq_true, ne_eq]

theorem State.deriveDevice_frame {p : Part} (s : State) (h : p ∉ [Part.free, .loc]) : p.of s.deriveDevice = p.of s := by
  simp only [Part.outside] at h
  simp only [State.deriveDevice, ↓Part.of_set, ↓State.draw_frame, Part.outside, h, not_false_eq_true, and_self, ne_eq]

theorem State.drbgReseed_frame {p : Part} (s : State) (h : p ∉ [Part.free, .loc]) : p.of s.drbgReseed = p.of s := by
  simp only [Part.outside] at h
  simp only [State.drbgReseed, ↓Part.of_ite, ↓Part.of_set, ↓State.draw_frame, Part.outside, h, not_false_eq_true, and_self, ite_self,
      ne_eq]

theorem State.entropyFailure_frame {p : Part} (s : State) (h : p ∉ [Part.free, .cat, .hif, .loc,
    .logs]) : p.of s.entropyFailure = p.of s := by
  simp only [Part.outside] at h
  simp only [State.entropyFailure, ↓Part.of_ite, ↓Part.of_set, ↓State.logSec_frame, ↓State.bump_frame, Part.outside, h,
      not_false_eq_true, and_self, ite_self, ne_eq]

theorem State.entropyRecovered_frame {p : Part} (s : State) (h : p ∉ [Part.loc]) : p.of s.entropyRecovered = p.of s := by
  simp only [Part.outside] at h
  simp only [State.entropyRecovered, ↓Part.of_ite, ↓Part.of_set, h, not_false_eq_true, ite_self, ne_eq]

theorem State.zeroize_frame {p : Part} (s : State) (h : p ∉ [Part.free, .cat, .stores, .bat, .pw, .hif, .cask, .gate, .pat, .loc,
    .freeze, .frames, .upHold, .queues, .logs, .uplinks, .recs, .bills, .ingest, .withheld, .items, .series,
    .records]) : p.of s.zeroize = p.of s := by
  simp only [Part.outside] at h
  simp only [State.zeroize, ↓Part.of_ite, ↓Part.of_update, ↓State.dropFrame_frame, ↓State.finishReplay_frame, ↓State.bistAbort_frame,
      ↓State.set_frame, Part.outside, h, not_false_eq_true, and_self, ite_self, ↓Part.of_foldl, implies_true, IsEmpty.forall_iff]

theorem State.zeroizeRelease_frame {p : Part} (s : State) (h : p ∉ [Part.free, .loc]) : p.of s.zeroizeRelease = p.of s := by
  simp only [Part.outside] at h
  simp only [State.zeroizeRelease, ↓Part.of_ite, ↓Part.of_set, ↓State.deriveDevice_frame, Part.outside, h, not_false_eq_true, and_self,
      ite_self, ne_eq]

/-! ### Arrival -/

theorem State.copyTo_frame {p : Part} (s : State) (f : Frame) (q : Nat) (h : p ∉ [Part.free, .cat,
    .hif]) : p.of (s.copyTo f q) = p.of s := by
  simp only [Part.outside] at h
  unfold State.copyTo
  (repeat' split) <;> simp only [↓State.hqStarve_frame, ↓State.hqCompleteAt_frame, Part.outside, h, not_false_eq_true, and_self]

theorem State.arrive_frame {p : Part} (s : State) (f : Frame) (h : p ∉ [Part.free, .cat, .hif, .frames, .nextFrame, .lines, .queues,
    .memory]) : p.of (s.arrive f) = p.of s := by
  simp only [Part.outside] at h
  simp only [State.arrive, ↓Part.of_ite, ↓Part.of_update, ↓State.pushFrame_frame, ↓State.copyTo_frame, Part.outside, h,
      not_false_eq_true, and_self, ite_self, ↓Part.of_foldl, implies_true, IsEmpty.forall_iff]

/-! ### Carousel -/

theorem State.setIq_frame {part : Part} (s : State) (p code lanes : Nat) (h : part ∉ [Part.cat]) : part.of (s.setIq p code lanes) =
    part.of s := by
  simp only [Part.outside] at h
  simp only [State.setIq, ↓State.set_frame, Part.outside, h, not_false_eq_true, and_self]

theorem State.abortPort_frame {part : Part} (s : State) (p : Nat) (h : part ∉ [Part.car]) : part.of (s.abortPort p) = part.of s := by
  simp only [Part.outside] at h
  simp only [State.abortPort, ↓Part.of_set, h, not_false_eq_true, ne_eq]

theorem State.trainPort_frame {part : Part} (s : State) (p : Nat) (pattern : Bool) (h : part ∉ [Part.cat,
    .car]) : part.of (s.trainPort p pattern) = part.of s := by
  simp only [Part.outside] at h
  simp only [State.trainPort, ↓Part.of_set, ↓State.setIq_frame, ↓State.abortPort_frame, Part.outside, h, not_false_eq_true, and_self,
      ne_eq]

theorem State.iqRetrain_frame {part : Part} (s : State) (r : CapReq) (p : Nat) (h : part ∉ [Part.free, .cat, .hif, .sessions,
    .car]) : part.of (s.iqRetrain r p) = part.of s := by
  simp only [Part.outside] at h
  simp only [State.iqRetrain, ↓Part.of_ite, ↓State.capExec_frame, ↓State.trainPort_frame, ↓State.capRun_frame, Part.outside, h,
      not_false_eq_true, and_self, ite_self, ↓Part.of_pair, implies_true]

theorem State.trainingPass_frame {part : Part} (s : State) (p : Nat) (h : part ∉ [Part.cat]) : part.of (s.trainingPass p) = part.of s :=
    by
  simp only [Part.outside] at h
  simp only [State.trainingPass, ↓Part.of_ite, ↓State.setIq_frame, Part.outside, h, not_false_eq_true, and_self, ite_self]

theorem State.trainingTimeout_frame {part : Part} (s : State) (p lanes : Nat) (h : part ∉ [Part.cat]) : part.of (s.trainingTimeout p
    lanes) = part.of s := by
  simp only [Part.outside] at h
  simp only [State.trainingTimeout, ↓Part.of_ite, ↓State.setIq_frame, Part.outside, h, not_false_eq_true, and_self, ite_self]

theorem State.portFault_frame {part : Part} (s : State) (p kind : Nat) (h : part ∉ [Part.free, .cat, .hif, .car,
    .logs]) : part.of (s.portFault p kind) = part.of s := by
  simp only [Part.outside] at h
  simp only [State.portFault, ↓Part.of_ite, ↓Part.of_set, ↓State.logOp_frame, ↓State.bump_frame, ↓State.trainPort_frame,
      ↓State.setIq_frame, ↓State.abortPort_frame, Part.outside, h, not_false_eq_true, and_self, ite_self, ne_eq]

theorem State.clockRestored_frame {part : Part} (s : State) (p : Nat) (h : part ∉ [Part.cat,
    .car]) : part.of (s.clockRestored p) = part.of s := by
  simp only [Part.outside] at h
  simp only [State.clockRestored, ↓Part.of_ite, ↓Part.of_set, ↓State.trainPort_frame, Part.outside, h, not_false_eq_true, and_self,
      ite_self, ne_eq]

theorem State.clippedMs_frame {part : Part} (s : State) (p n : Nat) (h : part ∉ [Part.free, .cat,
    .car]) : part.of (s.clippedMs p n) = part.of s := by
  simp only [Part.outside] at h
  simp only [State.clippedMs, ↓Part.of_ite, ↓Part.of_set, ↓State.bumpBy_frame, Part.outside, h, not_false_eq_true, and_self, ite_self,
      ne_eq]

theorem State.modDemod_frame {p : Part} (s : State) (id : Nat) (f : Demod → Demod) (h : p ∉ [Part.car]) : p.of (s.modDemod id f) = p.of s
    := by
  simp only [Part.outside] at h
  simp only [State.modDemod, ↓Part.of_set, h, not_false_eq_true, ne_eq]

theorem State.releaseDemod_frame {p : Part} (s : State) (id : Nat) (h : p ∉ [Part.car]) : p.of (s.releaseDemod id) = p.of s := by
  simp only [Part.outside] at h
  simp only [State.releaseDemod, ↓Part.of_set, h, not_false_eq_true, ne_eq]

theorem State.finishGroup_frame {p : Part} (s : State) (g : Group) (h : p ∉ [Part.free, .cat,
    .car]) : p.of (s.finishGroup g) = p.of s := by
  simp only [Part.outside] at h
  simp only [State.finishGroup, ↓Part.of_set, ↓State.bumpBy_frame, Part.outside, h, not_false_eq_true, and_self, ne_eq]

theorem State.closeGroup_frame {p : Part} (s : State) (id : Nat) (h : p ∉ [Part.free, .cat, .car]) : p.of (s.closeGroup id) = p.of s := by
  simp only [Part.outside] at h
  unfold State.closeGroup
  split <;> simp only [↓Part.of_ite, ↓Part.of_set, ↓State.finishGroup_frame, Part.outside, h, not_false_eq_true, and_self, ite_self,
      ne_eq]

theorem State.snippet_frame {p : Part} (s : State) (id n : Nat) (spilled : Bool) (h : p ∉ [Part.free,
    .cat]) : p.of (s.snippet id n spilled).2 = p.of s := by
  simp only [Part.outside] at h
  unfold State.snippet
  (repeat' split) <;> simp only [↓State.bump_frame, Part.outside, h, not_false_eq_true, and_self, ↓Part.of_pair]

theorem State.loseSnippet_frame {p : Part} (s : State) (d : Demod) (h : p ∉ [Part.free, .cat,
    .car]) : p.of (s.loseSnippet d) = p.of s := by
  simp only [Part.outside] at h
  simp only [State.loseSnippet, ↓Part.of_set, ↓State.modDemod_frame, ↓State.closeGroup_frame, Part.outside, h, not_false_eq_true,
      and_self, ne_eq]

theorem State.growSnippet_frame {p : Part} (s : State) (id ns : Nat) (h : p ∉ [Part.free, .cat,
    .car]) : p.of (s.growSnippet id ns) = p.of s := by
  simp only [Part.outside] at h
  unfold State.growSnippet
  split
  · rfl
  · rename_i d _
    split
    · rfl
    · rename_i m _
      have k : p.of (s.snippet id (Nat.max m.bytes (snippetBytes d.det.grid ns)) m.spilled).2 = p.of s :=
        s.snippet_frame _ _ _ (by simp only [Part.outside, h, not_false_eq_true, and_self])
      split <;> rename_i e <;> rw [e] at k <;> simp only [↓State.modDemod_frame, ↓State.loseSnippet_frame, Part.outside, h,
          not_false_eq_true, and_self, k]

theorem State.growSnippets_frame {p : Part} (s : State) (h : p ∉ [Part.free, .cat, .car]) : p.of s.growSnippets = p.of s := by
  simp only [Part.outside] at h
  simp only [State.growSnippets, ↓State.growSnippet_frame, Part.outside, h, not_false_eq_true, and_self, ↓Part.of_foldl, implies_true]

theorem State.joinGroup_frame {p : Part} (s : State) (n : Demod) (h : p ∉ [Part.free, .cat, .car]) : p.of (s.joinGroup n) = p.of s := by
  simp only [Part.outside] at h
  unfold State.joinGroup
  split <;> simp only [↓Part.of_ite, ↓Part.of_set, ↓State.bump_frame, ↓State.modDemod_frame, Part.outside, h, not_false_eq_true,
      and_self, ite_self, ne_eq]

theorem State.assign_frame {p : Part} (s : State) (d : Det) (reserved : Bool) (h : p ∉ [Part.free, .cat,
    .car]) : p.of (s.assign d reserved) = p.of s := by
  have key : ∀ f, f = State.assign → p.of (f s d reserved) = p.of s := by
    intro f hf
    delta State.assign at hf
    subst hf
    beta_reduce
    extract_lets id
    simp only [Part.outside] at h
    have k : p.of (s.snippet id (snippetBytes d.grid (s.now - d.syncNs)) false).2 = p.of s := s.snippet_frame _ _ _ (by simp only
        [Part.outside, h, not_false_eq_true, and_self])
    generalize s.snippet id (snippetBytes d.grid (s.now - d.syncNs)) false = w at k ⊢
    obtain ⟨snip, t⟩ := w
    simp only [↓State.joinGroup_frame, ↓Part.of_set, Part.outside, h, not_false_eq_true, and_self, ne_eq]
    exact k
  exact key _ rfl

theorem State.detect_frame {p : Part} (s : State) (d : Det) (h : p ∉ [Part.free, .cat, .car]) : p.of (s.detect d) = p.of s := by
  simp only [Part.outside] at h
  simp only [State.detect, ↓Part.of_ite]
  (repeat' split) <;> simp only [↓State.bump_frame, ↓State.assign_frame, ↓State.closeGroup_frame, ↓State.releaseDemod_frame,
      Part.outside, h, not_false_eq_true, and_self]

theorem State.detectAll_frame {p : Part} (s : State) (ds : List Det) (h : p ∉ [Part.free, .cat,
    .car]) : p.of (s.detectAll ds) = p.of s := by
  simp only [Part.outside] at h
  simp only [State.detectAll, ↓State.detect_frame, ↓State.growSnippets_frame, Part.outside, h, not_false_eq_true, and_self,
      ↓Part.of_foldl, implies_true]

theorem State.deliver_frame {p : Part} (s : State) (d : Demod) (i : RxInfo) (pass : Nat) (h : p ∉ [Part.free, .cat, .hif, .frames,
    .nextFrame, .lines, .queues, .memory]) : p.of (s.deliver d i pass) = p.of s := by
  simp only [Part.outside] at h
  simp only [State.deliver, ↓State.bump_frame, ↓State.arrive_frame, Part.outside, h, not_false_eq_true, and_self]

theorem State.frameEnds_frame {p : Part} (s : State) (id ns phase : Nat) (h : p ∉ [Part.free, .cat,
    .car]) : p.of (s.frameEnds id ns phase) = p.of s := by
  simp only [Part.outside] at h
  simp only [State.frameEnds]
  (repeat' split) <;> simp only [↓State.growSnippet_frame, ↓State.releaseDemod_frame, ↓State.closeGroup_frame, ↓State.modDemod_frame,
      Part.outside, h, not_false_eq_true, and_self]

theorem State.frameDelivery_frame {p : Part} (s : State) (id : Nat) (ok : Bool) (i : RxInfo) (h : p ∉ [Part.free, .cat, .hif, .frames,
    .nextFrame, .car, .lines, .queues, .memory]) : p.of (s.frameDelivery id ok i) = p.of s := by
  simp only [Part.outside] at h
  simp only [State.frameDelivery]
  (repeat' split) <;> simp only [↓State.growSnippets_frame, ↓State.frameEnds_frame, ↓State.deliver_frame, ↓State.bump_frame,
      Part.outside, h, not_false_eq_true, and_self]

theorem State.abandon_frame {p : Part} (s : State) (id : Nat) (h : p ∉ [Part.free, .cat, .car]) : p.of (s.abandon id) = p.of s := by
  simp only [Part.outside] at h
  simp only [State.abandon]
  (repeat' split) <;> simp only [↓State.growSnippets_frame, ↓State.frameEnds_frame, Part.outside, h, not_false_eq_true, and_self]

theorem State.maxHold_frame {p : Part} (s : State) (id : Nat) (h : p ∉ [Part.free, .cat, .car]) : p.of (s.maxHold id) = p.of s := by
  simp only [Part.outside] at h
  unfold State.maxHold
  split <;> simp only [↓Part.of_ite, ↓State.abandon_frame, Part.outside, h, not_false_eq_true, and_self, ite_self]

theorem State.cancel_frame {p : Part} (s : State) (id : Nat) (decoded : List (Nat × RxInfo)) (h : p ∉ [Part.free, .cat, .hif, .frames,
    .nextFrame, .car, .lines, .queues, .memory]) : p.of (s.cancel id decoded) = p.of s := by
  simp only [Part.outside] at h
  unfold State.cancel
  split
  · rfl
  · split
    · rfl
    · simp only
      split
      · simp only [↓State.growSnippets_frame, Part.outside, h, not_false_eq_true, and_self]
      · simp only [↓Part.of_ite, ↓State.finishGroup_frame, Part.outside, h, not_false_eq_true, and_self, ite_self]
        refine (Part.of_foldl _ _ _ _ fun s d => ?_).trans ?_
        · split <;> simp only [↓State.bump_frame, ↓State.modDemod_frame, ↓State.deliver_frame, Part.outside, h, not_false_eq_true,
            and_self]
        · simp only [↓State.modDemod_frame, ↓Part.of_set, ↓State.growSnippets_frame, Part.outside, h, not_false_eq_true, and_self, ne_eq]

/-! ### Downlink -/

theorem State.stageBody_frame {p : Part} (s : State) (a : ItemArg) (ses : Session) (h : p ∉ [Part.free, .cat, .hif, .cask, .logs, .recs,
    .items, .series]) : p.of (s.stageBody a ses).2 = p.of s := by
  simp only [Part.outside] at h
  unfold State.stageBody
  refine State.target_frame _ _ _ _ _ (by simp only [Part.outside, h, not_false_eq_true, and_self]) fun r => ?_
  split
  · rfl
  · split
    · rfl
    · refine State.mediaGate_frame _ _ (by simp only [Part.outside, h, not_false_eq_true, and_self]) ?_
      simp only [↓State.stage_frame, Part.outside, h, not_false_eq_true, and_self, ↓Part.of_pair]

theorem State.stageWithdraw_frame {p : Part} (s : State) (r : CapReq) (tag seq : Nat) (h : p ∉ [Part.free, .cat, .hif, .sessions, .gate,
    .upHold, .logs, .uplinks, .recs, .bills, .items]) : p.of (s.stageWithdraw r tag seq) = p.of s := by
  simp only [Part.outside] at h
  unfold State.stageWithdraw
  refine State.capExec_frame _ _ _ _ (by simp only [Part.outside, h, not_false_eq_true, and_self]) fun a s => ?_
  refine State.target_frame _ _ _ _ _ (by simp only [Part.outside, h, not_false_eq_true, and_self]) fun r => ?_
  split
  · rfl
  · split
    · rfl
    · refine State.mediaGate_frame _ _ (by simp only [Part.outside, h, not_false_eq_true, and_self]) ?_
      simp only [↓Part.of_pair, ↓State.dropItem_frame, Part.outside, h, not_false_eq_true, and_self]

theorem State.itemExpiry_frame {p : Part} (s : State) (seq : Nat) (h : p ∉ [Part.free, .cat, .hif, .gate, .upHold, .logs, .uplinks,
    .recs, .bills, .items]) : p.of (s.itemExpiry seq) = p.of s := by
  simp only [Part.outside] at h
  unfold State.itemExpiry
  (repeat' split) <;> simp only [↓State.dropItem_frame, Part.outside, h, not_false_eq_true, and_self]

theorem State.settleResponse_frame {p : Part} (s : State) (id : Nat) (missed : Bool) (h : p ∉ [Part.frames,
    .queues]) : p.of (s.settleResponse id missed) = p.of s := by
  simp only [Part.outside] at h
  have k : p.of (((s.frame id).map s.takeAsk).getD s) = p.of s := by
    refine Part.of_getD fun u e => ?_
    obtain ⟨f, -, rfl⟩ := Option.map_eq_some_iff.1 e
    simp only [↓State.takeAsk_frame, Part.outside, h, not_false_eq_true, and_self]
  unfold State.settleResponse
  simp only [↓Part.of_set, h, not_false_eq_true, ne_eq, k]

theorem State.owesAck_frame {p : Part} (s : State) (tag : Nat) (h : p ∉ [Part.dl]) : p.of (s.owesAck tag) = p.of s := by
  simp only [Part.outside] at h
  simp only [State.owesAck, ↓Part.of_ite, ↓Part.of_set, h, not_false_eq_true, ite_self, ne_eq]

theorem State.missResponse_frame {p : Part} (s : State) (f : Frame) (h : p ∉ [Part.loc, .frames, .dl,
    .queues]) : p.of (s.missResponse f) = p.of s := by
  simp only [Part.outside] at h
  simp only [State.missResponse, ↓Part.of_ite, ↓State.purgeSlot_frame, ↓State.owesAck_frame, ↓State.settleResponse_frame, Part.outside,
      h, not_false_eq_true, and_self, ite_self]

theorem State.composeFor_frame {p : Part} (s : State) (f : Frame) (r : Record) (length us width : Nat) (h : p ∉ [Part.free, .cat, .loc,
    .frames, .dl, .queues, .recs]) : p.of (s.composeFor f r length us width) = p.of s := by
  simp only [Part.outside] at h
  simp only [State.composeFor]
  (repeat' split) <;> simp only [↓Part.of_set, ↓State.bump_frame, ↓State.missResponse_frame, ↓State.modRecord_frame,
      ↓State.purgeSlot_frame, ↓State.takeAsk_frame, Part.outside, h, not_false_eq_true, and_self, ne_eq]

theorem State.compose_frame {p : Part} (s : State) (id length : Nat) (us width : Nat) (h : p ∉ [Part.free, .cat, .loc, .frames, .dl,
    .queues, .recs]) : p.of (s.compose id length us width) = p.of s := by
  simp only [Part.outside] at h
  unfold State.compose
  (repeat' split) <;> simp only [↓State.bump_frame, ↓State.missResponse_frame, ↓State.composeFor_frame, Part.outside, h,
      not_false_eq_true, and_self]

theorem State.modResponse_frame {p : Part} (s : State) (id : Nat) (f : Response → Response) (h : p ∉ [Part.dl]) : p.of (s.modResponse id
    f) = p.of s := by
  simp only [Part.outside] at h
  simp only [State.modResponse, ↓Part.of_set, h, not_false_eq_true, ne_eq]

theorem State.holdItems_frame {p : Part} (s : State) (seqs : List Nat) (held : Bool) (h : p ∉ [Part.items]) : p.of (s.holdItems seqs
    held) = p.of s := by
  simp only [Part.outside] at h
  simp only [State.holdItems, ↓Part.of_setNand, h, not_false_eq_true, ne_eq]

theorem State.launchDeadline_frame {p : Part} (s : State) (id : Nat) (h : p ∉ [Part.free, .cat, .gate, .loc, .frames, .dl, .queues,
    .items]) : p.of (s.launchDeadline id) = p.of s := by
  simp only [Part.outside] at h
  unfold State.launchDeadline
  (repeat' split) <;> simp only [↓Part.of_set, ↓State.modResponse_frame, ↓State.settleResponse_frame, ↓State.holdItems_frame,
      ↓State.bump_frame, ↓State.missResponse_frame, Part.outside, h, not_false_eq_true, and_self, ne_eq]

theorem State.chargeAir_frame {p : Part} (s : State) (port i us : Nat) (h : p ∉ [Part.dl]) : p.of (s.chargeAir port i us) = p.of s := by
  simp only [Part.outside] at h
  simp only [State.chargeAir, ↓Part.of_ite, ↓Part.of_set, h, not_false_eq_true, ite_self, ne_eq]

theorem State.dutyRoll_frame {p : Part} (s : State) (h : p ∉ [Part.dl]) : p.of s.dutyRoll = p.of s := by
  simp only [Part.outside] at h
  simp only [State.dutyRoll, ↓Part.of_ite, ↓Part.of_set, h, not_false_eq_true, ite_self, ne_eq]

theorem State.modMod_frame {part : Part} (s : State) (p : Nat) (f : Modulator → Modulator) (h : part ∉ [Part.dl]) : part.of (s.modMod p
    f) = part.of s := by
  simp only [Part.outside] at h
  simp only [State.modMod, ↓Part.of_set, h, not_false_eq_true, ne_eq]

theorem State.itemSent_frame {p : Part} (s : State) (seq : Nat) (h : p ∉ [Part.free, .cat, .hif, .gate, .upHold, .logs, .uplinks, .recs,
    .bills, .items]) : p.of (s.itemSent seq) = p.of s := by
  simp only [Part.outside] at h
  unfold State.itemSent
  split <;> simp only [↓Part.of_ite, ↓Part.of_setNand, ↓State.dropItem_frame, Part.outside, h, not_false_eq_true, and_self, ite_self,
      ne_eq]

theorem State.dropResponse_frame {p : Part} (s : State) (r : Response) (h : p ∉ [Part.dl,
    .items]) : p.of (s.dropResponse r) = p.of s := by
  simp only [Part.outside] at h
  simp only [State.dropResponse, ↓Part.of_set, ↓State.owesAck_frame, ↓State.holdItems_frame, Part.outside, h, not_false_eq_true,
      and_self, ne_eq]

theorem State.campaignDone_frame {p : Part} (s : State) (n : Nat) (h : p ∉ [Part.dl]) : p.of (s.campaignDone n) = p.of s := by
  simp only [Part.outside] at h
  unfold State.campaignDone
  split <;> simp only [↓Part.of_ite, ↓Part.of_set, h, not_false_eq_true, ite_self, ne_eq]

theorem State.campaignBlock_frame {p : Part} (s : State) (n : Nat) (h : p ∉ [Part.dl]) : p.of (s.campaignBlock n) = p.of s := by
  simp only [Part.outside] at h
  unfold State.campaignBlock
  split <;> simp only [↓Part.of_set, ↓State.campaignDone_frame, Part.outside, h, not_false_eq_true, and_self, ne_eq]

theorem State.castStart_frame {p : Part} (s : State) (c : Cast) (h : p ∉ [Part.free, .cat, .dl]) : p.of (s.castStart c) = p.of s := by
  simp only [Part.outside] at h
  unfold State.castStart
  split <;> simp only [↓Part.of_ite, ↓Part.of_set, ↓State.bump_frame, ↓State.modMod_frame, ↓State.chargeAir_frame, ↓State.countUp_frame,
      ↓State.campaignBlock_frame, Part.outside, h, not_false_eq_true, and_self, ite_self, ne_eq]

theorem State.castLaunch_frame {p : Part} (s : State) (c : Cast) (h : p ∉ [Part.free, .cat, .dl]) : p.of (s.castLaunch c) = p.of s := by
  simp only [Part.outside] at h
  simp only [State.castLaunch]
  (repeat' split) <;> simp only [↓Part.of_set, ↓State.castStart_frame, Part.outside, h, not_false_eq_true, and_self, ne_eq]

theorem State.listenSpan_frame {p : Part} (s : State) (b : Nat) (h : p ∉ [Part.free]) : p.of (s.listenSpan b).2 = p.of s := by
  simp only [Part.outside] at h
  simp only [State.listenSpan, ↓State.draw_frame, Part.outside, h, not_false_eq_true, and_self]

theorem State.castDue_frame {p : Part} (s : State) (c : Cast) (h : p ∉ [Part.free, .cat, .dl]) : p.of (s.castDue c) = p.of s := by
  simp only [Part.outside] at h
  simp only [State.castDue]
  (repeat' split) <;> simp only [↓Part.of_set, ↓State.castLaunch_frame, ↓State.listenSpan_frame, ↓State.modMod_frame, Part.outside, h,
      not_false_eq_true, and_self, ne_eq]

theorem State.broadcast_frame {p : Part} (s : State) (n us width : Nat) (h : p ∉ [Part.free, .cat,
    .dl]) : p.of (s.broadcast n us width) = p.of s := by
  simp only [Part.outside] at h
  simp only [State.broadcast, ↓Part.of_ite, ↓Part.of_set, ↓State.castDue_frame, Part.outside, h, not_false_eq_true, and_self, ite_self,
      ne_eq]

theorem State.gap_frame {part : Part} (s : State) (p : Nat) (h : part ∉ [Part.free, .cat, .dl]) : part.of (s.gap p) = part.of s := by
  simp only [Part.outside] at h
  simp only [State.gap, ↓Part.of_ite, ↓Part.of_set, h, not_false_eq_true, ne_eq]
  (repeat' split) <;> simp only [↓Part.of_set, ↓State.castDue_frame, Part.outside, h, not_false_eq_true, and_self, ne_eq]

theorem State.txEnd_frame {part : Part} (s : State) (p : Nat) (h : part ∉ [Part.free, .cat, .dl]) : part.of (s.txEnd p) = part.of s := by
  simp only [Part.outside] at h
  simp only [State.txEnd, ↓State.gap_frame, ↓State.modMod_frame, Part.outside, h, not_false_eq_true, and_self]

theorem State.refuseLaunch_frame {p : Part} (s : State) (r : Response) (counter : Nat) (h : p ∉ [Part.free, .cat, .dl,
    .items]) : p.of (s.refuseLaunch r counter) = p.of s := by
  simp only [Part.outside] at h
  simp only [State.refuseLaunch, ↓State.gap_frame, ↓State.bump_frame, ↓State.dropResponse_frame, Part.outside, h, not_false_eq_true,
      and_self]

theorem State.respond__frame {p : Part} (s : State) (r : Response) (b : Nat) (h : p ∉ [Part.free, .cat, .hif, .gate, .dl, .upHold, .logs,
    .uplinks, .recs, .bills, .items]) : p.of (s.respond_ r b) = p.of s := by
  simp only [Part.outside] at h
  simp only [State.respond_, ↓Part.of_set, ↓State.modMod_frame, ↓State.chargeAir_frame, ↓State.itemSent_frame, ↓State.bump_frame,
      Part.outside, h, not_false_eq_true, and_self, ne_eq, ↓Part.of_foldl, implies_true]

theorem State.launch_frame {p : Part} (s : State) (id : Nat) (pendant : Bool) (h : p ∉ [Part.free, .cat, .hif, .gate, .dl, .upHold,
    .logs, .uplinks, .recs, .bills, .items]) : p.of (s.launch id pendant) = p.of s := by
  simp only [Part.outside] at h
  unfold State.launch
  (repeat' split) <;> simp only [↓State.refuseLaunch_frame, ↓State.respond__frame, Part.outside, h, not_false_eq_true, and_self]

theorem State.lbtResponse_frame {p : Part} (s : State) (r : Response) (power : Int) (h : p ∉ [Part.free, .cat, .dl,
    .items]) : p.of (s.lbtResponse r power) = p.of s := by
  simp only [Part.outside] at h
  unfold State.lbtResponse
  split <;> simp only [↓Part.of_ite, ↓State.refuseLaunch_frame, ↓State.modResponse_frame, Part.outside, h, not_false_eq_true, and_self,
      ite_self]

theorem State.lbtCast_frame {part : Part} (s : State) (p : Nat) (c : Cast) (power : Int) (h : part ∉ [Part.free, .cat,
    .dl]) : part.of (s.lbtCast p c power) = part.of s := by
  simp only [Part.outside] at h
  simp only [State.lbtCast]
  (repeat' split) <;> simp only [↓Part.of_set, ↓State.modMod_frame, ↓State.castLaunch_frame, ↓State.castDue_frame, ↓State.gap_frame,
      Part.outside, h, not_false_eq_true, and_self, ne_eq]

theorem State.listenEnd_frame {part : Part} (s : State) (p : Nat) (power : Int) (h : part ∉ [Part.free, .cat, .dl,
    .items]) : part.of (s.listenEnd p power) = part.of s := by
  simp only [Part.outside] at h
  unfold State.listenEnd
  (repeat' split) <;> simp only [↓State.lbtResponse_frame, ↓State.lbtCast_frame, Part.outside, h, not_false_eq_true, and_self]

theorem State.campaignRefused_frame {p : Part} (s : State) (a : CampaignArg) (h : p ∉ [Part.dl]) : p.of (s.campaignRefused a) = p.of s :=
    by
  simp only [Part.outside] at h
  simp only [State.campaignRefused, ↓Part.of_ite, ↓Part.of_set, h, not_false_eq_true, ite_self, ne_eq]

theorem State.campaignStart_frame {p : Part} (s : State) (r : CapReq) (a : CampaignArg) (image : Nat) (h : p ∉ [Part.free, .cat, .hif,
    .sessions, .dl]) : p.of (s.campaignStart r a image) = p.of s := by
  simp only [Part.outside] at h
  simp only [State.campaignStart, ↓Part.of_set, ↓State.capExec_frame, ↓State.campaignRefused_frame, Part.outside, h, not_false_eq_true,
      and_self, ite_self, ne_eq, ↓Part.of_ite_snd, ↓Part.of_pair, implies_true]

theorem State.campaignBegin_frame {p : Part} (s : State) (n : Nat) (h : p ∉ [Part.dl]) : p.of (s.campaignBegin n) = p.of s := by
  simp only [Part.outside] at h
  unfold State.campaignBegin
  split <;> simp only [↓Part.of_ite, ↓Part.of_set, h, not_false_eq_true, ite_self, ne_eq]

theorem State.campaignEnd_frame {p : Part} (s : State) (n : Nat) (h : p ∉ [Part.dl]) : p.of (s.campaignEnd n) = p.of s := by
  simp only [Part.outside] at h
  unfold State.campaignEnd
  split <;> simp only [↓Part.of_ite, ↓Part.of_set, h, not_false_eq_true, ite_self, ne_eq]

theorem State.blockMissing_frame {p : Part} (s : State) (n tag block : Nat) (h : p ∉ [Part.dl]) : p.of (s.blockMissing n tag block) =
    p.of s := by
  simp only [Part.outside] at h
  unfold State.blockMissing
  split <;> simp only [↓Part.of_ite, ↓Part.of_set, h, not_false_eq_true, ite_self, ne_eq]

theorem State.endpointComplete_frame {p : Part} (s : State) (n tag : Nat) (h : p ∉ [Part.dl]) : p.of (s.endpointComplete n tag) = p.of s
    := by
  simp only [Part.outside] at h
  unfold State.endpointComplete
  split <;> simp only [↓Part.of_ite, ↓Part.of_set, ↓State.campaignDone_frame, Part.outside, h, not_false_eq_true, and_self, ite_self,
      ne_eq]

/-! ### Tightrope -/

theorem State.modLane_frame {p : Part} (s : State) (l : Nat) (f : Lane → Lane) (h : p ∉ [Part.lanes]) : p.of (s.modLane l f) = p.of s :=
    by
  simp only [Part.outside] at h
  simp only [State.modLane, ↓Part.of_set, h, not_false_eq_true, ne_eq]

theorem State.onLane_frame {p : Part} (s : State) (l : Nat) (f : Lane → State) (hf : ∀ x,
    p.of (f x) = p.of s) : p.of (s.onLane l f) = p.of s := by
  unfold State.onLane
  split
  · rfl
  · simp only [↓Part.of_ite, hf, ite_self]

theorem State.drawSlot_frame {p : Part} (s : State) (l : Nat) (h : p ∉ [Part.free, .lanes]) : p.of (s.drawSlot l) = p.of s := by
  simp only [Part.outside] at h
  simp only [State.drawSlot, ne_eq]
  (repeat' split) <;> simp only [↓State.draw_frame, ↓State.modLane_frame, Part.outside, h, not_false_eq_true, and_self]

theorem State.deferChain_frame {p : Part} (s : State) (l : Nat) (h : p ∉ [Part.free, .cat, .lanes]) : p.of (s.deferChain l) = p.of s := by
  simp only [Part.outside] at h
  unfold State.deferChain
  split <;> simp only [↓State.bump_frame, ↓State.modLane_frame, Part.outside, h, not_false_eq_true, and_self]

theorem State.select_frame {p : Part} (s : State) (l : Nat) (h : p ∉ [Part.free, .lanes]) : p.of (s.select l) = p.of s := by
  simp only [Part.outside] at h
  unfold State.select
  (repeat' split) <;> simp only [↓State.modLane_frame, ↓State.drawSlot_frame, Part.outside, h, not_false_eq_true, and_self]

theorem State.idleInstant_frame {p : Part} (s : State) (l : Nat) (h : p ∉ [Part.free, .lanes]) : p.of (s.idleInstant l) = p.of s := by
  simp only [Part.outside] at h
  simp only [State.idleInstant, ↓Part.of_ite, ↓State.modLane_frame, ↓State.select_frame, ↓State.drawSlot_frame, Part.outside, h,
      not_false_eq_true, and_self, ite_self]

theorem State.settle_frame {p : Part} (s : State) (l : Nat) (was : Bool) (h : p ∉ [Part.free, .cat,
    .lanes]) : p.of (s.settle l was) = p.of s := by
  simp only [Part.outside] at h
  unfold State.settle
  split <;> simp only [↓Part.of_ite, ↓State.idleInstant_frame, ↓State.deferChain_frame, Part.outside, h, not_false_eq_true, and_self,
      ite_self]

theorem State.onMedium_frame {p : Part} (s : State) (l : Nat) (f : Lane → State) (h : p ∉ [Part.free, .cat, .lanes]) (hf : ∀ x,
    p.of (f x) = p.of s) : p.of (s.onMedium l f) = p.of s := by
  unfold State.onMedium
  refine State.onLane_frame _ _ _ fun a => ?_
  grind [State.onLane_frame, State.settle_frame]

theorem State.abandonPlc_frame {p : Part} (s : State) (o : PlcOut) (h : p ∉ [Part.free, .cat, .hif, .gate, .upHold, .logs, .uplinks,
    .recs, .bills, .items]) : p.of (s.abandonPlc o) = p.of s := by
  simp only [Part.outside] at h
  unfold State.abandonPlc
  split <;> simp only [↓Part.of_ite, ↓State.dropItem_frame, ↓State.holdItems_frame, Part.outside, h, not_false_eq_true, and_self,
      ite_self]

theorem State.degradedRetry_frame {p : Part} (s : State) (l : Nat) (o : PlcOut) (h : p ∉ [Part.free, .cat, .hif, .gate, .lanes, .upHold,
    .logs, .uplinks, .recs, .bills, .items]) : p.of (s.degradedRetry l o) = p.of s := by
  simp only [Part.outside] at h
  simp only [State.degradedRetry, ↓Part.of_ite, ↓State.draw_frame, ↓State.abandonPlc_frame, ↓State.bump_frame, ↓State.modLane_frame,
      Part.outside, h, not_false_eq_true, and_self, ite_self, ↓Part.of_ite_snd, ↓Part.of_pair]

theorem State.stopTx_frame {p : Part} (s : State) (l : Nat) (h : p ∉ [Part.lanes]) : p.of (s.stopTx l) = p.of s := by
  simp only [Part.outside] at h
  simp only [State.stopTx, ↓State.modLane_frame, Part.outside, h, not_false_eq_true, and_self]

theorem State.thermalTrip_frame {p : Part} (s : State) (l : Nat) (h : p ∉ [Part.free, .cat, .pins, .hif, .gate, .lanes, .upHold, .logs,
    .uplinks, .recs, .bills, .items]) : p.of (s.thermalTrip l) = p.of s := by
  simp only [Part.outside] at h
  simp only [State.thermalTrip, ↓Part.of_ite]
  (repeat' split) <;> simp only [↓Part.of_set, ↓State.modLane_frame, ↓State.logOp_frame, ↓State.bump_frame, ↓State.degradedRetry_frame,
      ↓State.settle_frame, Part.outside, h, not_false_eq_true, and_self, ne_eq]

theorem State.thermRelease_frame {p : Part} (s : State) (l : Nat) (h : p ∉ [Part.pins, .lanes]) : p.of (s.thermRelease l) = p.of s := by
  simp only [Part.outside] at h
  simp only [State.thermRelease, ↓Part.of_ite, ↓Part.of_set, ↓State.modLane_frame, Part.outside, h, not_false_eq_true, and_self,
      ite_self, ne_eq]

theorem State.holdoffEnd_frame {p : Part} (s : State) (l : Nat) (h : p ∉ [Part.lanes]) : p.of (s.holdoffEnd l) = p.of s := by
  simp only [Part.outside] at h
  unfold State.holdoffEnd
  split <;> simp only [↓Part.of_ite, ↓State.modLane_frame, Part.outside, h, not_false_eq_true, and_self, ite_self]

theorem State.zcEdge_frame {p : Part} (s : State) (l at_ : Nat) (rising : Bool) (h : p ∉ [Part.free, .cat,
    .lanes]) : p.of (s.zcEdge l at_ rising) = p.of s := by
  simp only [Part.outside] at h
  unfold State.zcEdge
  split <;> simp only [↓Part.of_ite, ↓State.modLane_frame, ↓State.bump_frame, Part.outside, h, not_false_eq_true, and_self, ite_self]

theorem State.zcMissing_frame {p : Part} (s : State) (l : Nat) (h : p ∉ [Part.free, .cat, .hif, .lanes,
    .logs]) : p.of (s.zcMissing l) = p.of s := by
  simp only [Part.outside] at h
  unfold State.zcMissing
  split <;> simp only [↓Part.of_ite, ↓State.modLane_frame, ↓State.logOp_frame, ↓State.bump_frame, Part.outside, h, not_false_eq_true,
      and_self, ite_self]

theorem State.halfCycle_frame {p : Part} (s : State) (l : Nat) (power : List Nat) (rms : Int) (h : p ∉ [Part.free,
    .lanes]) : p.of (s.halfCycle l power rms) = p.of s := by
  simp only [Part.outside] at h
  simp only [State.halfCycle, ↓State.onLane_frame, ↓State.select_frame, ↓State.modLane_frame, Part.outside, h, not_false_eq_true,
      and_self, ne_eq, implies_true]

theorem State.preamble_frame {p : Part} (s : State) (l : Nat) (chain : Bool) (h : p ∉ [Part.free, .cat,
    .lanes]) : p.of (s.preamble l chain) = p.of s := by
  simp only [Part.outside] at h
  simp only [State.preamble, ↓Part.of_ite, ↓State.onMedium_frame, ↓State.modLane_frame, Part.outside, h, not_false_eq_true, and_self,
      ite_self, implies_true]

theorem State.chainHeader_frame {p : Part} (s : State) (l sync : Nat) (soft : List Int) (h : p ∉ [Part.free, .cat,
    .lanes]) : p.of (s.chainHeader l sync soft) = p.of s := by
  simp only [Part.outside] at h
  simp only [State.chainHeader, ↓Part.of_ite, ↓State.onMedium_frame, ↓State.bump_frame, ↓State.modLane_frame, Part.outside, h,
      not_false_eq_true, and_self, ite_self, ne_eq, implies_true]

theorem State.chainBurst_frame {p : Part} (s : State) (l : Nat) (pilots : Bool) (before : List Int) (syms : List BurstSymbol) (h : p ∉
    [Part.free, .cat, .lanes]) : p.of (s.chainBurst l pilots before syms) = p.of s := by
  simp only [Part.outside] at h
  unfold State.chainBurst
  refine State.onMedium_frame _ _ _ (by simp only [Part.outside, h, not_false_eq_true, and_self]) fun a => ?_
  split <;> simp only [↓Part.of_ite, ↓State.bump_frame, ↓State.modLane_frame, ↓State.bumpBy_frame, Part.outside, h, not_false_eq_true,
      and_self, ite_self, ne_eq]

theorem State.refreshLinks_frame {p : Part} (s : State) (l q sender : Nat) (hops : List (Nat × Nat × Nat)) (h : p ∉ [Part.lanes]) : p.of
    (s.refreshLinks l q sender hops) = p.of s := by
  simp only [Part.outside] at h
  simp only [State.refreshLinks, ↓State.modLane_frame, Part.outside, h, not_false_eq_true, and_self]

theorem State.lqtAgeing_frame {p : Part} (s : State) (h : p ∉ [Part.lanes]) : p.of s.lqtAgeing = p.of s := by
  simp only [Part.outside] at h
  simp only [State.lqtAgeing, ↓Part.of_ite, ↓Part.of_set, h, not_false_eq_true, ite_self, ne_eq]

theorem State.linkQualityRead_frame {p : Part} (s : State) (r : CapReq) (l short : Nat) (h : p ∉ [Part.free, .cat, .hif,
    .sessions]) : p.of (s.linkQualityRead r l short) = p.of s := by
  unfold State.linkQualityRead
  grind [State.capExec_frame]

theorem State.setPhase_frame {p : Part} (s : State) (l : Nat) (r : Record) (phase : Nat) (h : p ∉ [Part.free, .cat, .hif, .cask, .votes,
    .upHold, .logs, .uplinks, .recs, .nodes, .records]) : p.of (s.setPhase l r phase) = p.of s := by
  simp only [Part.outside] at h
  simp only [State.setPhase, ↓Part.of_ite, ↓Part.of_set, ↓State.modRecord_frame, ↓State.commit_frame, ↓State.logOp_frame,
      ↓State.bump_frame, ↓State.scoreAdd_frame, Part.outside, h, not_false_eq_true, and_self, ite_self, ne_eq]

theorem State.voteFor_frame {p : Part} (s : State) (l : Nat) (r : Record) (phase : Nat) (h : p ∉ [Part.free, .cat, .hif, .cask, .votes,
    .upHold, .logs, .uplinks, .recs, .nodes, .records]) : p.of (s.voteFor l r phase) = p.of s := by
  simp only [Part.outside] at h
  simp only [State.voteFor, ↓Part.of_ite, ↓Part.of_set, ↓State.setPhase_frame, Part.outside, h, not_false_eq_true, and_self, ite_self,
      ne_eq]

theorem State.observePhase_frame {part : Part} (s : State) (l sync : Nat) (p : ChainMpdu) (h : part ∉ [Part.free, .cat, .hif, .cask,
    .votes, .upHold, .logs, .uplinks, .recs, .nodes, .records]) : part.of (s.observePhase l sync p) = part.of s := by
  simp only [Part.outside] at h
  simp only [State.observePhase, ↓Part.of_ite]
  (repeat' split) <;> simp only [↓Part.of_set, ↓State.bump_frame, ↓State.voteFor_frame, Part.outside, h, not_false_eq_true, and_self,
      ne_eq]

theorem State.plcArrive_frame {p : Part} (s : State) (l : Nat) (i : RxInfo) (profile mode erasedPermille : Nat) (clipped : Bool) (h : p ∉
    [Part.free, .cat, .hif, .frames, .nextFrame, .lines, .queues, .memory]) : p.of (s.plcArrive l i profile mode erasedPermille clipped)
    = p.of s := by
  simp only [Part.outside] at h
  simp only [State.plcArrive, ↓State.arrive_frame, Part.outside, h, not_false_eq_true, and_self]

theorem State.standardMessage_frame {p : Part} (s : State) (l dest prio : Nat) (h : p ∉ [Part.free,
    .lanes]) : p.of (s.standardMessage l dest prio) = p.of s := by
  simp only [Part.outside] at h
  simp only [State.standardMessage, ↓State.draw_frame, ↓State.select_frame, ↓State.modLane_frame, Part.outside, h, not_false_eq_true,
      and_self]

theorem State.toneMaps_frame {part : Part} (s : State) (l : Nat) (p : PlcInfo) (h : part ∉ [Part.free,
    .lanes]) : part.of (s.toneMaps l p) = part.of s := by
  simp only [Part.outside] at h
  unfold State.toneMaps
  split <;> simp only [↓Part.of_ite, ↓State.modLane_frame, ↓State.standardMessage_frame, Part.outside, h, not_false_eq_true, and_self,
      ite_self]

theorem State.standardDelivery_frame {part : Part} (s : State) (l : Nat) (ok : Bool) (i : RxInfo) (p : PlcInfo) (h : part ∉ [Part.free,
    .cat, .hif, .frames, .nextFrame, .lanes, .lines, .queues, .memory]) : part.of (s.standardDelivery l ok i p) = part.of s := by
  simp only [Part.outside] at h
  unfold State.standardDelivery
  refine State.onMedium_frame _ _ _ (by simp only [Part.outside, h, not_false_eq_true, and_self]) fun a => ?_
  simp only [↓Part.of_ite, ↓State.modLane_frame, ↓State.bump_frame, ↓State.toneMaps_frame, ↓State.refreshLinks_frame,
      ↓State.plcArrive_frame, Part.outside, h, not_false_eq_true, and_self, ite_self, ne_eq]

theorem State.chainArrives_frame {p : Part} (s : State) (l : Nat) (c : LaneCfg) (f : ChainFields) (i : RxInfo) (x : Lane) (clipped :
    Bool) (m : ChainMpdu) (mpdu : List Nat) (crc : Nat) (h : p ∉ [Part.free, .cat, .hif, .cask, .frames, .nextFrame, .lanes, .votes,
    .upHold, .lines, .queues, .memory, .logs, .uplinks, .recs, .nodes,
    .records]) : p.of (s.chainArrives l c f i x clipped m mpdu crc) = p.of s := by
  simp only [Part.outside] at h
  simp only [State.chainArrives, ↓Part.of_ite, ↓State.modLane_frame, ↓State.observePhase_frame, ↓State.refreshLinks_frame,
      ↓State.plcArrive_frame, ↓State.bump_frame, Part.outside, h, not_false_eq_true, and_self, ite_self]

theorem State.chainDelivery_frame {p : Part} (s : State) (l : Nat) (i : RxInfo) (clipped : Bool) (h : p ∉ [Part.free, .cat, .hif, .cask,
    .frames, .nextFrame, .lanes, .votes, .upHold, .lines, .queues, .memory, .logs, .uplinks, .recs, .nodes,
    .records]) : p.of (s.chainDelivery l i clipped) = p.of s := by
  simp only [Part.outside] at h
  unfold State.chainDelivery
  refine State.onMedium_frame _ _ _ (by simp only [Part.outside, h, not_false_eq_true, and_self]) fun a => ?_
  simp only [ne_eq]
  (repeat' split) <;> simp only [↓State.modLane_frame, ↓State.bump_frame, ↓State.chainArrives_frame, Part.outside, h, not_false_eq_true,
      and_self]

theorem State.plcDelivery_frame {part : Part} (s : State) (l : Nat) (ok : Bool) (i : RxInfo) (p : PlcInfo) (h : part ∉ [Part.free, .cat,
    .hif, .cask, .frames, .nextFrame, .lanes, .votes, .upHold, .lines, .queues, .memory, .logs, .uplinks, .recs, .nodes,
    .records]) : part.of (s.plcDelivery l ok i p) = part.of s := by
  simp only [Part.outside] at h
  simp only [State.plcDelivery, ↓Part.of_ite, ↓State.chainDelivery_frame, ↓State.standardDelivery_frame, Part.outside, h,
      not_false_eq_true, and_self, ite_self]

/-! ### Access -/

theorem State.mediumIdle_frame {p : Part} (s : State) (l power : Nat) (h : p ∉ [Part.free, .cat,
    .lanes]) : p.of (s.mediumIdle l power) = p.of s := by
  simp only [Part.outside] at h
  simp only [State.mediumIdle, ↓Part.of_ite, ↓State.onMedium_frame, ↓State.modLane_frame, Part.outside, h, not_false_eq_true, and_self,
      ite_self, implies_true]

theorem State.mediumBusy_frame {p : Part} (s : State) (l power : Nat) (h : p ∉ [Part.free, .cat,
    .lanes]) : p.of (s.mediumBusy l power) = p.of s := by
  simp only [Part.outside] at h
  simp only [State.mediumBusy, ↓Part.of_ite, ↓State.onMedium_frame, ↓State.modLane_frame, Part.outside, h, not_false_eq_true, and_self,
      ite_self, implies_true]

theorem State.virtualEnd_frame {p : Part} (s : State) (l : Nat) (h : p ∉ [Part.free, .cat, .lanes]) : p.of (s.virtualEnd l) = p.of s := by
  simp only [Part.outside] at h
  simp only [State.virtualEnd, ↓Part.of_ite, ↓State.onMedium_frame, ↓State.modLane_frame, Part.outside, h, not_false_eq_true, and_self,
      ite_self, implies_true]

theorem State.plcQueue_frame {p : Part} (s : State) (l : Nat) (t : PlcTx) (h : p ∉ [Part.free, .cat, .gate, .lanes,
    .items]) : p.of (s.plcQueue l t) = p.of s := by
  simp only [Part.outside] at h
  simp only [State.plcQueue, ↓Part.of_ite, ↓Part.of_set, ↓State.onMedium_frame, ↓State.draw_frame, ↓State.holdItems_frame,
      ↓State.standardMessage_frame, ↓State.select_frame, ↓State.modLane_frame, Part.outside, h, not_false_eq_true, and_self, ite_self,
      ne_eq, implies_true]

theorem State.route_frame {p : Part} (s : State) (l : Nat) (links : List Link) (o : PlcOut) (h : p ∉ [Part.free,
    .cat]) : p.of (s.route l links o).2 = p.of s := by
  simp only [Part.outside] at h
  simp only [State.route, ↓Part.of_ite_snd, ↓Part.of_pair]
  (repeat' split) <;> simp only [↓State.bump_frame, Part.outside, h, not_false_eq_true, and_self, ↓Part.of_pair]

theorem State.onAir_frame {p : Part} (s : State) (l : Nat) (o : PlcOut) (h : p ∉ [Part.lanes]) : p.of (s.onAir l o) = p.of s := by
  simp only [Part.outside] at h
  simp only [State.onAir, ↓State.modLane_frame, Part.outside, h, not_false_eq_true, and_self]

theorem State.slotStart_frame {p : Part} (s : State) (l : Nat) (h : p ∉ [Part.free, .cat, .lanes]) : p.of (s.slotStart l) = p.of s := by
  simp only [Part.outside] at h
  unfold State.slotStart
  refine State.onMedium_frame _ _ _ (by simp only [Part.outside, h, not_false_eq_true, and_self]) fun a => ?_
  split <;> simp only [↓Part.of_ite, ↓State.route_frame, ↓State.onAir_frame, ↓State.modLane_frame, Part.outside, h, not_false_eq_true,
      and_self, ite_self]

theorem State.csmaTx_frame {p : Part} (s : State) (l : Nat) (h : p ∉ [Part.free, .cat, .lanes]) : p.of (s.csmaTx l) = p.of s := by
  simp only [Part.outside] at h
  unfold State.csmaTx
  refine State.onMedium_frame _ _ _ (by simp only [Part.outside, h, not_false_eq_true, and_self]) fun a => ?_
  split <;> simp only [↓Part.of_ite, ↓State.onAir_frame, ↓State.modLane_frame, Part.outside, h, not_false_eq_true, and_self, ite_self]

theorem State.plcTxEnd_frame {p : Part} (s : State) (l : Nat) (isense : List Nat) (h : p ∉ [Part.free, .cat, .hif, .gate, .lanes,
    .upHold, .logs, .uplinks, .recs, .bills, .items]) : p.of (s.plcTxEnd l isense) = p.of s := by
  simp only [Part.outside] at h
  unfold State.plcTxEnd
  refine State.onMedium_frame _ _ _ (by simp only [Part.outside, h, not_false_eq_true, and_self]) fun a => ?_
  split <;> simp only [↓Part.of_ite, ↓State.bump_frame, ↓State.modLane_frame, ↓State.degradedRetry_frame, ↓State.itemSent_frame,
      ↓State.select_frame, Part.outside, h, not_false_eq_true, and_self, ite_self, ne_eq]

theorem State.ackSend_frame {p : Part} (s : State) (l : Nat) (h : p ∉ [Part.free, .cat, .lanes]) : p.of (s.ackSend l) = p.of s := by
  simp only [Part.outside] at h
  unfold State.ackSend
  refine State.onMedium_frame _ _ _ (by simp only [Part.outside, h, not_false_eq_true, and_self]) fun a => ?_
  split <;> simp only [↓Part.of_ite, ↓State.modLane_frame, ↓State.onAir_frame, Part.outside, h, not_false_eq_true, and_self, ite_self]

theorem State.unacked_frame {p : Part} (s : State) (l : Nat) (a : Await) (h : p ∉ [Part.free, .cat, .hif, .gate, .lanes, .upHold, .logs,
    .uplinks, .recs, .bills, .items]) : p.of (s.unacked l a) = p.of s := by
  simp only [Part.outside] at h
  simp only [State.unacked, ↓Part.of_ite, ↓State.bump_frame, ↓State.modLane_frame, ↓State.abandonPlc_frame, ↓State.select_frame,
      Part.outside, h, not_false_eq_true, and_self, ite_self]

theorem State.ackReceived_frame {p : Part} (s : State) (l : Nat) (h : p ∉ [Part.free, .cat, .hif, .gate, .lanes, .upHold, .logs,
    .uplinks, .recs, .bills, .items]) : p.of (s.ackReceived l) = p.of s := by
  simp only [Part.outside] at h
  unfold State.ackReceived
  refine State.onMedium_frame _ _ _ (by simp only [Part.outside, h, not_false_eq_true, and_self]) fun a => ?_
  simp only [ne_eq]
  (repeat' split) <;> simp only [↓State.modLane_frame, ↓State.itemSent_frame, ↓State.unacked_frame, Part.outside, h, not_false_eq_true,
      and_self]

theorem State.ackTimeout_frame {p : Part} (s : State) (l : Nat) (h : p ∉ [Part.free, .cat, .hif, .gate, .lanes, .upHold, .logs, .uplinks,
    .recs, .bills, .items]) : p.of (s.ackTimeout l) = p.of s := by
  simp only [Part.outside] at h
  unfold State.ackTimeout
  refine State.onLane_frame _ _ _ fun a => ?_
  split <;> simp only [↓State.unacked_frame, Part.outside, h, not_false_eq_true, and_self]

theorem State.loadng_frame {p : Part} (s : State) (l kind : Nat) (origin target : Nat) (next cost : Nat) (h : p ∉ [Part.free, .cat,
    .lanes]) : p.of (s.loadng l kind origin target next cost) = p.of s := by
  simp only [Part.outside] at h
  simp only [State.loadng]
  (repeat' split) <;> simp only [↓State.onMedium_frame, ↓State.standardMessage_frame, ↓State.modLane_frame, Part.outside, h,
      not_false_eq_true, and_self, implies_true]

theorem State.bootstrap_frame {p : Part} (s : State) (l tag : Nat) (ok : Bool) (h : p ∉ [Part.free,
    .lanes]) : p.of (s.bootstrap l tag ok) = p.of s := by
  simp only [Part.outside] at h
  unfold State.bootstrap
  split <;> simp only [↓Part.of_ite, ↓State.onLane_frame, ↓State.draw_frame, ↓State.modLane_frame, Part.outside, h, not_false_eq_true,
      and_self, ite_self, implies_true]

theorem State.abortLane_frame {p : Part} (s : State) (l : Nat) (h : p ∉ [Part.free, .cat, .hif, .gate, .lanes, .upHold, .logs, .uplinks,
    .recs, .bills, .items]) : p.of (s.abortLane l) = p.of s := by
  simp only [Part.outside] at h
  unfold State.abortLane
  split <;> simp only [↓State.modLane_frame, ↓State.stopTx_frame, ↓State.settle_frame, ↓State.abandonPlc_frame, Part.outside, h,
      not_false_eq_true, and_self, ↓Part.of_foldl, implies_true]

/-! ### Registry -/

theorem State.admitImage_frame {p : Part} (s : State) (i : Image) (prev : Nat) (bill : Nat → Nat → Bill) (h : p ∉ [Part.cask, .recs,
    .hash, .bills, .nodes]) : p.of (s.admitImage i prev bill).2 = p.of s := by
  simp only [Part.outside] at h
  simp only [State.admitImage]
  (repeat' split) <;> simp only [↓Part.of_update, ↓State.touchNode_frame, ↓State.commit_frame, Part.outside, h, not_false_eq_true,
      and_self, ↓Part.of_pair, implies_true, IsEmpty.forall_iff]

theorem State.endpointAdmit_frame {p : Part} (s : State) (r : CapReq) (i : Image) (h : p ∉ [Part.free, .cat, .stores, .bat, .hif,
    .sessions, .cask, .freeze, .logs, .recs, .hash, .bills, .nodes]) : p.of (s.endpointAdmit r i) = p.of s := by
  simp only [Part.outside] at h
  unfold State.endpointAdmit
  refine State.capExec_frame _ _ _ _ (by simp only [Part.outside, h, not_false_eq_true, and_self]) fun a b => ?_
  (repeat' split) <;> simp only [↓Part.of_ite, ↓State.mediaGate_frame, ↓State.admitImage_frame, ↓State.logLegal_frame, Part.outside, h,
      not_false_eq_true, and_self, ite_self, ↓Part.of_pair]

theorem State.endpointAdmitMove_frame {p : Part} (s : State) (r : CapReq) (i : Image) (x : MoveExport) (h : p ∉ [Part.free, .cat, .hif,
    .sessions, .cask, .recs, .hash, .bills, .nodes]) : p.of (s.endpointAdmitMove r i x) = p.of s := by
  simp only [Part.outside] at h
  unfold State.endpointAdmitMove
  refine State.capExec_frame _ _ _ _ (by simp only [Part.outside, h, not_false_eq_true, and_self]) fun a b => ?_
  (repeat' split) <;> simp only [↓State.mediaGate_frame, ↓State.admitImage_frame, Part.outside, h, not_false_eq_true, and_self,
      ↓Part.of_pair]

theorem State.finalClose_frame {p : Part} (s : State) (r : Record) (h : p ∉ [Part.free, .cat, .stores, .bat, .hif, .cask, .gate, .freeze,
    .upHold, .logs, .uplinks, .recs, .bills, .items, .series, .records]) : p.of (s.finalClose r).2 = p.of s := by
  simp only [Part.outside] at h
  simp only [State.finalClose]
  (repeat' split) <;> simp only [↓Part.of_update, ↓State.advance_frame, ↓State.runPending_frame, ↓State.countDeferred_frame,
      ↓State.uplink_frame, ↓State.logLegal_frame, Part.outside, h, not_false_eq_true, and_self, ↓Part.of_pair, implies_true, true_and,
      and_true, IsEmpty.forall_iff]

theorem State.moveExport_frame {p : Part} (s : State) (r : Record) (snapshot : Nat) (h : p ∉ [Part.free]) : p.of (s.moveExport r
    snapshot).2 = p.of s := by
  simp only [Part.outside] at h
  simp only [State.moveExport, ↓State.sign_frame, Part.outside, h, not_false_eq_true, and_self]

theorem State.drainFor_frame {p : Part} (s : State) (b : Option Nat) (h : p ∉ [Part.free, .cat, .hif, .loc, .logs,
    .records]) : p.of (s.drainFor b) = p.of s := by
  simp only [Part.outside] at h
  unfold State.drainFor
  split <;> simp only [↓State.drain_frame, Part.outside, h, not_false_eq_true, and_self]

theorem State.removeBody_frame {p : Part} (s : State) (tag : Nat) (ses : Session) (h : p ∉ [Part.free, .cat, .stores, .bat, .hif, .cask,
    .gate, .loc, .freeze, .dl, .votes, .upHold, .logs, .uplinks, .recs, .hash, .blobs, .bills, .nodes, .items, .series,
    .records]) : p.of (s.removeBody tag ses).2 = p.of s := by
  simp only [Part.outside] at h
  unfold State.removeBody
  refine State.target_frame _ _ _ _ _ (by simp only [Part.outside, h, not_false_eq_true, and_self]) fun r => ?_
  refine State.mediaGate_frame _ _ (by simp only [Part.outside, h, not_false_eq_true, and_self]) ?_
  simp only [↓Part.of_ite, ↓Part.of_update, ↓State.finalClose_frame, ↓State.moveExport_frame, ↓State.touchNode_frame,
      ↓State.modRecord_frame, ↓State.drainFor_frame, ↓State.commit_frame, Part.outside, h, not_false_eq_true, and_self, ite_self,
      ↓Part.of_ite_snd, ↓Part.of_pair, implies_true, IsEmpty.forall_iff]

theorem State.endpointRemove_frame {p : Part} (s : State) (r : CapReq) (tag : Nat) (h : p ∉ [Part.free, .cat, .stores, .bat, .hif,
    .sessions, .cask, .gate, .loc, .freeze, .dl, .votes, .parked, .upHold, .logs, .uplinks, .recs, .hash, .blobs, .bills, .nodes, .items,
    .series, .records]) : p.of (s.endpointRemove r tag) = p.of s := by
  simp only [Part.outside] at h
  unfold State.endpointRemove
  refine State.capOrdered_frame _ _ _ _ _ _ (by simp only [Part.outside, h, not_false_eq_true, and_self]) fun a b => ?_
  simp only [↓State.removeBody_frame, Part.outside, h, not_false_eq_true, and_self]

theorem State.endpointRead_frame {p : Part} (s : State) (r : CapReq) (tag : Nat) (h : p ∉ [Part.free, .cat, .hif, .sessions, .logs,
    .recs]) : p.of (s.endpointRead r tag) = p.of s := by
  simp only [Part.outside] at h
  unfold State.endpointRead
  refine State.capExec_frame _ _ _ _ (by simp only [Part.outside, h, not_false_eq_true, and_self]) fun a b => ?_
  split <;> simp only [↓State.badRecord_frame, Part.outside, h, not_false_eq_true, and_self, ite_self, ↓Part.of_ite_snd, ↓Part.of_pair]

theorem State.quarantineEnd_frame {p : Part} (s : State) (tag : Nat) (h : p ∉ [Part.recs]) : p.of (s.quarantineEnd tag) = p.of s := by
  simp only [Part.outside] at h
  unfold State.quarantineEnd
  split <;> simp only [↓Part.of_ite, ↓Part.of_setNand, h, not_false_eq_true, ite_self, ne_eq]

/-! ### Guarantee -/

theorem State.openWindow_frame {p : Part} (s : State) (start ms : Nat) (level1 level2 : Nat) (h : p ∉ [Part.win]) : p.of (s.openWindow
    start ms level1 level2) = p.of s := by
  simp only [Part.outside] at h
  simp only [State.openWindow, ↓Part.of_set, h, not_false_eq_true, ne_eq]

theorem State.takeCapacity_frame {p : Part} (s : State) (level1 level2 : Nat) (h : p ∉ [Part.win]) : p.of (s.takeCapacity level1 level2)
    = p.of s := by
  simp only [Part.outside] at h
  simp only [State.takeCapacity, ↓Part.of_set, h, not_false_eq_true, ne_eq]

theorem State.admitFrame_frame {p : Part} (s : State) (t : Nat) (h : p ∉ [Part.win]) : p.of (s.admitFrame t).2 = p.of s := by
  simp only [Part.outside] at h
  simp only [State.admitFrame, ↓Part.of_ite_snd, ↓Part.of_pair]
  (repeat' split) <;> simp only [↓Part.of_set, h, not_false_eq_true, ne_eq, ↓Part.of_pair]

theorem State.breach_frame {p : Part} (s : State) (t level : Nat) (displaced unit : Nat) (start ms : Nat) (entitled delivered : Nat) (h :
    p ∉ [Part.free, .cat, .hif, .win, .upHold, .logs, .uplinks]) : p.of (s.breach t level displaced unit start ms entitled delivered) =
    p.of s := by
  simp only [Part.outside] at h
  simp only [State.breach, ↓Part.of_ite, ↓State.bump_frame, Part.outside, h, not_false_eq_true, and_self]
  (repeat' split) <;> simp only [↓Part.of_set, ↓State.bump_frame, ↓State.logOp_frame, ↓State.uplink_frame, Part.outside, h,
      not_false_eq_true, and_self, ne_eq]

theorem State.closeWindow_frame {p : Part} (s : State) (h : p ∉ [Part.free, .cat, .hif, .win, .upHold, .logs,
    .uplinks]) : p.of s.closeWindow = p.of s := by
  simp only [Part.outside] at h
  unfold State.closeWindow
  simp only
  split
  · rfl
  · refine Part.of_foldl _ _ _ _ fun s t => ?_
    split
    · rfl
    · simp only [↓Part.of_ite, ↓State.breach_frame, Part.outside, h, not_false_eq_true, and_self, ite_self, ne_eq]

theorem State.guaranteeWindow_frame {p : Part} (s : State) (level1 level2 : Nat) (h : p ∉ [Part.free, .cat, .hif, .win, .upHold, .logs,
    .uplinks]) : p.of (s.guaranteeWindow level1 level2) = p.of s := by
  simp only [Part.outside] at h
  simp only [State.guaranteeWindow, ↓Part.of_ite, ↓State.takeCapacity_frame, ↓State.openWindow_frame, ↓State.closeWindow_frame,
      Part.outside, h, not_false_eq_true, and_self, ite_self]

theorem State.latencyMiss_frame {p : Part} (s : State) (t displaced : Nat) (due onTime : Nat) (h : p ∉ [Part.free, .cat, .hif, .win,
    .upHold, .logs, .uplinks]) : p.of (s.latencyMiss t displaced due onTime) = p.of s := by
  simp only [Part.outside] at h
  simp only [State.latencyMiss, ↓Part.of_ite, ↓State.breach_frame, Part.outside, h, not_false_eq_true, and_self, ite_self]

theorem State.countStorms_frame {p : Part} (s : State) (h : p ∉ [Part.cat]) : p.of s.countStorms = p.of s := by
  simp only [Part.outside] at h
  simp only [State.countStorms, ↓State.set_frame, Part.outside, h, not_false_eq_true, and_self]

theorem State.putStorm_frame {p : Part} (s : State) (x : StormKey) (h : p ∉ [Part.cat, .storms]) : p.of (s.putStorm x) = p.of s := by
  simp only [Part.outside] at h
  simp only [State.putStorm, ↓Part.of_set, ↓State.countStorms_frame, Part.outside, h, not_false_eq_true, and_self, ne_eq]

theorem State.notification_frame {p : Part} (s : State) (serving cell : Nat) (kind t stamp : Nat) (h : p ∉ [Part.cat,
    .storms]) : p.of (s.notification serving cell kind t stamp).2 = p.of s := by
  simp only [Part.outside] at h
  simp only [State.notification, ↓State.putStorm_frame, Part.outside, h, not_false_eq_true, and_self]

theorem State.emitStorm_frame {p : Part} (s : State) (x : StormKey) (w : StormWin) (h : p ∉ [Part.free, .cat, .hif, .upHold, .logs,
    .uplinks]) : p.of (s.emitStorm x w) = p.of s := by
  simp only [Part.outside] at h
  simp only [State.emitStorm, ↓State.logOp_frame, ↓State.uplink_frame, Part.outside, h, not_false_eq_true, and_self]

theorem State.stormWindowEnd_frame {p : Part} (s : State) (serving cell : Nat) (h : p ∉ [Part.free, .cat, .hif, .storms, .upHold, .logs,
    .uplinks]) : p.of (s.stormWindowEnd serving cell) = p.of s := by
  simp only [Part.outside] at h
  unfold State.stormWindowEnd
  split <;> simp only [↓Part.of_ite, ↓State.emitStorm_frame, ↓State.putStorm_frame, Part.outside, h, not_false_eq_true, and_self,
      ite_self, ↓Part.of_foldl, implies_true]

theorem State.stormResult_frame {p : Part} (s : State) (serving cell : Nat) (kind t : Nat) (tag stamp : Nat) (flip : Bool) (h : p ∉
    [Part.cat, .storms]) : p.of (s.stormResult serving cell kind t tag stamp flip).2 = p.of s := by
  simp only [Part.outside] at h
  unfold State.stormResult
  split <;> simp only [↓State.putStorm_frame, Part.outside, h, not_false_eq_true, and_self, ↓Part.of_pair]

/-! ### Cascade -/

theorem State.sendCascade_frame {p : Part} (s : State) (m : CascadeMsg) (h : p ∉ [Part.cascadeOut]) : p.of (s.sendCascade m) = p.of s :=
    by
  simp only [Part.outside] at h
  simp only [State.sendCascade, ↓Part.of_set, h, not_false_eq_true, ne_eq]

theorem State.resend_frame {p : Part} (s : State) (h : p ∉ [Part.cascadeOut]) : p.of s.resend = p.of s := by
  simp only [Part.outside] at h
  simp only [State.resend, ↓State.sendCascade_frame, Part.outside, h, not_false_eq_true, and_self, ↓Part.of_foldl, implies_true]

theorem State.cascadeStart_frame {p : Part} (s : State) (n serial hash : Nat) (h : p ∉ [Part.free, .loc, .cascades,
    .cascadeOut]) : p.of (s.cascadeStart n serial hash) = p.of s := by
  simp only [Part.outside] at h
  simp only [State.cascadeStart, ↓Part.of_ite, ↓Part.of_set, ↓State.openTraffic_frame, ↓State.resend_frame, Part.outside, h,
      not_false_eq_true, and_self, ite_self, ne_eq]

theorem State.cascadeLoss_frame {p : Part} (s : State) (n : Nat) (h : p ∉ [Part.loc, .cascades]) : p.of (s.cascadeLoss n) = p.of s := by
  simp only [Part.outside] at h
  simp only [State.cascadeLoss, ↓Part.of_set, ↓State.closeTraffic_frame, Part.outside, h, not_false_eq_true, and_self, ne_eq]

theorem State.forwardedFrame_frame {p : Part} (s : State) (n seq : Nat) (tag cell : Nat) (i : RxInfo) (h : p ∉ [Part.free, .cat, .frames,
    .nextFrame, .lines, .queues, .memory]) : p.of (s.forwardedFrame n seq tag cell i) = p.of s := by
  simp only [Part.outside] at h
  simp only [State.forwardedFrame, ↓Part.of_ite, ↓Part.of_update, ↓State.pushFrame_frame, Part.outside, h, not_false_eq_true, and_self,
      ite_self, implies_true, IsEmpty.forall_iff]

theorem State.settleForward_frame {p : Part} (s : State) (f : Frame) (ok : Bool) (h : p ∉ [Part.cascades, .cascadeOut,
    .records]) : p.of (s.settleForward f ok) = p.of s := by
  simp only [Part.outside] at h
  unfold State.settleForward
  (repeat' split) <;> simp only [↓Part.of_ite, ↓Part.of_update, ↓State.sendCascade_frame, Part.outside, h, not_false_eq_true, and_self,
      ite_self, ne_eq, implies_true, true_and, and_true, IsEmpty.forall_iff]

theorem State.ingestConfirmation_frame {p : Part} (s : State) (seq : Nat) (h : p ∉ [Part.forward]) : p.of (s.ingestConfirmation seq) =
    p.of s := by
  simp only [Part.outside] at h
  simp only [State.ingestConfirmation, ↓Part.of_ite, ↓Part.of_setNand, h, not_false_eq_true, ite_self, ne_eq]

theorem State.downward_frame {p : Part} (s : State) (broadcast : Bool) (target tag : Nat) (length payload : Nat) (h : p ∉
    [Part.cascadeOut, .cascadeIn]) : p.of (s.downward broadcast target tag length payload) = p.of s := by
  simp only [Part.outside] at h
  simp only [State.downward, ↓Part.of_ite, ↓Part.of_set, ↓State.sendCascade_frame, Part.outside, h, not_false_eq_true, and_self,
      ite_self, ne_eq, ↓Part.of_foldl, implies_true]

theorem State.relay_frame {p : Part} (s : State) (n : Nat) (records : List (Nat × Nat)) (h : p ∉ [Part.hif,
    .uplinks]) : p.of (s.relay n records) = p.of s := by
  simp only [Part.outside] at h
  unfold State.relay
  split
  · refine Part.of_foldl _ _ _ _ fun s e => ?_
    split <;> simp only [↓State.uplinkNow_frame, Part.outside, h, not_false_eq_true, and_self]
  · rfl

theorem State.tunnelled_frame {p : Part} (s : State) (source : Nat) (i : RxInfo) (h : p ∉ [Part.free, .cat, .hif, .frames, .nextFrame,
    .lines, .queues, .memory]) : p.of (s.tunnelled source i) = p.of s := by
  simp only [Part.outside] at h
  unfold State.tunnelled
  (repeat' split) <;> simp only [↓State.arrive_frame, ↓State.bump_frame, Part.outside, h, not_false_eq_true, and_self]

/-! ### Path -/

theorem State.discard_frame {p : Part} (s : State) (f : Frame) (h : p ∉ [Part.frames, .cascades, .cascadeOut, .queues,
    .records]) : p.of (s.discard f) = p.of s := by
  simp only [Part.outside] at h
  simp only [State.discard, ↓State.settleForward_frame, ↓State.dropFrame_frame, Part.outside, h, not_false_eq_true, and_self]

theorem State.unknownFrame_frame {p : Part} (s : State) (f : Frame) (h : p ∉ [Part.free, .cat, .frames, .unknown, .cascades, .cascadeOut,
    .queues, .records]) : p.of (s.unknownFrame f) = p.of s := by
  simp only [Part.outside] at h
  simp only [State.unknownFrame, ↓Part.of_set, ↓State.discard_frame, ↓State.bump_frame, Part.outside, h, not_false_eq_true, and_self,
      ne_eq]

theorem State.hearFrame_frame {p : Part} (s : State) (f : Frame) (tag : Nat) (h : p ∉ [Part.relayed,
    .recs]) : p.of (s.hearFrame f tag) = p.of s := by
  simp only [Part.outside] at h
  unfold State.hearFrame
  split <;> simp only [↓Part.of_set, ↓State.modRecord_frame, Part.outside, h, not_false_eq_true, and_self, ne_eq]

theorem State.askAdmission_frame {p : Part} (s : State) (f : Frame) (r : Record) (retx : Bool) (h : p ∉ [Part.free, .cat, .hif, .frames,
    .win, .cascades, .cascadeOut, .queues, .memory, .logs, .records]) : p.of (s.askAdmission f r retx) = p.of s := by
  simp only [Part.outside] at h
  unfold State.askAdmission
  have k : p.of (s.admitFrame r.tenant).2 = p.of s := s.admitFrame_frame _ (by simp only [Part.outside, h, not_false_eq_true, and_self])
  simp only
  split
  · simp only [↓Part.of_ite, ↓State.discard_frame, ↓State.bump_frame, ↓State.logOp_frame, Part.outside, h, not_false_eq_true, and_self,
      ite_self]
  · split
    · simp only [↓Part.of_ite, ↓State.discard_frame, ↓State.bump_frame, Part.outside, h, not_false_eq_true, and_self, ite_self]
    · split <;> rename_i e <;> rw [e] at k
      · split <;> simp only [↓State.askResponse_frame, ↓State.toStage_frame, Part.outside, h, not_false_eq_true, and_self, ↓Part.of_pair,
          k]
      · simp only [↓Part.of_ite, ↓State.discard_frame, ↓State.bump_frame, Part.outside, h, not_false_eq_true, and_self, ite_self, k]

theorem State.linkLayer_frame {p : Part} (s : State) (id : Nat) (h : p ∉ [Part.free, .cat, .hif, .frames, .win, .unknown, .relayed,
    .cascades, .cascadeOut, .queues, .memory, .logs, .recs, .records]) : p.of (s.linkLayer id) = p.of s := by
  simp only [Part.outside] at h
  unfold State.linkLayer
  (repeat' split) <;> simp only [↓State.unknownFrame_frame, ↓State.discard_frame, ↓State.badRecord_frame, ↓State.bump_frame,
      ↓State.dropFrame_frame, ↓State.hearFrame_frame, ↓State.askAdmission_frame, Part.outside, h, not_false_eq_true, and_self]

theorem State.authenticated_frame {p : Part} (s : State) (f : Frame) (r : Record) (h : p ∉ [Part.free, .cat, .loc, .frames, .relayed,
    .cascades, .cascadeOut, .dl, .queues, .memory, .recs, .records]) : p.of (s.authenticated f r) = p.of s := by
  simp only [Part.outside] at h
  simp only [State.authenticated, ↓Part.of_ite, ↓Part.of_set, ↓State.hearFrame_frame, ↓State.holdDedicated_frame, ↓State.modRecord_frame,
      ↓State.bump_frame, ↓State.holdKey_frame, ↓State.takeAsk_frame, ↓State.toStage_frame, ↓State.owesAck_frame,
      ↓State.settleForward_frame, ↓State.dropFrame_frame, Part.outside, h, not_false_eq_true, and_self, ite_self, ne_eq]

theorem State.unwrapFrame_frame {p : Part} (s : State) (id : Nat) (authentic tagged : Bool) (h : p ∉ [Part.free, .cat, .hif, .loc,
    .frames, .unknown, .relayed, .cascades, .cascadeOut, .dl, .queues, .memory, .logs, .recs,
    .records]) : p.of (s.unwrapFrame id authentic tagged) = p.of s := by
  simp only [Part.outside] at h
  unfold State.unwrapFrame
  (repeat' split) <;> simp only [↓State.discard_frame, ↓State.unknownFrame_frame, ↓State.refuseSecurity_frame, ↓State.served_frame,
      ↓State.bump_frame, ↓State.authenticated_frame, ↓State.refuseBlob_frame, Part.outside, h, not_false_eq_true, and_self]

theorem State.forwardUp_frame {p : Part} (s : State) (f : Frame) (r : Record) (seq : Nat) (h : p ∉ [Part.frames, .cascadeOut, .queues,
    .forward]) : p.of (s.forwardUp f r seq) = p.of s := by
  simp only [Part.outside] at h
  simp only [State.forwardUp, ↓Part.of_ite, ↓Part.of_setNand, ↓State.sendCascade_frame, ↓State.dropFrame_frame, Part.outside, h,
      not_false_eq_true, and_self, ite_self, ne_eq]

theorem State.enterJournal_frame {p : Part} (s : State) (f : Frame) (r : Record) (h : p ∉ [Part.cask, .frames, .cascades, .cascadeOut,
    .dl, .queues, .memory, .recs, .ingest, .forward, .series, .records]) : p.of (s.enterJournal f r) = p.of s := by
  simp only [Part.outside] at h
  simp only [State.enterJournal, ↓Part.of_ite, ↓Part.of_setNand, ↓State.modRecord_frame, ↓State.commit_frame, ↓State.toStage_frame,
      ↓State.owesAck_frame, ↓State.settleForward_frame, ↓State.forwardUp_frame, Part.outside, h, not_false_eq_true, and_self, ite_self,
      ne_eq]

theorem State.ingestCommit_frame {p : Part} (s : State) (id : Nat) (h : p ∉ [Part.free, .cat, .cask, .loc, .frames, .unknown, .cascades,
    .cascadeOut, .dl, .queues, .memory, .recs, .ingest, .forward, .series, .records]) : p.of (s.ingestCommit id) = p.of s := by
  simp only [Part.outside] at h
  unfold State.ingestCommit
  (repeat' split) <;> simp only [↓State.discard_frame, ↓State.bump_frame, ↓State.purgeSlot_frame, ↓State.unknownFrame_frame,
      ↓State.enterJournal_frame, Part.outside, h, not_false_eq_true, and_self]

theorem State.readingOf_frame {p : Part} (s : State) (f : Frame) (r : Record) (ch : Nat) (e : Element) (h : p ∉ [Part.free]) : p.of
    (s.readingOf f r ch e).2 = p.of s := by
  simp only [Part.outside] at h
  simp only [State.readingOf, ↓State.fitInt_frame, Part.outside, h, not_false_eq_true, and_self]

theorem State.parseElement_frame {p : Part} (s : State) (f : Frame) (r : Record) (e : Element) (h : p ∉ [Part.free, .cat,
    .storms]) : p.of (s.parseElement f r e).2 = p.of s := by
  simp only [Part.outside] at h
  simp only [State.parseElement, ↓State.bump_frame, Part.outside, h, not_false_eq_true, and_self, ↓Part.of_ite_snd, ↓Part.of_pair]
  (repeat' split) <;> simp only [↓State.bump_frame, ↓State.readingOf_frame, ↓State.notification_frame, Part.outside, h,
      not_false_eq_true, and_self, ↓Part.of_pair]

theorem State.atStage_frame {p : Part} (s : State) (id stage : Nat) (g : Frame → Record → State) (h : p ∉ [Part.free, .cat, .hif, .logs,
    .recs]) (hg : ∀ f r, p.of (g f r) = p.of s) : p.of (s.atStage id stage g) = p.of s := by
  simp only [Part.outside] at h
  unfold State.atStage
  split
  · rfl
  · split
    · rfl
    · split
      · rfl
      · simp only [↓Part.of_ite, ↓State.badRecord_frame, Part.outside, h, not_false_eq_true, and_self, ite_self, hg]

theorem State.parseFrame_frame {p : Part} (s : State) (id : Nat) (elements : List Element) (h : p ∉ [Part.free, .cat, .hif, .frames,
    .storms, .queues, .memory, .logs, .recs]) : p.of (s.parseFrame id elements) = p.of s := by
  simp only [Part.outside] at h
  unfold State.parseFrame
  refine State.atStage_frame _ _ _ _ (by simp only [Part.outside, h, not_false_eq_true, and_self]) fun f r => ?_
  split
  · simp only [↓State.bump_frame, ↓State.toStage_frame, Part.outside, h, not_false_eq_true, and_self]
  · simp only [↓State.toStage_frame, Part.outside, h, not_false_eq_true, and_self]
    refine Part.of_foldl_snd _ _ _ _ fun a x => ?_
    simp only [↓State.parseElement_frame, Part.outside, h, not_false_eq_true, and_self]

/-! ### Results -/

theorem State.judgeNext_frame {p : Part} (s : State) (f : Frame) (r : Record) (a : Judged × State) (e : Reading × Nat) (h : p ∉
    [Part.free, .cat]) : p.of (s.judgeNext f r a e).2 = p.of a.2 := by
  simp only [Part.outside] at h
  simp only [State.judgeNext, ↓State.bump_frame, Part.outside, h, not_false_eq_true, and_self, ite_self, ↓Part.of_ite_snd, ↓Part.of_pair]

theorem State.validate_frame {p : Part} (s : State) (id : Nat) (h : p ∉ [Part.free, .cat, .hif, .frames, .queues, .memory, .logs,
    .recs]) : p.of (s.validate id) = p.of s := by
  simp only [Part.outside] at h
  unfold State.validate
  refine State.atStage_frame _ _ _ _ (by simp only [Part.outside, h, not_false_eq_true, and_self]) fun f r => ?_
  simp only [↓State.toStage_frame, Part.outside, h, not_false_eq_true, and_self]
  refine Part.of_foldl_snd _ _ _ _ fun a x => ?_
  simp only [↓State.judgeNext_frame, Part.outside, h, not_false_eq_true, and_self]

theorem State.billFrame_frame {p : Part} (s : State) (id : Nat) (h : p ∉ [Part.free, .cat, .hif, .frames, .queues, .memory, .logs,
    .recs]) : p.of (s.billFrame id) = p.of s := by
  simp only [Part.outside] at h
  simp only [State.billFrame, ↓State.atStage_frame, ↓State.toStage_frame, Part.outside, h, not_false_eq_true, and_self, implies_true]

theorem State.scalesAdd_frame {p : Part} (s : State) (id : Nat) (h : p ∉ [Part.free, .cat, .hif, .frames, .queues, .memory, .logs,
    .recs]) : p.of (s.scalesAdd id) = p.of s := by
  simp only [Part.outside] at h
  simp only [State.scalesAdd, ↓State.atStage_frame, ↓State.toStage_frame, Part.outside, h, not_false_eq_true, and_self, implies_true]

theorem State.itemAcked_frame {p : Part} (s : State) (r : Record) (seq : Nat) (h : p ∉ [Part.free, .cat, .hif, .cask, .gate, .upHold,
    .logs, .uplinks, .recs, .bills, .items, .series]) : p.of (s.itemAcked r seq) = p.of s := by
  simp only [Part.outside] at h
  unfold State.itemAcked
  (repeat' split) <;> simp only [↓State.unstage_frame, ↓State.endRequest_frame, ↓State.switchAcked_frame, Part.outside, h,
      not_false_eq_true, and_self]

theorem State.frameEvent_frame {p : Part} (s : State) (f : Frame) (e : FrameEvent) (h : p ∉ [Part.free, .cat, .hif, .cask, .gate,
    .storms, .dl, .upHold, .logs, .uplinks, .recs, .bills, .nodes, .items, .series, .records]) : p.of (s.frameEvent f e) = p.of s := by
  simp only [Part.outside] at h
  simp only [State.frameEvent]
  (repeat' split) <;> simp only [↓State.stormResult_frame, ↓State.modRecord_frame, ↓State.logOpFree_frame, ↓State.scoreAdd_frame,
      ↓State.acceptEmergency_frame, ↓State.itemAcked_frame, ↓State.blockMissing_frame, ↓State.endpointComplete_frame, Part.outside, h,
      not_false_eq_true, and_self, ↓Part.of_pair]

theorem State.applyReading_frame {p : Part} (s : State) (f : Frame) (x : Reading) (h : p ∉ [Part.free, .cat, .stores, .bat, .hif, .cask,
    .gate, .freeze, .upHold, .logs, .uplinks, .recs, .bills, .items, .series, .records]) : p.of (s.applyReading f x) = p.of s := by
  simp only [Part.outside] at h
  unfold State.applyReading
  split <;> simp only [↓State.advanceFor_frame, ↓State.commitReading_frame, Part.outside, h, not_false_eq_true, and_self]

theorem State.runParked_frame {part : Part} (s : State) (p : Parked) (h : part ∉ [Part.free, .cat, .stores, .bat, .hif, .sessions, .cask,
    .gate, .loc, .freeze, .dl, .votes, .upHold, .logs, .uplinks, .recs, .hash, .blobs, .bills, .nodes, .items, .series,
    .records]) : part.of (s.runParked p) = part.of s := by
  simp only [Part.outside] at h
  unfold State.runParked
  split <;> simp only [↓State.finishOrdered_frame, ↓State.topUpBody_frame, ↓State.debtSetBody_frame, ↓State.lockOutBody_frame,
      ↓State.emergencyBody_frame, ↓State.stageBody_frame, ↓State.removeBody_frame, ↓State.keyUpdateBody_frame, Part.outside, h,
      not_false_eq_true, and_self, implies_true]

theorem State.releaseParked_frame {p : Part} (s : State) (tag : Nat) (h : p ∉ [Part.free, .cat, .stores, .bat, .hif, .sessions, .cask,
    .gate, .loc, .freeze, .dl, .votes, .parked, .upHold, .logs, .uplinks, .recs, .hash, .blobs, .bills, .nodes, .items, .series,
    .records]) : p.of (s.releaseParked tag) = p.of s := by
  simp only [Part.outside] at h
  simp only [State.releaseParked, ↓Part.of_set, ↓State.runParked_frame, Part.outside, h, not_false_eq_true, and_self, ne_eq,
      ↓Part.of_foldl, implies_true]

theorem State.supersede_frame {p : Part} (s : State) (seq : Nat) (h : p ∉ [Part.cask, .ingest]) : p.of (s.supersede seq) = p.of s := by
  simp only [Part.outside] at h
  simp only [State.supersede, ↓Part.of_update, h, and_self, implies_true, IsEmpty.forall_iff]

theorem State.resultCommit_frame {p : Part} (s : State) (id : Nat) (h : p ∉ [Part.free, .cat, .stores, .bat, .pw, .hif, .sessions, .cask,
    .gate, .loc, .freeze, .frames, .storms, .dl, .votes, .parked, .upHold, .queues, .memory, .logs, .uplinks, .recs, .hash, .blobs,
    .bills, .nodes, .ingest, .withheld, .items, .series, .records]) : p.of (s.resultCommit id) = p.of s := by
  simp only [Part.outside] at h
  unfold State.resultCommit
  refine State.atStage_frame _ _ _ _ (by simp only [Part.outside, h, not_false_eq_true, and_self]) fun a b => ?_
  simp only [↓Part.of_ite, ↓Part.of_set, ↓State.applyReading_frame, ↓State.scoreAdd_frame, ↓State.shadow_frame, ↓State.frameEvent_frame,
      ↓State.modRecord_frame, ↓State.commit_frame, ↓State.supersede_frame, ↓State.toStage_frame, ↓State.finishReplay_frame,
      ↓State.releaseParked_frame, Part.outside, h, not_false_eq_true, and_self, ite_self, ne_eq, ↓Part.of_foldl, implies_true]

theorem State.uplinkRecord_frame {p : Part} (s : State) (id : Nat) (h : p ∉ [Part.hif, .frames, .queues, .memory,
    .uplinks]) : p.of (s.uplinkRecord id) = p.of s := by
  simp only [Part.outside] at h
  unfold State.uplinkRecord
  split <;> simp only [↓Part.of_ite, ↓State.uplinkNow_frame, ↓State.toStage_frame, ↓State.dropFrame_frame, ↓State.served_frame,
      Part.outside, h, not_false_eq_true, and_self, ite_self, ↓Part.of_foldl, implies_true]

theorem State.batchSent_frame {p : Part} (s : State) (t seq : Nat) (h : p ∉ [Part.uplinks]) : p.of (s.batchSent t seq) = p.of s := by
  simp only [Part.outside] at h
  simp only [State.batchSent, ↓Part.of_setNand, h, not_false_eq_true, ne_eq]

theorem State.pumpList_frame {p : Part} (s : State) (q : Nat) (x2 : List Batch) (h : p ∉ [Part.free, .cat, .hif,
    .uplinks]) : p.of (s.pumpList q x2) = p.of s := by
  induction x2 generalizing s with
  | nil => rfl
  | cons b bs ih =>
    have g := h
    simp only [Part.outside] at g
    unfold State.pumpList
    split
    · rfl
    · split
      · simp only [↓Part.of_ite, ↓State.hqStarve_frame, Part.outside, g, not_false_eq_true, and_self, ite_self]
      · simp only [ih, ↓State.batchSent_frame, ↓State.hqComplete_frame, ↓State.modHq_frame, Part.outside, g, not_false_eq_true, and_self]

theorem State.pumpBatches_frame {p : Part} (s : State) (q : Nat) (h : p ∉ [Part.free, .cat, .hif,
    .uplinks]) : p.of (s.pumpBatches q) = p.of s := by
  simp only [Part.outside] at h
  unfold State.pumpBatches
  split <;> simp only [↓Part.of_ite, ↓State.pumpList_frame, Part.outside, h, not_false_eq_true, and_self, ite_self]

theorem State.uplinkBatch_frame {p : Part} (s : State) (t : Nat) (h : p ∉ [Part.free, .cat, .hif,
    .uplinks]) : p.of (s.uplinkBatch t) = p.of s := by
  simp only [Part.outside] at h
  simp only [State.uplinkBatch, ↓Part.of_ite, ↓Part.of_setNand, ↓State.closeBatch_frame, ↓State.pumpBatches_frame, Part.outside, h,
      not_false_eq_true, and_self, ite_self, ne_eq, ↓Part.of_foldl, implies_true]

theorem State.batchConfirmation_frame {p : Part} (s : State) (t seq : Nat) (h : p ∉ [Part.uplinks]) : p.of (s.batchConfirmation t seq) =
    p.of s := by
  simp only [Part.outside] at h
  simp only [State.batchConfirmation, ↓Part.of_ite, ↓Part.of_setNand, h, not_false_eq_true, ite_self, ne_eq]

theorem State.redeliver_frame {part : Part} (s : State) (p : Batch → Bool) (h : part ∉ [Part.uplinks]) : part.of (s.redeliver p) =
    part.of s := by
  simp only [Part.outside] at h
  simp only [State.redeliver, ↓Part.of_setNand, h, not_false_eq_true, ne_eq]

theorem State.countHeld_frame {p : Part} (s : State) (h : p ∉ [Part.cat]) : p.of s.countHeld = p.of s := by
  simp only [Part.outside] at h
  simp only [State.countHeld, ↓State.set_frame, Part.outside, h, not_false_eq_true, and_self]

theorem State.rejoin_frame {p : Part} (s : State) (f : Frame) (replay : Bool) (h : p ∉ [Part.free, .cat, .frames, .nextFrame, .lines,
    .queues, .memory]) : p.of (s.rejoin f replay) = p.of s := by
  simp only [Part.outside] at h
  simp only [State.rejoin, ↓Part.of_update, ↓State.pushFrame_frame, Part.outside, h, not_false_eq_true, and_self, implies_true,
      IsEmpty.forall_iff]

theorem State.keyHeldRelease_frame {p : Part} (s : State) (seq : Nat) (authentic : Bool) (h : p ∉ [Part.free, .cat, .frames, .nextFrame,
    .lines, .queues, .memory, .ingest]) : p.of (s.keyHeldRelease seq authentic) = p.of s := by
  simp only [Part.outside] at h
  unfold State.keyHeldRelease
  (repeat' split) <;> simp only [↓Part.of_setNand, ↓State.countHeld_frame, ↓State.rejoin_frame, Part.outside, h, not_false_eq_true,
      and_self, ne_eq]

/-! ### CasketOps -/

theorem State.modBlock_frame {p : Part} (s : State) (b : Nat) (f : Block → Block) (h : p ∉ [Part.cask]) : p.of (s.modBlock b f) = p.of s
    := by
  simp only [Part.outside] at h
  simp only [State.modBlock, ↓Part.of_set, h, not_false_eq_true, ne_eq]

theorem State.ensureOpen_frame {p : Part} (s : State) (stream chan : Nat) (h : p ∉ [Part.cask]) : p.of (s.ensureOpen stream chan).2 =
    p.of s := by
  simp only [Part.outside] at h
  unfold State.ensureOpen
  (repeat' split) <;> simp only [↓State.modBlock_frame, Part.outside, h, not_false_eq_true, and_self, ↓Part.of_pair]

theorem State.placeUnit_frame {p : Part} (s : State) (stream chan : Nat) (h : p ∉ [Part.cask]) : p.of (s.placeUnit stream chan).2 = p.of
    s := by
  simp only [Part.outside] at h
  simp only [State.placeUnit]
  (repeat' split) <;> simp only [↓Part.of_set, ↓State.ensureOpen_frame, ↓State.modBlock_frame, Part.outside, h, not_false_eq_true,
      and_self, ne_eq, ↓Part.of_pair]

theorem State.drawChannel_frame {p : Part} (s : State) (h : p ∉ [Part.free]) : p.of s.drawChannel.2 = p.of s := by
  simp only [Part.outside] at h
  simp only [State.drawChannel, ↓State.draw_frame, Part.outside, h, not_false_eq_true, and_self]

theorem State.journal_frame {p : Part} (s : State) (k : Nat) (h : p ∉ [Part.cask]) : p.of (s.journal k) = p.of s := by
  simp only [Part.outside] at h
  simp only [State.journal, ↓Part.of_set, h, not_false_eq_true, ne_eq]

theorem State.mediaReadOnly_frame {p : Part} (s : State) (h : p ∉ [Part.free, .cat, .stores, .bat, .hif, .cask, .freeze,
    .logs]) : p.of s.mediaReadOnly = p.of s := by
  simp only [Part.outside] at h
  simp only [State.mediaReadOnly, ↓Part.of_ite, ↓State.set_frame, ↓State.logLegal_frame, Part.outside, h, not_false_eq_true, and_self,
      ite_self]

theorem State.retireBlock_frame {p : Part} (s : State) (b : Nat) (h : p ∉ [Part.free, .cat, .stores, .bat, .hif, .cask, .freeze,
    .logs]) : p.of (s.retireBlock b) = p.of s := by
  simp only [Part.outside] at h
  simp only [State.retireBlock, ↓State.journal_frame, ↓State.modBlock_frame, ↓State.setPaired_frame, ↓State.mediaReadOnly_frame,
      ↓State.set_frame, Part.outside, h, not_false_eq_true, and_self]

theorem State.spread_frame {p : Part} (s : State) (h : p ∉ [Part.cat]) : p.of s.spread = p.of s := by
  simp only [Part.outside] at h
  simp only [State.spread, ↓State.set_frame, Part.outside, h, not_false_eq_true, and_self]

theorem State.writeMeta_frame {part : Part} (s : State) (p key stream : Nat) (h : part ∉ [Part.cask]) : part.of (s.writeMeta p key
    stream) = part.of s := by
  simp only [Part.outside] at h
  simp only [State.writeMeta, ↓Part.of_set, h, not_false_eq_true, ne_eq]

theorem State.freeErased_frame {p : Part} (s : State) (b : Nat) (h : p ∉ [Part.cat, .cask]) : p.of (s.freeErased b) = p.of s := by
  simp only [Part.outside] at h
  simp only [State.freeErased, ↓Part.of_set, ↓State.spread_frame, ↓State.journal_frame, ↓State.modBlock_frame, Part.outside, h,
      not_false_eq_true, and_self, ne_eq]

theorem State.allProgrammed_frame {p : Part} (s : State) (h : p ∉ [Part.free, .cat, .stores, .bat, .cask, .loc, .nandProg, .ingest,
    .records]) : p.of s.allProgrammed = p.of s := by
  simp only [Part.outside] at h
  simp only [State.allProgrammed, ↓Part.of_update, ↓State.storeKeys_frame, Part.outside, h, not_false_eq_true, and_self, implies_true,
      IsEmpty.forall_iff]

theorem State.programUnit_frame {p : Part} (s : State) (partition chan unit : Nat) (h : p ∉ [Part.free, .cat, .stores, .bat, .cask, .loc,
    .nandProg, .ingest, .records]) : p.of (s.programUnit partition chan unit) = p.of s := by
  simp only [Part.outside] at h
  simp only [State.programUnit]
  (repeat' split) <;> simp only [↓Part.of_set, ↓State.placeUnit_frame, ↓State.writeMeta_frame, ↓State.allProgrammed_frame, Part.outside,
      h, not_false_eq_true, and_self, ne_eq]

theorem State.programComplete_frame {p : Part} (s : State) (partition : Nat) (units : List Nat) (ok : Bool) (h : p ∉ [Part.free, .cat,
    .stores, .bat, .hif, .cask, .loc, .freeze, .nandProg, .logs, .ingest,
    .records]) : p.of (s.programComplete partition units ok) = p.of s := by
  simp only [Part.outside] at h
  unfold State.programComplete
  have k : ∀ s : State, p.of (s.ensureOpen (streamOf partition) s.drawChannel.1).2 = p.of s :=
    fun s => s.ensureOpen_frame _ _ (by simp only [Part.outside, h, not_false_eq_true, and_self])
  split
  · rfl
  · simp only
    split
    · refine (Part.of_foldl _ _ _ _ fun s u => ?_).trans ?_ <;> simp only [↓State.drawChannel_frame, ↓State.programUnit_frame,
        Part.outside, h, not_false_eq_true, and_self]
    · split <;> rename_i e <;> have m := congrArg (fun x : Option Nat × State => p.of x.2) e <;> simp only [↓State.drawChannel_frame,
        ↓State.ensureOpen_frame, Part.outside, h, not_false_eq_true, and_self, ↓Part.of_pair] at m <;>
        simp only [↓State.retireBlock_frame, Part.outside, h, not_false_eq_true, and_self, ← m]

theorem State.copyUnits_frame {p : Part} (s : State) (chan : Nat) (l : List (Nat × Nat)) (h : p ∉ [Part.cask]) : ∀ u,
    s.copyUnits chan l = some u → p.of u.2 = p.of s := by
  have g := h
  simp only [Part.outside] at g
  induction l generalizing s with
  | nil => rintro u ⟨⟩; rfl
  | cons e t ih =>
    intro u hu
    unfold State.copyUnits at hu
    have k : p.of (s.placeUnit 4 chan).2 = p.of s := by
      simp only [↓State.placeUnit_frame, Part.outside, g, not_false_eq_true, and_self]
    split at hu
    · rename_i q w hw
      rw [hw] at k
      obtain ⟨v, hv, rfl⟩ := Option.map_eq_some_iff.1 hu
      rw [ih _ v hv, ← k]
      simp only [↓State.writeMeta_frame, Part.outside, g, not_false_eq_true, and_self]
    · exact nomatch hu

theorem State.relocate_frame {p : Part} (s : State) (b why : Nat) (h : p ∉ [Part.free, .cask]) : p.of (s.relocate b why) = p.of s := by
  simp only [Part.outside] at h
  have k : p.of s.drawChannel.2 = p.of s := by simp only [↓State.drawChannel_frame, Part.outside, h, not_false_eq_true, and_self]
  unfold State.relocate
  simp only
  split
  · exact k
  · rename_i u v e
    have m := State.copyUnits_frame _ _ _ (p := p) (by simp only [Part.outside, h, not_false_eq_true, and_self]) _ e
    simp only [↓Part.of_set, h, not_false_eq_true, ne_eq]
    exact m.trans k

theorem State.unmapUnit_frame {p : Part} (s : State) (key : Nat) (h : p ∉ [Part.cask, .user]) : p.of (s.unmapUnit key) = p.of s := by
  simp only [Part.outside] at h
  simp only [State.unmapUnit, ↓Part.of_update, h, and_self, implies_true, IsEmpty.forall_iff]

theorem State.relocGroup_frame {p : Part} (s : State) (r : Reloc) (h : p ∉ [Part.cask, .user]) : p.of (s.relocGroup r) = p.of s := by
  simp only [Part.outside] at h
  simp only [State.relocGroup, ↓Part.of_set, ↓State.unmapUnit_frame, ↓State.journal_frame, Part.outside, h, not_false_eq_true, and_self,
      ne_eq, ↓Part.of_foldl, implies_true]

theorem State.newDirtyLimit_frame {p : Part} (s : State) (b : Board) (h : p ∉ [Part.free]) : p.of (s.newDirtyLimit b).2 = p.of s := by
  simp only [Part.outside] at h
  simp only [State.newDirtyLimit, ↓State.draw_frame, Part.outside, h, not_false_eq_true, and_self]

theorem State.takeGeometry_frame {p : Part} (s : State) (b : Board) (h : p ∉ [Part.free, .cat,
    .cask]) : p.of (s.takeGeometry b) = p.of s := by
  simp only [Part.outside] at h
  simp only [State.takeGeometry, ↓Part.of_set, ↓State.newDirtyLimit_frame, ↓State.set_frame, Part.outside, h, not_false_eq_true,
      and_self, ne_eq]

theorem State.setSpare_frame {p : Part} (s : State) (h : p ∉ [Part.cat]) : p.of s.setSpare = p.of s := by
  simp only [Part.outside] at h
  simp only [State.setSpare, ↓State.set_frame, Part.outside, h, not_false_eq_true, and_self]

theorem State.clearAlarm_frame {p : Part} (s : State) (h : p ∉ [Part.free, .cat, .stores, .bat]) : p.of s.clearAlarm = p.of s := by
  simp only [Part.outside] at h
  simp only [State.clearAlarm, ↓Part.of_ite, ↓Part.of_set, ↓State.setPaired_frame, Part.outside, h, not_false_eq_true, and_self,
      ite_self, ne_eq]

theorem State.applySizes_frame {p : Part} (s : State) (h : p ∉ [Part.inForce]) : p.of s.applySizes = p.of s := by
  simp only [Part.outside] at h
  simp only [State.applySizes, ↓Part.of_set, h, not_false_eq_true, ne_eq]

theorem State.writeRoot_frame {p : Part} (s : State) (number begin_ : Nat) (h : p ∉ [Part.free, .cat,
    .stores]) : p.of (s.writeRoot number begin_) = p.of s := by
  simp only [Part.outside] at h
  simp only [State.writeRoot, ↓State.commitPaired_frame, Part.outside, h, not_false_eq_true, and_self]

theorem State.format_frame {p : Part} (s : State) (h : p ∉ [Part.free, .cat, .inForce, .stores, .bat, .cask, .loc, .frames, .nandProg,
    .queues, .logs, .anchors, .user, .uplinks, .recs, .hash, .blobs, .bills, .spans, .nodes, .ingest, .forward, .withheld, .items,
    .series, .records]) : p.of s.format = p.of s := by
  simp only [Part.outside] at h
  simp only [State.format, ↓Part.of_update, ↓State.applySizes_frame, ↓State.set_frame, ↓State.storeKeys_frame, ↓State.dropFrame_frame,
      ↓State.setSpare_frame, ↓State.spread_frame, ↓State.countHeld_frame, ↓State.clearAlarm_frame, ↓State.writeRoot_frame, Part.outside,
      h, not_false_eq_true, and_self, ↓Part.of_foldl, implies_true, IsEmpty.forall_iff]

theorem State.mountOld_frame {p : Part} (s : State) (b : Board) (h : p ∉ [Part.free, .cat, .stores, .bat,
    .cask]) : p.of (s.mountOld b) = p.of s := by
  simp only [Part.outside] at h
  simp only [State.mountOld, ↓Part.of_ite, ↓Part.of_set, ↓State.takeGeometry_frame, ↓State.freeErased_frame, ↓State.spread_frame,
      ↓State.setSpare_frame, ↓State.storageAlarm_frame, ↓State.set_frame, ↓State.clearAlarm_frame, Part.outside, h, not_false_eq_true,
      and_self, ite_self, ne_eq, ↓Part.of_foldl, implies_true]

theorem State.drawSalt_frame {p : Part} (s : State) (h : p ∉ [Part.free, .cat, .stores]) : p.of s.drawSalt = p.of s := by
  simp only [Part.outside] at h
  simp only [State.drawSalt, ↓State.draw_frame, ↓State.setPaired_frame, Part.outside, h, not_false_eq_true, and_self]

theorem State.mountNew_frame {p : Part} (s : State) (b : Board) (h : p ∉ [Part.free, .cat, .inForce, .stores, .bat, .cask, .loc, .frames,
    .nandProg, .queues, .logs, .anchors, .user, .uplinks, .recs, .hash, .blobs, .bills, .spans, .nodes, .ingest, .forward, .withheld,
    .items, .series, .records]) : p.of (s.mountNew b) = p.of s := by
  simp only [Part.outside] at h
  simp only [State.mountNew, ↓Part.of_set, ↓State.takeGeometry_frame, ↓State.drawSalt_frame, ↓State.format_frame, Part.outside, h,
      not_false_eq_true, and_self, ne_eq]

/-! ### Casket -/

theorem State.collect_frame {p : Part} (s : State) (h : p ∉ [Part.free, .cat, .cask]) : p.of s.collect = p.of s := by
  simp only [Part.outside] at h
  simp only [State.collect, ↓Part.of_ite]
  (repeat' split) <;> simp only [↓State.bump_frame, ↓State.relocate_frame, Part.outside, h, not_false_eq_true, and_self]

theorem State.erasePending_frame {p : Part} (s : State) (h : p ∉ [Part.cask]) : p.of s.erasePending = p.of s := by
  simp only [Part.outside] at h
  unfold State.erasePending
  split <;> simp only [↓Part.of_set, ↓State.journal_frame, ↓State.modBlock_frame, Part.outside, h, not_false_eq_true, and_self, ne_eq]

theorem State.eraseDone_frame {p : Part} (s : State) (ok : Bool) (h : p ∉ [Part.free, .cat, .stores, .bat, .hif, .cask, .freeze,
    .logs]) : p.of (s.eraseDone ok) = p.of s := by
  simp only [Part.outside] at h
  unfold State.eraseDone
  split <;> simp only [↓Part.of_ite, ↓Part.of_set, ↓State.freeErased_frame, ↓State.retireBlock_frame, Part.outside, h, not_false_eq_true,
      and_self, ite_self, ne_eq]

theorem State.refresh_frame {p : Part} (s : State) (b : Nat) (h : p ∉ [Part.free, .cask]) : p.of (s.refresh b) = p.of s := by
  simp only [Part.outside] at h
  unfold State.refresh
  split <;> simp only [↓Part.of_ite, ↓State.relocate_frame, Part.outside, h, not_false_eq_true, and_self, ite_self]

theorem State.levelWear_frame {p : Part} (s : State) (h : p ∉ [Part.free, .cask]) : p.of s.levelWear = p.of s := by
  simp only [Part.outside] at h
  unfold State.levelWear
  split <;> simp only [↓Part.of_ite, ↓Part.of_set, ↓State.relocate_frame, Part.outside, h, not_false_eq_true, and_self, ite_self, ne_eq]

theorem State.checkpoint_frame {p : Part} (s : State) (h : p ∉ [Part.cask]) : p.of s.checkpoint = p.of s := by
  simp only [Part.outside] at h
  simp only [State.checkpoint, ↓Part.of_ite, ↓Part.of_set, h, not_false_eq_true, ite_self, ne_eq]

theorem State.rootUpdate_frame {p : Part} (s : State) (h : p ∉ [Part.free, .cat, .stores, .cask]) : p.of s.rootUpdate = p.of s := by
  simp only [Part.outside] at h
  unfold State.rootUpdate
  split <;> simp only [↓Part.of_ite, ↓Part.of_set, ↓State.writeRoot_frame, Part.outside, h, not_false_eq_true, and_self, ite_self, ne_eq]

theorem State.archiveDiscard_frame {p : Part} (s : State) (h : p ∉ [Part.free, .cat, .hif, .logs,
    .records]) : p.of s.archiveDiscard = p.of s := by
  simp only [Part.outside] at h
  simp only [State.archiveDiscard, ↓Part.of_ite, ↓Part.of_setNand, ↓State.logOp_frame, ↓State.bumpBy_frame, Part.outside, h,
      not_false_eq_true, and_self, ite_self, ne_eq]

theorem State.readUnit_frame {p : Part} (s : State) (u : Nat) (h : p ∉ [Part.free]) : p.of (s.readUnit u).2 = p.of s := by
  simp only [Part.outside] at h
  simp only [State.readUnit, ↓State.draw_frame, Part.outside, h, not_false_eq_true, and_self, ite_self, ↓Part.of_ite_snd, ↓Part.of_pair]

theorem State.readUnits_frame {p : Part} (s : State) (x1 : List Nat) (h : p ∉ [Part.free]) : p.of (s.readUnits x1).2 = p.of s := by
  induction x1 generalizing s with
  | nil => rfl
  | cons u t ih =>
    have g := h
    simp only [Part.outside] at g
    unfold State.readUnits
    simp only [ih, ↓State.readUnit_frame, Part.outside, g, not_false_eq_true, and_self]

theorem State.markRefresh_frame {p : Part} (s : State) (units : List Nat) (h : p ∉ [Part.cask]) : p.of (s.markRefresh units) = p.of s :=
    by
  simp only [Part.outside] at h
  unfold State.markRefresh
  refine Part.of_foldl _ _ _ _ fun s u => ?_
  split
  · simp only [↓State.modBlock_frame, Part.outside, h, not_false_eq_true, and_self]
  · rfl

theorem State.storageRead_frame {p : Part} (s : State) (r : CapReq) (unit count level : Nat) (h : p ∉ [Part.free, .cat, .hif, .sessions,
    .cask, .logs]) : p.of (s.storageRead r unit count level) = p.of s := by
  simp only [Part.outside] at h
  unfold State.storageRead
  refine State.capExec_frame _ _ _ _ (by simp only [Part.outside, h, not_false_eq_true, and_self]) fun a s => ?_
  simp only [↓Part.of_ite, ↓State.logOp_frame, ↓State.bump_frame, ↓State.markRefresh_frame, ↓State.readUnits_frame, Part.outside, h,
      not_false_eq_true, and_self, ite_self, ↓Part.of_ite_snd, ↓Part.of_pair]

theorem State.storageWrite_frame {p : Part} (s : State) (r : CapReq) (unit count : Nat) (data : List Nat) (h : p ∉ [Part.free, .cat,
    .hif, .sessions, .cask, .user]) : p.of (s.storageWrite r unit count data) = p.of s := by
  simp only [Part.outside] at h
  unfold State.storageWrite
  refine State.capExec_frame _ _ _ _ (by simp only [Part.outside, h, not_false_eq_true, and_self]) fun a s => ?_
  split
  · rfl
  · split
    · rfl
    · refine State.mediaGate_frame _ _ (by simp only [Part.outside, h, not_false_eq_true, and_self]) ?_
      simp only [↓Part.of_pair, ↓State.commit_frame, Part.outside, h, not_false_eq_true, and_self]
      refine Part.of_foldl _ _ _ _ fun s x => ?_
      simp only [↓Part.of_setNand, ↓State.unmapUnit_frame, Part.outside, h, not_false_eq_true, and_self, ne_eq]

theorem State.storageDiscard_frame {p : Part} (s : State) (r : CapReq) (unit count : Nat) (h : p ∉ [Part.free, .cat, .hif, .sessions,
    .cask, .user]) : p.of (s.storageDiscard r unit count) = p.of s := by
  simp only [Part.outside] at h
  unfold State.storageDiscard
  refine State.capExec_frame _ _ _ _ (by simp only [Part.outside, h, not_false_eq_true, and_self]) fun a s => ?_
  split
  · rfl
  · refine State.mediaGate_frame _ _ (by simp only [Part.outside, h, not_false_eq_true, and_self]) ?_
    simp only [↓Part.of_pair, ↓State.commit_frame, ↓Part.of_ite, Part.outside, h, not_false_eq_true, and_self]
    split <;> refine Part.of_foldl _ _ _ _ fun s k => ?_ <;>
      simp only [↓State.unmapUnit_frame, ↓Part.of_ite, ↓Part.of_set, Part.outside, h, not_false_eq_true, and_self, ite_self, ne_eq]

theorem boolCommand_frame {p : Part} (v : Nat) (s : State) (act : State → CapOut × State) (ha : p.of (act s).2 = p.of s) : p.of
    (boolCommand v s act).2 = p.of s := by
  unfold boolCommand
  grind []

theorem State.storageFormat_frame {p : Part} (s : State) (r : CapReq) (v : Nat) (h : p ∉ [Part.free, .cat, .inForce, .stores, .bat, .hif,
    .sessions, .cask, .gate, .loc, .freeze, .frames, .dl, .votes, .parked, .upHold, .nandProg, .queues, .logs, .anchors, .user, .uplinks,
    .recs, .hash, .blobs, .bills, .spans, .nodes, .ingest, .forward, .withheld, .items, .series,
    .records]) : p.of (s.storageFormat r v) = p.of s := by
  simp only [Part.outside] at h
  unfold State.storageFormat
  refine (Part.of_foldl _ _ _ _ fun s q => ?_).trans ?_
  · simp only [↓State.runParked_frame, Part.outside, h, not_false_eq_true, and_self]
  · simp only [↓Part.of_set, h, not_false_eq_true, ne_eq]
    refine State.capExec_frame _ _ _ _ (by simp only [Part.outside, h, not_false_eq_true, and_self]) fun a s => ?_
    refine boolCommand_frame _ _ _ ?_
    simp only [↓Part.of_ite_snd, ↓Part.of_pair, ↓State.format_frame, Part.outside, h, not_false_eq_true, and_self, ite_self]

theorem State.ringRead_frame {p : Part} (s : State) (r : CapReq) (slot : Nat) (h : p ∉ [Part.free, .cat, .stores, .bat, .hif,
    .sessions]) : p.of (s.ringRead r slot) = p.of s := by
  simp only [Part.outside] at h
  simp only [State.ringRead, ↓Part.of_set, ↓State.capExec_frame, ↓State.clearAlarm_frame, Part.outside, h, not_false_eq_true, and_self,
      ite_self, ne_eq, ↓Part.of_ite_snd, ↓Part.of_pair, implies_true]

theorem State.ringAck_frame {p : Part} (s : State) (r : CapReq) (v : Nat) (h : p ∉ [Part.free, .cat, .stores, .bat, .hif,
    .sessions]) : p.of (s.ringAck r v) = p.of s := by
  simp only [Part.outside] at h
  unfold State.ringAck
  refine State.capExec_frame _ _ _ _ (by simp only [Part.outside, h, not_false_eq_true, and_self]) fun a b => ?_
  simp only [↓Part.of_set, ↓boolCommand_frame, ↓State.clearAlarm_frame, Part.outside, h, not_false_eq_true, and_self, ne_eq,
      ↓Part.of_pair]

/-! ### Bracelet -/

theorem State.readHeld_frame {p : Part} (s : State) (log pos media : Nat) (h : p ∉ [Part.free, .cat, .hif,
    .logs]) : p.of (s.readHeld log pos media).2 = p.of s := by
  simp only [Part.outside] at h
  simp only [State.readHeld, ↓State.bump_frame, ↓State.draw_frame, ↓State.logDiag_frame, ↓State.logOp_frame, Part.outside, h,
      not_false_eq_true, and_self, ite_self, ne_eq, ↓Part.of_ite_snd, ↓Part.of_pair]

theorem State.freezeFor_frame {p : Part} (s : State) (holder : Nat) (h : p ∉ [Part.freeze,
    .logs]) : p.of (s.freezeFor holder).2 = p.of s := by
  simp only [Part.outside] at h
  simp only [State.freezeFor, ↓Part.of_set, ↓State.modLog_frame, Part.outside, h, not_false_eq_true, and_self, ite_self, ne_eq,
      ↓Part.of_ite_snd, ↓Part.of_pair]

theorem State.thawFor_frame {p : Part} (s : State) (holder : Nat) (h : p ∉ [Part.free, .cat, .hif, .freeze,
    .logs]) : p.of (s.thawFor holder).2 = p.of s := by
  simp only [Part.outside] at h
  unfold State.thawFor
  split <;> simp only [↓State.endFreeze_frame, Part.outside, h, not_false_eq_true, and_self, ite_self, ↓Part.of_ite_snd, ↓Part.of_pair]

theorem State.logResult_frame {p : Part} (s : State) (code : Nat) (h : p ∉ [Part.hif]) : p.of (s.logResult code) = p.of s := by
  simp only [Part.outside] at h
  simp only [State.logResult, ↓Part.of_set, ↓State.logChanged_frame, Part.outside, h, not_false_eq_true, and_self, ne_eq]

theorem State.logReadCmd_frame {p : Part} (s : State) (auto : Bool) (media : Nat) (h : p ∉ [Part.free, .cat, .hif,
    .logs]) : p.of (s.logReadCmd auto media) = p.of s := by
  simp only [Part.outside] at h
  simp only [State.logReadCmd, ↓Part.of_ite, ↓Part.of_set, ↓State.readHeld_frame, ↓State.logResult_frame, Part.outside, h,
      not_false_eq_true, and_self, ite_self, ne_eq]

theorem State.logBoundsCmd_frame {p : Part} (s : State) (h : p ∉ [Part.hif]) : p.of s.logBoundsCmd = p.of s := by
  simp only [Part.outside] at h
  simp only [State.logBoundsCmd, ↓Part.of_ite, ↓Part.of_set, ↓State.logResult_frame, Part.outside, h, not_false_eq_true, and_self,
      ite_self, ne_eq]

theorem State.logFreezeCmd_frame {p : Part} (s : State) (h : p ∉ [Part.hif, .freeze, .logs]) : p.of s.logFreezeCmd = p.of s := by
  simp only [Part.outside] at h
  simp only [State.logFreezeCmd, ↓Part.of_ite, ↓State.logResult_frame, ↓State.freezeFor_frame, Part.outside, h, not_false_eq_true,
      and_self, ite_self, ne_eq]

theorem State.logThawCmd_frame {p : Part} (s : State) (h : p ∉ [Part.free, .cat, .hif, .freeze, .logs]) : p.of s.logThawCmd = p.of s := by
  simp only [Part.outside] at h
  simp only [State.logThawCmd, ↓Part.of_ite, ↓State.thawFor_frame, ↓State.logResult_frame, Part.outside, h, not_false_eq_true, and_self,
      ite_self]

theorem State.logRead_frame {p : Part} (s : State) (r : CapReq) (log pos media : Nat) (h : p ∉ [Part.free, .cat, .hif, .sessions,
    .logs]) : p.of (s.logRead r log pos media) = p.of s := by
  simp only [Part.outside] at h
  simp only [State.logRead, ↓State.capExec_frame, ↓State.readHeld_frame, Part.outside, h, not_false_eq_true, and_self, ite_self,
      ↓Part.of_ite_snd, ↓Part.of_pair, implies_true]

theorem freezeAnswer_frame {p : Part} (a : Bool × State) (h : p ∉ [Part.hif]) : p.of (freezeAnswer a).2 = p.of a.2 := by
  simp only [Part.outside] at h
  simp only [freezeAnswer, ↓State.logChanged_frame, Part.outside, h, not_false_eq_true, and_self]

theorem State.export_frame {p : Part} (s : State) (first last : Nat) (h : p ∉ [Part.free]) : p.of (s.export_ first last).2 = p.of s := by
  simp only [Part.outside] at h
  simp only [State.export_, ↓State.sign_frame, Part.outside, h, not_false_eq_true, and_self]

theorem State.legalExport_frame {p : Part} (s : State) (r : CapReq) (first last : Nat) (h : p ∉ [Part.free, .cat, .hif, .sessions,
    .logs]) : p.of (s.legalExport r first last) = p.of s := by
  simp only [Part.outside] at h
  simp only [State.legalExport, ↓State.capExec_frame, ↓State.modLog_frame, ↓State.export_frame, Part.outside, h, not_false_eq_true,
      and_self, ite_self, ↓Part.of_ite_snd, ↓Part.of_pair, implies_true]

theorem State.freezeExpiry_frame {p : Part} (s : State) (h : p ∉ [Part.free, .cat, .hif, .freeze,
    .logs]) : p.of s.freezeExpiry = p.of s := by
  simp only [Part.outside] at h
  unfold State.freezeExpiry
  split <;> simp only [↓Part.of_ite, ↓State.breakFreeze_frame, Part.outside, h, not_false_eq_true, and_self, ite_self]

theorem State.repeatWindowEnd_frame {p : Part} (s : State) (log : Nat) (h : p ∉ [Part.free, .cat, .hif,
    .logs]) : p.of (s.repeatWindowEnd log) = p.of s := by
  simp only [Part.outside] at h
  simp only [State.repeatWindowEnd]
  (repeat' split) <;> simp only [↓State.pumpLog_frame, ↓State.modLog_frame, Part.outside, h, not_false_eq_true, and_self]

theorem State.copyTime_frame {p : Part} (s : State) (hourly : Bool) (h : p ∉ [Part.free, .cat, .stores,
    .bat]) : p.of (s.copyTime hourly) = p.of s := by
  simp only [Part.outside] at h
  simp only [State.copyTime, ↓Part.of_ite, ↓Part.of_set, ↓State.setPaired_frame, Part.outside, h, not_false_eq_true, and_self, ite_self,
      ne_eq]

/-! ### Midway -/

theorem State.modPort_frame {part : Part} (s : State) (p : Nat) (f : Port → Port) (h : part ∉ [Part.ports]) : part.of (s.modPort p f) =
    part.of s := by
  simp only [Part.outside] at h
  simp only [State.modPort, ↓Part.of_set, h, not_false_eq_true, ne_eq]

theorem State.sendPause_frame {part : Part} (s : State) (p quanta : Nat) (h : part ∉ [Part.ports]) : part.of (s.sendPause p quanta) =
    part.of s := by
  simp only [Part.outside] at h
  simp only [State.sendPause, ↓State.modPort_frame, Part.outside, h, not_false_eq_true, and_self]

theorem State.flowControl_frame {part : Part} (s : State) (p : Nat) (h : part ∉ [Part.ports]) : part.of (s.flowControl p) = part.of s :=
    by
  simp only [Part.outside] at h
  unfold State.flowControl
  split <;> simp only [↓Part.of_ite, ↓State.sendPause_frame, Part.outside, h, not_false_eq_true, and_self, ite_self]

theorem State.pauseIn_frame {part : Part} (s : State) (p quanta : Nat) (h : part ∉ [Part.free, .cat,
    .ports]) : part.of (s.pauseIn p quanta) = part.of s := by
  simp only [Part.outside] at h
  unfold State.pauseIn
  split <;> simp only [↓Part.of_ite, ↓State.bump_frame, ↓State.modPort_frame, Part.outside, h, not_false_eq_true, and_self, ite_self]

theorem State.pauseExpiry_frame {part : Part} (s : State) (p : Nat) (h : part ∉ [Part.ports]) : part.of (s.pauseExpiry p) = part.of s :=
    by
  simp only [Part.outside] at h
  unfold State.pauseExpiry
  split <;> simp only [↓Part.of_ite, ↓State.modPort_frame, Part.outside, h, not_false_eq_true, and_self, ite_self]

theorem State.pauseWatchdog_frame {part : Part} (s : State) (p : Nat) (h : part ∉ [Part.free, .cat, .hif, .ports,
    .logs]) : part.of (s.pauseWatchdog p) = part.of s := by
  simp only [Part.outside] at h
  unfold State.pauseWatchdog
  split <;> simp only [↓Part.of_ite, ↓State.modPort_frame, ↓State.logOp_frame, ↓State.bump_frame, Part.outside, h, not_false_eq_true,
      and_self, ite_self]

theorem State.pauseIgnoreEnd_frame {part : Part} (s : State) (p : Nat) (h : part ∉ [Part.ports]) : part.of (s.pauseIgnoreEnd p) = part.of
    s := by
  simp only [Part.outside] at h
  unfold State.pauseIgnoreEnd
  split <;> simp only [↓Part.of_ite, ↓State.modPort_frame, Part.outside, h, not_false_eq_true, and_self, ite_self]

theorem State.pauseAgain_frame {part : Part} (s : State) (p : Nat) (h : part ∉ [Part.ports]) : part.of (s.pauseAgain p) = part.of s := by
  simp only [Part.outside] at h
  unfold State.pauseAgain
  split <;> simp only [↓Part.of_ite, ↓State.sendPause_frame, Part.outside, h, not_false_eq_true, and_self, ite_self]

theorem State.readTx_frame {p : Part} (s : State) (q : Nat) (h : p ∉ [Part.free, .cat, .hif, .ports]) : ∀ u,
    s.readTx q = some u → p.of u = p.of s := by
  simp only [Part.outside] at h
  intro u e
  unfold State.readTx at e
  split at e
  · exact nomatch e
  · simp only at e
    split at e
    · exact nomatch e
    · split at e
      · exact nomatch e
      · simp only [Option.ite_none_left_eq_some] at e
        obtain ⟨-, e⟩ := e
        split at e
        · simp only [Option.ite_none_left_eq_some, Option.some.injEq] at e
          obtain ⟨-, rfl⟩ := e
          simp only [↓State.hqComplete_frame, ↓State.bump_frame, Part.outside, h, not_false_eq_true, and_self]
        · simp only [Option.ite_none_left_eq_some, Option.some.injEq] at e
          obtain ⟨-, rfl⟩ := e
          simp only [↓State.modPort_frame, ↓State.draw_frame, Part.outside, h, not_false_eq_true, and_self]

theorem State.readAll_frame {p : Part} (s : State) (q x2 : Nat) (h : p ∉ [Part.free, .cat, .hif,
    .ports]) : p.of (s.readAll q x2) = p.of s := by
  induction x2 generalizing s with
  | zero => rfl
  | succ n ih =>
    unfold State.readAll
    split
    · rename_i u hu
      exact (ih u).trans (s.readTx_frame q h u hu)
    · rfl

theorem State.fillTx_frame {part : Part} (s : State) (p : Nat) (h : part ∉ [Part.free, .cat, .hif,
    .ports]) : part.of (s.fillTx p) = part.of s := by
  unfold State.fillTx
  refine Part.of_foldl _ _ _ _ fun s k => ?_
  split
  · exact State.readAll_frame s _ _ h
  · rfl

theorem State.tsqPut_frame {part : Part} (s : State) (p : Nat) (e : TsEntry) (h : part ∉ [Part.free, .cat,
    .clockwork]) : part.of (s.tsqPut p e) = part.of s := by
  simp only [Part.outside] at h
  unfold State.tsqPut
  split <;> simp only [↓Part.of_ite, ↓Part.of_setTime, ↓State.bump_frame, Part.outside, h, not_false_eq_true, and_self, ite_self, ne_eq]

theorem State.sendFrame_frame {part : Part} (s : State) (p : Nat) (f : TxFrame) (h : part ∉ [Part.free, .cat, .hif, .ports,
    .clockwork]) : part.of (s.sendFrame p f) = part.of s := by
  simp only [Part.outside] at h
  simp only [State.sendFrame, ↓Part.of_ite, ↓State.modPort_frame, ↓State.bump_frame, ↓State.hqComplete_frame, ↓State.tsqPut_frame,
      ↓State.fillTx_frame, Part.outside, h, not_false_eq_true, and_self, ite_self]

theorem State.txSent_frame {part : Part} (s : State) (p : Nat) (h : part ∉ [Part.free, .cat, .hif, .ports,
    .clockwork]) : part.of (s.txSent p) = part.of s := by
  simp only [Part.outside] at h
  unfold State.txSent
  simp only
  split
  · simp only [↓State.fillTx_frame, Part.outside, h, not_false_eq_true, and_self]
  · split
    · simp only [↓State.fillTx_frame, Part.outside, h, not_false_eq_true, and_self]
    · split <;> simp only [↓State.fillTx_frame, ↓State.sendFrame_frame, Part.outside, h, not_false_eq_true, and_self]

theorem State.firmwareTx_frame {part : Part} (s : State) (p : Nat) (f : TxFrame) (h : part ∉ [Part.ports]) : part.of (s.firmwareTx p f) =
    part.of s := by
  simp only [Part.outside] at h
  simp only [State.firmwareTx, ↓State.modPort_frame, Part.outside, h, not_false_eq_true, and_self]

theorem State.linkUp_frame {part : Part} (s : State) (p : Nat) (auto_ partner : Bool) (h : part ∉ [Part.free, .cat, .hif,
    .ports]) : part.of (s.linkUp p auto_ partner) = part.of s := by
  simp only [Part.outside] at h
  simp only [State.linkUp, ↓Part.of_ite, ↓State.fillTx_frame, ↓State.modPort_frame, Part.outside, h, not_false_eq_true, and_self,
      ite_self]

theorem State.discardTx_frame {part : Part} (s : State) (p : Nat) (f : TxFrame) (h : part ∉ [Part.free, .cat,
    .hif]) : part.of (s.discardTx p f) = part.of s := by
  simp only [Part.outside] at h
  simp only [State.discardTx, ↓Part.of_ite, ↓State.bump_frame, ↓State.hqComplete_frame, Part.outside, h, not_false_eq_true, and_self,
      ite_self]

theorem State.linkDown_frame {part : Part} (s : State) (p : Nat) (h : part ∉ [Part.free, .cat, .hif, .ports,
    .logs]) : part.of (s.linkDown p) = part.of s := by
  simp only [Part.outside] at h
  unfold State.linkDown
  split <;> simp only [↓Part.of_ite, ↓State.modPort_frame, ↓State.discardTx_frame, ↓State.logOp_frame, ↓State.bump_frame, Part.outside,
      h, not_false_eq_true, and_self, ite_self, ↓Part.of_foldl, implies_true]

theorem State.rxSfd_frame {part : Part} (s : State) (p : Nat) (h : part ∉ [Part.free, .cat,
    .ports]) : part.of (s.rxSfd p) = part.of s := by
  simp only [Part.outside] at h
  unfold State.rxSfd
  split <;> simp only [↓Part.of_ite, ↓State.bump_frame, ↓State.flowControl_frame, ↓State.modPort_frame, Part.outside, h,
      not_false_eq_true, and_self, ite_self]

theorem State.rxEnter_frame {part : Part} (s : State) (p : Nat) (x : Port) (f : EthRx) (truncated : Bool) (h : part ∉ [Part.free, .cat,
    .ports]) : part.of (s.rxEnter p x f truncated) = part.of s := by
  simp only [Part.outside] at h
  simp only [State.rxEnter, ↓Part.of_ite, ↓State.firmwareTx_frame, ↓State.bump_frame, ↓State.modPort_frame, Part.outside, h,
      not_false_eq_true, and_self, ite_self]

theorem State.rxEnd_frame {part : Part} (s : State) (p : Nat) (f : EthRx) (h : part ∉ [Part.free, .cat,
    .ports]) : part.of (s.rxEnd p f) = part.of s := by
  simp only [Part.outside] at h
  unfold State.rxEnd
  (repeat' split) <;> simp only [↓Part.of_ite, ↓State.modPort_frame, ↓State.bump_frame, ↓State.rxEnter_frame, ↓State.pauseIn_frame,
      ↓State.flowControl_frame, Part.outside, h, not_false_eq_true, and_self, ite_self]

theorem State.rxDrop_frame {part : Part} (s : State) (p : Nat) (h : part ∉ [Part.ports]) : part.of (s.rxDrop p) = part.of s := by
  simp only [Part.outside] at h
  simp only [State.rxDrop, ↓State.flowControl_frame, ↓State.modPort_frame, Part.outside, h, not_false_eq_true, and_self]

theorem State.rxToHost_frame {part : Part} (s : State) (p q n : Nat) (g : RxFifoFrame) (h : part ∉ [Part.free, .cat, .hif,
    .ports]) : part.of (s.rxToHost p q n g) = part.of s := by
  simp only [Part.outside] at h
  simp only [State.rxToHost, ↓State.hqCompleteAt_frame, ↓State.rxDrop_frame, ↓State.bump_frame, Part.outside, h, not_false_eq_true,
      and_self]

theorem State.dispatch_frame {p : Part} (s : State) (q : Nat) (h : p ∉ [Part.free, .cat, .hif, .ports]) : ∀ u,
    s.dispatch q = some u → p.of u = p.of s := by
  simp only [Part.outside] at h
  intro u e
  unfold State.dispatch at e
  split at e
  · exact nomatch e
  · split at e
    · obtain rfl := Option.some.inj e
      simp only [↓State.rxDrop_frame, ↓Part.of_ite, ↓State.bump_frame, Part.outside, h, not_false_eq_true, and_self, ite_self]
    · split at e
      · exact nomatch e
      · split at e
        · obtain rfl := Option.some.inj e
          simp only [↓State.rxDrop_frame, ↓State.bump_frame, Part.outside, h, not_false_eq_true, and_self]
        · obtain ⟨n, -, rfl⟩ := Option.map_eq_some_iff.1 e
          simp only [↓State.rxToHost_frame, Part.outside, h, not_false_eq_true, and_self]

theorem State.rxDispatch_frame {part : Part} (s : State) (p : Nat) (h : part ∉ [Part.free, .cat, .hif,
    .ports]) : part.of (s.rxDispatch p) = part.of s := by
  unfold State.rxDispatch
  split
  · exact Part.of_getD (s.dispatch_frame p h)
  · rfl

theorem State.rxStarve_frame {part : Part} (s : State) (p : Nat) (h : part ∉ [Part.free, .cat, .hif, .ports,
    .logs]) : part.of (s.rxStarve p) = part.of s := by
  simp only [Part.outside] at h
  unfold State.rxStarve
  simp only
  split
  · rfl
  · split
    · rfl
    · split
      · simp only [↓State.rxDrop_frame, ↓State.logOpFree_frame, ↓State.bump_frame, Part.outside, h, not_false_eq_true, and_self]
      · split
        · rename_i u e
          exact s.dispatch_frame p (by simp only [Part.outside, h, not_false_eq_true, and_self]) u e
        · simp only [↓State.rxDrop_frame, ↓State.hqStarve_frame, ↓State.bump_frame, Part.outside, h, not_false_eq_true, and_self]

theorem State.pdelayReq_frame {part : Part} (s : State) (p : Nat) (delay : Int) (h : part ∉ [Part.ports,
    .clockwork]) : part.of (s.pdelayReq p delay) = part.of s := by
  simp only [Part.outside] at h
  simp only [State.pdelayReq, ↓Part.of_ite, ↓State.firmwareTx_frame, ↓State.modPtp_frame, Part.outside, h, not_false_eq_true, and_self,
      ite_self]

/-! ### HostIf -/

theorem State.endSession_frame {p : Part} (s : State) (n : Nat) (h : p ∉ [Part.free, .cat, .hif, .sessions, .loc, .freeze,
    .logs]) : p.of (s.endSession n) = p.of s := by
  simp only [Part.outside] at h
  unfold State.endSession
  split <;> simp only [↓Part.of_ite, ↓Part.of_set, ↓State.closeTraffic_frame, ↓State.breakFreeze_frame, Part.outside, h,
      not_false_eq_true, and_self, ite_self, ne_eq]

theorem State.hqAbort_frame {p : Part} (s : State) (q : Nat) (h : p ∉ [Part.free, .cat, .hif]) : p.of (s.hqAbort q) = p.of s := by
  simp only [Part.outside] at h
  unfold State.hqAbort
  split <;> simp only [↓Part.of_ite, ↓State.hqComplete_frame, Part.outside, h, not_false_eq_true, and_self, ite_self]

theorem State.takeBack_frame {p : Part} (s : State) (q : Nat) (h : p ∉ [Part.hif, .uplinks]) : p.of (s.takeBack q) = p.of s := by
  simp only [Part.outside] at h
  unfold State.takeBack
  split <;> simp only [↓Part.of_setNand, ↓State.modHq_frame, Part.outside, h, not_false_eq_true, and_self, ne_eq]

theorem State.hqFeed_frame {p : Part} (s : State) (q : Nat) (h : p ∉ [Part.free, .cat, .hif, .ports,
    .uplinks]) : p.of (s.hqFeed q) = p.of s := by
  simp only [Part.outside] at h
  unfold State.hqFeed
  split <;> simp only [↓Part.of_ite, ↓State.pumpBatches_frame, ↓State.pumpLogTo_frame, ↓State.fillTx_frame, Part.outside, h,
      not_false_eq_true, and_self, ite_self, ↓Part.of_foldl, implies_true]

theorem State.hqDoorbell_frame {p : Part} (s : State) (q tail : Nat) (posted : List (Nat × Nat)) (h : p ∉ [Part.free, .cat, .hif, .ports,
    .uplinks]) : p.of (s.hqDoorbell q tail posted) = p.of s := by
  simp only [Part.outside] at h
  unfold State.hqDoorbell
  split <;> simp only [↓Part.of_ite, ↓State.bump_frame, ↓State.modHq_frame, ↓State.hqFeed_frame, ↓State.takeBack_frame, Part.outside, h,
      not_false_eq_true, and_self, ite_self, ne_eq]

theorem State.drawPosted_frame {p : Part} (x0 : Nat) (x1 : State) (h : p ∉ [Part.free]) : p.of (State.drawPosted x0 x1).2 = p.of x1 := by
  induction x0 generalizing x1 with
  | zero => rfl
  | succ n ih =>
    have g := h
    simp only [Part.outside] at g
    unfold State.drawPosted
    simp only [ih, ↓State.draw_frame, Part.outside, g, not_false_eq_true, and_self]

theorem State.hqTailWrite_frame {p : Part} (s : State) (q tail : Nat) (h : p ∉ [Part.free, .cat, .hif, .ports,
    .uplinks]) : p.of (s.hqTailWrite q tail) = p.of s := by
  simp only [Part.outside] at h
  unfold State.hqTailWrite
  split <;> simp only [↓State.drawPosted_frame, ↓State.hqDoorbell_frame, Part.outside, h, not_false_eq_true, and_self]

theorem State.hqEnable_frame {p : Part} (s : State) (q ctrl : Nat) (h : p ∉ [Part.free, .cat, .hif, .ports,
    .uplinks]) : p.of (s.hqEnable q ctrl) = p.of s := by
  simp only [Part.outside] at h
  unfold State.hqEnable
  split <;> simp only [↓Part.of_ite, ↓State.modHq_frame, ↓State.hqFeed_frame, ↓State.redeliver_frame, Part.outside, h, not_false_eq_true,
      and_self, ite_self]

theorem State.hqDisable_frame {p : Part} (s : State) (q : Nat) (h : p ∉ [Part.free, .cat, .hif]) : p.of (s.hqDisable q) = p.of s := by
  simp only [Part.outside] at h
  unfold State.hqDisable
  split <;> simp only [↓Part.of_ite, ↓State.modHq_frame, ↓State.hqAbort_frame, Part.outside, h, not_false_eq_true, and_self, ite_self]

theorem State.drainComplete_frame {p : Part} (s : State) (q : Nat) (h : p ∉ [Part.free, .cat, .hif, .ports,
    .uplinks]) : p.of (s.drainComplete q) = p.of s := by
  simp only [Part.outside] at h
  unfold State.drainComplete
  split <;> simp only [↓Part.of_ite, ↓State.modPort_frame, ↓State.modHq_frame, ↓State.hqAbort_frame, ↓State.hqFeed_frame, Part.outside,
      h, not_false_eq_true, and_self, ite_self]

theorem State.hqCoalesce_frame {p : Part} (s : State) (q : Nat) (h : p ∉ [Part.hif]) : p.of (s.hqCoalesce q) = p.of s := by
  simp only [Part.outside] at h
  unfold State.hqCoalesce
  split <;> simp only [↓Part.of_ite, ↓State.raise_frame, ↓State.modHq_frame, Part.outside, h, not_false_eq_true, and_self, ite_self]

theorem State.dropHead_frame {p : Part} (s : State) (q : Nat) (h : HostQueue) (hp : p ∉ [Part.free, .cat,
    .ports]) : p.of (s.dropHead q h) = p.of s := by
  simp only [Part.outside] at hp
  unfold State.dropHead
  simp only
  split
  · simp only [↓Part.of_ite, ↓State.bump_frame, ↓State.rxDrop_frame, Part.outside, hp, not_false_eq_true, and_self, ite_self]
  · rfl

theorem State.dmaFault_frame {p : Part} (s : State) (q : Nat) (h : p ∉ [Part.free, .cat, .hif,
    .ports]) : p.of (s.dmaFault q) = p.of s := by
  simp only [Part.outside] at h
  unfold State.dmaFault
  split
  · rfl
  · simp only [↓Part.of_ite, ↓State.raise_frame, ↓State.bump_frame, ↓State.hqAbort_frame, ↓State.modPort_frame, ↓State.dropHead_frame,
      ↓State.modHq_frame, Part.outside, h, not_false_eq_true, and_self, ite_self]

theorem State.pcieUp_frame {p : Part} (s : State) (gen width : Nat) (h : p ∉ [Part.cat, .hif,
    .sessions]) : p.of (s.pcieUp gen width) = p.of s := by
  simp only [Part.outside] at h
  simp only [State.pcieUp, ↓Part.of_ite, ↓Part.of_set, ↓State.set_frame, ↓State.openSession_frame, Part.outside, h, not_false_eq_true,
      and_self, ite_self, ne_eq]

theorem State.pcieDown_frame {p : Part} (s : State) (h : p ∉ [Part.free, .cat, .hif, .sessions, .loc, .freeze,
    .logs]) : p.of s.pcieDown = p.of s := by
  simp only [Part.outside] at h
  simp only [State.pcieDown, ↓Part.of_ite, ↓Part.of_set, ↓State.bump_frame, ↓State.set_frame, ↓State.breakFreeze_frame,
      ↓State.endSession_frame, Part.outside, h, not_false_eq_true, and_self, ite_self, ne_eq]

theorem State.mailboxDoorbell_frame {p : Part} (s : State) (length : Nat) (h : p ∉ [Part.free, .cat,
    .hif]) : p.of (s.mailboxDoorbell length) = p.of s := by
  simp only [Part.outside] at h
  simp only [State.mailboxDoorbell, ↓Part.of_ite, ↓Part.of_set, ↓State.bump_frame, ↓State.raise_frame, Part.outside, h,
      not_false_eq_true, and_self, ite_self, ne_eq]

theorem State.mailboxFree_frame {p : Part} (s : State) (h : p ∉ [Part.hif]) : p.of s.mailboxFree = p.of s := by
  simp only [Part.outside] at h
  simp only [State.mailboxFree, ↓Part.of_ite, ↓Part.of_set, h, not_false_eq_true, ite_self, ne_eq]

theorem State.causeClear_frame {p : Part} (s : State) (v : Nat) (h : p ∉ [Part.hif]) : p.of (s.causeClear v) = p.of s := by
  simp only [Part.outside] at h
  simp only [State.causeClear, ↓Part.of_ite, ↓Part.of_set, h, not_false_eq_true, ite_self, ne_eq]

theorem State.enableWrite_frame {p : Part} (s : State) (v : Nat) (h : p ∉ [Part.hif]) : p.of (s.enableWrite v) = p.of s := by
  simp only [Part.outside] at h
  simp only [State.enableWrite, ↓Part.of_ite, ↓Part.of_set, ↓State.msi_frame, Part.outside, h, not_false_eq_true, and_self, ite_self,
      ne_eq, ↓Part.of_foldl, implies_true]

theorem State.hqCtrl_frame {p : Part} (s : State) (q v : Nat) (h : p ∉ [Part.free, .cat, .hif, .ports,
    .uplinks]) : p.of (s.hqCtrl q v) = p.of s := by
  simp only [Part.outside] at h
  simp only [State.hqCtrl, ↓Part.of_ite, ↓State.hqEnable_frame, ↓State.hqDisable_frame, ↓State.modHq_frame, Part.outside, h,
      not_false_eq_true, and_self, ite_self]

theorem State.hqWrite_frame {p : Part} (s : State) (q off v : Nat) (h : p ∉ [Part.free, .cat, .hif, .ports,
    .uplinks]) : p.of (s.hqWrite q off v) = p.of s := by
  simp only [Part.outside] at h
  unfold State.hqWrite
  split <;> simp only [↓Part.of_ite, ↓State.hqCtrl_frame, ↓State.modHq_frame, Part.outside, h, not_false_eq_true, and_self, ite_self]

theorem State.timeCtrlWrite_frame {p : Part} (s : State) (v : Nat) (h : p ∉ [Part.increment,
    .clockwork]) : p.of (s.timeCtrlWrite v) = p.of s := by
  simp only [Part.outside] at h
  simp only [State.timeCtrlWrite, ↓Part.of_ite, ↓Part.of_setTime, ↓State.snapCapture_frame, Part.outside, h, not_false_eq_true, and_self,
      ite_self, ne_eq]

theorem State.timeWrite_frame {p : Part} (s : State) (off : Nat) (v : Word) (h : p ∉ [Part.free, .cat, .stores, .bat, .hif, .cask, .gate,
    .freeze, .upHold, .counter, .increment, .clockwork, .logs, .uplinks, .recs, .bills, .spans, .withheld, .items, .series,
    .records]) : p.of (s.timeWrite off v) = p.of s := by
  simp only [Part.outside] at h
  unfold State.timeWrite
  split <;> simp only [↓Part.of_ite, ↓Part.of_setTime, ↓State.timeCtrlWrite_frame, ↓State.incrWrite_frame, ↓State.timeStep_frame,
      ↓State.hostBeat_frame, Part.outside, h, not_false_eq_true, and_self, ite_self, ne_eq]

theorem State.logCmdWrite_frame {p : Part} (s : State) (v : Nat) (h : p ∉ [Part.free, .cat, .hif, .freeze,
    .logs]) : p.of (s.logCmdWrite v) = p.of s := by
  simp only [Part.outside] at h
  simp only [State.logCmdWrite, ↓Part.of_ite, ↓Part.of_set, ↓State.logReadCmd_frame, ↓State.logFreezeCmd_frame, ↓State.logThawCmd_frame,
      ↓State.logBoundsCmd_frame, Part.outside, h, not_false_eq_true, and_self, ite_self, ne_eq]

theorem State.logWrite_frame {p : Part} (s : State) (off v : Nat) (h : p ∉ [Part.free, .cat, .hif, .freeze,
    .logs]) : p.of (s.logWrite off v) = p.of s := by
  simp only [Part.outside] at h
  unfold State.logWrite
  split <;> simp only [↓Part.of_ite, ↓Part.of_set, ↓State.logCmdWrite_frame, ↓State.logChanged_frame, Part.outside, h, not_false_eq_true,
      and_self, ite_self, ne_eq]

theorem State.msixWrite_frame {p : Part} (s : State) (i v : Nat) (h : p ∉ [Part.hif]) : p.of (s.msixWrite i v) = p.of s := by
  simp only [Part.outside] at h
  simp only [State.msixWrite, ↓Part.of_ite, ↓Part.of_set, ↓State.msi_frame, Part.outside, h, not_false_eq_true, and_self, ite_self, ne_eq]

theorem State.seesawWrite_frame {p : Part} (s : State) (off w : Nat) (h : p ∉ [Part.queues]) : p.of (s.seesawWrite off w) = p.of s := by
  simp only [Part.outside] at h
  simp only [State.seesawWrite, ↓Part.of_ite, ↓Part.of_setMem, h, not_false_eq_true, ite_self, ne_eq]

theorem State.registerWrite_frame {p : Part} (s : State) (off : Nat) (v : Word) (h : p ∉ [Part.free, .cat, .stores, .bat, .hif, .ports,
    .cask, .gate, .freeze, .upHold, .counter, .increment, .clockwork, .queues, .logs, .uplinks, .recs, .bills, .spans, .withheld, .items,
    .series, .records]) : p.of (s.registerWrite off v) = p.of s := by
  simp only [Part.outside] at h
  simp only [State.registerWrite, ↓Part.of_ite, ↓Part.of_set, ↓State.seesawWrite_frame, ↓State.hqWrite_frame, ↓State.timeWrite_frame,
      ↓State.logWrite_frame, ↓State.msixWrite_frame, ↓State.hqTailWrite_frame, Part.outside, h, not_false_eq_true, and_self, ne_eq]
  (repeat' split) <;> simp only [↓Part.of_set, ↓State.causeClear_frame, ↓State.enableWrite_frame, ↓State.mailboxDoorbell_frame,
      ↓State.mailboxFree_frame, Part.outside, h, not_false_eq_true, and_self, ne_eq]

theorem State.seesawRead_frame {p : Part} (s : State) (off : Nat) (h : p ∉ [Part.free, .hif,
    .queues]) : p.of (s.seesawRead off) = p.of s := by
  simp only [Part.outside] at h
  unfold State.seesawRead
  split <;> simp only [↓Part.of_ite, ↓Part.of_set, ↓Part.of_setMem, ↓State.draw_frame, Part.outside, h, not_false_eq_true, and_self,
      ite_self, ne_eq]

theorem State.rcRead_frame {p : Part} (s : State) (off : Nat) (h : p ∉ [Part.free, .cat, .hif, .clockwork,
    .queues]) : p.of (s.rcRead off) = p.of s := by
  simp only [Part.outside] at h
  unfold State.rcRead
  split <;> simp only [↓Part.of_ite, ↓Part.of_set, ↓Part.of_setTime, ↓State.seesawRead_frame, ↓State.set_frame, ↓State.tsqPop_frame,
      Part.outside, h, not_false_eq_true, and_self, ite_self, ne_eq]

/-! ### Hallmark -/

theorem State.closeSeal_frame {p : Part} (s : State) (cause : Nat) (h : p ∉ [Part.free, .cat, .stores, .bat, .hif, .cask, .freeze,
    .logs]) : p.of (s.closeSeal cause) = p.of s := by
  simp only [Part.outside] at h
  simp only [State.closeSeal, ↓Part.of_ite, ↓State.set_frame, ↓State.logLegal_frame, Part.outside, h, not_false_eq_true, and_self,
      ite_self, ne_eq]

theorem State.openSeal_frame {p : Part} (s : State) (e : Epmeir) (a : SealArg) (h : p ∉ [Part.free, .cat, .stores, .bat, .hif, .cask,
    .hall, .freeze, .logs, .records]) : p.of (s.openSeal e a) = p.of s := by
  simp only [Part.outside] at h
  simp only [State.openSeal, ↓Part.of_set, ↓State.setSealed_frame, ↓State.set_frame, ↓State.logLegal_frame, Part.outside, h,
      not_false_eq_true, and_self, ne_eq]

theorem State.sealSubmit_frame {p : Part} (s : State) (r : CapReq) (e : Epmeir) (a : SealArg) (burnOk : Bool) (h : p ∉ [Part.free, .cat,
    .stores, .bat, .hif, .sessions, .cask, .hall, .freeze, .logs, .records]) : p.of (s.sealSubmit r e a burnOk) = p.of s := by
  simp only [Part.outside] at h
  unfold State.sealSubmit
  refine State.capExec_frame _ _ _ _ (by simp only [Part.outside, h, not_false_eq_true, and_self]) fun a b => ?_
  split <;> simp only [↓State.closeSeal_frame, ↓State.setSealed_frame, ↓State.openSeal_frame, Part.outside, h, not_false_eq_true,
      and_self, ite_self, ↓Part.of_ite_snd, ↓Part.of_pair]

theorem State.abortedSeals_frame {p : Part} (s : State) (h : p ∉ [Part.free, .cat, .stores, .bat, .hif, .cask, .freeze,
    .logs]) : p.of s.abortedSeals = p.of s := by
  simp only [Part.outside] at h
  simp only [State.abortedSeals, ↓State.logLegal_frame, Part.outside, h, not_false_eq_true, and_self, ↓Part.of_foldl, implies_true]

theorem State.anchorSubmit_frame {p : Part} (s : State) (r : CapReq) (e : Epmeir) (entries : List AnchorEntry) (h : p ∉ [Part.free, .cat,
    .stores, .hif, .sessions, .loc, .logs, .anchors]) : p.of (s.anchorSubmit r e entries) = p.of s := by
  simp only [Part.outside] at h
  unfold State.anchorSubmit
  refine State.capExec_frame _ _ _ _ (by simp only [Part.outside, h, not_false_eq_true, and_self]) fun a b => ?_
  (repeat' split) <;> simp only [↓Part.of_update, ↓State.logSec_frame, ↓State.setPaired_frame, ↓State.mediaGate_frame, Part.outside, h,
      not_false_eq_true, and_self, ↓Part.of_pair, implies_true, and_true, IsEmpty.forall_iff]

theorem State.epochCommit_frame {p : Part} (s : State) (r : CapReq) (v : Nat) (h : p ∉ [Part.free, .cat, .hif, .sessions,
    .hall]) : p.of (s.epochCommit r v) = p.of s := by
  simp only [Part.outside] at h
  unfold State.epochCommit
  refine State.capExec_frame _ _ _ _ (by simp only [Part.outside, h, not_false_eq_true, and_self]) fun a b => ?_
  simp only [↓Part.of_set, ↓boolCommand_frame, ↓State.set_frame, Part.outside, h, not_false_eq_true, and_self, ite_self, ne_eq,
      ↓Part.of_ite_snd, ↓Part.of_pair]

theorem State.foldTamper_frame {p : Part} (s : State) (source : Nat) (h : p ∉ [Part.free, .cat,
    .logs]) : p.of (s.foldTamper source).2 = p.of s := by
  simp only [Part.outside] at h
  simp only [State.foldTamper]
  (repeat' split) <;> simp only [↓State.fold_frame, ↓State.modLog_frame, Part.outside, h, not_false_eq_true, and_self, ↓Part.of_pair]

theorem State.queueTamper_frame {p : Part} (s : State) (e : SleepEvent) (h : p ∉ [Part.bat]) : p.of (s.queueTamper e) = p.of s := by
  simp only [Part.outside] at h
  simp only [State.queueTamper, ↓Part.of_ite, ↓Part.of_set, h, not_false_eq_true, ne_eq]
  (repeat' split) <;> simp only [↓Part.of_set, h, not_false_eq_true, ne_eq]

theorem State.recordTamper_frame {p : Part} (s : State) (source kind response : Nat) (aborted storm : Bool) (h : p ∉ [Part.free, .cat,
    .bat, .hif, .logs]) : p.of (s.recordTamper source kind response aborted storm) = p.of s := by
  simp only [Part.outside] at h
  unfold State.recordTamper
  have k : p.of (s.foldTamper source).2 = p.of s := s.foldTamper_frame _ (by simp only [Part.outside, h, not_false_eq_true, and_self])
  split
  · rfl
  · simp only
    split
    · split
      · split <;> rename_i e <;> rw [e] at k <;> simp only [↓State.logSec_frame, Part.outside, h, not_false_eq_true, and_self, k]
      · simp only [↓State.logSec_frame, Part.outside, h, not_false_eq_true, and_self]
    · simp only [↓State.queueTamper_frame, Part.outside, h, not_false_eq_true, and_self]

theorem State.tamperNotice_frame {p : Part} (s : State) (source : Nat) (h : p ∉ [Part.hif, .upHold,
    .uplinks]) : p.of (s.tamperNotice source) = p.of s := by
  simp only [Part.outside] at h
  unfold State.tamperNotice
  split <;> simp only [↓State.noticeAll_frame, Part.outside, h, not_false_eq_true, and_self]

theorem State.modSource_frame {p : Part} (s : State) (source : Nat) (f : Source → Source) (h : p ∉ [Part.bat]) : p.of (s.modSource source
    f) = p.of s := by
  simp only [Part.outside] at h
  simp only [State.modSource, ↓Part.of_set, h, not_false_eq_true, ne_eq]

theorem State.tamperZeroize_frame {p : Part} (s : State) (source : Nat) (h : p ∉ [Part.free, .cat, .stores, .bat, .pw, .hif, .cask,
    .gate, .pat, .loc, .freeze, .frames, .upHold, .queues, .logs, .uplinks, .recs, .bills, .ingest, .withheld, .items, .series,
    .records]) : p.of (s.tamperZeroize source) = p.of s := by
  simp only [Part.outside] at h
  simp only [State.tamperZeroize, ↓Part.of_ite, ↓State.zeroize_frame, ↓State.closeSeal_frame, ↓State.logSec_frame, Part.outside, h,
      not_false_eq_true, and_self, ite_self]

theorem State.tamper_frame {p : Part} (s : State) (source : Nat) (h : p ∉ [Part.free, .cat, .stores, .bat, .pins, .pw, .hif, .cask,
    .gate, .pat, .loc, .freeze, .frames, .upHold, .queues, .logs, .uplinks, .recs, .bills, .ingest, .withheld, .items, .series,
    .records]) : p.of (s.tamper source) = p.of s := by
  simp only [Part.outside] at h
  simp only [State.tamper, ↓Part.of_ite, ↓Part.of_set, ↓State.modSource_frame, ↓State.recordTamper_frame, ↓State.tamperNotice_frame,
      ↓State.tamperZeroize_frame, Part.outside, h, not_false_eq_true, and_self, ite_self, ne_eq]

theorem State.tamperStuck_frame {p : Part} (s : State) (source : Nat) (h : p ∉ [Part.free, .cat, .bat, .hif,
    .logs]) : p.of (s.tamperStuck source) = p.of s := by
  simp only [Part.outside] at h
  unfold State.tamperStuck
  (repeat' split) <;> simp only [↓Part.of_set, ↓State.logOp_frame, ↓State.recordTamper_frame, Part.outside, h, not_false_eq_true,
      and_self, ne_eq]

theorem State.tamperRelease_frame {p : Part} (s : State) (source : Nat) (h : p ∉ [Part.free, .cat, .bat, .hif,
    .logs]) : p.of (s.tamperRelease source) = p.of s := by
  simp only [Part.outside] at h
  simp only [State.tamperRelease, ↓Part.of_ite, ↓Part.of_set, ↓State.modSource_frame, ↓State.logOp_frame, ↓State.recordTamper_frame,
      Part.outside, h, not_false_eq_true, and_self, ite_self, ne_eq]

theorem State.sealAssert_frame {p : Part} (s : State) (h : p ∉ [Part.free, .cat, .stores, .bat, .pins, .pw, .hif, .cask, .gate, .pat,
    .loc, .freeze, .frames, .upHold, .queues, .logs, .uplinks, .recs, .bills, .ingest, .withheld, .items, .series,
    .records]) : p.of s.sealAssert = p.of s := by
  simp only [Part.outside] at h
  simp only [State.sealAssert, ↓Part.of_ite, ↓Part.of_set, ↓State.tamper_frame, Part.outside, h, not_false_eq_true, and_self, ite_self,
      ne_eq]

theorem State.sealRelease_frame {p : Part} (s : State) (h : p ∉ [Part.free, .cat, .stores, .bat, .pins, .hif, .cask, .freeze,
    .logs]) : p.of s.sealRelease = p.of s := by
  simp only [Part.outside] at h
  simp only [State.sealRelease, ↓Part.of_ite, ↓Part.of_set, ↓State.tamperRelease_frame, ↓State.closeSeal_frame, Part.outside, h,
      not_false_eq_true, and_self, ite_self, ne_eq]

theorem State.writeQueued_frame {p : Part} (s : State) (e : SleepEvent) (h : p ∉ [Part.free, .cat, .hif, .upHold, .logs,
    .uplinks]) : p.of (s.writeQueued e) = p.of s := by
  simp only [Part.outside] at h
  simp only [State.writeQueued, ↓Part.of_ite, ↓State.logAt_frame, ↓State.modLog_frame, ↓State.logSec_frame, ↓State.tamperNotice_frame,
      Part.outside, h, not_false_eq_true, and_self, ite_self]

theorem State.wakeTamper_frame {p : Part} (s : State) (h : p ∉ [Part.free, .cat, .bat, .hif, .upHold, .logs,
    .uplinks]) : p.of s.wakeTamper = p.of s := by
  simp only [Part.outside] at h
  simp only [State.wakeTamper, ↓Part.of_set, ↓State.writeQueued_frame, Part.outside, h, not_false_eq_true, and_self, ne_eq,
      ↓Part.of_foldl, implies_true]

/-! ### Gate -/

theorem State.closeGate_frame {p : Part} (s : State) (g : GateFault) (h : p ∉ [Part.free, .cat, .pins, .hif, .gate, .upHold, .logs,
    .uplinks, .recs, .bills, .items]) : p.of (s.closeGate g) = p.of s := by
  simp only [Part.outside] at h
  simp only [State.closeGate, ↓Part.of_update, ↓State.set_frame, ↓State.raise_frame, ↓State.dropItem_frame, ↓State.logSec_frame,
      Part.outside, h, not_false_eq_true, and_self, ↓Part.of_foldl, implies_true, IsEmpty.forall_iff]

theorem State.dangerous_frame {p : Part} (s : State) (g : GateFault) (h : p ∉ [Part.free, .cat, .pins, .hif, .gate, .upHold, .logs,
    .uplinks, .recs, .bills, .items]) : p.of (s.dangerous g) = p.of s := by
  simp only [Part.outside] at h
  simp only [State.dangerous, ↓State.closeGate_frame, ↓State.bump_frame, Part.outside, h, not_false_eq_true, and_self]

theorem State.openGate_frame {p : Part} (s : State) (h : p ∉ [Part.free, .cat, .pins, .hif, .logs]) : p.of s.openGate = p.of s := by
  simp only [Part.outside] at h
  simp only [State.openGate, ↓Part.of_set, ↓State.logSec_frame, ↓State.set_frame, Part.outside, h, not_false_eq_true, and_self, ne_eq]

theorem State.shedLane_frame {p : Part} (s : State) (l len payload : Nat) (h : p ∉ [Part.free,
    .lanes]) : p.of (s.shedLane l len payload) = p.of s := by
  simp only [Part.outside] at h
  simp only [State.shedLane, ↓Part.of_ite, ↓State.onLane_frame, ↓State.draw_frame, ↓State.modLane_frame, ↓State.drawSlot_frame,
      Part.outside, h, not_false_eq_true, and_self, ite_self, implies_true]

theorem State.shedRadio_frame {p : Part} (s : State) (c tenant : Nat) (h : p ∉ [Part.free, .cat,
    .dl]) : p.of (s.shedRadio c tenant) = p.of s := by
  simp only [Part.outside] at h
  simp only [State.shedRadio, ↓State.draw_frame, ↓State.castDue_frame, Part.outside, h, not_false_eq_true, and_self, ↓Part.of_foldl,
      implies_true]

theorem State.shedTunnel_frame {p : Part} (s : State) (len : Nat) (h : p ∉ [Part.free, .ports]) : p.of (s.shedTunnel len) = p.of s := by
  simp only [Part.outside] at h
  simp only [State.shedTunnel, ↓State.draw_frame, ↓State.firmwareTx_frame, Part.outside, h, not_false_eq_true, and_self]

theorem State.shedCell_frame {p : Part} (s : State) (q : SwitchReq) (c : Nat) (h : p ∉ [Part.free, .cat, .ports, .dl,
    .lanes]) : p.of (s.shedCell q c) = p.of s := by
  simp only [Part.outside] at h
  simp only [State.shedCell, ↓Part.of_ite, ↓State.shedRadio_frame, ↓State.shedLane_frame, ↓State.shedTunnel_frame, Part.outside, h,
      not_false_eq_true, and_self, ite_self]

theorem State.fanOut_frame {p : Part} (s : State) (q : SwitchReq) (h : p ∉ [Part.free, .cat, .ports, .gate, .cascadeOut, .dl,
    .lanes]) : p.of (s.fanOut q) = p.of s := by
  simp only [Part.outside] at h
  simp only [State.fanOut, ↓Part.of_ite, ↓Part.of_set, ↓State.shedCell_frame, ↓State.sendCascade_frame, ↓State.bump_frame,
      ↓State.set_frame, Part.outside, h, not_false_eq_true, and_self, ite_self, ne_eq, ↓Part.of_foldl, implies_true]

theorem State.releaseItem_frame {p : Part} (s : State) (q : SwitchReq) (digest : Nat) (h : p ∉ [Part.free, .cat, .hif, .cask, .gate,
    .upHold, .logs, .uplinks, .recs, .bills, .items, .series]) : p.of (s.releaseItem q digest) = p.of s := by
  simp only [Part.outside] at h
  simp only [State.releaseItem, ↓Part.of_ite, ↓Part.of_set, ↓State.dropItem_frame, ↓State.endRequest_frame, ↓State.stage_frame,
      Part.outside, h, not_false_eq_true, and_self, ite_self, ne_eq, ↓Part.of_foldl, implies_true]

theorem State.gateRelease_frame {p : Part} (s : State) (q : SwitchReq) (digest : Nat) (h : p ∉ [Part.free, .cat, .hif, .ports, .cask,
    .gate, .cascadeOut, .dl, .lanes, .upHold, .logs, .uplinks, .recs, .bills, .items,
    .series]) : p.of (s.gateRelease q digest) = p.of s := by
  simp only [Part.outside] at h
  simp only [State.gateRelease, ↓Part.of_ite, ↓State.bump_frame, ↓State.fanOut_frame, ↓State.releaseItem_frame, Part.outside, h,
      not_false_eq_true, and_self, ite_self]

theorem State.gateTake_frame {p : Part} (s : State) (q : SwitchReq) (tag : Nat) (digests : List Nat) (h : p ∉ [Part.free, .cat, .pins,
    .hif, .ports, .cask, .gate, .cascadeOut, .dl, .lanes, .upHold, .logs, .uplinks, .recs, .bills, .items,
    .series]) : p.of (s.gateTake q tag digests) = p.of s := by
  simp only [Part.outside] at h
  unfold State.gateTake
  (repeat' split) <;> simp only [↓State.endRequest_frame, ↓State.bump_frame, ↓State.gateRelease_frame, ↓State.dangerous_frame,
      Part.outside, h, not_false_eq_true, and_self]

theorem State.gateRequest_frame {p : Part} (s : State) (seq tag : Nat) (digests : List Nat) (h : p ∉ [Part.free, .cat, .pins, .hif,
    .ports, .cask, .gate, .cascadeOut, .dl, .lanes, .upHold, .logs, .uplinks, .recs, .bills, .items,
    .series]) : p.of (s.gateRequest seq tag digests) = p.of s := by
  simp only [Part.outside] at h
  unfold State.gateRequest
  (repeat' split) <;> simp only [↓Part.of_set, ↓State.badRecord_frame, ↓State.gateTake_frame, Part.outside, h, not_false_eq_true,
      and_self, ne_eq]

theorem State.gateConfirm_frame {p : Part} (s : State) (stage windowTag digest : Nat) (h : p ∉ [Part.free, .cat, .pins, .hif, .gate,
    .upHold, .logs, .uplinks, .recs, .bills, .items]) : p.of (s.gateConfirm stage windowTag digest) = p.of s := by
  simp only [Part.outside] at h
  unfold State.gateConfirm
  (repeat' split) <;> simp only [↓Part.of_ite, ↓Part.of_set, ↓State.dangerous_frame, Part.outside, h, not_false_eq_true, and_self,
      ite_self, ne_eq]

theorem State.itemReport_frame {p : Part} (s : State) (stage outcome : Nat) (h : p ∉ [Part.free, .cat, .hif, .cask, .gate, .upHold,
    .logs, .uplinks, .recs, .bills, .items, .series]) : p.of (s.itemReport stage outcome) = p.of s := by
  simp only [Part.outside] at h
  unfold State.itemReport
  (repeat' split) <;> simp only [↓State.itemAcked_frame, ↓State.dropItem_frame, Part.outside, h, not_false_eq_true, and_self]

theorem State.fanoutTimer_frame {p : Part} (s : State) (h : p ∉ [Part.free, .cat, .pins, .hif, .gate, .upHold, .logs, .uplinks, .recs,
    .bills, .items]) : p.of s.fanoutTimer = p.of s := by
  simp only [Part.outside] at h
  unfold State.fanoutTimer
  (repeat' split) <;> simp only [↓Part.of_set, ↓State.dangerous_frame, ↓State.endRequest_frame, Part.outside, h, not_false_eq_true,
      and_self, ne_eq]

theorem State.lockstep_frame {p : Part} (s : State) (pair : Nat) (h : p ∉ [Part.free, .cat, .pins, .hif, .gate, .upHold, .logs, .uplinks,
    .recs, .bills, .items]) : p.of (s.lockstep pair) = p.of s := by
  simp only [Part.outside] at h
  simp only [State.lockstep, ↓Part.of_ite, ↓State.dangerous_frame, Part.outside, h, not_false_eq_true, and_self, ite_self]

theorem State.ringScrub_frame {p : Part} (s : State) (pair : Nat) (uncorrectable : Bool) (h : p ∉ [Part.free, .cat, .pins, .hif, .gate,
    .upHold, .logs, .uplinks, .recs, .bills, .items]) : p.of (s.ringScrub pair uncorrectable) = p.of s := by
  simp only [Part.outside] at h
  simp only [State.ringScrub, ↓Part.of_ite, ↓Part.of_set, ↓State.dangerous_frame, Part.outside, h, not_false_eq_true, and_self, ite_self,
      ne_eq]

theorem State.pairBist_frame {p : Part} (s : State) (ok0 ok1 : Bool) (h : p ∉ [Part.free, .cat, .pins, .hif, .gate, .upHold, .logs,
    .uplinks, .recs, .bills, .items]) : p.of (s.pairBist ok0 ok1) = p.of s := by
  simp only [Part.outside] at h
  simp only [State.pairBist, ↓Part.of_ite, ↓Part.of_set, ↓State.dangerous_frame, Part.outside, h, not_false_eq_true, and_self, ite_self,
      ne_eq]

theorem State.dailyTest_frame {p : Part} (s : State) (ok0 ok1 : Bool) (h : p ∉ [Part.free, .cat, .pins, .hif, .gate, .upHold, .logs,
    .uplinks, .recs, .bills, .items]) : p.of (s.dailyTest ok0 ok1) = p.of s := by
  simp only [Part.outside] at h
  simp only [State.dailyTest, ↓Part.of_ite, ↓Part.of_set, ↓State.pairBist_frame, Part.outside, h, not_false_eq_true, and_self, ite_self,
      ne_eq]

theorem State.gateReopen_frame {p : Part} (s : State) (r : CapReq) (v : Nat) (ok0 ok1 : Bool) (h : p ∉ [Part.free, .cat, .pins, .hif,
    .sessions, .gate, .upHold, .logs, .uplinks, .recs, .bills, .items]) : p.of (s.gateReopen r v ok0 ok1) = p.of s := by
  simp only [Part.outside] at h
  unfold State.gateReopen
  refine State.capExec_frame _ _ _ _ (by simp only [Part.outside, h, not_false_eq_true, and_self]) fun a s => ?_
  refine boolCommand_frame _ _ _ ?_
  split <;> simp only [↓Part.of_ite, ↓State.pairBist_frame, ↓State.openGate_frame, Part.outside, h, not_false_eq_true, and_self,
      ite_self, ↓Part.of_pair]

theorem State.gateProof_frame {p : Part} (s : State) (r : CapReq) (v : Nat) (h : p ∉ [Part.free, .cat, .pins, .hif, .sessions, .gate,
    .upHold, .logs, .uplinks, .recs, .bills, .items]) : p.of (s.gateProof r v) = p.of s := by
  simp only [Part.outside] at h
  unfold State.gateProof
  refine State.capExec_frame _ _ _ _ (by simp only [Part.outside, h, not_false_eq_true, and_self]) fun a b => ?_
  simp only [↓boolCommand_frame, ↓State.closeGate_frame, Part.outside, h, not_false_eq_true, and_self, ite_self, ↓Part.of_ite_snd,
      ↓Part.of_pair]

theorem State.recheckItem_frame {p : Part} (s : State) (i : Item) (h : p ∉ [Part.free, .cat, .pins, .hif, .gate, .upHold, .logs,
    .uplinks, .recs, .bills, .items]) : p.of (s.recheckItem i) = p.of s := by
  simp only [Part.outside] at h
  unfold State.recheckItem
  (repeat' split) <;> simp only [↓Part.of_set, ↓State.bump_frame, ↓State.dropItem_frame, ↓State.dangerous_frame, Part.outside, h,
      not_false_eq_true, and_self, ne_eq]

theorem State.gateRecheck_frame {p : Part} (s : State) (ok0 ok1 : Bool) (h : p ∉ [Part.free, .cat, .pins, .hif, .gate, .upHold, .logs,
    .uplinks, .recs, .bills, .items]) : p.of (s.gateRecheck ok0 ok1) = p.of s := by
  simp only [Part.outside] at h
  simp only [State.gateRecheck, ↓Part.of_ite, ↓Part.of_set, ↓State.pairBist_frame, ↓State.recheckItem_frame, ↓State.openGate_frame,
      Part.outside, h, not_false_eq_true, and_self, ite_self, ne_eq, ↓Part.of_foldl, implies_true]

/-! ### Patina -/

theorem State.clockChange_frame {p : Part} (s : State) (h : p ∉ [Part.cat]) : p.of s.clockChange = p.of s := by
  simp only [Part.outside] at h
  simp only [State.clockChange, ↓State.set_frame, Part.outside, h, not_false_eq_true, and_self]

theorem State.governorRecord_frame {p : Part} (s : State) (kind : Nat) (h : p ∉ [Part.free, .cat, .hif,
    .logs]) : p.of (s.governorRecord kind) = p.of s := by
  simp only [Part.outside] at h
  simp only [State.governorRecord, ↓State.logDiag_frame, Part.outside, h, not_false_eq_true, and_self]

theorem State.setSteps_frame {p : Part} (s : State) (n : Nat) (h : p ∉ [Part.free, .cat, .hif,
    .logs]) : p.of (s.setSteps n) = p.of s := by
  simp only [Part.outside] at h
  simp only [State.setSteps, ↓Part.of_ite, ↓State.governorRecord_frame, ↓State.bump_frame, ↓State.clockChange_frame, ↓State.set_frame,
      Part.outside, h, not_false_eq_true, and_self, ite_self]

theorem State.thermalLimit_frame {p : Part} (s : State) (h : p ∉ [Part.free, .cat, .hif, .upHold, .logs,
    .uplinks]) : p.of s.thermalLimit = p.of s := by
  simp only [Part.outside] at h
  simp only [State.thermalLimit, ↓Part.of_ite, ↓State.noticeAll_frame, ↓State.governorRecord_frame, ↓State.set_frame, Part.outside, h,
      not_false_eq_true, and_self, ite_self]

theorem State.temperature_frame {p : Part} (s : State) (sensors : List Int) (h : p ∉ [Part.free, .cat, .hif, .pat, .upHold, .logs,
    .uplinks]) : p.of (s.temperature sensors) = p.of s := by
  simp only [Part.outside] at h
  simp only [State.temperature, ↓Part.of_ite, ↓Part.of_set, ↓State.thermalLimit_frame, ↓State.clockChange_frame, ↓State.set_frame,
      Part.outside, h, not_false_eq_true, and_self, ite_self, ne_eq]

theorem State.governor_frame {p : Part} (s : State) (h : p ∉ [Part.free, .cat, .hif, .pat, .upHold, .logs,
    .uplinks]) : p.of s.governor = p.of s := by
  simp only [Part.outside] at h
  simp only [State.governor, ↓Part.of_ite, ↓Part.of_set, ↓State.setSteps_frame, ↓State.thermalLimit_frame, Part.outside, h,
      not_false_eq_true, and_self, ite_self, ne_eq]

theorem State.alarmClear_frame {p : Part} (s : State) (h : p ∉ [Part.cat]) : p.of s.alarmClear = p.of s := by
  simp only [Part.outside] at h
  unfold State.alarmClear
  split <;> simp only [↓Part.of_ite, ↓State.set_frame, Part.outside, h, not_false_eq_true, and_self, ite_self]

theorem State.hoursAt_frame {p : Part} (s : State) (distance num den : Int) (h : p ∉ [Part.free]) : p.of (s.hoursAt distance num den).2 =
    p.of s := by
  simp only [Part.outside] at h
  simp only [State.hoursAt, ↓State.draw_frame, Part.outside, h, not_false_eq_true, and_self, ite_self, ↓Part.of_ite_snd, ↓Part.of_pair]

theorem State.projectLife_frame {p : Part} (s : State) (h : p ∉ [Part.free, .cat]) : p.of s.projectLife = p.of s := by
  simp only [Part.outside] at h
  simp only [State.projectLife, ↓Part.of_ite, ↓State.set_frame, ↓State.hoursAt_frame, Part.outside, h, not_false_eq_true, and_self,
      ite_self]

theorem State.ageing_frame {p : Part} (s : State) (cause : Nat) (h : p ∉ [Part.free, .cat, .hif,
    .logs]) : p.of (s.ageing cause) = p.of s := by
  simp only [Part.outside] at h
  simp only [State.ageing, ↓State.logDiag_frame, Part.outside, h, not_false_eq_true, and_self]

theorem State.requestVdd_frame {p : Part} (s : State) (h : p ∉ [Part.pins]) : p.of s.requestVdd = p.of s := by
  simp only [Part.outside] at h
  simp only [State.requestVdd, ↓Part.of_set, h, not_false_eq_true, ne_eq]

theorem State.patinaAct_frame {p : Part} (s : State) (w wEng : Int) (h : p ∉ [Part.free, .cat, .stores, .pins, .hif, .pat, .upHold,
    .logs, .uplinks]) : p.of (s.patinaAct w wEng) = p.of s := by
  simp only [Part.outside] at h
  simp only [State.patinaAct, ↓Part.of_ite, ↓Part.of_set, ↓State.ageing_frame, ↓State.projectLife_frame, ↓State.requestVdd_frame,
      ↓State.setPaired_frame, ↓State.clockChange_frame, ↓State.noticeAll_frame, Part.outside, h, not_false_eq_true, and_self, ite_self,
      ne_eq]

theorem State.patinaStep_frame {p : Part} (s : State) (margins : List Int) (h : p ∉ [Part.free, .cat, .stores, .pins, .hif, .pat,
    .upHold, .logs, .uplinks]) : p.of (s.patinaStep margins) = p.of s := by
  simp only [Part.outside] at h
  simp only [State.patinaStep, ↓Part.of_ite, ↓Part.of_set, ↓State.set_frame, ↓State.patinaAct_frame, Part.outside, h, not_false_eq_true,
      and_self, ite_self, ne_eq, ↓Part.of_foldl, implies_true]

theorem State.patinaHour_frame {p : Part} (s : State) (margins : List Int) (h : p ∉ [Part.free, .cat, .stores, .pins, .hif, .pat,
    .upHold, .logs, .uplinks]) : p.of (s.patinaHour margins) = p.of s := by
  simp only [Part.outside] at h
  simp only [State.patinaHour, ↓Part.of_ite, ↓Part.of_set, ↓State.patinaStep_frame, Part.outside, h, not_false_eq_true, and_self,
      ite_self, ne_eq]

theorem State.patinaCommand_frame {p : Part} (s : State) (r : CapReq) (v : Nat) (margins : List Int) (h : p ∉ [Part.free, .cat, .stores,
    .pins, .hif, .sessions, .pat, .upHold, .logs, .uplinks]) : p.of (s.patinaCommand r v margins) = p.of s := by
  simp only [Part.outside] at h
  unfold State.patinaCommand
  refine State.capExec_frame _ _ _ _ (by simp only [Part.outside, h, not_false_eq_true, and_self]) fun a s => ?_
  refine boolCommand_frame _ _ _ ?_
  simp only [↓State.patinaStep_frame, Part.outside, h, not_false_eq_true, and_self, ↓Part.of_pair]

theorem State.patinaRecalibrate_frame {p : Part} (s : State) (r : CapReq) (v : Nat) (h : p ∉ [Part.free, .cat, .stores, .hif,
    .sessions]) : p.of (s.patinaRecalibrate r v) = p.of s := by
  unfold State.patinaRecalibrate
  grind [State.capExec_frame, boolCommand_frame, State.setPaired_frame]

theorem State.recalibrated_frame {p : Part} (s : State) (h : p ∉ [Part.free, .cat, .stores, .hif,
    .logs]) : p.of s.recalibrated = p.of s := by
  simp only [Part.outside] at h
  simp only [State.recalibrated, ↓Part.of_ite, ↓State.ageing_frame, ↓State.commitPaired_frame, Part.outside, h, not_false_eq_true,
      and_self, ite_self]

theorem State.bistStart_frame {p : Part} (s : State) (r : CapReq) (t : Nat) (h : p ∉ [Part.free, .cat, .hif, .sessions,
    .pat]) : p.of (s.bistStart r t) = p.of s := by
  simp only [Part.outside] at h
  simp only [State.bistStart, ↓Part.of_set, ↓State.capExec_frame, Part.outside, h, not_false_eq_true, and_self, ite_self, ne_eq,
      ↓Part.of_ite_snd, ↓Part.of_pair, implies_true]

theorem State.rotationTest_frame {p : Part} (s : State) (h : p ∉ [Part.pat]) : p.of s.rotationTest = p.of s := by
  simp only [Part.outside] at h
  unfold State.rotationTest
  (repeat' split) <;> simp only [↓Part.of_set, h, not_false_eq_true, ne_eq]

theorem State.bistSlice_frame {p : Part} (s : State) (ok : Bool) (h : p ∉ [Part.pat, .memory]) : p.of (s.bistSlice ok) = p.of s := by
  simp only [Part.outside] at h
  unfold State.bistSlice
  split <;> simp only [↓Part.of_ite, ↓Part.of_set, ↓State.clearCaravan_frame, Part.outside, h, not_false_eq_true, and_self, ite_self,
      ne_eq]

theorem State.jugglerTested_frame {p : Part} (s : State) (e result : Nat) (h : p ∉ [Part.free, .cat, .hif, .gate, .pat, .memory,
    .logs]) : p.of (s.jugglerTested e result) = p.of s := by
  simp only [Part.outside] at h
  unfold State.jugglerTested
  split <;> simp only [↓Part.of_ite, ↓Part.of_update, ↓State.engineOut_frame, ↓State.bump_frame, ↓State.clearCaravan_frame, Part.outside,
      h, not_false_eq_true, and_self, ite_self, implies_true, IsEmpty.forall_iff]

theorem State.tested_frame {p : Part} (s : State) (t result : Nat) (h : p ∉ [Part.free, .cat, .pins, .hif, .gate, .pat, .upHold, .memory,
    .logs, .uplinks, .recs, .bills, .items]) : p.of (s.tested t result) = p.of s := by
  simp only [Part.outside] at h
  unfold State.tested
  (repeat' split) <;> simp only [↓Part.of_set, ↓State.jugglerTested_frame, ↓State.dangerous_frame, Part.outside, h, not_false_eq_true,
      and_self, ne_eq]

theorem State.bistComplete_frame {p : Part} (s : State) (result set_ : Nat) (signatures : List Nat) (h : p ∉ [Part.free, .cat, .pins,
    .hif, .gate, .pat, .upHold, .memory, .logs, .uplinks, .recs, .bills,
    .items]) : p.of (s.bistComplete result set_ signatures) = p.of s := by
  simp only [Part.outside] at h
  unfold State.bistComplete
  split <;> simp only [↓Part.of_ite, ↓State.tested_frame, ↓State.bistEnd_frame, Part.outside, h, not_false_eq_true, and_self, ite_self]

/-! ### Writes -/

theorem State.discardWhole_frame {p : Part} (s : State) (f : Frame) (h : p ∉ [Part.loc, .frames, .cascades, .cascadeOut, .dl, .queues,
    .items, .records]) : p.of (s.discardWhole f) = p.of s := by
  simp only [Part.outside] at h
  simp only [State.discardWhole, ↓Part.of_set, ↓State.holdItems_frame, ↓State.purgeSlot_frame, ↓State.discard_frame, Part.outside, h,
      not_false_eq_true, and_self, ne_eq, ↓Part.of_foldl, implies_true]

theorem State.closeCell_frame {p : Part} (s : State) (cell : Nat) (h : p ∉ [Part.loc, .frames, .cascades, .cascadeOut, .dl, .queues,
    .items, .records]) : p.of (s.closeCell cell) = p.of s := by
  simp only [Part.outside] at h
  simp only [State.closeCell, ↓State.discardWhole_frame, Part.outside, h, not_false_eq_true, and_self, ↓Part.of_foldl, implies_true]

theorem State.laneStop_frame {p : Part} (s : State) (l : Nat) (h : p ∉ [Part.free, .cat, .hif, .gate, .lanes, .upHold, .logs, .uplinks,
    .recs, .bills, .items]) : p.of (s.laneStop l) = p.of s := by
  simp only [Part.outside] at h
  simp only [State.laneStop, ↓State.abortLane_frame, Part.outside, h, not_false_eq_true, and_self]

theorem State.laneReset_frame {p : Part} (s : State) (l sub old : Nat) (h : p ∉ [Part.free, .cat, .hif, .gate, .lanes, .upHold, .logs,
    .uplinks, .recs, .bills, .items]) : p.of (s.laneReset l sub old) = p.of s := by
  simp only [Part.outside] at h
  simp only [State.laneReset, ↓State.modLane_frame, ↓State.abortLane_frame, Part.outside, h, not_false_eq_true, and_self]

theorem State.timingHeld_frame {p : Part} (s : State) (sub old : Nat) (h : p ∉ [Part.lanes]) : p.of (s.timingHeld sub old) = p.of s := by
  simp only [Part.outside] at h
  simp only [State.timingHeld, ↓Part.of_set, h, not_false_eq_true, ne_eq]

theorem State.iqEnabled_frame {p : Part} (s : State) (old new : Nat) (h : p ∉ [Part.cat,
    .car]) : p.of (s.iqEnabled old new) = p.of s := by
  simp only [Part.outside] at h
  simp only [State.iqEnabled, ↓Part.of_ite, ↓State.trainPort_frame, ↓State.setIq_frame, ↓State.abortPort_frame, Part.outside, h,
      not_false_eq_true, and_self, ite_self, ↓Part.of_foldl, implies_true]

theorem State.landedRadio_frame {p : Part} (s : State) (k old new : Nat) (h : p ∉ [Part.cat,
    .car]) : p.of (s.landedRadio k old new) = p.of s := by
  simp only [Part.outside] at h
  simp only [State.landedRadio, ↓Part.of_ite, ↓State.trainPort_frame, ↓State.iqEnabled_frame, Part.outside, h, not_false_eq_true,
      and_self, ite_self]

theorem State.landedLine_frame {p : Part} (s : State) (k old new : Nat) (h : p ∉ [Part.free, .cat, .hif, .gate, .lanes, .upHold, .logs,
    .uplinks, .recs, .bills, .items]) : p.of (s.landedLine k old new) = p.of s := by
  simp only [Part.outside] at h
  simp only [State.landedLine, ↓Part.of_ite, ↓State.laneStop_frame, ↓State.laneReset_frame, ↓State.timingHeld_frame, Part.outside, h,
      not_false_eq_true, and_self, ite_self, ↓Part.of_foldl, implies_true]

theorem State.landedNet_frame {p : Part} (s : State) (k old new : Nat) (h : p ∉ [Part.free, .cat, .hif, .ports,
    .logs]) : p.of (s.landedNet k old new) = p.of s := by
  simp only [Part.outside] at h
  simp only [State.landedNet, ↓Part.of_ite, ↓State.linkDown_frame, Part.outside, h, not_false_eq_true, and_self, ite_self,
      ↓Part.of_foldl, implies_true]

theorem State.landedTime_frame {p : Part} (s : State) (k : Nat) (old new : Int) (h : p ∉ [Part.free, .cat, .stores, .bat, .hif, .cask,
    .gate, .freeze, .upHold, .increment, .clockwork, .logs, .uplinks, .recs, .bills, .spans, .withheld, .items, .series,
    .records]) : p.of (s.landedTime k old new) = p.of s := by
  simp only [Part.outside] at h
  simp only [State.landedTime, ↓Part.of_ite, ↓State.ownerChanged_frame, ↓State.offsetWritten_frame, ↓State.evaluate_frame,
      ↓State.setPaired_frame, ↓State.reselect_frame, Part.outside, h, not_false_eq_true, and_self, ite_self]

theorem State.landedClasp_frame {p : Part} (s : State) (k new : Nat) (h : p ∉ [Part.bat]) : p.of (s.landedClasp k new) = p.of s := by
  simp only [Part.outside] at h
  simp only [State.landedClasp, ↓Part.of_ite, ↓Part.of_set, h, not_false_eq_true, ite_self, ne_eq]

theorem State.landed_frame {p : Part} (s : State) (k : Nat) (old new : Int) (h : p ∉ [Part.free, .cat, .stores, .bat, .hif, .ports,
    .cask, .gate, .loc, .freeze, .frames, .cascades, .cascadeOut, .car, .dl, .lanes, .upHold, .increment, .clockwork, .queues, .logs,
    .uplinks, .recs, .bills, .spans, .withheld, .items, .series, .records]) : p.of (s.landed k old new) = p.of s := by
  simp only [Part.outside] at h
  simp only [State.landed, ↓Part.of_ite, ↓State.logLegal_frame, ↓State.closeCell_frame, ↓State.clockChange_frame,
      ↓State.landedTime_frame, ↓State.landedRadio_frame, ↓State.landedLine_frame, ↓State.landedNet_frame, ↓State.landedClasp_frame,
      Part.outside, h, not_false_eq_true, and_self, ite_self, ↓Part.of_foldl, implies_true]

theorem State.sealedWrite_frame {p : Part} (s : State) (k : Nat) (v : Int) (h : p ∉ [Part.free, .cat, .stores, .bat, .hif, .cask, .hall,
    .freeze, .logs, .records]) : p.of (s.sealedWrite k v) = p.of s := by
  simp only [Part.outside] at h
  simp only [State.sealedWrite, ↓Part.of_ite, ↓Part.of_set, ↓State.modCal_frame, ↓State.setSealed_frame, ↓State.commit_frame,
      ↓State.logLegal_frame, Part.outside, h, not_false_eq_true, and_self, ite_self, ne_eq]

theorem State.writeObject_frame {p : Part} (s : State) (w : Waiter) (r : ObjRow) (h : p ∉ [Part.free, .cat, .stores, .bat, .hif, .cask,
    .hall, .freeze, .logs, .records]) : p.of (s.writeObject w r).2 = p.of s := by
  simp only [Part.outside] at h
  simp only [State.writeObject]
  (repeat' split) <;> simp only [↓Part.of_set, ↓State.mediaGate_frame, ↓State.sealedWrite_frame, ↓State.set_frame, Part.outside, h,
      not_false_eq_true, and_self, ne_eq, ↓Part.of_pair]

theorem State.answer_frame {p : Part} (s : State) (w : Waiter) (o : CapOut) (h : p ∉ [Part.free, .cat, .hif,
    .sessions]) : p.of (s.answer w o) = p.of s := by
  simp only [Part.outside] at h
  simp only [State.answer, ↓State.respond_frame, Part.outside, h, not_false_eq_true, and_self]

theorem State.landWrite_frame {p : Part} (s : State) (w : Waiter) (h : p ∉ [Part.free, .cat, .stores, .bat, .hif, .ports, .sessions,
    .cask, .hall, .gate, .loc, .freeze, .frames, .cascades, .cascadeOut, .car, .dl, .lanes, .upHold, .increment, .clockwork, .queues,
    .logs, .uplinks, .recs, .bills, .spans, .withheld, .items, .series, .records]) : p.of (s.landWrite w) = p.of s := by
  simp only [Part.outside] at h
  simp only [State.landWrite, ↓Part.of_ite, ↓Part.of_set, ↓State.answer_frame, ↓State.landed_frame, ↓State.set_frame, Part.outside, h,
      not_false_eq_true, and_self, ite_self, ne_eq]

theorem State.storeProgrammed_frame {p : Part} (s : State) (n : Nat) (ok : Bool) (h : p ∉ [Part.free, .cat, .stores, .bat, .hif, .ports,
    .sessions, .cask, .hall, .gate, .loc, .freeze, .frames, .cascades, .cascadeOut, .car, .dl, .lanes, .upHold, .increment, .clockwork,
    .queues, .logs, .uplinks, .recs, .bills, .spans, .withheld, .items, .series, .records]) : p.of (s.storeProgrammed n ok) = p.of s := by
  simp only [Part.outside] at h
  unfold State.storeProgrammed
  split <;> simp only [↓Part.of_ite, ↓Part.of_set, ↓State.bump_frame, ↓State.landWrite_frame, ↓State.answer_frame,
      ↓State.logOpFree_frame, Part.outside, h, not_false_eq_true, and_self, ite_self, ne_eq, ↓Part.of_foldl, implies_true]

/-! ### Catalogue -/

theorem State.capMessage_frame {p : Part} (s : State) (r : CapReq) (m : CapMsg) (kind : Nat) (body : Session → State → Option CapOut ×
    State) (h : p ∉ [Part.free, .cat, .hif, .sessions]) (hb : ∀ ses t,
    p.of (body ses t).2 = p.of t) : p.of (s.capMessage r m kind body) = p.of s := by
  simp only [Part.outside] at h
  unfold State.capMessage
  split
  · rfl
  · have k : p.of (s.capRun r kind m.index m.sub (fun _ => true) body) = p.of s :=
      s.capRun_frame _ _ _ _ _ _ (by simp only [Part.outside, h, not_false_eq_true, and_self]) hb
    simp only [↓Part.of_ite, ↓Part.of_set, ↓State.bump_frame, ↓State.respond_frame, Part.outside, h, not_false_eq_true, and_self,
        ite_self, ne_eq, k]

theorem State.clearRead_frame {p : Part} (s : State) (r : ObjRow) (k : Nat) (h : p ∉ [Part.cat]) : p.of (s.clearRead r k) = p.of s := by
  simp only [Part.outside] at h
  simp only [State.clearRead, ↓Part.of_ite, ↓State.set_frame, Part.outside, h, not_false_eq_true, and_self, ite_self]

theorem State.readRecord_frame {p : Part} (s : State) (ses : Session) (i count : Nat) (h : p ∉ [Part.cat]) : p.of (s.readRecord ses i
    count).2 = p.of s := by
  simp only [Part.outside] at h
  simp only [State.readRecord, ↓State.clearRead_frame, Part.outside, h, not_false_eq_true, and_self, ↓Part.of_foldl, implies_true]

theorem State.readObject_frame {p : Part} (s : State) (ses : Session) (m : CapMsg) (h : p ∉ [Part.cat]) : p.of (s.readObject ses m).2 =
    p.of s := by
  simp only [Part.outside] at h
  simp only [State.readObject, ↓Part.of_ite_snd, ↓Part.of_pair]
  (repeat' split) <;> simp only [↓State.readRecord_frame, ↓State.clearRead_frame, Part.outside, h, not_false_eq_true, and_self,
      ↓Part.of_pair]

theorem State.capRead_frame {p : Part} (s : State) (r : CapReq) (m : CapMsg) (h : p ∉ [Part.free, .cat, .hif,
    .sessions]) : p.of (s.capRead r m) = p.of s := by
  simp only [Part.outside] at h
  simp only [State.capRead, ↓State.capMessage_frame, ↓State.readObject_frame, Part.outside, h, not_false_eq_true, and_self,
      ↓Part.of_pair, implies_true]

theorem State.writeNow_frame {p : Part} (s : State) (ses : Session) (r : CapReq) (kind i : Nat) (n length raw : Nat) (h : p ∉ [Part.free,
    .cat, .stores, .bat, .hif, .cask, .hall, .freeze, .logs, .records]) : p.of (s.writeNow ses r kind i n length raw).2 = p.of s := by
  simp only [Part.outside] at h
  unfold State.writeNow
  split <;> simp only [↓State.writeObject_frame, Part.outside, h, not_false_eq_true, and_self, ↓Part.of_pair]

theorem State.modSession_frame {p : Part} (s : State) (n : Nat) (f : Session → Session) (h : p ∉ [Part.sessions]) : p.of (s.modSession n
    f) = p.of s := by
  simp only [Part.outside] at h
  simp only [State.modSession, ↓Part.of_set, h, not_false_eq_true, ne_eq]

theorem State.openBulk_frame {p : Part} (s : State) (ses : Session) (r : CapReq) (m : CapMsg) (length raw total : Nat) (h : p ∉
    [Part.sessions]) : p.of (s.openBulk ses r m length raw total).2 = p.of s := by
  simp only [Part.outside] at h
  simp only [State.openBulk, ↓State.modSession_frame, Part.outside, h, not_false_eq_true, and_self, ite_self, ↓Part.of_ite_snd,
      ↓Part.of_pair]

theorem State.capWrite_frame {p : Part} (s : State) (r : CapReq) (m : CapMsg) (length : Nat) (value : Int) (more : Bool) (h : p ∉
    [Part.free, .cat, .stores, .bat, .hif, .sessions, .cask, .hall, .freeze, .logs,
    .records]) : p.of (s.capWrite r m length value more) = p.of s := by
  simp only [Part.outside] at h
  simp only [State.capWrite, ↓State.capMessage_frame, ↓State.openBulk_frame, ↓State.writeNow_frame, Part.outside, h, not_false_eq_true,
      and_self, ite_self, ne_eq, ↓Part.of_ite_snd, ↓Part.of_pair, implies_true]

theorem State.capBulk_frame {p : Part} (s : State) (r : CapReq) (m : CapMsg) (length : Nat) (value : Int) (more : Bool) (h : p ∉
    [Part.free, .cat, .stores, .bat, .hif, .sessions, .cask, .hall, .freeze, .logs,
    .records]) : p.of (s.capBulk r m length value more) = p.of s := by
  simp only [Part.outside] at h
  unfold State.capBulk
  refine State.capMessage_frame _ _ _ _ _ (by simp only [Part.outside, h, not_false_eq_true, and_self]) fun a b => ?_
  split <;> simp only [↓State.modSession_frame, ↓State.writeNow_frame, Part.outside, h, not_false_eq_true, and_self, ite_self, ne_eq,
      ↓Part.of_ite_snd, ↓Part.of_pair]

theorem State.capResult_frame {p : Part} (s : State) (r : CapReq) (offset : Nat) (h : p ∉ [Part.free, .cat, .hif,
    .sessions]) : p.of (s.capResult r offset) = p.of s := by
  simp only [Part.outside] at h
  unfold State.capResult
  refine State.capRun_frame _ _ _ _ _ _ _ (by simp only [Part.outside, h, not_false_eq_true, and_self]) fun a b => ?_
  split <;> simp only [↓Part.of_pair]

theorem State.abandonBulk_frame {p : Part} (s : State) (n : Nat) (b : Bulk) (code : Nat) (h : p ∉ [Part.free, .cat, .hif,
    .sessions]) : p.of (s.abandonBulk n b code) = p.of s := by
  simp only [Part.outside] at h
  simp only [State.abandonBulk, ↓State.respond_frame, ↓State.modSession_frame, Part.outside, h, not_false_eq_true, and_self]

theorem State.capAbort_frame {p : Part} (s : State) (r : CapReq) (h : p ∉ [Part.free, .cat, .hif,
    .sessions]) : p.of (s.capAbort r) = p.of s := by
  simp only [Part.outside] at h
  unfold State.capAbort
  refine State.capRun_frame _ _ _ _ _ _ _ (by simp only [Part.outside, h, not_false_eq_true, and_self]) fun a b => ?_
  split <;> simp only [↓State.abandonBulk_frame, Part.outside, h, not_false_eq_true, and_self, ↓Part.of_pair]

theorem State.bulkTimeout_frame {p : Part} (s : State) (n : Nat) (h : p ∉ [Part.free, .cat, .hif,
    .sessions]) : p.of (s.bulkTimeout n) = p.of s := by
  simp only [Part.outside] at h
  unfold State.bulkTimeout
  split <;> simp only [↓Part.of_ite, ↓State.abandonBulk_frame, Part.outside, h, not_false_eq_true, and_self, ite_self]

theorem State.sessionStart_frame {p : Part} (s : State) (n role tenant : Nat) (h : p ∉ [Part.free, .sessions,
    .loc]) : p.of (s.sessionStart n role tenant) = p.of s := by
  simp only [Part.outside] at h
  simp only [State.sessionStart, ↓Part.of_ite, ↓State.openTraffic_frame, ↓State.openSession_frame, Part.outside, h, not_false_eq_true,
      and_self, ite_self]

theorem State.sessionEnd_frame {p : Part} (s : State) (n : Nat) (h : p ∉ [Part.free, .cat, .hif, .sessions, .loc, .freeze,
    .logs]) : p.of (s.sessionEnd n) = p.of s := by
  simp only [Part.outside] at h
  unfold State.sessionEnd
  split <;> simp only [↓Part.of_ite, ↓State.endSession_frame, Part.outside, h, not_false_eq_true, and_self, ite_self]

theorem State.rsFrame_frame {p : Part} (s : State) (frame : List Nat) (gapOk : Bool) (h : p ∉ [Part.free, .cat,
    .sessions]) : p.of (s.rsFrame frame gapOk) = p.of s := by
  simp only [Part.outside] at h
  simp only [State.rsFrame, ↓Part.of_ite, ↓State.bump_frame, ↓State.modSession_frame, ↓State.openSession_frame, Part.outside, h,
      not_false_eq_true, and_self, ite_self, ne_eq]

theorem State.bundleApply_frame {p : Part} (s : State) (counter : Nat) (l : List (Nat × ObjRow × Int)) (h : p ∉ [Part.free, .cat,
    .stores, .bat, .hif, .ports, .cask, .hall, .gate, .loc, .freeze, .frames, .cascades, .cascadeOut, .car, .dl, .lanes, .upHold,
    .increment, .clockwork, .queues, .logs, .uplinks, .recs, .bills, .spans, .withheld, .items, .series,
    .records]) : p.of (s.bundleApply counter l) = p.of s := by
  simp only [Part.outside] at h
  simp only [State.bundleApply, ↓Part.of_set, ↓State.commitPaired_frame, ↓State.landed_frame, ↓State.sealedWrite_frame, Part.outside, h,
      not_false_eq_true, and_self, ne_eq, ↓Part.of_foldl, implies_true]

theorem State.bundleFails_frame {p : Part} (s : State) (n : Nat) (l : List (Nat × ObjRow × Int)) (h : p ∉ [Part.free, .cat, .stores,
    .hif, .logs]) : p.of (s.bundleFails n l) = p.of s := by
  simp only [Part.outside] at h
  simp only [State.bundleFails, ↓Part.of_set, ↓State.logOpFree_frame, ↓State.bumpBy_frame, Part.outside, h, not_false_eq_true, and_self,
      ne_eq]

theorem State.bundleSubmit_frame {p : Part} (s : State) (r : CapReq) (e : Epmeir) (entries : List BundleEntry) (failed : Option Nat) (h :
    p ∉ [Part.free, .cat, .stores, .bat, .hif, .ports, .sessions, .cask, .hall, .gate, .loc, .freeze, .frames, .cascades, .cascadeOut,
    .car, .dl, .lanes, .upHold, .increment, .clockwork, .queues, .logs, .uplinks, .recs, .bills, .spans, .withheld, .items, .series,
    .records]) : p.of (s.bundleSubmit r e entries failed) = p.of s := by
  simp only [Part.outside] at h
  unfold State.bundleSubmit
  refine State.capExec_frame _ _ _ _ (by simp only [Part.outside, h, not_false_eq_true, and_self]) fun a b => ?_
  (repeat' split) <;> simp only [↓State.bundleFails_frame, ↓State.bundleApply_frame, ↓State.mediaGate_frame, Part.outside, h,
      not_false_eq_true, and_self, ↓Part.of_pair]

/-! ### Power -/

theorem State.assertSafe_frame {p : Part} (s : State) (h : p ∉ [Part.pins, .hif]) : p.of s.assertSafe = p.of s := by
  simp only [Part.outside] at h
  simp only [State.assertSafe, ↓Part.of_ite, ↓Part.of_set, ↓State.raise_frame, Part.outside, h, not_false_eq_true, and_self, ite_self,
      ne_eq]

theorem State.gaspOf_frame {p : Part} (s : State) (t : Nat) (h : p ∉ [Part.free, .cat, .pw, .hif]) : p.of (s.gaspOf t) = p.of s := by
  simp only [Part.outside] at h
  simp only [State.gaspOf, ↓Part.of_ite, ↓Part.of_set, h, not_false_eq_true, ne_eq]
  (repeat' split) <;> simp only [↓State.hqComplete_frame, Part.outside, h, not_false_eq_true, and_self]

theorem State.lastGasp_frame {p : Part} (s : State) (h : p ∉ [Part.free, .cat, .pw, .hif, .cascadeOut]) : p.of s.lastGasp = p.of s := by
  simp only [Part.outside] at h
  simp only [State.lastGasp, ↓Part.of_ite, ↓State.gaspOf_frame, ↓State.sendCascade_frame, Part.outside, h, not_false_eq_true, and_self,
      ite_self, ↓Part.of_foldl, implies_true]

theorem State.dropEarly_frame {p : Part} (s : State) (h : p ∉ [Part.loc, .frames, .cascades, .cascadeOut, .dl, .queues, .items,
    .records]) : p.of s.dropEarly = p.of s := by
  simp only [Part.outside] at h
  simp only [State.dropEarly, ↓State.discardWhole_frame, Part.outside, h, not_false_eq_true, and_self, ↓Part.of_foldl, implies_true]

theorem State.powerFail_frame {p : Part} (s : State) (cause : Nat) (h : p ∉ [Part.free, .cat, .pins, .pw, .hif, .cask, .gate, .pat, .loc,
    .frames, .cascades, .cascadeOut, .dl, .queues, .logs, .items, .records]) : p.of (s.powerFail cause) = p.of s := by
  simp only [Part.outside] at h
  simp only [State.powerFail, ↓Part.of_ite, ↓Part.of_update, ↓State.raise_frame, ↓State.dropEarly_frame, ↓State.clockChange_frame,
      ↓State.set_frame, ↓State.bistAbort_frame, ↓State.assertSafe_frame, Part.outside, h, not_false_eq_true, and_self, ite_self,
      implies_true, IsEmpty.forall_iff]

theorem State.pfiAssert_frame {p : Part} (s : State) (h : p ∉ [Part.free, .cat, .stores, .bat, .pins, .pw, .hif, .cask, .gate, .pat,
    .loc, .freeze, .frames, .cascades, .cascadeOut, .dl, .upHold, .queues, .logs, .uplinks, .recs, .bills, .ingest, .withheld, .items,
    .series, .records]) : p.of s.pfiAssert = p.of s := by
  simp only [Part.outside] at h
  simp only [State.pfiAssert, ↓Part.of_ite, ↓Part.of_update, ↓State.tamper_frame, ↓State.lastGasp_frame, ↓State.powerFail_frame,
      Part.outside, h, not_false_eq_true, and_self, ite_self, ne_eq, implies_true, IsEmpty.forall_iff]

theorem State.makeSafe_frame {p : Part} (s : State) (h : p ∉ [Part.free, .cat, .stores, .bat, .pins, .cask, .loc, .nandProg, .ingest,
    .records]) : p.of s.makeSafe = p.of s := by
  simp only [Part.outside] at h
  simp only [State.makeSafe, ↓Part.of_update, ↓State.allProgrammed_frame, Part.outside, h, not_false_eq_true, and_self, implies_true,
      IsEmpty.forall_iff]

theorem State.pwrSafe_frame {p : Part} (s : State) (h : p ∉ [Part.free, .cat, .stores, .bat, .pins, .cask, .loc, .nandProg, .ingest,
    .records]) : p.of s.pwrSafe = p.of s := by
  simp only [Part.outside] at h
  simp only [State.pwrSafe, ↓Part.of_ite, ↓State.makeSafe_frame, Part.outside, h, not_false_eq_true, and_self, ite_self]

theorem State.faultRestart_frame {p : Part} (s : State) (lost : Bool) (h : p ∉ [Part.free, .cat, .stores, .bat, .pins, .pw, .hif, .cask,
    .gate, .pat, .loc, .frames, .cascades, .cascadeOut, .dl, .nandProg, .queues, .logs, .anchors, .user, .uplinks, .recs, .hash, .blobs,
    .bills, .spans, .nodes, .ingest, .forward, .withheld, .items, .series, .records]) : p.of (s.faultRestart lost) = p.of s := by
  simp only [Part.outside] at h
  simp only [State.faultRestart, ↓Part.of_ite, ↓Part.of_update, ↓State.powerFail_frame, ↓State.makeSafe_frame, Part.outside, h,
      not_false_eq_true, and_self, ite_self, implies_true, IsEmpty.forall_iff]

theorem State.ddrUncorrectable_frame {p : Part} (s : State) (frames : List Nat) (h : p ∉ [Part.free, .cat, .stores, .bat, .pins, .pw,
    .hif, .cask, .gate, .pat, .loc, .frames, .cascades, .cascadeOut, .dl, .nandProg, .queues, .logs, .anchors, .user, .uplinks, .recs,
    .hash, .blobs, .bills, .spans, .nodes, .ingest, .forward, .withheld, .items, .series,
    .records]) : p.of (s.ddrUncorrectable frames) = p.of s := by
  simp only [Part.outside] at h
  simp only [State.ddrUncorrectable, ↓Part.of_ite, ↓State.faultRestart_frame, ↓State.dropFrame_frame, ↓State.dropEarly_frame,
      Part.outside, h, not_false_eq_true, and_self, ite_self, ↓Part.of_foldl, implies_true]

theorem State.cutOff_frame {p : Part} (s : State) (h : p ∉ [Part.stores, .pw, .cask, .logs, .anchors, .user, .uplinks, .recs, .hash,
    .blobs, .bills, .spans, .nodes, .ingest, .forward, .withheld, .items, .series, .records]) : p.of s.cutOff = p.of s := by
  simp only [Part.outside] at h
  simp only [State.cutOff, ↓Part.of_ite, ↓Part.of_update, h, and_self, ite_self, implies_true, IsEmpty.forall_iff]

theorem State.porstAssert_frame {p : Part} (s : State) (h : p ∉ [Part.stores, .pins, .pw, .cask, .logs, .anchors, .user, .uplinks, .recs,
    .hash, .blobs, .bills, .spans, .nodes, .ingest, .forward, .withheld, .items, .series, .records]) : p.of s.porstAssert = p.of s := by
  simp only [Part.outside] at h
  simp only [State.porstAssert, ↓Part.of_ite, ↓Part.of_set, ↓State.cutOff_frame, Part.outside, h, not_false_eq_true, and_self, ite_self,
      ne_eq]

theorem State.batteryLost_frame {p : Part} (s : State) (h : p ∉ [Part.bat, .pins]) : p.of s.batteryLost = p.of s := by
  simp only [Part.outside] at h
  simp only [State.batteryLost, ↓Part.of_update, h, and_self, implies_true, IsEmpty.forall_iff]

theorem State.railsLost_frame {p : Part} (s : State) (h : p ∉ [Part.stores, .bat, .pins, .pw, .cask, .logs, .anchors, .user, .uplinks,
    .recs, .hash, .blobs, .bills, .spans, .nodes, .ingest, .forward, .withheld, .items, .series,
    .records]) : p.of s.railsLost = p.of s := by
  simp only [Part.outside] at h
  simp only [State.railsLost, ↓Part.of_ite, ↓Part.of_update, ↓State.cutOff_frame, ↓State.batteryLost_frame, Part.outside, h,
      not_false_eq_true, and_self, ite_self, implies_true, IsEmpty.forall_iff]

theorem State.changeOver_frame {p : Part} (s : State) (mv : Nat) (vbat : Bool) (h : p ∉ [Part.bat,
    .pins]) : p.of (s.changeOver mv vbat) = p.of s := by
  simp only [Part.outside] at h
  simp only [State.changeOver, ↓Part.of_ite, ↓Part.of_set, ↓State.batteryLost_frame, Part.outside, h, not_false_eq_true, and_self,
      ite_self, ne_eq]

theorem State.wakeAlarmDue_frame {p : Part} (s : State) (h : p ∉ [Part.pins]) : p.of s.wakeAlarmDue = p.of s := by
  simp only [Part.outside] at h
  simp only [State.wakeAlarmDue, ↓Part.of_ite, ↓Part.of_set, h, not_false_eq_true, ite_self, ne_eq]

theorem State.stepOne_frame {p : Part} (s : State) (h : p ∉ [Part.cat, .stores, .pins, .pw, .hif, .ports, .sessions, .gate, .pat, .loc,
    .freeze, .frames, .win, .storms, .unknown, .cascades, .car, .dl, .lanes, .votes, .parked, .upHold, .counter, .increment, .clockwork,
    .lines, .queues, .memory]) : p.of s.stepOne = p.of s := by
  simp only [Part.outside] at h
  simp only [State.stepOne, ↓Part.of_update, h, and_self, implies_true, IsEmpty.forall_iff]

theorem State.stopAt_frame {p : Part} (s : State) (stage : Nat) (h : p ∉ [Part.pw]) : p.of (s.stopAt stage) = p.of s := by
  simp only [Part.outside] at h
  simp only [State.stopAt, ↓Part.of_set, h, not_false_eq_true, ne_eq]

theorem State.stepTwo_frame {p : Part} (s : State) (b : Board) (h : p ∉ [Part.cat, .pw]) : p.of (s.stepTwo b) = p.of s := by
  simp only [Part.outside] at h
  simp only [State.stepTwo, ↓Part.of_set, ↓State.set_frame, Part.outside, h, not_false_eq_true, and_self, ne_eq, ↓Part.of_foldl,
      implies_true]

theorem State.stepFour_frame {p : Part} (s : State) (b : Board) (h : p ∉ [Part.free, .cat, .pw, .gate,
    .loc]) : p.of (s.stepFour b) = p.of s := by
  simp only [Part.outside] at h
  simp only [State.stepFour, ↓Part.of_ite, ↓Part.of_update, ↓State.bump_frame, ↓State.set_frame, Part.outside, h, not_false_eq_true,
      and_self, ite_self, implies_true, IsEmpty.forall_iff]

theorem State.copyClasp_frame {p : Part} (s : State) (h : p ∉ [Part.bat]) : p.of s.copyClasp = p.of s := by
  simp only [Part.outside] at h
  simp only [State.copyClasp, ↓Part.of_set, h, not_false_eq_true, ne_eq]

theorem State.stepFive_frame {p : Part} (s : State) (b : Board) (h : p ∉ [Part.free, .cat, .inForce, .stores, .bat, .pw, .hif,
    .sessions]) : p.of (s.stepFive b) = p.of s := by
  simp only [Part.outside] at h
  simp only [State.stepFive, ↓Part.of_update, ↓State.bumpBy_frame, ↓State.pcieUp_frame, ↓State.copyClasp_frame, Part.outside, h,
      not_false_eq_true, and_self, implies_true, IsEmpty.forall_iff]

theorem State.stepSix_frame {p : Part} (s : State) (b : Board) (h : p ∉ [Part.free, .cat, .stores, .pw,
    .queues]) : p.of (s.stepSix b) = p.of s := by
  simp only [Part.outside] at h
  simp only [State.stepSix, ↓Part.of_ite, ↓Part.of_update, ↓State.draw_frame, ↓State.setPaired_frame, ↓State.set_frame, Part.outside, h,
      not_false_eq_true, and_self, ite_self, implies_true, IsEmpty.forall_iff]

theorem State.stepSeven_frame {p : Part} (s : State) (b : Board) (h : p ∉ [Part.free, .cat, .inForce, .stores, .bat, .pw, .cask, .loc,
    .frames, .nandProg, .queues, .logs, .anchors, .user, .uplinks, .recs, .hash, .blobs, .bills, .spans, .nodes, .ingest, .forward,
    .withheld, .items, .series, .records]) : ∀ u, s.stepSeven b = some u → p.of u = p.of s := by
  unfold State.stepSeven
  grind [Part.of_update, State.mountNew_frame, State.mountOld_frame]

theorem State.loadSealed_frame {p : Part} (s : State) (h : p ∉ [Part.cat]) : p.of s.loadSealed = p.of s := by
  simp only [Part.outside] at h
  simp only [State.loadSealed, ↓Part.of_set, h, not_false_eq_true, ne_eq]

theorem State.rehash_frame {p : Part} (s : State) (r : Record) (h : p ∉ [Part.free, .cat, .hif, .logs, .recs,
    .hash]) : p.of (s.rehash r) = p.of s := by
  simp only [Part.outside] at h
  simp only [State.rehash, ↓Part.of_ite]
  (repeat' split) <;> simp only [↓Part.of_setNand, ↓State.logOp_frame, ↓State.modRecord_frame, Part.outside, h, not_false_eq_true,
      and_self, ne_eq]

theorem State.relocateRegistry_frame {p : Part} (s : State) (h : p ∉ [Part.free, .cat, .hif, .logs, .recs,
    .hash]) : p.of s.relocateRegistry = p.of s := by
  simp only [Part.outside] at h
  simp only [State.relocateRegistry, ↓Part.of_setNand, ↓State.modRecord_frame, ↓State.rehash_frame, Part.outside, h, not_false_eq_true,
      and_self, ne_eq, ↓Part.of_foldl, implies_true]

theorem State.startSeries_frame {p : Part} (s : State) (h : p ∉ [Part.free, .cat, .stores]) : p.of s.startSeries = p.of s := by
  simp only [Part.outside] at h
  simp only [State.startSeries, ↓State.set_frame, ↓State.setPaired_frame, Part.outside, h, not_false_eq_true, and_self]

theorem State.startCounters_frame {p : Part} (s : State) (h : p ∉ [Part.free, .cat, .stores, .bat]) : p.of s.startCounters = p.of s := by
  simp only [Part.outside] at h
  simp only [State.startCounters, ↓Part.of_ite, ↓Part.of_set, ↓State.commitPaired_frame, Part.outside, h, not_false_eq_true, and_self,
      ite_self, ne_eq]

theorem State.locketDefaults_frame {p : Part} (s : State) (h : p ∉ [Part.loc]) : p.of s.locketDefaults = p.of s := by
  simp only [Part.outside] at h
  simp only [State.locketDefaults, ↓Part.of_ite, ↓Part.of_set, h, not_false_eq_true, ite_self, ne_eq]

theorem State.startKeys_frame {p : Part} (s : State) (h : p ∉ [Part.free, .cat, .stores, .bat, .loc,
    .records]) : p.of s.startKeys = p.of s := by
  simp only [Part.outside] at h
  simp only [State.startKeys, ↓Part.of_set, ↓State.storeKeys_frame, ↓State.startCounters_frame, ↓State.locketDefaults_frame,
      ↓State.deriveDevice_frame, Part.outside, h, not_false_eq_true, and_self, ne_eq]

theorem State.decideClass_frame {p : Part} (s : State) (cls : Nat) (h : p ∉ [Part.free, .cat, .stores,
    .pw]) : p.of (s.decideClass cls) = p.of s := by
  simp only [Part.outside] at h
  simp only [State.decideClass, ↓Part.of_ite, ↓Part.of_set, ↓State.setPaired_frame, ↓State.set_frame, Part.outside, h, not_false_eq_true,
      and_self, ite_self, ne_eq]

theorem State.batterySource_frame {p : Part} (s : State) (h : p ∉ [Part.free, .cat, .stores, .bat, .pins, .pw, .hif, .cask, .gate, .pat,
    .loc, .freeze, .frames, .upHold, .queues, .logs, .uplinks, .recs, .bills, .ingest, .withheld, .items, .series,
    .records]) : p.of s.batterySource = p.of s := by
  simp only [Part.outside] at h
  simp only [State.batterySource, ↓Part.of_ite, ↓Part.of_set, ↓State.tamper_frame, Part.outside, h, not_false_eq_true, and_self,
      ite_self, ne_eq]

theorem State.fieldForWant_frame {p : Part} (s : State) (b : Board) (h : p ∉ [Part.free, .cat, .hif,
    .logs]) : p.of (s.fieldForWant b) = p.of s := by
  simp only [Part.outside] at h
  simp only [State.fieldForWant, ↓Part.of_ite, ↓State.logOp_frame, Part.outside, h, not_false_eq_true, and_self, ite_self]

theorem State.startRecords_frame {p : Part} (s : State) (b : Board) (h : p ∉ [Part.free, .cat, .hif,
    .logs]) : p.of (s.startRecords b) = p.of s := by
  simp only [Part.outside] at h
  simp only [State.startRecords, ↓Part.of_ite, ↓State.logSec_frame, ↓State.bump_frame, ↓State.logOp_frame, ↓State.fieldForWant_frame,
      Part.outside, h, not_false_eq_true, and_self, ite_self, ↓Part.of_foldl, implies_true]

theorem State.bootRecord_frame {p : Part} (s : State) (cls : Nat) (h : p ∉ [Part.free, .cat, .hif,
    .logs]) : p.of (s.bootRecord cls) = p.of s := by
  simp only [Part.outside] at h
  simp only [State.bootRecord, ↓State.logSec_frame, Part.outside, h, not_false_eq_true, and_self]

theorem State.matchModule_frame {p : Part} (s : State) (h : p ∉ [Part.fw]) : p.of s.matchModule = p.of s := by
  simp only [Part.outside] at h
  simp only [State.matchModule, ↓Part.of_set, h, not_false_eq_true, ne_eq]

theorem State.stepEight_frame {p : Part} (s : State) (b : Board) (cls : Nat) (was : Bool) (h : p ∉ [Part.free, .cat, .stores, .bat,
    .pins, .pw, .hif, .cask, .fw, .gate, .pat, .loc, .freeze, .frames, .upHold, .counter, .queues, .logs, .uplinks, .recs, .hash, .bills,
    .spans, .ingest, .withheld, .items, .series, .records]) : ∀ u, s.stepEight b cls was = some u → p.of u = p.of s := by
  simp only [Part.outside] at h
  intro u e
  unfold State.stepEight at e
  simp only at e
  split at e
  · exact nomatch e
  · obtain rfl := Option.some.inj e
    simp only [↓Part.of_ite, ↓Part.of_set, ↓State.loadSealed_frame, ↓State.startKeys_frame, ↓State.startTime_frame,
        ↓State.startSeries_frame, ↓State.decideClass_frame, ↓State.matchModule_frame, ↓State.relocateRegistry_frame,
        ↓State.recalibrated_frame, ↓State.startRecords_frame, ↓State.requestVdd_frame, ↓State.clockChange_frame, ↓State.bootRecord_frame,
        ↓State.batterySource_frame, ↓State.wakeTamper_frame, Part.outside, h, not_false_eq_true, and_self, ite_self, ne_eq]

theorem State.replayLegal_frame {p : Part} (s : State) (h : p ∉ [Part.free, .cat, .stores, .bat, .hif, .cask, .freeze,
    .logs]) : p.of s.replayLegal = p.of s := by
  simp only [Part.outside] at h
  simp only [State.replayLegal, ↓Part.of_ite, ↓State.endFreeze_frame, ↓State.logLegal_frame, ↓State.abortedSeals_frame, Part.outside, h,
      not_false_eq_true, and_self, ite_self]

theorem State.finishUplinks_frame {p : Part} (s : State) (h : p ∉ [Part.hif, .frames, .uplinks]) : p.of s.finishUplinks = p.of s := by
  simp only [Part.outside] at h
  unfold State.finishUplinks
  simp only
  refine (Part.of_foldl _ _ _ _ fun s f => ?_).trans ?_
  · refine Part.of_foldl _ _ _ _ fun s u => ?_
    simp only [↓State.uplinkNow_frame, Part.outside, h, not_false_eq_true, and_self]
  · simp only [↓Part.of_set, h, not_false_eq_true, ne_eq]

theorem State.replayEntry_frame {p : Part} (s : State) (e : Ingest) (h : p ∉ [Part.free, .cat, .hif, .frames, .nextFrame, .lines,
    .queues, .memory, .logs, .recs, .ingest]) : p.of (s.replayEntry e) = p.of s := by
  simp only [Part.outside] at h
  unfold State.replayEntry
  split <;> simp only [↓Part.of_ite, ↓Part.of_setNand, ↓State.badRecord_frame, ↓State.bump_frame, ↓State.rejoin_frame, Part.outside, h,
      not_false_eq_true, and_self, ite_self, ne_eq]

theorem State.advanceDownlink_frame {p : Part} (s : State) (h : p ∉ [Part.free, .cat, .hif, .logs,
    .recs]) : p.of s.advanceDownlink = p.of s := by
  simp only [Part.outside] at h
  simp only [State.advanceDownlink, ↓Part.of_setNand, ↓State.logSec_frame, Part.outside, h, not_false_eq_true, and_self, ne_eq]

theorem State.dropGateQueue_frame {p : Part} (s : State) (h : p ∉ [Part.hif, .gate, .upHold, .uplinks,
    .bills]) : p.of s.dropGateQueue = p.of s := by
  simp only [Part.outside] at h
  simp only [State.dropGateQueue, ↓Part.of_set, ↓State.endRequest_frame, Part.outside, h, not_false_eq_true, and_self, ne_eq,
      ↓Part.of_foldl, implies_true]

theorem State.recount_frame {p : Part} (s : State) (h : p ∉ [Part.cat, .items]) : p.of s.recount = p.of s := by
  simp only [Part.outside] at h
  simp only [State.recount, ↓Part.of_setNand, ↓State.countHeld_frame, ↓State.countSweep_frame, ↓State.countDeferred_frame,
      ↓State.set_frame, Part.outside, h, not_false_eq_true, and_self, ne_eq]

theorem State.unreadable_frame {p : Part} (s : State) (b : Board) (h : p ∉ [Part.free, .cat, .hif, .logs, .recs,
    .ingest]) : p.of (s.unreadable b) = p.of s := by
  simp only [Part.outside] at h
  simp only [State.unreadable, ↓Part.of_setNand, ↓State.logOp_frame, ↓State.bump_frame, Part.outside, h, not_false_eq_true, and_self,
      ne_eq, ↓Part.of_foldl, implies_true]

theorem State.stepTen_frame {p : Part} (s : State) (cls : Nat) (b : Board) (h : p ∉ [Part.free, .cat, .stores, .bat, .pw, .hif, .cask,
    .gate, .freeze, .frames, .nextFrame, .upHold, .lines, .queues, .memory, .logs, .uplinks, .recs, .bills, .ingest, .withheld, .items,
    .series, .records]) : p.of (s.stepTen cls b) = p.of s := by
  simp only [Part.outside] at h
  simp only [State.stepTen, ↓Part.of_ite, ↓Part.of_set, ↓State.replayLegal_frame, ↓State.unreadable_frame, ↓State.recount_frame,
      ↓State.dropGateQueue_frame, ↓State.finishUplinks_frame, ↓State.advanceDownlink_frame, ↓State.finishReplay_frame,
      ↓State.countHeld_frame, ↓State.replayEntry_frame, ↓State.redeliver_frame, Part.outside, h, not_false_eq_true, and_self, ite_self,
      ne_eq, ↓Part.of_foldl, implies_true]

theorem State.trainAll_frame {p : Part} (s : State) (h : p ∉ [Part.cat, .car]) : p.of s.trainAll = p.of s := by
  simp only [Part.outside] at h
  simp only [State.trainAll, ↓Part.of_ite, ↓State.trainPort_frame, Part.outside, h, not_false_eq_true, and_self, ite_self,
      ↓Part.of_foldl, implies_true]

theorem State.stepTwelve_frame {p : Part} (s : State) (b : Board) (h : p ∉ [Part.free, .cat, .pins, .pw, .hif, .gate, .car, .upHold,
    .logs, .uplinks, .recs, .bills, .items]) : p.of (s.stepTwelve b) = p.of s := by
  simp only [Part.outside] at h
  simp only [State.stepTwelve, ↓Part.of_set, ↓State.trainAll_frame, ↓State.gateRecheck_frame, ↓State.set_frame, Part.outside, h,
      not_false_eq_true, and_self, ne_eq]

theorem State.startSix_frame {p : Part} (s : State) (b : Board) (h : p ∉ [Part.free, .cat, .inForce, .stores, .bat, .pins, .pw, .hif,
    .cask, .fw, .gate, .pat, .loc, .freeze, .frames, .nextFrame, .car, .upHold, .nandProg, .counter, .lines, .queues, .memory, .logs,
    .anchors, .user, .uplinks, .recs, .hash, .blobs, .bills, .spans, .nodes, .ingest, .forward, .withheld, .items, .series,
    .records]) : p.of (s.startSix b) = p.of s := by
  simp only [Part.outside] at h
  unfold State.startSix
  simp only
  split
  · simp only [↓Part.of_set, ↓State.stopAt_frame, Part.outside, h, not_false_eq_true, and_self, ne_eq]
  · split
    · simp only [↓State.stopAt_frame, ↓State.stepSix_frame, ↓State.set_frame, Part.outside, h, not_false_eq_true, and_self]
    · rename_i u e
      have k := State.stepSeven_frame (p := p) _ _ (by simp only [Part.outside, h, not_false_eq_true, and_self]) _ e
      split
      · simp only [↓Part.of_set, ↓State.stopAt_frame, ↓State.stepSix_frame, ↓State.fieldForWant_frame, ↓State.startSeries_frame,
          Part.outside, h, not_false_eq_true, and_self, ne_eq, k]
      · rename_i v e'
        have m := State.stepEight_frame (p := p) _ _ _ _ (by simp only [Part.outside, h, not_false_eq_true, and_self]) _ e'
        simp only [↓Part.of_ite, ↓Part.of_set, ↓State.stopAt_frame, ↓State.stepSix_frame, ↓State.stepTwelve_frame, ↓State.stepTen_frame,
            Part.outside, h, not_false_eq_true, and_self, ite_self, ne_eq, k, m]

theorem State.start_frame {p : Part} (s : State) (b : Board) (porst : Bool) (h : p ∉ [Part.free, .cat, .inForce, .stores, .bat, .pins,
    .pw, .hif, .ports, .sessions, .cask, .fw, .gate, .pat, .loc, .freeze, .frames, .nextFrame, .win, .storms, .unknown, .cascades, .car,
    .dl, .lanes, .votes, .parked, .upHold, .nandProg, .counter, .increment, .clockwork, .lines, .queues, .memory, .logs, .anchors, .user,
    .uplinks, .recs, .hash, .blobs, .bills, .spans, .nodes, .ingest, .forward, .withheld, .items, .series,
    .records]) : p.of (s.start b porst) = p.of s := by
  simp only [Part.outside] at h
  unfold State.start
  simp only [↓Part.of_ite]
  split
  · simp only [↓Part.of_ite, ↓Part.of_update, ↓State.stepOne_frame, ↓State.stopAt_frame, Part.outside, h, not_false_eq_true, and_self,
      ite_self, implies_true, IsEmpty.forall_iff]
  · split <;> simp only [↓Part.of_ite, ↓Part.of_update, ↓State.stepOne_frame, ↓State.stopAt_frame, ↓State.stepTwo_frame,
      ↓State.pcieUp_frame, ↓State.stepFour_frame, ↓State.stepFive_frame, ↓State.startSix_frame, Part.outside, h, not_false_eq_true,
      and_self, ite_self, implies_true, IsEmpty.forall_iff]

theorem State.porstRelease_frame {p : Part} (s : State) (b : Board) (h : p ∉ [Part.free, .cat, .inForce, .stores, .bat, .pins, .pw, .hif,
    .ports, .sessions, .cask, .fw, .gate, .pat, .loc, .freeze, .frames, .nextFrame, .win, .storms, .unknown, .cascades, .car, .dl,
    .lanes, .votes, .parked, .upHold, .nandProg, .counter, .increment, .clockwork, .lines, .queues, .memory, .logs, .anchors, .user,
    .uplinks, .recs, .hash, .blobs, .bills, .spans, .nodes, .ingest, .forward, .withheld, .items, .series,
    .records]) : p.of (s.porstRelease b) = p.of s := by
  simp only [Part.outside] at h
  simp only [State.porstRelease, ↓Part.of_ite, ↓State.start_frame, Part.outside, h, not_false_eq_true, and_self, ite_self]

theorem State.pfiRelease_frame {p : Part} (s : State) (h : p ∉ [Part.free, .cat, .inForce, .stores, .bat, .pins, .pw, .hif, .cask, .fw,
    .gate, .pat, .loc, .freeze, .frames, .nextFrame, .car, .upHold, .nandProg, .counter, .lines, .queues, .memory, .logs, .anchors,
    .user, .uplinks, .recs, .hash, .blobs, .bills, .spans, .nodes, .ingest, .forward, .withheld, .items, .series,
    .records]) : p.of s.pfiRelease = p.of s := by
  simp only [Part.outside] at h
  unfold State.pfiRelease
  simp only
  split <;> simp only [↓Part.of_ite, ↓Part.of_update, ↓State.tamperRelease_frame, ↓State.startSix_frame, Part.outside, h,
      not_false_eq_true, and_self, ite_self, implies_true, IsEmpty.forall_iff, ↓Part.of_update]

theorem State.internalRestart_frame {p : Part} (s : State) (b : Board) (h : p ∉ [Part.free, .cat, .inForce, .stores, .bat, .pins, .pw,
    .hif, .ports, .sessions, .cask, .fw, .gate, .pat, .loc, .freeze, .frames, .nextFrame, .win, .storms, .unknown, .cascades, .car, .dl,
    .lanes, .votes, .parked, .upHold, .nandProg, .counter, .increment, .clockwork, .lines, .queues, .memory, .logs, .anchors, .user,
    .uplinks, .recs, .hash, .blobs, .bills, .spans, .nodes, .ingest, .forward, .withheld, .items, .series,
    .records]) : p.of (s.internalRestart b) = p.of s := by
  simp only [Part.outside] at h
  simp only [State.internalRestart, ↓Part.of_ite, ↓Part.of_set, ↓State.start_frame, Part.outside, h, not_false_eq_true, and_self,
      ite_self, ne_eq]

theorem State.wakeBanks_frame {p : Part} (s : State) (h : p ∉ [Part.free, .cat, .memory]) : p.of s.wakeBanks = p.of s := by
  simp only [Part.outside] at h
  simp only [State.wakeBanks, ↓Part.of_ite, ↓State.wakeBank_frame, Part.outside, h, not_false_eq_true, and_self, ite_self,
      ↓Part.of_foldl, implies_true]

theorem State.resume_frame {p : Part} (s : State) (h : p ∉ [Part.free, .cat, .pins, .hif, .gate, .car, .upHold, .memory, .logs, .uplinks,
    .recs, .bills, .items]) : p.of s.resume = p.of s := by
  simp only [Part.outside] at h
  simp only [State.resume, ↓Part.of_ite, ↓State.wakeBanks_frame, ↓State.set_frame, ↓State.gateRecheck_frame, ↓State.trainAll_frame,
      Part.outside, h, not_false_eq_true, and_self, ite_self]

theorem State.setActive_frame {p : Part} (s : State) (r : CapReq) (h : p ∉ [Part.free, .cat, .pins, .hif, .sessions, .gate, .car,
    .upHold, .memory, .logs, .uplinks, .recs, .bills, .items]) : p.of (s.setActive r) = p.of s := by
  simp only [Part.outside] at h
  simp only [State.setActive, ↓State.capExec_frame, ↓State.resume_frame, Part.outside, h, not_false_eq_true, and_self, ite_self,
      ↓Part.of_ite_snd, ↓Part.of_pair, implies_true]

theorem State.setStandby_frame {p : Part} (s : State) (r : CapReq) (h : p ∉ [Part.free, .cat, .pw, .hif, .sessions, .loc, .frames,
    .cascades, .cascadeOut, .dl, .queues, .items, .records]) : p.of (s.setStandby r) = p.of s := by
  simp only [Part.outside] at h
  simp only [State.setStandby, ↓Part.of_set, ↓State.capExec_frame, ↓State.dropEarly_frame, Part.outside, h, not_false_eq_true, and_self,
      ite_self, ne_eq, ↓Part.of_ite_snd, ↓Part.of_pair, implies_true]

theorem State.receiversReset_frame {p : Part} (s : State) (h : p ∉ [Part.cat, .loc, .frames, .car, .dl, .lanes, .queues,
    .items]) : p.of s.receiversReset = p.of s := by
  simp only [Part.outside] at h
  simp only [State.receiversReset, ↓Part.of_update, ↓State.holdItems_frame, ↓State.setIq_frame, ↓State.abortPort_frame,
      ↓State.dropFrame_frame, Part.outside, h, not_false_eq_true, and_self, ↓Part.of_foldl, implies_true, IsEmpty.forall_iff]

theorem State.standbyEntered_frame {p : Part} (s : State) (h : p ∉ [Part.cat, .pins, .pw, .hif, .loc, .frames, .car, .dl, .lanes, .lines,
    .queues, .memory, .items]) : p.of s.standbyEntered = p.of s := by
  simp only [Part.outside] at h
  simp only [State.standbyEntered, ↓Part.of_ite, ↓Part.of_set, ↓State.raise_frame, ↓State.receiversReset_frame, ↓State.assertSafe_frame,
      ↓State.set_frame, ↓State.bankOff_frame, Part.outside, h, not_false_eq_true, and_self, ite_self, ne_eq, ↓Part.of_foldl, implies_true]

theorem State.setDown_frame {p : Part} (s : State) (r : CapReq) (cause : Nat) (h : p ∉ [Part.free, .cat, .pins, .pw, .hif, .sessions,
    .cask, .gate, .pat, .loc, .frames, .cascades, .cascadeOut, .dl, .queues, .logs, .items,
    .records]) : p.of (s.setDown r cause) = p.of s := by
  simp only [Part.outside] at h
  simp only [State.setDown, ↓State.capExec_frame, ↓State.powerFail_frame, Part.outside, h, not_false_eq_true, and_self, ite_self,
      ↓Part.of_ite_snd, ↓Part.of_pair, implies_true]

/-! ### Boot -/

theorem State.writeModule_frame {p : Part} (s : State) (hash : Nat) (h : p ∉ [Part.cask, .hall,
    .anchors]) : p.of (s.writeModule hash) = p.of s := by
  simp only [Part.outside] at h
  simp only [State.writeModule, ↓Part.of_update, ↓State.commit_frame, Part.outside, h, not_false_eq_true, and_self, implies_true,
      true_and, IsEmpty.forall_iff]

theorem State.firmwareSubmit_frame {p : Part} (s : State) (r : CapReq) (e : Epmeir) (f : FirmwareArg) (h : p ∉ [Part.free, .cat, .hif,
    .sessions, .cask, .fw, .hall, .anchors]) : p.of (s.firmwareSubmit r e f) = p.of s := by
  simp only [Part.outside] at h
  unfold State.firmwareSubmit
  refine State.capRun_frame _ _ _ _ _ _ _ (by simp only [Part.outside, h, not_false_eq_true, and_self]) fun a b => ?_
  split <;> simp only [↓Part.of_ite, ↓Part.of_set, ↓State.writeModule_frame, ↓State.mediaGate_frame, Part.outside, h, not_false_eq_true,
      and_self, ite_self, ne_eq, ↓Part.of_ite_snd, ↓Part.of_pair]

/-! ### MemoryRows -/

theorem State.aliasWrite_frame {p : Part} (s : State) (portB clear : Bool) (addr : Nat) (data : Line) (enables : BitVec 16) (other :
    Option (Nat × Line × BitVec 16)) (h : p ∉ [Part.free, .cat, .lines,
    .memory]) : p.of (s.aliasWrite portB clear addr data enables other) = p.of s := by
  simp only [Part.outside] at h
  unfold State.aliasWrite
  (repeat' split) <;> simp only [↓State.access_frame, ↓State.bump_frame, Part.outside, h, not_false_eq_true, and_self]

theorem State.scrub_frame {p : Part} (s : State) (addr : Nat) (corrected : Line) (portWrote : Option Line) (h : p ∉ [Part.free, .cat,
    .lines]) : p.of (s.scrub addr corrected portWrote) = p.of s := by
  simp only [Part.outside] at h
  unfold State.scrub
  split <;> simp only [↓Part.of_ite, ↓State.setLine_frame, ↓State.bump_frame, Part.outside, h, not_false_eq_true, and_self, ite_self]

theorem State.poisonRead_frame {p : Part} (s : State) (addr : Nat) (committed : Bool) (frames : List Nat) (h : p ∉ [Part.free, .cat,
    .stores, .bat, .pins, .pw, .hif, .cask, .gate, .pat, .loc, .frames, .cascades, .cascadeOut, .dl, .nandProg, .lines, .queues, .logs,
    .anchors, .user, .uplinks, .recs, .hash, .blobs, .bills, .spans, .nodes, .ingest, .forward, .withheld, .items, .series,
    .records]) : p.of (s.poisonRead addr committed frames) = p.of s := by
  simp only [Part.outside] at h
  simp only [State.poisonRead, ↓Part.of_ite, ↓Part.of_setMem, ↓State.bump_frame, ↓State.logDiagFree_frame, ↓State.discardWhole_frame,
      ↓State.faultRestart_frame, Part.outside, h, not_false_eq_true, and_self, ite_self, ne_eq, ↓Part.of_foldl, implies_true]

theorem State.addressFault_frame {p : Part} (s : State) (addr requester : Nat) (h : p ∉ [Part.free,
    .cat]) : p.of (s.addressFault addr requester) = p.of s := by
  simp only [Part.outside] at h
  simp only [State.addressFault, ↓Part.of_ite, ↓State.bump_frame, Part.outside, h, not_false_eq_true, and_self, ite_self]

theorem State.loseItem_frame {p : Part} (s : State) (q : Nat) (x : Line) (h : p ∉ [Part.free, .cat, .loc, .frames, .cascades,
    .cascadeOut, .dl, .queues, .items, .records]) : p.of (s.loseItem q x) = p.of s := by
  simp only [Part.outside] at h
  unfold State.loseItem
  (repeat' split) <;> simp only [↓State.discardWhole_frame, ↓State.bump_frame, ↓State.missResponse_frame, Part.outside, h,
      not_false_eq_true, and_self]

theorem State.poisonItem_frame {p : Part} (s : State) (q : Nat) (x : Line) (h : p ∉ [Part.free, .cat, .stores, .bat, .pins, .pw, .hif,
    .cask, .gate, .pat, .loc, .frames, .cascades, .cascadeOut, .dl, .upHold, .nandProg, .queues, .logs, .anchors, .user, .uplinks, .recs,
    .hash, .blobs, .bills, .spans, .nodes, .ingest, .forward, .withheld, .items, .series,
    .records]) : p.of (s.poisonItem q x) = p.of s := by
  simp only [Part.outside] at h
  simp only [State.poisonItem, ↓Part.of_ite, ↓State.bump_frame, ↓State.modQueue_frame, ↓State.loseItem_frame, ↓State.logDiagFree_frame,
      ↓State.dangerous_frame, ↓State.faultRestart_frame, Part.outside, h, not_false_eq_true, and_self, ite_self]

theorem State.seesawPop_frame {p : Part} (s : State) (q error : Nat) (h : p ∉ [Part.free, .cat, .stores, .bat, .pins, .pw, .hif, .cask,
    .gate, .pat, .loc, .frames, .cascades, .cascadeOut, .dl, .upHold, .nandProg, .queues, .logs, .anchors, .user, .uplinks, .recs, .hash,
    .blobs, .bills, .spans, .nodes, .ingest, .forward, .withheld, .items, .series, .records]) : p.of (s.seesawPop q error) = p.of s := by
  simp only [Part.outside] at h
  unfold State.seesawPop
  (repeat' split) <;> simp only [↓Part.of_setMem, ↓State.modQueue_frame, ↓State.poisonItem_frame, Part.outside, h, not_false_eq_true,
      and_self, ne_eq]


end Sys2Proof.Machine

namespace Sys2Proof.Machine

set_option Elab.async false
/-- Whether a command can change a part of the state: as its list in Safety.lean says, where there is one; no command changes the
queue, and of the other parts nothing is claimed. -/
def moves (c : Instr) : Part → Bool
  | .pending => false
  | .cat => c.movesCatalogue
  | .pw => c.movesPower
  | .ports => c.movesPorts
  | .sessions => c.movesSessions
  | .fw => c.movesFirmware
  | .hall => c.movesFuses
  | .pat => c.movesPatina
  | .win => c.movesWindow
  | .storms => c.movesStorms
  | .cascades => c.movesCascades
  | .car => c.movesCarousel
  | .dl => c.movesDownlink
  | .lanes => c.movesLanes
  | .votes => c.movesVotes
  | .counter => c.movesCounter
  | .increment => c.movesIncrement
  | .lines => c.movesLines
  | .queues => c.movesQueues
  | .anchors => c.movesAnchors
  | .user => c.movesUnits
  | .hash => c.movesHash
  | .blobs => c.movesBlobs
  | .spans => c.movesSpans
  | .nodes => c.movesNodes
  | .forward => c.movesForward
  | .withheld => c.movesWithheld
  | _ => true

/-- A command has an effect, and every part that it cannot change is as it was. -/
def Framed (c : Instr) (s : State) : Prop := ∃ t, exec c s = .next t ∧ ∀ p, moves c p = false → p.of t = p.of s

/-- A command whose effect leaves all parts but some, which it is listed for, is framed. -/
theorem framed {c : Instr} {s t : State} {l : List Part} (e : exec c s = .next t) (k : ∀ {p : Part}, p ∉ l → p.of t = p.of s)
    (hl : l.all (moves c) = true) : Framed c s := by
  refine ⟨t, e, fun p h => k fun m => ?_⟩
  rw [List.all_eq_true] at hl
  exact absurd (hl p m) (by simp only [h, Bool.false_eq_true, not_false_eq_true])

theorem execVbatLow_frame {p : Part} (s : State) (h : p ∉ [Part.pins]) :
    ∀ t, execVbatLow s = .next t → p.of t = p.of s := by
  rintro t ⟨⟩
  simp only [Part.outside] at h
  simp only [↓Part.of_ite, ↓Part.of_set, h, ite_self, ne_eq, not_false_eq_true]

theorem execStageItem_frame {p : Part} (r : CapReq) (a : ItemArg) (s : State) (h : p ∉ [Part.free, .cat, .hif, .sessions, .cask, .parked,
    .logs, .recs, .items, .series]) :
    ∀ t, execStageItem r a s = .next t → p.of t = p.of s := by
  rintro t ⟨⟩
  exact s.capOrdered_frame _ _ _ _ _ (by simp only [Part.outside] at h ⊢; simp only [h, not_false_eq_true,
      and_self]) fun a t => t.stageBody_frame _ _ (by simp only [Part.outside] at h ⊢; simp only [h, not_false_eq_true, and_self])

theorem execDeferredRule_frame {p : Part} (tag channel rule intervalEnd : Nat) (s : State) (h : p ∉ [Part.free, .cat, .stores, .bat,
    .hif, .cask, .gate, .freeze, .upHold, .logs, .uplinks, .recs, .bills, .items, .series, .records]) :
    ∀ t, execDeferredRule tag channel rule intervalEnd s = .next t → p.of t = p.of s := by
  rintro t ⟨⟩
  split
  · exact s.deferredWork_frame tag channel rule intervalEnd h
  · rfl

theorem execServoOwnerChange_frame {p : Part} (r : CapReq) (owner : Nat) (s : State) (h : p ∉ [Part.free, .cat, .stores, .bat, .hif,
    .sessions, .cask, .hall, .freeze, .logs, .records]) :
    ∀ t, execServoOwnerChange r owner s = .next t → p.of t = p.of s := by
  rintro t ⟨⟩
  exact s.capWrite_frame _ _ _ _ _ h

theorem execTaiUtcOffsetWrite_frame {p : Part} (r : CapReq) (offset : Int) (s : State) (h : p ∉ [Part.free, .cat, .stores, .bat, .hif,
    .sessions, .cask, .hall, .freeze, .logs, .records]) :
    ∀ t, execTaiUtcOffsetWrite r offset s = .next t → p.of t = p.of s := by
  rintro t ⟨⟩
  exact s.capWrite_frame _ _ _ _ _ h

theorem execPcieLinkUp_frame {p : Part} (gen width : Nat) (s : State) (h : p ∉ [Part.cat, .hif, .sessions]) :
    ∀ t, execPcieLinkUp gen width s = .next t → p.of t = p.of s := by
  rintro t ⟨⟩
  split
  · exact s.pcieUp_frame gen width h
  · rfl

theorem execBar0BadAccess_frame {p : Part} (read : Bool) (s : State) (h : p ∉ [Part.hif]) :
    ∀ t, execBar0BadAccess read s = .next t → p.of t = p.of s := by
  rintro t ⟨⟩
  simp only [Part.outside] at h
  simp only [↓Part.of_ite, ↓Part.of_set, h, ite_self, ne_eq, not_false_eq_true]

theorem execGcGroupWrite_frame {p : Part} (s : State) (h : p ∉ [Part.cask, .user]) :
    ∀ t, execGcGroupWrite s = .next t → p.of t = p.of s := by
  rintro t ⟨⟩
  split
  · exact s.relocGroup_frame _ h
  · rfl

theorem execBlockErase_frame {p : Part} (s : State) (h : p ∉ [Part.cask]) :
    ∀ t, execBlockErase s = .next t → p.of t = p.of s := by
  rintro t ⟨⟩
  simp only [Part.outside] at h
  split
  · simp only [↓Part.of_set, h, ne_eq, not_false_eq_true]
  · rfl

theorem execLogBounds_frame {p : Part} (r : CapReq) (log : Nat) (s : State) (h : p ∉ [Part.free, .cat, .hif, .sessions]) :
    ∀ t, execLogBounds r log s = .next t → p.of t = p.of s := by
  rintro t ⟨⟩
  refine s.capExec_frame _ _ _ h fun a t => ?_
  simp only [↓Part.of_ite_snd, ↓Part.of_pair, ite_self]

theorem execLegalFreeze_frame {p : Part} (r : CapReq) (s : State) (h : p ∉ [Part.free, .cat, .hif, .sessions, .freeze, .logs]) :
    ∀ t, execLegalFreeze r s = .next t → p.of t = p.of s := by
  rintro t ⟨⟩
  simp only [Part.outside] at h
  refine s.capExec_frame _ _ _ (by simp only [Part.outside, h, not_false_eq_true, and_self]) fun a t => ?_
  simp only [↓freezeAnswer_frame, ↓State.freezeFor_frame, Part.outside, h, not_false_eq_true, and_self]

theorem execLegalThaw_frame {p : Part} (r : CapReq) (s : State) (h : p ∉ [Part.free, .cat, .hif, .sessions, .freeze, .logs]) :
    ∀ t, execLegalThaw r s = .next t → p.of t = p.of s := by
  rintro t ⟨⟩
  simp only [Part.outside] at h
  refine s.capExec_frame _ _ _ (by simp only [Part.outside, h, not_false_eq_true, and_self]) fun a t => ?_
  simp only [↓freezeAnswer_frame, ↓State.thawFor_frame, Part.outside, h, not_false_eq_true, and_self]

theorem execBankPowerOff_frame {p : Part} (bank : Nat) (s : State) (h : p ∉ [Part.lines, .memory]) :
    ∀ t, execBankPowerOff bank s = .next t → p.of t = p.of s := by
  rintro t ⟨⟩
  split
  · exact s.bankOff_frame bank h
  · rfl

theorem execBankWake_frame {p : Part} (bank : Nat) (onAccess : Bool) (s : State) (h : p ∉ [Part.free, .cat, .memory]) :
    ∀ t, execBankWake bank onAccess s = .next t → p.of t = p.of s := by
  rintro t ⟨⟩
  split
  · exact s.wakeBank_frame bank onAccess h
  · rfl

theorem execBankClearComplete_frame {p : Part} (bank : Nat) (s : State) (h : p ∉ [Part.lines, .memory]) :
    ∀ t, execBankClearComplete bank s = .next t → p.of t = p.of s := by
  rintro t ⟨⟩
  split
  · exact s.bankClear_frame bank h
  · rfl

theorem execClaspAlarmClear_frame {p : Part} (r : CapReq) (mask : Nat) (s : State) (h : p ∉ [Part.free, .cat, .bat, .hif, .sessions]) :
    ∀ t, execClaspAlarmClear r mask s = .next t → p.of t = p.of s := by
  rintro t ⟨⟩
  simp only [Part.outside] at h
  refine s.capExec_frame _ _ _ (by simp only [Part.outside, h, not_false_eq_true, and_self]) fun a t => ?_
  simp only [↓Part.of_pair, ↓Part.of_set, h, not_false_eq_true, ne_eq]

theorem execVddSettle_frame {p : Part} (margins : List Int) (s : State) (h : p ∉ [Part.free, .cat, .stores, .pins, .hif, .pat, .upHold,
    .logs, .uplinks]) :
    ∀ t, execVddSettle margins s = .next t → p.of t = p.of s := by
  rintro t ⟨⟩
  split
  · exact s.patinaStep_frame margins h
  · rfl

theorem execUnsealMaxExpiry_frame {p : Part} (s : State) (h : p ∉ [Part.free, .cat, .stores, .bat, .hif, .cask, .freeze, .logs]) :
    ∀ t, execUnsealMaxExpiry s = .next t → p.of t = p.of s := by
  rintro t ⟨⟩
  split
  · exact s.closeSeal_frame 3 h
  · rfl

theorem execClockMonitorFault_frame {p : Part} (s : State) (h : p ∉ [Part.free, .cat, .pins, .hif, .gate, .upHold, .logs, .uplinks,
    .recs, .bills, .items]) :
    ∀ t, execClockMonitorFault s = .next t → p.of t = p.of s := by
  rintro t ⟨⟩
  split
  · exact s.dangerous_frame (GateFault.of 10 1) h
  · rfl

/-- The frame of every command: what Safety.lean does not list it for is as it was. -/
theorem exec_framed (c : Instr) (s : State) : Framed c s :=
  match c with
  | .porstNRelease b => framed rfl (s.porstRelease_frame b) rfl
  | .porstNAssert => framed rfl (s.porstAssert_frame) rfl
  | .pfiNAssert => framed rfl (s.pfiAssert_frame) rfl
  | .pwrSafeAssert => framed rfl (s.pwrSafe_frame) rfl
  | .pfiNRelease => framed rfl (s.pfiRelease_frame) rfl
  | .internalRestart b => framed rfl (s.internalRestart_frame b) rfl
  | .railsLost => framed rfl (s.railsLost_frame) rfl
  | .powerStateSetActive r => framed rfl (s.setActive_frame r) rfl
  | .powerStateSetStandby r => framed rfl (s.setStandby_frame r) rfl
  | .standbyEntered => framed rfl (s.standbyEntered_frame) rfl
  | .powerStateSetSleep r => framed rfl (s.setDown_frame r 2) rfl
  | .powerStateSetRestart r => framed rfl (s.setDown_frame r 3) rfl
  | .wakeAlarm => framed rfl (s.wakeAlarmDue_frame) rfl
  | .vbatLow => framed rfl (fun h => execVbatLow_frame s h _ rfl) rfl
  | .batteryChangeOver vio3v3Mv vbatPresent => framed rfl (s.changeOver_frame vio3v3Mv vbatPresent) rfl
  | .ddrUncorrectable frames => framed rfl (s.ddrUncorrectable_frame frames) rfl
  | .iqRetrain r port => framed rfl (s.iqRetrain_frame r port) rfl
  | .iqTrainingPass port => framed rfl (s.trainingPass_frame port) rfl
  | .iqTrainingTimeout port lanes => framed rfl (s.trainingTimeout_frame port lanes) rfl
  | .frameSlip port => framed rfl (s.portFault_frame port 1) rfl
  | .lossOfClock port => framed rfl (s.portFault_frame port 2) rfl
  | .clockRestored port => framed rfl (s.clockRestored_frame port) rfl
  | .clippedMillisecond port clipped => framed rfl (s.clippedMs_frame port clipped) rfl
  | .detection ds => framed rfl (s.detectAll_frame ds) rfl
  | .frameDelivery dem ok info => framed rfl (s.frameDelivery_frame dem ok info) rfl
  | .syncLost dem => framed rfl (s.abandon_frame dem) rfl
  | .demodMaxHold dem => framed rfl (s.maxHold_frame dem) rfl
  | .cancellationPass group decoded => framed rfl (s.cancel_frame group decoded) rfl
  | .fastPathResponse frame length airUs widthHz => framed rfl (s.compose_frame frame length airUs widthHz) rfl
  | .launchDeadline frame => framed rfl (s.launchDeadline_frame frame) rfl
  | .responseLaunch frame => framed rfl (s.launch_frame frame false) rfl
  | .lbtListenEnd port power => framed rfl (s.listenEnd_frame port power) rfl
  | .modulatorTxEnd port => framed rfl (s.txEnd_frame port) rfl
  | .pendantResponseLaunch frame => framed rfl (s.launch_frame frame true) rfl
  | .stageItem r a => framed rfl (fun h => execStageItem_frame r a s h _ rfl) rfl
  | .stageWithdraw r tag seq => framed rfl (s.stageWithdraw_frame r tag seq) rfl
  | .itemExpiry seq => framed rfl (s.itemExpiry_frame seq) rfl
  | .dutyBucketRoll => framed rfl (s.dutyRoll_frame) rfl
  | .broadcastWindow entry airUs widthHz => framed rfl (s.broadcast_frame entry airUs widthHz) rfl
  | .campaignStart r a image => framed rfl (s.campaignStart_frame r a image) rfl
  | .campaignBegin campaign => framed rfl (s.campaignBegin_frame campaign) rfl
  | .campaignEnd campaign => framed rfl (s.campaignEnd_frame campaign) rfl
  | .thermalTrip lane => framed rfl (s.thermalTrip_frame lane) rfl
  | .thermalHoldoffEnd lane => framed rfl (s.holdoffEnd_frame lane) rfl
  | .zcEdge lane atNs rising => framed rfl (s.zcEdge_frame lane atNs rising) rfl
  | .zcMissingEdge lane => framed rfl (s.zcMissing_frame lane) rfl
  | .halfCycle lane power rmsDb => framed rfl (s.halfCycle_frame lane power rmsDb) rfl
  | .plcPreambleDetection lane chain => framed rfl (s.preamble_frame lane chain) rfl
  | .chainHeaderDecode lane syncNs soft => framed rfl (s.chainHeader_frame lane syncNs soft) rfl
  | .chainBurst lane pilots before symbols => framed rfl (s.chainBurst_frame lane pilots before symbols) rfl
  | .plcFrameDelivery lane ok info p => framed rfl (s.plcDelivery_frame lane ok info p) rfl
  | .mediumIdle lane power => framed rfl (s.mediumIdle_frame lane power) rfl
  | .virtualBusyEnd lane => framed rfl (s.virtualEnd_frame lane) rfl
  | .plcFrameQueued lane t => framed rfl (s.plcQueue_frame lane t) rfl
  | .chainSlotStart lane => framed rfl (s.slotStart_frame lane) rfl
  | .standardCsmaTx lane => framed rfl (s.csmaTx_frame lane) rfl
  | .plcTxEnd lane isenseMv => framed rfl (s.plcTxEnd_frame lane isenseMv) rfl
  | .chainAckSend lane => framed rfl (s.ackSend_frame lane) rfl
  | .chainAckReceived lane => framed rfl (s.ackReceived_frame lane) rfl
  | .ackTimeout lane => framed rfl (s.ackTimeout_frame lane) rfl
  | .loadngMessage lane kind origin target next cost => framed rfl (s.loadng_frame lane kind origin target next cost) rfl
  | .eapPskBootstrap lane tag ok => framed rfl (s.bootstrap_frame lane tag ok) rfl
  | .linkQualityRead r lane short => framed rfl (s.linkQualityRead_frame r lane short) rfl
  | .tunnelledDatagram source info => framed rfl (s.tunnelled_frame source info) rfl
  | .linkLayer frame => framed rfl (s.linkLayer_frame frame) rfl
  | .unwrap frame authentic tagged => framed rfl (s.unwrapFrame_frame frame authentic tagged) rfl
  | .ingestCommit frame => framed rfl (s.ingestCommit_frame frame) rfl
  | .parse frame elements => framed rfl (s.parseFrame_frame frame elements) rfl
  | .validation frame => framed rfl (s.validate_frame frame) rfl
  | .billing frame => framed rfl (s.billFrame_frame frame) rfl
  | .scalesAdd frame => framed rfl (s.scalesAdd_frame frame) rfl
  | .resultCommit frame => framed rfl (s.resultCommit_frame frame) rfl
  | .uplinkRecord frame => framed rfl (s.uplinkRecord_frame frame) rfl
  | .uplinkBatch tenant => framed rfl (s.uplinkBatch_frame tenant) rfl
  | .batchConfirmation tenant sequence => framed rfl (s.batchConfirmation_frame tenant sequence) rfl
  | .endpointAdmit r image => framed rfl (s.endpointAdmit_frame r image) rfl
  | .endpointAdmitMove r image x => framed rfl (s.endpointAdmitMove_frame r image x) rfl
  | .endpointRemove r tag => framed rfl (s.endpointRemove_frame r tag) rfl
  | .endpointRead r tag => framed rfl (s.endpointRead_frame r tag) rfl
  | .quarantineEnd tag => framed rfl (s.quarantineEnd_frame tag) rfl
  | .taiMidnight => framed rfl (s.taiMidnight_frame) rfl
  | .cascadeSessionStart number serial keyHash => framed rfl (s.cascadeStart_frame number serial keyHash) rfl
  | .cascadeSessionLoss number => framed rfl (s.cascadeLoss_frame number) rfl
  | .forwardedFrame number sequence tag cell info => framed rfl (s.forwardedFrame_frame number sequence tag cell info) rfl
  | .ingestConfirmation sequence => framed rfl (s.ingestConfirmation_frame sequence) rfl
  | .downwardCommand broadcast target tag length payload => framed rfl (s.downward_frame broadcast target tag length payload) rfl
  | .uplinkRecordBatch number records => framed rfl (s.relay_frame number records) rfl
  | .keyUpdateSubmit r e u => framed rfl (s.keyUpdateSubmit_frame r e u) rfl
  | .rewrap tag => framed rfl (s.rewrap_frame tag) rfl
  | .rekeyMark tag => framed rfl (s.rekeyMark_frame tag) rfl
  | .keyHeldRelease sequence authentic => framed rfl (s.keyHeldRelease_frame sequence authentic) rfl
  | .attestRequest r tenant kind slot generation nonce => framed rfl (s.attestRequest_frame r tenant kind slot generation nonce) rfl
  | .maskRefresh word => framed rfl (s.maskRefresh_frame word) rfl
  | .entropyFailure => framed rfl (s.entropyFailure_frame) rfl
  | .entropyRecovered => framed rfl (s.entropyRecovered_frame) rfl
  | .zeroizeRelease => framed rfl (s.zeroizeRelease_frame) rfl
  | .guaranteeWindowStart level1 level2 => framed rfl (s.guaranteeWindow_frame level1 level2) rfl
  | .commandLatencyMiss tenant displacedBy due onTime => framed rfl (s.latencyMiss_frame tenant displacedBy due onTime) rfl
  | .stormWindowEnd concentrator cell => framed rfl (s.stormWindowEnd_frame concentrator cell) rfl
  | .deferredRule tag channel rule intervalEnd => framed rfl (fun h => execDeferredRule_frame tag channel rule intervalEnd s h _ rfl) rfl
  | .gapEstimation tag channel t0 => framed rfl (s.deferredWork_frame tag channel 64 t0) rfl
  | .profileForwardFill tag channel t0 => framed rfl (s.deferredWork_frame tag channel 65 t0) rfl
  | .tariffSetSubmit r e images => framed rfl (s.tariffSetSubmit_frame r e images) rfl
  | .billingBoundary calendar => framed rfl (s.billingBoundary_frame calendar) rfl
  | .closeSweep calendar tag => framed rfl (s.closeSweep_frame calendar tag) rfl
  | .billingRead r tag => framed rfl (s.billingRead_frame r tag) rfl
  | .snapshotRead r tag period => framed rfl (s.snapshotRead_frame r tag period) rfl
  | .topUp r tag amount sequence => framed rfl (s.topUp_frame r tag amount sequence) rfl
  | .debtSet r tag debt sequence share => framed rfl (s.debtSet_frame r tag debt sequence share) rfl
  | .lockOutSet r tag on => framed rfl (s.lockOutSet_frame r tag on) rfl
  | .switchSubmit r a => framed rfl (s.switchSubmit_frame r a) rfl
  | .emergencyAccept r tag => framed rfl (s.emergencyAccept_frame r tag) rfl
  | .emergencyOfferExpiry tag => framed rfl (s.offerExpiry_frame tag) rfl
  | .nodeWrite r a => framed rfl (s.nodeWrite_frame r a) rfl
  | .nodeRead r node => framed rfl (s.nodeRead_frame r node) rfl
  | .scoreReset r tag => framed rfl (s.scoreReset_frame r tag) rfl
  | .balanceEvaluation node => framed rfl (s.balanceEvaluation_frame node) rfl
  | .counterSecondRollover => framed rfl (s.secondRollover_frame) rfl
  | .timeStep upper => framed rfl (s.timeStep_frame upper) rfl
  | .timeIncrWrite int => framed rfl (s.incrWrite_frame int) rfl
  | .hostBeat v => framed rfl (s.hostBeat_frame v) rfl
  | .hostHeartbeatLapse => framed rfl (s.heartbeatLapse_frame) rfl
  | .snapCapture => framed rfl (s.snapCapture_frame) rfl
  | .tsqPop port => framed rfl (s.tsqPop_frame port) rfl
  | .ppsEdge => framed rfl (s.ppsEdge_frame) rfl
  | .ptpSync port offsetNs => framed rfl (s.ptpSync_frame port offsetNs) rfl
  | .ptpAnnounce port utcOffset valid => framed rfl (s.ptpAnnounce_frame port utcOffset valid) rfl
  | .lockQualified => framed rfl (s.lockQualified_frame) rfl
  | .sourceLost => framed rfl (s.sourceLost_frame) rfl
  | .holdoverLimit => framed rfl (s.holdoverLimit_frame) rfl
  | .leapInstant flag => framed rfl (s.leapInstant_frame flag) rfl
  | .rtcHourlyWrite => framed rfl (s.rtcHourly_frame) rfl
  | .timeSet r sec ns => framed rfl (s.timeSet_frame r sec ns) rfl
  | .servoOwnerChange r owner => framed rfl (fun h => execServoOwnerChange_frame r owner s h _ rfl) rfl
  | .taiUtcOffsetWrite r offset => framed rfl (fun h => execTaiUtcOffsetWrite_frame r offset s h _ rfl) rfl
  | .linkUp port autoNegotiated partnerPause => framed rfl (s.linkUp_frame port autoNegotiated partnerPause) rfl
  | .linkDown port => framed rfl (s.linkDown_frame port) rfl
  | .rxSfd port => framed rfl (s.rxSfd_frame port) rfl
  | .rxFrameEnd port f => framed rfl (s.rxEnd_frame port f) rfl
  | .rxDispatch port => framed rfl (s.rxDispatch_frame port) rfl
  | .rxStarveTimeout port => framed rfl (s.rxStarve_frame port) rfl
  | .txFrameSent port => framed rfl (s.txSent_frame port) rfl
  | .pauseReceived port quanta => framed rfl (s.pauseIn_frame port quanta) rfl
  | .pauseQuantaExpiry port => framed rfl (s.pauseExpiry_frame port) rfl
  | .pauseWatchdog port => framed rfl (s.pauseWatchdog_frame port) rfl
  | .pauseIgnoreEnd port => framed rfl (s.pauseIgnoreEnd_frame port) rfl
  | .pauseRepeat port => framed rfl (s.pauseAgain_frame port) rfl
  | .pcieLinkUp gen width => framed rfl (fun h => execPcieLinkUp_frame gen width s h _ rfl) rfl
  | .pcieLinkDown => framed rfl (s.pcieDown_frame) rfl
  | .dmaFault queue => framed rfl (s.dmaFault_frame queue) rfl
  | .hqDoorbell queue tail posted => framed rfl (s.hqDoorbell_frame queue tail.toNat posted) rfl
  | .hostQueueEnable queue ctrl => framed rfl (s.hqEnable_frame queue ctrl.toNat) rfl
  | .hostQueueDisable queue => framed rfl (s.hqDisable_frame queue) rfl
  | .drainComplete queue => framed rfl (s.drainComplete_frame queue) rfl
  | .queueDoneCoalesce queue => framed rfl (s.hqCoalesce_frame queue) rfl
  | .mailboxDoorbell length => framed rfl (s.mailboxDoorbell_frame length.toNat) rfl
  | .mailboxResponseFree => framed rfl (s.mailboxFree_frame) rfl
  | .intCauseClear v => framed rfl (s.causeClear_frame v.toNat) rfl
  | .intEnableWrite v => framed rfl (s.enableWrite_frame v.toNat) rfl
  | .logReadCmd autoIncrement media => framed rfl (s.logReadCmd_frame autoIncrement media) rfl
  | .logBoundsCmd => framed rfl (s.logBoundsCmd_frame) rfl
  | .logFreezeCmd => framed rfl (s.logFreezeCmd_frame) rfl
  | .logThawCmd => framed rfl (s.logThawCmd_frame) rfl
  | .bar0BadAccess read => framed rfl (fun h => execBar0BadAccess_frame read s h _ rfl) rfl
  | .registerWrite offset v => framed rfl (s.registerWrite_frame offset v) rfl
  | .rcRead offset => framed rfl (s.rcRead_frame offset) rfl
  | .nandProgramComplete partition units ok => framed rfl (s.programComplete_frame partition units ok) rfl
  | .garbageCollection => framed rfl (s.collect_frame) rfl
  | .gcGroupWrite => framed rfl (fun h => execGcGroupWrite_frame s h _ rfl) rfl
  | .erasePendingWrite => framed rfl (s.erasePending_frame) rfl
  | .blockErase => framed rfl (fun h => execBlockErase_frame s h _ rfl) rfl
  | .eraseComplete ok => framed rfl (s.eraseDone_frame ok) rfl
  | .readRefresh block => framed rfl (s.refresh_frame block) rfl
  | .wearLevelling => framed rfl (s.levelWear_frame) rfl
  | .checkpoint => framed rfl (s.checkpoint_frame) rfl
  | .casketRootUpdate => framed rfl (s.rootUpdate_frame) rfl
  | .archiveDiscard => framed rfl (s.archiveDiscard_frame) rfl
  | .storageRead r unit count level => framed rfl (s.storageRead_frame r unit count level) rfl
  | .storageWrite r unit count data => framed rfl (s.storageWrite_frame r unit count data) rfl
  | .storageDiscard r unit count => framed rfl (s.storageDiscard_frame r unit count) rfl
  | .storageFormat r v => framed rfl (s.storageFormat_frame r v) rfl
  | .batteryRingRead r slot => framed rfl (s.ringRead_frame r slot) rfl
  | .batteryRingAck r v => framed rfl (s.ringAck_frame r v) rfl
  | .repeatWindowEnd log => framed rfl (s.repeatWindowEnd_frame log) rfl
  | .logRead r log position media => framed rfl (s.logRead_frame r log position media) rfl
  | .logBounds r log => framed rfl (fun h => execLogBounds_frame r log s h _ rfl) rfl
  | .legalFreeze r => framed rfl (fun h => execLegalFreeze_frame r s h _ rfl) rfl
  | .legalThaw r => framed rfl (fun h => execLegalThaw_frame r s h _ rfl) rfl
  | .legalExport r first last => framed rfl (s.legalExport_frame r first last) rfl
  | .operatingTimeCopy hourly => framed rfl (s.copyTime_frame hourly) rfl
  | .bigTopAliasWrite portB clear addr data enables other => framed rfl (s.aliasWrite_frame portB clear addr data enables other) rfl
  | .bigTopScrub addr corrected portWrote => framed rfl (s.scrub_frame addr corrected portWrote) rfl
  | .bigTopUncorrectable addr committed frames => framed rfl (s.poisonRead_frame addr committed frames) rfl
  | .addressFault addr requester => framed rfl (s.addressFault_frame addr requester) rfl
  | .bankPowerOff bank => framed rfl (fun h => execBankPowerOff_frame bank s h _ rfl) rfl
  | .bankWake bank onAccess => framed rfl (fun h => execBankWake_frame bank onAccess s h _ rfl) rfl
  | .bankClearComplete bank => framed rfl (fun h => execBankClearComplete_frame bank s h _ rfl) rfl
  | .caravanUncorrectable engine => framed rfl (s.engineFails_frame engine) rfl
  | .seesawPush queue port width item => framed rfl (s.seesawPush_frame queue port width item) rfl
  | .seesawPop queue error => framed rfl (s.seesawPop_frame queue error) rfl
  | .capSessionStart session role tenant => framed rfl (s.sessionStart_frame session role tenant) rfl
  | .capSessionEnd session => framed rfl (s.sessionEnd_frame session) rfl
  | .rs485Frame frame gapOk => framed rfl (s.rsFrame_frame frame gapOk) rfl
  | .capRead r m => framed rfl (s.capRead_frame r m) rfl
  | .capWrite r m length value more => framed rfl (s.capWrite_frame r m length value more) rfl
  | .capBulkData r m length value more => framed rfl (s.capBulk_frame r m length value more) rfl
  | .capResultRead r offset => framed rfl (s.capResult_frame r offset) rfl
  | .capAbort r => framed rfl (s.capAbort_frame r) rfl
  | .bulkIdleTimeout session => framed rfl (s.bulkTimeout_frame session) rfl
  | .catalogueBundleSubmit r e entries failed => framed rfl (s.bundleSubmit_frame r e entries failed) rfl
  | .storeBankProgrammed store ok => framed rfl (s.storeProgrammed_frame store ok) rfl
  | .sealSubmit r e a burnOk => framed rfl (s.sealSubmit_frame r e a burnOk) rfl
  | .trustAnchorSubmit r e entries => framed rfl (s.anchorSubmit_frame r e entries) rfl
  | .firmwareSubmit r e f => framed rfl (s.firmwareSubmit_frame r e f) rfl
  | .firmwareEpochCommit r v => framed rfl (s.epochCommit_frame r v) rfl
  | .tamperActivation source => framed rfl (s.tamper_frame source) rfl
  | .tamperStuck source => framed rfl (s.tamperStuck_frame source) rfl
  | .tamperRelease source => framed rfl (s.tamperRelease_frame source) rfl
  | .claspAlarmClear r mask => framed rfl (fun h => execClaspAlarmClear_frame r mask s h _ rfl) rfl
  | .gateRequest sequence authTagOk digests => framed rfl (s.gateRequest_frame sequence authTagOk digests) rfl
  | .gateConfirmation stage windowTag digest => framed rfl (s.gateConfirm_frame stage windowTag digest) rfl
  | .itemReport stage outcome => framed rfl (s.itemReport_frame stage outcome) rfl
  | .lockstepMismatch pair => framed rfl (s.lockstep_frame pair) rfl
  | .ringmasterScrub pair uncorrectable => framed rfl (s.ringScrub_frame pair uncorrectable) rfl
  | .ringmasterDailyTest pair0Ok pair1Ok => framed rfl (s.dailyTest_frame pair0Ok pair1Ok) rfl
  | .gateReopen r v pair0Ok pair1Ok => framed rfl (s.gateReopen_frame r v pair0Ok pair1Ok) rfl
  | .gateProofTest r v => framed rfl (s.gateProof_frame r v) rfl
  | .engineWatchdog engine => framed rfl (s.engineFails_frame engine) rfl
  | .bistSlice signatureOk => framed rfl (s.bistSlice_frame signatureOk) rfl
  | .bistStart r target => framed rfl (s.bistStart_frame r target) rfl
  | .bistComplete result failingSet signatures => framed rfl (s.bistComplete_frame result failingSet signatures) rfl
  | .temperatureSample sensors => framed rfl (s.temperature_frame sensors) rfl
  | .patinaMeasure margins => framed rfl (s.patinaHour_frame margins) rfl
  | .vddSettle margins => framed rfl (fun h => execVddSettle_frame margins s h _ rfl) rfl
  | .patinaMeasureCmd r v margins => framed rfl (s.patinaCommand_frame r v margins) rfl
  | .patinaRecalibrate r v => framed rfl (s.patinaRecalibrate_frame r v) rfl
  | .plcThermNRelease lane => framed rfl (s.thermRelease_frame lane) rfl
  | .mediumBusy lane power => framed rfl (s.mediumBusy_frame lane power) rfl
  | .lengthFieldExceeded dem => framed rfl (s.abandon_frame dem) rfl
  | .ptpDelayResp port delayNs => framed rfl (s.ptpDelayResp_frame port delayNs) rfl
  | .ptpPdelayReq port delayNs => framed rfl (s.pdelayReq_frame port delayNs) rfl
  | .ddrPatrolScrub => framed (l := []) rfl (fun _ => rfl) rfl
  | .lqtAgeing => framed rfl (s.lqtAgeing_frame) rfl
  | .drbgReseed => framed rfl (s.drbgReseed_frame) rfl
  | .freezeMaxExpiry => framed rfl (s.freezeExpiry_frame) rfl
  | .sealNAssert => framed rfl (s.sealAssert_frame) rfl
  | .sealNRelease => framed rfl (s.sealRelease_frame) rfl
  | .unsealMaxExpiry => framed rfl (fun h => execUnsealMaxExpiry_frame s h _ rfl) rfl
  | .fanoutTimerExpiry => framed rfl (s.fanoutTimer_frame) rfl
  | .clockMonitorFault => framed rfl (fun h => execClockMonitorFault_frame s h _ rfl) rfl
  | .jugglerRotationTest => framed rfl (s.rotationTest_frame) rfl
  | .governorEvaluation => framed rfl (s.governor_frame) rfl
  | .thermalAlarmClear => framed rfl (s.alarmClear_frame) rfl
end Sys2Proof.Machine

namespace Sys2Proof.Machine

set_option Elab.async false

/-- Every command has an effect, and what it does not move stands in the state that follows. -/
theorem exec_keeps {c : Instr} {s t : State} (e : exec c s = .next t) (p : Part) (h : moves c p = false) : p.of t = p.of s := by
  obtain ⟨u, e', keeps⟩ := exec_framed c s
  cases Host.Outcome.next.inj (e'.symm.trans e)
  exact keeps p h

/-- Settles O56: the queue is a part that no command moves. -/
theorem queueKept : Obligations.QueueKept := fun c s =>
  let ⟨t, e, keeps⟩ := exec_framed c s
  ⟨t, e, keeps .pending rfl⟩

/-- Settles O52, from the frame of every command. -/
theorem frameOfTimeAndPower : Obligations.FrameOfTimeAndPower := by
  intro c s t e
  have keeps := exec_keeps e
  refine ⟨fun h => ?_, fun h => ?_, keeps .pw, keeps .hall, keeps .fw, keeps .pat⟩
  · simpa [Part.of] using keeps .counter h
  · obtain ⟨incr, frac, int, clamped⟩ : _ ∧ _ ∧ _ ∧ _ := by simpa [Part.of] using keeps .increment h
    exact ⟨incr, clamped, frac, int⟩

/-- Settles O53, from the frame of every command. -/
theorem frameOfStorage : Obligations.FrameOfStorage := by
  intro c s t e
  have keeps := exec_keeps e
  refine ⟨fun h => ?_, keeps .user, keeps .blobs, keeps .hash, keeps .nodes, keeps .forward, keeps .spans, keeps .withheld⟩
  simpa [Part.of] using keeps .anchors h

/-- Settles O54, from the frame of every command. -/
theorem frameOfEngines : Obligations.FrameOfEngines := by
  intro c s t e
  have keeps := exec_keeps e
  refine ⟨keeps .car, keeps .dl, keeps .lanes, keeps .ports, fun h => ?_, keeps .queues, keeps .votes, keeps .win, keeps .storms,
    keeps .cascades, keeps .cat, keeps .sessions⟩
  simpa [Part.of] using keeps .lines h

/-- Settles O55: the step looks at the queue and nothing else decides. -/
theorem stepTakesFront : Obligations.StepTakesFront := by
  intro c rest s waiting
  simp only [step, waiting]

/-- Settles O58, by evaluating the part at reset. -/
theorem soundAtReset : Obligations.SoundAtReset := by
  unfold Obligations.SoundAtReset
  decide

end Sys2Proof.Machine

namespace Sys2Proof.Machine

set_option Elab.async false

/-! ## What every step keeps (R246, R247)

A command that moves neither the counter nor the increment nor the lines of Big Top keeps both by its frame. What follows are the
operations that move one of them. -/

/-- Whether soundness does not speak of a part. -/
def Part.incidental : Part → Bool
  | .counter | .increment | .lines => false
  | _ => true

/-- The three parts that it speaks of. -/
theorem Part.of_not_incidental {p : Part} (h : p.incidental = false) : p = .counter ∨ p = .increment ∨ p = .lines := by
  cases p <;> simp [Part.incidental] at h ⊢

/-- Soundness speaks of the counter, the increment and the lines alone. -/
theorem State.Sound.of_parts {s t : State} (h : s.Sound) (keeps : ∀ p : Part, p.incidental = false → p.of t = p.of s) : t.Sound := by
  obtain ⟨⟨ns, frac, sec, lo, hi⟩, wf⟩ := h
  have counter := keeps .counter rfl
  have increment := keeps .increment rfl
  have lines := keeps .lines rfl
  simp only [Part.of, Prod.mk.injEq] at counter increment lines
  obtain ⟨sec', ns', frac'⟩ := counter
  exact ⟨⟨ns' ▸ ns, frac' ▸ frac, sec' ▸ sec, increment.1 ▸ lo, increment.1 ▸ hi⟩, (Memory.wf_congr lines.1).trans wf⟩

/-- What leaves the counter, the increment and the lines keeps both. -/
theorem State.Sound.frame {s t : State} {l : List Part} (h : s.Sound) (k : ∀ {p : Part}, p ∉ l → p.of t = p.of s)
    (hl : l.all Part.incidental = true := by rfl) : t.Sound :=
  h.of_parts fun p hp => k fun m => by simp [List.all_eq_true.1 hl p m] at hp

/-- A change of none of the values it speaks of keeps both. -/
theorem State.Sound.of_eq {s t : State} (h : s.Sound) (sec : t.time.sec = s.time.sec := by rfl) (ns : t.time.ns = s.time.ns := by rfl)
    (frac : t.time.frac = s.time.frac := by rfl) (incr : t.time.incr = s.time.incr := by rfl)
    (lines : t.mem.lines = s.mem.lines := by rfl) : t.Sound := by
  rw [State.Sound, Calliope.ok, sec, ns, frac, incr, Memory.wf_congr lines]
  exact h

/-- A choice between two sound states is sound. -/
theorem State.Sound.ite {c : Prop} [Decidable c] {s t : State} (h : s.Sound) (k : t.Sound) : (if c then s else t).Sound := by
  split
  · exact h
  · exact k

/-- A fold of what keeps soundness keeps it. -/
theorem State.Sound.foldl {α : Type} {f : State → α → State} (k : ∀ s a, s.Sound → (f s a).Sound) (l : List α) {s : State}
    (h : s.Sound) : (l.foldl f s).Sound :=
  List.foldlRecOn l f h fun t ht a _ => k t a ht

/-- A CAP request keeps soundness when what it carries out does. -/
theorem State.Sound.capExec {s : State} (h : s.Sound) (r : CapReq) (k : Nat) {body : Session → State → CapOut × State}
    (hb : ∀ ses t, t.Sound → (body ses t).2.Sound) : (s.capExec r k body).Sound := by
  unfold State.capExec State.capRun
  split
  · exact h
  · dsimp only
    refine .ite h ?_
    have bumped : (s.bump Obj.capRequests).Sound := h.frame (s.bump_frame _)
    split
    · exact .frame (by exact bumped) (State.respond_frame _ _ _ _)
    · split
      · exact .frame (by exact bumped) (State.respond_frame _ _ _ _)
      · refine .ite (.frame (by exact bumped) (State.respond_frame _ _ _ _)) ?_
        exact .frame (by exact hb _ _ bumped) (State.respond_frame _ _ _ _)

/-- A write to the mounted store keeps soundness when what it carries out does. -/
theorem State.Sound.mediaGate {s : State} (h : s.Sound) {body : State → CapOut × State} (hb : (body s).2.Sound) :
    (s.mediaGate body).2.Sound := by
  unfold State.mediaGate
  split
  · exact hb
  · exact h.frame (s.bump_frame _)

/-! ### The increment -/

/-- What is loaded is within the limits. -/
theorem incrClamp_within (v : Nat) : incrMin ≤ incrClamp v ∧ incrClamp v ≤ incrMax := by
  have limits : incrMin ≤ incrMax := by decide
  unfold incrClamp
  split
  · exact ⟨le_refl _, limits⟩
  · split <;> omega

theorem State.Sound.loadIncr {s : State} (h : s.Sound) (v : Nat) : (s.loadIncr v).Sound := by
  obtain ⟨⟨ns, frac, sec, -⟩, wf⟩ := h
  exact ⟨⟨ns, frac, sec, incrClamp_within v⟩, wf⟩

theorem State.Sound.incrWrite {s : State} (h : s.Sound) (int : Word) : (s.incrWrite int).Sound := .ite h (h.loadIncr _)

/-! ### The billing clock -/

theorem State.Sound.putClock {s : State} (h : s.Sound) (status : Nat) : (s.putClock status).Sound := h.frame (s.putClock_frame status)

theorem State.Sound.enterHoldover {s : State} (h : s.Sound) : s.enterHoldover.Sound := by
  unfold State.enterHoldover
  exact .ite (.loadIncr h _) h

theorem State.Sound.clockEntered {s : State} (h : s.Sound) (new : Nat) : (s.clockEntered new).Sound := by
  have held : (if new = 1 then s.enterHoldover else s).Sound := .ite h.enterHoldover h
  exact .ite (held.frame (State.openSpan_frame _)) (.ite (held.frame (State.closeSpan_frame _)) held)

theorem State.Sound.setClock {s : State} (h : s.Sound) (new cause : Nat) : (s.setClock new cause).Sound := by
  refine .ite h (.frame (.clockEntered ?_ new) (State.releaseAll_frame _))
  exact (h.putClock new).frame (State.logOp_frame _ _ _ _)

theorem State.Sound.billingStep {s : State} (h : s.Sound) (t1 t2 : Int) : (s.billingStep t1 t2).Sound := by
  unfold State.billingStep
  extract_lets s1 s2
  have first : s1.Sound := (h.frame (s.bump_frame _)).frame (State.logLegal_frame _ _ _ _)
  have second : s2.Sound := .foldl (fun t e ht => .ite (ht.frame (t.logLegal_frame _ _ _)) ht) _ first
  exact .ite (second.setClock 3 2) second

/-- The whole seconds and the rest of an instant below 2^48 s. -/
theorem instant_within {n : Nat} (h : n < 2 ^ 48 * nsPerS) : n / nsPerS < 2 ^ 48 ∧ n % nsPerS < nsPerS := by
  simp only [nsPerS] at *
  omega

/-- The whole nanoseconds and the fraction of a part of a second. -/
theorem subsecond_within (n : Nat) :
    n % (nsPerS * fracPerNs) / fracPerNs < nsPerS ∧ n % (nsPerS * fracPerNs) % fracPerNs < fracPerNs := by
  simp only [nsPerS, fracPerNs]
  omega

/-- A real-time clock's fraction of a second in nanoseconds. -/
theorem rtc_within (n : Nat) : n / 32768 % 2 ^ 48 < 2 ^ 48 ∧ n % 32768 * nsPerS / 32768 < nsPerS := by
  simp only [nsPerS]
  omega

/-- A step whose result is no instant of the counter is not added. -/
theorem State.Sound.stepCounter {s : State} (h : s.Sound) (d : Int) : (s.stepCounter d).Sound := by
  unfold State.stepCounter
  extract_lets new t1 lag s1 _ s2 s3
  split
  · exact h.frame (s.bump_frame _)
  · next within =>
    have stepped : s2.Sound := by
      obtain ⟨⟨-, frac, -, incr⟩, wf⟩ : s1.Sound := h.frame (s.bump_frame _)
      obtain ⟨sec, ns⟩ := instant_within (n := new.toNat) (by omega)
      exact ⟨⟨ns, frac, sec, incr⟩, wf⟩
    exact .ite stepped.of_eq (.billingStep stepped.of_eq _ _)

theorem State.Sound.reselect {s : State} (h : s.Sound) : s.reselect.Sound := by
  unfold State.reselect
  extract_lets old b lost _ s1
  have selected : s1.Sound := .frame (s := { s with time.lockSince := none }) h (State.set_frame _ _ _)
  exact .ite h (.ite (selected.setClock 1 1) selected)

theorem State.Sound.evaluate {s : State} (h : s.Sound) : s.evaluate.Sound := by
  unfold State.evaluate
  split
  · exact .ite (h.setClock 0 1) h
  · exact h

theorem State.Sound.servo {s : State} (h : s.Sound) (offset : Int) : (s.servo offset).Sound := by
  unfold State.servo
  extract_lets s1 before m _ s2 stepped s3 s4
  have noted : s1.Sound := h.frame (s.set_frame _ _)
  have unlocked : s2.Sound := .ite noted noted
  have steered : s3.Sound := .ite (unlocked.stepCounter _) (.loadIncr (unlocked.frame s2.draw_frame) _)
  have judged : s4.Sound := .ite (steered.setClock 1 1) steered
  exact .ite steered (.evaluate (judged.frame (s4.measure_frame _)))

theorem State.Sound.lostSource {s : State} (h : s.Sound) : s.lostSource.Sound := by
  have again : ({ s with time.lockSince := none } : State).reselect.Sound := .reselect (s := { s with time.lockSince := none }) h
  exact .ite (again.setClock 1 1) again

theorem State.Sound.ptpSync {s : State} (h : s.Sound) (port : Nat) (offset : Int) : (s.ptpSync port offset).Sound := by
  unfold State.ptpSync
  extract_lets n _ s1 s2
  have counted : s2.Sound := .reselect (.frame (s := s1) h (State.modPtp_frame _ _ _))
  exact .ite h (.ite (counted.servo _) counted)

theorem State.Sound.ppsEdge {s : State} (h : s.Sound) : s.ppsEdge.Sound := by
  unfold State.ppsEdge
  extract_lets now first off ok was _ s1 _ s2 r s3
  have edged : s2.Sound := .reselect (s := { s1 with time.ppsEdges := _ }) h
  have ignored : s3.Sound := .frame (s := { s1 with time.ppsEdges := 0 }) h (State.bump_frame _ _)
  exact .ite h (.ite h (.ite (.ite (edged.servo _) edged) (.ite ignored.lostSource ignored)))

theorem State.Sound.ptpAnnounce {s : State} (h : s.Sound) (port : Nat) (off : Int) (valid : Bool) :
    (s.ptpAnnounce port off valid).Sound := by
  unfold State.ptpAnnounce
  extract_lets _ s1 mine
  have known : s1.Sound := .reselect (s := { s with time.secondsKnown := true }) h
  refine .ite h (.ite known (.ite (.evaluate ?_) (.ite ?_ known)))
  · exact (known.frame (s1.setPaired_frame _ _)).frame (State.logOp_frame _ _ _ _)
  · exact (known.frame (s1.bump_frame _)).frame (State.logOp_frame _ _ _ _)

theorem State.Sound.sourceLost {s : State} (h : s.Sound) : s.sourceLost.Sound := by
  unfold State.sourceLost
  extract_lets c _ s1
  exact .ite h (.lostSource (.ite h (.ite h (h.frame (s.modPtp_frame _ _)))))

theorem State.Sound.hostBeat {s : State} (h : s.Sound) (v : Word) : (s.hostBeat v).Sound := by
  unfold State.hostBeat
  extract_lets claim _ s1 _ s2
  have beaten : s1.Sound := .reselect (s := { s with time.beatBit := claim, time.beatAt := some s.now }) h
  exact .ite h (.ite (.evaluate (s := { s1 with time.lockSince := _ }) beaten)
    (.ite (.setClock (s := s2) beaten 1 1) beaten))

theorem State.Sound.heartbeatLapse {s : State} (h : s.Sound) : s.heartbeatLapse.Sound := by
  unfold State.heartbeatLapse
  split
  · exact .ite (.loadIncr (.lostSource (s := { s with time.beatAt := none }) h) _) h
  · exact h

theorem State.Sound.ownerChanged {s : State} (h : s.Sound) : s.ownerChanged.Sound := by
  unfold State.ownerChanged
  extract_lets old _ s1 now _ s2
  have again : s1.Sound := .reselect (s := { s with time.lockSince := none, time.beatAt := none }) h
  have held : s2.Sound := .ite (.putClock (s := { s1 with time.holdoverSince := now }) again 1) again
  exact held.frame (s2.logOp_frame _ _ _)

/-! ### The counter -/

theorem State.Sound.takeStep {s : State} (h : s.Sound) : s.takeStep.Sound := by
  unfold State.takeStep
  split
  · exact .evaluate (.stepCounter (s := { s with time.step := none }) h _)
  · exact h

theorem State.Sound.setBattery {s : State} (h : s.Sound) (v : Battery) : ({ s with bat := v } : State).Sound := h

theorem State.Sound.setLocked {s : State} (h : s.Sound) (l : List (Nat × Nat)) : ({ s with time.locked := l } : State).Sound := h

/-- The counter set within its bounds. -/
theorem State.Sound.setCounter {s : State} (h : s.Sound) {lag : Int} {sec ns frac short qtr subMs : Nat} (hsec : sec < 2 ^ 48)
    (hns : ns < nsPerS) (hfrac : frac < fracPerNs) :
    ({ s with time.lag := lag, time.sec := sec, time.ns := ns, time.frac := frac, time.short := short, time.qtr := qtr,
              time.subMs := subMs } : State).Sound :=
  ⟨⟨hns, hfrac, hsec, h.1.2.2.2⟩, h.2⟩

/-- Cycles of the TIME domain carry the fraction into the nanoseconds, these into the seconds, and the seconds wrap at 48 bits. -/
theorem State.Sound.count {s : State} (h : s.Sound) (n : Nat) : (s.count n).Sound := by
  unfold State.count
  extract_lets ph _ s1 t sec u q m ppm _ s2 _ s3
  have waited : s1.Sound := h.setBattery _
  have locked : s2.Sound := .ite (waited.setLocked _) waited
  obtain ⟨ns, frac⟩ := subsecond_within t
  have counted : s3.Sound := locked.setCounter (Nat.mod_lt _ (by norm_num)) ns frac
  exact .ite waited (.ite counted (counted.frame (s3.set_frame _ _)))

theorem State.Sound.pass {s : State} (h : s.Sound) (n : Nat) : (s.pass n).Sound := .count (.ite h.takeStep h) n

theorem State.Sound.secondRollover {s : State} (h : s.Sound) : s.secondRollover.Sound := .ite (h.takeStep.count _) h

theorem State.Sound.offsetWritten {s : State} (h : s.Sound) (old new : Int) : (s.offsetWritten old new).Sound := by
  unfold State.offsetWritten
  extract_lets d s1 shift ring _ s2
  have advanced : s1.Sound := h.frame s.advanceAll_frame
  exact .billingStep (s := s2) advanced.of_eq _ _

/-- The time a start takes from the real-time clock is an instant of the counter. -/
theorem State.Sound.startTime {s : State} (h : s.Sound) : s.startTime.Sound := by
  unfold State.startTime
  extract_lets _ s1 new s2 s3
  have taken : s1.Sound := by
    refine .ite (.frame ?_ (State.set_frame _ _ _)) (h.frame (s.set_frame _ _))
    obtain ⟨⟨-, frac, -, incr⟩, wf⟩ := h
    obtain ⟨sec, ns⟩ := rtc_within s.bat.rtc
    exact ⟨⟨ns, frac, sec, incr⟩, wf⟩
  have due : s2.Sound := taken.frame s1.leapDue_frame
  have spanned : s3.Sound := .ite (due.frame s2.openSpan_frame) due
  exact .ite spanned ((spanned.putClock new).frame (State.logOp_frame _ _ _ _))

theorem State.Sound.timeStep {s : State} (h : s.Sound) (upper : Word) : (s.timeStep upper).Sound := by
  have taken : s.takeStep.Sound := h.takeStep
  unfold State.timeStep
  dsimp only
  generalize s.takeStep = u at taken
  exact .ite h taken.of_eq

theorem State.Sound.setSecondsKnown {s : State} (h : s.Sound) : ({ s with time.secondsKnown := true } : State).Sound := h

theorem State.Sound.timeSet {s : State} (h : s.Sound) (r : CapReq) (sec ns : Nat) : (s.timeSet r sec ns).Sound := by
  refine h.capExec r _ fun _ s h => ?_
  dsimp only
  split
  · exact h
  · split
    · exact h
    · exact (State.Sound.setSecondsKnown (((h.stepCounter _).frame (State.logLegal_frame _ _ _ _)).frame
        (State.writeRtc_frame _))).reselect.evaluate

theorem State.Sound.timeCtrlWrite {s : State} (h : s.Sound) (v : Nat) : (s.timeCtrlWrite v).Sound := by
  unfold State.timeCtrlWrite
  extract_lets s1 _
  have captured : s1.Sound := .ite (h.frame s.snapCapture_frame) h
  exact .ite captured captured

theorem State.Sound.timeWrite {s : State} (h : s.Sound) (off : Nat) (v : Word) : (s.timeWrite off v).Sound := by
  unfold State.timeWrite
  extract_lets host
  split
  · exact h.timeCtrlWrite _
  · exact .ite h h
  · exact h.incrWrite _
  · exact .ite h h
  · exact h.timeStep _
  · exact h.hostBeat _
  · exact .ite h h

theorem State.Sound.registerWrite {s : State} (h : s.Sound) (off : Nat) (v : Word) : (s.registerWrite off v).Sound := by
  unfold State.registerWrite
  extract_lets w r
  refine .ite (h.frame (s.seesawWrite_frame _ _)) (.ite h (.ite (h.frame (s.hqWrite_frame _ _ _)) (.ite (h.timeWrite _ _)
    (.ite (h.frame (s.logWrite_frame _ _)) (.ite (h.frame (s.msixWrite_frame _ _)) (.ite h
      (.ite (h.frame (s.hqTailWrite_frame _ _)) ?_)))))))
  split
  · exact h
  · exact h.frame (s.causeClear_frame _)
  · exact h.frame (s.enableWrite_frame _)
  · exact h.frame (s.mailboxDoorbell_frame _)
  · exact .ite (h.frame s.mailboxFree_frame) h
  · exact h

/-! ### Writes of the catalogue that take effect -/

theorem State.Sound.landedTime {s : State} (h : s.Sound) (k : Nat) (old new : Int) : (s.landedTime k old new).Sound :=
  .ite h.ownerChanged (.ite (.ite (h.offsetWritten _ _) h.evaluate) (.ite (h.frame (s.setPaired_frame _ _)) (.ite h.reselect h)))

theorem State.Sound.landed {s : State} (h : s.Sound) (k : Nat) (old new : Int) : (s.landed k old new).Sound :=
  .ite (h.frame (s.logLegal_frame _ _ _)) (.ite h (.ite (.foldl (fun t n ht => ht.frame (t.closeCell_frame n)) _ h)
    (.ite (h.frame s.clockChange_frame) (.ite (h.landedTime _ _ _) (.ite (h.frame (s.landedRadio_frame _ _ _))
      (.ite (h.frame (s.landedLine_frame _ _ _)) (.ite (h.frame (s.landedNet_frame _ _ _)) (h.frame (s.landedClasp_frame _ _)))))))))

theorem State.Sound.landWrite {s : State} (h : s.Sound) (w : Waiter) : (s.landWrite w).Sound := by
  unfold State.landWrite
  extract_lets old _ s1
  have counted : s1.Sound := .ite h h
  exact .frame (.landed (counted.frame (s1.set_frame _ _)) _ _ _) (State.answer_frame _ _ _)

theorem State.Sound.storeProgrammed {s : State} (h : s.Sound) (n : Nat) (ok : Bool) : (s.storeProgrammed n ok).Sound := by
  unfold State.storeProgrammed
  split
  · exact h
  · next p _ =>
    extract_lets stopped good bad q s1 s2 s3
    have counted : s1.Sound := .frame (by exact h) (State.bump_frame _ _)
    have refused : s3.Sound := .frame (by exact h) (State.logOpFree_frame _ _ _)
    have landed : s2.Sound := .foldl (fun t w ht => ht.landWrite w) good counted
    exact .ite h (.ite (.foldl (fun t e ht => ht.frame (t.answer_frame _ _)) bad landed)
      (.ite h (.ite h (.foldl (fun t w ht => ht.frame (t.answer_frame _ _)) _ refused))))

theorem State.Sound.bundleApply {s : State} (h : s.Sound) (counter : Nat) (l : List (Nat × ObjRow × Int)) :
    (s.bundleApply counter l).Sound := by
  unfold State.bundleApply
  extract_lets paired olds rws _ s1 s2
  have committed : s1.Sound := .frame (by exact h) (State.commitPaired_frame _ _)
  have landed : s2.Sound := .foldl (fun t e ht => ht.landed _ _ _) _ committed
  exact .foldl (fun t e ht => ht.frame (t.sealedWrite_frame _ _)) _ landed

theorem State.Sound.bundleSubmit {s : State} (h : s.Sound) (r : CapReq) (e : Epmeir) (entries : List BundleEntry)
    (failed : Option Nat) : (s.bundleSubmit r e entries failed).Sound := by
  refine h.capExec r _ fun _ s h => ?_
  split
  · exact h
  · split
    · exact h
    · split
      · exact h
      · split
        · exact h
        · split
          · exact h
          · extract_lets act
            have acted : (act s).2.Sound := by
              unfold act
              split
              · exact h.frame (s.bundleFails_frame _ _)
              · exact h.bundleApply _ _
            split
            · exact h.mediaGate acted
            · exact acted

/-! ### The lines of Big Top -/

theorem State.Sound.setLine {s : State} (h : s.Sound) (n : Nat) (v : Line) : (s.setLine n v).Sound := ⟨h.1, s.setLine_wf n v h.2⟩

theorem State.Sound.access {s : State} (h : s.Sound) (w : LineWrite) : (s.access w).Sound :=
  .ite (h.setLine _ _) (h.frame (s.wakeBank_frame (bankOf w.line) true)).of_eq

theorem State.Sound.bankOff {s : State} (h : s.Sound) (b : Nat) : (s.bankOff b).Sound := by
  refine ⟨?_, s.bankOff_wf b h.2⟩
  unfold State.bankOff
  split <;> exact h.1

theorem State.Sound.bankClear {s : State} (h : s.Sound) (b : Nat) : (s.bankClear b).Sound := by
  have cleared : (s.bankClear b).time = s.time := by
    unfold State.bankClear
    split
    · rfl
    · exact List.foldlRecOn (motive := fun t : State => t.time = s.time) _ State.writeLine rfl fun t ht _ _ => ht
  exact ⟨cleared ▸ h.1, s.bankClear_wf b h.2⟩

theorem State.Sound.placeData {s : State} (h : s.Sound) (line n data : Nat) : (s.placeData line n data).Sound :=
  .ite (.foldl (fun _ _ ht => ht.setLine _ _) _ h) (.foldl (fun _ _ ht => ht.access _) _ h)

theorem State.Sound.pushFrame {s : State} (h : s.Sound) (cell head n : Nat) (at_ : Option Nat) (length data : Nat) :
    (s.pushFrame cell head n at_ length data).2.2.Sound :=
  .frame (.placeData (h.frame (s.freeLines_frame (ceilDiv (n + length) 16))) _ _ _) (State.offerTo_frame _ _ _)

theorem State.Sound.arrive {s : State} (h : s.Sound) (f : Frame) : (s.arrive f).Sound := by
  have pushed := h.pushFrame f.cell f.desc 64 (some 44) f.length f.bytes
  unfold State.arrive
  dsimp only
  generalize s.pushFrame f.cell f.desc 64 (some 44) f.length f.bytes = u at pushed
  exact .ite (.foldl (fun t q ht => ht.frame (t.copyTo_frame _ _)) _ pushed.of_eq) h

theorem State.Sound.deliver {s : State} (h : s.Sound) (d : Demod) (i : RxInfo) (pass : Nat) : (s.deliver d i pass).Sound :=
  State.Sound.arrive (h.frame (s.bump_frame _)) _

theorem State.Sound.frameDelivery {s : State} (h : s.Sound) (id : Nat) (ok : Bool) (i : RxInfo) : (s.frameDelivery id ok i).Sound := by
  have grown : s.growSnippets.Sound := h.frame s.growSnippets_frame
  unfold State.frameDelivery
  extract_lets s1
  split
  · exact grown
  · split
    · exact (grown.deliver _ _ _).frame (State.frameEnds_frame _ _ _ _)
    · exact (State.Sound.ite (grown.frame (State.bump_frame _ _)) grown).frame (State.frameEnds_frame _ _ _ _)

theorem State.Sound.cancel {s : State} (h : s.Sound) (id : Nat) (decoded : List (Nat × RxInfo)) : (s.cancel id decoded).Sound := by
  unfold State.cancel
  split
  · exact h
  · next g _ =>
    refine .ite h ?_
    extract_lets s1 ms pass g' _ s2 retry
    have grown : s1.Sound := h.frame s.growSnippets_frame
    clear_value s1
    split
    · exact grown
    · extract_lets s3 s4
      have done : s3.Sound := .frame (s := s2) grown.of_eq (State.modDemod_frame _ _ _)
      have recovered : s4.Sound := by
        refine .foldl (fun t d ht => ?_) _ done
        split
        · exact ht
        · exact ((ht.deliver _ _ _).frame (State.modDemod_frame _ _ _)).frame (State.bump_frame _ _)
      exact .ite recovered (recovered.frame (s4.finishGroup_frame _))

theorem State.Sound.plcArrive {s : State} (h : s.Sound) (l : Nat) (i : RxInfo) (profile mode erasedPermille : Nat) (clipped : Bool) :
    (s.plcArrive l i profile mode erasedPermille clipped).Sound := State.Sound.arrive h _

theorem State.Sound.onMedium {s : State} (h : s.Sound) (l : Nat) {f : Lane → State} (hf : ∀ x, (f x).Sound) : (s.onMedium l f).Sound := by
  unfold State.onMedium State.onLane
  dsimp only
  split
  · exact h
  · exact .ite ((hf _).frame (State.settle_frame _ _ _)) h

theorem State.Sound.standardDelivery {s : State} (h : s.Sound) (l : Nat) (ok : Bool) (i : RxInfo) (p : PlcInfo) :
    (s.standardDelivery l ok i p).Sound := by
  refine h.onMedium l fun x => ?_
  extract_lets c s1 s2 s3
  have free : s1.Sound := h.frame (s.modLane_frame _ _)
  have told : s2.Sound := (free.frame (s1.bump_frame _)).frame (State.modLane_frame _ _ _)
  have learnt : s3.Sound := (told.frame (s2.refreshLinks_frame _ _ _ _)).frame (State.toneMaps_frame _ _ _)
  exact .ite h (.ite (free.frame (s1.bump_frame _)) (.ite (free.frame (s1.bump_frame _)) (learnt.plcArrive _ _ _ _ _ _)))

theorem State.Sound.chainArrives {s : State} (h : s.Sound) (l : Nat) (c : LaneCfg) (f : ChainFields) (i : RxInfo) (x : Lane)
    (clipped : Bool) (m : ChainMpdu) (mpdu : List Nat) (crc : Nat) : (s.chainArrives l c f i x clipped m mpdu crc).Sound := by
  unfold State.chainArrives
  extract_lets e gap s1 s2 i' total
  have told : s1.Sound := h.frame (s.modLane_frame _ _)
  have learnt : s2.Sound := (told.frame (s1.refreshLinks_frame _ _ _ _)).frame (State.observePhase_frame _ _ _ _)
  exact .ite ((learnt.frame (s2.bump_frame _)).plcArrive _ _ _ _ _ _) learnt

theorem State.Sound.chainDelivery {s : State} (h : s.Sound) (l : Nat) (i : RxInfo) (clipped : Bool) : (s.chainDelivery l i clipped).Sound
    := by
  refine h.onMedium l fun x => ?_
  split
  · exact h
  · extract_lets c f s1
    have free : s1.Sound := h.frame (s.modLane_frame _ _)
    refine .ite h ?_
    split
    · exact free.frame (s1.bump_frame _)
    · exact free.chainArrives _ _ _ _ _ _ _ _ _

theorem State.Sound.plcDelivery {s : State} (h : s.Sound) (l : Nat) (ok : Bool) (i : RxInfo) (p : PlcInfo) :
    (s.plcDelivery l ok i p).Sound := .ite (h.chainDelivery _ _ _) (h.standardDelivery _ _ _ _)

theorem State.Sound.forwardedFrame {s : State} (h : s.Sound) (n seq tag cell : Nat) (i : RxInfo) :
    (s.forwardedFrame n seq tag cell i).Sound := by
  have pushed := h.pushFrame (intakeQueue n) 0 0 none i.length i.frame
  unfold State.forwardedFrame
  dsimp only
  generalize s.pushFrame (intakeQueue n) 0 0 none i.length i.frame = u at pushed
  exact .ite pushed.of_eq h

theorem State.Sound.tunnelled {s : State} (h : s.Sound) (source : Nat) (i : RxInfo) : (s.tunnelled source i).Sound := by
  refine .ite h ?_
  split
  · exact State.Sound.arrive h _
  · exact h.frame (s.bump_frame _)

theorem State.Sound.rejoin {s : State} (h : s.Sound) (f : Frame) (replay : Bool) : (s.rejoin f replay).Sound := by
  have pushed := h.pushFrame (36 + f.tenant) f.desc 64 (some 44) f.length f.bytes
  unfold State.rejoin
  dsimp only
  generalize s.pushFrame (36 + f.tenant) f.desc 64 (some 44) _ f.bytes = u at pushed
  exact pushed.of_eq

theorem State.Sound.keyHeldRelease {s : State} (h : s.Sound) (seq : Nat) (authentic : Bool) : (s.keyHeldRelease seq authentic).Sound := by
  unfold State.keyHeldRelease
  split
  · exact h
  · split
    · exact h
    · refine .ite ?_ h
      exact (State.Sound.rejoin (by exact h.of_eq) _ _).frame (State.countHeld_frame _)

theorem State.Sound.replayEntry {s : State} (h : s.Sound) (e : Ingest) : (s.replayEntry e).Sound := by
  unfold State.replayEntry
  extract_lets usable s1 hold _
  have checked : s1.Sound := by
    unfold s1
    split
    · exact h.frame (s.badRecord_frame _)
    · exact h
  exact .ite checked (.ite ((checked.rejoin _ _).frame (State.bump_frame _ _)) checked)

theorem State.Sound.standbyEntered {s : State} (h : s.Sound) : s.standbyEntered.Sound := by
  unfold State.standbyEntered
  extract_lets _ s1 s2
  have quiet : s1.Sound :=
    (State.Sound.frame (s := { s with pw.standby := false }) h (State.receiversReset_frame _)).frame (State.raise_frame _ _)
  have safe : s2.Sound := ((quiet.frame (s1.set_frame _ _)).frame (State.set_frame _ _ _)).frame (State.assertSafe_frame _)
  exact .ite (.foldl (fun t n ht => ht.bankOff n) _ safe) h

theorem State.Sound.aliasWrite {s : State} (h : s.Sound) (portB clear : Bool) (addr : Nat) (data : Line) (enables : BitVec 16)
    (other : Option (Nat × Line × BitVec 16)) : (s.aliasWrite portB clear addr data enables other).Sound := by
  unfold State.aliasWrite
  dsimp only
  refine .ite h ?_
  split
  · exact h.access _
  · exact (State.Sound.ite ((h.access _).access _) ((h.access _).access _)).frame (State.bump_frame _ _)

theorem State.Sound.scrub {s : State} (h : s.Sound) (addr : Nat) (corrected : Line) (portWrote : Option Line) :
    (s.scrub addr corrected portWrote).Sound := by
  refine .ite h ?_
  split
  · exact h.setLine _ _
  · exact (h.setLine _ _).frame (State.bump_frame _ _)

theorem State.Sound.poisonRead {s : State} (h : s.Sound) (addr : Nat) (committed : Bool) (frames : List Nat) :
    (s.poisonRead addr committed frames).Sound := by
  unfold State.poisonRead
  extract_lets n _ s1 s2 early s3
  have counted : s1.Sound := .frame (by exact h.of_eq) (State.bump_frame _ _)
  have logged : s2.Sound := counted.frame (s1.logDiagFree_frame _ _)
  have discarded : s3.Sound := .foldl (fun t f ht => ht.frame (t.discardWhole_frame f)) _ logged
  exact .ite h (.ite (discarded.frame (s3.faultRestart_frame _)) discarded)

/-! ### The start -/

theorem State.Sound.replayAll {s : State} (h : s.Sound) (l : List Ingest) : (l.foldl State.replayEntry s).Sound :=
  .foldl (fun _ e ht => ht.replayEntry e) l h

theorem State.Sound.setPower {s : State} (h : s.Sound) (v : Power) : ({ s with pw := v } : State).Sound := h

theorem State.Sound.stepTen {s : State} (h : s.Sound) (cls : Nat) (b : Board) : (s.stepTen cls b).Sound := by
  have legal : ({ s with pw.stage := 0x0A }.unreadable b).replayLegal.Sound :=
    ((h.setPower _).frame (State.unreadable_frame _ b)).frame (State.replayLegal_frame _)
  have told := ((legal.frame (State.finishUplinks_frame _)).frame (State.dropGateQueue_frame _)).frame (State.recount_frame _)
  unfold State.stepTen
  dsimp only
  generalize ({ s with pw.stage := 0x0A }.unreadable b).replayLegal.finishUplinks.dropGateQueue.recount = s2 at told
  have advanced : (if s2.afterFault cls then s2.advanceDownlink else s2).Sound := .ite (told.frame s2.advanceDownlink_frame) told
  generalize (if s2.afterFault cls then s2.advanceDownlink else s2) = s3 at advanced
  refine .frame (.ite advanced (.frame (.setPower ?_ _) (State.finishReplay_frame _))) (State.redeliver_frame _ _)
  exact (advanced.replayAll _).frame (State.countHeld_frame _)

/-- The first step of a start puts the counter and Big Top as at reset. -/
theorem State.stepOne_sound (s : State) : s.stepOne.Sound := by
  change Calliope.reset.ok ∧ Memory.reset.wf = true
  decide

theorem State.Sound.setPatina {s : State} (h : s.Sound) (v : Patina) : ({ s with pat := v } : State).Sound := h

theorem State.Sound.stepEight {s u : State} (h : s.Sound) {b : Board} {cls : Nat} {was : Bool} (e : s.stepEight b cls was = some u) :
    u.Sound := by
  have timed : ({ s.loadSealed with pw.stage := 8 } : State).startSeries.startTime.startKeys.Sound :=
    (State.Sound.startTime (((h.frame s.loadSealed_frame).setPower _).frame (State.startSeries_frame _))).frame (State.startKeys_frame _)
  have classed := (timed.frame (State.matchModule_frame _)).frame (State.decideClass_frame _ cls)
  simp only [State.stepEight, Option.ite_none_left_eq_some, Option.some.injEq] at e
  obtain ⟨-, rfl⟩ := e
  refine .frame (.frame (.frame (.setPatina (.frame (.frame (.frame (.frame ?_ (State.startRecords_frame _ b)) (State.recalibrated_frame
      _))
    (State.clockChange_frame _)) (State.requestVdd_frame _)) _) (State.wakeTamper_frame _)) (State.batterySource_frame _))
    (State.bootRecord_frame _ cls)
  exact .ite (.setPower (classed.frame (State.relocateRegistry_frame _)) _) classed

theorem State.Sound.startSix {s : State} (h : s.Sound) (b : Board) : (s.startSix b).Sound := by
  unfold State.startSix
  extract_lets was cls _
  have sixed : (s.stepSix b).Sound := h.frame (s.stepSix_frame b)
  refine .ite (.frame (by exact h) (State.stopAt_frame _ _)) ?_
  split
  · exact (sixed.frame (State.set_frame _ _ _)).frame (State.stopAt_frame _ _)
  · next t mounted =>
    have sevened : t.Sound := sixed.frame fun hp => (s.stepSix b).stepSeven_frame b hp t mounted
    extract_lets _ t1
    have marked : t1.Sound := sevened.of_eq
    split
    · exact ((marked.frame t1.startSeries_frame).frame (State.fieldForWant_frame _ _)).frame (State.stopAt_frame _ _)
    · next u eighted =>
      have classed : u.Sound := marked.stepEight eighted
      exact .ite (classed.frame (u.stopAt_frame _)) ((classed.stepTen cls b).frame (State.stepTwelve_frame _ b))

/-- A start leaves both sound, wherever it stops. -/
theorem State.start_sound (s : State) (b : Board) (porst : Bool) : (s.start b porst).Sound := by
  unfold State.start
  extract_lets s1 _ _ s2 s3 _ _
  have first : s2.Sound := .ite s.stepOne_sound s.stepOne_sound
  have second : s3.Sound := first.frame (s2.stepTwo_frame b)
  refine .ite (first.frame (s2.stopAt_frame _)) ?_
  split
  · exact (second.frame (s3.stopAt_frame _)).frame (State.pcieUp_frame _ _ _)
  · next i _ =>
    extract_lets s4 s5
    have fourth : s4.Sound := .frame (by exact second) (State.stepFour_frame _ b)
    have fifth : s5.Sound := fourth.frame (s4.stepFive_frame b)
    exact .ite (fourth.frame (s4.stopAt_frame _)) (.ite fifth (fifth.startSix b))

theorem State.Sound.pfiRelease {s : State} (h : s.Sound) : s.pfiRelease.Sound := by
  unfold State.pfiRelease
  extract_lets now _ _ s1 s2 _
  have released : s2.Sound := .ite (.frame (by exact h) (State.tamperRelease_frame _ 11)) h
  split
  · exact .ite (.startSix (by exact released) _) released
  · exact released

/-! ### Every command -/

/-- A command that is listed for none of the three keeps both by its frame. -/
theorem exec_sound_of_frame {c : Instr} {s : State} (h : s.Sound) (unmoved : ∀ p : Part, p.incidental = false → moves c p = false) :
    ∃ t, exec c s = .next t ∧ t.Sound := by
  obtain ⟨t, e, keeps⟩ := exec_framed c s
  exact ⟨t, e, h.of_parts fun p hp => keeps p (unmoved p hp)⟩

/-- Every command keeps both. -/
theorem exec_sound {s : State} (h : s.Sound) (c : Instr) : ∃ t, exec c s = .next t ∧ t.Sound := by
  cases c with
  | porstNRelease b => exact ⟨_, rfl, .ite (s.start_sound b true) h⟩
  | pfiNRelease => exact ⟨_, rfl, h.pfiRelease⟩
  | internalRestart b => exact ⟨_, rfl, .ite (State.start_sound _ b false) h⟩
  | standbyEntered => exact ⟨_, rfl, h.standbyEntered⟩
  | counterSecondRollover => exact ⟨_, rfl, h.secondRollover⟩
  | timeStep upper => exact ⟨_, rfl, h.timeStep upper⟩
  | timeIncrWrite int => exact ⟨_, rfl, h.incrWrite int⟩
  | ppsEdge => exact ⟨_, rfl, h.ppsEdge⟩
  | ptpSync port offset => exact ⟨_, rfl, h.ptpSync port offset⟩
  | ptpAnnounce port offset valid => exact ⟨_, rfl, h.ptpAnnounce port offset valid⟩
  | hostBeat v => exact ⟨_, rfl, h.hostBeat v⟩
  | hostHeartbeatLapse => exact ⟨_, rfl, h.heartbeatLapse⟩
  | lockQualified => exact ⟨_, rfl, .ite h.evaluate h⟩
  | sourceLost => exact ⟨_, rfl, h.sourceLost⟩
  | holdoverLimit => exact ⟨_, rfl, .ite (h.setClock 2 5) h⟩
  | timeSet r sec ns => exact ⟨_, rfl, h.timeSet r sec ns⟩
  | registerWrite offset v => exact ⟨_, rfl, h.registerWrite offset v⟩
  | catalogueBundleSubmit r e entries failed => exact ⟨_, rfl, h.bundleSubmit r e entries failed⟩
  | storeBankProgrammed store ok => exact ⟨_, rfl, h.storeProgrammed store ok⟩
  | frameDelivery dem ok info => exact ⟨_, rfl, h.frameDelivery dem ok info⟩
  | cancellationPass group decoded => exact ⟨_, rfl, h.cancel group decoded⟩
  | plcFrameDelivery lane ok info plc => exact ⟨_, rfl, h.plcDelivery lane ok info plc⟩
  | tunnelledDatagram source info => exact ⟨_, rfl, h.tunnelled source info⟩
  | forwardedFrame session seq tag cell info => exact ⟨_, rfl, h.forwardedFrame session seq tag cell info⟩
  | keyHeldRelease seq authentic => exact ⟨_, rfl, h.keyHeldRelease seq authentic⟩
  | bigTopAliasWrite portB clear addr data enables other => exact ⟨_, rfl, h.aliasWrite portB clear addr data enables other⟩
  | bigTopScrub addr corrected portWrote => exact ⟨_, rfl, h.scrub addr corrected portWrote⟩
  | bigTopUncorrectable addr committed frames => exact ⟨_, rfl, h.poisonRead addr committed frames⟩
  | bankPowerOff bank => exact ⟨_, rfl, .ite (h.bankOff bank) h⟩
  | bankClearComplete bank => exact ⟨_, rfl, .ite (h.bankClear bank) h⟩
  | _ =>
    refine exec_sound_of_frame h fun p hp => ?_
    obtain rfl | rfl | rfl := Part.of_not_incidental hp <;> rfl

/-- Settles O57: a step carries out a command or lets one cycle pass, and both keep the counter and Big Top sound. -/
theorem soundKept : Obligations.SoundKept := by
  intro s h
  unfold step
  split
  · exact exec_sound (by exact h.of_eq) _
  · exact ⟨_, rfl, h.pass 1⟩


end Sys2Proof.Machine

namespace Sys2Proof.Machine

set_option Elab.async false
/-- Settles O10: only a read has somewhere to leave its value. -/
theorem badBarAccess : Obligations.BadBarAccess := by
  intro s bar
  constructor <;> simp [exec, execBar0BadAccess, bar]
end Sys2Proof.Machine

namespace Sys2Proof.Machine

set_option Elab.async false

/-! ## What the shared operations leave of the catalogue -/

/-- Where the catalogue is as it was, so is every object. -/
theorem State.get_of_cat {s t : State} (h : Part.of .cat t = Part.of .cat s) (k : Nat) : t.get k = s.get k :=
  congrArg (fun c => catGet c k) (h : t.cat = s.cat)

/-- An object as the part `Part.cat` has it. Frames rewrite that part, and the lemmas named `_cell` the objects in it. -/
abbrev State.cell (s : State) (k : Nat) : Int := catGet (Part.of .cat s) k

theorem State.get_eq_cell (s : State) (k : Nat) : s.get k = s.cell k := rfl

theorem State.cell_of_cat {s t : State} (h : Part.of .cat t = Part.of .cat s) (k : Nat) : t.cell k = s.cell k :=
  congrArg (fun c => catGet c k) h

theorem catGet_ite (c : Prop) [Decidable c] (a b : Tab Int) (k : Nat) :
    catGet (if c then a else b) k = if c then catGet a k else catGet b k := apply_ite (fun x => catGet x k) c a b

@[simp] theorem State.set_cell_self (s : State) (k : Nat) (v : Int) : (s.set k v).cell k = v := s.get_set_self k v

theorem State.set_cell (s : State) {j k : Nat} (v : Int) (h : k ≠ j) : (s.set j v).cell k = s.cell k := s.get_set_ne v h

theorem State.bump_cell (s : State) {j k : Nat} (h : k ≠ j) : (s.bump j).cell k = s.cell k := s.get_bump_ne h

theorem State.nat_of_get {s t : State} {k : Nat} (h : t.get k = s.get k) : t.nat k = s.nat k := congrArg Int.toNat h

theorem State.raise_cell (s : State) (n k : Nat) : (s.raise n).cell k = s.cell k := State.cell_of_cat (s.raise_frame n (by decide)) k

theorem State.modHq_cell (s : State) (q : Nat) (f : HostQueue → HostQueue) (k : Nat) : (s.modHq q f).cell k = s.cell k := rfl

theorem State.modLog_cell (s : State) (l : Nat) (f : EvLog → EvLog) (k : Nat) : (s.modLog l f).cell k = s.cell k := rfl

theorem State.draw_cell (s : State) (k : Nat) : s.draw.2.cell k = s.cell k := rfl

theorem State.bumpBy_cell (s : State) (j n : Nat) {k : Nat} (h : k ≠ j) : (s.bumpBy j n).cell k = s.cell k := by
  unfold State.bumpBy
  dsimp only
  split
  · exact s.get_set_ne _ h
  · exact s.draw.2.get_set_ne _ h

/-- A fold of what leaves an object leaves it. -/
theorem State.foldl_cell {α : Type} {f : State → α → State} {k : Nat} (hf : ∀ s a, (f s a).cell k = s.cell k) (l : List α) (s : State) :
    (l.foldl f s).cell k = s.cell k :=
  List.foldlRecOn (motive := fun t : State => t.cell k = s.cell k) l f rfl fun t ht a _ => (hf t a).trans ht

/-- A counter below its last value counts one up. -/
theorem State.bump_cell_self (s : State) {k : Nat} (h : s.nat k < 4294967295) : (s.bump k).cell k = (s.nat k + 1 : Nat) := by
  rw [s.bump_eq k h, State.set_cell_self]

/-! ### Commits (R368 to R371) -/

/-- A list of changes leaves what it does not name. -/
theorem catGet_foldl_ne (changes : List (Nat × Int)) (c : Tab Int) {k : Nat} (h : ∀ e ∈ changes, k ≠ e.1) :
    catGet (changes.foldl (fun c e => catPut c e.1 e.2) c) k = catGet c k :=
  List.foldlRecOn changes _ (motive := fun d => catGet d k = catGet c k) rfl
    fun d hd e he => (catGet_catPut_ne d e.2 (h e he)).trans hd

theorem State.commitPaired_cell (s : State) (changes : List (Nat × Int)) {k : Nat} (h : ∀ e ∈ changes, k ≠ e.1)
    (writes : k ≠ Obj.storeWrites) : (s.commitPaired changes).cell k = s.cell k := by
  unfold State.commitPaired
  split
  · exact catGet_foldl_ne changes s.cat h
  · exact (State.bumpBy_cell _ _ _ writes).trans (catGet_foldl_ne changes s.cat h)

/-- The catalogue shows an object committed. -/
theorem State.commitPaired_cell_last (s : State) (changes : List (Nat × Int)) (k : Nat) (v : Int) (writes : k ≠ Obj.storeWrites) :
    (s.commitPaired (changes ++ [(k, v)])).cell k = v := by
  have shown : ∀ c : Tab Int, catGet ((changes ++ [(k, v)]).foldl (fun c e => catPut c e.1 e.2) c) k = v := by
    simp [List.foldl_append]
  unfold State.commitPaired
  split
  · exact shown s.cat
  · exact (State.bumpBy_cell _ _ _ writes).trans (shown s.cat)

theorem State.setPaired_cell_self (s : State) (k : Nat) (v : Int) (writes : k ≠ Obj.storeWrites) : (s.setPaired k v).cell k = v :=
  s.commitPaired_cell_last [] k v writes

theorem State.setPaired_cell_ne (s : State) (j : Nat) (v : Int) {k : Nat} (h : k ≠ j) (writes : k ≠ Obj.storeWrites) :
    (s.setPaired j v).cell k = s.cell k :=
  s.commitPaired_cell _ (by simpa using h) writes

/-! ### The event recorder (R319 to R327) -/

/-- The objects that the recorder writes beside those of the host queues. -/
abbrev recorderCells : List Nat :=
  [Obj.nextSequence, Obj.recordsOverwritten 1, Obj.recordsOverwritten 2, Obj.recordsOverwritten 3, Obj.repeatsSaturated,
    Obj.readOnlyRefusals, Obj.freezesBroken, Obj.mediaState, Obj.legalReserveFree, Obj.casketAlarm, Obj.storeWrites]

/-- A key that a record leaves: one of no host queue, whose counters lie at multiples of four, and none of the recorder's. -/
abbrev Unrecorded (k : Nat) : Prop := (k < 0xFF0000 ∨ k % 4 ≠ 0) ∧ k ∉ recorderCells

theorem Unrecorded.ne {k : Nat} (h : Unrecorded k) (j : Nat) (hj : j ∈ recorderCells := by decide) : k ≠ j := fun e => h.2 (e ▸ hj)

theorem Unrecorded.ne_hqKey {k : Nat} (h : Unrecorded k) (q off : Nat) (aligned : off % 4 = 0 := by decide) : k ≠ hqKey q off := by
  have := h.1
  unfold hqKey
  omega

theorem State.hqSignal_cell (s : State) (q k : Nat) : (s.hqSignal q).cell k = s.cell k :=
  State.cell_of_cat (s.hqSignal_frame q (by decide)) k

theorem State.hqCompleteAt_cell (s : State) (stamp q n len cls word status extra data : Nat) {k : Nat} (h : k ≠ hqKey q 0x20) :
    (s.hqCompleteAt stamp q n len cls word status extra data).cell k = s.cell k := by
  unfold State.hqCompleteAt
  split
  · rfl
  · exact (State.hqSignal_cell _ _ _).trans (State.bumpBy_cell _ _ _ h)

theorem State.hqStarve_cell (s : State) (q : Nat) {k : Nat} (h : k ≠ hqKey q 0x24) : (s.hqStarve q).cell k = s.cell k :=
  (State.raise_cell _ _ _).trans (State.get_bump_ne _ h)

theorem State.timeField_cell (s : State) {k : Nat} (h : Unrecorded k) : s.timeField.2.cell k = s.cell k := by
  unfold State.timeField
  split
  · exact s.get_set_ne _ (h.ne _)
  · rfl

theorem State.newRec_cell (s : State) (log code tenant payload pos : Nat) (ring rtc : Bool) (tai : Nat) {k : Nat} (h : Unrecorded k) :
    (s.newRec log code tenant payload pos ring rtc tai).2.cell k = s.cell k := s.timeField_cell h

theorem State.fold_cell (s : State) (r : EvRec) {k : Nat} (h : Unrecorded k) : (s.fold r).2.cell k = s.cell k := by
  unfold State.fold
  split
  · rfl
  · exact s.get_bump_ne (h.ne _)

theorem State.pumpLogTo_cell (s : State) (q log : Nat) {k : Nat} (h : Unrecorded k) : (s.pumpLogTo q log).cell k = s.cell k := by
  unfold State.pumpLogTo
  split
  · rfl
  · extract_lets
    split
    · rfl
    · split
      · split
        · rfl
        · exact s.hqStarve_cell q (h.ne_hqKey _ _)
      · exact State.hqCompleteAt_cell _ _ _ _ _ _ _ _ _ _ (h.ne_hqKey _ _)

theorem State.pumpLog_cell (s : State) (log : Nat) {k : Nat} (h : Unrecorded k) : (s.pumpLog log).cell k = s.cell k :=
  State.foldl_cell (fun t q => t.pumpLogTo_cell q log h) _ s

theorem State.logChanged_cell (s : State) (k : Nat) : s.logChanged.cell k = s.cell k := State.cell_of_cat (s.logChanged_frame (by
    decide)) k

theorem State.storeOther_cell (s : State) (log code tenant payload : Nat) (rtc : Bool) (tai : Nat) {k : Nat} (h : Unrecorded k)
    (overwritten : k ≠ Obj.recordsOverwritten log) : (s.storeOther log code tenant payload rtc tai).cell k = s.cell k := by
  have added : ∀ (b : Bool) (u : State) (f : EvLog → EvLog), u.cell k = s.cell k →
      (if b = true then (u.modLog log f).bump (Obj.recordsOverwritten log) else u.modLog log f).cell k = s.cell k := by
    intro b u f hu
    cases b
    · exact hu
    · exact (State.get_bump_ne _ overwritten).trans hu
  unfold State.storeOther
  refine (State.pumpLog_cell _ _ h).trans ?_
  dsimp only
  split
  · split
    · exact s.fold_cell _ h
    · exact added _ _ _ (s.newRec_cell _ _ _ _ _ _ _ _ h)
  · exact added _ _ _ (s.newRec_cell _ _ _ _ _ _ _ _ h)

theorem State.logAt_cell (s : State) (log code tenant payload : Nat) (rtc : Bool) (tai : Nat) {k : Nat} (h : Unrecorded k)
    (overwritten : k ≠ Obj.recordsOverwritten log) : (s.logAt log code tenant payload rtc tai).cell k = s.cell k := by
  unfold State.logAt
  split
  · exact s.storeOther_cell _ _ _ _ _ _ h overwritten
  · exact s.get_bump_ne (h.ne _)
  · exact s.get_bump_ne (h.ne _)
  · rfl

theorem State.logSec_cell (s : State) (code tenant payload : Nat) {k : Nat} (h : Unrecorded k) :
    (s.logSec code tenant payload).cell k = s.cell k := s.logAt_cell _ _ _ _ _ _ h (h.ne _)

theorem State.logOp_cell (s : State) (code tenant payload : Nat) {k : Nat} (h : Unrecorded k) :
    (s.logOp code tenant payload).cell k = s.cell k := s.logAt_cell _ _ _ _ _ _ h (h.ne _)

theorem State.logDiag_cell (s : State) (code tenant payload : Nat) {k : Nat} (h : Unrecorded k) :
    (s.logDiag code tenant payload).cell k = s.cell k := s.logAt_cell _ _ _ _ _ _ h (h.ne _)

theorem State.logOpFree_cell (s : State) (event payload : Nat) {k : Nat} (h : Unrecorded k) :
    (s.logOpFree event payload).cell k = s.cell k := s.logOp_cell _ _ _ h

theorem State.logDiagFree_cell (s : State) (event payload : Nat) {k : Nat} (h : Unrecorded k) :
    (s.logDiagFree event payload).cell k = s.cell k := s.logDiag_cell _ _ _ h

theorem State.endFreeze_cell (s : State) {k : Nat} (h : Unrecorded k) : s.endFreeze.cell k = s.cell k := State.pumpLog_cell _ 0 h

theorem State.breakFreeze_cell (s : State) {k : Nat} (h : Unrecorded k) : s.breakFreeze.cell k = s.cell k := by
  unfold State.breakFreeze
  split
  · rfl
  · have ended := s.endFreeze_cell h
    dsimp only
    generalize s.endFreeze = u at ended
    exact (State.logChanged_cell _ _).trans ((State.logOpFree_cell _ _ _ h).trans ((State.get_bump_ne _ (h.ne _)).trans ended))

theorem State.storageAlarm_cell (s : State) {k : Nat} (h : Unrecorded k) : s.storageAlarm.cell k = s.cell k := by
  unfold State.storageAlarm
  dsimp only
  split
  · rfl
  · exact State.setPaired_cell_ne _ _ _ (h.ne _) (h.ne _)

theorem State.ringLegal_cell (s : State) (code tenant payload : Nat) (rtc : Bool) (tai : Nat) {k : Nat} (h : Unrecorded k) :
    (s.ringLegal code tenant payload rtc tai).cell k = s.cell k := by
  have made := s.newRec_cell 0 code tenant payload (s.logOf 0).next true rtc tai h
  unfold State.ringLegal
  dsimp only
  generalize s.newRec 0 code tenant payload (s.logOf 0).next true rtc tai = u at made
  split
  · split
    · exact s.fold_cell _ h
    · split
      · rfl
      · exact (State.storageAlarm_cell _ h).trans made
  · exact (State.storageAlarm_cell _ h).trans made

theorem State.appendLegal_cell (s : State) (code tenant payload : Nat) (rtc : Bool) (tai : Nat) {k : Nat} (h : Unrecorded k) :
    (s.appendLegal code tenant payload rtc tai).cell k = s.cell k := by
  unfold State.appendLegal
  dsimp only
  split
  · split
    · exact s.fold_cell _ h
    · exact s.newRec_cell _ _ _ _ _ _ _ _ h
  · exact s.newRec_cell _ _ _ _ _ _ _ _ h

theorem State.takeReserve_cell (s : State) {k : Nat} (h : Unrecorded k) : s.takeReserve.2.cell k = s.cell k := by
  unfold State.takeReserve
  split
  · rfl
  · split
    · exact s.get_set_ne _ (h.ne _)
    · exact State.get_set_ne _ _ (h.ne _)

theorem State.holdLegal_cell (s : State) (code tenant payload : Nat) (rtc : Bool) (tai : Nat) {k : Nat} (h : Unrecorded k) :
    (s.holdLegal code tenant payload rtc tai).cell k = s.cell k := by
  unfold State.holdLegal
  dsimp only
  split
  · split
    · exact s.fold_cell _ h
    · exact (State.logChanged_cell _ _).trans (s.newRec_cell _ _ _ _ _ _ _ _ h)
  · exact (State.logChanged_cell _ _).trans (s.newRec_cell _ _ _ _ _ _ _ _ h)

theorem State.legalAt_cell (s : State) (code tenant payload : Nat) (rtc : Bool) (tai : Nat) {k : Nat} (h : Unrecorded k) :
    (s.legalAt code tenant payload rtc tai).cell k = s.cell k := by
  have appended : ∀ u : State, ((u.appendLegal code tenant payload rtc tai).pumpLog 0).cell k = u.cell k := fun u =>
    (State.pumpLog_cell _ 0 h).trans (u.appendLegal_cell _ _ _ _ _ h)
  unfold State.legalAt
  extract_lets u
  have started : u.cell k = s.cell k := by
    unfold u
    split
    · exact s.breakFreeze_cell h
    · rfl
  have reserved := u.takeReserve_cell h
  rw [started] at reserved
  split
  · split
    · exact (u.holdLegal_cell _ _ _ _ _ h).trans started
    · split
      · split <;> rename_i e <;> rw [e] at reserved
        · exact (appended _).trans reserved
        · exact (State.ringLegal_cell _ _ _ _ _ _ h).trans reserved
      · exact (appended u).trans started
  · split <;> rename_i e <;> rw [e] at reserved
    · split
      · exact (State.holdLegal_cell _ _ _ _ _ _ h).trans reserved
      · exact (appended _).trans reserved
    · exact (State.ringLegal_cell _ _ _ _ _ _ h).trans reserved
  · exact (u.ringLegal_cell _ _ _ _ _ h).trans started

theorem State.logLegal_cell (s : State) (code tenant payload : Nat) {k : Nat} (h : Unrecorded k) :
    (s.logLegal code tenant payload).cell k = s.cell k := s.legalAt_cell _ _ _ _ _ h

theorem State.noticeAll_cell (s : State) (kind code rest k : Nat) : (s.noticeAll kind code rest).cell k = s.cell k :=
  State.cell_of_cat (s.noticeAll_frame kind code rest (by decide)) k

end Sys2Proof.Machine

namespace Sys2Proof.Machine

set_option Elab.async false

/-! ## A command object that CAP carries out (R356 to R366) -/

theorem State.executing_frame {p : Part} (s : State) (r : CapReq) (ses : Session) (h : p ∉ [Part.free, .cat, .sessions]) :
    p.of (s.executing r ses) = p.of s := by
  simp only [Part.outside] at h
  simp only [State.executing, State.taken, ↓Part.of_set, ↓State.bump_frame, Part.outside, h, not_false_eq_true, and_self, ne_eq]

theorem State.executing_cell (s : State) (r : CapReq) (ses : Session) {k : Nat} (h : k ≠ Obj.capRequests) :
    (s.executing r ses).cell k = s.cell k := s.get_bump_ne h

/-- What a request taken leaves of the fields that the conditions of commands read. -/
theorem State.executing_fields (s : State) (r : CapReq) (ses : Session) :
    (s.executing r ses).pw = s.pw ∧ (s.executing r ses).pins = s.pins ∧ (s.executing r ses).time = s.time ∧
      (s.executing r ses).bat = s.bat ∧ (s.executing r ses).hif = s.hif ∧ (s.executing r ses).nand = s.nand ∧
      (s.executing r ses).loc = s.loc ∧ (s.executing r ses).hall = s.hall ∧ (s.executing r ses).fw = s.fw ∧
      (s.executing r ses).cask = s.cask ∧ (s.executing r ses).gate = s.gate ∧ (s.executing r ses).pat = s.pat ∧
      (s.executing r ses).car = s.car ∧ (s.executing r ses).dl = s.dl ∧ (s.executing r ses).lanes = s.lanes ∧
      (s.executing r ses).frames = s.frames ∧ (s.executing r ses).freeze = s.freeze ∧ (s.executing r ses).parked = s.parked ∧
      (s.executing r ses).stores = s.stores ∧ (s.executing r ses).inForce = s.inForce ∧ (s.executing r ses).mem = s.mem ∧
      (s.executing r ses).upHold = s.upHold := by
  unfold State.executing State.taken State.bump State.bumpBy State.draw
  dsimp only
  split <;> simp [State.set]

/-- The session of a request taken stays open. -/
theorem State.executing_open (s : State) (r : CapReq) (ses : Session) (closing : ses.closing = false) :
    ∃ x, tget (s.executing r ses).sessions r.sess = some x ∧ x.closing = false := by
  refine ⟨{ ses with lastAt := (s.bump Obj.capRequests).now, held := none }, ?_, closing⟩
  show tget (tmod (tput _ _ _) _ _) _ = _
  rw [tget_tmod_self, tget_tput_self]
  rfl

/-- A response on an open session is the last of that session. -/
theorem State.respond_replied (s : State) (n : Nat) (r : Resp) (keep : Bool) {x : Session} (opened : tget s.sessions n = some x)
    (closing : x.closing = false) : ((tget (s.respond n r keep).sessions n).bind fun ses => ses.resp) = some r := by
  unfold State.respond
  rw [opened]
  dsimp only
  rw [if_neg (by simp [closing])]
  split
  · rw [show ∀ (t : State) (m : Nat), (t.raise m).sessions = t.sessions from
      fun t m => State.raise_frame (p := .sessions) t m (by decide)]
    simp
  · simp

theorem State.respond_cell (s : State) (n : Nat) (r : Resp) (keep : Bool) {k : Nat} (h : k ≠ Obj.capErrors) :
    (s.respond n r keep).cell k = s.cell k := by
  have counted : ∀ c : Prop, [Decidable c] → (if c then s else s.bump Obj.capErrors).cell k = s.cell k := by
    intro c _
    split
    · rfl
    · exact s.bump_cell h
  unfold State.respond
  split
  · rfl
  · dsimp only
    have counted := counted (r.status = 0)
    generalize (if r.status = 0 then s else s.bump Obj.capErrors) = u at counted
    split
    · split
      · exact counted
      · split <;> exact counted
    · split
      · exact (State.raise_cell _ _ _).trans counted
      · exact counted

/-- The answer OK counts no error. -/
theorem State.respond_cat (s : State) (n : Nat) (r : Resp) (keep : Bool) (ok : r.status = 0) : (s.respond n r keep).cat = s.cat := by
  unfold State.respond
  split
  · rfl
  · dsimp only
    rw [if_pos ok]
    split
    · split
      · rfl
      · split <;> rfl
    · split
      · exact State.raise_frame (p := .cat) _ _ (by decide)
      · rfl

/-- What CAP does around the effect `u` of a command object with outcome `o`: it answers, and leaves what the effect left. -/
structure State.Answers (t u : State) (r : CapReq) (k : Nat) (o : CapOut) : Prop where
  answered : t.Answered r k o
  parts : ∀ p : Part, p ∉ [Part.free, .cat, .hif, .sessions] → p.of t = p.of u
  cells : ∀ j, j ≠ Obj.capErrors → t.get j = u.get j
  cat : o.status = 0 → t.cat = u.cat

/-- A command object that CAP carries out has the effect of its body and answers the body's outcome. -/
theorem State.capExec_answers {s u : State} {r : CapReq} {k : Nat} {ses : Session} {body : Session → State → CapOut × State} {o : CapOut}
    (admits : s.Admits r k ses) (act : body ses (s.executing r ses) = (o, u))
    (kept : Part.of .sessions u = Part.of .sessions (s.executing r ses)) :
    ∃ t, s.capExec r k body = t ∧ t.Answers u r k o := by
  have run := s.capExec_admits r k ses body admits
  rw [act] at run
  obtain ⟨x, opened, closing⟩ := s.executing_open r ses admits.1.2.1
  rw [show (s.executing r ses).sessions = u.sessions from kept.symm] at opened
  exact ⟨_, run, State.respond_replied _ _ _ _ opened closing, fun p h => State.respond_frame _ _ _ _ h,
    fun j h => State.respond_cell _ _ _ _ h, fun ok => State.respond_cat _ _ _ _ ok⟩

end Sys2Proof.Machine

namespace Sys2Proof.Machine

set_option Elab.async false

/-! ## The start (R412, R413) -/

/-! ### What each step leaves of the power state -/

theorem State.stepTwo_pw (s : State) (b : Board) : (s.stepTwo b).pw = { s.pw with stage := 2 } := by
  have kept : ∀ (l : List (Nat × Nat)) (t : State), (l.foldl (fun t e => t.set e.1 (e.2 : Int)) t).pw = t.pw := fun l t =>
    List.foldlRecOn (motive := fun u : State => u.pw = t.pw) l _ rfl fun _ hu _ _ => hu
  unfold State.stepTwo
  dsimp only
  rw [kept]

theorem State.stepFour_pw (s : State) (b : Board) : (s.stepFour b).pw = { s.pw with stage := 4 } := by
  change Part.of .pw _ = _
  simp (disch := decide) only [State.stepFour, ↓Part.of_ite, ↓State.bump_frame, ↓State.set_frame, ite_self]
  rfl

theorem State.stepFive_pw (s : State) (b : Board) : (s.stepFive b).pw = { s.pw with stage := 5 } := by
  change Part.of .pw _ = _
  simp (disch := decide) only [State.stepFive, ↓State.pcieUp_frame, ↓State.copyClasp_frame, ↓Part.of_set, ↓State.bumpBy_frame]
  rfl

/-- Step 3: the image booted is in force. -/
def State.boots (s : State) (i : Nat) : State := { s with fw.inForce := i, pw.stage := 3 }

theorem State.boots_frame {p : Part} (s : State) (i : Nat) (h : p ∉ [Part.fw, .pw]) : p.of (s.boots i) = p.of s := by
  simp only [Part.outside] at h
  simp only [State.boots, ↓Part.of_update, h, implies_true, and_self, IsEmpty.forall_iff]

/-- A part that a start leaves until DDR stands. -/
theorem State.toStepFive_frame {p : Part} (s : State) (i : Nat) (b : Board)
    (h : p ∉ [Part.free, .cat, .inForce, .stores, .bat, .pw, .hif, .sessions, .gate, .loc, .fw]) :
    p.of ((((s.stepTwo b).boots i).stepFour b).stepFive b) = p.of s := by
  simp only [Part.outside] at h
  simp only [↓State.stepFive_frame, ↓State.stepFour_frame, ↓State.boots_frame, ↓State.stepTwo_frame, Part.outside, h,
    not_false_eq_true, and_self]

/-- The power state at the end of step 5, the role and the layout of the registry as before the start. -/
theorem State.toStepFive_pw (s : State) (i : Nat) (b : Board) :
    ((((s.stepTwo b).boots i).stepFour b).stepFive b).pw = { s.pw with stage := 5 } := by
  rw [State.stepFive_pw, State.stepFour_pw, State.boots, State.stepTwo_pw]

/-! ### Which image is booted -/

/-- Which images pass is a matter of the firmware slots and the fuses. -/
theorem State.bootImage_congr {s t : State} (fw : t.fw = s.fw) (hall : t.hall = s.hall) : t.bootImage = s.bootImage := by
  unfold State.bootImage State.imagePasses
  rw [fw, hall]

theorem State.stepTwo_bootImage (s : State) (b : Board) : (s.stepTwo b).bootImage = s.bootImage :=
  State.bootImage_congr (s.stepTwo_frame (p := .fw) b (by decide)) (s.stepTwo_frame (p := .hall) b (by decide))

/-- Image A passing, some image is booted. -/
theorem State.bootImage_of_passes {s : State} (passes : s.imagePasses 0 = true) : ∃ i, s.bootImage = some i := by
  unfold State.bootImage
  rw [passes]
  cases s.imagePasses 1 <;> exact ⟨_, rfl⟩

/-! ### How a start goes on -/

/-- The first state of a start from PORST_N. -/
def State.started (s : State) : State := { s.stepOne with pw.stoppedByLimit := false, pins.wakeReq := false }

theorem State.started_bootImage (s : State) : s.started.bootImage = s.bootImage := rfl

/-- Without a lock of the clocks. -/
theorem State.start_of_unlocked {s : State} {b : Board} (pll : b.pllOk = false) : (s.start b true).pw.stage = 0x82 := by
  unfold State.start
  dsimp only
  rw [if_pos (by simp [pll])]
  rfl

/-- Without an image that passes: recovery. -/
theorem State.start_of_no_image {s : State} {b : Board} (pll : b.pllOk = true) (image : s.bootImage = none) :
    (s.start b true).pw.stage = 0xF0 := by
  have noImage : (s.started.stepTwo b).bootImage = none := by rw [State.stepTwo_bootImage, State.started_bootImage, image]
  have run : s.start b true = ((s.started.stepTwo b).stopAt 0xF0).pcieUp b.pcieGen b.pcieWidth := by
    unfold State.start
    dsimp only
    rw [if_neg (by simp [pll])]
    change (match (s.started.stepTwo b).bootImage with | none => _ | some i => _) = _
    rw [noImage]
    rfl
  rw [run]
  exact congrArg Power.stage (State.pcieUp_frame (p := .pw) _ _ _ (by decide))

/-- With the clocks locked and an image: by the BIST of the Ringmaster pairs, then by PFI_N. -/
theorem State.start_of_image {s : State} {b : Board} {i : Nat} (pll : b.pllOk = true) (image : s.bootImage = some i) :
    s.start b true =
      let u := ((s.started.stepTwo b).boots i).stepFour b
      if !(b.bist0Ok && b.bist1Ok) then u.stopAt 0x84
      else if (u.stepFive b).pins.pfi then { u.stepFive b with pw.held := some b } else (u.stepFive b).startSix b := by
  have booted : (s.started.stepTwo b).bootImage = some i := by rw [State.stepTwo_bootImage, State.started_bootImage, image]
  unfold State.start
  dsimp only
  rw [if_neg (by simp [pll])]
  change (match (s.started.stepTwo b).bootImage with | none => _ | some i => _) = _
  rw [booted]
  rfl

/-- With the Ringmaster pairs in order as well, a start comes to step 5, where PFI_N may hold it. -/
theorem State.start_of_pairs {s : State} {b : Board} {i : Nat} (pll : b.pllOk = true) (image : s.bootImage = some i)
    (pair0 : b.bist0Ok = true) (pair1 : b.bist1Ok = true) :
    s.start b true =
      let u := (((s.started.stepTwo b).boots i).stepFour b).stepFive b
      if s.pins.pfi then { u with pw.held := some b } else u.startSix b := by
  have pfi : ((((s.started.stepTwo b).boots i).stepFour b).stepFive b).pins.pfi = s.pins.pfi :=
    (congrArg Pins.pfi (State.toStepFive_frame (p := .pins) s.started i b (by decide))).trans rfl
  rw [State.start_of_image pll image]
  dsimp only
  rw [if_neg (by simp [pair0, pair1]), pfi]

theorem State.startSix_of_little_ddr {s : State} {b : Board} (ddr : b.ddrGiB < 2) : (s.startSix b).pw.stage = 0x86 := by
  unfold State.startSix
  dsimp only
  rw [if_pos ddr]
  rfl

/-- Settles O2: the start branch by branch. -/
theorem startStopsAtItsStep : Obligations.StartStopsAtItsStep := by
  intro s b porst
  refine ⟨s.start b true, ?_, State.start_of_unlocked, fun pll imageA imageB => ?_, fun pll imageA pair => ?_,
    fun pll imageA pair0 pair1 pfi => ?_, fun pll imageA pair0 pair1 pfi ddr => ?_⟩
  · change Host.Outcome.next (if s.pins.porst then s.start b true else s) = _
    rw [porst, if_pos rfl]
  · exact State.start_of_no_image pll (by simp [State.bootImage, imageA, imageB])
  · obtain ⟨i, image⟩ := State.bootImage_of_passes imageA
    rw [State.start_of_image pll image]
    dsimp only
    rw [if_pos (by simp [pair])]
    rfl
  · obtain ⟨i, image⟩ := State.bootImage_of_passes imageA
    rw [State.start_of_pairs pll image pair0 pair1, pfi]
    exact ⟨congrArg Power.stage (State.toStepFive_pw s.started i b), rfl⟩
  · obtain ⟨i, image⟩ := State.bootImage_of_passes imageA
    rw [State.start_of_pairs pll image pair0 pair1, pfi]
    exact State.startSix_of_little_ddr ddr

end Sys2Proof.Machine

namespace Sys2Proof.Machine

set_option Elab.async false

/-! ### Lists changed at one place -/

theorem lmod_getElem?_ne {α : Type} (l : List α) {i j : Nat} (f : α → α) (h : j ≠ i) : (lmod l i f)[j]? = l[j]? := by
  induction l generalizing i j with
  | nil => rfl
  | cons a t ih =>
    cases i with
    | zero =>
      cases j with
      | zero => exact absurd rfl h
      | succ j => rfl
    | succ i =>
      cases j with
      | zero => rfl
      | succ j => exact ih (by omega)

theorem lmod_getElem?_self {α : Type} (l : List α) (i : Nat) (f : α → α) : (lmod l i f)[i]? = l[i]?.map f := by
  induction l generalizing i with
  | nil => rfl
  | cons a t ih =>
    cases i with
    | zero => rfl
    | succ i => exact ih i

@[simp] theorem lmod_length {α : Type} (l : List α) (i : Nat) (f : α → α) : (lmod l i f).length = l.length := by
  induction l generalizing i with
  | nil => rfl
  | cons a t ih =>
    cases i with
    | zero => rfl
    | succ i => exact congrArg (· + 1) (ih i)

/-- A commit leaves the stores that none of its objects is in. -/
theorem State.commitPaired_stores (s : State) (changes : List (Nat × Int)) {n : Nat} (h : ∀ e ∈ changes, storeOf e.1 ≠ n) :
    (s.commitPaired changes).stores[n]? = s.stores[n]? := by
  unfold State.commitPaired
  split
  · rfl
  · dsimp only
    rw [show ∀ (t : State) (k m : Nat), (t.bumpBy k m).stores = t.stores from
      fun t k m => State.bumpBy_frame (p := .stores) t k m (by decide)]
    refine List.foldlRecOn (motive := fun st : List PStore => st[n]? = s.stores[n]?) _ _ rfl fun st hst p touched => ?_
    obtain ⟨-, e, member, store⟩ : _ ∧ ∃ e ∈ changes, storeOf e.1 = p := by simpa using touched
    exact (lmod_getElem?_ne st _ fun np => h e member (store.trans np.symm)).trans hst

theorem State.setPaired_stores (s : State) (k : Nat) (v : Int) {n : Nat} (h : storeOf k ≠ n) :
    (s.setPaired k v).stores[n]? = s.stores[n]? := s.commitPaired_stores _ (by simpa using h)

/-! ### A start out of regional role -/

/-- The store of the journal of Casket holds a bank that is not blank. -/
def State.writtenStore11 (s : State) : Prop := (s.stores[11]?.map fun p => Nat.ble p.a.state 1 && Nat.ble p.b.state 1) = some false

theorem State.writtenStore11.of_eq {s t : State} (h : s.writtenStore11) (stores : t.stores[11]? = s.stores[11]?) : t.writtenStore11 := by
  rwa [State.writtenStore11, stores]

theorem State.stepFive_store11 {s : State} (b : Board) (h : s.writtenStore11) : (s.stepFive b).writtenStore11 := by
  have stores : (s.stepFive b).stores = s.stores.map PStore.choose := by
    change Part.of .stores _ = _
    simp (disch := decide) only [State.stepFive, ↓State.pcieUp_frame, ↓State.copyClasp_frame, ↓Part.of_set, ↓State.bumpBy_frame]
    rfl
  unfold State.writtenStore11 at h ⊢
  rw [stores, List.getElem?_map, Option.map_map]
  exact h

theorem State.stepSix_store11 {s : State} (b : Board) (h : s.writtenStore11) : (s.stepSix b).writtenStore11 := by
  refine h.of_eq ?_
  unfold State.stepSix
  dsimp only
  split
  · rfl
  · exact State.setPaired_stores _ _ _ (by decide)

/-- DDR below 8 GiB is for field role alone. -/
theorem State.stepSix_regional {s : State} {b : Board} (ddr : b.ddrGiB < 8) : (s.stepSix b).pw.regional = false := by
  have small : Nat.ble 8 b.ddrGiB = false := by
    rw [Bool.eq_false_iff, ne_eq, Nat.ble_eq]
    omega
  unfold State.stepSix
  dsimp only
  split <;> simp only [small, Bool.and_false, State.set]

theorem State.stepSeven_of_written {s t : State} {b : Board} (h : s.writtenStore11) (e : s.stepSeven b = some t) :
    t = { s with pw.stage := 7 }.mountOld b := by
  unfold State.writtenStore11 at h
  simp only [State.stepSeven, h, Option.getD_some, Bool.false_eq_true, if_false, Option.ite_none_left_eq_some, Option.some.injEq] at e
  exact e.2.2.symm

/-- A registry that does not fit field role stops the start at step 8, if step 7 does not. -/
theorem State.startSix_stops {s : State} {b : Board} (ddr : 2 ≤ b.ddrGiB ∧ b.ddrGiB < 8) (store : s.writtenStore11)
    (placed : s.pw.placed = true) (misfit : ∃ e ∈ s.nand.recs, e.2.state ≠ 0 ∧ 0xFFFF < tagIndex e.1) :
    (s.startSix b).pw.stage = 0x87 ∨ (s.startSix b).pw.stage = 0x88 := by
  have field := s.stepSix_regional ddr.2
  unfold State.startSix
  dsimp only
  rw [if_neg (by omega)]
  split
  · exact .inl rfl
  · next t mounted =>
    have mounted := State.stepSeven_of_written (State.stepSix_store11 b store) mounted
    have pw : t.pw = { (s.stepSix b).pw with stage := 7 } := by
      rw [mounted]
      exact State.mountOld_frame (p := .pw) _ b (by decide)
    have recs : t.nand.recs = s.nand.recs := by
      rw [mounted]
      exact (State.mountOld_frame (p := .recs) _ b (by decide)).trans (State.stepSix_frame (p := .recs) s b (by decide))
    have unfit : ∀ u : State, u.nand.recs = s.nand.recs → u.fitsField = false := fun u hu => by
      obtain ⟨e, member, state, index⟩ := misfit
      rw [State.fitsField, hu, List.all_eq_false]
      exact ⟨e, member, by simp [state]; omega⟩
    have stops : { t with bat.activeMark := true }.stepEight b s.shutdownOf s.pw.placed = none := by
      unfold State.stepEight
      dsimp only
      rw [if_pos]
      have regional : t.pw.regional = false := by rw [pw]; exact field
      have fits : ({ ({ t with bat.activeMark := true } : State).loadSealed with pw.stage := 8 } : State).fitsField = false := unfit _
          recs
      rw [placed, fits]
      change (true && !t.pw.regional && !false) = true
      rw [regional]
      rfl
    rw [stops]
    exact .inr rfl

/-- A part held by PORST_N that comes out of regional role (R470): its registry is laid out for that role and holds a record whose index
is beyond those of field role. Store 11 passes, so nothing erases the record. -/
def partOutOfRegionalRole : State :=
  { State.reset with
    pw.placed := true
    stores := State.reset.stores.set 11 { PStore.blank with a := { state := 2, seq := 0, entries := [] } }
    nand.recs := [(2097151, { Record.blank with tag := 2097151, state := 1 })] }

/-- A board with 4 GiB of DDR on which every test passes. -/
def boardInOrder : Board :=
  { fuseOk := true, fuseVariant := 0, pllOk := true, ddrGiB := 4, ddrCacheOk := true, bist0Ok := true, bist1Ok := true,
    entropyOk := true, nandOk := true, mirrorsOk := true, nandErased := true, chipEnables := 4, ceMiB := 65536, goodBlocks := 4096,
    unitsPerBlock := 256, pcieGen := 4, pcieWidth := 8, startMs := 900, lostIngest := [], lostRecords := [] }

theorem partOutOfRegionalRole_startable : partOutOfRegionalRole.Startable boardInOrder := by decide +kernel

/-- Its start stops at step 7 or 8. -/
theorem partOutOfRegionalRole_stops :
    (partOutOfRegionalRole.porstRelease boardInOrder).pw.stage = 0x87 ∨ (partOutOfRegionalRole.porstRelease boardInOrder).pw.stage = 0x88
        := by
  obtain ⟨i, image⟩ := State.bootImage_of_passes (s := partOutOfRegionalRole) (by decide)
  have run := State.start_of_pairs (b := boardInOrder) rfl image rfl rfl
  rw [if_neg (by decide)] at run
  change (partOutOfRegionalRole.start boardInOrder true).pw.stage = _ ∨ (partOutOfRegionalRole.start boardInOrder true).pw.stage = _
  rw [run]
  refine State.startSix_stops (by decide) (State.stepFive_store11 _ ?_) ?_ ?_
  · refine State.writtenStore11.of_eq (s := partOutOfRegionalRole) rfl ?_
    change (Part.of .stores _)[11]? = _
    simp (disch := decide) only [↓State.stepFour_frame, ↓State.boots_frame, ↓State.stepTwo_frame]
    rfl
  · rw [State.toStepFive_pw]
    rfl
  · have recs := State.toStepFive_frame (p := .recs) partOutOfRegionalRole.started i boardInOrder (by decide)
    refine ⟨(2097151, { Record.blank with tag := 2097151, state := 1 }), ?_, by decide⟩
    change _ ∈ Part.of .recs _
    rw [recs]
    exact List.mem_singleton_self _

/-- Refutes O1: `State.Startable` asks that the part is not in regional role now, and not that its registry was laid out for the role it
starts in. On `partOutOfRegionalRole` the start stops at stage 0x87 or 0x88 with every hypothesis met. -/
theorem not_startRunsThrough : ¬ Obligations.StartRunsThrough := by
  unfold Obligations.StartRunsThrough
  intro h
  obtain ⟨t, runs, stage, -⟩ := (h _ _ partOutOfRegionalRole_startable).1 rfl
  obtain rfl : partOutOfRegionalRole.porstRelease boardInOrder = t := Host.Outcome.next.inj runs
  obtain stops | stops := partOutOfRegionalRole_stops <;> exact absurd (stops.symm.trans stage) (by decide)

end Sys2Proof.Machine

namespace Sys2Proof.Machine

set_option Elab.async false

/-! ## The power-fail sequence (R419) -/

/-- The input of PFI_N is a tamper source without a response. -/
theorem State.tamper_pfi_frame {p : Part} (s : State) (h : p ∉ [Part.free, .cat, .bat, .hif, .logs]) : p.of (s.tamper 11) = p.of s := by
  have silent : ∀ t : State, t.tamperResponse 11 = 0 := fun t => rfl
  simp only [Part.outside] at h
  simp only [State.tamper, silent, if_true, OfNat.zero_ne_ofNat, Nat.reduceEqDiff, if_false, ↓Part.of_ite, ↓State.recordTamper_frame,
    ↓State.modSource_frame, Part.outside, h, not_false_eq_true, and_self, ite_self]

theorem State.powerFail_pw (s : State) (cause : Nat) :
    (s.powerFail cause).pw = { s.pw with cause := cause, pfiAt := s.now, standby := false } := by
  change Part.of .pw _ = _
  simp (disch := decide) only [State.powerFail, ↓State.assertSafe_frame, ↓State.set_frame, ↓State.bistAbort_frame, ↓Part.of_ite,
    ↓State.clockChange_frame, ↓State.dropEarly_frame, ↓State.raise_frame, ite_self]
  rfl

theorem State.powerFail_suspended (s : State) (cause : Nat) : (s.powerFail cause).cask.suspended = true := by
  have cask : (s.powerFail cause).cask = { s.cask with suspended := true } := by
    change Part.of .cask _ = _
    simp (disch := decide) only [State.powerFail, ↓State.assertSafe_frame, ↓State.set_frame, ↓State.bistAbort_frame, ↓Part.of_ite,
      ↓State.clockChange_frame, ↓State.dropEarly_frame, ↓State.raise_frame, ite_self]
    rfl
  rw [cask]

theorem State.assertSafe_safe (s : State) : s.assertSafe.pins.safe = true := by
  unfold State.assertSafe
  split
  · assumption
  · exact congrArg Pins.safe (State.raise_frame (p := .pins) _ 21 (by decide))

theorem State.powerFail_safe (s : State) (cause : Nat) : (s.powerFail cause).pins.safe = true := State.assertSafe_safe _

/-- Of the pins, the sequence moves SAFE_N alone. -/
theorem State.assertSafe_pins (s : State) : s.assertSafe.pins = { s.pins with safe := true } := by
  unfold State.assertSafe
  split
  · next safe => rw [← safe]
  · exact State.raise_frame (p := .pins) _ 21 (by decide)

theorem State.powerFail_pins (s : State) (cause : Nat) : (s.powerFail cause).pins = { s.pins with safe := true } := by
  have pins : Part.of .pins (s.powerFail cause) = _ := State.assertSafe_pins _
  refine pins.trans (congrArg (fun x : Pins => { x with safe := true }) ?_)
  change Part.of .pins _ = _
  simp (disch := decide) only [↓State.set_frame, ↓State.bistAbort_frame, ↓Part.of_ite, ↓State.clockChange_frame, ↓State.dropEarly_frame,
    ↓State.raise_frame, ite_self]
  rfl

theorem State.powerFail_states (s : State) (cause : Nat) :
    (s.powerFail cause).get Obj.powerState = 3 ∧ (s.powerFail cause).get Obj.gateState = 3 := by
  rw [State.get_eq_cell, State.get_eq_cell]
  simp (disch := decide) only [State.cell, State.powerFail, ↓State.assertSafe_frame, ↓State.set_cell, ↓State.set_cell_self, and_self]

theorem State.gaspOf_cause (s : State) (t : Nat) : (s.gaspOf t).pw.cause = s.pw.cause := by
  unfold State.gaspOf
  split
  · dsimp only
    split
    · rfl
    · exact congrArg Power.cause (State.hqComplete_frame (p := .pw) _ _ _ _ _ _ _ _ _ (by decide))
  · rfl

theorem State.gaspOf_cell (s : State) (t : Nat) {k : Nat} (h : Unrecorded k) : (s.gaspOf t).cell k = s.cell k := by
  unfold State.gaspOf
  split
  · dsimp only
    split
    · rfl
    · exact State.hqCompleteAt_cell _ _ _ _ _ _ _ _ _ _ (h.ne_hqKey _ _)
  · rfl

/-- The last gasps leave the sequence and what it set. -/
theorem State.lastGasp_keeps (s : State) : s.lastGasp.pw.cause = s.pw.cause ∧ ∀ k, Unrecorded k → s.lastGasp.cell k = s.cell k := by
  have cause := fun (l : List Nat) => List.foldlRecOn (motive := fun u : State => u.pw.cause = s.pw.cause) l State.gaspOf rfl
    fun u hu t _ => (u.gaspOf_cause t).trans hu
  have cells := fun (l : List Nat) {k : Nat} (h : Unrecorded k) => State.foldl_cell (fun u t => u.gaspOf_cell t h) l s
  unfold State.lastGasp
  dsimp only
  split <;> exact ⟨cause _, fun k h => cells _ h⟩

/-- What PFI_N asserted starts where no sequence runs. -/
theorem State.pfiAssert_of_running {s : State} (running : s.pastFive = true) (cause : s.pw.cause = 0) :
    ∃ u : State, s.pfiAssert = (u.powerFail 1).lastGasp ∧ u.pins.pfi = true := by
  unfold State.pfiAssert
  extract_lets _ _ s1 s2
  have kept : Part.of .pw s2 = Part.of .pw s1 ∧ Part.of .pins s2 = Part.of .pins s1 := by
    simp (disch := decide) only [s2, ↓Part.of_ite, ↓State.tamper_pfi_frame, ite_self, and_self]
  obtain ⟨pw, pins⟩ : s2.pw = { s.pw with releasedAt := none } ∧ s2.pins = s1.pins := kept
  have pfi : s2.pins.pfi = true := by rw [pins]
  have runs : s2.pastFive = true := by
    rw [← running]
    simp only [State.pastFive, State.awake, pw, pins, s1]
    rfl
  have none : s2.pw.cause = 0 := by rw [pw, cause]
  clear_value s2
  rw [if_neg (by simp [runs]), if_neg (by simp [none])]
  exact ⟨s2, rfl, pfi⟩

theorem State.allProgrammed_done (s : State) : s.allProgrammed.cask.dirty = 0 ∧ s.allProgrammed.nandProg = s.allProgrammed.nand := by
  refine ⟨?_, rfl⟩
  unfold State.allProgrammed
  exact congrArg Casket.dirty (State.storeKeys_frame (p := .cask) _ (by decide))

theorem State.storeKeys_operatingTime (s : State) : s.storeKeys.get Obj.operatingTimeMs = s.get Obj.operatingTimeMs := by
  unfold State.storeKeys
  split
  · rfl
  · refine (State.commitPaired_cell _ _ ?_ (by decide)).trans rfl
    simp only [List.mem_map, List.mem_range, forall_exists_index, and_imp]
    rintro e t small rfl
    simp only [Obj.operatingTimeMs, Obj.keyUpdateCounter]
    omega

/-- At the end of a power-fail sequence everything committed is programmed and PWR_SAFE stands. -/
theorem State.makeSafe_done (s : State) :
    s.makeSafe.pins.pwrSafe = true ∧ s.makeSafe.bat.activeMark = false ∧ s.makeSafe.cask.dirty = 0 ∧
      s.makeSafe.nandProg = s.makeSafe.nand ∧ s.makeSafe.bat.opTime = s.nat Obj.operatingTimeMs := by
  obtain ⟨dirty, programmed⟩ := s.allProgrammed_done
  exact ⟨rfl, rfl, dirty, programmed, congrArg Int.toNat (State.storeKeys_operatingTime _)⟩

/-- Settles O3. -/
theorem powerFailSequence : Obligations.PowerFailSequence := by
  refine ⟨fun s running cause => ?_, fun s running cause unsafe_ => ?_⟩
  · obtain ⟨u, run, pfi⟩ := State.pfiAssert_of_running running cause
    obtain ⟨kept, cells⟩ := (u.powerFail 1).lastGasp_keeps
    obtain ⟨power, gate⟩ := u.powerFail_states 1
    have pins : (u.powerFail 1).lastGasp.pins = _ := (State.lastGasp_frame (p := .pins) _ (by decide)).trans (u.powerFail_pins 1)
    have cask : (u.powerFail 1).lastGasp.cask = (u.powerFail 1).cask := State.lastGasp_frame (p := .cask) _ (by decide)
    refine ⟨s.pfiAssert, rfl, ?_⟩
    rw [run, pins, cask, kept, State.get_eq_cell, State.get_eq_cell, cells _ (by decide), cells _ (by decide), u.powerFail_pw]
    exact ⟨pfi, rfl, power, gate, rfl, u.powerFail_suspended 1⟩
  · refine ⟨s.makeSafe, ?_, s.makeSafe_done.1, s.makeSafe_done.2⟩
    change Host.Outcome.next (if s.pastFive && s.pw.cause != 0 && !s.pins.pwrSafe then s.makeSafe else s) = _
    rw [if_pos (by simp [running, cause, unsafe_])]

end Sys2Proof.Machine

namespace Sys2Proof.Machine

set_option Elab.async false

/-! ## Bits of a number -/

theorem bit_zero (w : Nat) : bit w 0 = decide (w % 2 = 1) := Nat.testBit_zero w

theorem bit_succ (w n : Nat) : bit w (n + 1) = bit (w / 2) n := Nat.testBit_add_one w n

theorem and_mod_two (w v : Nat) : (w &&& v) % 2 = (w % 2) * (v % 2) := by
  have h : (w &&& v) % 2 = w % 2 &&& v % 2 := Nat.and_mod_two_pow (n := 1)
  rcases Nat.mod_two_eq_zero_or_one w with a | a <;> rcases Nat.mod_two_eq_zero_or_one v with b | b <;> rw [h, a, b] <;> rfl

/-- Clearing is bit by bit. -/
theorem bit_clearBits (w v n : Nat) : bit (clearBits w v) n = (bit w n && !bit v n) := by
  unfold clearBits
  induction n generalizing w v with
  | zero =>
    have le : w &&& v ≤ w := Nat.and_le_left
    have low := and_mod_two w v
    rw [bit_zero, bit_zero, bit_zero]
    rcases Nat.mod_two_eq_zero_or_one w with a | a <;> rcases Nat.mod_two_eq_zero_or_one v with b | b <;>
      rw [a, b] at low <;> simp [a, b] <;> omega
  | succ n ih =>
    have half : (w - (w &&& v)) / 2 = w / 2 - (w / 2 &&& v / 2) := by
      have le : w &&& v ≤ w := Nat.and_le_left
      have low : (w &&& v) % 2 ≤ w % 2 := by
        rw [and_mod_two]
        rcases Nat.mod_two_eq_zero_or_one v with b | b <;> simp [b]
      have whole : (w &&& v) / 2 = w / 2 &&& v / 2 := Nat.and_div_two
      omega
    rw [bit_succ, bit_succ, bit_succ, half, ih]

/-- A bit is set or cleared for itself. -/
theorem bit_setBit (w n m : Nat) (b : Bool) : bit (setBit w n b) m = if m = n then b else bit w m := by
  induction n generalizing w m with
  | zero =>
    have half : setBit w 0 b / 2 = w / 2 ∧ setBit w 0 b % 2 = b2n b := by
      unfold setBit
      rw [bit_zero]
      rcases Nat.mod_two_eq_zero_or_one w with a | a <;> cases b <;> simp [a, b2n] <;> omega
    cases m with
    | zero => rw [bit_zero, half.2, if_pos rfl]; cases b <;> rfl
    | succ m => rw [bit_succ, half.1, bit_succ, if_neg (by simp)]
  | succ n ih =>
    have half : setBit w (n + 1) b / 2 = setBit (w / 2) n b ∧ setBit w (n + 1) b % 2 = w % 2 := by
      have two : 2 ^ (n + 1) = 2 * 2 ^ n := by rw [Nat.pow_succ, Nat.mul_comm]
      unfold setBit
      rw [bit_succ, two]
      split
      · exact ⟨rfl, rfl⟩
      · rename_i differs
        cases b with
        | true => exact ⟨by simp; omega, by simp⟩
        | false =>
          have : 2 ^ n ≤ w / 2 := Nat.ge_two_pow_of_testBit (by simpa [bit] using differs)
          exact ⟨by simp; omega, by simp; omega⟩
    cases m with
    | zero => rw [bit_zero, half.2, bit_zero, if_neg (by simp)]
    | succ m => rw [bit_succ, half.1, bit_succ, ih]; simp

@[simp] theorem bit_setBit_self (w n : Nat) (b : Bool) : bit (setBit w n b) n = b := by rw [bit_setBit, if_pos rfl]

end Sys2Proof.Machine

namespace Sys2Proof.Machine

set_option Elab.async false

/-! ## Interrupts of the host interface (R285, R287) -/

/-- A message changes what has been sent, or the pending bit of a masked vector. -/
theorem State.msi_hif (s : State) (n : Nat) : (s.msi n).hif = { s.hif with pba := (s.msi n).hif.pba, sent := (s.msi n).hif.sent } := by
  unfold State.msi
  split
  · rfl
  · split <;> rfl

/-- An event changes the cause, and what its message changes. -/
theorem State.raise_hif (s : State) (n : Nat) :
    (s.raise n).hif = { s.hif with
      cause := (s.raise n).hif.cause, pba := (s.raise n).hif.pba, sent := (s.raise n).hif.sent } := by
  unfold State.raise
  split
  · rfl
  · dsimp only
    split
    · rw [State.msi_hif]
    · rfl

/-- An event sets its bit of HIF_INT_CAUSE and no other. -/
theorem State.raise_cause (s : State) (n m : Nat) : bit (s.raise n).hif.cause m = (bit s.hif.cause m || m == n) := by
  have set : bit (setBit s.hif.cause n true) m = (bit s.hif.cause m || m == n) := by
    rw [bit_setBit]
    split <;> simp_all
  unfold State.raise
  split
  · rename_i already
    by_cases h : m = n
    · rw [h, already]; rfl
    · simp [h]
  · dsimp only
    split
    · rw [State.msi_hif]; exact set
    · exact set

@[simp] theorem State.raise_cause_self (s : State) (n : Nat) : bit (s.raise n).hif.cause n = true := by simp [State.raise_cause]

/-- A vector that is not masked sends one message, and no other vector sends. -/
theorem State.msi_sent (s : State) (n m : Nat) (up : s.hostUp = true) (unmasked : (tget s.hif.msix (4 * m + 3)).getD 1 % 2 = 0) :
    (tget (s.msi n).hif.sent m).getD 0 = (tget s.hif.sent m).getD 0 + if m = n then 1 else 0 := by
  unfold State.msi
  rw [if_neg (by simp [up])]
  by_cases h : m = n
  · subst h
    rw [if_neg (by omega), if_pos rfl]
    simp
  · rw [if_neg h]
    split
    · rfl
    · exact congrArg (fun x => Option.getD x 0) (tget_tput_ne _ _ h)

/-- The messages of the first `k` vectors when HIF_INT_ENABLE `old` becomes `v`. -/
def State.enableSends (s : State) (v old k : Nat) : State :=
  (List.range k).foldl (fun t n => if bit t.hif.cause n && bit v n && !bit old n then t.msi n else t) s

theorem State.enableSends_succ (s : State) (v old k : Nat) : s.enableSends v old (k + 1) =
    if bit (s.enableSends v old k).hif.cause k && bit v k && !bit old k then (s.enableSends v old k).msi k else s.enableSends v old k :=
        by
  unfold State.enableSends
  rw [List.range_succ, List.foldl_append]
  rfl

/-- The messages change what has been sent and the pending bits alone. -/
theorem State.enableSends_keeps (s : State) (v old k : Nat) : (s.enableSends v old k).cat = s.cat ∧ (s.enableSends v old k).hif =
    { s.hif with pba := (s.enableSends v old k).hif.pba, sent := (s.enableSends v old k).hif.sent } := by
  induction k with
  | zero => exact ⟨rfl, rfl⟩
  | succ k ih =>
    obtain ⟨cat, hif⟩ := ih
    rw [State.enableSends_succ]
    generalize s.enableSends v old k = t at cat hif
    split
    · exact ⟨(State.msi_frame (p := .cat) _ _ (by decide)).trans cat, by rw [State.msi_hif, hif]⟩
    · exact ⟨cat, hif⟩

/-- Every vector whose bit becomes enabled while its cause stands sends once. -/
theorem State.enableSends_sent (s : State) (v old k m : Nat) (up : s.hostUp = true)
    (unmasked : (tget s.hif.msix (4 * m + 3)).getD 1 % 2 = 0) :
    (tget (s.enableSends v old k).hif.sent m).getD 0 =
      (tget s.hif.sent m).getD 0 + if m < k ∧ (bit s.hif.cause m && bit v m && !bit old m) = true then 1 else 0 := by
  induction k with
  | zero => simp [State.enableSends]
  | succ k ih =>
    obtain ⟨cat, hif⟩ := s.enableSends_keeps v old k
    rw [State.enableSends_succ]
    generalize s.enableSends v old k = t at cat hif ih
    have up' : t.hostUp = true := (congrArg (fun c => (catGet c Obj.hostLink).toNat != 0) cat).trans up
    have cause : t.hif.cause = s.hif.cause := by rw [hif]
    have sent := t.msi_sent k m up' (by rw [hif]; exact unmasked)
    rw [cause]
    by_cases h : m = k
    · subst h
      by_cases c : (bit s.hif.cause m && bit v m && !bit old m) = true <;> simp [c, sent, ih]
    · have below : m < k + 1 ↔ m < k := by omega
      simp only [below, ← ih]
      split
      · simp [sent, h]
      · rfl

/-- Settles O11. -/
theorem interruptRegisters : Obligations.InterruptRegisters := by
  refine ⟨fun s v bar => ?_, fun s v bar => ?_, fun s v bar busy valid enabled low high => ?_, fun s v bar busy room => ?_,
    fun s bar => ?_⟩
  · refine ⟨{ s with hif.cause := clearBits s.hif.cause v.toNat }, ?_, rfl, rfl, fun n _ => bit_clearBits _ _ _⟩
    exact congrArg Host.Outcome.next (if_pos bar)
  · obtain ⟨cat, hif⟩ := State.enableSends_keeps { s with hif.enable := v.toNat % 16777216 } v.toNat s.hif.enable 24
    have run : s.enableWrite v.toNat = State.enableSends { s with hif.enable := v.toNat % 16777216 } v.toNat s.hif.enable 24 :=
      if_neg (by simp [bar])
    refine ⟨s.enableWrite v.toNat, rfl, ?_, ?_, ?_, fun n below unmasked => ?_⟩
    · rw [run, hif]
    · rw [run, hif]
    · rw [run, cat]
    · have up : s.hostUp = true := (Bool.and_eq_true _ _ ▸ bar).2
      rw [run]
      refine (State.enableSends_sent { s with hif.enable := v.toNat % 16777216 } _ _ _ _ up unmasked).trans ?_
      simp [below]
  · have run : s.mailboxDoorbell v.toNat = State.raise { s with hif.mb.busy := true } 17 := by
      unfold State.mailboxDoorbell
      rw [if_neg (by simp [bar]), if_neg (by simp [busy, valid, enabled]), if_neg (by omega)]
    refine ⟨s.mailboxDoorbell v.toNat, rfl, ?_, ?_, ?_⟩
    · rw [run, State.raise_hif]
    · rw [run, State.raise_cause_self]
    · rw [run]
      exact State.raise_frame (p := .sessions) _ _ (by decide)
  · have run : s.mailboxDoorbell v.toNat = s.bump Obj.mailboxBusyWrites := by
      unfold State.mailboxDoorbell
      rw [if_neg (by simp [bar]), if_pos (by simp [busy])]
    refine ⟨s.mailboxDoorbell v.toNat, rfl, ?_, ?_⟩
    · rw [run]
      exact State.bump_frame (p := .hif) _ _ (by decide)
    · rw [run]
      exact s.bump_cell_self room
  · exact congrArg Host.Outcome.next (if_pos bar)

end Sys2Proof.Machine

namespace Sys2Proof.Machine

set_option Elab.async false

/-! ## Host queues (R286, R288, R289) -/

theorem testBit_bits (w hi lo n : Nat) : (bits w hi lo).testBit n = (decide (n < hi + 1 - lo) && bit w (n + lo)) := by
  unfold bits bit
  rw [Nat.testBit_mod_two_pow, Nat.testBit_div_two_pow, Nat.add_comm]

/-- A field is left by a bit above it. -/
theorem bits_setBit_above (w : Nat) {hi lo n : Nat} (b : Bool) (h : hi < n) : bits (setBit w n b) hi lo = bits w hi lo := by
  refine Nat.eq_of_testBit_eq fun i => ?_
  rw [testBit_bits, testBit_bits, bit_setBit]
  by_cases inside : i < hi + 1 - lo
  · rw [if_neg (by omega)]
  · simp [inside]

/-! ### One queue -/

theorem State.modHq_hqOf_self (s : State) (q : Nat) (f : HostQueue → HostQueue) : (s.modHq q f).hqOf q = (s.hqOf q).map f :=
  lmod_getElem?_self _ _ _

theorem State.modHq_hqOf_ne (s : State) {q j : Nat} (f : HostQueue → HostQueue) (h : j ≠ q) : (s.modHq q f).hqOf j = s.hqOf j :=
  lmod_getElem?_ne _ _ h

theorem State.raise_hqOf (s : State) (n q : Nat) : (s.raise n).hqOf q = s.hqOf q := by
  unfold State.hqOf
  rw [State.raise_hif]

theorem State.hqOf_of_hif {s t : State} (h : Part.of .hif t = Part.of .hif s) (q : Nat) : t.hqOf q = s.hqOf q :=
  congrArg (fun x : HostIf => x.hq[q]?) (h : t.hif = s.hif)

theorem State.bump_hqOf (s : State) (k q : Nat) : (s.bump k).hqOf q = s.hqOf q :=
  State.hqOf_of_hif (State.bump_frame (p := .hif) s k (by decide)) q

theorem State.bumpBy_hqOf (s : State) (k n q : Nat) : (s.bumpBy k n).hqOf q = s.hqOf q :=
  State.hqOf_of_hif (State.bumpBy_frame (p := .hif) s k n (by decide)) q

/-! ### What no delivery changes of a queue: everything but what it posts, completes and gives -/

/-- A queue without its descriptors and counts. -/
def HostQueue.control (h : HostQueue) : HostQueue :=
  { h with head := 0, starved := false, posted := [], done := [], given := [], uncounted := 0, logNext := [] }

/-- Two states whose queues differ in their descriptors alone. -/
def State.SameControl (s t : State) : Prop := ∀ q, (t.hqOf q).map HostQueue.control = (s.hqOf q).map HostQueue.control

theorem State.SameControl.refl (s : State) : s.SameControl s := fun _ => rfl

theorem State.SameControl.trans {s t u : State} (h : s.SameControl t) (k : t.SameControl u) : s.SameControl u := fun q => (k q).trans (h
    q)

theorem State.SameControl.of_hif {s t : State} (h : Part.of .hif t = Part.of .hif s) : s.SameControl t := fun q =>
  congrArg (Option.map HostQueue.control) (State.hqOf_of_hif h q)

theorem State.SameControl.modHq (s : State) (q : Nat) {f : HostQueue → HostQueue}
    (h : ∀ x, (f x).control = x.control := by exact fun _ => rfl) :
    s.SameControl (s.modHq q f) := by
  intro j
  by_cases same : j = q
  · subst same
    rw [State.modHq_hqOf_self, Option.map_map]
    exact congrArg (fun g => Option.map g (s.hqOf j)) (funext h)
  · rw [State.modHq_hqOf_ne _ _ same]

theorem State.SameControl.raise {s t : State} (h : s.SameControl t) (n : Nat) : s.SameControl (t.raise n) :=
  h.trans fun q => congrArg (Option.map HostQueue.control) (t.raise_hqOf n q)

theorem State.SameControl.bump {s t : State} (h : s.SameControl t) (k : Nat) : s.SameControl (t.bump k) :=
  h.trans (.of_hif (State.bump_frame (p := .hif) _ _ (by decide)))

theorem State.SameControl.bumpBy {s t : State} (h : s.SameControl t) (k n : Nat) : s.SameControl (t.bumpBy k n) :=
  h.trans (.of_hif (State.bumpBy_frame (p := .hif) _ _ _ (by decide)))

theorem State.SameControl.foldl {α : Type} {f : State → α → State} (hf : ∀ (t : State) (a : α),
    t.SameControl (f t a)) (l : List α) (s : State) :
    s.SameControl (l.foldl f s) :=
  List.foldlRecOn (motive := fun t : State => s.SameControl t) l f (.refl s) fun t ht a _ => ht.trans (hf t a)

/-- A field of the queue's control is that of the queue before. -/
theorem State.SameControl.map {s t : State} (h : s.SameControl t) (q : Nat) {α : Type} (f : HostQueue → α) (hf : ∀ x, f x.control = f x) :
    (t.hqOf q).map f = (s.hqOf q).map f := by
  have same := congrArg (Option.map f) (h q)
  rw [Option.map_map, Option.map_map] at same
  rwa [show f ∘ HostQueue.control = f from funext hf] at same

theorem State.hqSignal_sameControl (s : State) (q : Nat) : s.SameControl (s.hqSignal q) := by
  unfold State.hqSignal
  split
  · exact .refl s
  · dsimp only
    split
    · exact .refl s
    · split
      · exact .raise (.modHq s q) q
      · exact .refl s

theorem State.hqCompleteAt_sameControl (s : State) (stamp q n len cls word status extra data : Nat) :
    s.SameControl (s.hqCompleteAt stamp q n len cls word status extra data) := by
  unfold State.hqCompleteAt
  split
  · exact .refl s
  · exact State.SameControl.trans (.bumpBy (.modHq s q) _ n) (State.hqSignal_sameControl _ q)

theorem State.hqComplete_sameControl (s : State) (q n len cls word status extra data : Nat) :
    s.SameControl (s.hqComplete q n len cls word status extra data) := s.hqCompleteAt_sameControl _ _ _ _ _ _ _ _ _

theorem State.hqStarve_sameControl (s : State) (q : Nat) : s.SameControl (s.hqStarve q) :=
  .raise (.bump (.modHq s q) _) 18

theorem State.hqAbort_sameControl (s : State) (q : Nat) : s.SameControl (s.hqAbort q) := by
  unfold State.hqAbort
  split
  · split
    · exact .refl s
    · exact s.hqComplete_sameControl _ _ _ _ _ _ _ _
  · exact .refl s

theorem State.takeBack_sameControl (s : State) (q : Nat) : s.SameControl (s.takeBack q) := by
  unfold State.takeBack
  split
  · exact .refl s
  · exact State.SameControl.modHq s q

theorem State.pumpList_sameControl (q : Nat) (bs : List Batch) (s : State) : s.SameControl (s.pumpList q bs) := by
  induction bs generalizing s with
  | nil => exact .refl s
  | cons b bs ih =>
    unfold State.pumpList
    split
    · exact .refl s
    · split
      · split
        · exact .refl s
        · exact s.hqStarve_sameControl q
      · exact .trans (.trans (.modHq s q) (State.hqComplete_sameControl _ _ _ _ _ _ _ _ _)) (ih _)

theorem State.pumpBatches_sameControl (s : State) (q : Nat) : s.SameControl (s.pumpBatches q) := by
  unfold State.pumpBatches
  split
  · exact .refl s
  · split
    · exact State.pumpList_sameControl _ _ _
    · exact .refl s

theorem State.pumpLogTo_sameControl (s : State) (q log : Nat) : s.SameControl (s.pumpLogTo q log) := by
  unfold State.pumpLogTo
  split
  · exact .refl s
  · extract_lets
    split
    · exact .refl s
    · split
      · split
        · exact .refl s
        · exact s.hqStarve_sameControl q
      · refine State.SameControl.trans (t := State.modHq _ q _) ?_ (State.hqComplete_sameControl _ _ _ _ _ _ _ _ _)
        exact State.SameControl.modHq { s with hif.batchSeq := _ } q

theorem State.readTx_sameControl {s t : State} {q : Nat} (h : s.readTx q = some t) : s.SameControl t := by
  unfold State.readTx at h
  split at h
  · cases h
  · dsimp only at h
    split at h
    · cases h
    · split at h
      · cases h
      · split at h
        · cases h
        · split at h
          · split at h
            · cases h
            · cases h
              exact .trans (.bump (.refl s) _) (State.hqComplete_sameControl _ _ _ _ _ _ _ _ _)
          · split at h
            · cases h
            · cases h
              exact .refl s

theorem State.readAll_sameControl (q n : Nat) (s : State) : s.SameControl (s.readAll q n) := by
  induction n generalizing s with
  | zero => exact .refl s
  | succ n ih =>
    unfold State.readAll
    split
    · rename_i t h
      exact (State.readTx_sameControl h).trans (ih t)
    · exact .refl s

theorem State.fillTx_sameControl (s : State) (p : Nat) : s.SameControl (s.fillTx p) :=
  State.SameControl.foldl (fun t k => by
    split
    · exact State.readAll_sameControl _ _ t
    · exact .refl t) _ s

theorem State.hqFeed_sameControl (s : State) (q : Nat) : s.SameControl (s.hqFeed q) := by
  unfold State.hqFeed
  split
  · exact .refl s
  · have batches := s.pumpBatches_sameControl q
    dsimp only
    generalize s.pumpBatches q = t at batches
    have logs : s.SameControl (if t.hostUp then (List.range 4).foldl (fun s l => s.pumpLogTo q l) t else t) := by
      split
      · exact batches.trans (State.SameControl.foldl (fun t l => t.pumpLogTo_sameControl q l) _ t)
      · exact batches
    generalize (if t.hostUp then (List.range 4).foldl (fun s l => s.pumpLogTo q l) t else t) = u at logs
    split
    · exact logs.trans (u.fillTx_sameControl _)
    · exact logs

/-! ### A queue that does not run -/

theorem State.pumpBatches_stopped (s : State) {q : Nat} {h : HostQueue} (found : s.hqOf q = some h) (stopped : h.running = false) :
    s.pumpBatches q = s := by
  unfold State.pumpBatches
  rw [found]
  exact if_neg (by simp [HostQueue.isKind, stopped])

theorem State.pumpLogTo_stopped (s : State) {q : Nat} {h : HostQueue} (log : Nat) (found : s.hqOf q = some h) (stopped : h.running =
    false) :
    s.pumpLogTo q log = s := by
  unfold State.pumpLogTo
  rw [found]
  exact if_pos (by simp [HostQueue.isKind, stopped])

/-- A queue that does not run is fed nothing. -/
theorem State.hqFeed_stopped (s : State) {q : Nat} {h : HostQueue} (found : s.hqOf q = some h) (stopped : h.running = false) :
    s.hqFeed q = s := by
  have logs : (List.range 4).foldl (fun (s : State) l => s.pumpLogTo q l) s = s :=
    List.foldlRecOn (motive := fun t : State => t = s) _ _ rfl fun t ht l _ => ht ▸ s.pumpLogTo_stopped l found stopped
  unfold State.hqFeed
  rw [found]
  dsimp only
  rw [s.pumpBatches_stopped found stopped, if_neg (by simp [HostQueue.isKind, stopped]), logs, ite_self]

theorem State.takeBack_hqOf (s : State) (q : Nat) : ((s.takeBack q).hqOf q).map (·.posted) = (s.hqOf q).map (·.posted) := by
  unfold State.takeBack
  split
  · rfl
  · rename_i h found
    show ((State.modHq s q _).hqOf q).map _ = _
    rw [State.modHq_hqOf_self, Option.map_map]
    rfl

end Sys2Proof.Machine

namespace Sys2Proof.Machine

set_option Elab.async false

theorem State.hostUp_of_bar {s : State} (bar : s.bar = true) : s.awake = true ∧ s.hostUp = true := Bool.and_eq_true _ _ ▸ bar

/-- A queue that a write of its own changes. -/
theorem State.modHq_found {s : State} {q : Nat} {h : HostQueue} (found : s.hqOf q = some h) (f : HostQueue → HostQueue) :
    (s.modHq q f).hqOf q = some (f h) := by rw [State.modHq_hqOf_self, found, Option.map_some]

/-- The queue of a doorbell within its ring. -/
theorem State.hqDoorbell_within {s : State} {q tail : Nat} {h : HostQueue} {posted : List (Nat × Nat)} (bar : s.bar = true)
    (found : s.hqOf q = some h) (enabled : bit h.ctrl 0 = true) (ahead : (tail + 4294967296 - h.head) % 4294967296 ≤ 2 ^ h.size)
    (moved : (tail + 4294967296 - h.tail) % 4294967296 = posted.length) (fits : posted.length ≤ 2 ^ h.size) :
    s.hqDoorbell q tail posted = ((s.modHq q fun h => { h with tail := tail, posted := h.posted ++ posted }).takeBack q).hqFeed q := by
  unfold State.hqDoorbell
  rw [found]
  dsimp only
  rw [if_neg (by simp [bar, enabled]), if_neg (by omega), if_neg (by omega)]

/-- A doorbell within its ring moves the tail, and its descriptors wait where the queue does not run. -/
theorem State.hqDoorbell_moves {s : State} {q tail : Nat} {h : HostQueue} {posted : List (Nat × Nat)} (bar : s.bar = true)
    (found : s.hqOf q = some h) (enabled : bit h.ctrl 0 = true) (ahead : (tail + 4294967296 - h.head) % 4294967296 ≤ 2 ^ h.size)
    (moved : (tail + 4294967296 - h.tail) % 4294967296 = posted.length) (fits : posted.length ≤ 2 ^ h.size) :
    ((s.hqDoorbell q tail posted).hqOf q).map (·.tail) = some tail ∧
      (h.running = false → ((s.hqDoorbell q tail posted).hqOf q).map (·.posted) = some (h.posted ++ posted)) := by
  rw [State.hqDoorbell_within bar found enabled ahead moved fits]
  have posting := State.modHq_found found fun h => { h with tail := tail, posted := h.posted ++ posted }
  generalize State.modHq s q _ = t at posting
  have back := t.takeBack_sameControl q
  refine ⟨?_, fun stopped => ?_⟩
  · rw [(back.trans ((t.takeBack q).hqFeed_sameControl q)).map q (·.tail) fun _ => rfl, posting]
    rfl
  · have runs := back.map q (·.running) fun _ => rfl
    have kept := t.takeBack_hqOf q
    rw [posting] at runs kept
    obtain ⟨x, fed, hx⟩ := Option.map_eq_some_iff.mp runs
    rw [(t.takeBack q).hqFeed_stopped fed (hx.trans stopped), kept]
    rfl

/-- A doorbell beyond the ring is counted and ignored. -/
theorem State.hqDoorbell_beyond {s : State} {q tail : Nat} {h : HostQueue} (posted : List (Nat × Nat)) (bar : s.bar = true)
    (found : s.hqOf q = some h) (enabled : bit h.ctrl 0 = true) (ahead : 2 ^ h.size < (tail + 4294967296 - h.head) % 4294967296) :
    s.hqDoorbell q tail posted = (s.modHq q fun h => { h with doorbellError := true }).bump Obj.doorbellErrors := by
  unfold State.hqDoorbell
  rw [found]
  dsimp only
  rw [if_neg (by simp [bar, enabled]), if_pos (by omega)]

/-- The write that enables a queue, its two reserved bits cleared. -/
theorem State.hqEnable_fresh {s : State} {q : Nat} {h : HostQueue} (ctrl : Word) (bar : s.bar = true) (found : s.hqOf q = some h)
    (disabled : bit h.ctrl 0 = false) :
    let c := setBit (setBit ctrl.toNat 10 false) 11 false
    (s.bindRefused q c = true → s.hqEnable q ctrl.toNat = s.modHq q fun h => { h with ctrl := setBit c 0 false, bindRefused := true }) ∧
      (s.bindRefused q c = false → 4 ≤ bits ctrl.toNat 4 1 →
        s.hqEnable q ctrl.toNat = s.modHq q fun h => { h with ctrl := setBit c 0 true, draining := true }) := by
  have word : ctrl.toNat % 4294967296 = ctrl.toNat := Nat.mod_eq_of_lt ctrl.isLt
  have kind : bits (setBit (setBit ctrl.toNat 10 false) 11 false) 4 1 = bits ctrl.toNat 4 1 := by
    rw [bits_setBit_above _ _ (by decide), bits_setBit_above _ _ (by decide)]
  unfold State.hqEnable
  rw [found]
  dsimp only
  rw [if_neg (by simp [bar])]
  simp only [disabled, word, Bool.false_eq_true, if_false, Bool.not_false, Bool.and_true, Bool.false_and, kind]
  refine ⟨fun refused => if_pos refused, fun accepted midway => ?_⟩
  rw [if_neg (by simp [accepted]), if_pos (by simpa using midway)]

/-- A fault of a queue with nothing posted that is not a receive ring. -/
theorem State.dmaFault_idle {s : State} {q : Nat} {h : HostQueue} (awake : s.awake = true) (found : s.hqOf q = some h)
    (running : h.running = true) (idle : h.posted = []) (kind : bits h.ctrl 4 1 = 1) :
    s.dmaFault q = ((((s.modHq q fun h => { h with fault := true, running := false }).modPort (bits h.ctrl 9 8)
      fun x => { x with tx := x.tx.filter fun f => f.hq != q }).bump Obj.dmaFaults).raise 23) := by
  have posting := State.modHq_found found fun h => { h with fault := true, running := false }
  unfold State.dmaFault
  rw [found]
  dsimp only
  rw [if_neg (by simp [awake, running]), if_neg (by omega)]
  generalize State.modHq s q _ = t at posting
  have abort : ∀ f, (t.modPort (bits h.ctrl 9 8) f).hqAbort q = t.modPort (bits h.ctrl 9 8) f := by
    intro f
    unfold State.hqAbort
    rw [show (t.modPort (bits h.ctrl 9 8) f).hqOf q = _ from posting]
    exact if_pos (by simp [idle])
  rw [abort]

/-- Settles O12. -/
theorem hostQueueBinding : Obligations.HostQueueBinding := by
  refine ⟨fun s q tail h posted bar found enabled ahead moved fits => ?_, fun s q tail h bar found enabled ahead room => ?_,
    fun s q ctrl h bar found disabled midway accepted _ => ?_, fun s q ctrl h bar found disabled refused => ?_,
    fun s q h bar found enabled midway draining => ?_, fun s q h bar found enabled kind _ => ?_,
    fun s q h found draining releasing _ => ?_, fun s q h awake _ found uncounted us => ?_,
    fun s q h awake found running idle kind room => ?_⟩
  · exact ⟨_, rfl, State.hqDoorbell_moves bar found enabled ahead moved fits⟩
  · refine ⟨_, rfl, ?_⟩
    rw [State.hqDoorbell_beyond [] bar found enabled ahead]
    refine ⟨?_, State.bump_cell_self _ room⟩
    rw [State.bump_hqOf, State.modHq_found found]
    rfl
  · refine ⟨_, rfl, ?_⟩
    rw [(State.hqEnable_fresh ctrl bar found disabled).2 accepted midway, State.modHq_found found]
    exact ⟨by simp, rfl, rfl⟩
  · refine ⟨_, rfl, ?_⟩
    rw [(State.hqEnable_fresh ctrl bar found disabled).1 refused, State.modHq_found found]
    exact ⟨by simp, rfl⟩
  · refine ⟨_, rfl, ?_⟩
    unfold State.hqDisable
    rw [found]
    dsimp only
    rw [if_neg (by simp [bar, enabled]), if_pos (by simp [midway, draining]), State.modHq_found found]
    simp
  · refine ⟨_, rfl, ?_⟩
    unfold State.hqDisable
    rw [found]
    dsimp only
    rw [if_neg (by simp [bar, enabled]), if_neg (by simp; omega)]
    obtain ⟨x, aborted, _⟩ := Option.map_eq_some_iff.mp ((s.hqAbort_sameControl q q).trans (congrArg _ found))
    rw [State.modHq_found aborted]
    simp
  · refine ⟨_, rfl, ?_⟩
    unfold State.drainComplete
    rw [found]
    dsimp only
    rw [if_neg (by simp [draining]), if_pos releasing]
    generalize taken : State.modPort s _ _ = t
    have kept : t.hqOf q = some h := by rw [← taken]; exact found
    obtain ⟨x, aborted, _⟩ := Option.map_eq_some_iff.mp ((t.hqAbort_sameControl q q).trans (congrArg _ kept))
    rw [State.modHq_found aborted]
    rfl
  · have run : s.hqCoalesce q = (s.modHq q fun h => { h with uncounted := 0 }).raise q := by
      unfold State.hqCoalesce
      rw [found]
      exact if_pos (by simp [awake, uncounted, us])
    refine ⟨_, rfl, ?_⟩
    rw [run, State.raise_hqOf, State.modHq_found found]
    exact ⟨State.raise_cause_self _ _, rfl⟩
  · refine ⟨_, rfl, ?_⟩
    rw [State.dmaFault_idle awake found running idle kind]
    refine ⟨?_, State.raise_cause_self _ _, ?_, ?_⟩
    · rw [State.raise_hqOf, State.bump_hqOf]
      exact congrArg (Option.map _) (State.modHq_found found _)
    · exact (State.raise_cell _ _ _).trans (State.bump_cell_self _ room)
    · have kept : ∀ u : State, ((u.bump Obj.dmaFaults).raise 23).nand.retained = u.nand.retained := fun u =>
        congrArg Prod.snd ((State.raise_frame (p := .uplinks) _ _ (by decide)).trans (State.bump_frame (p := .uplinks) u _ (by decide)))
      rw [kept]
      rfl

end Sys2Proof.Machine

namespace Sys2Proof.Machine

set_option Elab.async false

/-! ## Registers of BAR0 (R14, R15, R283) and the link (R282, R293) -/

/-- An offset below every Seesaw port. -/
theorem not_seesaw {off : Nat} (h : off < 0x8000) : ¬(Nat.ble seesawBase off && Nat.blt (seesawAt off) 96) = true := by
  have : ¬seesawBase ≤ off := by unfold seesawBase; omega
  simp [this]

/-- A write to the identity registers or to the reserved offsets from 0x4000 on is ignored. -/
theorem State.registerWrite_ignored (s : State) (v : Word) {off : Nat} (bar : s.bar = true)
    (h : off < 0x14 ∨ (0x4000 ≤ off ∧ off < 0x8000)) : s.registerWrite off v = s := by
  unfold State.registerWrite
  dsimp only
  rw [if_neg (not_seesaw (by omega))]
  by_cases aligned : off % 4 = 0
  · rw [if_neg (by simp [bar, aligned]), if_neg (by simp; omega), if_neg (by simp; omega), if_neg (by simp; omega),
      if_neg (by simp; omega), if_neg (by simp; omega), if_neg (by simp; omega)]
    split <;> [omega; omega; omega; omega; omega; rfl]
  · exact if_pos (by simp [aligned])

theorem State.registerWrite_scratch (s : State) (v : Word) (bar : s.bar = true) :
    s.registerWrite 0x14 v = { s with hif.scratch := v.toNat } := by
  unfold State.registerWrite
  dsimp only
  rw [if_neg (not_seesaw (by omega)), if_neg (by simp [bar])]
  rfl

/-- The offset of a register of a host queue, as the window of BAR0 reads it. -/
theorem hq_offset (q r : Nat) (h : r < 0x100) : (0x1000 + 0x100 * q + r - 0x1000) / 256 = q ∧ (0x1000 + 0x100 * q + r) % 256 = r := by
  omega

/-- A write to a register of a host queue. -/
theorem State.registerWrite_hq (s : State) (v : Word) {q r : Nat} (bar : s.bar = true) (queue : q < 16) (small : r < 0x100) (aligned : r
    % 4 = 0) :
    s.registerWrite (0x1000 + 0x100 * q + r) v = s.hqWrite q r v.toNat := by
  obtain ⟨queueIs, offsetIs⟩ := hq_offset q r small
  unfold State.registerWrite
  dsimp only
  rw [if_neg (not_seesaw (by omega)), if_neg (by simp [bar]; omega), if_pos (by simp; omega), queueIs, offsetIs]

/-- The write of HIF_HQ_SIZE. -/
theorem State.hqWrite_size_eq (s : State) (q v : Nat) : s.hqWrite q 0x10 v =
    if ((s.hqOf q).map fun h => !bit h.ctrl 0).getD false && Nat.ble 6 v && Nat.ble v 12 then s.modHq q fun h => { h with size := v }
        else s :=
  rfl

/-- HIF_HQ_SIZE takes a legal size while Enable is 0. -/
theorem State.hqWrite_size {s : State} {q v : Nat} {h : HostQueue} (found : s.hqOf q = some h) (low : 6 ≤ v) (high : v ≤ 12) :
    ((s.hqWrite q 0x10 v).hqOf q).map (·.size) = some (if bit h.ctrl 0 then h.size else v) := by
  rw [State.hqWrite_size_eq, found]
  cases enabled : bit h.ctrl 0
  · rw [if_pos (by simp [enabled, low, high]), State.modHq_found found]
    rfl
  · rw [if_neg (by simp [enabled]), found]
    rfl

/-- A read of HIF_HQ_COMPLETED returns the count and clears it. -/
theorem State.rcRead_completed {s : State} {q : Nat} {h : HostQueue} (bar : s.bar = true) (queue : q < 16) (found : s.hqOf q = some h) :
    s.rcRead (0x1000 + 0x100 * q + 0x20) = { s with hif.lastRead := s.nat (hqKey q 0x20) }.set (hqKey q 0x20) 0 := by
  obtain ⟨queueIs, offsetIs⟩ := hq_offset q 0x20 (by decide)
  have read : s.barReg (0x1000 + 0x100 * q + 0x20) = s.nat (hqKey q 0x20) := by
    unfold State.barReg State.hqReg
    rw [if_pos (by simp; omega), queueIs, offsetIs, found]
    rfl
  unfold State.rcRead
  dsimp only
  rw [if_neg (not_seesaw (by omega)), if_neg (by simp [bar]; omega), read, offsetIs, queueIs]
  exact if_pos (by simp; omega)

/-- The link trained sets HostLink and Bus Master Enable and opens the mailbox session. -/
theorem State.pcieUp_trained {s : State} {gen width : Nat} (host : s.forced Obj.hostEnable ≠ 0) (trained : gen ≠ 0) :
    (s.pcieUp gen width).get Obj.hostLink = (gen % 16 + 16 * width : Nat) ∧ (s.pcieUp gen width).hif.busMaster = true ∧
      (tget (s.pcieUp gen width).sessions 0).isSome = true := by
  unfold State.pcieUp
  rw [if_neg (by simp [host, trained])]
  dsimp only
  have linked := State.set_cell_self { s with hif.busMaster := true } Obj.hostLink ((gen % 16 + 16 * width : Nat) : Int)
  split
  · rename_i open_
    exact ⟨linked, rfl, open_⟩
  · refine ⟨linked, rfl, ?_⟩
    unfold State.openSession
    rw [tget_tput_self]
    rfl

/-- Settles O13. -/
theorem barRegisters : Obligations.BarRegisters := by
  refine ⟨fun s v bar => ?_, fun s v off bar low => ?_, fun s v off bar low high => ?_, fun s q v h bar queue found low high => ?_,
    fun s q h bar queue found => ?_, fun s gen width up host low high => ?_, fun s up freeze closed => ?_⟩
  · exact congrArg Host.Outcome.next (s.registerWrite_scratch v bar)
  · exact congrArg Host.Outcome.next (s.registerWrite_ignored v bar (.inl low))
  · exact congrArg Host.Outcome.next (s.registerWrite_ignored v bar (.inr ⟨low, high⟩))
  · refine ⟨_, rfl, ?_⟩
    rw [s.registerWrite_hq v bar queue (by decide) rfl]
    exact State.hqWrite_size found low high
  · refine ⟨_, rfl, ?_⟩
    rw [State.rcRead_completed bar queue found]
    exact ⟨rfl, State.set_cell_self _ _ _, fun k hk => State.set_cell _ _ hk⟩
  · refine ⟨s.pcieUp gen width, congrArg Host.Outcome.next (if_pos (by simp [up])), ?_⟩
    exact State.pcieUp_trained host (by omega)
  · have run : s.pcieDown = ({ s with
        hif.busMaster := false,
        hif.hq := s.hif.hq.map fun h : HostQueue => if Nat.ble (bits h.ctrl 4 1) 3 then { h with running := false } else h }.set
          Obj.hostLink 0).bump
          Obj.hostLinkDowns := by
      unfold State.pcieDown
      rw [if_neg (by simp [up])]
      dsimp only
      generalize ended : State.bump _ _ = t
      have frozen : t.freeze = none := by rw [← ended, ← freeze]; exact State.bump_frame (p := .freeze) _ _ (by decide)
      have sessions : t.sessions = [] := by rw [← ended, ← closed]; exact State.bump_frame (p := .sessions) _ _ (by decide)
      rw [if_neg (by simp [frozen])]
      unfold State.endSession
      rw [sessions]
      rfl
    have hif : ∀ u : State, (u.bump Obj.hostLinkDowns).hif = u.hif := fun u => State.bump_frame (p := .hif) u _ (by decide)
    refine ⟨_, rfl, ?_⟩
    rw [run, hif]
    refine ⟨?_, rfl, ?_, rfl⟩
    · exact (State.bump_cell _ (by decide)).trans (State.set_cell_self _ _ _)
    · rw [← closed]
      exact State.bump_frame (p := .sessions) _ _ (by decide)

end Sys2Proof.Machine

namespace Sys2Proof.Machine

set_option Elab.async false

/-! ## The counter (R246, R248) -/

/-- The counter in units of 2^-32 ns. -/
def Calliope.units (t : Calliope) : Nat := (t.sec * nsPerS + t.ns) * fracPerNs + t.frac

/-- Cycles of the TIME domain on the counter of a part that runs. -/
theorem State.count_time {s : State} (awake : s.awake = true) (n : Nat) {t : Nat}
    (ht : s.time.ns * fracPerNs + s.time.frac + n * s.time.incr = t) :
    (s.count n).time.sec = (s.time.sec + t / (nsPerS * fracPerNs)) % 2 ^ 48 ∧
      (s.count n).time.ns = t % (nsPerS * fracPerNs) / fracPerNs ∧ (s.count n).time.frac = t % (nsPerS * fracPerNs) % fracPerNs ∧
      (s.count n).time.incr = s.time.incr := by
  refine ⟨?_, ?_, ?_, congrArg Prod.fst (State.count_frame (p := .increment) s n (by decide))⟩
  all_goals
    unfold State.count
    extract_lets +onlyGivenNames ph _ s1 u sec r
    have hs1 : s1.time = s.time ∧ s1.awake = s.awake := ⟨rfl, rfl⟩
    have hu : u = t := ht
    have hsec : sec = s1.time.sec + u / (nsPerS * fracPerNs) := rfl
    have hr : r = u % (nsPerS * fracPerNs) := rfl
    rw [hu] at hsec hr
    rw [hs1.1] at hsec
    clear_value r sec
    simp only [← hsec, ← hr]
    generalize sec % 2 ^ 48 = sec'
    generalize r / fracPerNs = ns'
    generalize r % fracPerNs = frac'
    rw [if_neg (by simp [hs1.2, awake])]
    split
    · rfl
    · rw [show ∀ (x : State) (k : Nat) (v : Int), (x.set k v).time = x.time from fun _ _ _ => rfl]

/-- The carry of a counter of seconds, nanoseconds and fractions leaves what it counts. -/
theorem carry_units {sec ns frac i t : Nat} (ht : ns * fracPerNs + frac + i = t) (within : t < 2 * (nsPerS * fracPerNs))
    (short : sec + 1 < 2 ^ 48) :
    ((sec + t / (nsPerS * fracPerNs)) % 2 ^ 48 * nsPerS + t % (nsPerS * fracPerNs) / fracPerNs) * fracPerNs +
      t % (nsPerS * fracPerNs) % fracPerNs = (sec * nsPerS + ns) * fracPerNs + frac + i := by
  have carried : t / (nsPerS * fracPerNs) < 2 := Nat.div_lt_of_lt_mul (by rwa [Nat.mul_comm])
  have split := Nat.div_add_mod t (nsPerS * fracPerNs)
  have low := Nat.div_add_mod (t % (nsPerS * fracPerNs)) fracPerNs
  rw [Nat.mod_eq_of_lt (by omega)]
  dsimp only [nsPerS, fracPerNs] at *
  linarith

/-- Cycles that carry the counter into no more than its next second, and that second within 48 bits. -/
theorem State.count_units {s : State} (awake : s.awake = true) (n : Nat) (short : s.time.sec + 1 < 2 ^ 48)
    (within : s.time.ns * fracPerNs + s.time.frac + n * s.time.incr < 2 * (nsPerS * fracPerNs)) :
    (s.count n).time.units = s.time.units + n * s.time.incr := by
  generalize ht : s.time.ns * fracPerNs + s.time.frac + n * s.time.incr = t at within
  obtain ⟨sec, ns, frac, _⟩ := State.count_time awake n ht
  unfold Calliope.units
  rw [sec, ns, frac]
  exact carry_units ht within short

theorem State.takeStep_none {s : State} (idle : s.time.step = none) : s.takeStep = s := by
  unfold State.takeStep
  rw [idle]

theorem step_idle {s : State} (idle : s.pending = []) : step s = .next (s.pass 1) := by
  unfold step
  rw [idle]
  rfl

theorem State.pass_awake {s : State} (awake : s.awake = true) (n : Nat) : s.pass n = s.takeStep.count n := by
  unfold State.pass
  rw [if_pos awake]

/-- Settles O15. -/
theorem idleStepCounts : Obligations.IdleStepCounts := by
  refine ⟨fun s idle awake ok none short => ?_, fun s idle asleep => ?_⟩
  · refine ⟨s.count 1, ?_, ?_, ?_⟩
    · rw [step_idle idle, State.pass_awake awake, State.takeStep_none none]
    · rw [← idle]
      exact State.count_frame (p := .pending) s 1 (by decide)
    · obtain ⟨ns, frac, sec, low, high⟩ := id ok
      have counted := State.count_units awake 1 short (by dsimp only [nsPerS, fracPerNs, incrMax] at *; omega)
      rwa [Nat.one_mul] at counted
  · refine ⟨s.count 1, ?_, ?_⟩
    · rw [step_idle idle]
      unfold State.pass
      rw [if_neg (by simp [asleep])]
    · unfold State.count
      extract_lets ph _ s1
      rw [if_pos (by rw [show s1.awake = s.awake from rfl, asleep]; rfl)]
      exact ⟨rfl, rfl, rfl⟩

/-- The cycles to the next second reach it, and the last of them no more than one increment beyond. -/
theorem Calliope.ok.rollover {s : State} (ok : s.time.ok) :
    nsPerS * fracPerNs ≤ s.time.ns * fracPerNs + s.time.frac + s.toRollover * s.time.incr ∧
      s.time.ns * fracPerNs + s.time.frac + s.toRollover * s.time.incr < nsPerS * fracPerNs + s.time.incr := by
  obtain ⟨ns, frac, sec, low, high⟩ := ok
  unfold State.toRollover ceilDiv
  dsimp only [nsPerS, fracPerNs, incrMin] at *
  generalize ha : (1000000000 - s.time.ns) * 4294967296 - s.time.frac = a
  have split := Nat.div_add_mod (a + s.time.incr - 1) s.time.incr
  have rest := Nat.mod_lt (a + s.time.incr - 1) (show 0 < s.time.incr by omega)
  rw [Nat.mul_comm] at split
  generalize (a + s.time.incr - 1) / s.time.incr * s.time.incr = m at split ⊢
  omega

/-- Settles O16. -/
theorem secondRollsOver : Obligations.SecondRollsOver := by
  intro s awake ok none short
  obtain ⟨reached, within⟩ := ok.rollover
  obtain ⟨ns, frac, _, low, high⟩ := id ok
  generalize ht : s.time.ns * fracPerNs + s.time.frac + s.toRollover * s.time.incr = t at reached within
  obtain ⟨secIs, nsIs, _, incrIs⟩ := State.count_time awake s.toRollover ht
  dsimp only [nsPerS, fracPerNs, incrMax] at *
  refine ⟨s.count s.toRollover, ?_, ?_, ?_, incrIs⟩
  · show Host.Outcome.next (if s.awake then _ else s) = _
    rw [if_pos awake]
    dsimp only
    rw [State.takeStep_none none]
  · rw [secIs]
    omega
  · rw [nsIs]
    omega

end Sys2Proof.Machine

namespace Sys2Proof.Machine

set_option Elab.async false

/-! ## Steps of the counter (R248, R249) -/

/-- With no lock to qualify nothing is evaluated. -/
theorem State.evaluate_unlocked {s : State} (unlocked : s.time.lockSince = none) : s.evaluate = s := by
  unfold State.evaluate
  rw [unlocked]

theorem State.bump_time (s : State) (k : Nat) : (s.bump k).time = s.time := by
  unfold State.bump State.bumpBy State.draw
  dsimp only
  split <;> rfl

/-- A step whose result lies outside the counter is refused and counted. -/
theorem State.stepCounter_outside {s : State} {d : Int}
    (outside : (s.now : Int) + d < 0 ∨ ((2 ^ 48 * nsPerS : Nat) : Int) ≤ (s.now : Int) + d) : s.stepCounter d = s.bump Obj.stepsRefused :=
  if_pos outside

/-- A small step within the counter is added and counted, and the lag takes it. -/
theorem State.stepCounter_within {s : State} {d : Int} (low : 0 ≤ (s.now : Int) + d) (high : (s.now : Int) + d < (2 ^ 48 * nsPerS : Nat))
    (lag : s.time.lag = 0) (small : d.natAbs ≤ s.nat Obj.billingSlewThresholdMs * 1000000) :
    s.stepCounter d = { s.bump Obj.stepsApplied with
      time.sec := ((s.now : Int) + d).toNat / nsPerS, time.ns := ((s.now : Int) + d).toNat % nsPerS, time.lag := d * lagUnit } := by
  have threshold : (s.bump Obj.stepsApplied).nat Obj.billingSlewThresholdMs = s.nat Obj.billingSlewThresholdMs :=
    State.nat_of_get (s.bump_cell (by decide))
  have slews : ((d * lagUnit).natAbs : Int) ≤ (s.nat Obj.billingSlewThresholdMs * 1000000 : Nat) * lagUnit :=
    calc ((d * lagUnit).natAbs : Int) = (d.natAbs * 4294967296000000 : Nat) := by rw [Int.natAbs_mul]; rfl
      _ ≤ (s.nat Obj.billingSlewThresholdMs * 1000000 * 4294967296000000 : Nat) := Int.ofNat_le.mpr (Nat.mul_le_mul_right _ small)
      _ = _ := Int.natCast_mul _ _
  unfold State.stepCounter
  dsimp only
  rw [if_neg (by omega), lag, Int.zero_add]
  exact if_pos (by rw [← threshold] at slews; exact slews)

theorem State.now_eq (s : State) : s.now = s.time.sec * nsPerS + s.time.ns := rfl

theorem State.now_of_time {s t : State} (h : t.time = s.time) : t.now = s.now := by rw [State.now_eq, State.now_eq, h]

theorem State.billNow_eq (s : State) : s.billNow = ((s.now : Int) - s.time.lag / lagUnit).toNat := rfl

/-- A state whose step is taken off. -/
def State.unstepped (s : State) : State := { s with time.step := none }

theorem State.unstepped_now (s : State) : s.unstepped.now = s.now := rfl

theorem State.takeStep_some {s : State} {d : Int} (waits : s.time.step = some d) : s.takeStep = (s.unstepped.stepCounter d).evaluate := by
  unfold State.takeStep
  rw [waits]
  rfl

/-- A step that is refused. -/
theorem State.takeStep_outside {s : State} {d : Int} (waits : s.time.step = some d) (unlocked : s.time.lockSince = none)
    (outside : (s.now : Int) + d < 0 ∨ ((2 ^ 48 * nsPerS : Nat) : Int) ≤ (s.now : Int) + d) :
    s.takeStep = s.unstepped.bump Obj.stepsRefused := by
  rw [State.takeStep_some waits, State.stepCounter_outside (s := s.unstepped) outside,
    State.evaluate_unlocked (by rw [State.bump_time]; exact unlocked)]

/-- A small step that is added. -/
theorem State.takeStep_within {s : State} {d : Int} (waits : s.time.step = some d) (unlocked : s.time.lockSince = none)
    (low : 0 ≤ (s.now : Int) + d) (high : (s.now : Int) + d < (2 ^ 48 * nsPerS : Nat)) (lag : s.time.lag = 0)
    (small : d.natAbs ≤ s.nat Obj.billingSlewThresholdMs * 1000000) :
    s.takeStep = { s.unstepped.bump Obj.stepsApplied with
      time.sec := ((s.now : Int) + d).toNat / nsPerS, time.ns := ((s.now : Int) + d).toNat % nsPerS, time.lag := d * lagUnit } := by
  have added := State.stepCounter_within (s := s.unstepped) low high lag small
  have kept : (s.unstepped.stepCounter d).time.lockSince = none := by
    rw [added]
    show (s.unstepped.bump Obj.stepsApplied).time.lockSince = none
    rw [State.bump_time]
    exact unlocked
  rw [State.takeStep_some waits, State.evaluate_unlocked kept, added]
  rfl

/-- Settles O17. -/
theorem stepsOfTheCounter : Obligations.StepsOfTheCounter := by
  refine ⟨fun s v bar host none => ?_, fun s d idle awake waits unlocked lag ok room low high small => ?_,
    fun s d idle awake waits unlocked room outside => ?_⟩
  · have run : s.timeStep v =
        { s with time.stepHi := v.toNat, time.step := some (sgn 8 (s.time.stepLo + 4294967296 * v.toNat)) } := by
      unfold State.timeStep
      rw [if_neg (by simp [bar, host]), State.takeStep_none none]
    exact ⟨_, congrArg Host.Outcome.next run, rfl, rfl, rfl, rfl⟩
  · have time : (s.unstepped.bump Obj.stepsApplied).time = s.unstepped.time := State.bump_time _ _
    have cell := s.unstepped.bump_cell_self (k := Obj.stepsApplied) room
    have clock : (s.unstepped.bump Obj.stepsApplied).clock = s.clock := State.nat_of_get (State.bump_cell _ (by decide))
    refine ⟨by rw [step_idle idle, State.pass_awake awake], ?_⟩
    rw [State.takeStep_within waits unlocked low high lag small]
    obtain ⟨ns, frac, sec, incr⟩ := ok
    have now : (((s.now : Int) + d).toNat : Int) = (s.now : Int) + d := Int.toNat_of_nonneg low
    generalize ((s.now : Int) + d).toNat = new at now
    have whole : new / nsPerS * nsPerS + new % nsPerS = new := by
      rw [Nat.mul_comm]
      exact Nat.div_add_mod new nsPerS
    refine ⟨congrArg Calliope.step time, ?_, ⟨?_, ?_, ?_, ?_⟩, ?_, cell, clock⟩
    · rw [State.now_eq]
      dsimp only
      rw [whole, now]
    · exact Nat.mod_lt _ (by decide)
    · show (s.unstepped.bump Obj.stepsApplied).time.frac < _
      rw [time]
      exact frac
    · exact Nat.div_lt_of_lt_mul (by rw [Nat.mul_comm]; omega)
    · show incrMin ≤ (s.unstepped.bump Obj.stepsApplied).time.incr ∧ (s.unstepped.bump Obj.stepsApplied).time.incr ≤ incrMax
      rw [time]
      exact incr
    · rw [State.billNow_eq, State.now_eq, State.billNow_eq]
      dsimp only
      rw [whole, now, lag, Int.mul_ediv_cancel _ (by decide), Int.zero_ediv, Int.add_sub_cancel, Int.sub_zero]
  · have run := State.takeStep_outside waits unlocked outside
    have time : s.takeStep.time = s.unstepped.time := by rw [run, State.bump_time]
    refine ⟨by rw [step_idle idle, State.pass_awake awake], congrArg Calliope.step time, ?_, (congrArg Calliope.lag time).trans rfl, ?_⟩
    · exact (State.now_of_time time).trans s.unstepped_now
    · rw [run]
      exact State.bump_cell_self _ room

end Sys2Proof.Machine

namespace Sys2Proof.Machine

set_option Elab.async false

/-! ## What parts make up a field of the state -/

/-- A part of one list is none of another. -/
theorem Part.apart {p : Part} {l m : List Part} (hp : p ∈ l) (h : ∀ q ∈ l, q ∉ m := by decide) : p ∉ m := h p hp

/-- The counter and the clock that goes with it are three parts. -/
theorem State.time_of_parts {s t : State} (h : ∀ p ∈ [Part.counter, .increment, .clockwork], p.of t = p.of s) : t.time = s.time := by
  have counter := h .counter (by decide)
  have increment := h .increment (by decide)
  have clockwork := h .clockwork (by decide)
  simp only [Part.of, Prod.mk.injEq] at counter increment clockwork
  generalize t.time = a at *
  generalize s.time = b at *
  cases a
  cases b
  simp_all

/-- The parts of what NAND holds. -/
abbrev nandParts : List Part :=
  [.logs, .anchors, .user, .uplinks, .recs, .hash, .blobs, .bills, .spans, .nodes, .ingest, .forward, .withheld, .items, .series,
      .records]

theorem State.nand_of_parts {s t : State} (h : ∀ p ∈ nandParts, p.of t = p.of s) : t.nand = s.nand := by
  simp only [List.forall_mem_cons, List.not_mem_nil, false_implies, implies_true, and_true, Part.of, Prod.mk.injEq] at h
  generalize t.nand = a at *
  generalize s.nand = b at *
  cases a
  cases b
  simp_all

theorem State.mem_of_parts {s t : State} (h : ∀ p ∈ [Part.lines, .queues, .memory], p.of t = p.of s) : t.mem = s.mem := by
  simp only [List.forall_mem_cons, List.not_mem_nil, false_implies, implies_true, and_true, Part.of, Prod.mk.injEq] at h
  generalize t.mem = a at *
  generalize s.mem = b at *
  cases a
  cases b
  simp_all

/-- The fields that the parts of an answered command leave as its body left them. -/
theorem State.Answers.time {t u : State} {r : CapReq} {k : Nat} {o : CapOut} (h : t.Answers u r k o) : t.time = u.time :=
  State.time_of_parts fun p hp => h.parts p (Part.apart hp)

theorem State.Answers.nand {t u : State} {r : CapReq} {k : Nat} {o : CapOut} (h : t.Answers u r k o) : t.nand = u.nand :=
  State.nand_of_parts fun p hp => h.parts p (Part.apart hp)

theorem State.Answers.mem {t u : State} {r : CapReq} {k : Nat} {o : CapOut} (h : t.Answers u r k o) : t.mem = u.mem :=
  State.mem_of_parts fun p hp => h.parts p (Part.apart hp)

theorem State.nat_of_cell {s t : State} {k : Nat} (h : t.cell k = s.cell k) : t.nat k = s.nat k := congrArg Int.toNat h

end Sys2Proof.Machine

namespace Sys2Proof.Machine

set_option Elab.async false

/-- A part that is up, no edge of PPS_IN seen yet, its short stamp running. -/
def beforeFirstEdge : State :=
  { State.reset with
    cat := [(Obj.powerState, 0)], pw.rails := true, pw.stage := 0x0D, pins.porst := false, time.ppsLast := 0, time.short := 1,
        time.ppsShort := 0 }

/-- Refutes O18: the first edge of PPS_IN is noted with its short stamp too (`ppsShort`),
    which the clause on PPS_EDGE leaves as it was. -/
theorem not_clockSources : ¬Obligations.ClockSources := by
  intro h
  obtain ⟨_, _, edge, _⟩ := h
  have noted := edge beforeFirstEdge (by decide) rfl
  have run : beforeFirstEdge.ppsEdge.time.ppsShort = 1 := by decide
  have same : beforeFirstEdge.ppsEdge.time.ppsShort = 0 := by
    rw [show beforeFirstEdge.ppsEdge = _ from Host.Outcome.next.inj noted]
    rfl
  omega

end Sys2Proof.Machine

namespace Sys2Proof.Machine

set_option Elab.async false

/-! ## Time commands (R249, R258, R259, R261, R267) -/

/-- A pop by the firmware removes the head. -/
theorem State.tsqPop_firmware {s : State} {p : Nat} {q : TsQueue} (awake : s.awake = true) (owner : s.nat Obj.servoOwner = 0)
    (found : s.time.tsq[p]? = some q) :
    s.tsqPop p = { s with time.tsq := lmod s.time.tsq p fun q => { q with entries := q.entries.drop 1 } } := by
  unfold State.tsqPop
  rw [found]
  dsimp only
  rw [owner, if_neg (by simp [awake])]
  rfl

/-- A change of paired objects is one of the catalogue and the stores. -/
theorem State.commitPaired_time (s : State) (changes : List (Nat × Int)) : (s.commitPaired changes).time = s.time :=
  State.time_of_parts fun p hp => State.commitPaired_frame s changes (Part.apart hp)

theorem State.commitPaired_nand (s : State) (changes : List (Nat × Int)) : (s.commitPaired changes).nand = s.nand :=
  State.nand_of_parts fun p hp => State.commitPaired_frame s changes (Part.apart hp)

/-- A leap at the end of a UTC day. -/
theorem State.applyLeap_offset (s : State) (t : Nat) (new : Int) : (s.applyLeap t new).get Obj.taiUtcOffsetS = new := by
  have shown : ∀ c : Tab Int, catGet ([(Obj.taiUtcOffsetS, new), (Obj.prevOffset, s.get Obj.taiUtcOffsetS), (Obj.lastLeap,
      (t : Int))].foldl
      (fun c e => catPut c e.1 e.2) c) Obj.taiUtcOffsetS = new := by
    intro c
    rw [List.foldl_cons, List.foldl_cons, List.foldl_cons, List.foldl_nil,
        catGet_catPut_ne _ _ (show Obj.taiUtcOffsetS ≠ Obj.lastLeap by decide),
      catGet_catPut_ne _ _ (show Obj.taiUtcOffsetS ≠ Obj.prevOffset by decide),
      catGet_catPut_self]
  unfold State.applyLeap State.commitPaired
  split
  · exact shown s.cat
  · exact (State.bumpBy_cell _ _ _ (by decide)).trans (shown s.cat)

/-! ### TimeSet (R259) -/

theorem State.putClock_cell (s : State) (n : Nat) {k : Nat} (h : k ≠ Obj.clockStatus) : (s.putClock n).cell k = s.cell k :=
  (State.raise_cell _ _ _).trans (s.set_cell _ h)

theorem State.openSpan_cell (s : State) {k : Nat} (h : Unrecorded k) : s.openSpan.cell k = s.cell k := by
  unfold State.openSpan
  split
  · rfl
  · exact State.logLegal_cell _ _ _ _ h

/-- The clock made invalid: the records and an open span, but neither the counter nor the selection of the source. -/
theorem State.setClock_invalid (s : State) (cause : Nat) : (∀ k, Unrecorded k → k ≠ Obj.clockStatus → (s.setClock 3 cause).cell k =
    s.cell k) ∧
    ∀ p ∈ [Part.counter, .increment, .clockwork, .sessions], p.of (s.setClock 3 cause) = p.of s := by
  unfold State.setClock
  dsimp only
  split
  · exact ⟨fun _ _ _ => rfl, fun _ _ => rfl⟩
  · have entered : ∀ t : State, t.clockEntered 3 = t.openSpan := fun _ => rfl
    rw [entered]
    refine ⟨fun k plain other => ?_, fun p hp => ?_⟩
    · exact (State.cell_of_cat (State.releaseAll_frame _ (by decide)) k).trans
        ((State.openSpan_cell _ plain).trans ((State.logOp_cell _ _ _ _ plain).trans (s.putClock_cell _ other)))
    · exact (State.releaseAll_frame _ (Part.apart hp)).trans
        ((State.openSpan_frame _ (Part.apart hp)).trans ((State.logOp_frame _ _ _ _ (Part.apart hp)).trans
          (s.putClock_frame _ (Part.apart hp))))

/-- A billing step leaves the counter and the selection of the source. -/
theorem State.billingStep_keeps (s : State) (t1 t2 : Int) :
    (∀ k, Unrecorded k → k ≠ Obj.clockStatus → k ≠ Obj.billingSteps → (s.billingStep t1 t2).cell k = s.cell k) ∧
      ∀ p ∈ [Part.counter, .increment, .clockwork, .sessions], p.of (s.billingStep t1 t2) = p.of s := by
  unfold State.billingStep
  extract_lets s1 s2
  have logged : (∀ k, Unrecorded k → k ≠ Obj.billingSteps → s2.cell k = s.cell k) ∧
      ∀ p ∈ [Part.counter, .increment, .clockwork, .sessions], p.of s2 = p.of s := by
    refine ⟨fun k plain other => ?_, fun p hp => ?_⟩
    · have first : s1.cell k = s.cell k := (State.logLegal_cell _ _ _ _ plain).trans (s.bump_cell other)
      refine (State.foldl_cell (fun t e => ?_) _ _).trans first
      split
      · exact State.logLegal_cell _ _ _ _ plain
      · rfl
    · have first : p.of s1 = p.of s := (State.logLegal_frame _ _ _ _ (Part.apart hp)).trans (s.bump_frame _ (Part.apart hp))
      refine (Part.of_foldl p _ _ _ (fun t e => ?_)).trans first
      split
      · exact State.logLegal_frame _ _ _ _ (Part.apart hp)
      · rfl
  clear_value s2
  obtain ⟨cells, parts⟩ := logged
  split
  · obtain ⟨cells', parts'⟩ := s2.setClock_invalid 2
    exact ⟨fun k plain status steps => (cells' k plain status).trans (cells k plain steps), fun p hp => (parts' p hp).trans (parts p hp)⟩
  · exact ⟨fun k plain _ steps => cells k plain steps, parts⟩

/-- A step set within the counter: the time is the one asked for, and the selection of the source as it was. -/
theorem State.stepCounter_to {s : State} {d : Int} {new : Nat} (reached : (s.now : Int) + d = new) (within : new < 2 ^ 48 * nsPerS) :
    (s.stepCounter d).time.sec = new / nsPerS ∧ (s.stepCounter d).time.ns = new % nsPerS ∧
      (s.stepCounter d).time.lockSince = s.time.lockSince ∧ (s.stepCounter d).time.beatAt = s.time.beatAt ∧
      Part.of .sessions (s.stepCounter d) = Part.of .sessions s ∧
      ∀ k, Unrecorded k → k ≠ Obj.clockStatus → k ≠ Obj.billingSteps → k ≠ Obj.stepsApplied → (s.stepCounter d).cell k = s.cell k := by
  have time := s.bump_time Obj.stepsApplied
  have cells : ∀ k, k ≠ Obj.stepsApplied → (s.bump Obj.stepsApplied).cell k = s.cell k := fun k h => s.bump_cell h
  have sessions := State.bump_frame (p := .sessions) s Obj.stepsApplied (by decide)
  unfold State.stepCounter
  dsimp only
  rw [reached, if_neg (by omega), Int.toNat_natCast]
  generalize new / nsPerS = sec
  generalize new % nsPerS = ns
  generalize s.bump Obj.stepsApplied = u at time cells sessions
  have lock : u.time.lockSince = s.time.lockSince := congrArg Calliope.lockSince time
  have beat : u.time.beatAt = s.time.beatAt := congrArg Calliope.beatAt time
  split
  · exact ⟨rfl, rfl, lock, beat, sessions, fun k _ _ _ => cells k⟩
  · generalize slewed : ({ u with time.sec := sec, time.ns := ns, time.lag := 0 } : State) = v
    have lock' : v.time.lockSince = s.time.lockSince := by rw [← slewed]; exact lock
    have beat' : v.time.beatAt = s.time.beatAt := by rw [← slewed]; exact beat
    have at_ : v.time.sec = sec ∧ v.time.ns = ns := by rw [← slewed]; exact ⟨rfl, rfl⟩
    have cells' : ∀ k, v.cell k = u.cell k := by rw [← slewed]; exact fun _ => rfl
    have sessions' : Part.of .sessions v = Part.of .sessions u := by rw [← slewed]; rfl
    obtain ⟨kept, parts⟩ := v.billingStep_keeps s.billNow v.billNow
    have same := State.time_of_parts (t := v.billingStep s.billNow v.billNow) (s := v) fun p hp =>
      parts p (List.mem_append_left [Part.sessions] hp)
    have held := parts .sessions (by decide)
    generalize v.billingStep s.billNow v.billNow = w at kept same held
    rw [same]
    exact ⟨at_.1, at_.2, lock', beat', (held.trans sessions').trans sessions,
      fun k plain status steps applied => (kept k plain status steps).trans ((cells' k).trans (cells k applied))⟩

/-- The source selected is the best one where the host owns the servo and gives no heartbeat. -/
theorem State.reselect_none {s : State} (host : s.nat Obj.servoOwner = 1) (beat : s.time.beatAt = none)
    (unselected : s.nat Obj.selectedSource = 0) : s.reselect = s := by
  have best : s.bestSource = 0 := by
    unfold State.bestSource
    rw [if_pos host, beat]
    rfl
  unfold State.reselect
  dsimp only
  rw [best, unselected, if_pos rfl]

theorem State.writeRtc_time (s : State) : s.writeRtc.time = s.time :=
  State.time_of_parts fun _ hp => s.writeRtc_frame (Part.apart hp)

theorem State.writeRtc_cell (s : State) {k : Nat} (h : k ≠ Obj.rtcValid) : s.writeRtc.cell k = s.cell k := by
  have bat : ∀ b : Battery, ({ s with bat := b } : State).cell k = s.cell k := fun _ => rfl
  unfold State.writeRtc
  rw [State.set_cell _ _ h, bat]

/-- A state whose seconds are known. -/
def State.dated (s : State) : State := { s with time.secondsKnown := true }

theorem State.dated_cell (s : State) (k : Nat) : s.dated.cell k = s.cell k := rfl

theorem State.dated_sessions (s : State) : Part.of .sessions s.dated = Part.of .sessions s := rfl

theorem State.dated_bat (s : State) : s.dated.bat = s.bat := rfl

theorem State.writeRtc_valid (s : State) : s.writeRtc.bat.rtcValid = true := rfl

theorem State.dated_time (s : State) : s.dated.time.sec = s.time.sec ∧ s.dated.time.ns = s.time.ns ∧
    s.dated.time.beatAt = s.time.beatAt ∧ s.dated.time.lockSince = s.time.lockSince := ⟨rfl, rfl, rfl, rfl⟩

/-- The step that TimeSet asks for, recorded. -/
def State.timeStepped (s : State) (sec ns : Nat) : State :=
  (s.stepCounter ((sec * nsPerS + ns : Nat) - (s.now : Int))).logLegal 0x1019 0xFF (pack [(10, s.timeNow), (10, sec + 2 ^ 48 * ns), (12,
      0)])

/-- What TimeSet leaves where nothing is selected that the new time could move. -/
theorem State.timeStepped_unselected {s : State} {sec ns : Nat} (short : ns < nsPerS) (range : sec < 2 ^ 48) (host : s.nat Obj.servoOwner
    = 1)
    (beat : s.time.beatAt = none) (unselected : s.nat Obj.selectedSource = 0) (unlocked : s.time.lockSince = none) :
    (s.timeStepped sec ns).writeRtc.dated.reselect.evaluate = (s.timeStepped sec ns).writeRtc.dated ∧
      (s.timeStepped sec ns).time.sec = sec ∧ (s.timeStepped sec ns).time.ns = ns ∧
      Part.of .sessions (s.timeStepped sec ns) = Part.of .sessions s := by
  obtain ⟨atSec, atNs, lock, noBeat, sessions, cells⟩ :=
    State.stepCounter_to (s := s) (d := (sec * nsPerS + ns : Nat) - (s.now : Int)) (new := sec * nsPerS + ns) (by omega)
      (by dsimp only [nsPerS] at *; omega)
  unfold State.timeStepped
  generalize State.stepCounter s _ = u at atSec atNs lock noBeat sessions cells
  have logged : ∀ p ∈ [Part.counter, .increment, .clockwork, .sessions], p.of (u.logLegal 0x1019 0xFF
      (pack [(10, s.timeNow), (10, sec + 2 ^ 48 * ns), (12, 0)])) = p.of u := fun p hp => State.logLegal_frame _ _ _ _ (Part.apart hp)
  have cell : ∀ k, Unrecorded k → (u.logLegal 0x1019 0xFF (pack [(10, s.timeNow), (10, sec + 2 ^ 48 * ns), (12, 0)])).cell k = u.cell k :=
    fun k h => State.logLegal_cell _ _ _ _ h
  generalize u.logLegal 0x1019 0xFF _ = v at logged cell
  have time : v.time = u.time := State.time_of_parts fun p hp => logged p (by revert hp; revert p; decide)
  have kept : ∀ k, Unrecorded k → k ≠ Obj.clockStatus → k ≠ Obj.billingSteps → k ≠ Obj.stepsApplied → k ≠ Obj.rtcValid →
      v.writeRtc.cell k = s.cell k := fun k a b c d e => (v.writeRtc_cell e).trans ((cell k a).trans (cells k a b c d))
  have wrote := v.writeRtc_time
  rw [time] at wrote
  generalize v.writeRtc = x at kept wrote ⊢
  have cells' : ∀ k, Unrecorded k → k ≠ Obj.clockStatus → k ≠ Obj.billingSteps → k ≠ Obj.stepsApplied → k ≠ Obj.rtcValid →
      x.dated.nat k = s.nat k := fun k a b c d e => State.nat_of_cell ((x.dated_cell k).trans (kept k a b c d e))
  have owner := (cells' Obj.servoOwner (by decide) (by decide) (by decide) (by decide) (by decide)).trans host
  have source := (cells' Obj.selectedSource (by decide) (by decide) (by decide) (by decide) (by decide)).trans unselected
  obtain ⟨_, _, datedBeat, datedLock⟩ := x.dated_time
  rw [wrote] at datedBeat datedLock
  have noBeat' := datedBeat.trans (noBeat.trans beat)
  have lock' := datedLock.trans (lock.trans unlocked)
  refine ⟨by rw [State.reselect_none owner noBeat' source, State.evaluate_unlocked lock'], ?_, ?_, (logged _ (by decide)).trans sessions⟩
  · rw [time, atSec]
    dsimp only [nsPerS] at *
    omega
  · rw [time, atNs]
    dsimp only [nsPerS] at *
    omega

/-- What TimeSet does to the state and answers. -/
def State.timeSetBody (s : State) (sec ns : Nat) : CapOut × State :=
  if nsPerS ≤ ns ∨ 2 ^ 48 ≤ sec then (capErr 5 0, s)
  else if 1 ≤ s.nat Obj.selectedSource ∧ s.nat Obj.selectedSource ≤ 5 then (capErr 6 0, s)
  else (capOk, (s.timeStepped sec ns).writeRtc.dated.reselect.evaluate)

/-- TimeSet where nothing is selected. -/
theorem State.timeSetBody_sets {s : State} {sec ns : Nat} (short : ns < nsPerS) (range : sec < 2 ^ 48) (host : s.nat Obj.servoOwner = 1)
    (beat : s.time.beatAt = none) (unselected : s.nat Obj.selectedSource = 0) (unlocked : s.time.lockSince = none) :
    ∃ u, s.timeSetBody sec ns = (capOk, u) ∧ Part.of .sessions u = Part.of .sessions s ∧ u.time.sec = sec ∧ u.time.ns = ns ∧
      u.bat.rtcValid = true := by
  obtain ⟨still, atSec, atNs, sessions⟩ := State.timeStepped_unselected short range host beat unselected unlocked
  have body : s.timeSetBody sec ns = (capOk, (s.timeStepped sec ns).writeRtc.dated) := by
    unfold State.timeSetBody
    rw [if_neg (by omega), if_neg (by omega), still]
  generalize s.timeStepped sec ns = u at atSec atNs sessions body
  obtain ⟨datedSec, datedNs, _⟩ := u.writeRtc.dated_time
  rw [u.writeRtc_time] at datedSec datedNs
  refine ⟨_, body, ?_, datedSec.trans atSec, datedNs.trans atNs, ?_⟩
  · rw [State.dated_sessions, State.writeRtc_frame (p := .sessions) u (by decide), sessions]
  · rw [State.dated_bat, State.writeRtc_valid]

/-- Settles O19. -/
theorem timeCommands : Obligations.TimeCommands := by
  refine ⟨fun s bar => ?_, fun s p q awake owner found => ?_, fun s awake locked => ?_, fun s up source known low high day fresh => ?_,
    fun s r ses sec ns admits short range low high => ?_, fun s r ses sec ns admits short range unselected unlocked host beat => ?_⟩
  · exact congrArg Host.Outcome.next (if_pos bar)
  · refine ⟨_, congrArg Host.Outcome.next (State.tsqPop_firmware awake owner found), ?_, rfl, rfl⟩
    exact (lmod_getElem?_self _ _ _).trans (by rw [found]; rfl)
  · refine ⟨s.writeRtc, congrArg Host.Outcome.next (if_pos ⟨awake, locked⟩), rfl, rfl, State.set_cell_self _ _ _, s.writeRtc_time⟩
  · have run : s.leapInstant 1 = s.applyLeap s.billSec (s.get Obj.taiUtcOffsetS + 1) := by
      unfold State.leapInstant
      rw [if_neg (by simp [up]), if_neg (by decide)]
      dsimp only
      rw [if_pos (by decide : (0 : Int) < 1)]
      exact if_pos ⟨by omega, by omega, known, by omega, by omega, day, fresh⟩
    refine ⟨_, congrArg Host.Outcome.next run, State.applyLeap_offset _ _ _, State.commitPaired_time _ _, State.commitPaired_nand _ _⟩
  · have body : (s.executing r ses).timeSetBody sec ns = (capErr 6 0, s.executing r ses) := by
      have source : (s.executing r ses).nat Obj.selectedSource = s.nat Obj.selectedSource := s.executing_nat r ses (by decide)
      unfold State.timeSetBody
      rw [if_neg (by omega), source, if_pos ⟨low, high⟩]
    obtain ⟨t, run, answers⟩ := State.capExec_answers (body := fun _ s => s.timeSetBody sec ns) admits body rfl
    obtain ⟨_, _, time, bat, _⟩ := s.executing_fields r ses
    refine ⟨t, congrArg Host.Outcome.next run, answers.answered, answers.time.trans time, (answers.parts .bat (by decide)).trans bat⟩
  · have owner := (s.executing_nat r ses (k := Obj.servoOwner) (by decide)).trans host
    have source := (s.executing_nat r ses (k := Obj.selectedSource) (by decide)).trans unselected
    obtain ⟨_, _, time, _⟩ := s.executing_fields r ses
    obtain ⟨u, body, sessions, atSec, atNs, valid⟩ := State.timeSetBody_sets short range owner (by rw [time]; exact beat) source
      (by rw [time]; exact unlocked)
    obtain ⟨t, run, answers⟩ := State.capExec_answers (body := fun _ s => s.timeSetBody sec ns) admits body sessions
    refine ⟨t, congrArg Host.Outcome.next run, answers.answered, ?_, ?_, ?_⟩
    · rw [answers.time, atSec]
    · rw [answers.time, atNs]
    · exact (congrArg Battery.rtcValid (answers.parts .bat (by decide))).trans valid

end Sys2Proof.Machine

namespace Sys2Proof.Machine

set_option Elab.async false

/-! ## Seesaw queues (R346 to R350) -/

/-- Both banks set are the banks set. -/
theorem Seesaw.setBanks_banks (q : Seesaw) (f d : List Line) : (q.setBanks f d).filling = f ∧ (q.setBanks f d).draining = d := by
  unfold Seesaw.setBanks Seesaw.filling Seesaw.draining
  split <;> simp [*]

/-- A push goes to the end of the fill bank. -/
theorem Seesaw.put_banks (q : Seesaw) (port : Nat) (x : Line) :
    (q.put port x).filling = q.filling ++ [x] ∧ (q.put port x).draining = q.draining := q.setBanks_banks _ _

/-- While the drain bank holds an item the banks stay. -/
theorem Seesaw.swap_of_draining {q : Seesaw} (h : q.draining ≠ []) : q.swap = q := by
  unfold Seesaw.swap
  exact if_neg (by simp [h])

/-- Two empty banks stay. -/
theorem Seesaw.swap_of_empty {q : Seesaw} (h : q.filling = []) : q.swap = q := by
  unfold Seesaw.swap
  exact if_neg (by simp [h])

/-- An empty drain bank and a fill bank that is not swap; what ports kept enters the new fill bank. -/
theorem Seesaw.swap_draining {q : Seesaw} (empty : q.draining = []) (some_ : q.filling ≠ []) : q.swap.draining = q.filling := by
  have flipped : ∀ c : List Nat, ({ q with fill := 1 - q.fill, credits := c } : Seesaw).draining = q.filling := by
    intro c
    unfold Seesaw.draining Seesaw.filling
    by_cases h : q.fill = 0
    · simp [h]
    · simp [h, show 1 - q.fill = 0 by omega]
  unfold Seesaw.swap
  rw [if_pos (by simp [empty, some_])]
  refine List.foldlRecOn (motive := fun a : Seesaw × List (Nat × Line) => a.1.draining = q.filling) _ _ (flipped _) fun a ha w _ => ?_
  split
  · exact (a.1.put_banks _ _).2.trans ha
  · exact ha

/-- A push with credit. -/
theorem State.seesawPush_taken {s : State} {q p : Nat} {w : Seesaw} (x : Line) (found : tget s.mem.queues q = some w)
    (awake : s.awake = true) (credit : 0 < w.credits.getD p 0) :
    s.seesawPush q p 128 x = { s with mem.queues := tput s.mem.queues q (w.put p x).swap } := by
  unfold State.seesawPush
  rw [found]
  dsimp only
  rw [if_neg (by simp [awake]), if_pos ⟨rfl, credit⟩]

/-- A pop of an item that is not the last, with no uncorrectable error. -/
theorem State.seesawPop_item {s : State} {q e : Nat} {x y : Line} {l : List Line} {w : Seesaw} (found : tget s.mem.queues q = some w)
    (awake : s.awake = true) (drains : w.draining = x :: y :: l) (small : e ≤ 1) :
    ∃ u : Seesaw, s.seesawPop q e = { s with mem.queues := tput s.mem.queues q u } ∧ u.out = x ∧ u.draining = y :: l ∧
      u.filling = w.filling := by
  obtain ⟨filling, draining⟩ := w.setBanks_banks w.filling (y :: l)
  have popped : w.pop = (x, w.setBanks w.filling (y :: l)) := by
    unfold Seesaw.pop
    rw [drains]
  have still : ∀ v : Seesaw, v.draining = y :: l → ({ v with out := x } : Seesaw).swap = { v with out := x } := fun v h =>
    Seesaw.swap_of_draining (by rw [show ({ v with out := x } : Seesaw).draining = v.draining from rfl, h]; simp)
  unfold State.seesawPop
  rw [found]
  dsimp only
  rw [if_neg (by simp [awake]), drains, popped]
  dsimp only
  rw [if_neg (by omega)]
  split
  · rw [still _ (by exact draining)]
    exact ⟨_, rfl, rfl, draining, filling⟩
  · rw [still _ draining]
    exact ⟨_, rfl, rfl, draining, filling⟩

/-- Settles O45. -/
theorem seesawQueues : Obligations.SeesawQueues := by
  refine ⟨fun s q p x w found awake credit => ?_, fun s q p width x w found awake refused room => ?_,
    fun s q e x y l w found awake drains small => ?_, fun s q e w found awake drained empty => ?_⟩
  · obtain ⟨filling, draining⟩ := w.put_banks p x
    refine ⟨_, (w.put p x).swap, congrArg Host.Outcome.next (State.seesawPush_taken x found awake credit), tget_tput_self _ _ _, rfl,
      fun busy => ?_, fun idle => ?_⟩
    · rw [Seesaw.swap_of_draining (by rwa [draining])]
      exact ⟨draining, filling⟩
    · rw [Seesaw.swap_draining (by rw [draining, idle]) (by simp [filling]), filling]
  · have run : s.seesawPush q p width x = s.bump Obj.seesawPortErrors := by
      unfold State.seesawPush
      rw [found]
      dsimp only
      rw [if_neg (by simp [awake]), if_neg (by omega)]
    refine ⟨_, congrArg Host.Outcome.next run, ?_, s.bump_cell_self room⟩
    exact State.mem_of_parts fun p hp => s.bump_frame _ (Part.apart hp)
  · obtain ⟨u, run, out, draining, filling⟩ := State.seesawPop_item found awake drains small
    exact ⟨_, u, congrArg Host.Outcome.next run, tget_tput_self _ _ _, out, draining, filling, rfl⟩
  · have run : s.seesawPop q e = s.modQueue q fun w => ({ w with out := 0 } : Seesaw).swap := by
      unfold State.seesawPop
      rw [found]
      dsimp only
      rw [if_neg (by simp [awake]), drained]
    have still : ({ w with out := 0 } : Seesaw).swap = { w with out := 0 } := Seesaw.swap_of_empty empty
    refine ⟨_, { w with out := 0 }, congrArg Host.Outcome.next run, ?_, rfl, drained, empty⟩
    exact (tget_tmod_self _ _ _).trans (by rw [found, Option.map_some, still])

end Sys2Proof.Machine

namespace Sys2Proof.Machine

set_option Elab.async false

/-! ## Big Top and its banks (R336 to R345) -/

/-- A table without the keys that a test rejects. -/
theorem tget_filter {α : Type} (t : Tab α) (p : Nat → Bool) (k : Nat) :
    tget (t.filter fun e => p e.1) k = if p k then tget t k else none := by
  induction t with
  | nil => simp
  | cons e t ih =>
    obtain ⟨j, v⟩ := e
    rw [List.filter_cons]
    by_cases h : j = k
    · subst h
      by_cases keep : p j = true
      · simp [keep]
      · simp [keep, ih]
    · by_cases keep : p j = true
      · simp [keep, h, ih]
      · simp [keep, h, ih]

theorem State.setLine_line_self (s : State) (n : Nat) (v : Line) : (s.setLine n v).line n = v := by
  show (tget (if v = 0 then tdel s.mem.lines n else tput s.mem.lines n v) n).getD 0 = v
  split
  · rename_i zero
    rw [tget_tdel_self, zero]
    rfl
  · rw [tget_tput_self]
    rfl

theorem State.setLine_line_ne (s : State) {n m : Nat} (v : Line) (h : m ≠ n) : (s.setLine n v).line m = s.line m := by
  show (tget (if v = 0 then tdel s.mem.lines n else tput s.mem.lines n v) m).getD 0 = (tget s.mem.lines m).getD 0
  split
  · rw [tget_tdel_ne _ h]
  · rw [tget_tput_ne _ _ h]

/-- A write to a bank that is on. -/
theorem State.access_on {s : State} {w : LineWrite} (on : s.bank (bankOf w.line) = 0) : s.access w = s.writeLine w := if_pos on

/-- A write to a bank that is off wakes it and waits. -/
theorem State.access_off {s : State} {w : LineWrite} (off : s.bank (bankOf w.line) = 2) :
    s.access w = { s.wakeBank (bankOf w.line) true with mem.stalled := s.mem.stalled ++ [w] } := if_neg (by omega)

theorem State.aliasWrite_alone {s : State} (portB clear : Bool) (addr : Nat) (data : Line) (en : BitVec 16) (awake : s.awake = true) :
    s.aliasWrite portB clear addr data en none =
      s.access { line := lineAt addr, kind := if clear then 2 else 1, data, enables := en } := by
  unfold State.aliasWrite
  exact if_neg (by simp [awake])

/-- What a bank that wakes by an access leaves and counts. -/
theorem State.wakeBank_off {s : State} {b : Nat} (off : s.mem.banks[b]? = some 2) (wakes : s.nat Obj.bankWakes < 4294967295)
    (accesses : s.nat Obj.bankWakeOnAccess < 4294967295) :
    (s.wakeBank b true).mem = { s.mem with banks := s.mem.banks.set b 1 } ∧
      (s.wakeBank b true).cell Obj.bankWakes = (s.nat Obj.bankWakes + 1 : Nat) ∧
      (s.wakeBank b true).cell Obj.bankWakeOnAccess = (s.nat Obj.bankWakeOnAccess + 1 : Nat) := by
  have isOff : s.bank b = 2 := by
    unfold State.bank
    rw [off]
    rfl
  have mem : ∀ (u : State) (k : Nat), (u.bump k).mem = u.mem := fun u k => State.mem_of_parts fun p hp => u.bump_frame k (Part.apart hp)
  unfold State.wakeBank
  rw [if_neg (by simp [isOff])]
  generalize hu : ({ s with mem.banks := s.mem.banks.set b 1 } : State) = u
  have cat : u.cat = s.cat := by rw [← hu]
  have at_ : u.mem = { s.mem with banks := s.mem.banks.set b 1 } := by rw [← hu]
  have wakes' : u.nat Obj.bankWakes = s.nat Obj.bankWakes := State.nat_of_get (State.get_of_cat cat _)
  have accesses' : (u.bump Obj.bankWakes).nat Obj.bankWakeOnAccess = s.nat Obj.bankWakeOnAccess :=
    State.nat_of_cell ((u.bump_cell (by decide)).trans (State.cell_of_cat cat _))
  rw [if_pos rfl]
  refine ⟨by rw [mem, mem, at_], ?_, ?_⟩
  · rw [State.bump_cell _ (by decide), State.bump_cell_self _ (by omega), wakes']
  · rw [State.bump_cell_self _ (by omega), accesses']

/-- A bank set is in the state it is set to. -/
theorem State.bank_of_set {s t : State} {b x v : Nat} (known : s.mem.banks[b]? = some x) (h : t.mem.banks = s.mem.banks.set b v) :
    t.bank b = v := by
  unfold State.bank
  rw [h, List.getElem?_set_self (by simpa using (List.getElem?_eq_some_iff.mp known).1)]
  rfl

/-- The lines left once those of a bank are taken out. -/
theorem State.line_of_filter {s t : State} {b : Nat} (h : t.mem.lines = s.mem.lines.filter fun e => bankOf e.1 != b) (n : Nat) :
    t.line n = if bankOf n = b then 0 else s.line n := by
  unfold State.line
  rw [h, tget_filter _ (fun n => bankOf n != b)]
  by_cases same : bankOf n = b <;> simp [same]

/-- A bank that is clear: its lines zero, then the writes that waited. -/
def State.cleared (s : State) (b : Nat) : State :=
  { s with mem.banks := s.mem.banks.set b 0, mem.stalled := s.mem.stalled.filter fun w => bankOf w.line != b,
           mem.lines := s.mem.lines.filter fun e => bankOf e.1 != b }

theorem State.bankClear_eq {s : State} {b : Nat} (clearing : s.mem.banks[b]? = some 1) :
    s.bankClear b = (s.mem.stalled.filter fun w => bankOf w.line == b).foldl State.writeLine (s.cleared b) := by
  have isClearing : s.bank b = 1 := by
    unfold State.bank
    rw [clearing]
    rfl
  unfold State.bankClear
  rw [if_neg (by simp [isClearing])]
  rfl

/-! ### The Caravans (R345, R408) -/

/-- An engine whose Caravan fails is out, its Caravan empty, and the fault counted. -/
theorem State.engineOut_keeps {s : State} {e : Nat} (running : s.gate.engines[e]? = some 0) (room : s.nat Obj.engineFaults < 4294967295) :
    (s.engineOut e).gate.engines[e]? = some 1 ∧
      (∀ w, e * 32768 ≤ w → w < (e + 1) * 32768 → tget (s.engineOut e).mem.caravan w = none) ∧
      (s.engineOut e).cell Obj.engineFaults = (s.nat Obj.engineFaults + 1 : Nat) := by
  have logged : ∀ (u : State) (p : Part), p ∈ [Part.gate, .memory] → p.of ((u.bump Obj.engineFaults).logDiagFree 7 e) = p.of u :=
    fun u p hp => (State.logDiagFree_frame _ _ _ (Part.apart hp)).trans (u.bump_frame _ (Part.apart hp))
  have counted : ∀ u : State, u.cat = s.cat →
      ((u.bump Obj.engineFaults).logDiagFree 7 e).cell Obj.engineFaults = (s.nat Obj.engineFaults + 1 : Nat) := fun u cat => by
    have same : u.nat Obj.engineFaults = s.nat Obj.engineFaults := State.nat_of_get (State.get_of_cat cat _)
    rw [State.logDiagFree_cell _ _ _ (by decide), State.bump_cell_self _ (by omega), same]
  have kept : ∀ u : State, u.cat = s.cat → u.gate.engines = s.gate.engines.set e 1 →
      u.mem.caravan = s.mem.caravan.filter (fun w => !(Nat.ble (e * 32768) w.1 && Nat.blt w.1 ((e + 1) * 32768))) →
      ((u.bump Obj.engineFaults).logDiagFree 7 e).gate.engines[e]? = some 1 ∧
        (∀ w, e * 32768 ≤ w → w < (e + 1) * 32768 → tget ((u.bump Obj.engineFaults).logDiagFree 7 e).mem.caravan w = none) ∧
        ((u.bump Obj.engineFaults).logDiagFree 7 e).cell Obj.engineFaults = (s.nat Obj.engineFaults + 1 : Nat) := by
    intro u cat engines caravan
    have gate : ((u.bump Obj.engineFaults).logDiagFree 7 e).gate = u.gate := logged u .gate (by decide)
    have memory : ((u.bump Obj.engineFaults).logDiagFree 7 e).mem.caravan = u.mem.caravan :=
      congrArg (fun x : Part.Val .memory => x.2.2.1) (logged u .memory (by decide))
    refine ⟨?_, fun w low high => ?_, counted u cat⟩
    · rw [gate, engines, List.getElem?_set_self (List.getElem?_eq_some_iff.mp running).1]
    · rw [memory, caravan, tget_filter _ fun n => !(Nat.ble (e * 32768) n && Nat.blt n ((e + 1) * 32768))]
      exact if_neg (by simp [low, high])
  unfold State.engineOut
  dsimp only
  split
  · exact kept _ rfl rfl rfl
  · exact kept _ rfl rfl rfl

/-- Settles O44. -/
theorem bigTopAndCaravans : Obligations.BigTopAndCaravans := by
  refine ⟨fun s portB clear addr data en awake on => ?_, fun s portB clear addr data en awake off wakes accesses => ?_,
    fun s addr v awake on room => ?_, fun s addr v w awake on => ?_, fun s addr who awake faults room => ?_,
    fun s b awake asked on => ?_, fun s b awake off wakes accesses => ?_, fun s b awake clearing free => ?_,
    fun s b w awake clearing waits mine => ?_, fun s e awake small running room => ?_⟩
  · refine ⟨_, congrArg Host.Outcome.next ((State.aliasWrite_alone portB clear addr data en awake).trans (State.access_on on)), ?_,
      fun n other => s.setLine_line_ne _ other, rfl, rfl⟩
    refine (s.setLine_line_self _ _).trans ?_
    cases clear <;> rfl
  · have isOff : s.bank (bankOf (lineAt addr)) = 2 := by
      unfold State.bank
      rw [off]
      rfl
    obtain ⟨mem, woken, accessed⟩ := State.wakeBank_off off wakes accesses
    refine ⟨_, congrArg Host.Outcome.next ((State.aliasWrite_alone portB clear addr data en awake).trans (State.access_off isOff)), ?_⟩
    dsimp only
    generalize s.wakeBank (bankOf (lineAt addr)) true = u at mem woken accessed
    have banks : u.mem.banks = s.mem.banks.set (bankOf (lineAt addr)) 1 := by rw [mem]
    have lines : u.mem.lines = s.mem.lines := by rw [mem]
    exact ⟨State.bank_of_set off banks, lines, rfl, woken, accessed⟩
  · have run : s.scrub addr v none = (s.setLine (lineAt addr) v).bump Obj.bigTopCorrected := by
      unfold State.scrub
      exact if_neg (by simp [awake, on])
    have line : ∀ (u : State) (n : Nat), (u.bump Obj.bigTopCorrected).line n = u.line n := fun u n =>
      congrArg (fun m : Memory => (tget m.lines n).getD 0) (State.mem_of_parts fun p hp => u.bump_frame _ (Part.apart hp))
    refine ⟨_, congrArg Host.Outcome.next run, ?_, fun n other => ?_, State.bump_cell_self _ room⟩
    · rw [line, State.setLine_line_self]
    · rw [line, State.setLine_line_ne _ _ other]
  · have run : s.scrub addr v (some w) = s.setLine (lineAt addr) w := by
      unfold State.scrub
      exact if_neg (by simp [awake, on])
    exact ⟨_, congrArg Host.Outcome.next run, s.setLine_line_self _ _, rfl⟩
  · refine ⟨s.bump Obj.addressFaults, congrArg Host.Outcome.next (if_pos (by simp [awake, faults])), s.bump_cell_self room, ?_⟩
    exact State.mem_of_parts fun p hp => s.bump_frame _ (Part.apart hp)
  · have isOn : s.bank b = 0 := by
      unfold State.bank
      rw [on]
      rfl
    have run : s.bankOff b = { s with
        mem.banks := s.mem.banks.set b 2, mem.lines := s.mem.lines.filter fun e => bankOf e.1 != b,
        mem.poisoned := s.mem.poisoned.filter fun l => bankOf l != b } := if_pos (by simp [asked, isOn])
    refine ⟨_, congrArg Host.Outcome.next ((if_pos awake).trans run), State.bank_of_set on rfl, fun n same => ?_, fun n other => ?_, rfl⟩
    · exact (State.line_of_filter (s := s) rfl n).trans (if_pos same)
    · exact (State.line_of_filter (s := s) rfl n).trans (if_neg other)
  · obtain ⟨mem, woken, accessed⟩ := State.wakeBank_off off wakes accesses
    refine ⟨_, congrArg Host.Outcome.next (if_pos (by simp [awake])), ?_⟩
    generalize s.wakeBank b true = u at mem woken accessed
    have banks : u.mem.banks = s.mem.banks.set b 1 := by rw [mem]
    have lines : u.mem.lines = s.mem.lines := by rw [mem]
    exact ⟨State.bank_of_set off banks, lines, woken, accessed⟩
  · have none : (s.mem.stalled.filter fun w => bankOf w.line == b) = [] := by
      rw [List.filter_eq_nil_iff]
      intro w hw
      have := List.any_eq_false.mp free w hw
      simpa using this
    have run : s.bankClear b = s.cleared b := by rw [State.bankClear_eq clearing, none]; rfl
    refine ⟨_, congrArg Host.Outcome.next ((if_pos awake).trans run), State.bank_of_set clearing rfl, fun n same => ?_,
        fun n other => ?_, rfl⟩
    · exact (State.line_of_filter (s := s) rfl n).trans (if_pos same)
    · exact (State.line_of_filter (s := s) rfl n).trans (if_neg other)
  · have run : s.bankClear b = (s.cleared b).writeLine w := by
      rw [State.bankClear_eq clearing, waits]
      simp [mine]
    have zero : (s.cleared b).line w.line = 0 := (State.line_of_filter (s := s) rfl _).trans (if_pos mine)
    refine ⟨_, congrArg Host.Outcome.next ((if_pos awake).trans run), State.bank_of_set clearing rfl, ?_, ?_⟩
    · unfold State.writeLine
      rw [State.setLine_line_self, zero]
    · show (s.mem.stalled.filter fun w => bankOf w.line != b) = []
      rw [waits]
      simp [mine]
  · have run : s.engineFails e = s.engineOut e := if_pos (by simp [awake, small, running])
    exact ⟨_, congrArg Host.Outcome.next run, State.engineOut_keeps running room⟩

end Sys2Proof.Machine

namespace Sys2Proof.Machine

set_option Elab.async false

/-- A part without supply, with a session open on which an EmergencyAccept has waited for a frame that has left the path. -/
def parkedBeforeFormat : State :=
  let ses : Session :=
    { role := 0, tenant := 0, lastAt := 0, kept := [], resp := none, bulk := none, held := none, closing := false }
  let waits : Parked :=
    { req := { sess := 1, tag := 1 }, ses := ses, tags := [0], journal := 0, cmd := .emergencyAccept { sess := 1, tag := 1 } 0 }
  { State.reset with sessions := [(1, ses)], parked := [waits] }

/-- The command that waited is answered last. -/
theorem parkedBeforeFormat_answers :
    (((tget (parkedBeforeFormat.storageFormat { sess := 1, tag := 2 } 1).sessions 1).bind fun ses => ses.resp).map fun r => r.tag) = some
        1 := by
  decide

/-- Refutes O46: STORAGE_FORMAT carries out the commands that no frame keeps waiting (R25) after it is refused,
    and where one of them is of
the same session, its answer is the last, not NOT_READY. -/
theorem not_notReadyIsRefused : ¬Obligations.NotReadyIsRefused := by
  intro h
  obtain ⟨format, _⟩ := h parkedBeforeFormat { sess := 1, tag := 2 } _ rfl rfl (by decide) rfl (by decide) (by decide) (by decide)
  obtain ⟨t, run, answered, _⟩ := format 1
  have same : parkedBeforeFormat.storageFormat { sess := 1, tag := 2 } 1 = t := Host.Outcome.next.inj run
  have last := parkedBeforeFormat_answers
  rw [same, show ((tget t.sessions 1).bind fun ses => ses.resp) = _ from answered] at last
  exact absurd last (by decide)

end Sys2Proof.Machine

namespace Sys2Proof.Machine

set_option Elab.async false

/-! ## Sessions, transfers and held results (R357, R358, R363, R364) -/

/-- The session after a response on it. -/
theorem State.respond_session (s : State) (n : Nat) (r : Resp) (keep : Bool) {x : Session} (opened : tget s.sessions n = some x)
    (closing : x.closing = false) :
    tget (s.respond n r keep).sessions n = some { x with
      kept := if keep then (r :: x.kept).take 8 else x.kept, resp := some r,
      held := if r.kind = 3 ∧ capLimit n < r.length then some (r.value, r.length) else x.held } := by
  unfold State.respond
  rw [opened]
  dsimp only
  rw [if_neg (by simp [closing])]
  split
  · rw [show ∀ (t : State) (m : Nat), (t.raise m).sessions = t.sessions from
      fun t m => State.raise_frame (p := .sessions) t m (by decide)]
    simp
  · simp

/-- The session of a request that CAP takes. -/
theorem State.taken_session (s : State) (r : CapReq) (ses : Session) :
    tget (s.taken r ses).sessions r.sess = some { ses with lastAt := s.now } := by
  show tget (tput _ _ _) _ = _
  rw [tget_tput_self, State.now_of_time (s.bump_time Obj.capRequests)]

theorem State.taken_time (s : State) (r : CapReq) (ses : Session) : (s.taken r ses).time = s.time := s.bump_time Obj.capRequests

theorem State.taken_frame {p : Part} (s : State) (r : CapReq) (ses : Session) (h : p ∉ [Part.free, .cat, .sessions]) :
    p.of (s.taken r ses) = p.of s := by
  simp only [Part.outside] at h
  simp only [State.taken, ↓Part.of_set, ↓State.bump_frame, Part.outside, h, not_false_eq_true, and_self, ne_eq]

theorem State.taken_nand (s : State) (r : CapReq) (ses : Session) : (s.taken r ses).nand = s.nand :=
  State.nand_of_parts fun _ hp => s.taken_frame r ses (Part.apart hp)

theorem State.respond_nand (s : State) (n : Nat) (r : Resp) (keep : Bool) : (s.respond n r keep).nand = s.nand :=
  State.nand_of_parts fun _ hp => s.respond_frame n r keep (Part.apart hp)

/-- A request that CAP takes answers what its body gives. -/
theorem State.capRun_answers {s u : State} {r : CapReq} {kind index sub : Nat} {ses : Session} {allow : Session → Bool}
    {body : Session → State → Option CapOut × State} {o : CapOut} (takes : s.Takes r kind index sub ses) (may : allow ses = true)
    (act : body ses (s.taken r ses) = (some o, u)) :
    s.capRun r kind index sub allow body = u.respond r.sess (o.toResp r.tag kind index sub) true := by
  obtain ⟨opened, closing, mail, fresh, room, ready⟩ := takes
  rw [s.capRun_takes r kind index sub allow body ses opened closing mail fresh room ready may, act]

/-- A message that CAP takes answers what its body gives. -/
theorem State.capMessage_answers {s u : State} {r : CapReq} {m : CapMsg} {kind : Nat} {ses : Session}
    {body : Session → State → Option CapOut × State} {o : CapOut} (takes : s.Takes r kind m.index m.sub ses) (version : m.version = 1)
    (length : m.lengthAgrees = true) (act : body ses (s.taken r ses) = (some o, u)) :
    s.capMessage r m kind body = u.respond r.sess (o.toResp r.tag kind m.index m.sub) true := by
  have run := State.capRun_answers (allow := fun _ => true) takes rfl act
  obtain ⟨opened, closing, mail, _⟩ := takes
  have runs : (ses.closing || (r.sess == 0 && !s.hif.mb.busy)) = false := by
    by_cases z : r.sess = 0
    · simp [closing, mail z]
    · simp [closing, z]
  unfold State.capMessage
  rw [opened]
  dsimp only
  rw [runs, if_neg Bool.false_ne_true, length, if_neg (by decide), if_neg (by simp [version]), run]

/-- A transfer that is abandoned is closed, and its opening Tag gets the error. -/
theorem State.abandonBulk_session {s : State} {n : Nat} {x : Session} (b : Bulk) (code : Nat) (opened : tget s.sessions n = some x)
    (closing : x.closing = false) :
    ∃ y, tget (s.abandonBulk n b code).sessions n = some y ∧ y.closing = false ∧ y.bulk = none ∧
      y.resp = some ((capErr code 0).toResp b.tag 2 b.index b.sub) := by
  have closed : tget (s.modSession n fun x => { x with bulk := none }).sessions n = some { x with bulk := none } := by
    show tget (tmod _ _ _) _ = _
    rw [tget_tmod_self, opened]
    rfl
  exact ⟨_, State.respond_session _ _ _ _ closed closing, closing, rfl, rfl⟩

/-- A segment that follows on the last. -/
theorem State.capBulk_segment {s : State} {r : CapReq} {m : CapMsg} {ses : Session} {b : Bulk} {n : Nat} {v : Int}
    (takes : s.Takes r 4 m.index m.sub ses) (version : m.version = 1) (length : m.lengthAgrees = true) (transfer : ses.bulk = some b)
    (index : b.index = m.index) (sub : b.sub = m.sub) (total : b.total = m.total) (offset : m.offset = b.got)
    (short : b.got + n < b.total) :
    s.capBulk r m n v true =
      ((s.taken r ses).modSession r.sess fun x => { x with bulk := some { b with
        got := b.got + n, value := b.value + (256 ^ b.got * enc n v : Nat), lastAt := (s.taken r ses).now } }).respond r.sess
          (capOk.toResp r.tag 4 m.index m.sub) true := by
  have follows : ¬(b.index ≠ m.index ∨ b.sub ≠ m.sub ∨ b.total ≠ m.total ∨ m.offset ≠ b.got ∨ b.total < b.got + n ∨
      (true == decide (b.got + n = b.total)) = true) := by
    simp [index, sub, total, offset]
    omega
  refine State.capMessage_answers takes version length ?_
  rw [transfer]
  dsimp only
  rw [if_neg follows, if_pos rfl]

/-- A segment out of order. -/
theorem State.capBulk_astray {s : State} {r : CapReq} {m : CapMsg} {ses : Session} {b : Bulk} {n : Nat} {v : Int} {more : Bool}
    (takes : s.Takes r 4 m.index m.sub ses) (version : m.version = 1) (length : m.lengthAgrees = true) (transfer : ses.bulk = some b)
    (astray : m.offset ≠ b.got ∨ m.total ≠ b.total) :
    s.capBulk r m n v more = ((s.taken r ses).modSession r.sess fun x => { x with bulk := none }).respond r.sess
      ((capErr 17 0).toResp r.tag 4 m.index m.sub) true := by
  refine State.capMessage_answers takes version length ?_
  rw [transfer]
  dsimp only
  rw [if_pos (by
    rcases astray with offset | total
    · exact .inr (.inr (.inr (.inl offset)))
    · exact .inr (.inr (.inl total.symm)))]

/-- A session of the taken request, changed. -/
theorem State.taken_modSession (s : State) (r : CapReq) (ses : Session) (f : Session → Session) :
    tget ((s.taken r ses).modSession r.sess f).sessions r.sess = some (f { ses with lastAt := s.now }) := by
  show tget (tmod _ _ _) _ = _
  rw [tget_tmod_self, s.taken_session]
  rfl

/-- A session opened: its traffic keys drawn. -/
theorem State.openTraffic_traffic (s : State) (n : Nat) : (tget (s.openTraffic n).loc.traffic n).isSome = true := by
  unfold State.openTraffic
  dsimp only
  split <;> simp

/-- Settles O47. -/
theorem capSessions : Obligations.CapSessions := by
  refine ⟨fun s n ready low high free room chain handshake => ?_, fun s n ses opened awake low high idle freeze => ?_,
    fun s body runs port room => ?_, fun s r m ses b n v takes version length transfer index sub total offset short => ?_,
    fun s r m ses b n v more takes version length transfer astray => ?_, fun s r ses v n off takes held => ?_,
    fun s r ses b takes transfer tag => ?_, fun s n ses b opened closing transfer awake idle => ?_⟩
  · have run : s.sessionStart n 0 0 = (s.openSession n 0 0xFF).openTraffic n := by
      unfold State.sessionStart
      exact if_pos (by simp [ready, low, high, free, room, chain, handshake])
    refine ⟨_, congrArg Host.Outcome.next run, State.openTraffic_traffic _ _, ?_, ?_, ?_⟩
    · rw [show ((s.openSession n 0 0xFF).openTraffic n).sessions = (s.openSession n 0 0xFF).sessions from
        State.openTraffic_frame (p := .sessions) _ _ (by decide)]
      unfold State.openSession
      rw [tget_tput_self]
      rfl
    · exact State.openTraffic_frame (p := .cat) (s.openSession n 0 0xFF) _ (by decide)
    · exact State.nand_of_parts (s := s.openSession n 0 0xFF) fun p hp => State.openTraffic_frame _ _ (Part.apart hp)
  · have run : s.sessionEnd n = { s.closeTraffic n with sessions := tdel s.sessions n } := by
      unfold State.sessionEnd
      rw [opened]
      dsimp only
      rw [if_pos (by simp [awake, low, high])]
      unfold State.endSession
      rw [opened, freeze]
      dsimp only
      have idle' : (s.closeTraffic n).outstanding n = 0 := idle
      simp only [Option.map_none, Option.getD_none, Bool.false_eq_true, if_false]
      exact if_neg (by simp [idle', show n ≠ 0 by omega])
    exact ⟨_, congrArg Host.Outcome.next run, tget_tdel_self _ _, rfl, rfl⟩
  · have good : rsFrameOk body = true → (tget (s.rsFrame (0xA5 :: body) true).sessions 17).map (·.lastAt) = some s.now := by
      intro ok
      unfold State.rsFrame
      dsimp only
      rw [if_neg (by simp [runs, port]), List.tail_cons, ok, if_neg (by decide)]
      cases h : tget s.sessions 17 with
      | none =>
        rw [if_neg (by simp)]
        unfold State.openSession
        rw [tget_tput_self]
        rfl
      | some x =>
        rw [if_pos (by simp)]
        unfold State.modSession
        rw [tget_tmod_self, h]
        rfl
    have bad : ∀ gap, (rsFrameOk body && gap) = false → s.rsFrame (0xA5 :: body) gap = s.bump Obj.rsFrameErrors := by
      intro gap no
      unfold State.rsFrame
      dsimp only
      rw [if_neg (by simp [runs, port]), List.tail_cons, no]
      exact if_pos rfl
    refine ⟨_, _, rfl, rfl, good, fun no => ?_, ?_, ?_⟩
    · rw [bad true (by simp [no]), bad false (by simp)]
    · rw [bad false (by simp)]
      exact s.bump_cell_self room
    · rw [bad false (by simp)]
      exact State.bump_frame (p := .sessions) s _ (by decide)
  · refine ⟨_, congrArg Host.Outcome.next (State.capBulk_segment takes version length transfer index sub total offset short), ?_⟩
    have session := State.respond_session _ _ (capOk.toResp r.tag 4 m.index m.sub) true (s.taken_modSession r ses fun x => { x with
      bulk := some { b with got := b.got + n, value := b.value + (256 ^ b.got * enc n v : Nat), lastAt := (s.taken r ses).now } })
      takes.2.1
    refine ⟨?_, ?_, ?_⟩
    · unfold State.Replied
      rw [session]
      rfl
    · rw [session, State.now_of_time (s.taken_time r ses)]
      rfl
    · rw [State.respond_nand]
      exact s.taken_nand r ses
  · refine ⟨_, congrArg Host.Outcome.next (State.capBulk_astray takes version length transfer astray), ?_⟩
    have session := State.respond_session _ _ ((capErr 17 0).toResp r.tag 4 m.index m.sub) true
      (s.taken_modSession r ses fun x => { x with bulk := none }) takes.2.1
    unfold State.Replied
    rw [session]
    exact ⟨rfl, rfl⟩
  · have run : s.capResult r off = (s.taken r ses).respond r.sess ((capFrom n v off).toResp r.tag 5 0 0) true := by
      refine State.capRun_answers takes rfl ?_
      rw [held]
    have session := State.respond_session _ _ ((capFrom n v off).toResp r.tag 5 0 0) true (s.taken_session r ses) takes.2.1
    refine ⟨_, congrArg Host.Outcome.next run, ?_, ?_⟩
    · unfold State.Replied
      rw [session]
      rfl
    · rw [State.respond_nand]
      exact s.taken_nand r ses
  · have run : s.capAbort r = ((s.taken r ses).abandonBulk r.sess b 22).respond r.sess (capOk.toResp r.tag 6 0 0) true := by
      refine State.capRun_answers takes rfl ?_
      rw [transfer, Option.filter_some, if_pos (by simp [tag])]
    obtain ⟨y, session, closing, none, _⟩ := State.abandonBulk_session b 22 (s.taken_session r ses) takes.2.1
    have session := State.respond_session _ _ (capOk.toResp r.tag 6 0 0) true session closing
    refine ⟨_, congrArg Host.Outcome.next run, ?_⟩
    unfold State.Replied
    rw [session]
    exact ⟨rfl, none⟩
  · have run : s.bulkTimeout n = s.abandonBulk n b 18 := by
      unfold State.bulkTimeout
      rw [opened, Option.bind_some, transfer]
      exact if_pos (by simp [awake, idle])
    obtain ⟨y, session, _, none, resp⟩ := State.abandonBulk_session b 18 opened closing
    refine ⟨_, congrArg Host.Outcome.next run, ?_⟩
    rw [session, Option.bind_some, Option.bind_some, none, resp]
    exact ⟨rfl, rfl⟩

end Sys2Proof.Machine

set_option autoImplicit false
namespace Sys2Proof.Machine

set_option Elab.async false

/-- What the release of PFI_N leaves of tamper source 11, which is not stuck. -/
theorem State.tamperRelease_free (s : State) (source : Nat) (free : bit s.bat.stuck source = false) :
    (s.tamperRelease source).cat = s.cat ∧ (s.tamperRelease source).pins = s.pins ∧ (s.tamperRelease source).pw = s.pw := by
  unfold State.tamperRelease
  split
  · exact ⟨rfl, rfl, rfl⟩
  · have still : bit (s.modSource source fun x => { x with active := false }).bat.stuck source = false := free
    simp only [still, Bool.not_false, if_true]
    exact ⟨rfl, rfl, rfl⟩

/-- A ball of a part that PORST_N holds stands at its level in reset (R457). -/
theorem State.ballHigh_held {s : State} (held : s.pins.porst = true) {b : Ball} (other : b ≠ .pwrSafe) :
    s.ballHigh b = b.highInReset := by
  have asleep : s.awake = false := by simp [State.awake, held]
  simp [State.ballHigh, other, asleep]

/-- What PORST_N_ASSERT does to a part that runs (R452). -/
theorem State.cutOff_keeps (s : State) :
    s.cutOff.pins = s.pins ∧ s.cutOff.time = s.time ∧ s.cutOff.bat = s.bat ∧ s.cutOff.pw.stage = 0 ∧
      (s.pins.pwrSafe = false → s.cask.dirty ≠ 0 → s.cutOff.nand = s.nandProg ∧ s.cutOff.cask.dirty = 0) ∧
      (s.pins.pwrSafe = true → s.cutOff.nand = s.nand) := by
  unfold State.cutOff
  dsimp only
  split
  next kept =>
    refine ⟨rfl, rfl, rfl, rfl, fun unsafe_ dirty => ?_, fun _ => rfl⟩
    simp [unsafe_, dirty] at kept
  next lost =>
    refine ⟨rfl, rfl, rfl, rfl, fun _ _ => ⟨rfl, rfl⟩, fun safe => ?_⟩
    simp [safe] at lost

/-- Settles O4. -/
theorem pinsAndSupply : Obligations.PinsAndSupply := by
  refine ⟨fun s up rails => ⟨_, rfl, ?_⟩, fun s held free => ⟨_, rfl, ?_⟩, fun s rails porst vbat => ⟨_, rfl, ?_⟩,
    fun s mv low => ⟨_, rfl, ?_⟩, fun s mv high => ⟨_, rfl, ?_⟩, fun s mv low => ⟨_, rfl, ?_⟩, fun s runs set due => ⟨_, rfl, ?_⟩,
    fun s runs => ⟨_, rfl, if_pos runs⟩⟩
  · obtain ⟨-, time, bat, stage, lost, kept⟩ := s.cutOff_keeps
    have down : s.porstAssert = { s.cutOff with pins.porst := true, pins.safe := true } := by
      simp [State.porstAssert, up, rails]
    rw [down]
    exact ⟨rfl, rfl, stage, time, bat, lost, kept, fun b other => State.ballHigh_held rfl other⟩
  · unfold State.pfiRelease
    extract_lets now pins pw s1 s2
    have kept : s2.cat = s1.cat ∧ s2.pins = s1.pins ∧ s2.pw = s1.pw := by
      unfold s2
      split
      · exact s1.tamperRelease_free 11 free
      · exact ⟨rfl, rfl, rfl⟩
    obtain ⟨cat, pins, pw⟩ := kept
    have unheld : s2.pw.held = none := (congrArg Power.held pw).trans held
    rw [unheld]
    exact ⟨congrArg Pins.pfi pins, congrArg Power.releasedAt pw, (congrArg Power.cause pw :), cat⟩
  · have down : s.railsLost = { s with pw.rails := false, pins.safe := true, bat.onVbat := true } := by
      simp [State.railsLost, rails, porst, vbat]
    rw [down]
    exact ⟨rfl, rfl, rfl, rfl, rfl, rfl⟩
  · have handed : s.changeOver mv true = { s with bat.vbat := true, bat.onVbat := true } := by
      have not_high : ¬3000 < mv := by omega
      simp [State.changeOver, low, not_high]
    rw [handed]
    exact ⟨rfl, rfl, rfl⟩
  · have back : s.changeOver mv true = { s with bat.vbat := true, bat.onVbat := false } := by simp [State.changeOver, high]
    rw [back]
    exact ⟨rfl, rfl⟩
  · have gone : s.changeOver mv false = State.batteryLost { s with bat.vbat := false } := by
      have not_high : ¬3000 < mv := by omega
      simp [State.changeOver, low, not_high]
    rw [gone]
    exact ⟨rfl, rfl, rfl, rfl⟩
  · have reached : (s.claspRuns && s.bat.wakeAlarm != 0 && Nat.ble s.bat.wakeAlarm (s.bat.rtc / 32768)) = true := by
      simp [runs, set, due]
    exact if_pos reached

end Sys2Proof.Machine

set_option autoImplicit false
namespace Sys2Proof.Machine

set_option Elab.async false

/-- An uncorrectable error of a part that runs, with no sequence running, ends in PWR_SAFE with cause 4 (R424). -/
theorem State.faultRestart_done {s : State} (lost : Bool) (running : s.pastFive = true) (unsafe_ : s.pins.pwrSafe = false)
    (cause : s.pw.cause = 0) :
    (s.faultRestart lost).pins.pwrSafe = true ∧ (s.faultRestart lost).pw.cause = 4 ∧ (s.faultRestart lost).cask.dirty = 0 := by
  unfold State.faultRestart
  simp only [running, unsafe_, Bool.not_true, Bool.or_self, Bool.false_eq_true, if_false, cause, if_true]
  refine ⟨(State.makeSafe_done _).1, ?_, (State.makeSafe_done _).2.2.1⟩
  refine (congrArg Power.cause (State.makeSafe_frame (p := .pw) _ (by decide))).trans ?_
  have failed : ∀ u : State, (u.powerFail 4).pw.cause = 4 := fun u => congrArg Power.cause (u.powerFail_pw 4)
  split
  · exact failed _
  · exact failed _

/-- Whether the part is past step 5 shows in the pins and the power state. -/
theorem State.pastFive_of_parts {s t : State} (pins : t.pins = s.pins) (pw : t.pw = s.pw) : t.pastFive = s.pastFive := by
  simp only [State.pastFive, State.awake, pins, pw]

/-- A state with the pins and the power state of one that runs ends the same way. -/
theorem State.faultRestart_after {s t : State} (lost : Bool) (pins : t.pins = s.pins) (pw : t.pw = s.pw)
    (running : s.pastFive = true) (unsafe_ : s.pins.pwrSafe = false) (cause : s.pw.cause = 0) :
    (t.faultRestart lost).pins.pwrSafe = true ∧ (t.faultRestart lost).pw.cause = 4 ∧ (t.faultRestart lost).cask.dirty = 0 :=
  State.faultRestart_done lost ((State.pastFive_of_parts pins pw).trans running) ((congrArg Pins.pwrSafe pins).trans unsafe_)
    ((congrArg Power.cause pw).trans cause)

/-- The frames that read the poisoned data leave; the pins and the power state stay. -/
theorem State.foldl_dropFrame_frame {p : Part} (s : State) (frames : List Nat)
    (apart : p ∈ [Part.pins, .pw]) :
    p.of (frames.foldl (fun (u : State) (id : Nat) => u.dropFrame id) s.dropEarly) = p.of s := by
  have dropped : ∀ (u : State) (id : Nat), p.of (u.dropFrame id) = p.of u := fun u id => u.dropFrame_frame id (Part.apart apart)
  rw [Part.of_foldl _ _ _ _ dropped, s.dropEarly_frame (Part.apart apart)]

/-- Settles O6. -/
theorem uncorrectableErrors : Obligations.UncorrectableErrors := by
  refine ⟨fun s fr running unsafe_ cause => ⟨_, rfl, ?_⟩, fun s addr fr running unsafe_ cause low on => ⟨_, rfl, ?_⟩, fun s => rfl⟩
  · have run : s.ddrUncorrectable fr = (fr.foldl (fun (u : State) (id : Nat) => u.dropFrame id) s.dropEarly).faultRestart false := by
      simp [State.ddrUncorrectable, running]
    rw [run]
    exact State.faultRestart_after false (s.foldl_dropFrame_frame (p := .pins) fr (by decide))
      (s.foldl_dropFrame_frame (p := .pw) fr (by decide)) running unsafe_ cause
  · have awake : s.awake = true := by
      simp only [State.pastFive, Bool.and_eq_true] at running
      exact running.1
    unfold State.poisonRead
    extract_lets n s1 s2 s3 early s4
    rw [if_neg (by simp [awake, n, on]), if_pos (by simp [n, low]), Bool.and_false, Bool.false_and]
    have kept {p : Part} (apart : p ∈ [Part.pins, .pw]) : p.of s4 = p.of s := by
      have discarded : ∀ (u : State) (f : Frame), p.of (u.discardWhole f) = p.of u := fun u f => u.discardWhole_frame f (Part.apart apart)
      unfold s4 s3 s2
      rw [Part.of_foldl _ _ _ _ discarded, State.logDiagFree_frame _ _ _ (Part.apart apart), State.bump_frame _ _ (Part.apart apart)]
      exact (Part.of_setMem p s).1 _ (by rintro rfl; exact absurd apart (by decide))
    exact State.faultRestart_after false (kept (p := .pins) (by decide)) (kept (p := .pw) (by decide)) running unsafe_ cause

end Sys2Proof.Machine

set_option autoImplicit false
namespace Sys2Proof.Machine

set_option Elab.async false

/-! ### Objects of the catalogue across the gate (R404, R406) -/

/-- The objects that closing the gate, and opening it again, write. -/
abbrev gateCells : List Nat := [Obj.gateState, Obj.gateCloseCause, Obj.stagedItems, Obj.dangerousDetected, Obj.gateRefusedExpired]

/-- An object of the catalogue that the gate leaves. -/
abbrev Ungated (k : Nat) : Prop := Unrecorded k ∧ k ∉ gateCells

theorem Ungated.ne {k : Nat} (h : Ungated k) (j : Nat) (hj : j ∈ gateCells := by decide) : k ≠ j := fun e => h.2 (e ▸ hj)

theorem State.countItems_cell (s : State) (tag : Nat) {k : Nat} (h : k ≠ Obj.stagedItems) : (s.countItems tag).cell k = s.cell k :=
  State.set_cell _ _ h

theorem State.unstage_cell (s : State) (seq tag : Nat) {k : Nat} (h : k ≠ Obj.stagedItems) : (s.unstage seq tag).cell k = s.cell k :=
  State.countItems_cell _ tag h

theorem State.endRequest_cell (s : State) (q : SwitchReq) (stage outcome k : Nat) : (s.endRequest q stage outcome).cell k = s.cell k :=
  State.cell_of_cat (s.endRequest_frame q stage outcome (by decide)) k

theorem State.dropItem_cell (s : State) (i : Item) (outcome : Nat) {k : Nat} (h : Unrecorded k) (staged : k ≠ Obj.stagedItems) :
    (s.dropItem i outcome).cell k = s.cell k := by
  unfold State.dropItem
  extract_lets s1 tenant s2
  have logged : s2.cell k = s.cell k := (State.logOp_cell _ _ _ _ h).trans (s.unstage_cell _ _ staged)
  split
  · exact (State.endRequest_cell _ _ _ _ _).trans logged
  · exact logged

/-- Closing the gate writes its state and its cause. -/
theorem State.closeGate_cell (s : State) (g : GateFault) {k : Nat} (h : Unrecorded k) (staged : k ≠ Obj.stagedItems) :
    (s.closeGate g).cell k =
      if k = Obj.gateCloseCause then (g.cause : Int) else if k = Obj.gateState then (s.closedState g.cause : Int) else s.cell k := by
  unfold State.closeGate
  extract_lets s1 pins gate s2 items s3
  have dropped : s3.cell k = s2.cell k := State.foldl_cell (fun u i => u.dropItem_cell i 4 h staged) _ _
  rw [State.logSec_cell _ _ _ _ h, dropped, State.raise_cell]
  change s1.cell k = _
  split
  next cause => rw [cause]; exact State.set_cell_self _ _ _
  next other =>
    rw [State.set_cell _ _ other]
    split
    next state => rw [state]; exact State.set_cell_self _ _ _
    next elsewhere => exact State.set_cell _ _ elsewhere

theorem State.closeGate_cell_of (s : State) (g : GateFault) {k : Nat} (h : Ungated k) : (s.closeGate g).cell k = s.cell k := by
  rw [s.closeGate_cell g h.1 (h.ne _), if_neg (h.ne _), if_neg (h.ne _)]

theorem State.dangerous_cell (s : State) (g : GateFault) {k : Nat} (h : Ungated k) : (s.dangerous g).cell k = s.cell k :=
  (State.closeGate_cell_of _ g h).trans (s.bump_cell (h.ne _))

theorem State.pairBist_cell (s : State) (ok0 ok1 : Bool) {k : Nat} (h : Ungated k) : (s.pairBist ok0 ok1).cell k = s.cell k := by
  unfold State.pairBist
  dsimp only
  split
  · exact State.dangerous_cell _ _ h
  · split
    · exact State.dangerous_cell _ _ h
    · rfl

theorem State.recheckItem_cell (s : State) (i : Item) {k : Nat} (h : Ungated k) : (s.recheckItem i).cell k = s.cell k := by
  have dropped : ∀ outcome, (s.dropItem i outcome).cell k = s.cell k := fun outcome => s.dropItem_cell i outcome h.1 (h.ne _)
  unfold State.recheckItem
  split
  · rfl
  · split
    · exact (State.bump_cell _ (h.ne _)).trans (dropped 2)
    · split
      · rfl
      · exact (State.dangerous_cell _ _ h).trans (dropped 4)

theorem State.openGate_cell (s : State) {k : Nat} (h : Ungated k) : s.openGate.cell k = s.cell k := by
  unfold State.openGate
  rw [State.logSec_cell _ _ _ _ h.1]
  change ((s.set Obj.gateState 0).set Obj.gateCloseCause 0).cell k = _
  rw [State.set_cell _ _ (h.ne Obj.gateCloseCause), State.set_cell _ _ (h.ne Obj.gateState)]

theorem State.gateRecheck_cell (s : State) (ok0 ok1 : Bool) {k : Nat} (h : Ungated k) : (s.gateRecheck ok0 ok1).cell k = s.cell k := by
  unfold State.gateRecheck
  extract_lets gate s1 s2 s3
  have checked : s3.cell k = s.cell k :=
    (State.foldl_cell (fun u i => u.recheckItem_cell i h) _ _).trans ((s1.pairBist_cell ok0 ok1 h).trans rfl)
  split
  · exact (State.openGate_cell _ h).trans checked
  · exact checked

end Sys2Proof.Machine

set_option autoImplicit false
namespace Sys2Proof.Machine

set_option Elab.async false

theorem State.wakeBank_cell (s : State) (b : Nat) (onAccess : Bool) {k : Nat} (wakes : k ≠ Obj.bankWakes)
    (access : k ≠ Obj.bankWakeOnAccess) : (s.wakeBank b onAccess).cell k = s.cell k := by
  unfold State.wakeBank
  split
  · rfl
  · extract_lets mem woken
    have counted : woken.cell k = s.cell k := State.bump_cell _ wakes
    split
    · exact (State.bump_cell _ access).trans counted
    · exact counted

theorem State.wakeBanks_cell (s : State) {k : Nat} (wakes : k ≠ Obj.bankWakes) (access : k ≠ Obj.bankWakeOnAccess) :
    s.wakeBanks.cell k = s.cell k := by
  refine State.foldl_cell (fun u n => ?_) _ s
  split
  · rfl
  · exact u.wakeBank_cell n false wakes access

theorem State.setIq_cell (s : State) (p code lanes : Nat) {k : Nat} (h : ∀ q, k ≠ Obj.iqPortStatus q) :
    (s.setIq p code lanes).cell k = s.cell k := s.set_cell _ (h p)

theorem State.trainPort_cell (s : State) (p : Nat) (pattern : Bool) {k : Nat} (h : ∀ q, k ≠ Obj.iqPortStatus q) :
    (s.trainPort p pattern).cell k = s.cell k := (s.abortPort p).setIq_cell p 1 0 h

theorem State.trainAll_cell (s : State) {k : Nat} (h : ∀ q, k ≠ Obj.iqPortStatus q) : s.trainAll.cell k = s.cell k := by
  unfold State.trainAll
  split
  · rfl
  · exact State.foldl_cell (fun u p => u.trainPort_cell p true h) _ s

theorem powerState_ne_iqPortStatus (p : Nat) : Obj.powerState ≠ Obj.iqPortStatus p := by
  simp only [Obj.powerState, Obj.iqPortStatus]
  omega

/-- The return from Standby ends in PowerState 0 (R417). -/
theorem State.resume_powerState (s : State) : s.resume.get Obj.powerState = 0 := by
  rw [State.get_eq_cell]
  unfold State.resume
  extract_lets s1 s2
  have woken : s1.cell Obj.powerState = 0 :=
    (State.wakeBanks_cell _ (by decide) (by decide)).trans (State.set_cell_self _ _ _)
  have opened : s2.cell Obj.powerState = 0 := by
    unfold s2
    split
    · exact (s1.set_cell _ (by decide)).trans woken
    · exact (s1.gateRecheck_cell _ _ (by decide)).trans woken
  exact (s2.trainAll_cell powerState_ne_iqPortStatus).trans opened

/-- What PowerStateSet 2 and 3 leave, once the request is answered (R418). -/
theorem State.setDown_answers {s : State} {r : CapReq} {ses : Session} (cause : Nat) (admits : s.Admits r Obj.powerStateSet ses)
    (up : s.up = true) :
    (s.setDown r cause).Answered r Obj.powerStateSet capOk ∧ (s.setDown r cause).pw.cause = cause ∧
      (s.setDown r cause).get Obj.powerState = 3 ∧ (s.setDown r cause).get Obj.gateState = 3 ∧ (s.setDown r cause).pins.safe = true := by
  obtain ⟨pw, pins, -⟩ := s.executing_fields r ses
  have still : (s.executing r ses).up = true := by
    rw [State.up, State.awake, pw, pins, s.executing_nat r ses (by decide)]
    exact up
  obtain ⟨t, run, answers⟩ := State.capExec_answers
    (body := fun _ s => if s.up then (capOk, s.powerFail cause) else (capErr 6 0, s)) admits (if_pos still)
    (State.powerFail_frame _ _ (by decide))
  obtain ⟨power, gate⟩ := (s.executing r ses).powerFail_states cause
  have down : s.setDown r cause = t := run
  rw [down]
  refine ⟨answers.answered, ?_, (answers.cells _ (by decide)).trans power, (answers.cells _ (by decide)).trans gate, ?_⟩
  · rw [show t.pw = _ from answers.parts .pw (by decide), show Part.of .pw _ = _ from State.powerFail_pw _ cause]
  · exact (congrArg Pins.safe (answers.parts .pins (by decide))).trans (State.powerFail_safe _ cause)

/-- A path without frames stays so when the receivers are reset. -/
theorem State.receiversReset_frames {s : State} (empty : s.frames = []) : s.receiversReset.frames = [] := by
  unfold State.receiversReset
  extract_lets cold lane held s1 s2 s3
  have kept : s2.frames = [] := by
    refine (Part.of_foldl .frames _ _ _ fun u p => ?_).trans empty
    exact (State.setIq_frame _ _ _ _ (by decide)).trans (State.abortPort_frame _ _ (by decide))
  have idle : s3 = s2 := by
    unfold s3
    clear_value s2
    rw [kept, List.foldl_nil]
  clear_value s3
  exact (congrArg State.frames idle).trans kept

/-- Settles O5. -/
theorem powerStateCommands : Obligations.PowerStateCommands := by
  refine ⟨fun s r ses admits standby => ?_, fun s r ses admits serving active => ?_,
    fun s r ses admits up => ⟨_, rfl, State.setDown_answers 2 admits up⟩,
    fun s r ses admits up => ⟨_, rfl, State.setDown_answers 3 admits up⟩, fun s serving standby empty => ?_⟩
  · have still : (s.executing r ses).nat Obj.powerState = 1 := (s.executing_nat r ses (by decide)).trans standby
    obtain ⟨t, run, answers⟩ := State.capExec_answers
      (body := fun _ s => if s.nat Obj.powerState = 1 then (capOk, s.resume) else (capErr 6 0, s)) admits (if_pos still)
      (State.resume_frame _ (by decide))
    exact ⟨t, congrArg _ run, answers.answered, (answers.cells _ (by decide)).trans (State.resume_powerState _)⟩
  · obtain ⟨pw, pins, -⟩ := s.executing_fields r ses
    have still : ((s.executing r ses).serving && !(s.executing r ses).pw.standby) = true := by
      rw [State.serving, State.awake, pw, pins, s.executing_nat r ses (by decide), active]
      simpa [State.serving, State.awake] using serving
    obtain ⟨t, run, answers⟩ := State.capExec_answers
      (body := fun _ s => if s.serving && !s.pw.standby then (capOk, { s with pw.standby := true }.dropEarly) else (capErr 6 0, s))
      admits (if_pos still) ((State.dropEarly_frame _ (by decide)).trans rfl)
    refine ⟨t, congrArg _ run, answers.answered, ?_, ?_⟩
    · exact congrArg Power.standby ((answers.parts .pw (by decide)).trans (State.dropEarly_frame _ (by decide)))
    · refine (answers.cells _ (by decide)).trans ((State.cell_of_cat (State.dropEarly_frame _ (by decide)) _).trans ?_)
      exact State.executing_cell s r ses (by decide)
  · have due : (s.serving && s.pw.standby && s.frames.all fun f => Nat.ble 11 f.stage) = true := by simp [serving, standby, empty]
    refine ⟨s.standbyEntered, rfl, ?_⟩
    unfold State.standbyEntered
    rw [if_pos due]
    extract_lets pw s1 s2
    have off {p : Part} (hp : p ∈ [Part.cat, .pins, .pw, .frames]) :
        p.of ((List.range 32).foldl (fun (u : State) (n : Nat) => u.bankOff n) s2) = p.of s2 :=
      Part.of_foldl p _ _ _ fun u n => u.bankOff_frame n (Part.apart hp)
    have cells (k : Nat) := State.cell_of_cat (off (p := .cat) (by decide)) k
    have reset {p : Part} (hp : p ∈ [Part.pw, .frames]) : p.of s2 = p.of (State.receiversReset { s with pw.standby := false }) := by
      unfold s2 s1
      rw [State.assertSafe_frame _ (Part.apart hp), State.set_frame _ _ _ (Part.apart hp), State.set_frame _ _ _ (Part.apart hp),
        State.raise_frame _ _ (Part.apart hp)]
    refine ⟨(cells _).trans ?_, (cells _).trans ?_, ?_, ?_, ?_⟩
    · rw [State.cell_of_cat (State.assertSafe_frame _ (by decide)), State.set_cell _ _ (by decide), State.set_cell_self]
    · rw [State.cell_of_cat (State.assertSafe_frame _ (by decide)), State.set_cell_self]
    · exact (congrArg Pins.safe (off (p := .pins) (by decide))).trans (State.assertSafe_safe _)
    · exact congrArg Power.standby ((off (p := .pw) (by decide)).trans ((reset (by decide)).trans (State.receiversReset_frame _ (by
        decide))))
    · exact (off (p := .frames) (by decide)).trans ((reset (p := .frames) (by decide)).trans (State.receiversReset_frames empty))

end Sys2Proof.Machine

set_option autoImplicit false
namespace Sys2Proof.Machine

set_option Elab.async false

/-! ### The tamper monitor (R386 to R391) -/

theorem State.foldTamper_cell (s : State) (source : Nat) {k : Nat} (h : Unrecorded k) : (s.foldTamper source).2.cell k = s.cell k := by
  unfold State.foldTamper
  dsimp only
  split
  · rfl
  · split
    · rfl
    · exact s.fold_cell _ h

theorem State.queueTamper_cell (s : State) (e : SleepEvent) (k : Nat) : (s.queueTamper e).cell k = s.cell k :=
  State.cell_of_cat (s.queueTamper_frame e (by decide)) k

theorem State.recordTamper_cell (s : State) (source kind response : Nat) (aborted storm : Bool) {k : Nat} (h : Unrecorded k) :
    (s.recordTamper source kind response aborted storm).cell k = s.cell k := by
  unfold State.recordTamper
  split
  · rfl
  · extract_lets ctx write
    have written : ∀ u : State, (write u).cell k = u.cell k := fun u => u.logSec_cell _ _ _ h
    have folded := s.foldTamper_cell source h
    split
    · split
      · split
        next u eq => exact (congrArg (fun x : Bool × State => x.2.cell k) eq).symm.trans folded
        next u eq => exact (written u).trans ((congrArg (fun x : Bool × State => x.2.cell k) eq).symm.trans folded)
      · exact written s
    · exact s.queueTamper_cell _ k

/-- What an input's activation keeps of a state where its counting and its record keep it, its response being none. -/
theorem State.tamper_silent {α : Type} (P : State → α) (s : State) {source : Nat} (silent : ∀ t : State, t.tamperResponse source = 0)
    (counted : ∀ (u : State) (f : Source → Source), P (u.modSource source f) = P u)
    (recorded : ∀ (u : State) (a b : Bool), P (u.recordTamper source 1 0 a b) = P u) : P (s.tamper source) = P s := by
  unfold State.tamper
  split
  · rfl
  · extract_lets rtc sec now s1 n storm s2 resp aborted s3 pins s4
    have quiet : resp = 0 := silent s2
    have second : P s2 = P s := by
      unfold s2
      split
      · exact (counted _ _).trans (counted _ _)
      · exact counted _ _
    have third : P s3 = P s := by
      unfold s3
      split
      · exact second
      · rw [quiet]
        exact (recorded _ _ _).trans second
    have same : s4 = s3 := if_pos quiet
    rw [if_neg (by simp [quiet]), if_neg (by simp [quiet]), same]
    exact third

theorem State.tamper_silent_frame {p : Part} (s : State) {source : Nat} (silent : ∀ t : State, t.tamperResponse source = 0)
    (h : p ∉ [Part.free, .cat, .bat, .hif, .logs]) : p.of (s.tamper source) = p.of s :=
  State.tamper_silent p.of s silent (fun u f => u.modSource_frame source f (fun b => h (by simp_all)))
    fun u a b => u.recordTamper_frame _ _ _ _ _ h

theorem State.tamper_silent_cell (s : State) {source : Nat} (silent : ∀ t : State, t.tamperResponse source = 0) {k : Nat}
    (h : Unrecorded k) : (s.tamper source).cell k = s.cell k :=
  State.tamper_silent (fun u => u.cell k) s silent (fun _ _ => rfl) fun u a b => u.recordTamper_cell _ _ _ _ _ h

end Sys2Proof.Machine

set_option autoImplicit false
namespace Sys2Proof.Machine

set_option Elab.async false

/-- The checks of a SEAL are those of the state before the request was counted. -/
theorem State.executing_sealCheck (s : State) (r : CapReq) (ses : Session) (e : Epmeir) (a : SealArg) :
    (s.executing r ses).sealCheck e a = s.sealCheck e a := by
  obtain ⟨-, pins, -, -, -, nand, loc, -⟩ := s.executing_fields r ses
  simp (disch := decide) only [State.sealCheck, State.containerCheck, State.targetOk, State.anchorHas, State.allAnchors, nand, loc, pins,
    s.executing_nat r ses]
  rfl

theorem State.setSealed_cell (s : State) (j : Nat) (v : Int) {k : Nat} (h : k ≠ j) : (s.setSealed j v).cell k = s.cell k :=
  State.set_cell _ _ h

theorem State.openSeal_cell (s : State) (e : Epmeir) (a : SealArg) :
    (s.openSeal e a).cell Obj.sealState = 1 ∧ (s.openSeal e a).cell Obj.sealCounter = (s.hall.fuses + 1 : Nat) := by
  unfold State.openSeal
  constructor
  · rw [State.logLegal_cell _ _ _ _ (by decide), State.setSealed_cell _ _ _ (by decide), State.set_cell _ _ (by decide),
      State.set_cell_self]
  · rw [State.logLegal_cell _ _ _ _ (by decide), State.setSealed_cell _ _ _ (by decide), State.set_cell_self]

theorem State.openSeal_hall (s : State) (e : Epmeir) (a : SealArg) :
    (s.openSeal e a).hall = { s.hall with fuses := s.hall.fuses + 1, openAt := s.now, writes := 0 } := by
  change Part.of .hall _ = _
  simp (disch := decide) only [State.openSeal, ↓State.logLegal_frame, ↓State.setSealed_frame, ↓State.set_frame]
  rfl

/-- An unsealed state that ends is sealed, or exhausted after the 64th break (R385). -/
theorem State.closeSeal_state {s : State} (cause : Nat) (unsealed : s.nat Obj.sealState = 1) :
    (s.closeSeal cause).get Obj.sealState = if 64 ≤ s.hall.fuses then 2 else 0 := by
  rw [State.get_eq_cell]
  unfold State.closeSeal
  rw [if_neg (by simp [unsealed]), State.logLegal_cell _ _ _ _ (by decide), State.set_cell_self]
  simp

/-- A close that passes its checks finds the part unsealed. -/
theorem State.unsealed_of_sealCheck {s : State} {e : Epmeir} {a : SealArg} (pass : s.sealCheck e a = none) (close : a.action = 2) :
    s.nat Obj.sealState = 1 := by
  unfold State.sealCheck at pass
  split at pass
  · cases pass
  · simp [firstFail, close] at pass
    simp_all

/-- What SEAL_SUBMIT answers where the container passes its checks (R384). -/
theorem State.sealSubmit_answers {s : State} {r : CapReq} {ses : Session} {e : Epmeir} {a : SealArg} {burnOk : Bool} {o : CapOut}
    {u : State} (admits : s.Admits r Obj.sealSubmit ses) (pass : s.sealCheck e a = none)
    (act : (if a.action = 2 then (capOk, ((s.executing r ses).setSealed Obj.sealContainerCounter e.counter).closeSeal 1)
      else if !burnOk then (capErr 14 9, s.executing r ses) else (capOk, (s.executing r ses).openSeal e a)) = (o, u))
    (kept : Part.of .sessions u = Part.of .sessions (s.executing r ses)) :
    ∃ t, exec (.sealSubmit r e a burnOk) s = .next t ∧ t.Answers u r Obj.sealSubmit o := by
  obtain ⟨t, run, answers⟩ := State.capExec_answers (body := fun _ s => match s.sealCheck e a with
    | some n => (capErr 14 n, s)
    | none =>
      if a.action = 2 then (capOk, (s.setSealed Obj.sealContainerCounter e.counter).closeSeal 1)
      else if !burnOk then (capErr 14 9, s)
      else (capOk, s.openSeal e a)) admits (by rw [s.executing_sealCheck r ses, pass]; exact act) kept
  exact ⟨t, congrArg _ run, answers⟩

/-- Settles O7. -/
theorem sealOpensAndCloses : Obligations.SealOpensAndCloses := by
  refine ⟨fun s r ses e a admits pass opens => ?_, fun s r ses e a admits pass opens => ?_, fun s r ses e a admits pass closes => ?_,
    fun s awake unsealed free => ?_, fun s awake unsealed due => ?_, fun s => ?_⟩
  · have act := State.sealSubmit_answers (burnOk := true) (u := (s.executing r ses).openSeal e a) (o := capOk) admits pass (by simp
      [opens])
      (State.openSeal_frame _ _ _ (by decide))
    obtain ⟨t, run, answers⟩ := act
    obtain ⟨state, counter⟩ := (s.executing r ses).openSeal_cell e a
    have hall : t.hall = _ := (answers.parts .hall (by decide)).trans ((s.executing r ses).openSeal_hall e a)
    have before := State.executing_frame (p := .hall) s r ses (by decide)
    have now : (s.executing r ses).now = s.now := State.now_of_time (s.executing_fields r ses).2.2.1
    refine ⟨t, run, answers.answered, (answers.cells _ (by decide)).trans state, ?_, ?_, ?_, ?_⟩
    · rw [hall]
      exact congrArg (fun x : Hallmark => x.fuses + 1) before
    · refine (answers.cells _ (by decide)).trans (counter.trans ?_)
      exact congrArg (fun x : Hallmark => ((x.fuses + 1 : Nat) : Int)) before
    · rw [hall]
    · rw [hall]
      exact now
  · obtain ⟨t, run, answers⟩ := State.sealSubmit_answers (burnOk := false) (u := s.executing r ses) (o := capErr 14 9) admits pass
      (by simp [opens]) rfl
    refine ⟨t, run, answers.answered, (answers.parts .hall (by decide)).trans (State.executing_frame s r ses (by decide)), ?_⟩
    exact (answers.cells _ (by decide)).trans (State.executing_cell s r ses (by decide))
  · have unsealed := State.unsealed_of_sealCheck pass closes
    obtain ⟨t, run, answers⟩ := State.sealSubmit_answers (burnOk := true) (o := capOk)
      (u := ((s.executing r ses).setSealed Obj.sealContainerCounter e.counter).closeSeal 1) admits pass (by simp [closes])
      ((State.closeSeal_frame _ _ (by decide)).trans (State.setSealed_frame _ _ _ (by decide)))
    have sealed_ : ((s.executing r ses).setSealed Obj.sealContainerCounter e.counter).nat Obj.sealState = 1 :=
      (State.nat_of_get ((State.setSealed_cell _ _ _ (by decide)).trans (State.executing_cell s r ses (by decide)))).trans unsealed
    have hall := (State.setSealed_frame (p := .hall) (s.executing r ses) Obj.sealContainerCounter e.counter (by decide)).trans
      (State.executing_frame s r ses (by decide))
    refine ⟨t, run, answers.answered, ?_, ?_⟩
    · exact (answers.parts .hall (by decide)).trans ((State.closeSeal_frame _ _ (by decide)).trans hall)
    · refine (answers.cells _ (by decide)).trans ((State.closeSeal_state 1 sealed_).trans ?_)
      exact congrArg (fun x : Hallmark => if 64 ≤ x.fuses then (2 : Int) else 0) hall
  · refine ⟨s.sealRelease, rfl, ?_⟩
    have rails : s.pw.rails = true := by
      simp only [State.awake, Bool.and_eq_true] at awake
      exact awake.1
    unfold State.sealRelease
    extract_lets pins s1 s2
    obtain ⟨cat, pins', pw⟩ := s1.tamperRelease_free 10 free
    have hall : s2.hall = s1.hall := State.tamperRelease_frame (p := .hall) s1 10 (by decide)
    have up : s2.awake = true := by
      rw [State.awake, show s2.pw = _ from pw, show s2.pins = _ from pins']
      exact awake
    rw [if_neg (by simp [s1, rails]), if_pos up]
    refine ⟨?_, ?_, ?_⟩
    · exact (congrArg Pins.sealN (State.closeSeal_frame (p := .pins) s2 2 (by decide))).trans (congrArg Pins.sealN pins')
    · exact (State.closeSeal_frame (p := .hall) s2 2 (by decide)).trans hall
    · rw [State.closeSeal_state 2 ((State.nat_of_get (State.get_of_cat cat _)).trans unsealed), hall]
  · refine ⟨s.closeSeal 3, congrArg _ (if_pos (by simp [awake, due])), State.closeSeal_frame (p := .hall) s 3 (by decide),
      State.closeSeal_frame (p := .pins) s 3 (by decide), State.closeSeal_state 3 unsealed⟩
  · have silent : ∀ t : State, t.tamperResponse 10 = 0 := fun t => rfl
    refine ⟨s.sealAssert, rfl, ?_⟩
    unfold State.sealAssert
    extract_lets pins s1
    have kept {p : Part} (hp : p ∈ [Part.pins, .hall]) : p.of (if s1.pw.rails then s1.tamper 10 else s1) = p.of s1 := by
      rw [Part.of_ite, s1.tamper_silent_frame silent (Part.apart hp), ite_self]
    have held : (if s1.pw.rails then s1.tamper 10 else s1).cell Obj.sealState = s1.cell Obj.sealState := by
      split
      · exact s1.tamper_silent_cell silent (by decide)
      · rfl
    have shown : (if s1.pw.rails then s1.tamper 10 else s1).pins = s1.pins := kept (p := .pins) (by decide)
    exact ⟨by rw [shown], kept (p := .hall) (by decide), held⟩

end Sys2Proof.Machine

set_option autoImplicit false
namespace Sys2Proof.Machine

set_option Elab.async false

/-- What TRUST_ANCHOR_SUBMIT does with entries that are valid (R378 step 7). -/
def State.keepAnchors (e : Epmeir) (l : List Anchor) (s : State) : CapOut × State :=
  let s := { s with loc.anchors := l.filter fun a => Nat.ble a.role 4, nand.anchors := l.filter fun a => Nat.ble 5 a.role }
  (capOk, (s.setPaired Obj.trustAnchorCounter e.counter).logSec 0x2003 0xFF (pack [(8, 0), (1, 6)]))

/-- The body of TRUST_ANCHOR_SUBMIT (R378). -/
def State.anchorBody (s : State) (e : Epmeir) (entries : List AnchorEntry) : CapOut × State :=
  match s.containerCheck e 6 false with
  | some n => (capErr 14 n, s)
  | none =>
    if !s.ownerSigned e.signer then (capErr 14 4, s)
    else if e.counter ≤ s.nat Obj.trustAnchorCounter then (capErr 14 5, s)
    else
      match applyAnchors (s.nat Obj.sealState != 1) s.allAnchors entries with
      | none => (capErr 14 6, s)
      | some l =>
        if entries.any fun x => Nat.ble 5 x.role then s.mediaGate (State.keepAnchors e l) else State.keepAnchors e l s

theorem State.anchorSubmit_eq (s : State) (r : CapReq) (e : Epmeir) (entries : List AnchorEntry) :
    s.anchorSubmit r e entries = s.capExec r Obj.trustAnchorSubmit fun _ s => s.anchorBody e entries := rfl

theorem State.executing_containerCheck (s : State) (r : CapReq) (ses : Session) (e : Epmeir) (typ : Nat) (allowed : Bool) :
    (s.executing r ses).containerCheck e typ allowed = s.containerCheck e typ allowed := by
  simp (disch := decide) only [State.containerCheck, State.targetOk, s.executing_nat r ses]
  rfl

theorem State.executing_anchors (s : State) (r : CapReq) (ses : Session) : (s.executing r ses).allAnchors = s.allAnchors := by
  obtain ⟨-, -, -, -, -, nand, loc, -⟩ := s.executing_fields r ses
  rw [State.allAnchors, nand, loc]
  rfl

theorem State.executing_ownerSigned (s : State) (r : CapReq) (ses : Session) (key : Nat) :
    (s.executing r ses).ownerSigned key = s.ownerSigned key := by
  simp only [State.ownerSigned, State.anchorHas, s.executing_anchors r ses]

/-- A part whose catalogue is ready is not in recovery. -/
theorem State.not_recovering_of_ready {s : State} (ready : s.catalogueReady = true) : s.recovering = false := by
  unfold State.catalogueReady at ready
  by_cases stage : s.pw.stage = 0xF0
  · simp [stage] at ready
  · simp [State.recovering, stage]

theorem State.taken_cell (s : State) (r : CapReq) (ses : Session) {k : Nat} (h : k ≠ Obj.capRequests) :
    (s.taken r ses).cell k = s.cell k := s.get_bump_ne h

theorem State.taken_nat (s : State) (r : CapReq) (ses : Session) {k : Nat} (h : k ≠ Obj.capRequests) :
    (s.taken r ses).nat k = s.nat k := congrArg Int.toNat (s.taken_cell r ses h)

theorem State.taken_recovering (s : State) (r : CapReq) (ses : Session) : (s.taken r ses).recovering = s.recovering := by
  have pw := s.taken_frame (p := .pw) r ses (by decide)
  have pins := s.taken_frame (p := .pins) r ses (by decide)
  rw [State.recovering, State.awake, show (s.taken r ses).pw = _ from pw, show (s.taken r ses).pins = _ from pins]
  rfl

theorem State.taken_firmwareCheck (s : State) (r : CapReq) (ses : Session) (e : Epmeir) (f : FirmwareArg) :
    (s.taken r ses).firmwareCheck e f = s.firmwareCheck e f := by
  have hall : (s.taken r ses).hall = s.hall := s.taken_frame (p := .hall) r ses (by decide)
  have fw : (s.taken r ses).fw = s.fw := s.taken_frame (p := .fw) r ses (by decide)
  simp (disch := decide) only [State.firmwareCheck, State.containerCheck, State.targetOk, s.taken_nat r ses, s.taken_recovering r ses,
      hall,
    fw, s.taken_nand r ses]
  rfl

/-- A message whose request CAP takes is answered on its session by what its body gives, and the body's effect stays. -/
theorem State.respond_answers {s u : State} {r : CapReq} {kind index sub : Nat} {ses : Session} {o : CapOut}
    (takes : s.Takes r kind index sub ses) (kept : Part.of .sessions u = Part.of .sessions (s.taken r ses)) :
    (u.respond r.sess (o.toResp r.tag kind index sub) true).Replied r kind index sub o := by
  have opened : tget u.sessions r.sess = _ := (congrArg (fun x => tget x r.sess) kept).trans (s.taken_session r ses)
  exact u.respond_replied _ _ _ opened takes.2.1

/-- FirmwareEpoch raised to that of the image in force (R381). -/
def State.raiseEpoch (s : State) : State :=
  let n := Nat.max s.hall.epoch (s.fw.counter / 2 ^ 56)
  { s with hall := { s.hall with epoch := n } }.set Obj.firmwareEpoch n

/-- The body of FIRMWARE_EPOCH_COMMIT (R381). -/
def State.epochBody (s : State) (v : Nat) : CapOut × State :=
  boolCommand v s fun s => if s.recovering then (capErr 19 0xF0, s) else (capOk, s.raiseEpoch)

theorem State.epochCommit_eq (s : State) (r : CapReq) (v : Nat) :
    s.epochCommit r v = s.capExec r Obj.firmwareEpochCommit fun _ s => s.epochBody v := rfl

theorem State.raiseEpoch_hall (s : State) :
    s.raiseEpoch.hall = { s.hall with epoch := Nat.max s.hall.epoch (s.fw.counter / 2 ^ 56) } := rfl

theorem State.raiseEpoch_cell (s : State) :
    s.raiseEpoch.cell Obj.firmwareEpoch = (Nat.max s.hall.epoch (s.fw.counter / 2 ^ 56) : Nat) := State.set_cell_self _ _ _

/-- Settles O8. -/
theorem anchorsAndFirmware : Obligations.AnchorsAndFirmware := by
  refine ⟨fun s r ses e en l admits pass signed newer applied media => ?_, fun s r ses e en n admits fail => ?_,
    fun s r ses e f admits pass read noModule => ?_, fun s r ses admits => ?_⟩
  · have body : (s.executing r ses).anchorBody e en = State.keepAnchors e l (s.executing r ses) := by
      have older : ¬e.counter ≤ s.nat Obj.trustAnchorCounter := by omega
      unfold State.anchorBody
      rw [s.executing_containerCheck, pass]
      dsimp only
      rw [s.executing_ownerSigned, signed, s.executing_nat r ses (by decide), s.executing_nat r ses (by decide), if_neg (by decide),
        if_neg older, s.executing_anchors, applied]
      dsimp only
      split
      next roots => exact if_pos ((s.executing_nat r ses (by decide)).trans (media roots))
      next => rfl
    obtain ⟨t, run, answers⟩ := State.capExec_answers (body := fun _ s => s.anchorBody e en) admits body
      ((State.logSec_frame _ _ _ _ (by decide)).trans (State.setPaired_frame _ _ _ (by decide)))
    refine ⟨t, congrArg _ run, answers.answered, ?_, ?_⟩
    · exact congrArg Locket.anchors ((answers.parts .loc (by decide)).trans
        ((State.logSec_frame _ _ _ _ (by decide)).trans (State.setPaired_frame _ _ _ (by decide))))
    · exact congrArg Prod.fst ((answers.parts .anchors (by decide)).trans
        ((State.logSec_frame _ _ _ _ (by decide)).trans (State.setPaired_frame _ _ _ (by decide))))
  · have body : (s.executing r ses).anchorBody e en = (capErr 14 n, s.executing r ses) := by
      unfold State.anchorBody
      rw [s.executing_containerCheck, fail]
    obtain ⟨t, run, answers⟩ := State.capExec_answers (body := fun _ s => s.anchorBody e en) admits body rfl
    exact ⟨t, congrArg _ run, answers.answered, (answers.parts .loc (by decide)).trans (s.executing_frame r ses (by decide)),
      congrArg Prod.fst ((answers.parts .anchors (by decide)).trans (s.executing_frame r ses (by decide)))⟩
  · obtain ⟨takes, may⟩ := admits
    have run : s.firmwareSubmit r e f =
        State.respond { s.taken r ses with fw := (s.taken r ses).fw.write e.counter f.legalHash f.readBackOk } r.sess
          (capOk.toResp r.tag 3 (Obj.firmwareSubmit / 256) (Obj.firmwareSubmit % 256)) true := by
      refine State.capRun_answers takes (by simp [may]) ?_
      dsimp only
      rw [s.taken_firmwareCheck, pass, noModule, read]
      simp only [Bool.and_false, Bool.false_eq_true, if_false, Bool.not_true]
    refine ⟨s.firmwareSubmit r e f, rfl, ?_⟩
    rw [run]
    refine ⟨State.respond_answers takes rfl, ?_, ?_⟩
    · refine (State.respond_frame (p := .fw) _ _ _ _ (by decide)).trans ?_
      exact congrArg₂ (fun (x : Firmware) (b : Bool) => x.write e.counter f.legalHash b) (s.taken_frame (p := .fw) r ses (by decide)) read
    · rw [State.respond_nand]
      exact congrArg Nand.legalSlots (s.taken_nand r ses)
  · have ready : (s.executing r ses).recovering = false := by
      obtain ⟨pw, pins, -⟩ := s.executing_fields r ses
      rw [State.recovering, State.awake, pw, pins]
      exact State.not_recovering_of_ready admits.1.2.2.2.2.2
    obtain ⟨-, -, -, -, -, -, -, hall, fw, -⟩ := s.executing_fields r ses
    obtain ⟨t, run, answers⟩ := State.capExec_answers (body := fun _ s => s.epochBody 1) (u := (s.executing r ses).raiseEpoch) admits
      (if_neg (by simp [ready])) (State.set_frame _ _ _ (by decide))
    refine ⟨t, congrArg _ run, answers.answered, ?_, ?_, (answers.cells _ (by decide)).trans ?_⟩
    · rw [show t.hall = _ from answers.parts .hall (by decide)]
      exact congrArg₂ (fun (x : Hallmark) (y : Firmware) => Nat.max x.epoch (y.counter / 2 ^ 56)) hall fw
    · rw [show t.hall = _ from answers.parts .hall (by decide)]
      have fuses : (s.executing r ses).hall.fuses = s.hall.fuses := congrArg Hallmark.fuses hall
      exact fuses
    · rw [State.get_eq_cell, State.raiseEpoch_cell, hall, fw]

end Sys2Proof.Machine

set_option autoImplicit false
namespace Sys2Proof.Machine

set_option Elab.async false

/-- Of the battery domain, the record of a source changes the queue of the events alone. -/
theorem State.recordTamper_bat (s : State) (source kind response : Nat) (aborted storm : Bool) :
    ∃ q, (s.recordTamper source kind response aborted storm).bat = { s.bat with sleepQueue := q } := by
  unfold State.recordTamper
  split
  · exact ⟨_, rfl⟩
  · extract_lets ctx write
    have written : ∀ u : State, (write u).bat = u.bat := fun u => u.logSec_frame (p := .bat) _ _ _ (by decide)
    have folded : (s.foldTamper source).2.bat = s.bat := s.foldTamper_frame (p := .bat) source (by decide)
    split
    · split
      · split
        next u eq => exact ⟨_, (congrArg (fun x : Bool × State => x.2.bat) eq).symm.trans folded⟩
        next u eq => exact ⟨_, (written u).trans ((congrArg (fun x : Bool × State => x.2.bat) eq).symm.trans folded)⟩
      · exact ⟨_, written s⟩
    · unfold State.queueTamper
      split
      · exact ⟨_, rfl⟩
      · dsimp only
        split
        · exact ⟨_, rfl⟩
        · exact ⟨_, rfl⟩

/-- While the part sleeps the event of a source is queued (R388). -/
theorem State.recordTamper_asleep {s : State} {source : Nat} {x : Source} (kind response : Nat) (aborted storm : Bool)
    (asleep : s.awake = false) (known : s.bat.sources[source]? = some x) (room : s.bat.sleepQueue.length < 16) :
    ∃ e, s.recordTamper source kind response aborted storm = { s with bat.sleepQueue := s.bat.sleepQueue ++ [e] } := by
  unfold State.recordTamper
  rw [known]
  simp only [asleep, Bool.false_and, Bool.false_eq_true, if_false, State.queueTamper, if_pos room]
  exact ⟨_, rfl⟩

theorem lmod_lmod {α : Type} (l : List α) (i : Nat) (f g : α → α) : lmod (lmod l i f) i g = lmod l i fun x => g (f x) := by
  induction l generalizing i with
  | nil => rfl
  | cons a t ih =>
    cases i with
    | zero => rfl
    | succ i => exact congrArg (List.cons a) (ih i)

/-- A source counted in sleep: its activation, and a storm where its rate is beyond the limit (R387, R390). -/
theorem State.modSource_counted (s : State) (n : Nat) (storm : Bool) (f g : Source → Source) :
    (if storm = true then (s.modSource n f).modSource n g else s.modSource n f) =
      s.modSource n fun x => if storm then g (f x) else f x := by
  cases storm
  · rfl
  · exact congrArg (fun l => ({ s with bat.sources := l } : State)) (lmod_lmod s.bat.sources n f g)

/-- What the activation of an enabled source with response 1 leaves while the part sleeps (R387, R388). -/
theorem State.tamper_asleep {s : State} {n : Nat} {x : Source} (runs : s.claspRuns = true) (asleep : s.awake = false) (small : n ≤ 8)
    (enabled : bit s.bat.tamperEnable n = true) (response : s.tamperResponse n = 1) (known : s.bat.sources[n]? = some x)
    (room : s.bat.sleepQueue.length < 16) :
    ∃ (f : Source → Source) (e : SleepEvent), (f x).count = satAdd 0xFFFFFFFF x.count 1 ∧ (f x).active = true ∧
      s.tamper n = { s with bat.sources := lmod s.bat.sources n f, bat.sleepQueue := s.bat.sleepQueue ++ [e], pins.wakeReq := true,
                            bat.claspAlarm := setBit s.bat.claspAlarm n true } := by
  have acts : (!(s.claspRuns && Nat.ble n 11 && bit s.bat.tamperEnable n)) = false := by
    have low : n ≤ 11 := by omega
    simp [runs, enabled, low]
  have single : Nat.ble 10 n = false := by
    have low : ¬10 ≤ n := by omega
    exact Bool.eq_false_iff.mpr fun le => low (Nat.le_of_ble_eq_true le)
  unfold State.tamper
  rw [if_neg (by simp [acts])]
  extract_lets rtc sec now s1 count storm s2 resp aborted s3 pins s4 bat s5
  have counted : s2 = s.modSource n _ := s.modSource_counted n storm _ _
  have answer : resp = 1 := (congrArg (fun u : State => u.tamperResponse n) counted).trans response
  obtain ⟨y, source⟩ : ∃ y, s2.bat.sources[n]? = some y := by
    rw [counted]
    exact ⟨_, (lmod_getElem?_self s.bat.sources n _).trans (congrArg (Option.map _) known)⟩
  obtain ⟨e, queued⟩ := State.recordTamper_asleep 1 resp aborted storm (s := s2) (by rw [counted]; exact asleep) source
    (by rw [counted]; exact room)
  have third : s3 = { s2 with bat.sleepQueue := s2.bat.sleepQueue ++ [e] } := by
    unfold s3
    rw [single, Bool.false_and, if_neg Bool.false_ne_true, queued]
  have fourth : s4 = { s3 with pins.wakeReq := true } := if_neg (by simp [answer])
  have quiet : s4.awake = false := by
    rw [fourth, third, counted]
    exact asleep
  refine ⟨fun x => if storm then { x.activated rtc sec now with storm := satAdd 0xFFFFFFFF (x.activated rtc sec now).storm 1 }
    else x.activated rtc sec now, e, ?_, ?_, ?_⟩
  · dsimp only
    split <;> rfl
  · dsimp only
    split <;> rfl
  · have calm : s5.awake = false := quiet
    rw [if_pos answer, calm, Bool.false_and, if_neg Bool.false_ne_true]
    unfold s5 bat
    rw [fourth, third, counted]
    rfl

/-- A source whose bit is clear in TamperEnable does not act (R387). -/
theorem State.tamper_disabled {s : State} {n : Nat} (disabled : bit s.bat.tamperEnable n = false) : s.tamper n = s :=
  if_pos (by simp [disabled])

/-- A source that has been active for 24 h is stuck, with its record (R390). -/
theorem State.tamperStuck_due {s : State} {n : Nat} {x : Source} (runs : s.claspRuns = true) (small : n ≤ 11)
    (free : bit s.bat.stuck n = false) (known : s.bat.sources[n]? = some x) (active : x.active = true)
    (long : x.since + 86400 * 32768 ≤ s.bat.rtc) :
    s.tamperStuck n = ({ s with bat.stuck := setBit s.bat.stuck n true } : State).recordTamper n 2 (s.tamperResponse n) false false := by
  have clasp : Nat.ble 12 n = false := Bool.eq_false_iff.mpr fun le => absurd (Nat.le_of_ble_eq_true le) (by omega)
  unfold State.tamperStuck
  rw [if_neg (by simp [runs, free]), if_neg (by simp [clasp]), known]
  exact if_pos (by simp [active, long])

/-- The release of a stuck source re-arms it (R390). -/
theorem State.tamperRelease_stuck {s : State} {n : Nat} (runs : s.claspRuns = true) (stuck : bit s.bat.stuck n = true) :
    bit (s.tamperRelease n).bat.stuck n = false ∧ (s.tamperRelease n).pins = s.pins := by
  unfold State.tamperRelease
  rw [if_neg (by simp [runs])]
  extract_lets s1 bat s2
  have held : bit s1.bat.stuck n = true := stuck
  have freed : bit s2.bat.stuck n = false := (bit_setBit _ n n false).trans (if_pos rfl)
  rw [if_neg (by simp [held])]
  split
  · exact ⟨(congrArg (fun b : Battery => bit b.stuck n) (State.logOp_frame (p := .bat) s2 _ _ _ (by decide))).trans freed,
      State.logOp_frame (p := .pins) s2 _ _ _ (by decide)⟩
  · obtain ⟨q, bat⟩ := s2.recordTamper_bat n 3 (s2.tamperResponse n) false false
    refine ⟨?_, State.recordTamper_frame (p := .pins) s2 _ _ _ _ _ (by decide)⟩
    rw [bat]
    exact freed

/-- The alarm bits that a mask names cleared (R387). -/
def State.clearClaspAlarm (s : State) (mask : Nat) : State := { s with bat.claspAlarm := clearBits s.bat.claspAlarm mask }

/-- Settles O9. -/
theorem tamperSources : Obligations.TamperSources := by
  refine ⟨fun s n x runs asleep small enabled response known room => ⟨_, rfl, ?_⟩,
    fun s n disabled => congrArg Host.Outcome.next (State.tamper_disabled disabled),
    fun s n x runs small free known active long => ⟨_, rfl, ?_⟩,
    fun s n runs stuck => ⟨_, rfl, State.tamperRelease_stuck runs stuck⟩, fun s r ses mask admits => ?_⟩
  · obtain ⟨f, e, count, on, acted⟩ := State.tamper_asleep runs asleep small enabled response known room
    rw [acted]
    refine ⟨(bit_setBit _ n n true).trans (if_pos rfl), rfl, ?_, List.length_append, rfl, rfl, rfl⟩
    rw [lmod_getElem?_self, known, Option.map_some, Option.map_some, count, on]
  · rw [State.tamperStuck_due runs small free known active long]
    obtain ⟨q, bat⟩ := State.recordTamper_bat { s with bat.stuck := setBit s.bat.stuck n true } n 2 (s.tamperResponse n) false false
    rw [bat]
    exact ⟨(bit_setBit _ n n true).trans (if_pos rfl), rfl, State.recordTamper_frame (p := .pins) _ _ _ _ _ _ (by decide)⟩
  · obtain ⟨-, -, -, bat, -⟩ := s.executing_fields r ses
    obtain ⟨t, run, answers⟩ := State.capExec_answers (body := fun _ s => (capOk, s.clearClaspAlarm mask)) admits rfl rfl
    refine ⟨t, congrArg _ run, answers.answered, fun n _ => ?_, ?_⟩
    · rw [show t.bat = _ from answers.parts .bat (by decide)]
      exact (bit_clearBits _ mask n).trans (congrArg (fun b : Battery => bit b.claspAlarm n && !bit mask n) bat)
    · rw [show t.bat = _ from answers.parts .bat (by decide)]
      have stuck : (s.executing r ses).bat.stuck = s.bat.stuck := congrArg Battery.stuck bat
      exact stuck

end Sys2Proof.Machine

set_option autoImplicit false
namespace Sys2Proof.Machine

set_option Elab.async false

/-! ### IQ ports (R59 to R61) -/

/-- The status object of an IQ port is no object of the event recorder, and neither is its fault counter, which is another one. -/
theorem iqPort_keys : ∀ p ≤ 3, Unrecorded (Obj.iqPortStatus p) ∧ Unrecorded (Obj.portFaults p) ∧
    Obj.portFaults p ≠ Obj.iqPortStatus p ∧ Obj.clipFlagThreshold p ≠ Obj.clipCount p ∧ Obj.iqPortStatus p ≠ Obj.capErrors := by
  decide

theorem State.setIq_cell_self (s : State) (p code lanes : Nat) :
    (s.setIq p code lanes).cell (Obj.iqPortStatus p) = ((code + 16 * (lanes % 16) : Nat) : Int) := State.set_cell_self _ _ _

/-- The state code and the lanes that an IQ port shows, from its status object (R85). -/
theorem State.iqCode_of_cell {s : State} {p code lanes : Nat} (small : code < 8)
    (h : s.cell (Obj.iqPortStatus p) = ((code + 16 * (lanes % 16) : Nat) : Int)) :
    s.iqCode p = code ∧ s.nat (Obj.iqPortStatus p) / 16 = lanes % 16 := by
  have value : s.nat (Obj.iqPortStatus p) = code + 16 * (lanes % 16) := congrArg Int.toNat h
  rw [State.iqCode, value]
  omega

theorem State.trainPort_cell_self (s : State) (p : Nat) (pattern : Bool) :
    (s.trainPort p pattern).cell (Obj.iqPortStatus p) = ((1 + 16 * (0 % 16) : Nat) : Int) := State.setIq_cell_self _ p 1 0

theorem State.portFaults_cell (s : State) (p code : Nat) {k : Nat} (h : Unrecorded k) (other : k ≠ Obj.portFaults p) (payload : Nat) :
    ((s.bump (Obj.portFaults p)).logOp code 0xFF payload).cell k = s.cell k :=
  (State.logOp_cell _ _ _ _ h).trans (s.bump_cell other)

/-- A port fault is counted and recorded, and the port trains again or waits for its clock (R60). -/
theorem State.portFault_up {s : State} {p : Nat} (kind : Nat) (up : s.iqUp p = true) (room : s.nat (Obj.portFaults p) < 4294967295) :
    ∃ u : State, u.car = s.car ∧ u.frames = s.frames ∧ u.cell (Obj.portFaults p) = (s.nat (Obj.portFaults p) + 1 : Nat) ∧
      s.portFault p kind = if kind = 1 then u.trainPort p false else
        { (u.abortPort p).setIq p 3 0 with car.ports := lmod ((u.abortPort p).setIq p 3 0).car.ports p fun q => { q with clock := false }
            } := by
  obtain ⟨-, faults, -⟩ := iqPort_keys p (by simp only [State.iqUp, Bool.and_eq_true] at up; exact Nat.le_of_ble_eq_true up.1.2)
  refine ⟨(s.bump (Obj.portFaults p)).logOp 0x3003 0xFF (pack [(1, p), (1, kind)]), ?_, ?_, ?_, if_pos up⟩
  · exact (State.logOp_frame (p := .car) _ _ _ _ (by decide)).trans (s.bump_frame _ (by decide))
  · exact (State.logOp_frame (p := .frames) _ _ _ _ (by decide)).trans (s.bump_frame _ (by decide))
  · exact (State.logOp_cell _ _ _ _ faults).trans (s.bump_cell_self room)

/-- Settles O20. -/
theorem iqPortTraining : Obligations.IqPortTraining := by
  refine ⟨fun s r ses p small admits on enabled => ?_, fun s p on small code => ⟨_, rfl, ?_⟩,
    fun s p lanes q on small code known late => ⟨_, rfl, ?_⟩, fun s p up room => ⟨_, rfl, ?_⟩, fun s p up room => ⟨_, rfl, ?_⟩,
    fun s p q on small code known => ⟨_, rfl, ?_⟩, fun s p n up many room => ⟨_, rfl, ?_⟩⟩
  · have still : ((s.executing r ses).carouselOn && (s.executing r ses).bitOf Obj.carouselEnable p) = true := by
      obtain ⟨pw, pins, -⟩ := s.executing_fields r ses
      rw [State.carouselOn, State.serving, State.awake, State.bitOf, pw, pins, s.executing_nat r ses (by decide),
        s.executing_nat r ses (by decide)]
      exact (Bool.and_eq_true _ _).mpr ⟨on, enabled⟩
    have ran : s.iqRetrain r p = s.capExec r (Obj.iqRetrain p) fun _ s =>
      (capOk, if s.carouselOn && s.bitOf Obj.carouselEnable p then s.trainPort p true else s) := if_pos (by simp [small])
    obtain ⟨t, run, answers⟩ := State.capExec_answers (u := (s.executing r ses).trainPort p true) (o := capOk)
      (body := fun _ s => (capOk, if s.carouselOn && s.bitOf Obj.carouselEnable p then s.trainPort p true else s)) admits
      (congrArg (Prod.mk capOk) (if_pos still)) (State.trainPort_frame _ _ _ (by decide))
    obtain ⟨-, -, -, -, other⟩ := iqPort_keys p small
    refine ⟨t, congrArg _ (ran.trans run), answers.answered, ?_, ?_⟩
    · exact (State.iqCode_of_cell (lanes := 0) (by decide) ((answers.cells _ other).trans (State.trainPort_cell_self _ p true))).1
    · have car : (s.executing r ses).car = s.car := s.executing_frame (p := .car) r ses (by decide)
      rw [show t.car = _ from answers.parts .car (by decide)]
      exact congrArg (fun c : Carousel => c.demods.filter fun d => d.det.port != p) car
  · have run : s.trainingPass p = s.setIq p 2 0 := if_pos (by simp [on, small, code])
    rw [run]
    exact ⟨(State.iqCode_of_cell (by decide) (s.setIq_cell_self p 2 0)).1, rfl, fun k other => s.set_cell _ other⟩
  · have run : s.trainingTimeout p lanes = s.setIq p 4 lanes := by
      unfold State.trainingTimeout
      rw [known]
      exact if_pos (by simp [on, small, code, late])
    obtain ⟨state, failed⟩ := State.iqCode_of_cell (by decide) (s.setIq_cell_self p 4 lanes)
    rw [run]
    exact ⟨state, failed, rfl⟩
  · obtain ⟨u, car, frames, count, run⟩ := State.portFault_up 1 up room
    have small : p ≤ 3 := by simp only [State.iqUp, Bool.and_eq_true] at up; exact Nat.le_of_ble_eq_true up.1.2
    obtain ⟨-, -, other, -⟩ := iqPort_keys p small
    rw [run, if_pos rfl, ← car]
    exact ⟨(State.iqCode_of_cell (by decide) (u.trainPort_cell_self p false)).1, (State.set_cell _ _ other).trans count, rfl, rfl, frames⟩
  · obtain ⟨u, car, frames, count, run⟩ := State.portFault_up 2 up room
    have small : p ≤ 3 := by simp only [State.iqUp, Bool.and_eq_true] at up; exact Nat.le_of_ble_eq_true up.1.2
    obtain ⟨-, -, other, -⟩ := iqPort_keys p small
    rw [run, if_neg (by decide), ← car]
    exact ⟨(State.iqCode_of_cell (by decide) ((u.abortPort p).setIq_cell_self p 3 0)).1, (State.set_cell _ _ other).trans count, rfl,
      frames⟩
  · have run : s.clockRestored p = { s.trainPort p false with car.ports := lmod (s.trainPort p false).car.ports p fun q =>
        { q with clock := true } } := if_pos (by simp [on, small, code])
    rw [run]
    refine ⟨(State.iqCode_of_cell (by decide) (s.trainPort_cell_self p false)).1, ?_⟩
    have trained : (s.trainPort p false).car.ports[p]? = (s.car.ports[p]?).map _ := lmod_getElem?_self s.car.ports p _
    rw [lmod_getElem?_self, trained, known]
    rfl
  · have small : p ≤ 3 := by simp only [State.iqUp, Bool.and_eq_true] at up; exact Nat.le_of_ble_eq_true up.1.2
    obtain ⟨-, -, -, other, -⟩ := iqPort_keys p small
    have limit : (s.bumpBy (Obj.clipCount p) n).nat (Obj.clipFlagThreshold p) = s.nat (Obj.clipFlagThreshold p) :=
      congrArg Int.toNat (s.bumpBy_cell _ n other)
    have counted : s.bumpBy (Obj.clipCount p) n = s.set (Obj.clipCount p) (s.nat (Obj.clipCount p) + n : Nat) := if_pos room
    have run : s.clippedMs p n = { s.set (Obj.clipCount p) (s.nat (Obj.clipCount p) + n : Nat) with
        car.demods := s.car.demods.map fun (d : Demod) =>
          if d.det.port == p && d.phase == 0 then ({ d with clipped := true } : Demod) else d } := by
      unfold State.clippedMs
      rw [if_pos up]
      dsimp only
      rw [limit, if_pos many, counted]
      rfl
    rw [run]
    exact ⟨State.set_cell_self _ _ _, rfl⟩

end Sys2Proof.Machine

set_option autoImplicit false
namespace Sys2Proof.Machine

set_option Elab.async false

/-! ### A received frame placed in Big Top and in its queue (R70, R338, R347) -/

/-- An object of the catalogue that placing data in Big Top and copying it to a host queue leave. -/
abbrev Unplaced (k : Nat) : Prop := k < 0xFF0000 ∧ k ≠ Obj.bankWakes ∧ k ≠ Obj.bankWakeOnAccess

theorem State.setLine_cell (s : State) (n : Nat) (v : Line) (k : Nat) : (s.setLine n v).cell k = s.cell k := rfl

theorem State.access_cell (s : State) (w : LineWrite) {k : Nat} (h : Unplaced k) : (s.access w).cell k = s.cell k := by
  unfold State.access
  dsimp only
  split
  · exact s.setLine_cell _ _ _
  · exact (s.wakeBank_cell _ true h.2.1 h.2.2 :)

theorem State.placeData_cell (s : State) (line n data : Nat) {k : Nat} (h : Unplaced k) :
    (s.placeData line n data).cell k = s.cell k := by
  unfold State.placeData
  split
  · exact State.foldl_cell (fun u i => u.setLine_cell _ _ _) _ s
  · exact State.foldl_cell (fun u i => u.access_cell _ h) _ s

theorem State.offerTo_cell (s : State) (q body k : Nat) : (s.offerTo q body).2.cell k = s.cell k :=
  State.cell_of_cat (s.offerTo_frame q body (by decide)) k

theorem State.freeLines_cell (s : State) (n k : Nat) : (s.freeLines n).2.cell k = s.cell k :=
  State.cell_of_cat (s.freeLines_frame n (by decide)) k

theorem State.pushFrame_cell (s : State) (cell head n : Nat) (at_ : Option Nat) (length data : Nat) {k : Nat} (h : Unplaced k) :
    (s.pushFrame cell head n at_ length data).2.2.cell k = s.cell k := by
  unfold State.pushFrame
  dsimp only
  rw [State.offerTo_cell, State.placeData_cell _ _ _ _ h, State.freeLines_cell]

theorem ne_hqKey {k : Nat} (h : k < 0xFF0000) (q off : Nat) : k ≠ hqKey q off := by
  unfold hqKey
  omega

theorem State.copyTo_cell (s : State) (f : Frame) (q : Nat) {k : Nat} (h : k < 0xFF0000) : (s.copyTo f q).cell k = s.cell k := by
  unfold State.copyTo
  split
  · rfl
  · split
    · split
      · exact s.hqStarve_cell q (ne_hqKey h _ _)
      · exact s.hqCompleteAt_cell _ _ _ _ _ _ _ _ _ (ne_hqKey h _ _)
    · rfl

/-- A frame that its cell accepts is on the path as step 1 (R22). -/
theorem State.arrive_frames {s : State} {f : Frame} (accepts : s.cellOpen f.cell = true) :
    (∃ x d, (s.arrive f).frames = s.frames ++ [{ f with id := s.nextFrame, item := x, desc := d }]) ∧
      (s.arrive f).nextFrame = s.nextFrame + 1 := by
  unfold State.arrive
  rw [if_pos accepts]
  dsimp only
  have copied {p : Part} (hp : p ∈ [Part.frames, .nextFrame]) (u : State) (g : Frame) :
      p.of ((List.range 16).foldl (fun (v : State) (q : Nat) => v.copyTo g q) u) = p.of u :=
    Part.of_foldl p _ _ _ fun v q => v.copyTo_frame g q (Part.apart hp)
  have frames : Part.of .frames (s.pushFrame f.cell f.desc 64 (some 44) f.length f.bytes).2.2 = s.frames :=
    s.pushFrame_frame _ _ _ _ _ _ (by decide)
  have next : Part.of .nextFrame (s.pushFrame f.cell f.desc 64 (some 44) f.length f.bytes).2.2 = s.nextFrame :=
    s.pushFrame_frame _ _ _ _ _ _ (by decide)
  generalize s.pushFrame f.cell f.desc 64 (some 44) f.length f.bytes = pushed at frames next
  obtain ⟨x, d, u⟩ := pushed
  dsimp only at frames next ⊢
  refine ⟨⟨x, d, (copied (p := .frames) (by decide) _ _).trans ?_⟩, (copied (p := .nextFrame) (by decide) _ _).trans ?_⟩
  · exact congrArg₂ (fun (l : List Frame) (n : Nat) => l ++ [{ f with id := n, item := x, desc := d }]) frames next
  · exact congrArg (· + 1) next

theorem State.arrive_cell (s : State) (f : Frame) {k : Nat} (h : Unplaced k) : (s.arrive f).cell k = s.cell k := by
  unfold State.arrive
  split
  · have pushed := s.pushFrame_cell f.cell f.desc 64 (some 44) f.length f.bytes h
    dsimp only
    generalize s.pushFrame f.cell f.desc 64 (some 44) f.length f.bytes = p at pushed
    exact (State.foldl_cell (fun u q => u.copyTo_cell _ q h.1) _ _).trans pushed
  · rfl

end Sys2Proof.Machine

set_option autoImplicit false
namespace Sys2Proof.Machine

set_option Elab.async false

/-! ### Demodulators and collision groups (R66 to R69, R78 to R81) -/

/-- The counters of the demodulator pool that a snippet or a group moves. -/
abbrev poolCells : List Nat := [Obj.framesLost, Obj.snippetTooLong, Obj.snippetNoSpace, Obj.groupOverflow, Obj.groupsFormed]

theorem State.snippet_cell (s : State) (id n : Nat) (spilled : Bool) {k : Nat} (h : k ∉ poolCells) :
    (s.snippet id n spilled).2.cell k = s.cell k := by
  unfold State.snippet
  split
  · exact s.bump_cell fun e => h (e ▸ (by decide))
  · split
    · rfl
    · exact s.bump_cell fun e => h (e ▸ (by decide))

theorem State.finishGroup_cell (s : State) (g : Group) {k : Nat} (h : k ∉ poolCells) : (s.finishGroup g).cell k = s.cell k :=
  s.bumpBy_cell Obj.framesLost _ fun e => h (e ▸ (by decide))

theorem State.closeGroup_cell (s : State) (id : Nat) {k : Nat} (h : k ∉ poolCells) : (s.closeGroup id).cell k = s.cell k := by
  unfold State.closeGroup
  split
  · rfl
  · split
    · rfl
    · dsimp only
      split
      · rfl
      · exact State.finishGroup_cell _ _ h

theorem State.loseSnippet_cell (s : State) (d : Demod) {k : Nat} (h : k ∉ poolCells) : (s.loseSnippet d).cell k = s.cell k :=
  State.closeGroup_cell _ _ h

theorem State.growSnippet_cell (s : State) (id ns : Nat) {k : Nat} (h : k ∉ poolCells) : (s.growSnippet id ns).cell k = s.cell k := by
  unfold State.growSnippet
  split
  · rfl
  · next d _ =>
    split
    · rfl
    · next m _ =>
      have taken := s.snippet_cell id (Nat.max m.bytes (snippetBytes d.det.grid ns)) m.spilled h
      split
      next x u eq => exact (congrArg (fun y : Option Snip × State => y.2.cell k) eq).symm.trans taken
      next u eq =>
        exact (u.loseSnippet_cell d h).trans ((congrArg (fun y : Option Snip × State => y.2.cell k) eq).symm.trans taken)

theorem State.frameEnds_cell (s : State) (id ns phase : Nat) {k : Nat} (h : k ∉ poolCells) :
    (s.frameEnds id ns phase).cell k = s.cell k := by
  have grown := s.growSnippet_cell id ns h
  unfold State.frameEnds
  dsimp only
  split
  · exact grown
  · split
    · exact grown
    · exact (State.closeGroup_cell _ _ h).trans grown

theorem State.joinGroup_cell (s : State) (n : Demod) {k : Nat} (h : k ∉ poolCells) : (s.joinGroup n).cell k = s.cell k := by
  unfold State.joinGroup
  split
  · split
    · exact State.bump_cell _ fun e => h (e ▸ (by decide))
    · split
      · rfl
      · rfl
  · dsimp only
    split
    · rfl
    · exact State.bump_cell _ fun e => h (e ▸ (by decide))

/-- A demodulator put beside the others. -/
def State.addDemod (s : State) (n : Demod) : State := { s with car.demods := s.car.demods ++ [n], car.nextDemod := n.id + 1 }

theorem State.addDemod_cell (s : State) (n : Demod) (k : Nat) : (s.addDemod n).cell k = s.cell k := rfl

/-- An assignment takes the snippet, adds the demodulator and has it join its group (R66, R78, R80). -/
theorem State.assign_eq (s : State) (d : Det) (reserved : Bool) :
    ∃ n : Demod, n.id = s.car.nextDemod ∧ s.assign d reserved =
      ((s.snippet s.car.nextDemod (snippetBytes d.grid (s.now - d.syncNs)) false).2.addDemod n).joinGroup n := by
  have key : ∀ f, f = State.assign → ∃ n : Demod, n.id = s.car.nextDemod ∧ f s d reserved =
      ((s.snippet s.car.nextDemod (snippetBytes d.grid (s.now - d.syncNs)) false).2.addDemod n).joinGroup n := by
    intro f hf
    delta State.assign at hf
    subst hf
    beta_reduce
    extract_lets id
    generalize s.snippet s.car.nextDemod (snippetBytes d.grid (s.now - d.syncNs)) false = w
    obtain ⟨snip, t⟩ := w
    exact ⟨_, rfl, rfl⟩
  exact key _ rfl

theorem State.assign_cell (s : State) (d : Det) (reserved : Bool) {k : Nat} (h : k ∉ poolCells) :
    (s.assign d reserved).cell k = s.cell k := by
  obtain ⟨n, -, assigned⟩ := s.assign_eq d reserved
  rw [assigned, State.joinGroup_cell _ _ h, State.addDemod_cell, State.snippet_cell _ _ _ _ h]

/-! #### The demodulators themselves -/

theorem State.snippet_car (s : State) (id n : Nat) (spilled : Bool) : (s.snippet id n spilled).2.car = s.car :=
  s.snippet_frame (p := .car) id n spilled (by decide)

/-- A demodulator that only its snippet may have left, and with it its group. -/
structure Demod.Kept (f : Demod → Demod) : Prop where
  id : ∀ d, (f d).id = d.id
  group : ∀ d, d.group = 0 → (f d).group = 0

/-- What the growth of snippets leaves of the pool: demodulators may lose their snippet, or go by their number. -/
def Carousel.Thinned (b c : Carousel) : Prop :=
  c.nextDemod = b.nextDemod ∧ ∃ (keep : Nat → Bool) (f : Demod → Demod), Demod.Kept f ∧
    c.demods = (b.demods.map f).filter fun d => keep d.id

theorem Carousel.Thinned.refl (b : Carousel) : b.Thinned b := by
  refine ⟨rfl, fun _ => true, fun d => d, ⟨fun _ => rfl, fun _ h => h⟩, ?_⟩
  simp

theorem Carousel.Thinned.trans {a b c : Carousel} (h : a.Thinned b) (k : b.Thinned c) : a.Thinned c := by
  obtain ⟨next, keep, f, kept, demods⟩ := h
  obtain ⟨next', keep', f', kept', demods'⟩ := k
  refine ⟨next'.trans next, fun n => keep n && keep' n, fun d => f' (f d),
    ⟨fun d => (kept'.id _).trans (kept.id d), fun d h => kept'.group _ (kept.group d h)⟩, ?_⟩
  rw [demods', demods, List.filter_map, List.filter_map, List.filter_map, List.filter_map, List.filter_filter, List.map_map]
  refine congrArg _ (List.filter_congr fun d _ => ?_)
  simp only [Function.comp_apply, kept'.id, kept.id]
  exact Bool.and_comm _ _

/-- A group that finishes releases its members. -/
theorem State.finishGroup_car (s : State) (g : Group) :
    (s.finishGroup g).car = { s.car with demods := s.car.demods.filter fun d => !g.members.contains d.id,
                                         groups := s.car.groups.filter fun (x : Group) => x.id != g.id } :=
  congrArg (fun c : Carousel => { c with demods := c.demods.filter fun d => !g.members.contains d.id,
                                         groups := c.groups.filter fun (x : Group) => x.id != g.id })
    (s.bumpBy_frame (p := .car) Obj.framesLost _ (by decide))

theorem State.finishGroup_thinned (s : State) (g : Group) : s.car.Thinned (s.finishGroup g).car := by
  rw [s.finishGroup_car g]
  exact ⟨rfl, fun n => !g.members.contains n, fun d => d, ⟨fun _ => rfl, fun _ h => h⟩, by simp⟩

theorem State.closeGroup_thinned (s : State) (id : Nat) : s.car.Thinned (s.closeGroup id).car := by
  unfold State.closeGroup
  split
  · exact .refl _
  · split
    · exact .refl _
    · dsimp only
      split
      · exact ⟨rfl, fun _ => true, fun d => d, ⟨fun _ => rfl, fun _ h => h⟩, by simp⟩
      · exact (Carousel.Thinned.refl s.car).trans (State.finishGroup_thinned _ _)

/-- A change of one demodulator that leaves its number, and no group to one that has none. -/
theorem State.modDemod_thinned (s : State) (id : Nat) {f : Demod → Demod} (kept : Demod.Kept f) :
    s.car.Thinned (s.modDemod id f).car := by
  refine ⟨rfl, fun _ => true, fun d => if d.id == id then f d else d, ⟨fun d => ?_, fun d h => ?_⟩, by simp [State.modDemod]⟩
  · split
    · exact kept.id d
    · rfl
  · split
    · exact kept.group d h
    · exact h

theorem State.loseSnippet_thinned (s : State) (d : Demod) : s.car.Thinned (s.loseSnippet d).car := by
  have lost := s.modDemod_thinned d.id (f := fun x => { x with snip := none, group := 0 }) ⟨fun _ => rfl, fun _ _ => rfl⟩
  unfold State.loseSnippet
  extract_lets s1 car s2
  have regrouped : s1.car.Thinned s2.car := ⟨rfl, fun _ => true, fun d => d, ⟨fun _ => rfl, fun _ h => h⟩, by simp [s2, car]⟩
  exact (lost.trans regrouped).trans (s2.closeGroup_thinned d.group)

theorem State.growSnippet_thinned (s : State) (id ns : Nat) : s.car.Thinned (s.growSnippet id ns).car := by
  unfold State.growSnippet
  split
  · exact .refl _
  · next d _ =>
    split
    · exact .refl _
    · next m _ =>
      have taken := s.snippet_car id (Nat.max m.bytes (snippetBytes d.det.grid ns)) m.spilled
      split
      next x u eq =>
        have car : u.car = s.car := (congrArg (fun y : Option Snip × State => y.2.car) eq).symm.trans taken
        exact car ▸ u.modDemod_thinned id ⟨fun _ => rfl, fun _ h => h⟩
      next u eq =>
        have car : u.car = s.car := (congrArg (fun y : Option Snip × State => y.2.car) eq).symm.trans taken
        exact car ▸ u.loseSnippet_thinned d

theorem State.growSnippets_thinned (s : State) : s.car.Thinned s.growSnippets.car :=
  List.foldlRecOn (motive := fun t : State => s.car.Thinned t.car) _ _ (.refl _) fun t h d _ => h.trans (t.growSnippet_thinned _ _)

theorem find?_map_id (l : List Demod) {f : Demod → Demod} (kept : ∀ d, (f d).id = d.id) (n : Nat) :
    ((l.map f).find? fun d => d.id == n) = (l.find? fun d => d.id == n).map f := by
  rw [List.find?_map]
  exact congrArg (fun p => (l.find? p).map f) (funext fun d => congrArg (· == n) (kept d))

theorem find?_filter_id (l : List Demod) (keep : Nat → Bool) (n : Nat) :
    ((l.filter fun d => keep d.id).find? fun d => d.id == n) = if keep n then l.find? (fun d => d.id == n) else none := by
  induction l with
  | nil => simp
  | cons d t ih =>
    by_cases at_ : d.id = n
    · cases kept : keep n <;> simp_all
    · cases other : keep d.id <;> simp_all

/-- A demodulator outside a group stays so, or goes. -/
theorem Carousel.Thinned.demod {b c : Carousel} (h : b.Thinned c) {n : Nat} {d : Demod} (found : (b.demods.find? fun x => x.id == n) =
    some d)
    (alone : d.group = 0) : (c.demods.find? fun x => x.id == n) = none ∨ ∃ e,
        (c.demods.find? fun x => x.id == n) = some e ∧ e.group = 0 := by
  obtain ⟨-, keep, f, kept, demods⟩ := h
  rw [demods, find?_filter_id, find?_map_id _ kept.id, found]
  split
  · exact .inr ⟨f d, rfl, kept.group d alone⟩
  · exact .inl rfl

theorem State.releaseDemod_demod (s : State) (n : Nat) : (s.releaseDemod n).demod n = none := by
  refine (find?_filter_id s.car.demods (fun i => i != n) n).trans ?_
  simp

/-- A frame that ends outside a collision group gives up its demodulator (R69). -/
theorem State.frameEnds_demod {s : State} {n : Nat} {d : Demod} (ns phase : Nat) (found : s.demod n = some d) (alone : d.group = 0) :
    (s.frameEnds n ns phase).demod n = none := by
  unfold State.frameEnds
  extract_lets u
  rcases (s.growSnippet_thinned n ns).demod found alone with gone | ⟨e, here, single⟩
  · have gone' : u.demod n = none := gone
    rw [gone']
    exact gone'
  · have here' : u.demod n = some e := here
    rw [here']
    dsimp only
    rw [if_pos single]
    exact u.releaseDemod_demod n

/-- Joining a group moves no demodulator (R80). -/
theorem State.joinGroup_car (s : State) (n : Demod) :
    (s.joinGroup n).car.nextDemod = s.car.nextDemod ∧ (s.joinGroup n).car.demods.length = s.car.demods.length := by
  have counted : ∀ (u : State) (k : Nat), (u.bump k).car = u.car := fun u k => u.bump_frame (p := .car) k (by decide)
  unfold State.joinGroup
  split
  · split
    · rw [counted]
      exact ⟨rfl, List.length_map _⟩
    · split
      · exact ⟨rfl, rfl⟩
      · exact ⟨rfl, List.length_map _⟩
  · dsimp only
    split
    · exact ⟨rfl, rfl⟩
    · rw [counted]
      exact ⟨rfl, List.length_map _⟩

theorem State.assign_car (s : State) (d : Det) (reserved : Bool) :
    (s.assign d reserved).car.nextDemod = s.car.nextDemod + 1 ∧ (s.assign d reserved).car.demods.length = s.car.demods.length + 1 := by
  obtain ⟨n, id, assigned⟩ := s.assign_eq d reserved
  have taken := s.snippet_car s.car.nextDemod (snippetBytes d.grid (s.now - d.syncNs)) false
  rw [assigned]
  generalize (s.snippet s.car.nextDemod (snippetBytes d.grid (s.now - d.syncNs)) false).2 = u at taken
  obtain ⟨next, length⟩ := (u.addDemod n).joinGroup_car n
  refine ⟨next.trans (congrArg (· + 1) id), length.trans ?_⟩
  exact (List.length_append).trans (congrArg (fun c : Carousel => c.demods.length + 1) taken)

/-- The counters of the detections of a port are none of a pool, of a reservation or of a raster, and none that placing data moves. -/
theorem detection_keys : ∀ p ≤ 3, Obj.detections p ∉ poolCells ∧ Obj.delivered p ∉ poolCells ∧ Obj.crcFail p ∉ poolCells ∧
    Unplaced (Obj.delivered p) ∧ Obj.cellEnable ≠ Obj.delivered p ∧ Obj.powerState ≠ Obj.delivered p := by
  decide

theorem detections_ne (p : Nat) : (∀ q, Obj.demodReserve q ≠ Obj.detections p) ∧ Obj.centreHz p ≠ Obj.detections p ∧
    Obj.sampleRate p ≠ Obj.detections p ∧ (∀ g ≤ 5, Obj.gridOrigin p g ≠ Obj.detections p) ∧
    (∀ g ≤ 5, Obj.detections p ≠ Obj.demodBusyDrops p g) := by
  simp only [Obj.demodReserve, Obj.detections, Obj.centreHz, Obj.sampleRate, Obj.gridOrigin, Obj.demodBusyDrops]
  refine ⟨fun q => ?_, ?_, ?_, fun g small => ?_, fun g small => ?_⟩ <;> omega

/-- A detection counted leaves the choice of its demodulator. -/
theorem State.demodFor_counted (s : State) (p q : Nat) : (s.bump (Obj.detections p)).demodFor q = s.demodFor q := by
  have car : (s.bump (Obj.detections p)).car = s.car := s.bump_frame (p := .car) _ (by decide)
  have reserve : ∀ r, (s.bump (Obj.detections p)).nat (Obj.demodReserve r) = s.nat (Obj.demodReserve r) := fun r =>
    State.nat_of_get (s.get_bump_ne ((detections_ne p).1 r))
  simp only [State.demodFor, State.reservedUsed, car, reserve]
  rfl

theorem State.channelAt_counted (s : State) (p : Nat) {g : Nat} (small : g ≤ 5) (k : Nat) :
    (s.bump (Obj.detections p)).channelAt p g k = s.channelAt p g k := by
  obtain ⟨-, centre, rate, origin, -⟩ := detections_ne p
  simp only [State.channelAt, State.nat_of_get (s.get_bump_ne centre), State.nat_of_get (s.get_bump_ne rate),
    State.nat_of_get (s.get_bump_ne (origin g small))]

/-- Where a detector runs (R62, R66). -/
theorem State.detects_bounds {s : State} {d : Det} (h : s.detects d = true) : d.port ≤ 3 ∧ d.grid ≤ 5 := by
  simp only [State.detects, State.iqUp, Bool.and_eq_true] at h
  obtain ⟨⟨⟨⟨⟨⟨⟨⟨⟨⟨⟨-, port⟩, -⟩, -⟩, grid⟩, -⟩, -⟩, -⟩, -⟩, -⟩, -⟩, -⟩ := h
  exact ⟨Nat.le_of_ble_eq_true port, Nat.le_of_ble_eq_true grid⟩

/-- The detections of one RADIO cycle are served in their own order (R66). -/
theorem insertDet_comm {a b : Det} (h : detRank a ≠ detRank b) : insertDet b [a] = insertDet a [b] := by
  simp only [insertDet]
  split
  · rw [if_neg (by omega)]
  · rw [if_pos (by omega)]

theorem State.growSnippets_frames (s : State) : s.growSnippets.frames = s.frames := s.growSnippets_frame (p := .frames) (by decide)

theorem State.frameEnds_frames (s : State) (id ns phase : Nat) : (s.frameEnds id ns phase).frames = s.frames :=
  s.frameEnds_frame (p := .frames) id ns phase (by decide)

theorem State.live_demod {s : State} {n : Nat} {d : Demod} (h : s.live n = some d) : s.demod n = some d ∧ d.det.port ≤ 3 := by
  simp only [State.live, Option.filter_eq_some_iff, Bool.and_eq_true, State.iqUp] at h
  obtain ⟨found, -, ⟨-, port⟩, -⟩ := h
  exact ⟨found, Nat.le_of_ble_eq_true port⟩

/-- A frame abandoned outside a collision group gives up its demodulator and brings no frame (R69). -/
theorem State.abandon_alone {s : State} {n : Nat} {d : Demod} (live : s.growSnippets.live n = some d) (alone : d.group = 0) :
    (s.abandon n).demod n = none ∧ (s.abandon n).frames = s.frames := by
  have run : s.abandon n = s.growSnippets.frameEnds n (s.growSnippets.now - d.det.syncNs) 2 := by
    unfold State.abandon
    extract_lets u
    rw [show u.live n = some d from live]
  rw [run, State.frameEnds_frames, State.growSnippets_frames]
  exact ⟨State.frameEnds_demod _ _ (State.live_demod live).1 alone, rfl⟩

/-- A counter moved leaves whether a cell is open. -/
theorem State.cellOpen_bump (s : State) {k : Nat} (cell : Nat) (enable : Obj.cellEnable ≠ k) (power : Obj.powerState ≠ k) :
    (s.bump k).cellOpen cell = s.cellOpen cell := by
  obtain ⟨pw, pins, -⟩ := s.bump_fields k
  have fw : (s.bump k).fw = s.fw := s.bump_frame (p := .fw) k (by decide)
  have frames : (s.bump k).frames = s.frames := s.bump_frame (p := .frames) k (by decide)
  simp only [State.cellOpen, State.accepting, State.serving, State.awake, State.bitOf, State.nat_of_get (s.get_bump_ne enable),
    State.nat_of_get (s.get_bump_ne power), pw, pins, fw, frames]

/-- What a detection does that gets a demodulator of its own (R66). -/
theorem State.detect_assigns {s : State} {d : Det} {res : Bool} (runs : s.detects d = true) (free : s.demodFor d.port = some res)
    (supported : d.unsupported = false)
    (single : (s.car.demods.find? fun x => x.same d (s.channelAt d.port d.grid d.channel)) = none) :
    s.detect d = (s.bump (Obj.detections d.port)).assign d res := by
  have car : (s.bump (Obj.detections d.port)).car = s.car := s.bump_frame (p := .car) _ (by decide)
  unfold State.detect
  rw [if_neg (by simp [runs])]
  dsimp only
  rw [State.demodFor_counted, free]
  dsimp only
  rw [supported, if_neg Bool.false_ne_true, car, State.channelAt_counted _ _ (State.detects_bounds runs).2, single]

/-- What a detection does that gets no demodulator (R66). -/
theorem State.detect_drops {s : State} {d : Det} (runs : s.detects d = true) (full : s.demodFor d.port = none) :
    s.detect d = (s.bump (Obj.detections d.port)).bump (Obj.demodBusyDrops d.port d.grid) := by
  unfold State.detect
  rw [if_neg (by simp [runs])]
  dsimp only
  rw [State.demodFor_counted, full]

/-- A demodulated frame is counted and arrives as step 1 in the cell of its port (R70). -/
theorem State.deliver_eq (s : State) (d : Demod) (i : RxInfo) (pass : Nat) :
    ∃ f : Frame, f.stage = 1 ∧ f.cell = d.det.port ∧ f.native = i.native ∧
      s.deliver d i pass = (s.bump (Obj.delivered d.det.port)).arrive f := ⟨_, rfl, rfl, rfl, rfl⟩

/-- The frame that a demodulator delivers (R70): counted, and on the path as step 1. -/
theorem State.deliver_opened {s : State} {d : Demod} {j : RxInfo} (pass : Nat) (small : d.det.port ≤ 3)
    (opened : s.cellOpen d.det.port = true) (room : s.nat (Obj.delivered d.det.port) < 4294967295) :
    (∃ f : Frame, (s.deliver d j pass).frames = s.frames ++ [f] ∧
        (f.id, f.stage, f.cell, f.native) = (s.nextFrame, 1, d.det.port, j.native)) ∧
      (s.deliver d j pass).cell (Obj.delivered d.det.port) = (s.nat (Obj.delivered d.det.port) + 1 : Nat) ∧
      (s.deliver d j pass).car = s.car := by
  obtain ⟨-, -, -, placed, enable, power⟩ := detection_keys _ small
  obtain ⟨f, stage, cell, native, delivered⟩ := s.deliver_eq d j pass
  have frames : (s.bump (Obj.delivered d.det.port)).frames = s.frames := s.bump_frame (p := .frames) _ (by decide)
  have next : (s.bump (Obj.delivered d.det.port)).nextFrame = s.nextFrame := s.bump_frame (p := .nextFrame) _ (by decide)
  have accepts : (s.bump (Obj.delivered d.det.port)).cellOpen f.cell = true := by
    rw [cell, s.cellOpen_bump _ enable power, opened]
  obtain ⟨⟨x, desc, arrived⟩, -⟩ := State.arrive_frames accepts
  rw [delivered, arrived, State.arrive_cell _ f placed, State.bump_cell_self _ room, frames, next]
  refine ⟨⟨_, rfl, ?_⟩, rfl, ?_⟩
  · rw [← stage, ← cell, ← native]
  · exact (State.arrive_frame (p := .car) _ f (by decide)).trans (s.bump_frame _ (by decide))

theorem State.demod_of_car {s t : State} (car : t.car = s.car) (n : Nat) : t.demod n = s.demod n := by
  unfold State.demod
  rw [car]

theorem State.detectAll_single (s : State) (d : Det) : s.detectAll [d] = s.growSnippets.detect d := by
  simp only [State.detectAll, List.foldl_cons, List.foldl_nil, insertDet]

theorem State.frames_of_part {s t : State} (h : Part.of .frames t = Part.of .frames s) : t.frames = s.frames := h

/-- A detection that gets a demodulator of its own (R66). -/
theorem State.detectAll_assigns {s : State} {d : Det} {res : Bool} (runs : s.growSnippets.detects d = true)
    (free : s.growSnippets.demodFor d.port = some res) (supported : d.unsupported = false)
    (single : (s.growSnippets.car.demods.find? fun x => x.same d (s.growSnippets.channelAt d.port d.grid d.channel)) = none)
    (room : s.growSnippets.nat (Obj.detections d.port) < 4294967295) :
    (s.detectAll [d]).car.demods.length = s.growSnippets.car.demods.length + 1 ∧
      (s.detectAll [d]).car.nextDemod = s.car.nextDemod + 1 ∧
      (s.detectAll [d]).get (Obj.detections d.port) = (s.growSnippets.nat (Obj.detections d.port) + 1 : Nat) ∧
      (s.detectAll [d]).frames = s.frames := by
  obtain ⟨port, -⟩ := State.detects_bounds runs
  obtain ⟨outside, -⟩ := detection_keys _ port
  have run := (s.detectAll_single d).trans (State.detect_assigns runs free supported single)
  have counted : (s.growSnippets.bump (Obj.detections d.port)).car = s.growSnippets.car :=
    State.bump_frame (p := .car) _ _ (by decide)
  obtain ⟨next, length⟩ := (s.growSnippets.bump (Obj.detections d.port)).assign_car d res
  rw [run, length, next, counted, s.growSnippets_thinned.1, State.get_eq_cell, State.assign_cell _ d res outside,
    State.bump_cell_self _ room]
  exact ⟨rfl, rfl, rfl, (State.frames_of_part (State.assign_frame _ d res (by decide))).trans
    ((State.bump_frame (p := .frames) _ _ (by decide)).trans s.growSnippets_frames)⟩

theorem strongest_mem {l : List Demod} {c : Demod} (h : strongest l = some c) : c ∈ l := by
  cases l with
  | nil => cases h
  | cons d t =>
    cases h
    exact List.foldlRecOn t _ (motive := fun x => x ∈ d :: t) (List.mem_cons_self ..) fun x hx y hy => by
      split
      · exact hx
      · exact List.mem_cons_of_mem _ hy

/-- A group that a pass of cancellation has gone through (R81): its record in the list of groups. -/
theorem find?_group_pass (l : List Group) (g : Group) :
    ((l.map fun (x : Group) => if x.id == g.id then g else x).find? fun x => x.id == g.id) = none ∨
      ((l.map fun (x : Group) => if x.id == g.id then g else x).find? fun x => x.id == g.id) = some g := by
  induction l with
  | nil => exact .inl rfl
  | cons x t ih =>
    by_cases same : x.id = g.id
    · exact .inr (by simp [same])
    · simpa [List.find?_cons, same] using ih

/-- A pass of cancellation that decodes no member: the group counts it, the strongest decoded member is subtracted (R81). -/
def State.subtract (s : State) (g : Group) (c : Demod) : State :=
  { s with car.groups := s.car.groups.map fun (x : Group) => if x.id == g.id then g else x }.modDemod c.id
    fun d => { d with done := true }

theorem State.cancel_none {s : State} {n : Nat} {g : Group} {c : Demod} (found : s.group n = some g) (closed : g.closed = true)
    (up : s.iqUp g.port = true) (due : s.passDue g = true)
    (chosen : strongest ((s.growSnippets.car.demods.filter fun d => g.members.contains d.id).filter fun d => d.phase == 1 && !d.done) =
      some c) :
    s.cancel n [] = s.growSnippets.subtract { g with passes := g.passes + 1 } c ∨
      s.cancel n [] = (s.growSnippets.subtract { g with passes := g.passes + 1 } c).finishGroup { g with passes := g.passes + 1 } := by
  have idle : ∀ (l : List Demod) (u : State), l.foldl (fun (v : State) (_ : Demod) => v) u = u := fun l _ => List.foldl_fixed l
  unfold State.cancel
  rw [found]
  dsimp only
  rw [if_neg (by simp [closed, up, due]), chosen]
  simp only [List.find?_nil, Option.bind_none, idle]
  split
  · exact .inl rfl
  · exact .inr rfl

theorem State.subtract_done {s : State} {g : Group} {c : Demod} (member : c ∈ s.car.demods) :
    ((s.subtract g c).demod c.id).map (·.done) = some true := by
  obtain ⟨e, here⟩ : ∃ e, (s.car.demods.find? fun d => d.id == c.id) = some e :=
    Option.isSome_iff_exists.mp (List.find?_isSome.mpr ⟨c, member, by simp⟩)
  have same : (e.id == c.id) = true := List.find?_some (p := fun d : Demod => d.id == c.id) here
  have changed : (s.subtract g c).demod c.id = _ := find?_map_id s.car.demods (f := fun d => if d.id == c.id then { d with done := true }
      else d)
    (fun d => by split <;> rfl) c.id
  rw [changed, here, Option.map_some, if_pos same]
  rfl

/-- Settles O21. -/
theorem demodulatorPool : Obligations.DemodulatorPool := by
  refine ⟨fun s d res runs free supported single room => ⟨_, rfl, ?_⟩, fun s d runs none_ room => ⟨_, rfl, ?_⟩, fun s a b differ => ?_,
    fun s n ok d i j live alone whole opened room => ⟨_, rfl, ?_⟩, fun s n ok d i live alone broken whole room => ⟨_, rfl, ?_⟩,
    fun s n d live alone => ⟨_, rfl, rfl, State.abandon_alone live alone⟩, fun s n e d found long live alone => ⟨_, rfl, ?_⟩,
    fun s n g c found closed up due chosen => ⟨_, rfl, ?_⟩⟩
  · exact State.detectAll_assigns runs free supported single room
  · obtain ⟨-, grid⟩ := State.detects_bounds runs
    obtain ⟨-, -, -, -, other⟩ := detections_ne d.port
    have run := (s.detectAll_single d).trans (State.detect_drops runs none_)
    have still : (s.growSnippets.bump (Obj.detections d.port)).nat (Obj.demodBusyDrops d.port d.grid) =
        s.growSnippets.nat (Obj.demodBusyDrops d.port d.grid) := State.nat_of_get (State.get_bump_ne _ (other _ grid).symm)
    rw [run]
    refine ⟨(State.bump_frame (p := .car) _ _ (by decide)).trans (State.bump_frame _ _ (by decide)), ?_⟩
    rw [State.get_eq_cell, State.bump_cell_self _ (by rw [still]; exact room), still]
  · have order : s.detectAll [a, b] = s.detectAll [b, a] :=
      congrArg (fun l => List.foldl State.detect s.growSnippets l) (insertDet_comm differ)
    exact congrArg Host.Outcome.next order
  · obtain ⟨here, small⟩ := State.live_demod live
    obtain ⟨-, outside, -⟩ := detection_keys _ small
    have run : s.frameDelivery n ok i = (s.growSnippets.deliver d j 0).frameEnds n (j.endNs - d.det.syncNs) 1 := by
      unfold State.frameDelivery
      extract_lets u
      rw [show u.live n = some d from live]
      dsimp only
      rw [whole]
    obtain ⟨⟨f, frames, fields⟩, count, car⟩ := State.deliver_opened (j := j) 0 small opened room
    have still : (s.growSnippets.deliver d j 0).demod n = some d :=
      (State.demod_of_car car n).trans here
    have next : s.growSnippets.nextFrame = s.nextFrame := s.growSnippets_frame (p := .nextFrame) (by decide)
    rw [run, State.frameEnds_frames, frames, s.growSnippets_frames, List.getLast?_concat, List.length_append, State.get_eq_cell,
      State.frameEnds_cell _ _ _ _ outside, count, Option.map_some, fields, next]
    exact ⟨State.frameEnds_demod _ _ still alone, rfl, rfl, rfl⟩
  · obtain ⟨here, small⟩ := State.live_demod live
    obtain ⟨-, -, outside, -⟩ := detection_keys _ small
    have run : s.frameDelivery n ok i =
        (s.growSnippets.bump (Obj.crcFail d.det.port)).frameEnds n (i.endNs - d.det.syncNs) 2 := by
      unfold State.frameDelivery
      extract_lets u
      rw [show u.live n = some d from live]
      dsimp only
      rw [broken]
      dsimp only
      rw [if_pos whole]
    have car : (s.growSnippets.bump (Obj.crcFail d.det.port)).car = s.growSnippets.car := State.bump_frame (p := .car) _ _ (by decide)
    have still : (s.growSnippets.bump (Obj.crcFail d.det.port)).demod n = some d :=
      (State.demod_of_car car n).trans here
    rw [run, State.frameEnds_frames, State.get_eq_cell, State.frameEnds_cell _ _ _ _ outside, State.bump_cell_self _ room]
    exact ⟨State.frameEnds_demod _ _ still alone,
      (State.bump_frame (p := .frames) _ _ (by decide)).trans s.growSnippets_frames, rfl⟩
  · have run : s.maxHold n = s.abandon n := by
      unfold State.maxHold
      rw [found]
      exact if_pos long
    rw [run]
    exact State.abandon_alone live alone
  · have at_ : (g.id == n) = true := List.find?_some (p := fun x : Group => x.id == n) found
    have at_ : g.id = n := by simpa using at_
    have member : c ∈ s.growSnippets.car.demods := List.mem_of_mem_filter (List.mem_of_mem_filter (strongest_mem chosen))
    have frames : (s.growSnippets.subtract { g with passes := g.passes + 1 } c).frames = s.frames := s.growSnippets_frames
    rcases State.cancel_none found closed up due chosen with run | run
    · rw [run, ← at_]
      refine ⟨frames, ?_⟩
      rcases find?_group_pass s.growSnippets.car.groups { g with passes := g.passes + 1 } with gone | here
      · exact .inl gone
      · exact .inr ⟨congrArg (Option.map (·.passes)) here, State.subtract_done member⟩
    · rw [run]
      refine ⟨(State.finishGroup_frame (p := .frames) _ _ (by decide)).trans frames, .inl ?_⟩
      unfold State.group
      rw [State.finishGroup_car, List.find?_eq_none]
      intro x hx
      simp only [List.mem_filter] at hx
      simpa [at_] using hx.2

end Sys2Proof.Machine

set_option autoImplicit false
namespace Sys2Proof.Machine

set_option Elab.async false

/-- A session of an Administrator through CAP. -/
def adminSession : Session :=
  { role := 0, tenant := 0, lastAt := 0, kept := [], resp := none, bulk := none, held := none, closing := false }

/-- A record of an active endpoint whose stored copy fails RecordCrc (R41). -/
def failedRecord : Record :=
  { tag := 1, state := 2, ntype := 1, cell := 0, tenant := 0, naddr := 1, flags := 0, billingHome := 0, kekGen := 0, blob := none,
    upCounter := 0, lastHeard := 0, lastCell := 0, lastQuality := 0, heard := [], calendar := 0, phase := 0, node := 0, score := 0,
    chanMask := 0, chanConfig := [], tamperCount := 0, tamperFirst := 0, tamperLast := 0, tamperCode := 0,
    summary := { outages := 0, restorations := 0, lastOutage := 0, lastRestoration := 0, alarms := 0, lastAlarmCode := 0, lastAlarm := 0,
                 flags := 0 },
    admittedAt := 0, moves := 0, serving := 0, bucket := 0, downPending := 0, downCounter := 0, prevTag := 0, removedAt := 0, slot := 0,
    scoreArmed := true, bad := true, counted := false }

/-- A part that runs, with an Administrator's session open and one endpoint, whose record fails its check. -/
def failedRecordState : State :=
  { State.reset with pw.rails := true, pw.stage := 0x0D, pins.porst := false, pins.pfi := false, sessions := [(1, adminSession)],
                     nand.recs := [(1, failedRecord)] }

/-- An item for that endpoint. -/
def itemForFailed : ItemArg := { tag := 1, cls := 1, prio := 0, length := 1, notBefore := 0, expiry := 0, flags := 0, payload := 0 }

/-- The status of the response last sent on a session (R362). -/
def State.lastStatus (s : State) (n : Nat) : Option Nat := ((tget s.sessions n).bind fun ses => ses.resp).map (·.status)

/-- An answer shows its status. -/
theorem State.Replied.status {t : State} {r : CapReq} {kind index sub : Nat} {o : CapOut} (h : t.Replied r kind index sub o) :
    t.lastStatus r.sess = some o.status := by
  unfold State.lastStatus
  rw [h]
  rfl

/-- STAGE_ITEM for that endpoint, as the model carries it out. -/
def stagedForFailed : State :=
  failedRecordState.capOrdered { sess := 1, tag := 1 } Obj.stageItem [1] (.stageItem { sess := 1, tag := 1 } itemForFailed)
    fun ses s => s.stageBody itemForFailed ses

/-- Its record fails its check, so that the command answers MEDIA_ERROR. -/
theorem stagedForFailed_status : stagedForFailed.lastStatus 1 = some 16 := by decide

/-- Refutes O22: the record that a command names may fail its check (R41) while the endpoint is live; StageItem then answers MEDIA_ERROR,
and nothing is staged. -/
theorem not_stagedItems : ¬Obligations.StagedItems := by
  intro h
  obtain ⟨t, run, answered, -⟩ := h.1 failedRecordState { sess := 1, tag := 1 } adminSession itemForFailed failedRecord (by decide)
    (by decide) rfl (by decide) (by decide) (by decide) (by decide) (by decide)
  have same : stagedForFailed = t := Host.Outcome.next.inj run
  have status := State.Replied.status answered
  rw [← same] at status
  exact absurd (stagedForFailed_status.symm.trans status) (by decide)

end Sys2Proof.Machine

set_option autoImplicit false
namespace Sys2Proof.Machine

set_option Elab.async false

/-! ### Further commands on an endpoint whose record fails its check -/

/-- A request on the session of the Administrator. -/
def adminRequest : CapReq := { sess := 1, tag := 1 }

/-- ENDPOINT_REMOVE of that endpoint. -/
theorem removedFailed_status : (failedRecordState.endpointRemove adminRequest 1).lastStatus 1 = some 16 := by decide

/-- Refutes O32: the record that ENDPOINT_REMOVE names may fail its check (R41) while the endpoint is live; the command then answers
MEDIA_ERROR and removes nothing. -/
theorem not_endpointRegistry : ¬Obligations.EndpointRegistry := by
  intro h
  obtain ⟨-, -, -, removes, -⟩ := h
  obtain ⟨t, v, run, answered, -⟩ := removes failedRecordState adminRequest adminSession 1 failedRecord (by decide) (by decide) rfl rfl
    (by decide) (by decide) (by decide) (by decide) (by decide) (by decide) (by decide)
  have same : failedRecordState.endpointRemove adminRequest 1 = t := Host.Outcome.next.inj run
  have status := State.Replied.status answered
  rw [← same] at status
  exact absurd (removedFailed_status.symm.trans status) (by simp [capVal])

/-- SCORE_RESET of that endpoint. -/
theorem scoredFailed_status : (failedRecordState.scoreReset adminRequest 1).lastStatus 1 = some 16 := by decide

/-- Refutes O33: the record that SCORE_RESET names may fail its check (R41) while the endpoint is live; the command then answers
MEDIA_ERROR. -/
theorem not_treeAndBalances : ¬Obligations.TreeAndBalances := by
  intro h
  obtain ⟨-, -, -, resets, -⟩ := h
  obtain ⟨t, run, answered, -⟩ := resets failedRecordState adminRequest adminSession 1 failedRecord (by decide) rfl (by decide)
    (by decide) (by decide)
  have same : failedRecordState.scoreReset adminRequest 1 = t := Host.Outcome.next.inj run
  have status := State.Replied.status answered
  rw [← same] at status
  exact absurd (scoredFailed_status.symm.trans status) (by decide)

/-- LOCK_OUT_SET of that endpoint. -/
theorem lockedFailed_status : (failedRecordState.lockOutSet adminRequest 1 1).lastStatus 1 = some 16 := by decide

/-- Refutes O34: the record that LOCK_OUT_SET names may fail its check (R41) while the endpoint is live; the command then answers
MEDIA_ERROR. -/
theorem not_prepaymentCommands : ¬Obligations.PrepaymentCommands := by
  intro h
  obtain ⟨-, -, -, locks, -⟩ := h
  obtain ⟨t, run, answered, -⟩ := locks failedRecordState adminRequest adminSession 1 1 failedRecord (by decide) (by decide) rfl
    (by decide) (by decide) (by decide) (by decide)
  have same : failedRecordState.lockOutSet adminRequest 1 1 = t := Host.Outcome.next.inj run
  have status := State.Replied.status answered
  rw [← same] at status
  exact absurd (lockedFailed_status.symm.trans status) (by decide)

end Sys2Proof.Machine

set_option autoImplicit false
namespace Sys2Proof.Machine

set_option Elab.async false

/-! ### The cascade while Midway withholds its window -/

/-- An intake queue whose producer has no credit left. -/
def fullQueue : Seesaw :=
  { bank0 := [], bank1 := [], fill := 0, credits := [0], seqs := [0], waiting := [], ports := 1, depth := 1, poison := false,
    corrected := 0, out := 0 }

/-- A regional part in service with the session to concentrator 1 up, its intake queues without credit and 1,024 MiB in its buffers. -/
def withholdingState : State :=
  { State.reset with pw.rails := true, pw.stage := 0x0D, pw.regional := true, pins.porst := false, pins.pfi := false,
                     cat := [(Obj.powerState, 0)],
                     cascades := [(1, { up := true, serial := 0, number := 1, failed := none })],
                     mem.queues := [(16, fullQueue), (17, fullQueue), (18, fullQueue), (19, fullQueue)],
                     cask.dirty := 1073741824 }

/-- A frame as a forwarding concentrator describes it. -/
def anyFrame : RxInfo :=
  { syncNs := 0, endNs := 0, native := { ntype := 1, addr := 0 }, counter := 0, suite := 0, ackReq := false, rssi := 0, esn0 := 0,
      modeParam := 0,
    length := 0, frame := 0, copies := [] }

/-- Midway withholds the window there (R34, R171). -/
theorem withholdingState_withholds : withholdingState.withholds = true := by decide

/-- A part that withholds the window takes no forwarded frame. -/
theorem State.forwardedFrame_withheld (s : State) (n seq tag cell : Nat) (i : RxInfo) (h : s.withholds = true) :
    s.forwardedFrame n seq tag cell i = s := by
  simp [State.forwardedFrame, h]

/-- Refutes O31: the clause on FORWARDED_FRAME leaves out R171. While the queues 16 to 19 have no credit and the buffers are full,
    the window
of the cascade sessions is withheld, and no frame enters the path. -/
theorem not_cascadeSessions : ¬Obligations.CascadeSessions := by
  intro h
  obtain ⟨-, -, -, -, forwards, -⟩ := h
  obtain ⟨t, run, longer, -⟩ := forwards withholdingState 1 0 0 0
    anyFrame (by decide) (by decide) (by decide) (by decide) (by decide)
  have same : withholdingState.forwardedFrame 1 0 0 0 _ = t := Host.Outcome.next.inj run
  rw [State.forwardedFrame_withheld _ _ _ _ _ _ withholdingState_withholds] at same
  rw [← same] at longer
  exact absurd longer (by simp)

end Sys2Proof.Machine

set_option autoImplicit false
namespace Sys2Proof.Machine

set_option Elab.async false

/-! ### A calendar image with a reserved bit set -/

/-- A valid image of quarter hours whose reserved byte 13 is 1. -/
def spareImage : Nat :=
  pack ([(1, 0), (1, 1), (1, 0), (1, 15), (1, 15), (4, 0), (1, 1), (3, 0), (1, 1), (8, 0), (6, 900), (36, 0), (1, 1), (1, 1), (78, 0)] ++
    ((List.range 192).map fun i => (4, if i % 12 = 0 then 0 else 0xFFFF)) ++ [(684, 0), (4, 0x0b06bab9)])

/-- The CRC register after every 57 bytes of that image. -/
def spareRegisters : List Nat :=
  [4294967295, 2347555437, 1664446428, 970337009, 2692140773, 2156172980, 2072711891, 2324756825, 1961873770, 2141216536, 1243839725,
    51951032, 1427373749, 1639751207, 914358927, 762105676, 1058157043, 95826003, 2965210615, 3372443293, 2633876974, 2914689450,
    103337287, 3410183782, 4012273841, 3564380030, 1370105544, 3036131226, 4109976902]

theorem spareRegisters_step : ∀ i < 28,
    (toBytes 57 (spareImage / 256 ^ (57 * i))).foldl (crcByte 0x82F63B78) (spareRegisters.getD i 0) = spareRegisters.getD (i + 1) 0 := by
  decide +kernel

theorem toBytes_add (m n w : Nat) : toBytes (m + n) w = toBytes m w ++ toBytes n (w / 256 ^ m) := by
  induction m generalizing w with
  | zero => simp [toBytes]
  | succ m ih => rw [Nat.succ_add, toBytes, ih, toBytes, Nat.div_div_eq_div_mul, ← Nat.pow_succ']; rfl

/-- A CRC taken block by block: where every block of m bytes takes the register from one value of a list to the next,
    n blocks take it from
the first to the n-th. -/
theorem crcBlocks_run {w m n : Nat} {registers : Nat → Nat}
    (step : ∀ i < n, (toBytes m (w / 256 ^ (m * i))).foldl (crcByte 0x82F63B78) (registers i) = registers (i + 1)) :
    (toBytes (m * n) w).foldl (crcByte 0x82F63B78) (registers 0) = registers n := by
  induction n with
  | zero => rfl
  | succ n ih => rw [Nat.mul_succ, toBytes_add, List.foldl_append, ih fun i h => step i (by omega), step n (by omega)]

theorem spareImage_crc : (bytesAt spareImage 1596 4 == crcOf 1596 spareImage) = true := by
  have run := crcBlocks_run (registers := fun i => spareRegisters.getD i 0) spareRegisters_step
  rw [crcOf, crc32c, show 1596 = 57 * 28 from rfl, show 0xFFFFFFFF = spareRegisters.getD 0 0 from rfl, run]
  decide +kernel

theorem spareImage_valid : imageFails spareImage = none := by
  unfold imageFails imageChecks
  rw [spareImage_crc]
  decide +kernel

/-- A number of n bytes keeps its bits below the fields that are put in above it. -/
theorem testBit_fields {x y z w n p q j : Nat} (small : x < 256 ^ n) (h : j < 8 * n) (hp : n ≤ p) (hq : n ≤ q) :
    (x + 256 ^ n * y + 256 ^ p * z + 256 ^ q * w).testBit j = x.testBit j := by
  obtain ⟨a, ha⟩ := pow_dvd_pow 256 hp
  obtain ⟨b, hb⟩ := pow_dvd_pow 256 hq
  have width : 256 ^ n = 2 ^ (8 * n) := by rw [show 256 = 2 ^ 8 from rfl, ← Nat.pow_mul]
  rw [ha, hb, width, show x + 2 ^ (8 * n) * y + 2 ^ (8 * n) * a * z + 2 ^ (8 * n) * b * w = 2 ^ (8 * n) * (y + a * z + b * w) + x by ring,
    Nat.testBit_two_pow_mul_add _ (width ▸ small), if_pos h]

/-- An image with its SourceCounter keeps what stands before that field (R197). -/
theorem imgWithSource_testBit (g n : Nat) {j : Nat} (h : j < 8 * 28) : (imgWithSource g n).testBit j = (g % 256 ^ 28).testBit j :=
  testBit_fields (n := 28) (p := 36) (q := 1596) (Nat.mod_lt _ (Nat.pow_pos (by decide))) h (by decide) (by decide)

/-- The image as the part takes it over keeps the reserved byte. -/
theorem spareImage_sourced : (imgWithSource spareImage 1).testBit 104 = true := by
  rw [imgWithSource_testBit _ _ (by decide)]
  decide +kernel

/-- The image as it is kept reads the reserved byte as 0 (R13). -/
theorem imgUsed_reserved (g : Nat) : (imgUsed g).testBit 104 = false := by
  have masked : (256 ^ 1600 - 1 - imgReservedMask).testBit 104 = false := by decide +kernel
  rw [imgUsed, Nat.testBit_and, masked, Bool.and_false]

/-! ### The container -/

/-- A TARIFF_SET container for every device of the class, signed under the anchor of `tariffState`. -/
def tariffContainer : Epmeir :=
  { magicOk := true, typ := 2, version := 1, targetKind := 0, target := 0x1048, counter := 1, lengthOk := true, hashOk := true,
      signer := 7 }

/-- A part with its catalogue ready, the Administrator's session and an anchor for tariffs. -/
def tariffState : State :=
  { State.reset with pw.rails := true, pw.stage := 0x0D, pins.porst := false, pins.pfi := false, sessions := [(1, adminSession)],
                     nand.anchors := [{ role := 5, tenant := 0, slot := 0, kind := 0, key := 7 }] }

/-- One image passes the checks of R200 where the container, the signer, the counter, the image and its instant do. -/
theorem State.tariffCheck_one (s : State) (e : Epmeir) (g : Nat) (container : s.containerCheck e 2 true = none)
    (signed : s.anchorHas 5 0 e.signer = true) (newer : s.nat Obj.tariffSetCounter < e.counter) (valid : imageFails g = none)
    (later : s.activationOk g = true) : s.tariffCheck e [g] = none := by
  have fresh : ¬e.counter ≤ s.nat Obj.tariffSetCounter := by omega
  simp [State.tariffCheck, container, signed, fresh, firstBadImage, valid, later]

theorem tariffState_check : tariffState.tariffCheck tariffContainer [spareImage] = none :=
  State.tariffCheck_one _ _ _ (by decide) (by decide) (by decide) spareImage_valid (by decide +kernel)

theorem tariffState_executing : (tariffState.executing adminRequest adminSession).tariffCheck tariffContainer [spareImage] = none :=
  State.tariffCheck_one _ _ _ (by decide) (by decide) (by decide) spareImage_valid (by decide +kernel)

/-- The body of TARIFF_SET_SUBMIT (R200). -/
def State.tariffBody (s : State) (e : Epmeir) (gs : List Nat) : CapOut × State :=
  match s.tariffCheck e gs with
  | some (st, d, i, o) => (capErr st d, s.tariffResult st i o e.counter)
  | none => s.mediaGate fun s => (capOk, (s.tariffApply e.counter gs).tariffResult 0 0 0 e.counter)

theorem unrecorded_calendarPassive : ∀ n < 256, Unrecorded (Obj.calendarPassive n) := by decide +kernel

theorem State.tariffApply_passive (s : State) (n g : Nat) :
    (s.tariffApply n [g]).cell (Obj.calendarPassive (byteAt g 0)) = (imgUsed (imgWithSource g n) : Int) := by
  have small : byteAt g 0 < 256 := Nat.mod_lt _ (by decide)
  have apart : Obj.calendarPassive (byteAt g 0) ≠ Obj.tariffSetCounter := by unfold Obj.calendarPassive Obj.tariffSetCounter; omega
  unfold State.tariffApply
  rw [State.logLegal_cell _ _ _ _ (unrecorded_calendarPassive _ small)]
  exact (State.setSealed_cell _ _ _ apart).trans (State.set_cell_self _ _ _)

theorem State.tariffBody_pass {s : State} {e : Epmeir} {gs : List Nat} (pass : s.tariffCheck e gs = none)
    (media : s.nat Obj.mediaState = 0) :
    s.tariffBody e gs = (capOk, (s.tariffApply e.counter gs).tariffResult 0 0 0 e.counter) := by
  rw [State.tariffBody, pass]
  exact if_pos media

/-- What TARIFF_SET_SUBMIT leaves as the passive image where its checks pass (R200). -/
theorem State.tariffResult_passive (s : State) (n a b c d g : Nat) :
    ((s.tariffApply n [g]).tariffResult a b c d).cell (Obj.calendarPassive (byteAt g 0)) = (imgUsed (imgWithSource g n) : Int) := by
  have small : byteAt g 0 < 256 := Nat.mod_lt _ (by decide)
  have apart : Obj.calendarPassive (byteAt g 0) ≠ Obj.tariffSetResult := by unfold Obj.calendarPassive Obj.tariffSetResult; omega
  exact (State.set_cell _ _ apart).trans (State.tariffApply_passive _ _ _)

/-- An accepted image with reserved bit 104 set is not kept as its container brings it. -/
theorem not_tariffsAndBoundaries_of {s : State} {r : CapReq} {ses : Session} {e : Epmeir} {g : Nat}
    (admits : s.Admits r Obj.tariffSetSubmit ses) (pass : s.tariffCheck e [g] = none)
    (pass' : (s.executing r ses).tariffCheck e [g] = none) (media : s.nat Obj.mediaState = 0)
    (reserved : (imgWithSource g e.counter).testBit 104 = true) : ¬Obligations.TariffsAndBoundaries := by
  intro h
  obtain ⟨t, run, -, -, same⟩ := h.1 s r ses e g admits pass media
  obtain ⟨u, run', answers⟩ := State.capExec_answers (body := fun _ s => s.tariffBody e [g]) admits
    (State.tariffBody_pass pass' ((s.executing_nat r ses (by decide)).trans media))
    ((State.tariffResult_frame _ _ _ _ _ (by decide)).trans (State.tariffApply_frame _ _ _ (by decide)))
  have room : Obj.calendarPassive (byteAt g 0) ≠ Obj.capErrors := by
    have small : byteAt g 0 < 256 := Nat.mod_lt _ (by decide)
    unfold Obj.calendarPassive Obj.capErrors
    omega
  have image := (answers.cells _ room).trans (State.tariffResult_passive _ _ _ _ _ _ g)
  rw [run'.symm.trans (Host.Outcome.next.inj run)] at image
  have bits := congrArg (Nat.testBit · 104) (Int.ofNat.inj (image.symm.trans same))
  exact absurd ((imgUsed_reserved _).symm.trans (bits.trans reserved)) (by decide)

/-- Refutes O35: the clause on TARIFF_SET_SUBMIT has the passive image as the container brings it, but an image is kept with its reserved
bits read as 0 (R13, R199), which `spareImage` has not. -/
theorem not_tariffsAndBoundaries : ¬Obligations.TariffsAndBoundaries :=
  not_tariffsAndBoundaries_of (s := tariffState) (r := adminRequest) (ses := adminSession) (by decide) tariffState_check
    tariffState_executing (by decide) spareImage_sourced

end Sys2Proof.Machine

set_option autoImplicit false
namespace Sys2Proof.Machine

set_option Elab.async false

/-! ## Locket: masking, entropy, zeroize (R146, R147, R166 to R168) -/

/-- The value of a word of key SRAM is that of the keys held, whatever masks them. -/
theorem State.keyWord_of_keys {s t : State} (keys : t.loc.keys = s.loc.keys) (device : t.loc.device = s.loc.device)
    (dedicated : t.loc.dedicated = s.loc.dedicated) (traffic : t.loc.traffic = s.loc.traffic) (working : t.loc.working = s.loc.working)
    (drbg : t.loc.drbg = s.loc.drbg) (gate : t.loc.gateKey = s.loc.gateKey) (v : Nat) : t.keyWord v = s.keyWord v := by
  simp only [State.keyWord, State.kek, Locket.sessionWords, keys, device, dedicated, traffic, working, drbg, gate]

/-- The shares of a word are its mask and its value under it (R147). -/
theorem State.shares_xor (s : State) (w : Nat) : (s.shares w).1 ^^^ (s.shares w).2 = s.keyWord w := by
  simp only [State.shares]
  rw [Nat.xor_comm (s.keyWord w), ← Nat.xor_assoc, Nat.xor_self, Nat.zero_xor]

/-- The state after fresh bits have gone into the mask of a word. -/
def State.remask (s : State) (w m : Nat) : State :=
  { s with free := s.free + 1, loc.masks := tput s.loc.masks w ((tget s.loc.masks w).getD 0 ^^^ m) }

theorem State.maskRefresh_run {s : State} {w : Nat} (awake : s.awake = true) (zeroizing : s.loc.zeroizing = false) (h : w ≤ 16383) :
    s.maskRefresh w = s.remask w (Config.free s.free % 2 ^ 64) :=
  if_neg (by simp [awake, zeroizing]; omega)

theorem State.remask_keyWord (s : State) (w m v : Nat) : (s.remask w m).keyWord v = s.keyWord v :=
  State.keyWord_of_keys rfl rfl rfl rfl rfl rfl rfl v

theorem State.remask_shares_self (s : State) (w m : Nat) :
    (s.remask w m).shares w = ((s.shares w).1 ^^^ m, (s.shares w).2 ^^^ m) := by
  have mask : (tget (s.remask w m).loc.masks w).getD 0 = (tget s.loc.masks w).getD 0 ^^^ m := by
    show (tget (tput _ _ _) w).getD 0 = _
    rw [tget_tput_self]
    rfl
  simp only [State.shares, mask, State.remask_keyWord, Nat.xor_assoc]

theorem State.remask_shares_ne (s : State) {w v : Nat} (m : Nat) (h : v ≠ w) : (s.remask w m).shares v = s.shares v := by
  have mask : tget (s.remask w m).loc.masks v = tget s.loc.masks v := tget_tput_ne _ _ h
  simp only [State.shares, mask, State.remask_keyWord]

/-- Settles O38. -/
theorem entropyAndMasking : Obligations.EntropyAndMasking := by
  refine ⟨fun s w => ⟨_, rfl, ?_⟩, fun s awake zeroizing => ⟨_, rfl, ?_⟩, fun s awake room => ⟨_, rfl, ?_⟩,
    fun s awake => congrArg _ (if_pos awake), fun s => ⟨_, rfl, ?_⟩⟩
  · by_cases runs : s.awake = true ∧ s.loc.zeroizing = false ∧ w ≤ 16383
    · obtain ⟨awake, zeroizing, h⟩ := runs
      rw [State.maskRefresh_run awake zeroizing h]
      exact ⟨fun v => ⟨s.remask_keyWord w _ v, (State.shares_xor _ v).trans (s.remask_keyWord w _ v)⟩, rfl, rfl, rfl,
        fun _ _ _ => ⟨_, Nat.mod_lt _ (by decide), s.remask_shares_self w _⟩, fun v h => s.remask_shares_ne _ h⟩
    · have still : s.maskRefresh w = s := by
        refine if_pos ?_
        simp only [Bool.not_eq_true', Bool.eq_false_iff]
        by_contra left
        push Not at left
        exact runs ⟨left.1, Bool.eq_false_iff.2 left.2.1, left.2.2⟩
      rw [still]
      exact ⟨fun v => ⟨rfl, s.shares_xor v⟩, rfl, rfl, rfl, fun awake zeroizing h => absurd ⟨awake, zeroizing, h⟩ runs, fun _ _ => rfl⟩
  · by_cases failed : s.loc.entropyFailed = true
    · have still : s.drbgReseed = s := if_neg (by simp [failed])
      rw [still]
      exact ⟨rfl, rfl, rfl, fun _ => rfl, fun sound => absurd failed (by simp [sound])⟩
    · rw [State.drbgReseed, if_pos ⟨awake, failed, by simp [zeroizing]⟩]
      exact ⟨rfl, rfl, rfl, fun fails => absurd fails failed, fun _ => ⟨rfl, Nat.mod_lt _ (by positivity)⟩⟩
  · rw [State.entropyFailure, if_pos awake]
    have loc : ({ s with loc.entropyFailed := true }.bump Obj.entropyFailures |>.logSec 0x2006 0xFF 0).loc =
        { s.loc with entropyFailed := true } :=
      (State.logSec_frame (p := .loc) _ _ _ _ (by decide)).trans (State.bump_frame (p := .loc) _ _ (by decide))
    exact ⟨congrArg Locket.entropyFailed loc, by rw [State.mayHandshake, loc]; rfl,
      (State.logSec_cell _ _ _ _ (by decide)).trans (State.bump_cell_self (s := { s with loc.entropyFailed := true }) room)⟩
  · by_cases zeroizing : s.loc.zeroizing = true
    · have run : s.zeroizeRelease =
          if s.awake then { s with loc.zeroizing := false }.deriveDevice else { s with loc.zeroizing := false } :=
        if_neg (by simp [zeroizing])
      rw [run]
      by_cases awake : s.awake = true
      · rw [if_pos awake]
        exact ⟨rfl, rfl, rfl, rfl, rfl, fun still => absurd zeroizing (by simp [still]), fun _ _ => ⟨rfl, Nat.mod_lt _ (by positivity)⟩⟩
      · rw [if_neg awake]
        exact ⟨rfl, rfl, rfl, rfl, rfl, fun still => absurd zeroizing (by simp [still]), fun _ wakes => absurd wakes awake⟩
    · have off : s.loc.zeroizing = false := Bool.eq_false_iff.2 zeroizing
      have still : s.zeroizeRelease = s := if_pos (by simp [off])
      rw [still]
      exact ⟨off, rfl, rfl, rfl, rfl, fun _ => rfl, fun asserted => absurd asserted zeroizing⟩

end Sys2Proof.Machine

set_option autoImplicit false
namespace Sys2Proof.Machine

set_option Elab.async false

/-! ## Casket's storage commands (R298, R299, R313 to R317) -/

/-! ### What a request taken leaves of what the storage commands read -/

theorem State.executing_userUnits (s : State) (r : CapReq) (ses : Session) : (s.executing r ses).userUnits = s.userUnits := by
  have inForce : (s.executing r ses).inForce = s.inForce := s.executing_frame (p := .inForce) r ses (by decide)
  rw [State.userUnits, State.forced, inForce]
  rfl

theorem State.executing_nand (s : State) (r : CapReq) (ses : Session) : (s.executing r ses).nand = s.nand := by
  obtain ⟨-, -, -, -, -, nand, -⟩ := s.executing_fields r ses
  exact nand

theorem State.executing_misplaced (s : State) (r : CapReq) (ses : Session) (u : Nat) :
    (s.executing r ses).misplaced u = s.misplaced u := by
  have cask : (s.executing r ses).cask = s.cask := s.executing_frame (p := .cask) r ses (by decide)
  rw [State.misplaced, cask]
  rfl

/-! ### Reading -/

/-- The body of STORAGE_READ (R299). -/
def State.storageReadBody (s : State) (unit count level : Nat) : CapOut × State :=
  let us := (List.range count).map (unit + ·)
  if s.userUnits < unit + count then (capErr 5 0, s)
  else if 5 ≤ level ∧ us.any (fun u => (tget s.nand.user u).isSome) then
    (capErr 16 0, (s.bump Obj.uncorrectable).logOp 0x300B 0xFF (pack [(1, 6), (3, 0), (4, unit)]))
  else if us.any s.misplaced then (capErr 16 0, s)
  else
    let s := if 2 ≤ level then s.markRefresh us else s
    let (v, s) := s.readUnits us
    (capVal (4096 * count) v, s)

theorem State.storageRead_eq (s : State) (r : CapReq) (unit count level : Nat) :
    s.storageRead r unit count level = s.capExec r Obj.storageRead fun _ s => s.storageReadBody unit count level := rfl

/-- A unit that no discard hints at reads as it was written. -/
theorem State.readUnits_one {s : State} (u : Nat) (h : s.cask.hinted = []) : s.readUnits [u] = ((tget s.nand.user u).getD 0, s) := by
  simp [State.readUnits, State.readUnit, h]

theorem State.storageReadBody_one {s : State} {u level : Nat} (h : u + 1 ≤ s.userUnits) (low : level < 2) (hinted : s.cask.hinted = []) :
    s.storageReadBody u 1 level = (if s.misplaced u then capErr 16 0 else capVal 4096 ((tget s.nand.user u).getD 0), s) := by
  have room : ¬s.userUnits < u + 1 := by omega
  have quiet : ¬2 ≤ level := by omega
  unfold State.storageReadBody
  rw [if_neg room, if_neg fun deep => absurd deep.1 (by omega)]
  simp only [List.range_one, List.map_cons, List.map_nil, Nat.add_zero, List.any_cons, List.any_nil, Bool.or_false, if_neg quiet,
    State.readUnits_one u hinted]
  split <;> rfl

/-! ### Writing and discarding -/

/-- The body of STORAGE_WRITE (R313). -/
def State.storageWriteBody (s : State) (unit count : Nat) (data : List Nat) : CapOut × State :=
  if data.length ≠ count then (capErr 4 0, s)
  else if s.userUnits < unit + count then (capErr 5 0, s)
  else s.mediaGate fun s =>
    let put (s : State) (i : Nat) : State :=
      let s := s.unmapUnit (mapKey 6 (unit + i))
      { s with nand.user := tput s.nand.user (unit + i) (data.getD i 0 % 2 ^ 32768) }
    (capOk, ((List.range count).foldl put s).commit (4096 * count) count)

theorem State.storageWrite_eq (s : State) (r : CapReq) (unit count : Nat) (data : List Nat) :
    s.storageWrite r unit count data = s.capExec r Obj.storageWrite fun _ s => s.storageWriteBody unit count data := rfl

/-- A unit of partition 6 with new data. -/
def State.putUnit (s : State) (u d : Nat) : State :=
  { s.unmapUnit (mapKey 6 u) with nand.user := tput (s.unmapUnit (mapKey 6 u)).nand.user u d }

theorem State.putUnit_frame {p : Part} (s : State) (u d : Nat) (h : p ∉ [Part.cask, .user]) : p.of (s.putUnit u d) = p.of s := by
  simp only [Part.outside] at h
  simp only [State.putUnit, ↓Part.of_setNand, ↓State.unmapUnit_frame, Part.outside, h, not_false_eq_true, and_self, ne_eq]

theorem State.putUnit_user (s : State) (u d : Nat) :
    (s.putUnit u d).nand.user = tput (s.unmapUnit (mapKey 6 u)).nand.user u d := rfl

theorem State.commit_user (s : State) (n k : Nat) : (s.commit n k).nand.user = s.nand.user := rfl

theorem State.user_of_part {s t : State} (h : Part.of .user t = Part.of .user s) : t.nand.user = s.nand.user := h

theorem State.storageWriteBody_one {s : State} {u d : Nat} (h : u + 1 ≤ s.userUnits) (media : s.nat Obj.mediaState = 0) :
    s.storageWriteBody u 1 [d] = (capOk, (s.putUnit u (d % 2 ^ 32768)).commit 4096 1) := by
  have room : ¬s.userUnits < u + 1 := by omega
  unfold State.storageWriteBody
  rw [if_neg (fun other => other rfl), if_neg room]
  exact if_pos media

theorem State.storageWriteBody_outside {s : State} {u n : Nat} {ds : List Nat} (length : ds.length = n) (h : s.userUnits < u + n) :
    s.storageWriteBody u n ds = (capErr 5 0, s) := by
  unfold State.storageWriteBody
  rw [if_neg (by simp [length]), if_pos h]

theorem mapKey_unit {u : Nat} (h : u < 2 ^ 32) : mapKey 6 u / 2 ^ 32 = 6 ∧ mapKey 6 u % 2 ^ 32 = u := by
  unfold mapKey
  omega

/-- Unmapping a unit leaves what any other holds (R313, R314). -/
theorem State.unmapUnit_user (s : State) {u v : Nat} (h : u < 2 ^ 32) :
    tget (s.unmapUnit (mapKey 6 u)).nand.user v = if v = u then none else tget s.nand.user v := by
  obtain ⟨part, unit⟩ := mapKey_unit h
  have user : (s.unmapUnit (mapKey 6 u)).nand.user = tdel s.nand.user u := by
    unfold State.unmapUnit
    dsimp only
    rw [if_pos part, unit]
  rw [user]
  split
  · rename_i same
    rw [same, tget_tdel_self]
  · rename_i other
    exact tget_tdel_ne _ other

/-- The body of STORAGE_DISCARD (R314). -/
def State.storageDiscardBody (s : State) (unit count : Nat) : CapOut × State :=
  if s.userUnits < unit + count then (capErr 5 0, s)
  else s.mediaGate fun s =>
    let ks := (List.range count).map fun i => mapKey 6 (unit + i)
    let hint (s : State) (k : Nat) : State :=
      if (tget s.nand.user (k % 2 ^ 32)).isSome && !s.cask.hinted.contains k then { s with cask.hinted := s.cask.hinted ++ [k] } else s
    let s := if s.forced Obj.discardMode = 0 then ks.foldl State.unmapUnit s else ks.foldl hint s
    (capOk, s.commit 0 count)

theorem State.storageDiscard_eq (s : State) (r : CapReq) (unit count : Nat) :
    s.storageDiscard r unit count = s.capExec r Obj.storageDiscard fun _ s => s.storageDiscardBody unit count := rfl

theorem State.storageDiscardBody_one {s : State} {u : Nat} (h : u + 1 ≤ s.userUnits) (media : s.nat Obj.mediaState = 0)
    (mode : s.forced Obj.discardMode = 0) :
    s.storageDiscardBody u 1 = (capOk, (s.unmapUnit (mapKey 6 u)).commit 0 1) := by
  have room : ¬s.userUnits < u + 1 := by omega
  unfold State.storageDiscardBody
  rw [if_neg room]
  refine (if_pos media).trans ?_
  dsimp only
  rw [if_pos mode]
  rfl

/-! ### Formatting (R317) -/

/-- A format up to the erase of NAND: the sizes applied, the blocks erased, the buffer and the map empty. -/
def State.formatBlocks (s : State) (units : Nat) : State :=
  { s with
    cask := { s.cask with
      map := [], units := [], hinted := [], blocks := s.cask.formatted, journalSeq := s.cask.journalSeq + 1 + 1, journal := 64,
      ckpt := none, reloc := none, dirty := 0, reserveBytes := 0, logicalUnits := units } }

/-- NAND erased, with the sealed values it held gone from the catalogue. -/
def State.erase (s : State) : State :=
  { s with cat := (s.nand.sealedVals.map (·.1)).foldl (fun (c : Tab Int) (k : Nat) => tdel c k) s.cat, nand := s.nand.erased }

/-- The frames dropped that a format leaves no copy of. -/
def State.dropAll (s : State) : State :=
  s.frames.foldl (fun (s : State) (f : Frame) => s.dropFrame f.id) { s with nandProg := s.nand }

/-- A format's capacities, its first checkpoint and MediaState. -/
def State.formatEnd (s : State) (reserve q : Nat) : State :=
  let s := (s.set Obj.legalReserveFree (reserve : Nat)).setSpare
  let s := ((s.set Obj.stagedItems 0).countHeld).spread
  ((s.writeRoot q q).set Obj.mediaState 0).clearAlarm

theorem State.format_eq (s : State) : ∃ units reserve q,
    s.format = ((((s.set Obj.mediaState 3).applySizes.formatBlocks units).storeKeys.erase).dropAll).formatEnd reserve q :=
  ⟨_, _, _, rfl⟩

theorem State.dropFrame_absent (s : State) (n : Nat) : ∀ f ∈ (s.dropFrame n).frames, f ∈ s.frames ∧ f.id ≠ n := by
  unfold State.dropFrame
  cases found : s.frame n with
  | none => exact fun f hf => ⟨hf, fun same => by simpa [same] using List.find?_eq_none.1 found f hf⟩
  | some g => simp

theorem State.foldl_dropFrame (l : List Frame) (s : State) :
    ∀ f ∈ (l.foldl (fun (s : State) (f : Frame) => s.dropFrame f.id) s).frames, f ∈ s.frames ∧ ∀ g ∈ l, f.id ≠ g.id := by
  induction l generalizing s with
  | nil => exact fun f hf => ⟨hf, by simp⟩
  | cons g l ih =>
    intro f hf
    obtain ⟨kept, others⟩ := ih _ f hf
    obtain ⟨member, apart⟩ := s.dropFrame_absent g.id f kept
    exact ⟨member, by simpa [apart] using others⟩

theorem State.dropAll_frames (s : State) : s.dropAll.frames = [] :=
  List.eq_nil_iff_forall_not_mem.2 fun f hf =>
    have h := State.foldl_dropFrame _ _ f hf
    h.2 f h.1 rfl

/-- The parts that a format leaves as they stand once NAND is erased and the frames are gone. -/
theorem State.formatEnd_frame {p : Part} (s : State) (reserve q : Nat) (h : p ∉ [Part.free, .cat, .stores, .bat]) :
    p.of (s.formatEnd reserve q) = p.of s := by
  simp only [Part.outside] at h
  simp only [State.formatEnd, ↓State.clearAlarm_frame, ↓State.set_frame, ↓State.writeRoot_frame, ↓State.spread_frame,
    ↓State.countHeld_frame, ↓State.setSpare_frame, Part.outside, h, not_false_eq_true, and_self]

theorem State.dropAll_frame {p : Part} (s : State) (h : p ∉ [Part.frames, .queues, .nandProg]) : p.of s.dropAll = p.of s := by
  simp only [Part.outside] at h
  have dropped : p ∉ [Part.frames, .queues] := by simp only [Part.outside, h, not_false_eq_true, and_self]
  have kept : p.of { s with nandProg := s.nand } = p.of s := by
    simp only [↓Part.of_set, h, not_false_eq_true, ne_eq]
  exact (Part.of_foldl p _ _ _ fun s f => s.dropFrame_frame _ dropped).trans kept

/-- What NAND holds after a format: nothing but the positions of the logs and the series (R317, R319). -/
theorem State.format_nand (s : State) : ∃ n : Nand, n.logs = s.nand.logs ∧ s.format.nand = n.erased := by
  obtain ⟨units, reserve, q, run⟩ := s.format_eq
  have ended : s.format.nand =
      (((s.set Obj.mediaState 3).applySizes.formatBlocks units).storeKeys.erase).nand := by
    rw [run]
    exact State.nand_of_parts fun p hp => (State.formatEnd_frame _ _ _ (Part.apart hp)).trans (State.dropAll_frame _ (Part.apart hp))
  refine ⟨(((s.set Obj.mediaState 3).applySizes.formatBlocks units).storeKeys).nand, ?_, ended⟩
  exact congrArg Prod.fst (State.storeKeys_frame (p := .logs) _ (by decide))

theorem State.format_frames (s : State) : s.format.frames = [] := by
  obtain ⟨units, reserve, q, run⟩ := s.format_eq
  rw [run]
  exact (State.frames_of_part (State.formatEnd_frame _ _ _ (by decide))).trans (State.dropAll_frames _)

theorem State.cask_of_part {s t : State} (h : Part.of .cask t = Part.of .cask s) : t.cask = s.cask := h

theorem State.cask_erase (s : State) : Part.of .cask s.erase = Part.of .cask s := rfl

theorem State.erased_cask (s : State) (reserve q : Nat) : (s.erase.dropAll.formatEnd reserve q).cask = s.cask :=
  State.cask_of_part (((State.formatEnd_frame _ reserve q (by decide)).trans (State.dropAll_frame _ (by decide))).trans s.cask_erase)

theorem State.format_map (s : State) : s.format.cask.map = [] := by
  obtain ⟨units, reserve, q, run⟩ := s.format_eq
  rw [run]
  rw [State.erased_cask, State.cask_of_part (State.storeKeys_frame _ (by decide))]
  rfl

/-- The body of STORAGE_FORMAT (R317). -/
def State.storageFormatBody (s : State) (v : Nat) : CapOut × State :=
  boolCommand v s fun s => if s.nat Obj.sealState ≠ 1 then (capErr 7 0, s) else (capOk, s.format)

theorem State.with_parked (t : State) (h : t.parked = []) : { t with parked := [] } = t :=
  congrArg (fun l => { t with parked := l }) h.symm

/-- While no command waits, STORAGE_FORMAT is its body and its answer. -/
theorem State.storageFormat_eq {s t : State} {r : CapReq} {v : Nat}
    (run : (s.capExec r Obj.storageFormat fun _ s => s.storageFormatBody v) = t) (parked : t.parked = []) :
    s.storageFormat r v = t := by
  have whole : s.storageFormat r v =
      (t.parked.filter fun p => !t.parkedWaits p).foldl State.runParked { t with parked := t.parked.filter t.parkedWaits } :=
    congrArg (fun t : State =>
      (t.parked.filter fun p => !t.parkedWaits p).foldl State.runParked { t with parked := t.parked.filter t.parkedWaits }) run
  rw [whole, parked]
  exact State.with_parked t parked

/-! ### The battery-domain ring (R316) -/

/-- A slot of the ring noted as read. -/
def State.noteRead (s : State) (slot : Nat) : State :=
  { s with bat.ringRead := if s.bat.ringRead.contains slot then s.bat.ringRead else s.bat.ringRead ++ [slot] }

/-- The body of BATTERY_RING_READ. -/
def State.ringReadBody (s : State) (slot : Nat) : CapOut × State :=
  if 63 < slot then (capErr 5 0, s) else (capVal 64 (s.ringSlot slot), (s.noteRead slot).clearAlarm)

theorem State.ringRead_eq (s : State) (r : CapReq) (slot : Nat) :
    s.ringRead r slot = s.capExec r Obj.batteryRingRead fun _ s => s.ringReadBody slot := rfl

/-- The body of BATTERY_RING_ACK. -/
def State.ringAckBody (s : State) (v : Nat) : CapOut × State :=
  boolCommand v s fun s => (capOk, { s with bat.ringAck := true }.clearAlarm)

theorem State.ringAck_eq (s : State) (r : CapReq) (v : Nat) :
    s.ringAck r v = s.capExec r Obj.batteryRingAck fun _ s => s.ringAckBody v := rfl

/-- No alarm stands that could clear. -/
theorem State.clearAlarm_quiet {s : State} (h : s.bat.alarm = false) : s.clearAlarm = s := if_neg (by simp [h])

theorem State.noteRead_contains (s : State) (slot : Nat) : (s.noteRead slot).bat.ringRead.contains slot = true := by
  show (if s.bat.ringRead.contains slot then s.bat.ringRead else s.bat.ringRead ++ [slot]).contains slot = true
  split
  · assumption
  · simp

theorem State.bat_of_part {s t : State} (h : Part.of .bat t = Part.of .bat s) : t.bat = s.bat := h

/-- Settles O43. -/
theorem storageCommands : Obligations.StorageCommands := by
  refine ⟨fun s r ses u level admits room low hinted => ?_, fun s r ses u d admits room media => ?_,
    fun s r ses u n ds length outside => ⟨fun admits => ?_, fun admits => ?_⟩, fun s r ses u admits room small media mode => ?_,
    fun s r ses admits parked unsealed => ?_, fun s r ses admits parked closed => ?_, fun s r ses n admits small quiet => ?_,
    fun s r ses admits quiet => ?_⟩
  · have act : (s.executing r ses).storageReadBody u 1 level = _ :=
      State.storageReadBody_one (by rwa [s.executing_userUnits]) low (by rwa [State.cask_of_part (s.executing_frame r ses (by decide))])
    obtain ⟨t, run, answers⟩ := State.capExec_answers (body := fun _ s => s.storageReadBody u 1 level) admits act rfl
    rw [s.executing_misplaced, s.executing_nand r ses] at answers
    refine ⟨t, congrArg _ run, answers.nand.trans (s.executing_nand r ses), fun sound => ?_, fun misplaced => ?_⟩
    · simpa [sound] using answers.answered
    · simpa [misplaced] using answers.answered
  · have act : (s.executing r ses).storageWriteBody u 1 [d] = _ :=
      State.storageWriteBody_one (by rwa [s.executing_userUnits]) ((s.executing_nat r ses (by decide)).trans media)
    obtain ⟨t, run, answers⟩ := State.capExec_answers (body := fun _ s => s.storageWriteBody u 1 [d]) admits act
      ((State.commit_frame _ _ _ (by decide)).trans (State.putUnit_frame _ _ _ (by decide)))
    have user := State.user_of_part (answers.parts .user (by decide))
    rw [State.commit_user, State.putUnit_user] at user
    refine ⟨t, congrArg _ run, answers.answered, ?_, fun v other small => ?_⟩
    · rw [user, tget_tput_self]
    · rw [user, tget_tput_ne _ _ other, State.unmapUnit_user _ small, if_neg other, s.executing_nand r ses]
  · have act : (s.executing r ses).storageWriteBody u n ds = _ :=
      State.storageWriteBody_outside length (by rwa [s.executing_userUnits])
    obtain ⟨t, run, answers⟩ := State.capExec_answers (body := fun _ s => s.storageWriteBody u n ds) admits act rfl
    exact ⟨t, congrArg _ run, answers.answered, answers.nand.trans (s.executing_nand r ses)⟩
  · have act : (s.executing r ses).storageDiscardBody u n = (capErr 5 0, s.executing r ses) := if_pos (by rwa [s.executing_userUnits])
    obtain ⟨t, run, answers⟩ := State.capExec_answers (body := fun _ s => s.storageDiscardBody u n) admits act rfl
    exact ⟨t, congrArg _ run, answers.answered, answers.nand.trans (s.executing_nand r ses)⟩
  · have forced : (s.executing r ses).forced Obj.discardMode = 0 := by
      rw [State.forced, show (s.executing r ses).inForce = s.inForce from s.executing_frame (p := .inForce) r ses (by decide)]
      exact mode
    have act : (s.executing r ses).storageDiscardBody u 1 = _ :=
      State.storageDiscardBody_one (by rwa [s.executing_userUnits]) ((s.executing_nat r ses (by decide)).trans media) forced
    obtain ⟨t, run, answers⟩ := State.capExec_answers (body := fun _ s => s.storageDiscardBody u 1) admits act
      ((State.commit_frame _ _ _ (by decide)).trans (State.unmapUnit_frame _ _ (by decide)))
    have user := State.user_of_part (answers.parts .user (by decide))
    rw [State.commit_user] at user
    have map : t.cask.map = tdel (s.executing r ses).cask.map (mapKey 6 u) :=
      congrArg Casket.map (State.cask_of_part (answers.parts .cask (by decide)))
    refine ⟨t, congrArg _ run, answers.answered, ?_, ?_⟩
    · rw [user, State.unmapUnit_user _ small, if_pos rfl]
    · rw [map, tget_tdel_self]
  · have act : (s.executing r ses).storageFormatBody 1 = (capOk, (s.executing r ses).format) :=
      if_neg (fun other => other ((s.executing_nat r ses (by decide)).trans unsealed))
    obtain ⟨t, run, answers⟩ := State.capExec_answers (body := fun _ s => s.storageFormatBody 1) admits act
      (State.format_frame _ (by decide))
    have idle : t.parked = [] := (answers.parts .parked (by decide)).trans ((State.format_frame (p := .parked) _ (by decide)).trans
      ((s.executing_frame (p := .parked) r ses (by decide)).trans parked))
    obtain ⟨n, logs, nand⟩ := (s.executing r ses).format_nand
    have holds : t.nand = n.erased := answers.nand.trans nand
    have logs' : n.logs = s.nand.logs := logs.trans (congrArg Nand.logs (s.executing_nand r ses))
    refine ⟨t, congrArg _ (State.storageFormat_eq run idle), answers.answered, ?_, ?_, ?_, ?_, ?_, ?_⟩
    · rw [holds]; rfl
    · rw [holds]; rfl
    · rw [holds]; rfl
    · exact (congrArg Casket.map (answers.parts .cask (by decide))).trans (State.format_map _)
    · exact (answers.parts .frames (by decide)).trans (State.format_frames _)
    · rw [holds, ← logs']
      exact List.map_map
  · have act : (s.executing r ses).storageFormatBody 1 = (capErr 7 0, s.executing r ses) :=
      if_pos (fun opened => closed ((s.executing_nat r ses (by decide)).symm.trans opened))
    obtain ⟨t, run, answers⟩ := State.capExec_answers (body := fun _ s => s.storageFormatBody 1) admits act rfl
    have idle : t.parked = [] := (answers.parts .parked (by decide)).trans
      ((s.executing_frame (p := .parked) r ses (by decide)).trans parked)
    exact ⟨t, congrArg _ (State.storageFormat_eq run idle), answers.answered, answers.nand.trans (s.executing_nand r ses),
      (answers.parts .cask (by decide)).trans (s.executing_frame (p := .cask) r ses (by decide))⟩
  · have bat : (s.executing r ses).bat = s.bat := State.bat_of_part (s.executing_frame r ses (by decide))
    have act : (s.executing r ses).ringReadBody n = (capVal 64 (s.ringSlot n), (s.executing r ses).noteRead n) := by
      have slot : (s.executing r ses).ringSlot n = s.ringSlot n := by rw [State.ringSlot, bat]; rfl
      rw [State.ringReadBody, if_neg (by omega), slot,
        State.clearAlarm_quiet (show ((s.executing r ses).noteRead n).bat.alarm = false from (congrArg Battery.alarm bat).trans quiet)]
    obtain ⟨t, run, answers⟩ := State.capExec_answers (body := fun _ s => s.ringReadBody n) admits act rfl
    have bat' := State.bat_of_part (answers.parts .bat (by decide))
    refine ⟨t, congrArg _ run, answers.answered, ?_, ?_⟩
    · rw [bat']
      exact State.noteRead_contains _ n
    · rw [bat']
      exact (show _ = (s.executing r ses).bat.ring from rfl).trans (congrArg Battery.ring bat)
  · have bat : (s.executing r ses).bat = s.bat := State.bat_of_part (s.executing_frame r ses (by decide))
    have act : (s.executing r ses).ringAckBody 1 = (capOk, { s.executing r ses with bat.ringAck := true }) :=
      congrArg (Prod.mk capOk) (State.clearAlarm_quiet ((congrArg Battery.alarm bat).trans quiet))
    obtain ⟨t, run, answers⟩ := State.capExec_answers (body := fun _ s => s.ringAckBody 1) admits act rfl
    have bat' := State.bat_of_part (answers.parts .bat (by decide))
    refine ⟨t, congrArg _ run, answers.answered, ?_, ?_⟩
    · rw [bat']
    · rw [bat']
      exact (show _ = (s.executing r ses).bat.ring from rfl).trans (congrArg Battery.ring bat)

end Sys2Proof.Machine

set_option autoImplicit false
namespace Sys2Proof.Machine

set_option Elab.async false

/-! ## PAUSE frames (R279, R280) -/

theorem State.modPort_self {s : State} {p : Nat} {x : Port} (h : s.ports[p]? = some x) (f : Port → Port) :
    (s.modPort p f).ports[p]? = some (f x) := (lmod_getElem?_self _ _ _).trans (by rw [h]; rfl)

theorem State.ports_of_part {s t : State} (h : Part.of .ports t = Part.of .ports s) : t.ports = s.ports := h

theorem State.bump_port {s : State} {p : Nat} {x : Port} (k : Nat) (h : s.ports[p]? = some x) : (s.bump k).ports[p]? = some x := by
  rw [State.ports_of_part (State.bump_frame (p := .ports) s k (by decide)), h]

theorem State.bump_now (s : State) (k : Nat) : (s.bump k).now = s.now :=
  State.now_of_time (State.time_of_parts fun _ hp => State.bump_frame s k (Part.apart hp))

theorem State.modPort_cell (s : State) (p : Nat) (f : Port → Port) (k : Nat) : (s.modPort p f).cell k = s.cell k := rfl

/-- A counter counts one up on a state with a port changed as it would before. -/
theorem State.modPort_bump {s : State} {k : Nat} (p : Nat) (f : Port → Port) (room : s.nat k < 4294967295) :
    ((s.modPort p f).bump k).cell k = (s.nat k + 1 : Nat) := by
  have same : (s.modPort p f).nat k = s.nat k := State.nat_of_cell (s.modPort_cell p f k)
  rw [State.bump_cell_self _ (same ▸ room), same]

/-- A port's mode is no count of its PAUSE frames. -/
theorem State.bump_bitTimes (s : State) (p n : Nat) : (s.bump (Obj.pauseReceived p)).bitTimes p n = s.bitTimes p n := by
  have apart : Obj.portMode p ≠ Obj.pauseReceived p := by unfold Obj.portMode Obj.pauseReceived; omega
  rw [State.bitTimes, State.nat_of_cell (s.bump_cell apart)]
  rfl

/-- The state after a PAUSE frame that is honoured. -/
theorem State.pauseIn_honoured {s : State} {p quanta : Nat} {x : Port} (port : s.ports[p]? = some x) (runs : s.netRuns = true)
    (on : s.portOn p = true) (up : x.up = true) (honours : s.honours p x = true) (open_ : x.ignoreUntil = none) :
    s.pauseIn p quanta =
      let t := s.bump (Obj.pauseReceived p)
      if quanta = 0 then t.modPort p fun x => { x with pausedUntil := none, pauseFrom := none }
      else
        let now := t.now
        let fin := now + t.bitTimes p (512 * (quanta % 65536))
        let since := if (x.pausedUntil.map (Nat.blt now ·)).getD false then x.pauseFrom else some now
        t.modPort p fun x => { x with pausedUntil := some fin, pauseFrom := since } := by
  unfold State.pauseIn
  rw [port]
  exact if_neg (by simp [runs, on, up, honours, open_])

/-- A register of a port, whose key lies at a place of its own modulo 256. -/
theorem unrecorded_port {base : Nat} (p : Nat) (aligned : base % 4 ≠ 0)
    (apart : ∀ k ∈ recorderCells, k % 256 ≠ base % 256) : Unrecorded (base + 256 * p) :=
  ⟨Or.inr (by omega), fun member => apart _ member (by omega)⟩

theorem State.reached_since {s : State} {a ns : Nat} (due : a + ns ≤ s.now) : s.reached (some a) ns = true := Nat.ble_eq_true_of_le due

/-- A pause that has lasted PauseWatchdogMs is broken. -/
theorem State.pauseWatchdog_due {s : State} {p a : Nat} {x : Port} (port : s.ports[p]? = some x) (runs : s.netRuns = true)
    (since : x.pauseFrom = some a) (due : a + s.nat (Obj.pauseWatchdogMs p) * 1000000 ≤ s.now) :
    s.pauseWatchdog p =
        ((s.modPort p fun x => { x with
          pausedUntil := none, pauseFrom := none,
          ignoreUntil := some (s.now + s.nat (Obj.pauseWatchdogMs p) * 1000000) }).bump
          (Obj.pauseBroken p)).logOp 0x300C 0xFF (pack [(8, p)]) := by
  have cond : (s.netRuns && s.reached x.pauseFrom (s.nat (Obj.pauseWatchdogMs p) * 1000000)) = true := by
    rw [since, State.reached_since due, runs]; rfl
  unfold State.pauseWatchdog
  rw [port]
  dsimp only
  rw [if_pos cond]

/-- Settles O40. -/
theorem pauseFrames : Obligations.PauseFrames := by
  refine ⟨fun s p q x port runs on up honours open_ quanta unpaused room => ⟨_, rfl, ?_⟩,
    fun s p x port runs on up honours open_ => ⟨_, rfl, ?_⟩, fun s p a x port paused due => ⟨_, rfl, ?_⟩,
    fun s p a x port runs since due room => ⟨_, rfl, ?_⟩, fun s p a x port ignoring due => ⟨_, rfl, ?_⟩,
    fun s p x port runs up sent room enabled due => ⟨_, rfl, ?_⟩⟩
  · rw [State.pauseIn_honoured port runs on up honours open_]
    dsimp only
    rw [if_neg quanta, unpaused, s.bump_now, s.bump_bitTimes]
    exact ⟨State.modPort_self (State.bump_port _ port) _, State.bump_cell_self _ room⟩
  · rw [State.pauseIn_honoured port runs on up honours open_]
    exact State.modPort_self (State.bump_port _ port) _
  · have run : s.pauseExpiry p = s.modPort p fun x => { x with pausedUntil := none, pauseFrom := none } := by
      unfold State.pauseExpiry
      rw [port]
      exact if_pos (by simpa [State.reached, paused] using due)
    rw [run]
    exact ⟨State.modPort_self port _, rfl⟩
  · rw [State.pauseWatchdog_due port runs since due]
    constructor
    · rw [State.ports_of_part (State.logOp_frame _ _ _ _ (by decide))]
      exact State.bump_port _ (State.modPort_self port _)
    · exact (State.logOp_cell _ _ _ _ (unrecorded_port p (by decide) (by decide))).trans (State.modPort_bump _ _ room)
  · have run : s.pauseIgnoreEnd p = s.modPort p fun x => { x with ignoreUntil := none } := by
      unfold State.pauseIgnoreEnd
      rw [port]
      exact if_pos (by simpa [State.reached, ignoring] using due)
    rw [run]
    exact ⟨State.modPort_self port _, rfl⟩
  · have run : s.pauseAgain p = s.sendPause p 0xFFFF := by
      unfold State.pauseAgain
      rw [port]
      exact if_pos (by simp [runs, up, sent, enabled, room, due])
    rw [run]
    refine ⟨(State.modPort_self port _).trans ?_, rfl⟩
    rw [show (0xFFFF != 0) = x.xoffSent from sent.symm]
end Sys2Proof.Machine

set_option autoImplicit false
namespace Sys2Proof.Machine

set_option Elab.async false

/-! ## Guarantee windows and storms (R186 to R191) -/

theorem Window.divide_fields (w : Window) : w.divide.started = w.started ∧ w.divide.start = w.start ∧ w.divide.ms = w.ms ∧
    w.divide.cap = w.cap ∧ w.divide.taken1 = w.taken1 ∧ w.divide.taken2 = w.taken2 :=
  ⟨rfl, rfl, rfl, rfl, rfl, rfl⟩

/-- The division of a window leaves every tenant its original reservation. -/
theorem Window.divide_orig (w : Window) (k : Nat) : (w.divide.tenants[k]?).map (·.orig) = (w.tenants[k]?).map (·.orig) := by
  unfold Window.divide
  dsimp only
  rw [List.getElem?_map, Option.map_map]
  congr 1
  funext a
  simp only [Function.comp_apply]
  split <;> rfl

theorem State.openWindow_orig (s : State) (start ms a b : Nat) {k : Nat} (h : k < 8) :
    ((s.openWindow start ms a b).win.tenants[k]?).map (·.orig) =
      some (if s.enabled k then s.nat Obj.ratedIngest * ms * s.nat (Obj.ingestShareMille k) / 1000000 else 0) := by
  refine (Window.divide_orig _ k).trans ?_
  dsimp only
  rw [List.getElem?_map, List.getElem?_range h]
  rfl

/-- The records of a breach, for the operational log and its tenant's uplink. -/
def State.reportBreach (s : State) (t level payload : Nat) : State :=
  let s := { s with win.breached := (t, level) :: s.win.breached }.logOp 0x3001 t payload
  match (s.logOf 2).recs.head? with
  | some e => if s.nat Obj.mediaState = 0 then s.uplink t { ty := 5, len := 64, data := e.pack true } 0 else s
  | none => s

theorem State.breach_eq (s : State) (t displaced unit start ms entitled delivered : Nat) :
    s.breach t 5 displaced unit start ms entitled delivered =
      let s := s.bump (Obj.latencyBreaches t)
      if s.win.breached.contains (t, 5) then s
      else s.reportBreach t 5 (breachPayload t 5 displaced unit start ms entitled delivered) := rfl

/-- The report of a breach lists it, and leaves every object that a record leaves. -/
theorem State.reportBreach_keeps (s : State) (t level payload : Nat) :
    (s.reportBreach t level payload).win.breached = (t, level) :: s.win.breached ∧
      ∀ k, Unrecorded k → (s.reportBreach t level payload).cell k = s.cell k := by
  have logged : ∀ u : State, u = { s with win.breached := (t, level) :: s.win.breached }.logOp 0x3001 t payload →
      u.win.breached = (t, level) :: s.win.breached ∧ ∀ k, Unrecorded k → u.cell k = s.cell k := by
    rintro u rfl
    exact ⟨congrArg Window.breached (State.logOp_frame (p := .win) _ _ _ _ (by decide)), fun k h => State.logOp_cell _ _ _ _ h⟩
  have sent : ∀ (u : State) (r : UpRec), (u.uplink t r 0).win = u.win ∧ ∀ k, (u.uplink t r 0).cell k = u.cell k := fun u r =>
    ⟨State.uplink_frame (p := .win) u t r 0 (by decide), fun k => State.cell_of_cat (State.uplink_frame u t r 0 (by decide)) k⟩
  unfold State.reportBreach
  generalize { s with win.breached := (t, level) :: s.win.breached }.logOp 0x3001 t payload = u at logged ⊢
  obtain ⟨listed, cells⟩ := logged u rfl
  dsimp only
  split
  · split
    · obtain ⟨win, kept⟩ := sent u _
      exact ⟨(congrArg Window.breached win).trans listed, fun k h => (kept k).trans (cells k h)⟩
    · exact ⟨listed, cells⟩
  · exact ⟨listed, cells⟩

theorem unrecorded_latencyBreaches : ∀ t < 8, Unrecorded (Obj.latencyBreaches t) := by decide

/-- A breach of level 5 is counted and listed (R188). -/
theorem State.breach_latency (s : State) (t displaced unit start ms entitled delivered : Nat) (h : t < 8)
    (room : s.nat (Obj.latencyBreaches t) < 4294967295) :
    (s.breach t 5 displaced unit start ms entitled delivered).win.breached.contains (t, 5) = true ∧
      (s.breach t 5 displaced unit start ms entitled delivered).cell (Obj.latencyBreaches t) =
        (s.nat (Obj.latencyBreaches t) + 1 : Nat) := by
  have counted := s.bump_cell_self room
  rw [State.breach_eq]
  dsimp only
  generalize s.bump (Obj.latencyBreaches t) = u at counted ⊢
  split
  · exact ⟨‹_›, counted⟩
  · obtain ⟨listed, cells⟩ := u.reportBreach_keeps t 5 (breachPayload t 5 displaced unit start ms entitled delivered)
    exact ⟨by rw [listed]; simp, (cells _ (unrecorded_latencyBreaches t h)).trans counted⟩

theorem State.putStorm_storms (s : State) (x : StormKey) :
    (s.putStorm x).storms =
      if (s.stormKey x.serving x.cell).isSome then
        s.storms.map fun y => if y.serving == x.serving && y.cell == x.cell then x else y
      else s.storms ++ [x] := rfl

/-- Elements that a test accepts, all replaced by one that it accepts. -/
theorem find?_map_replace {α : Type} (l : List α) {p : α → Bool} {y : α} (accepts : p y = true) :
    (l.map fun z => if p z then y else z).find? p = (l.find? p).map fun _ => y := by
  induction l with
  | nil => rfl
  | cons z l ih =>
    by_cases taken : p z = true
    · simp [taken, accepts]
    · simp [taken, ih]

/-- The storm key put in place of another is the one found (R189). -/
theorem State.putStorm_key {s : State} {x y : StormKey} {c cell : Nat} (found : s.stormKey c cell = some x) (serving : y.serving =
    x.serving)
    (same : y.cell = x.cell) : (s.putStorm y).stormKey c cell = some y := by
  have keys := List.find?_some (p := fun x : StormKey => x.serving == c && x.cell == cell) found
  simp only [Bool.and_eq_true, beq_iff_eq] at keys
  obtain ⟨rfl, rfl⟩ := keys
  rw [State.stormKey, State.putStorm_storms, serving, same, found]
  refine (find?_map_replace s.storms (p := fun z : StormKey => z.serving == x.serving && z.cell == x.cell)
    (by simp [serving, same])).trans ?_
  rw [show s.storms.find? (fun z => z.serving == x.serving && z.cell == x.cell) = some x from found]
  rfl

theorem State.emitStorm_cell (s : State) (x : StormKey) (w : StormWin) {k : Nat} (h : Unrecorded k) :
    (s.emitStorm x w).cell k = s.cell k :=
  (State.logOp_cell _ _ _ _ h).trans (State.cell_of_cat (State.uplink_frame s _ _ 0 (by decide)) k)

theorem State.storms_of_part {s t : State} (h : Part.of .storms t = Part.of .storms s) : t.storms = s.storms := h

/-- A storm window that ends while the part serves: summaries, then the key with the kinds that stay in storm mode (R191). -/
theorem State.stormWindowEnd_run {s : State} {c cell : Nat} {x : StormKey} (key : s.stormKey c cell = some x) (serving : s.serving = true)
    (later : 1 ≤ s.now / s.stormLen) : ∃ (u : State) (y : StormKey),
      s.stormWindowEnd c cell = u.putStorm y ∧ u.storms = s.storms ∧ y.serving = x.serving ∧ y.cell = x.cell ∧
      y.outage = (x.outage && Nat.ble (s.nat Obj.stormExitCount) (x.total (s.now / s.stormLen - 1) 1)) ∧
      y.restoration = (x.restoration && Nat.ble (s.nat Obj.stormExitCount) (x.total (s.now / s.stormLen - 1) 2)) := by
  have emitted : ∀ ws : List StormWin, (ws.foldl (fun (s : State) (w : StormWin) => s.emitStorm x w) s).nat Obj.stormExitCount =
      s.nat Obj.stormExitCount := fun ws =>
    State.nat_of_cell (State.foldl_cell (fun t w => t.emitStorm_cell x w (by decide)) ws s)
  have kept : ∀ ws : List StormWin, (ws.foldl (fun (s : State) (w : StormWin) => s.emitStorm x w) s).storms = s.storms := fun ws =>
    State.storms_of_part (Part.of_foldl _ _ ws s fun t w => t.emitStorm_frame x w (by decide))
  unfold State.stormWindowEnd
  rw [key]
  dsimp only
  have runs : ¬((!s.serving) = true ∨ s.now / s.stormLen = 0) := by
    rintro (idle | first)
    · simp [serving] at idle
    · omega
  rw [if_neg runs]
  refine ⟨_, _, rfl, kept _, rfl, rfl, ?_, ?_⟩
  · rw [← emitted]
  · rw [← emitted]

/-- Settles O36. -/
theorem admissionAndStorms : Obligations.AdmissionAndStorms := by
  refine ⟨fun s a b serving first => ⟨_, rfl, ?_⟩, fun s a b serving started after before => ⟨_, rfl, ?_⟩,
    fun s k displaced due onTime up small room => ⟨_, rfl, ?_⟩, fun s c cell x key serving later => ⟨_, rfl, ?_⟩⟩
  · have run : s.guaranteeWindow a b =
        s.openWindow (s.now - s.now % Nat.max 1 (s.nat Obj.guaranteeWindowMs * 1000000)) (s.nat Obj.guaranteeWindowMs) a b := by
      unfold State.guaranteeWindow
      rw [if_neg (by simp [serving])]
      dsimp only
      rw [if_neg (by simp [first]), State.closeWindow]
      exact congrArg (fun t : State => t.openWindow _ _ a b) (if_pos (by simp [first]))
    rw [run]
    exact ⟨rfl, rfl, rfl, rfl, rfl, fun k h => s.openWindow_orig _ _ a b h⟩
  · have run : s.guaranteeWindow a b = s.takeCapacity a b := by
      unfold State.guaranteeWindow
      rw [if_neg (by simp [serving])]
      exact if_pos (by simp [started, after, before])
    rw [run]
    exact ⟨rfl, rfl, rfl⟩
  · have run : s.latencyMiss k displaced due onTime = _ := if_pos ⟨up, small⟩
    rw [run]
    exact s.breach_latency k displaced 1 _ _ due onTime small room
  · obtain ⟨u, y, run, storms, same, cell', outage, restoration⟩ := State.stormWindowEnd_run key serving later
    have found : u.stormKey c cell = some x := by rw [State.stormKey, storms]; exact key
    rw [run, State.putStorm_key found same cell', Option.map_some, outage, restoration]

end Sys2Proof.Machine

set_option autoImplicit false
namespace Sys2Proof.Machine

set_option Elab.async false

/-! ### A registry that lists an endpoint twice -/

/-- An endpoint key wrapped under generation 1 of a slot, whose key is 1. -/
def drainingBlob : Nat :=
  4263183875070756596316143208871972952678576320585446492519293804888063925118427043952692169058649033691259383186724736369822103220107956535157716749975809

/-- The record of endpoint 1 with that key in blob slot 0. -/
def blobRecord : Record := { failedRecord with bad := false, blob := some 0, kekGen := 1 }

/-- A part in service whose KEK slot 0 of tenant 0 drains, with endpoint 1 twice in the registry. -/
def listedTwiceState : State :=
  { State.reset with
    pw.rails := true, pw.stage := 0x0D, pins.porst := false, cat := [(Obj.rewrapRate, 1), (Obj.powerState, 0)],
    nand.recs := [(1, blobRecord), (1, blobRecord)], nand.blobs := [(0, drainingBlob)],
    loc.keys.keks := [(0, { cur := some (2, 2, false), prev := some (1, 1, false) })] }

theorem drainingBlob_opens : openBlob 1 1 drainingBlob = some 0 := by decide +kernel

/-- A blob of the generation that drains wrapped again (R153). -/
theorem State.rewrap_run {s : State} {tag i b key : Nat} {x : Record} {c p : Nat × Nat × Bool} (found : s.record tag = some x)
    (blob : s.blobOf x = some b) (cur : (s.kek (blobTenant b) (blobSlot b)).cur = some c)
    (prev : (s.kek (blobTenant b) (blobSlot b)).prev = some p) (up : s.up = true) (zeroizing : s.loc.zeroizing = false)
    (old : blobGen b = p.1) (rate : s.nat Obj.rewrapRate ≠ 0) (idle : s.endpointBusy tag = false) (free : s.freeBlob = some i)
    (opens : openBlob p.2.1 tag b = some key) :
    s.rewrap tag = (((s.putBlob x (sealBlob c.2.1 (blobHeader (blobKind b) c.1 (blobTenant b) (blobSlot b) (blobUsage b)) tag key)).commit
      64 1).freeOldBlobs).drain (blobTenant b) (blobSlot b) := by
  have go : ¬((!s.up) = true ∨ s.loc.zeroizing = true ∨ blobGen b ≠ p.1 ∨ s.nat Obj.rewrapRate = 0 ∨ s.endpointBusy tag = true ∨
      s.freeBlob.isNone = true) := by simp [up, zeroizing, old, rate, idle, free]
  simp only [State.rewrap, found, blob, cur, prev, if_neg go, opens]

/-- A rewrap after which the old blob slot is still in use, though no other endpoint names it. -/
theorem not_keysAndBlobs_of {s : State} {tag i j b key : Nat} {x : Record} {c p : Nat × Nat × Bool} (found : s.record tag = some x)
    (same : x.tag = tag) (slot : x.blob = some j) (held : tget s.nand.blobs j = some b)
    (cur : (s.kek (blobTenant b) (blobSlot b)).cur = some c) (prev : (s.kek (blobTenant b) (blobSlot b)).prev = some p)
    (up : s.up = true) (zeroizing : s.loc.zeroizing = false) (old : blobGen b = p.1) (rate : s.nat Obj.rewrapRate ≠ 0)
    (idle : s.endpointBusy tag = false) (free : s.freeBlob = some i) (opens : openBlob p.2.1 tag b = some key)
    (alone : (s.nand.recs.all fun e => e.1 == tag || e.2.blob != some j) = true)
    (kept : ∀ b', tget (((s.putBlob x b').commit 64 1).freeOldBlobs).nand.blobs j = some b) : ¬Obligations.KeysAndBlobs := by
  intro h
  obtain ⟨-, -, -, rewraps, -⟩ := h
  obtain ⟨t, run, -, -, freed⟩ := rewraps s tag i j b key x c p found same slot held cur prev up zeroizing old rate idle free opens
  have gone := freed alone
  have effect : s.rewrap tag = t := Host.Outcome.next.inj run
  have blob : s.blobOf x = some b := by rw [State.blobOf, slot]; exact held
  rw [State.rewrap_run found blob cur prev up zeroizing old rate idle free opens] at effect
  rw [← effect, show ∀ u : State, (u.drain (blobTenant b) (blobSlot b)).nand.blobs = u.nand.blobs from
    fun u => State.drain_frame (p := .blobs) u _ _ (by decide), kept] at gone
  exact absurd gone (by simp)

/-- Where the registry lists the endpoint twice, its other entry still names the old slot. -/
theorem listedTwiceState_kept (b : Nat) :
    tget (((listedTwiceState.putBlob blobRecord b).commit 64 1).freeOldBlobs).nand.blobs 0 = some drainingBlob := by
  have free : listedTwiceState.freeBlob = some 1 := by decide
  have put : (listedTwiceState.putBlob blobRecord b).nand.blobs = [(0, drainingBlob), (1, b)] := by
    rw [State.putBlob, free]
    rfl
  have other : (1, blobRecord) ∈ (listedTwiceState.putBlob blobRecord b).nand.recs := by
    rw [State.putBlob, free]
    exact List.mem_cons_of_mem _ (List.mem_singleton.2 rfl)
  have freed : (((listedTwiceState.putBlob blobRecord b).commit 64 1).freeOldBlobs).nand.blobs =
      [(0, drainingBlob), (1, b)].filter fun e =>
        (listedTwiceState.putBlob blobRecord b).nand.recs.any fun x => x.2.blob == some e.1 := by
    rw [← put]
    rfl
  have names : ((listedTwiceState.putBlob blobRecord b).nand.recs.any fun x => x.2.blob == some 0) = true :=
    List.any_eq_true.2 ⟨_, other, rfl⟩
  rw [freed, List.filter_cons_of_pos (by exact names)]
  rfl

/-- Refutes O37: the clause on REWRAP lets the registry list the endpoint twice, with the old blob in both entries. The rewrap changes the
first, and the old slot stays in use. -/
theorem not_keysAndBlobs : ¬Obligations.KeysAndBlobs :=
  not_keysAndBlobs_of (s := listedTwiceState) (tag := 1) (i := 1) (j := 0) (x := blobRecord) (c := (2, 2, false)) (p := (1, 1, false))
    rfl rfl rfl rfl rfl rfl (by decide) rfl (by decide) (by decide) (by decide) (by decide) drainingBlob_opens (by decide)
    listedTwiceState_kept

end Sys2Proof.Machine

set_option autoImplicit false
namespace Sys2Proof.Machine

set_option Elab.async false

/-! ### What closing the gate leaves of the gate itself (R399, R403) -/

/-- A request that ends forgets the digest kept for its item, and nothing else of the gate. -/
theorem State.endRequest_gate (s : State) (q : SwitchReq) (stage outcome : Nat) :
    (s.endRequest q stage outcome).gate = { s.gate with kept := s.gate.kept.filter fun e => e.1 != stage } := by
  unfold State.endRequest
  extract_lets src kept cleared
  have flagged : Part.of .gate cleared = { s.gate with kept := s.gate.kept.filter fun e => e.1 != stage } := by
    unfold cleared
    split
    · exact State.clearTurnFlag_frame _ _ _ (by decide)
    · rfl
  exact (State.switchOutcome_frame (p := .gate) _ _ _ (by decide)).trans flagged

theorem State.dropItem_gate (s : State) (i : Item) (outcome : Nat) :
    ∃ kept, (s.dropItem i outcome).gate = { s.gate with kept := kept } := by
  unfold State.dropItem
  extract_lets s1 tenant s2
  have logged : s2.gate = s.gate :=
    (State.logOp_frame (p := .gate) _ _ _ _ (by decide)).trans (State.unstage_frame (p := .gate) _ _ _ (by decide))
  split
  · exact ⟨_, (State.endRequest_gate _ _ _ _).trans (by rw [logged])⟩
  · exact ⟨s.gate.kept, logged⟩

theorem State.dropItems_gate (l : List Item) (s : State) (outcome : Nat) :
    ∃ kept, (l.foldl (fun u i => u.dropItem i outcome) s).gate = { s.gate with kept := kept } :=
  List.foldlRecOn (motive := fun t : State => ∃ kept, t.gate = { s.gate with kept := kept }) l _ ⟨s.gate.kept, rfl⟩
    fun t ⟨kept, ht⟩ i _ => by
      obtain ⟨rest, dropped⟩ := t.dropItem_gate i outcome
      exact ⟨rest, by rw [dropped, ht]⟩

/-- A close confirms nothing any more and forgets digests; the rest of the gate stands. -/
theorem State.closeGate_gate (s : State) (g : GateFault) :
    ∃ kept, (s.closeGate g).gate = { s.gate with kept := kept, confirmed := [] } := by
  unfold State.closeGate
  extract_lets s1 pins gate s2 items s3
  obtain ⟨kept, dropped⟩ := State.dropItems_gate items s2 4
  have raised : s2.gate = { s.gate with confirmed := [] } := State.raise_frame (p := .gate) _ _ (by decide)
  refine ⟨kept, (State.logSec_frame (p := .gate) _ _ _ _ (by decide)).trans (dropped.trans ?_)⟩
  rw [raised]

theorem State.closeGate_pins (s : State) (g : GateFault) : (s.closeGate g).pins = { s.pins with safe := true } := by
  unfold State.closeGate
  extract_lets s1 pins gate s2 items s3
  have dropped : Part.of .pins s3 = Part.of .pins s2 := Part.of_foldl .pins _ _ _ fun u i => u.dropItem_frame i 4 (by decide)
  exact (State.logSec_frame (p := .pins) _ _ _ _ (by decide)).trans (dropped.trans (State.raise_frame (p := .pins) _ _ (by decide)))

theorem State.closeGate_state (s : State) (g : GateFault) : (s.closeGate g).cell Obj.gateState = (s.closedState g.cause : Int) := by
  rw [s.closeGate_cell g (by decide) (by decide), if_neg (by decide), if_pos rfl]

theorem State.closeGate_cause (s : State) (g : GateFault) : (s.closeGate g).cell Obj.gateCloseCause = (g.cause : Int) := by
  rw [s.closeGate_cell g (by decide) (by decide), if_pos rfl]

theorem State.dangerous_gate (s : State) (g : GateFault) :
    ∃ kept, (s.dangerous g).gate = { s.gate with kept := kept, confirmed := [] } := by
  obtain ⟨kept, closed⟩ := (s.bump Obj.dangerousDetected).closeGate_gate g
  refine ⟨kept, closed.trans ?_⟩
  rw [show (s.bump Obj.dangerousDetected).gate = s.gate from State.bump_frame (p := .gate) _ _ (by decide)]

theorem State.dangerous_safe (s : State) (g : GateFault) : (s.dangerous g).pins.safe = true :=
  congrArg Pins.safe (State.closeGate_pins _ g)

/-- The gate is closed until a restart by a cause that R404 names. -/
theorem State.dangerous_hard (s : State) (g : GateFault) (hard : gateHard g.cause = true) : (s.dangerous g).cell Obj.gateState = 2 := by
  refine (State.closeGate_state _ g).trans ?_
  rw [State.closedState, hard]
  rfl

/-- By any other cause it is closed till it is opened, where it was not closed until a restart before. -/
theorem State.closedState_soft (s : State) {cause : Nat} (soft : gateHard cause = false) (opens : s.nat Obj.gateState ≠ 2) :
    s.closedState cause = 1 := by
  rw [State.closedState, soft, Bool.false_or, if_neg (by simpa using opens)]

theorem State.dangerous_soft (s : State) (g : GateFault) (soft : gateHard g.cause = false) (opens : s.nat Obj.gateState ≠ 2) :
    (s.dangerous g).cell Obj.gateState = 1 := by
  refine (State.closeGate_state _ g).trans ?_
  rw [State.closedState_soft _ soft]
  · rfl
  · rw [State.nat_of_cell (s.bump_cell (by decide))]
    exact opens

theorem State.dangerous_cause (s : State) (g : GateFault) : (s.dangerous g).cell Obj.gateCloseCause = (g.cause : Int) :=
  State.closeGate_cause _ g

theorem State.dangerous_counted (s : State) (g : GateFault) (room : s.nat Obj.dangerousDetected < 4294967295) :
    (s.dangerous g).cell Obj.dangerousDetected = (s.nat Obj.dangerousDetected + 1 : Nat) := by
  refine Eq.trans ?_ (s.bump_cell_self room)
  unfold State.dangerous
  rw [State.closeGate_cell _ g (by decide) (by decide), if_neg (by decide), if_neg (by decide)]

/-- What a fault of the hard causes leaves (R403, R404, R407). -/
theorem State.dangerous_found (s : State) (g : GateFault) (hard : gateHard g.cause = true)
    (room : s.nat Obj.dangerousDetected < 4294967295) :
    (s.dangerous g).pins.safe = true ∧ (s.dangerous g).get Obj.gateState = 2 ∧ (s.dangerous g).get Obj.gateCloseCause = (g.cause : Int) ∧
      (s.dangerous g).gate.confirmed = [] ∧ (s.dangerous g).get Obj.dangerousDetected = (s.nat Obj.dangerousDetected + 1 : Nat) := by
  obtain ⟨kept, gate⟩ := s.dangerous_gate g
  exact ⟨s.dangerous_safe g, s.dangerous_hard g hard, s.dangerous_cause g, by rw [gate], s.dangerous_counted g room⟩

theorem State.openGate_safe (s : State) : s.openGate.pins.safe = false :=
  congrArg Pins.safe (State.logSec_frame (p := .pins) _ _ _ _ (by decide))

/-- The gate opens in state 0 with no cause left (R404). -/
theorem State.openGate_states (s : State) : s.openGate.cell Obj.gateState = 0 ∧ s.openGate.cell Obj.gateCloseCause = 0 := by
  unfold State.openGate
  rw [State.logSec_cell _ _ _ _ (by decide), State.logSec_cell _ _ _ _ (by decide)]
  exact ⟨((s.set Obj.gateState 0).set_cell (j := Obj.gateCloseCause) 0 (by decide)).trans (s.set_cell_self Obj.gateState 0),
    (s.set Obj.gateState 0).set_cell_self Obj.gateCloseCause 0⟩

/-- A command whose value is 1 is carried out. -/
theorem boolCommand_one (s : State) (act : State → CapOut × State) : boolCommand 1 s act = act s := rfl

/-- Settles O50. -/
theorem ringmasterDiagnostics : Obligations.RingmasterDiagnostics := by
  refine ⟨fun s p up room => ?_, fun s p up => ?_, fun s up hour fresh => ?_, fun s r ses admits closed => ?_,
    fun s r ses a b admits closed => ?_, fun s r ses admits idle soft => ?_⟩
  · refine ⟨s.dangerous (GateFault.of 8 (p % 2)), s.dangerous (GateFault.of 10 1), s.dangerous (GateFault.of 9 (p % 2)), ?_, ?_, ?_, ?_⟩
    · exact congrArg _ (if_pos up)
    · exact congrArg _ (if_pos up)
    · exact congrArg _ ((if_neg (by simp [up])).trans (if_pos rfl))
    · rintro w c (⟨rfl, rfl⟩ | ⟨rfl, rfl⟩ | ⟨rfl, rfl⟩) <;> exact s.dangerous_found _ rfl room
  · exact congrArg _ ((if_neg (by simp [up])).trans (if_neg (by decide)))
  · have due : (s.up && s.tai % 86400 / 3600 == s.nat Obj.ringmasterTestHour && s.gate.bistDay != s.tai / 86400) = true := by
      simp [up, hour, fresh]
    obtain ⟨kept, gate⟩ := State.dangerous_gate
      { s with
        gate.bistDay := s.tai / 86400
        gate.pairOk := [true, false] }
      (GateFault.of 14 1)
    refine ⟨_, _, congrArg Host.Outcome.next (if_pos due), congrArg Host.Outcome.next (if_pos due), rfl, rfl, rfl, ?_,
        State.dangerous_hard _ _ rfl,
      State.dangerous_cause _ _, State.dangerous_safe _ _⟩
    exact congrArg Gate.pairOk gate
  · have still : (s.executing r ses).nat Obj.gateState = 1 := (s.executing_nat r ses (by decide)).trans closed
    obtain ⟨t, run, answers⟩ := State.capExec_answers
      (body := fun _ s => boolCommand 1 s fun s =>
        match s.nat Obj.gateState with
        | 0 => (capOk, s)
        | 1 =>
          let s := s.pairBist true true
          (capOk, if s.nat Obj.gateState = 1 then s.openGate else s)
        | _ => (capErr 6 0, s)) admits
      (show _ = (capOk, State.openGate { s.executing r ses with gate.pairOk := [true, true] }) by
        simp only [boolCommand_one, still]
        exact congrArg _ (if_pos still))
      (State.openGate_frame _ (by decide))
    obtain ⟨state, cause⟩ := State.openGate_states { s.executing r ses with gate.pairOk := [true, true] }
    exact ⟨t, congrArg _ run, answers.answered, (answers.cells _ (by decide)).trans state, (answers.cells _ (by decide)).trans cause,
      (congrArg Pins.safe (answers.parts .pins (by decide))).trans (State.openGate_safe _)⟩
  · obtain ⟨n, state⟩ := Nat.exists_eq_add_of_le' closed
    have still : (s.executing r ses).nat Obj.gateState = n + 2 := (s.executing_nat r ses (by decide)).trans state
    obtain ⟨t, run, answers⟩ := State.capExec_answers
      (body := fun _ s => boolCommand 1 s fun s =>
        match s.nat Obj.gateState with
        | 0 => (capOk, s)
        | 1 =>
          let s := s.pairBist a b
          (capOk, if s.nat Obj.gateState = 1 then s.openGate else s)
        | _ => (capErr 6 0, s)) admits
      (show _ = (capErr 6 0, s.executing r ses) by simp only [boolCommand_one, still]) rfl
    exact ⟨t, congrArg _ run, answers.answered, (answers.parts .pins (by decide)).trans (s.executing_fields r ses).2.1,
      (answers.cells _ (by decide)).trans (s.executing_cell r ses (by decide))⟩
  · have gate : (s.executing r ses).gate = s.gate := s.executing_frame (p := .gate) r ses (by decide)
    have still : (s.executing r ses).nat Obj.gateState = s.nat Obj.gateState := s.executing_nat r ses (by decide)
    obtain ⟨t, run, answers⟩ := State.capExec_answers
      (body := fun _ s => boolCommand 1 s fun s =>
        if s.gate.queue.any fun q => q.kind == 4 then (capErr 6 0, s)
        else if s.nat Obj.gateState = 3 then (capErr 6 0, s)
        else (capOk, s.closeGate (GateFault.of 12 0))) admits
      (show _ = (capOk, (s.executing r ses).closeGate (GateFault.of 12 0)) by
        rw [boolCommand_one, if_neg (by rw [gate, idle]; decide), if_neg (by omega)])
      (State.closeGate_frame _ _ (by decide))
    refine ⟨t, congrArg _ run, answers.answered, (answers.cells _ (by decide)).trans ((State.closeGate_state _ _).trans ?_),
      (answers.cells _ (by decide)).trans (State.closeGate_cause _ _),
      (congrArg Pins.safe (answers.parts .pins (by decide))).trans (congrArg Pins.safe (State.closeGate_pins _ _)),
      (answers.cells _ (by decide)).trans ?_⟩
    · rw [State.closedState_soft _ rfl (by omega)]
      rfl
    · refine Eq.trans ?_ (s.executing_cell r ses (k := Obj.dangerousDetected) (by decide))
      show State.cell _ _ = _
      rw [State.closeGate_cell _ _ (by decide) (by decide), if_neg (by decide), if_neg (by decide)]

end Sys2Proof.Machine

set_option autoImplicit false
namespace Sys2Proof.Machine

set_option Elab.async false

/-! ### A release leaves GateState as the catalogue holds it (R397, R399) -/

/-- A list of digests agrees with itself. -/
theorem digestMismatch_self (l : List Nat) : digestMismatch l l = none := by
  induction l with
  | nil => rfl
  | cons d l ih => rw [digestMismatch, if_pos rfl, ih]

/-- A request of a head end, of the kind that sets a limit, with its AuthTag and for an endpoint of its tenant,
    passes the checks of R397. -/
theorem State.gateChecks_limit (s : State) (q : SwitchReq) (x : Record) (origin : q.origin = 2) (kind : q.kind = 3)
    (found : s.record q.tag = some x) (tenant : x.tenant = q.tenant) : s.gateChecks q (s.authTag q) = 0 := by
  have evidence : s.gateEvidence q (s.authTag q) = 0 := by
    simp only [State.gateEvidence, origin, if_true]
  simp [State.gateChecks, origin, kind, kindsOf, evidence, found, tenant]

theorem State.stage_cell (s : State) (i : Item) {k : Nat} (h : k ≠ Obj.stagedItems) : (s.stage i).2.cell k = s.cell k :=
  (State.cell_of_cat (State.commit_frame _ _ _ (by decide)) k).trans (State.countItems_cell _ i.tag h)

theorem State.releaseItem_cell (s : State) (q : SwitchReq) (digest : Nat) {k : Nat} (h : Unrecorded k) (staged : k ≠ Obj.stagedItems) :
    (s.releaseItem q digest).cell k = s.cell k := by
  unfold State.releaseItem
  extract_lets against s1
  have dropped : s1.cell k = s.cell k := State.foldl_cell (fun u i => u.dropItem_cell i 4 h staged) _ _
  split
  · exact (State.endRequest_cell _ _ _ _ _).trans dropped
  · exact (s1.stage_cell (gateItem q) staged).trans dropped

/-- A request at the head of the queue that passes its checks is released. -/
theorem State.gateRequest_released (s : State) (q : SwitchReq) (x : Record) (auth : Nat) (d : List Nat)
    (running : (s.up && s.pw.cause == 0) = true) (queue : s.gate.queue = [q]) (found : s.record q.tag = some x) (good : x.bad = false)
    (live : x.live = true) (opened : s.nat Obj.gateState = 0) (early : s.billSec < q.expiry) (passes : s.gateChecks q auth = 0)
    (agree : digestMismatch (s.gateDigests q) d = none) :
    s.gateRequest q.seq auth d = State.gateRelease { s with gate.queue := [] } q ((s.gateDigests q).headD 0) := by
  have there : s.targetGone q = false := by simp [State.targetGone, found, live]
  have trusted : (s.record q.tag).filter (·.bad) = none := by simp [found, good]
  unfold State.gateRequest
  rw [if_neg (by simp [running]), queue]
  simp only [ne_eq, not_true_eq_false, if_false, trusted]
  show State.gateTake { s with gate.queue := [] } q auth d = _
  unfold State.gateTake
  rw [if_neg (show ¬State.nat { s with gate.queue := [] } Obj.gateState ≠ 0 from fun other => other opened),
    if_neg (show ¬q.expiry ≤ State.billSec { s with gate.queue := [] } from Nat.not_le.mpr early),
    if_neg (show ¬State.targetGone { s with gate.queue := [] } q = true from fun gone => Bool.false_ne_true (there.symm.trans gone))]
  rw [show State.gateChecks { s with gate.queue := [] } q auth = 0 from passes]
  show (match digestMismatch (State.gateDigests { s with gate.queue := [] } q) d with
    | none => _
    | some (e, p) => _) = _
  rw [show digestMismatch (State.gateDigests { s with gate.queue := [] } q) d = none from agree]
  rfl

/-- The release of one endpoint's request leaves GateState as it was. -/
theorem State.gateRelease_state (s : State) (q : SwitchReq) (digest : Nat) (single : q.kind ≠ 4) :
    (s.gateRelease q digest).cell Obj.gateState = s.cell Obj.gateState := by
  unfold State.gateRelease
  rw [if_neg single]
  exact (State.releaseItem_cell _ q digest (by decide) (by decide)).trans (s.bump_cell (by decide))

/-! ### A part whose catalogue holds GateState −1 -/

/-- A head end's request to limit that endpoint. -/
def limitRequest : SwitchReq :=
  { seq := 1, origin := 2, kind := 3, tenant := 0, tag := 1, flags := 0, notBefore := 0, expiry := 1, limitW := 1, durationS := 0,
    cellMask := 0, reference := 0, formed := 0 }

/-- The record of the endpoint. -/
def limitedRecord : Record := { failedRecord with bad := false }

/-- A part that runs, the request at the gate, its GateState below 0 in the catalogue: `State.nat` reads it as 0. -/
def belowZeroState : State :=
  { State.reset with pw.rails := true, pw.stage := 0x0D, pins.porst := false, gate.queue := [limitRequest],
                     cat := [(Obj.powerState, 0), (Obj.gateState, -1)], nand.recs := [(1, limitedRecord)] }

/-- Refutes O49: the first clause takes the gate for open where `State.nat` reads GateState as 0, and concludes that `State.get` does. The
model's catalogue holds integers, and an object below 0 reads as 0 too: a release leaves it below 0. -/
theorem not_commandGate : ¬Obligations.CommandGate := by
  rintro ⟨releases, -⟩
  have passes : belowZeroState.gateChecks limitRequest (belowZeroState.authTag limitRequest) = 0 :=
    belowZeroState.gateChecks_limit limitRequest limitedRecord rfl rfl (by decide) rfl
  have agree : digestMismatch (belowZeroState.gateDigests limitRequest) (belowZeroState.gateDigests limitRequest) = none :=
    digestMismatch_self _
  obtain ⟨t, run, -, opened, -⟩ := releases belowZeroState limitRequest [] limitedRecord (belowZeroState.authTag limitRequest)
    (belowZeroState.gateDigests limitRequest) (by decide) rfl rfl (by decide) rfl (by decide) (by decide) (by decide) passes agree
    (by decide) (by decide) (by decide) (by decide)
  have released := belowZeroState.gateRequest_released limitRequest limitedRecord (belowZeroState.authTag limitRequest)
    (belowZeroState.gateDigests limitRequest) (by decide) rfl (by decide) rfl (by decide) (by decide) (by decide) passes agree
  have same : State.gateRelease { belowZeroState with gate.queue := [] } limitRequest
      ((belowZeroState.gateDigests limitRequest).headD 0) = t := released.symm.trans (Host.Outcome.next.inj run)
  have kept := State.gateRelease_state { belowZeroState with gate.queue := [] } limitRequest
    ((belowZeroState.gateDigests limitRequest).headD 0) (by decide)
  rw [same] at kept
  exact absurd (kept.symm.trans opened) (by decide)

end Sys2Proof.Machine

set_option autoImplicit false
namespace Sys2Proof.Machine

set_option Elab.async false

/-! ### The engine clock and the governor (R429 to R433) -/

theorem State.clockChange_cell (s : State) {k : Nat} (h : k ≠ Obj.engineClockMHz) : s.clockChange.cell k = s.cell k := s.set_cell _ h

theorem State.governorRecord_cell (s : State) (kind : Nat) {k : Nat} (h : Unrecorded k) : (s.governorRecord kind).cell k = s.cell k :=
  s.logDiag_cell _ _ _ h

theorem State.thermalLimit_cell (s : State) {k : Nat} (h : Unrecorded k) (alarm : k ≠ Obj.thermalAlarm) :
    s.thermalLimit.cell k = s.cell k := by
  unfold State.thermalLimit
  split
  · exact (State.noticeAll_cell _ _ _ _ _).trans ((State.governorRecord_cell _ _ h).trans (s.set_cell _ alarm))
  · rfl

/-- A change of GovernorSteps is counted (R431). -/
theorem State.setSteps_cells (s : State) {n : Nat} (moves : n ≠ s.nat Obj.governorSteps) (room : s.nat Obj.governorEvents < 4294967295) :
    (s.setSteps n).cell Obj.governorSteps = (n : Int) ∧ (s.setSteps n).cell Obj.governorEvents = (s.nat Obj.governorEvents + 1 : Nat) :=
        by
  have same : ((s.set Obj.governorSteps n).clockChange).cell Obj.governorEvents = s.cell Obj.governorEvents :=
    (State.clockChange_cell _ (by decide)).trans (s.set_cell _ (by decide))
  have events := State.nat_of_cell same
  unfold State.setSteps
  rw [if_neg moves, State.governorRecord_cell _ _ (by decide), State.governorRecord_cell _ _ (by decide)]
  refine ⟨(State.bump_cell _ (by decide)).trans ((State.clockChange_cell _ (by decide)).trans (State.set_cell_self _ _ _)), ?_⟩
  rw [State.bump_cell_self _ (by rw [events]; exact room), events]

/-! ### A measurement of the ageing monitors (R435 to R438) -/

theorem State.projectLife_cell (s : State) {k : Nat} (h : k ≠ Obj.projectedLifeH) : s.projectLife.cell k = s.cell k := by
  have drawn : ∀ d num den, (s.hoursAt d num den).2.cell k = s.cell k :=
    fun d num den => State.cell_of_cat (State.hoursAt_frame s d num den (by decide)) k
  unfold State.projectLife
  split
  · exact s.set_cell _ h
  · split
    · exact s.set_cell _ h
    · extract_lets
      split
      · exact s.set_cell _ h
      · exact (State.set_cell _ _ h).trans (drawn _ _ _)

theorem State.ageing_cell (s : State) (cause : Nat) {k : Nat} (h : Unrecorded k) : (s.ageing cause).cell k = s.cell k :=
  s.logDiag_cell _ _ _ h

/-- The objects that a measurement writes once its margins stand. -/
abbrev ageingCells : List Nat :=
  [Obj.vddSetpointMv, Obj.patinaCeilingMHz, Obj.endOfLife, Obj.projectedLifeH, Obj.engineClockMHz]

theorem State.patinaAct_cell (s : State) (w wEng : Int) {k : Nat} (h : Unrecorded k) (apart : k ∉ ageingCells) :
    (s.patinaAct w wEng).cell k = s.cell k := by
  have ne (j : Nat) (hj : j ∈ ageingCells) : k ≠ j := fun e => apart (e ▸ hj)
  have lived (u : State) : u.projectLife.cell k = u.cell k := u.projectLife_cell (ne _ (by decide))
  have paired (u : State) (j : Nat) (v : Int) (hj : j ∈ ageingCells) : (u.setPaired j v).cell k = u.cell k :=
    u.setPaired_cell_ne j v (ne j hj) (h.ne _)
  unfold State.patinaAct
  extract_lets
  split
  · refine (State.ageing_cell _ _ h).trans ((lived _).trans ?_)
    exact (State.cell_of_cat (State.requestVdd_frame _ (by decide)) k).trans (paired _ Obj.vddSetpointMv _ (by decide))
  · split
    · refine (State.ageing_cell _ _ h).trans ((lived _).trans ?_)
      exact (State.clockChange_cell _ (ne _ (by decide))).trans (paired _ Obj.patinaCeilingMHz _ (by decide))
    · split
      · refine (State.noticeAll_cell _ _ _ _ _).trans ((State.ageing_cell _ _ h).trans ((lived _).trans ?_))
        exact paired _ Obj.endOfLife _ (by decide)
      · exact lived _

/-- A margin short of its target raises the setpoint and asks for a measurement to follow (R436). -/
theorem State.patinaAct_raises (s : State) {w : Int} (wEng : Int) (room : s.nat Obj.vddSetpointMv < 880)
    (short : w < s.get Obj.marginTargetPermille) :
    (s.patinaAct w wEng).cell Obj.vddSetpointMv = (s.nat Obj.vddSetpointMv + 5 : Nat) ∧ (s.patinaAct w wEng).pat.waiting = true := by
  unfold State.patinaAct
  rw [if_pos ⟨short, room⟩]
  refine ⟨?_, ?_⟩
  · rw [State.ageing_cell _ _ (by decide), State.projectLife_cell _ (by decide), State.cell_of_cat (State.requestVdd_frame _ (by decide)),
      State.setPaired_cell_self _ _ _ (by decide)]
  · refine congrArg Patina.waiting ((State.ageing_frame (p := .pat) _ _ (by decide)).trans ((State.projectLife_frame (p := .pat) _ (by
      decide)).trans ((State.requestVdd_frame (p := .pat) _ (by decide)).trans (State.setPaired_frame (p := .pat) _ _ _ (by decide)))))

/-- A margin at its target ends the sequence of measurements, and the setpoint stands. -/
theorem State.patinaAct_settles (s : State) {w : Int} (wEng : Int) (room : s.nat Obj.vddSetpointMv < 880)
    (enough : s.get Obj.marginTargetPermille ≤ w) :
    (s.patinaAct w wEng).cell Obj.vddSetpointMv = s.cell Obj.vddSetpointMv ∧ (s.patinaAct w wEng).pat.waiting = false := by
  have under : s.nat Obj.vddSetpointMv ≠ 880 := Nat.ne_of_lt room
  unfold State.patinaAct
  rw [if_neg fun raise => absurd raise.1 (Int.not_lt.mpr enough), if_neg fun lower => under lower.1, if_neg fun ended => under ended.1]
  exact ⟨State.projectLife_cell _ (by decide), congrArg Patina.waiting (State.projectLife_frame (p := .pat) _ (by decide))⟩

/-- The margins of a measurement, in the catalogue. -/
def State.margins (s : State) (l : List Int) : State :=
  (((List.range 24).foldl (fun (s : State) (i : Nat) => s.set (Obj.monitorMarginPermille i) (l.getD i 0)) s).set Obj.worstMarginPermille
    (lowest l).1).set Obj.worstMonitor (lowest l).2

theorem State.margins_cell (s : State) (l : List Int) {k : Nat} (h : ∀ i, k ≠ Obj.monitorMarginPermille i)
    (apart : k ≠ Obj.worstMarginPermille ∧ k ≠ Obj.worstMonitor) : (s.margins l).cell k = s.cell k := by
  unfold State.margins
  rw [State.set_cell _ _ apart.2, State.set_cell _ _ apart.1]
  exact State.foldl_cell (fun u i => u.set_cell _ (h i)) _ _

theorem vddSetpointMv_ne_monitor (i : Nat) : Obj.vddSetpointMv ≠ Obj.monitorMarginPermille i := by
  simp only [Obj.vddSetpointMv, Obj.monitorMarginPermille]
  omega

theorem marginTarget_ne_monitor (i : Nat) : Obj.marginTargetPermille ≠ Obj.monitorMarginPermille i := by
  simp only [Obj.marginTargetPermille, Obj.monitorMarginPermille]
  omega

/-- What a measurement is acted on. -/
def State.measured (s : State) (l : List Int) : State := { s.margins l with pat.wEng := (lowest (l.take 12)).1 }

theorem State.measured_cell (s : State) (l : List Int) (k : Nat) : (s.measured l).cell k = (s.margins l).cell k := rfl

/-- A measurement of all monitors enters its margins and acts on them. -/
theorem State.patinaStep_eq (s : State) {l : List Int} (all : l.length = 24) :
    s.patinaStep l = (s.measured l).patinaAct (lowest l).1 (lowest (l.take 12)).1 := if_neg fun other => other all

theorem State.measured_setpoint (s : State) (l : List Int) : (s.measured l).cell Obj.vddSetpointMv = s.cell Obj.vddSetpointMv :=
  (s.measured_cell l _).trans (s.margins_cell l vddSetpointMv_ne_monitor (by decide))

theorem State.measured_target (s : State) (l : List Int) :
    (s.measured l).cell Obj.marginTargetPermille = s.cell Obj.marginTargetPermille :=
  (s.measured_cell l _).trans (s.margins_cell l marginTarget_ne_monitor (by decide))

/-- A measurement shows its worst margin and the monitor that has it. -/
theorem State.patinaStep_worst (s : State) {l : List Int} (all : l.length = 24) :
    (s.patinaStep l).cell Obj.worstMarginPermille = (lowest l).1 ∧ (s.patinaStep l).cell Obj.worstMonitor = ((lowest l).2 : Int) := by
  rw [s.patinaStep_eq all, State.patinaAct_cell _ _ _ (by decide) (by decide), State.patinaAct_cell _ _ _ (by decide) (by decide),
    State.measured_cell, State.measured_cell, State.margins]
  exact ⟨(State.set_cell _ _ (by decide)).trans (State.set_cell_self _ _ _), State.set_cell_self _ _ _⟩

theorem State.patinaStep_raises (s : State) {l : List Int} (all : l.length = 24) (room : s.nat Obj.vddSetpointMv < 880)
    (short : (lowest l).1 < s.get Obj.marginTargetPermille) :
    (s.patinaStep l).cell Obj.vddSetpointMv = (s.nat Obj.vddSetpointMv + 5 : Nat) ∧ (s.patinaStep l).pat.waiting = true := by
  have setpoint := State.nat_of_cell (s.measured_setpoint l)
  rw [s.patinaStep_eq all, ← setpoint]
  refine State.patinaAct_raises _ _ (by rw [setpoint]; exact room) ?_
  rw [State.get_eq_cell, s.measured_target l]
  exact short

theorem State.patinaStep_settles (s : State) {l : List Int} (all : l.length = 24) (room : s.nat Obj.vddSetpointMv < 880)
    (enough : s.get Obj.marginTargetPermille ≤ (lowest l).1) :
    (s.patinaStep l).cell Obj.vddSetpointMv = s.cell Obj.vddSetpointMv ∧ (s.patinaStep l).pat.waiting = false := by
  have setpoint := State.nat_of_cell (s.measured_setpoint l)
  rw [s.patinaStep_eq all, ← s.measured_setpoint l]
  refine State.patinaAct_settles _ _ (by rw [setpoint]; exact room) ?_
  rw [State.get_eq_cell, s.measured_target l]
  exact enough

/-! ### The ends of tests (R408, R441) -/

/-- A Juggler taken out of service is under test (R408). -/
theorem State.engineOut_engine (s : State) {e : Nat} (there : e < s.gate.engines.length) : (s.engineOut e).gate.engines[e]? = some 1 := by
  unfold State.engineOut
  extract_lets src engines s1 s2
  have tested : s2.gate.engines = s.gate.engines.set e 1 := by
    unfold s2
    split <;> rfl
  rw [show ((s2.bump Obj.engineFaults).logDiagFree 7 e).gate = s2.gate from
    (State.logDiagFree_frame (p := .gate) _ _ _ (by decide)).trans (State.bump_frame (p := .gate) _ _ (by decide)), tested]
  simp [there]

/-- The catalogue when an engine's fault is counted. -/
theorem State.engineOut_counts (s : State) (e : Nat) :
    ∃ u : State, u.cat = s.cat ∧ s.engineOut e = (u.bump Obj.engineFaults).logDiagFree 7 e := by
  unfold State.engineOut
  extract_lets src engines s1 s2
  refine ⟨s2, ?_, rfl⟩
  unfold s2
  split <;> rfl

theorem State.engineOut_cell (s : State) (e : Nat) {k : Nat} (h : Unrecorded k) (counter : k ≠ Obj.engineFaults) :
    (s.engineOut e).cell k = s.cell k := by
  obtain ⟨u, same, out⟩ := s.engineOut_counts e
  rw [out, State.logDiagFree_cell _ _ _ h, State.bump_cell _ counter]
  exact State.cell_of_cat same k

theorem State.engineOut_counted (s : State) (e : Nat) (room : s.nat Obj.engineFaults < 4294967295) :
    (s.engineOut e).cell Obj.engineFaults = (s.nat Obj.engineFaults + 1 : Nat) := by
  obtain ⟨u, same, out⟩ := s.engineOut_counts e
  have counts : u.nat Obj.engineFaults = s.nat Obj.engineFaults := State.nat_of_cell (State.cell_of_cat same _)
  rw [out, State.logDiagFree_cell _ _ _ (by decide), State.bump_cell_self _ (by rw [counts]; exact room), counts]

/-- The end of a test shows its result (R441). -/
theorem State.bistEnd_result (s : State) (t result set_ : Nat) (sig : List Nat) :
    (s.bistEnd t result set_ sig).cell Obj.bistResult = (bistPayload t result s.pat.origin set_ sig : Int) := by
  unfold State.bistEnd
  extract_lets p src s1 s2
  have shown : s2.cell Obj.bistResult = (p : Int) :=
    (State.logDiag_cell _ _ _ _ (by decide)).trans (State.set_cell_self _ _ _)
  split
  · exact (State.bump_cell _ (by decide)).trans shown
  · exact shown

/-- A test that failed is counted. -/
theorem State.bistEnd_counted (s : State) (t set_ : Nat) (sig : List Nat) (room : s.nat Obj.bistFailures < 4294967295) :
    (s.bistEnd t 1 set_ sig).cell Obj.bistFailures = (s.nat Obj.bistFailures + 1 : Nat) := by
  unfold State.bistEnd
  extract_lets p src s1 s2
  have same : s2.cell Obj.bistFailures = s.cell Obj.bistFailures :=
    (State.logDiag_cell _ _ _ _ (by decide)).trans (State.set_cell _ _ (by decide))
  have counts := State.nat_of_cell same
  rw [if_pos rfl, State.bump_cell_self _ (by rw [counts]; exact room), counts]

/-- The end of a test leaves no target, and the engines and the counts of failures in a row as they were. -/
theorem State.bistEnd_kept (s : State) (t result set_ : Nat) (sig : List Nat) :
    (s.bistEnd t result set_ sig).gate = s.gate ∧
      (s.bistEnd t result set_ sig).pat = { s.pat with
        target := none
        slices := 0
        failing := none } := by
  refine ⟨State.bistEnd_frame (p := .gate) _ _ _ _ _ (by decide), ?_⟩
  unfold State.bistEnd
  extract_lets p src s1 s2
  have kept : s2.pat = { s.pat with
      target := none
      slices := 0
      failing := none } := (State.logDiag_frame (p := .pat) _ _ _ _ (by decide)).trans (State.set_frame (p := .pat) _ _ _ (by decide))
  split
  · exact (State.bump_frame (p := .pat) _ _ (by decide)).trans kept
  · exact kept

/-- The end of the test of a Juggler that is not retired. -/
theorem State.tested_juggler (s : State) {e : Nat} (juggler : e ≤ 0x13) (served : s.gate.engines[e]? = some 0) (result : Nat) :
    s.tested e result = s.jugglerTested e result := by
  unfold State.tested
  rw [if_pos juggler, served]
  exact if_neg (by decide)

/-- A sample shows the hottest sensor, keeps the peak and sets the hot ceiling with its hysteresis (R429, R430). -/
theorem State.temperature_effect (s : State) {x : List Int} (go : (!(s.awake && x.length == 8)) = false) :
    (s.temperature x).cell Obj.junctionTempDeciC = hottest x ∧
      (s.temperature x).pat = { s.pat with
        hot := if 1100 < hottest x then true else if hottest x < 1070 then false else s.pat.hot
        peak := max s.pat.peak (hottest x)
        coolSince := if s.get Obj.junctionMaxDeciC - 50 < hottest x then none else some (s.pat.coolSince.getD s.now)
        trip := s.pat.trip ||
          (decide (s.get Obj.governorTripDeciC ≤ hottest x) && decide (s.get Obj.junctionTempDeciC < s.get Obj.governorTripDeciC)) } := by
  unfold State.temperature
  rw [go]
  refine ⟨?_, ?_⟩
  · exact (State.thermalLimit_cell _ (by decide) (by decide)).trans
      ((State.clockChange_cell _ (by decide)).trans (State.set_cell_self _ _ _))
  · exact (State.thermalLimit_frame (p := .pat) _ (by decide)).trans
      ((State.clockChange_frame (p := .pat) _ (by decide)).trans (State.set_frame (p := .pat) _ _ _ (by decide)))

/-- An index that the list of engines has. -/
theorem engine_there {l : List Nat} {e v : Nat} (h : l[e]? = some v) : e < l.length := (List.getElem?_eq_some_iff.mp h).1

/-- The result of a test by its slices (R441): the pattern set of the first slice that failed, where one did. -/
theorem State.bistComplete_sliced (s : State) {e : Nat} (set_ : Nat) (sig : List Nat) (target : s.pat.target = some e)
    (awake : s.awake = true) (small : e < 20) (served : s.gate.engines[e]? = some 0) (whole : s.pat.slices = 65) :
    s.bistComplete 0 set_ sig = match s.pat.failing with
      | none => (s.bistEnd e 0 0xFF sig).tested e 0
      | some n => (s.bistEnd e 1 n sig).tested e 1 := by
  have sliced : (Nat.ble e 0x13 && (s.gate.engines[e]?).getD 0 == 0) = true := by
    simp only [served, Option.getD_some, beq_self_eq_true, Bool.and_true]
    exact Nat.ble_eq.mpr (Nat.lt_succ_iff.mp small)
  have go : (!(s.awake && Nat.ble 0 2) || (true && (0 : Nat) != 2 && s.pat.slices != 65)) = false := by
    rw [awake, whole]
    rfl
  unfold State.bistComplete
  simp only [target, sliced, go, Bool.false_eq_true, if_false]
  cases s.pat.failing with
  | none => rfl
  | some n => rfl

/-- A test none of whose slices failed returns the engine to service (R441). -/
theorem State.bistComplete_passed (s : State) {e : Nat} (set_ : Nat) (sig : List Nat) (target : s.pat.target = some e) (awake : s.awake =
    true) (small : e < 20)
    (served : s.gate.engines[e]? = some 0) (whole : s.pat.slices = 65) (passed : s.pat.failing = none) :
    ∃ t, exec (.bistComplete 0 set_ sig) s = .next t ∧ t.pat.target = none ∧ t.gate.engines[e]? = some 0 ∧
      t.get Obj.bistResult = (bistPayload e 0 s.pat.origin 0xFF sig : Int) := by
  obtain ⟨gate, pat⟩ := s.bistEnd_kept e 0 0xFF sig
  have run : s.bistComplete 0 set_ sig = (s.bistEnd e 0 0xFF sig).jugglerTested e 0 := by
    rw [s.bistComplete_sliced set_ sig target awake small served whole, passed]
    exact State.tested_juggler _ (Nat.lt_succ_iff.mp small) (by rw [gate]; exact served) 0
  have result := s.bistEnd_result e 0 0xFF sig
  generalize s.bistEnd e 0 0xFF sig = u at gate pat run result
  refine ⟨_, congrArg Host.Outcome.next run, by rw [State.jugglerTested, pat], ?_, result⟩
  rw [State.jugglerTested, gate]
  simp [engine_there served]

/-- The first failure of an engine takes it out of service (R408, R441). -/
theorem State.bistComplete_failed (s : State) {e n : Nat} (set_ : Nat) (sig : List Nat) (target : s.pat.target = some e) (awake : s.awake
    = true) (small : e < 20)
    (served : s.gate.engines[e]? = some 0) (whole : s.pat.slices = 65) (failed : s.pat.failing = some n)
    (first : (s.pat.failures[e]?).getD 0 = 0) (room : s.nat Obj.bistFailures < 4294967295) :
    ∃ t, exec (.bistComplete 0 set_ sig) s = .next t ∧ t.gate.engines[e]? = some 1 ∧
      t.get Obj.bistResult = (bistPayload e 1 s.pat.origin n sig : Int) ∧
      t.get Obj.bistFailures = (s.nat Obj.bistFailures + 1 : Nat) := by
  obtain ⟨gate, pat⟩ := s.bistEnd_kept e 1 n sig
  have run : s.bistComplete 0 set_ sig = (s.bistEnd e 1 n sig).jugglerTested e 1 := by
    rw [s.bistComplete_sliced set_ sig target awake small served whole, failed]
    exact State.tested_juggler _ (Nat.lt_succ_iff.mp small) (by rw [gate]; exact served) 1
  have result := s.bistEnd_result e 1 n sig
  have counted := s.bistEnd_counted e n sig room
  generalize s.bistEnd e 1 n sig = u at gate pat run result counted
  have out : u.jugglerTested e 1 = State.engineOut { u with pat.failures := s.pat.failures.set e 1 } e := by
    simp only [State.jugglerTested, pat, first]
    rw [if_pos (by decide)]
  refine ⟨_, congrArg Host.Outcome.next (run.trans out), ?_, ?_, ?_⟩
  · refine State.engineOut_engine _ ?_
    show e < u.gate.engines.length
    rw [gate]
    exact engine_there served
  · exact (State.engineOut_cell _ e (by decide) (by decide)).trans result
  · exact (State.engineOut_cell _ e (by decide) (by decide)).trans counted

/-- An evaluation at the trip lowers the clock by a step while it stands above the floor (R431). -/
theorem State.governor_stepsDown (s : State) (up : s.up = true) (none_ : s.pw.cause = 0) (due : s.elapsedS s.pat.evalAt (s.nat
    Obj.governorStepS) = true)
    (hot : s.get Obj.governorTripDeciC ≤ s.get Obj.junctionTempDeciC) (above : s.nat Obj.engineClockMHz ≠ s.nat Obj.governorFloorMHz)
    (room : s.nat Obj.governorEvents < 4294967295) :
    ∃ t, exec .governorEvaluation s = .next t ∧ t.get Obj.governorSteps = (s.nat Obj.governorSteps + 1 : Nat) ∧
      t.get Obj.governorEvents = (s.nat Obj.governorEvents + 1 : Nat) ∧ t.pat.evalAt = s.now := by
  have go : (!(s.up && s.pw.cause == 0 && (s.pat.trip || s.elapsedS s.pat.evalAt (s.nat Obj.governorStepS)))) = false := by
    simp [up, none_, due]
  have run : s.governor = (State.setSteps { s with
      pat.trip := false
      pat.evalAt := s.now
      pat.peak := s.get Obj.junctionTempDeciC } (s.nat Obj.governorSteps + 1)).thermalLimit := by
    unfold State.governor
    rw [go]
    exact congrArg State.thermalLimit ((if_pos hot).trans (if_neg above))
  obtain ⟨steps, events⟩ := State.setSteps_cells { s with
      pat.trip := false
      pat.evalAt := s.now
      pat.peak := s.get Obj.junctionTempDeciC } (Nat.succ_ne_self (s.nat Obj.governorSteps)) room
  refine ⟨_, congrArg Host.Outcome.next run, (State.thermalLimit_cell _ (by decide) (by decide)).trans steps,
    (State.thermalLimit_cell _ (by decide) (by decide)).trans events, ?_⟩
  exact congrArg Patina.evalAt ((State.thermalLimit_frame (p := .pat) _ (by decide)).trans (State.setSteps_frame (p := .pat) _ _ (by
    decide)))

/-- Settles O51. -/
theorem testsAgeingAndHeat : Obligations.TestsAgeingAndHeat := by
  refine ⟨?_, ?_, ?_, ?_, ?_, ?_, ?_, ?_, ?_, ?_, ?_, ?_, ?_⟩
  · intro s e awake small served room
    refine ⟨s.engineOut e, congrArg _ (if_pos ?_), s.engineOut_engine (engine_there served), s.engineOut_counted e room⟩
    simp [awake, small, served]
  · intro s e up none_ idle due next
    have go : (!(s.up && s.pw.cause == 0 && s.pat.target.isNone && s.elapsedS s.pat.rotatedAt 600)) = false := by
      simp [up, none_, idle, due]
    refine ⟨_, rfl, ?_⟩
    simp only [State.rotationTest, go, next]
    exact ⟨rfl, rfl, rfl, rfl, rfl, rfl⟩
  · intro s e ok target up none_ juggler few apart
    have go : (!(s.up && s.pw.cause == 0 && Nat.ble e 0x13 && Nat.blt s.pat.slices 65 &&
        (s.pat.slices == 0 || Nat.ble (s.pat.sliceAt + 10000000) s.now))) = false := by
      simp [up, none_, juggler, few]
      exact fun other => apart.resolve_left other
    refine ⟨_, rfl, ?_⟩
    unfold State.bistSlice
    rw [target]
    dsimp only
    rw [go]
    split
    · contradiction
    · split <;> exact ⟨rfl, rfl, rfl⟩
  · intro s r ses n admits target free may
    have pat : (s.executing r ses).pat = s.pat := s.executing_frame (p := .pat) r ses (by decide)
    have gate : (s.executing r ses).gate = s.gate := s.executing_frame (p := .gate) r ses (by decide)
    have mem : (s.executing r ses).mem = s.mem := by simp only [s.executing_fields r ses]
    have busy : (s.executing r ses).bistBusy n = false := by rw [← free, State.bistBusy, State.bistBusy, pat, gate]
    have able : (s.executing r ses).bistMay n = true := by
      rw [← may, State.bistMay, State.bistMay, gate, State.bank, State.bank, mem, s.executing_nat r ses (by decide)]
    obtain ⟨t, run, answers⟩ := State.capExec_answers
      (body := fun _ s =>
        if !bistTarget n then (capErr 5 0, s)
        else if s.bistBusy n || !s.bistMay n then (capErr 6 0, s)
        else (capOk, { s with pat.target := some n, pat.origin := 0, pat.slices := 0, pat.failing := none })) admits
      (show _ = (capOk, { s.executing r ses with pat.target := some n, pat.origin := 0, pat.slices := 0, pat.failing := none }) by
        rw [if_neg (by simp [target]), if_neg (by simp [busy, able])]) rfl
    have left : t.pat = _ := answers.parts .pat (by decide)
    exact ⟨t, congrArg _ run, answers.answered, by rw [left]; rfl, by rw [left]; rfl, by rw [left]; rfl⟩
  · exact fun s e set_ sig => s.bistComplete_passed set_ sig
  · exact fun s e n set_ sig => s.bistComplete_failed set_ sig
  · intro s x awake all
    have go : (!(s.awake && x.length == 8)) = false := by simp [awake, all]
    obtain ⟨junction, pat⟩ := s.temperature_effect go
    refine ⟨s.temperature x, rfl, junction, congrArg Patina.peak pat, fun above => ?_, fun below => ?_⟩
    · exact (congrArg Patina.hot pat).trans (if_pos above)
    · exact (congrArg Patina.hot pat).trans ((if_neg (by omega)).trans (if_pos below))
  · exact State.governor_stepsDown
  · intro s a cool awake due
    have go : (s.awake && s.elapsedS a 60) = true := by simp [awake, due]
    refine ⟨s.set Obj.thermalAlarm 0, ?_, State.set_cell_self _ _ _, rfl, fun k other => s.set_cell _ other⟩
    refine congrArg Host.Outcome.next ?_
    unfold State.alarmClear
    rw [cool]
    exact if_pos go
  · intro s x up all fresh
    have go : (s.up && s.pat.measuredHour != s.nat Obj.operatingTimeMs / 3600000 + 1 && x.length == 24) = true := by
      simp [up, fresh, all]
    obtain ⟨margin, monitor⟩ := s.patinaStep_worst all
    refine ⟨_, congrArg Host.Outcome.next (if_pos go), margin, monitor, rfl, fun room short => s.patinaStep_raises all room short⟩
  · intro s x up waiting all
    obtain ⟨margin, -⟩ := s.patinaStep_worst all
    refine ⟨s.patinaStep x, congrArg _ (if_pos (by simp [up, waiting])), margin, fun room enough => ?_⟩
    exact (s.patinaStep_settles all room enough).symm
  · intro s r ses x admits all
    obtain ⟨t, run, answers⟩ := State.capExec_answers (body := fun _ s => boolCommand 1 s fun s => (capOk, s.patinaStep x)) admits
      (boolCommand_one _ _) (State.patinaStep_frame _ _ (by decide))
    exact ⟨t, congrArg _ run, answers.answered, (answers.cells _ (by decide)).trans (State.patinaStep_worst _ all).1⟩
  · intro s r ses admits
    obtain ⟨t, run, answers⟩ := State.capExec_answers
      (body := fun _ s => boolCommand 1 s fun s => (capOk, s.setPaired Obj.recalibrate 1)) admits (boolCommand_one _ _)
      (State.setPaired_frame _ _ _ (by decide))
    have marked : t.get Obj.recalibrate = 1 := (answers.cells _ (by decide)).trans (State.setPaired_cell_self _ _ _ (by decide))
    refine ⟨t, congrArg _ run, answers.answered, ?_, ?_⟩
    · rw [State.flag, State.nat, marked]
      rfl
    · exact (answers.cells _ (by decide)).trans
        ((State.setPaired_cell_ne _ _ _ (by decide) (by decide)).trans (s.executing_cell r ses (by decide)))

end Sys2Proof.Machine

set_option autoImplicit false
namespace Sys2Proof.Machine

set_option Elab.async false

/-! ### A frame on the path goes on to a stage (R22, R170) -/

theorem find?_filter_append {α : Type} {p : α → Bool} {l : List α} {x : α} (hp : p x = true) :
    (l.filter (fun a => !p a) ++ [x]).find? p = some x := by
  rw [List.find?_append, List.find?_eq_none.mpr (by simp)]
  simp [hp]

/-- The frames after one went on: the others as they stood, then the frame at its new stage, under the item of that stage's queue. -/
theorem State.toStage_frames (s : State) (f : Frame) (stage : Nat) :
    ∃ x, (s.toStage f stage).frames = (s.frames.filter fun g => g.id != f.id) ++ [{ f with
      stage := stage
      item := x }] := by
  have taken : ((s.served f).takeFrom f).frames = s.frames :=
    (State.takeFrom_frame (p := .frames) _ _ (by decide)).trans (State.served_frame (p := .frames) _ _ (by decide))
  unfold State.toStage
  extract_lets s1
  cases f.queueAt stage with
  | some q =>
    exact ⟨_, congrArg (fun l : List Frame => l.filter (fun g => g.id != f.id) ++ _)
      ((State.offerTo_frame (p := .frames) _ _ _ (by decide)).trans taken)⟩
  | none => exact ⟨_, congrArg (fun l : List Frame => l.filter (fun g => g.id != f.id) ++ _) taken⟩

theorem State.toStage_frame_self (s : State) (f : Frame) (stage : Nat) :
    ∃ x, (s.toStage f stage).frame f.id = some { f with
      stage := stage
      item := x } := by
  obtain ⟨x, frames⟩ := s.toStage_frames f stage
  refine ⟨x, ?_⟩
  rw [State.frame, frames]
  exact find?_filter_append (p := fun g : Frame => g.id == f.id) (by simp)

/-- The frame that a stage leaves, but for its item. -/
theorem State.toStage_frame_map (s : State) (f : Frame) (stage : Nat) (i : Line) :
    ((s.toStage f stage).frame f.id).map (fun g => { g with item := i }) = some { f with
      stage := stage
      item := i } := by
  obtain ⟨x, there⟩ := s.toStage_frame_self f stage
  rw [there]
  rfl

theorem State.toStage_stage (s : State) (f : Frame) (stage : Nat) : ((s.toStage f stage).frame f.id).map (·.stage) = some stage := by
  obtain ⟨x, there⟩ := s.toStage_frame_self f stage
  rw [there]
  rfl

theorem State.toStage_nand (s : State) (f : Frame) (stage : Nat) : (s.toStage f stage).nand = s.nand :=
  State.nand_of_parts fun _ hp => s.toStage_frame f stage (Part.apart hp)

/-- A frame of the path that a stage may take. -/
structure State.Stands (s : State) (n stage : Nat) (f : Frame) (r : Record) : Prop where
  there : s.frame n = some f
  stage : f.stage = stage
  serving : s.serving = true
  calm : s.pw.cause = 0
  locket : s.loc.zeroizing = false
  known : s.record f.tag = some r
  good : r.bad = false

/-- The stage carries it out, in the turn of its tenant or, at step 8, at once. -/
theorem State.atStage_runs {s : State} {n stage : Nat} {f : Frame} {r : Record} (h : s.Stands n stage f r)
    (turn : stage = 7 ∨ s.turnOf f (s.readyAt stage) = true) (g : Frame → Record → State) : s.atStage n stage g = g f r := by
  have found : (s.frame n).filter (fun f => f.stage == stage) = some f := by simp [h.there, h.stage]
  have go : (!s.serving || s.pw.cause != 0 || s.loc.zeroizing) = false := by simp [h.serving, h.calm, h.locket]
  simp only [State.atStage, found, go, h.known, h.good, Bool.false_eq_true, if_false]
  by_cases seven : stage = 7
  · rw [if_pos seven]
  · rw [if_neg seven, if_pos (turn.resolve_left seven)]

/-! ### Step 5 on one element, and on none that is supported (R172) -/

theorem State.parseElement_reading (s : State) (f : Frame) (r : Record) {e : Element} {ch : Nat} (supported : e.supported = true)
    (reading : e.event = 0) (channel : s.channelFor r e = some ch) :
    s.parseElement f r e = ({ f with readings := f.readings ++ [(s.readingOf f r ch e).1] }, (s.readingOf f r ch e).2) := by
  simp only [State.parseElement, supported, reading, channel, Bool.not_true, Bool.false_eq_true, if_false, if_true]

theorem State.parseFrame_one {s : State} {n ch : Nat} {f : Frame} {r : Record} {e : Element} (h : s.Stands n 4 f r)
    (turn : s.turnOf f (s.readyAt 4) = true) (supported : e.supported = true) (reading : e.event = 0)
    (channel : s.channelFor r e = some ch) :
    s.parseFrame n [e] =
      (s.readingOf f r ch e).2.toStage { f with readings := f.readings ++ [(s.readingOf f r ch e).1] } 5 := by
  unfold State.parseFrame
  rw [State.atStage_runs h (.inr turn), if_neg (by simp [supported])]
  simp only [List.foldl_cons, List.foldl_nil, s.parseElement_reading f r supported reading channel]

theorem State.parseFrame_none {s : State} {n : Nat} {f : Frame} {r : Record} {es : List Element} (h : s.Stands n 4 f r)
    (turn : s.turnOf f (s.readyAt 4) = true) (unsupported : (es.all fun e => !e.supported) = true) :
    s.parseFrame n es = (s.toStage f 5).bump (Obj.parseUnsupported r.tenant) := by
  unfold State.parseFrame
  rw [State.atStage_runs h (.inr turn), if_pos unsupported]

/-! ### Step 9 of a frame that carries nothing (R28) -/

/-- The state from which the result of such a frame goes on to step 9. -/
def State.emptyResult (s : State) (f : Frame) : State :=
  let s := { s with upHold := some [] }
  let s := if f.down = 0 then s else s.modRecord f.tag fun r => { r with downCounter := Nat.max r.downCounter f.down }
  { (s.supersede f.journal).commit f.resultSize (f.readings.length + 1) with upHold := none }

theorem State.emptyResult_kept (s : State) (f : Frame) {r : Record} (known : s.record f.tag = some r) :
    ((s.emptyResult f).record f.tag).map (·.downCounter) = some (Nat.max r.downCounter f.down) ∧
      (s.emptyResult f).nand.ingest = s.nand.ingest.filter (fun e => e.seq != f.journal) ∧
      (s.emptyResult f).parked = s.parked ∧ (s.emptyResult f).pw = s.pw := by
  unfold State.emptyResult
  extract_lets s1 s2
  have counted : (s2.record f.tag).map (·.downCounter) = some (Nat.max r.downCounter f.down) ∧ s2.nand.ingest = s.nand.ingest ∧
      s2.parked = s.parked ∧ s2.pw = s.pw := by
    unfold s2
    split
    next none_ =>
      refine ⟨?_, rfl, rfl, rfl⟩
      show (s.record f.tag).map (·.downCounter) = _
      rw [known, none_]
      exact congrArg some (Nat.max_zero _).symm
    next =>
      refine ⟨?_, rfl, rfl, rfl⟩
      show (tget (tmod s.nand.recs f.tag _) f.tag).map (·.downCounter) = _
      rw [tget_tmod_self, show tget s.nand.recs f.tag = some r from known]
      rfl
  obtain ⟨counter, ingest, parked, pw⟩ := counted
  exact ⟨counter, congrArg (List.filter fun e : Ingest => e.seq != f.journal) ingest, parked, pw⟩

/-- A frame whose result is committed (R28). -/
def Frame.resulted (f : Frame) : Frame := { f with
  replay := false
  ups := [] }

/-- The result commit of a frame without readings, comparands and events, where no command waits and nothing is replayed. -/
theorem State.resultCommit_empty {s : State} {n : Nat} {f : Frame} {r : Record} (h : s.Stands n 8 f r)
    (turn : s.turnOf f (s.readyAt 8) = true) (fits : s.fits f.resultSize = true) (readings : f.readings = [])
    (rules : f.rejectedRules = []) (compare : f.compare = []) (events : f.events = []) (parked : s.parked = [])
    (calm : s.pw.replaying = false) {g : Frame} (resulted : g = f.resulted) :
    s.resultCommit n = (s.emptyResult f).toStage g 9 := by
  obtain ⟨-, -, waiting, power⟩ := s.emptyResult_kept f h.known
  have hold : ((s.emptyResult f).toStage g 9).parked = [] :=
    (State.toStage_frame (p := .parked) _ _ _ (by decide)).trans (waiting.trans parked)
  have still : ((s.emptyResult f).toStage g 9).pw.replaying = false :=
    (congrArg Power.replaying ((State.toStage_frame (p := .pw) _ _ _ (by decide)).trans power)).trans calm
  have run : s.resultCommit n = (((s.emptyResult f).toStage g 9).releaseParked r.tag).finishReplay := by
    rw [resulted, Frame.resulted]
    unfold State.resultCommit
    rw [State.atStage_runs h (.inr turn), if_neg (by simp [fits])]
    simp only [readings, rules, compare, events, List.foldl_nil]
    unfold State.emptyResult
    by_cases none_ : f.down = 0
    · simp only [none_, if_true, readings]
      rfl
    · simp only [none_, if_false, readings]
      rfl
  rw [run]
  generalize (s.emptyResult f).toStage _ 9 = u at hold still
  have released : u.releaseParked r.tag = u := by
    unfold State.releaseParked
    simp only [hold, List.filter_nil, List.foldl_nil]
    rw [← hold]
  rw [released, State.finishReplay, still]
  rfl

/-! ### Step 10 and the batches (R22, R194) -/

theorem State.closeBatch_open (s : State) (t : Nat) {b : Batch} (h : s.nand.open_[t]? = some b) :
    ((s.closeBatch t).nand.open_[t]?).isSome = true := by
  have there := (List.getElem?_eq_some_iff.mp h).1
  unfold State.closeBatch
  rw [h]
  dsimp only
  split
  · rw [h]
    rfl
  · simp [there]

/-- A record placed in a tenant's batch stands at its head. -/
theorem State.uplinkNow_head (s : State) {t : Nat} {b : Batch} (r : UpRec) (journal : Nat) (h : s.nand.open_[t]? = some b) :
    (((s.uplinkNow t r journal).nand.open_[t]?).bind fun b => b.recs.head?) = some r := by
  unfold State.uplinkNow
  rw [h]
  dsimp only
  have opened : ((if 65536 < b.bytes + r.len + 4 then s.closeBatch t else s).nand.open_[t]?).isSome = true := by
    split
    · exact s.closeBatch_open t h
    · rw [h]
      rfl
  obtain ⟨c, there⟩ := Option.isSome_iff_exists.mp opened
  rw [lmod_getElem?_self, there]
  rfl

theorem State.served_nand (s : State) (f : Frame) : (s.served f).nand = s.nand :=
  State.nand_of_parts fun _ hp => s.served_frame f (Part.apart hp)

theorem State.dropFrame_nand (s : State) (n : Nat) : (s.dropFrame n).nand = s.nand :=
  State.nand_of_parts fun _ hp => s.dropFrame_frame n (Part.apart hp)

/-- A frame dropped is on the path no more. -/
theorem State.dropFrame_gone (s : State) (n : Nat) : (s.dropFrame n).frame n = none := by
  unfold State.dropFrame
  split
  next gone => exact gone
  next => exact List.find?_eq_none.mpr (by simp)

theorem State.uplinkRecord_runs {s : State} {n : Nat} {f : Frame} (there : s.frame n = some f) (stage : f.stage = 9)
    (serving : s.serving = true) (calm : s.pw.cause = 0) (turn : s.turnOf f (s.frames.filter fun g => g.stage == 9) = true)
    (resp : f.resp = false) :
    s.uplinkRecord n = ((f.ups.foldl (fun (s : State) (u : Nat × UpRec × Nat) => s.uplinkNow u.1 u.2.1 u.2.2) s).served f).dropFrame n :=
        by
  have found : (s.frame n).filter (fun f => f.stage == 9) = some f := by simp [there, stage]
  have go : (!s.serving || s.pw.cause != 0 || !s.turnOf f (s.frames.filter fun g => g.stage == 9)) = false := by
    simp [serving, calm, turn]
  simp only [State.uplinkRecord, found, go, resp, Bool.false_eq_true, if_false]

/-- A batch that holds records closes under the next BatchSequence. -/
theorem State.closeBatch_closes (s : State) {t : Nat} {b : Batch} (h : s.nand.open_[t]? = some b) (full : b.recs ≠ []) :
    (s.closeBatch t).nand.retained = s.nand.retained ++ [{ b with seq := (tget s.hif.batchSeq t).getD 0 + 1 }] ∧
      ((s.closeBatch t).nand.open_[t]?).map (·.recs) = some [] := by
  have there := (List.getElem?_eq_some_iff.mp h).1
  unfold State.closeBatch
  rw [h]
  dsimp only
  rw [if_neg (by simpa using full)]
  exact ⟨rfl, by simp [there]⟩

/-- A batch of a tenant marked as sent to the head end. -/
def markSent (t : Nat) (b : Batch) : Batch := if b.tenant == t then { b with sent := true } else b

theorem markSent_sent (b : Batch) (t : Nat) (h : (markSent t b).tenant = t) : (markSent t b).sent = true := by
  unfold markSent at h ⊢
  split
  · rfl
  next other =>
    rw [if_neg other] at h
    exact absurd (by simpa using h) other

/-- A batch of a tenant whose uplink goes to the head end leaves at once. -/
theorem State.uplinkBatch_sent {s : State} {t : Nat} (up : s.up = true) (calm : s.pw.cause = 0) (enabled : s.enabled t = true)
    (target : s.nat (Obj.uplinkTarget t) ≠ 0) :
    s.uplinkBatch t = { s.closeBatch t with nand.retained := (s.closeBatch t).nand.retained.map (markSent t) } := by
  have still : (s.closeBatch t).nat (Obj.uplinkTarget t) = s.nat (Obj.uplinkTarget t) :=
    State.nat_of_cell (State.cell_of_cat (State.closeBatch_frame _ _ (by decide)) _)
  have away : (s.closeBatch t).toHost t = false := by
    rw [State.toHost, still]
    simp [target]
  unfold State.uplinkBatch
  rw [if_neg (by simp [up, calm, enabled])]
  dsimp only
  rw [away]
  rfl

/-- Settles O30. -/
theorem pathToTheUplink : Obligations.PathToTheUplink := by
  refine ⟨?_, ?_, ?_, ?_, ?_, ?_, ?_, ?_, ?_, ?_⟩
  · rintro s n ch f r e there rfl stage serving calm locket known good turn supported reading channel
    refine ⟨_, congrArg Host.Outcome.next (State.parseFrame_one ⟨there, stage, serving, calm, locket, known, good⟩ turn supported reading
      channel), ?_, ?_⟩
    · exact State.toStage_stage _ { f with readings := f.readings ++ [(s.readingOf f r ch e).1] } 5
    · obtain ⟨x, left⟩ := (s.readingOf f r ch e).2.toStage_frame_self { f with readings := f.readings ++ [(s.readingOf f r ch e).1] } 5
      exact (congrArg (Option.map fun g : Frame => g.readings) left).trans rfl
  · rintro s n f r es there rfl stage serving calm locket known good turn unsupported room
    have still : (s.toStage f 5).nat (Obj.parseUnsupported r.tenant) = s.nat (Obj.parseUnsupported r.tenant) :=
      State.nat_of_cell (State.cell_of_cat (State.toStage_frame _ _ _ (by decide)) _)
    refine ⟨_, congrArg Host.Outcome.next (State.parseFrame_none ⟨there, stage, serving, calm, locket, known, good⟩ turn unsupported),
      ?_, ?_⟩
    · refine Eq.trans (congrArg (Option.map fun g : Frame => { g with item := f.item }) ?_) (s.toStage_frame_map f 5 f.item)
      exact congrArg (List.find? fun g : Frame => g.id == f.id) (State.bump_frame (p := .frames) _ _ (by decide))
    · exact (State.bump_cell_self _ (by rw [still]; exact room)).trans (by rw [still])
  · rintro s n f r there rfl stage serving calm locket known good turn
    refine ⟨s.validate f.id, rfl, ?_, fun none_ => ?_⟩ <;> unfold State.validate <;>
      rw [State.atStage_runs ⟨there, stage, serving, calm, locket, known, good⟩ (.inr turn)]
    · dsimp only
      exact State.toStage_stage _ { f with readings := _, rejectedRules := _, events := _ } 6
    · simp only [none_, List.zipIdx_nil, List.foldl_nil, List.map_nil, State.reDelta]
      generalize List.filter _ f.events = evs
      obtain ⟨x, left⟩ := s.toStage_frame_self { f with readings := [], rejectedRules := [], events := evs } 6
      exact (congrArg (Option.map fun g : Frame => (g.readings, g.rejectedRules)) left).trans rfl
  · rintro s n f r there rfl stage serving calm locket known good turn
    refine ⟨_, congrArg Host.Outcome.next (State.atStage_runs ⟨there, stage, serving, calm, locket, known, good⟩ (.inr turn) _), ?_, ?_⟩
    · exact s.toStage_frame_map { f with books := f.readings.filterMap (s.attribute f r) } 7 f.item
    · exact s.toStage_nand _ 7
  · rintro s n f r there rfl stage serving calm locket known good
    refine ⟨_, congrArg Host.Outcome.next (State.atStage_runs ⟨there, stage, serving, calm, locket, known, good⟩ (.inl rfl) _),
      s.toStage_frame_map f 8 f.item, s.toStage_nand f 8, State.toStage_frame (p := .cat) _ _ _ (by decide)⟩
  · rintro s n f r there rfl stage serving calm locket known good turn - fits readings rules compare events parked replaying
    obtain ⟨counter, ingest, -, -⟩ := s.emptyResult_kept f known
    refine ⟨_, congrArg Host.Outcome.next (State.resultCommit_empty ⟨there, stage, serving, calm, locket, known, good⟩ turn fits readings
      rules compare events parked replaying rfl), ?_, ?_, ?_⟩
    · exact (s.emptyResult f).toStage_frame_map f.resulted 9 f.item
    · rw [State.record, State.toStage_nand]
      exact counter
    · rw [State.toStage_nand]
      exact ingest
  · intro s n f there stage full good
    refine congrArg Host.Outcome.next ?_
    have found : (s.frame n).filter (fun f => f.stage == 8) = some f := by simp [there, stage]
    simp only [State.resultCommit, State.atStage, found]
    cases known : s.record f.tag with
    | none => simp only [ite_self]
    | some r => simp only [good r known, full, Bool.false_eq_true, if_false, Bool.not_false, if_true, ite_self]
  · rintro s n f there rfl stage serving calm turn resp
    refine ⟨_, congrArg Host.Outcome.next (State.uplinkRecord_runs there stage serving calm turn resp), State.dropFrame_gone _ _, ?_⟩
    intro u b one opened
    rw [one, State.dropFrame_nand, State.served_nand]
    exact s.uplinkNow_head u.2.1 u.2.2 opened
  · intro s k b up calm enabled opened full target
    obtain ⟨retained, emptied⟩ := s.closeBatch_closes opened full
    refine ⟨_, congrArg Host.Outcome.next (State.uplinkBatch_sent up calm enabled target), emptied, ?_, ?_, ?_⟩
    · simp [retained]
    · simp only [retained, List.map_append, List.map_cons, List.map_nil, List.getLast?_concat, Option.map_some]
      unfold markSent
      split <;> rfl
    · intro c hc tenant
      obtain ⟨d, -, rfl⟩ := List.mem_map.mp hc
      exact markSent_sent d k tenant
  · intro s k q up target
    have go : (s.up && !s.toHost k) = true := by simp [up, State.toHost, target]
    exact ⟨_, congrArg Host.Outcome.next (if_pos go), rfl⟩

end Sys2Proof.Machine

set_option autoImplicit false
namespace Sys2Proof.Machine

set_option Elab.async false

/-! ### A frame that leaves the path (R26, R44, R54) -/

/-- A frame discarded is on the path no more. -/
theorem State.discard_gone (s : State) {f : Frame} {n : Nat} (id : f.id = n) : (s.discard f).frame n = none := by
  have gone := s.dropFrame_gone n
  rw [State.discard, id]
  exact (congrArg (List.find? fun g : Frame => g.id == n) (State.settleForward_frame (p := .frames) _ _ _ (by decide))).trans gone

theorem State.settleForward_own (s : State) {f : Frame} (ok : Bool) (own : f.forwarded = none) : s.settleForward f ok = s := by
  rw [State.settleForward, own]

theorem State.discard_own (s : State) {f : Frame} (own : f.forwarded = none) : s.discard f = s.dropFrame f.id :=
  State.settleForward_own _ false own

theorem State.discard_cell (s : State) (f : Frame) (k : Nat) : (s.discard f).cell k = s.cell k :=
  State.cell_of_cat (s.discard_frame f (by decide)) k

/-- A frame found by its number bears it. -/
theorem State.frame_id {s : State} {n : Nat} {f : Frame} (h : s.frame n = some f) : f.id = n := by
  simpa using List.find?_some (p := fun g : Frame => g.id == n) h

/-- A step that leaves the frames finds the same ones. -/
theorem State.frame_of_frames {s t : State} (h : Part.of .frames t = Part.of .frames s) (n : Nat) : t.frame n = s.frame n :=
  congrArg (List.find? fun g : Frame => g.id == n) h

/-! ### Step 2 (R26, R30, R43, R44, R171) -/

/-- A frame that asks for admission, under its record. -/
theorem State.linkLayer_asks {s : State} {n : Nat} {f : Frame} {r : Record} (there : s.frame n = some f) (stage : f.stage = 1)
    (commits : s.commits = true) (known : s.recordFor f = some r) (good : r.bad = false) (enabled : s.enabled r.tenant = true)
    (single : s.inFlight f r.tag = false) (fresh : r.upCounter ≤ f.counter) :
    s.linkLayer n = s.askAdmission f r (f.counter == r.upCounter && r.counted) := by
  have found : (s.frame n).filter (fun f => f.stage == 1) = some f := by simp [there, stage]
  simp only [State.linkLayer, found, commits, known, good, enabled, single, Bool.not_true, Bool.false_eq_true, Bool.true_eq_false,
    if_false, if_neg (Nat.not_lt.mpr fresh)]

/-- A frame admitted stands at step 2, under the tag and the tenant of its record. -/
theorem State.askAdmission_admits (s : State) {f : Frame} {r : Record} {retx : Bool} (fits : (retx || s.journalFits f r) = true)
    (carried : (retx || s.canCarry f r) = true) (admits : (s.admitFrame r.tenant).1 = true) :
    ((s.askAdmission f r retx).frame f.id).map (fun g => (g.stage, g.tag, g.tenant, g.retx)) = some (2, r.tag, r.tenant, retx) := by
  obtain ⟨u, admitted⟩ : ∃ u, s.admitFrame r.tenant = (true, u) := ⟨(s.admitFrame r.tenant).2, Prod.ext admits rfl⟩
  unfold State.askAdmission
  extract_lets refuse
  rw [if_neg (by simp [fits]), if_neg (by simp [carried]), admitted]
  dsimp only
  generalize (if (!f.missed && u.asks f r) = true then u.askResponse _ else (0, u)) = e
  obtain ⟨x, left⟩ := e.2.toStage_frame_self { f with
    tag := r.tag
    tenant := r.tenant
    retx := retx
    stageSeen := u.nand.stageSeq
    resp := !f.missed && u.asks f r
    ask := e.1 } 2
  exact (congrArg (Option.map fun g : Frame => (g.stage, g.tag, g.tenant, g.retx)) left).trans rfl

/-- A frame of an own cell that finds no room for what carries it is refused and counted. -/
theorem State.askAdmission_refuses (s : State) {f : Frame} {r : Record} (own : f.forwarded = none) (fits : s.journalFits f r = true)
    (full : s.canCarry f r = false) : s.askAdmission f r false = (s.bump (Obj.ingestRefused r.tenant)).discard f := by
  unfold State.askAdmission
  extract_lets refuse
  rw [if_neg (by simp [fits]), if_pos (by simp [full])]
  exact if_neg (by simp [own])

/-! ### Step 3 (R150, R165) -/

theorem State.hearFrame_own (s : State) {f : Frame} (tag : Nat) (own : f.forwarded = none) :
    s.hearFrame f tag = s.modRecord tag fun r => r.hear f.cell f.quality := by
  rw [State.hearFrame, own]

/-- An authenticated frame that is due no response and was not sent before stands at step 3. -/
theorem State.authenticated_stage (s : State) {f : Frame} (r : Record) (resp : f.resp = false) (retx : f.retx = false) :
    ((s.authenticated f r).frame f.id).map (·.stage) = some 3 := by
  unfold State.authenticated
  simp only [resp, retx, Bool.false_and, Bool.false_eq_true, if_false]
  exact State.toStage_stage _ _ 3

/-- What UNWRAP does with a frame whose blob opens. -/
theorem State.unwrapFrame_opens {s : State} {n : Nat} {f : Frame} {r : Record} (authentic tagged : Bool) (there : s.frame n = some f)
    (stage : f.stage = 2) (commits : s.commits = true) (turn : s.turnOf f (s.frames.filter fun g => g.stage == 2) = true)
    (locket : s.loc.zeroizing = false) (known : s.record f.tag = some r) (live : r.live = true) (suite : f.suite < 7)
    (room : s.loc.working.length < 2048) (opens : s.unwrapResult r f.suite = 0) :
    s.unwrapFrame n authentic tagged =
      if authentic && (!tagged || s.hasAuthKey r.tenant f.suite) then s.authenticated f r else (s.served f).discard f := by
  have found : (s.frame n).filter (fun f => f.stage == 2) = some f := by simp [there, stage]
  have served : (s.record f.tag).filter Record.live = some r := by simp [known, live]
  have go : (!(s.commits && s.turnOf f (s.frames.filter fun g => g.stage == 2))) = false := by simp [commits, turn]
  simp only [State.unwrapFrame, found, served, go, locket, opens, Bool.false_eq_true, if_false, if_neg (Nat.not_le.mpr suite),
    if_neg (Nat.not_le.mpr room)]

/-! ### Step 4 (R27, R33, R55) -/

/-- A frame enters the journal once its turn has come and the buffer takes it. -/
theorem State.ingestCommit_enters {s : State} {n : Nat} {f : Frame} {r : Record} (there : s.frame n = some f) (stage : f.stage = 3)
    (commits : s.commits = true) (turn : s.turnOf f (s.frames.filter fun g => g.stage == 3) = true) (media : s.nat Obj.mediaState = 0)
    (fits : s.fits f.length = true) (known : s.record f.tag = some r) (live : r.live = true)
    (takes : (s.billedAbove r && Nat.blt (s.nat Obj.forwardJournalLimit) (s.forwardBytes + f.forwardSize)) = false) :
    s.ingestCommit n = s.enterJournal f r := by
  have found : (s.frame n).filter (fun f => f.stage == 3) = some f := by simp [there, stage]
  have served : (s.record f.tag).filter Record.live = some r := by simp [known, live]
  have go : (!(s.commits && s.turnOf f (s.frames.filter fun g => g.stage == 3))) = false := by simp [commits, turn]
  simp only [State.ingestCommit, found, served, go, media, fits, takes, Bool.false_eq_true, if_false, ne_eq, not_true_eq_false,
    Bool.not_true]

/-- The state in which the frame is durable, its counter the endpoint's. -/
def State.durable (s : State) (f : Frame) (r : Record) : State :=
  let seq := s.nand.ingestSeq + 1
  let serving := match f.forwarded with
    | some (n, _) => n
    | none => s.ownNumber
  let s := { s with nand.ingestSeq := seq }.modRecord r.tag fun r =>
    { r with upCounter := f.counter, lastHeard := f.syncNs / nsPerS, lastCell := f.cell, lastQuality := f.quality, serving := serving,
             counted := true }
  (s.toStage { f with journal := seq } (if s.billedAbove r then 11 else 4)).commit f.length 1

theorem State.durable_frame (s : State) (f : Frame) (r : Record) :
    ∃ x, (s.durable f r).frame f.id = some { f with
      journal := s.nand.ingestSeq + 1
      stage := if s.billedAbove r then 11 else 4
      item := x } := by
  obtain ⟨x, left⟩ := State.toStage_frame_self
    ({ s with nand.ingestSeq := s.nand.ingestSeq + 1 }.modRecord r.tag fun r =>
      { r with upCounter := f.counter, lastHeard := f.syncNs / nsPerS, lastCell := f.cell, lastQuality := f.quality,
               serving := match f.forwarded with
                 | some (n, _) => n
                 | none => s.ownNumber,
               counted := true })
    { f with journal := s.nand.ingestSeq + 1 } (if s.billedAbove r then 11 else 4)
  exact ⟨x, (State.frame_of_frames (State.commit_frame _ _ _ (by decide)) _).trans left⟩

/-- What a durable frame leaves of NAND: the next sequence, its counter as the endpoint's. -/
theorem State.durable_nand (s : State) (f : Frame) (r : Record) :
    (s.durable f r).nand.ingestSeq = s.nand.ingestSeq + 1 ∧ (s.durable f r).nand.ingest = s.nand.ingest ∧
      (s.durable f r).nand.forward = s.nand.forward ∧ (s.durable f r).inForce = s.inForce ∧
      (s.record r.tag = some r → ((s.durable f r).record r.tag).map (·.upCounter) = some f.counter) := by
  unfold State.durable
  extract_lets seq serving src s1
  refine ⟨?_, ?_, ?_, ?_, fun known => ?_⟩
  · exact congrArg Nand.ingestSeq (State.toStage_nand s1 _ _)
  · exact (congrArg Nand.ingest (State.toStage_nand s1 { f with journal := seq } _)).trans rfl
  · exact (congrArg Nand.forward (State.toStage_nand s1 { f with journal := seq } _)).trans rfl
  · exact State.toStage_frame (p := .inForce) s1 _ _ (by decide)
  · show (tget ((s1.toStage _ _).nand.recs) r.tag).map (·.upCounter) = _
    rw [State.toStage_nand]
    show (tget (tmod s.nand.recs r.tag _) r.tag).map (·.upCounter) = _
    rw [tget_tmod_self, show tget s.nand.recs r.tag = some r from known]
    rfl

theorem State.durable_pw (s : State) (f : Frame) (r : Record) : (s.durable f r).pw = s.pw := by
  unfold State.durable
  extract_lets seq serving src s1
  exact State.toStage_frame (p := .pw) s1 _ _ (by decide)

theorem State.owesAck_nand (s : State) (tag : Nat) : (s.owesAck tag).nand = s.nand :=
  State.nand_of_parts fun _ hp => s.owesAck_frame tag (Part.apart hp)

/-- The acknowledgement that a frame without a response leaves its endpoint owed. -/
def State.acks (s : State) (f : Frame) (r : Record) : State := if f.expectsAck r && !f.resp then s.owesAck r.tag else s

theorem State.acks_frame {p : Part} (s : State) (f : Frame) (r : Record) (h : p ∉ [Part.dl]) : p.of (s.acks f r) = p.of s := by
  unfold State.acks
  split
  · exact s.owesAck_frame r.tag h
  · rfl

theorem State.acks_nand (s : State) (f : Frame) (r : Record) : (s.acks f r).nand = s.nand :=
  State.nand_of_parts fun _ hp => s.acks_frame f r (Part.apart hp)

/-- An own frame enters the journal of ingested frames, or the one forwarded. -/
theorem State.enterJournal_own (s : State) {f : Frame} (r : Record) (own : f.forwarded = none) :
    ∃ g : Frame, (s.durable f r).frame f.id = some g ∧ g = { f with
        journal := s.nand.ingestSeq + 1
        stage := if s.billedAbove r then 11 else 4
        item := g.item } ∧
      s.enterJournal f r = if s.billedAbove r then ((s.durable f r).acks g r).forwardUp g r (s.nand.ingestSeq + 1) else
        { (s.durable f r).acks g r with
          nand.ingest := ((s.durable f r).acks g r).nand.ingest ++
            [{ seq := s.nand.ingestSeq + 1, frame := g, held := false, programmed := false }] } := by
  obtain ⟨x, left⟩ := s.durable_frame f r
  refine ⟨_, left, rfl, ?_⟩
  generalize hg : ({ f with
      journal := s.nand.ingestSeq + 1
      stage := if s.billedAbove r then 11 else 4
      item := x } : Frame) = g at left
  have same : g.forwarded = none := by rw [← hg]; exact own
  have role : ((s.durable f r).acks g r).billedAbove r = s.billedAbove r := by
    rw [State.billedAbove, show ((s.durable f r).acks g r).pw = s.pw from
      (State.acks_frame (p := .pw) _ g r (by decide)).trans (s.durable_pw f r)]
    rfl
  unfold State.enterJournal
  extract_lets seq serving src s1 s2 f1 s3 s4 e
  have found : f1 = g := by
    show ((s.durable f r).frame f.id).getD f = g
    rw [left]
    rfl
  have settled : s4 = (s.durable f r).acks g r := by
    unfold s4
    rw [found, State.settleForward_own _ _ same]
    unfold s3
    rw [found]
    rfl
  have entry : e = { seq := s.nand.ingestSeq + 1, frame := g, held := false, programmed := false } := by
    unfold e
    rw [found]
  show (if s4.billedAbove r = true then s4.forwardUp f1 r seq else { s4 with nand.ingest := s4.nand.ingest ++ [e] }) = _
  rw [entry, found, settled, role]

/-- A frame kept for the concentrator above leaves the path, its message in the forwarding journal. -/
theorem State.forwardUp_drops (s : State) {f : Frame} (r : Record) (seq : Nat) (resp : f.resp = false) :
    (s.forwardUp f r seq).frame f.id = none ∧
      (s.forwardUp f r seq).nand.forward = s.nand.forward ++
        [{ seq := seq, size := f.forwardSize, msg := f.message s.ownNumber r.billingHome seq }] := by
  unfold State.forwardUp
  extract_lets m e src s1 s2
  rw [resp, if_neg (by decide)]
  refine ⟨State.dropFrame_gone _ _, ?_⟩
  rw [State.dropFrame_nand]
  unfold s2
  split <;> rfl

/-- Settles O29. -/
theorem pathToTheJournal : Obligations.PathToTheJournal := by
  refine ⟨?_, ?_, ?_, ?_, ?_, ?_, ?_, ?_, ?_, ?_⟩
  · intro s src n i up bound accepts
    obtain ⟨⟨x, d, arrived⟩, -⟩ := State.arrive_frames (s := s) (f := s.newFrame (n + 7) i) accepts
    have run : s.tunnelled src i = s.arrive (s.newFrame (n + 7) i) := by
      simp only [State.tunnelled, up, bound, Bool.not_true, Bool.false_eq_true, if_false]
    refine ⟨_, congrArg Host.Outcome.next run, ?_, ?_⟩
    · rw [arrived, List.length_append]
      rfl
    · rw [arrived, List.getLast?_concat]
      rfl
  · intro s src i up unbound room
    have run : s.tunnelled src i = s.bump Obj.tunnelUnmatched := by
      simp only [State.tunnelled, up, unbound, Bool.not_true, Bool.false_eq_true, if_false]
    exact ⟨_, congrArg Host.Outcome.next run, State.bump_frame (p := .frames) _ _ (by decide), s.bump_cell_self room⟩
  · intro s n f r there stage commits known good enabled single fresh fits carried admits
    have new : (f.counter == r.upCounter && r.counted) = false := by
      rcases fresh with later | ⟨-, uncounted⟩
      · simp [Nat.ne_of_gt later]
      · simp [uncounted]
    have run := State.linkLayer_asks there stage commits known good enabled single (by omega)
    rw [new] at run
    refine ⟨_, congrArg Host.Outcome.next run, ?_⟩
    rw [← State.frame_id there]
    exact s.askAdmission_admits fits carried admits
  · intro s n f r there stage commits known good enabled single again counted admits
    have old : (f.counter == r.upCounter && r.counted) = true := by simp [again, counted]
    have run := State.linkLayer_asks there stage commits known good enabled single (Nat.le_of_eq again.symm)
    rw [old] at run
    refine ⟨_, congrArg Host.Outcome.next run, ?_⟩
    rw [← State.frame_id there]
    exact s.askAdmission_admits rfl rfl admits
  · intro s n f r there stage commits known good enabled single later own fits full _ room
    have new : (f.counter == r.upCounter && r.counted) = false := by simp [Nat.ne_of_gt later]
    have run := State.linkLayer_asks there stage commits known good enabled single (Nat.le_of_lt later)
    rw [new, s.askAdmission_refuses own fits full] at run
    refine ⟨_, congrArg Host.Outcome.next run, State.discard_gone _ (State.frame_id there), ?_⟩
    exact (State.discard_cell _ f _).trans (s.bump_cell_self room)
  · intro s n f there stage commits unknown own room
    have found : (s.frame n).filter (fun f => f.stage == 1) = some f := by simp [there, stage]
    have run : s.linkLayer n = s.unknownFrame f := by
      simp only [State.linkLayer, found, commits, unknown, Bool.not_true, Bool.false_eq_true, if_false]
    refine ⟨_, congrArg Host.Outcome.next run, State.discard_gone _ (State.frame_id there), ?_, ?_⟩
    · exact (State.discard_cell _ f _).trans
        (State.bump_cell_self { s with unknown := ((f.native, f.cell, f.quality, f.syncNs) :: s.unknown).take 256 } room)
    · rw [State.unknownFrame, show ∀ u : State, (u.discard f).unknown = u.unknown from
        fun u => State.discard_frame (p := .unknown) u f (by decide)]
      exact congrArg List.head? (State.bump_frame (p := .unknown) _ _ (by decide))
  · intro s n f r tagged there stage commits turn locket known live suite room opens resp retx own
    have run := fun authentic => State.unwrapFrame_opens authentic tagged there stage commits turn locket known live suite room opens
    have gone : ((s.served f).discard f).frame n = none := State.discard_gone _ (State.frame_id there)
    refine ⟨_, _, rfl, rfl, ?_, ?_, fun key => ?_, fun tags missing => ?_⟩
    · rw [run false]
      exact gone
    · rw [run false]
      show ((s.served f).discard f).nand = s.nand
      rw [State.discard_own _ own, State.dropFrame_nand, State.served_nand]
    · rw [run true, if_pos (by rcases key with plain | held <;> simp [*]), ← State.frame_id there]
      exact s.authenticated_stage r resp retx
    · rw [run true, if_neg (by simp [tags, missing])]
      exact gone
  · intro s n f r there stage commits turn media fits known live same below own
    have run := State.ingestCommit_enters there stage commits turn media fits known live (by rw [below]; rfl)
    obtain ⟨g, left, shape, entered⟩ := s.enterJournal_own r own
    obtain ⟨seq, ingest, -, -, counter⟩ := s.durable_nand f r
    rw [entered, below, if_neg (by decide)] at run
    rw [below] at shape
    refine ⟨_, congrArg Host.Outcome.next run, ?_, ?_, ?_, ?_⟩
    · exact (congrArg Nand.ingestSeq (State.acks_nand _ g r)).trans seq
    · show (((s.durable f r).acks g r).nand.ingest ++ _).map _ = _
      rw [State.acks_nand, ingest, List.map_append]
      rfl
    · refine (congrArg _ ((State.frame_of_frames (State.acks_frame _ g r (by decide)) n).trans ?_)).trans
        (show (some g).map (fun g => (g.stage, g.journal)) = _ by rw [shape]; rfl)
      rw [← State.frame_id there]
      exact left
    · show (tget ((s.durable f r).acks g r).nand.recs f.tag).map (·.upCounter) = _
      rw [State.acks_nand, ← same]
      exact counter (same ▸ known)
  · intro s n f r there stage commits turn media fits known live same above own room resp
    have takes : (s.billedAbove r && Nat.blt (s.nat Obj.forwardJournalLimit) (s.forwardBytes + f.forwardSize)) = false := by
      rw [above, Bool.true_and]
      exact Bool.eq_false_iff.mpr fun beyond => Nat.not_le.mpr (Nat.blt_eq.mp beyond) room
    have run := State.ingestCommit_enters there stage commits turn media fits known live takes
    obtain ⟨g, left, shape, entered⟩ := s.enterJournal_own r own
    obtain ⟨-, -, forward, inForce, -⟩ := s.durable_nand f r
    rw [entered, above, if_pos rfl] at run
    rw [above] at shape
    have silent : g.resp = false := by rw [shape]; exact resp
    have id : g.id = n := (congrArg Frame.id shape).trans (show f.id = n from State.frame_id there)
    obtain ⟨gone, kept⟩ := ((s.durable f r).acks g r).forwardUp_drops r (s.nand.ingestSeq + 1) silent
    refine ⟨_, congrArg Host.Outcome.next run, id ▸ gone, ?_⟩
    have number : ((s.durable f r).acks g r).ownNumber = s.ownNumber := by
      rw [State.ownNumber, State.forced, show ((s.durable f r).acks g r).inForce = s.inForce from
        (State.acks_frame (p := .inForce) _ g r (by decide)).trans inForce]
      rfl
    have message : g.message s.ownNumber r.billingHome (s.nand.ingestSeq + 1) =
        f.message s.ownNumber r.billingHome (s.nand.ingestSeq + 1) := by
      rw [shape]
      rfl
    rw [kept, State.acks_nand, forward, List.map_append, number, message]
    rfl
  · intro s n f there stage commits media full
    have found : (s.frame n).filter (fun f => f.stage == 3) = some f := by simp [there, stage]
    refine congrArg Host.Outcome.next ?_
    simp only [State.ingestCommit, found, media, full, ne_eq, not_true_eq_false, if_false, Bool.not_false, if_true, ite_self]

end Sys2Proof.Machine

set_option autoImplicit false
namespace Sys2Proof.Machine

set_option Elab.async false

/-! ### What a port keeps (R275, R278, R280) -/

section
variable {β : Type} {g : Port → β}

/-- What a change of a port leaves of it. -/
theorem State.modPort_map (s : State) (p : Nat) {f : Port → Port} (h : ∀ x, g (f x) = g x) (j : Nat) :
    ((s.modPort p f).ports[j]?).map g = (s.ports[j]?).map g := by
  by_cases same : j = p
  · subst same
    rw [State.modPort, lmod_getElem?_self, Option.map_map]
    exact congrArg (fun k => Option.map k s.ports[j]?) (funext h)
  · rw [State.modPort, lmod_getElem?_ne _ _ same]

theorem State.map_of_ports {s t : State} (h : Part.of .ports t = Part.of .ports s) (j : Nat) :
    (t.ports[j]?).map g = (s.ports[j]?).map g := by rw [State.ports_of_part h]

/-- Flow control changes what a port sends of PAUSE alone. -/
theorem State.flowControl_map (s : State) (p : Nat) (h : ∀ x out sent ns, g { x with
      pauseOut := out
      xoffSent := sent
      pauseNs := ns } = g x) (j : Nat) : ((s.flowControl p).ports[j]?).map g = (s.ports[j]?).map g := by
  have sent (quanta : Nat) : ((s.sendPause p quanta).ports[j]?).map g = (s.ports[j]?).map g :=
    s.modPort_map p (fun x => h x _ _ _) j
  unfold State.flowControl
  split
  · rfl
  · split
    · rfl
    · split
      · exact sent _
      · split
        · exact sent _
        · rfl

/-- Reading a ring changes the transmit FIFO alone. -/
theorem State.readTx_map {s t : State} {q : Nat} (read : s.readTx q = some t) (h : ∀ x l, g { x with tx := l } = g x) (j : Nat) :
    (t.ports[j]?).map g = (s.ports[j]?).map g := by
  unfold State.readTx at read
  split at read
  · exact nomatch read
  · simp only at read
    split at read
    · exact nomatch read
    · split at read
      · exact nomatch read
      · simp only [Option.ite_none_left_eq_some] at read
        obtain ⟨-, read⟩ := read
        split at read
        · simp only [Option.ite_none_left_eq_some, Option.some.injEq] at read
          obtain ⟨-, rfl⟩ := read
          exact State.map_of_ports ((State.hqComplete_frame _ _ _ _ _ _ _ _ _ (by decide)).trans (State.bump_frame _ _ (by decide))) j
        · simp only [Option.ite_none_left_eq_some, Option.some.injEq] at read
          obtain ⟨-, rfl⟩ := read
          exact State.modPort_map _ _ (fun x => h x _) j

theorem State.readAll_map (s : State) (q n : Nat) (h : ∀ x l, g { x with tx := l } = g x) (j : Nat) :
    ((s.readAll q n).ports[j]?).map g = (s.ports[j]?).map g := by
  induction n generalizing s with
  | zero => rfl
  | succ n ih =>
    unfold State.readAll
    split
    next u read => exact (ih u).trans (State.readTx_map read h j)
    next => rfl

/-- Filling the transmit FIFO changes nothing else of a port. -/
theorem State.fillTx_map (s : State) (p : Nat) (h : ∀ x l, g { x with tx := l } = g x) (j : Nat) :
    ((s.fillTx p).ports[j]?).map g = (s.ports[j]?).map g := by
  unfold State.fillTx
  refine List.foldlRecOn (motive := fun t : State => (t.ports[j]?).map g = (s.ports[j]?).map g) _ _ rfl fun t ht k _ => ?_
  split
  · exact (State.readAll_map _ _ _ h j).trans ht
  · exact ht

end

/-- Nothing is read while no host queue owns a ring of the port. -/
theorem State.fillTx_idle {s : State} {p : Nat} (idle : ∀ k, k < 7 → s.ringOwner 5 p k = none) : s.fillTx p = s := by
  unfold State.fillTx
  refine List.foldlRecOn (motive := fun t : State => t = s) _ _ rfl fun t ht k hk => ?_
  subst ht
  rw [idle k (List.mem_range.mp (List.mem_reverse.mp hk))]

theorem State.flowControl_cell (s : State) (p k : Nat) : (s.flowControl p).cell k = s.cell k :=
  State.cell_of_cat (s.flowControl_frame p (by decide)) k

theorem State.rxDrop_cell (s : State) (p k : Nat) : (s.rxDrop p).cell k = s.cell k :=
  State.cell_of_cat (s.rxDrop_frame p (by decide)) k

/-- The head of the FIFO leaves it. -/
theorem State.rxDrop_rx {s : State} {p : Nat} {x : Port} (port : s.ports[p]? = some x) :
    ((s.rxDrop p).ports[p]?).map (·.rx) = some (x.rx.drop 1) := by
  unfold State.rxDrop
  exact (State.flowControl_map _ p (fun _ _ _ _ => rfl) p).trans (congrArg (Option.map Port.rx) (State.modPort_self port _))

/-! ### A link that goes down (R270) -/

theorem State.discardTx_cell (s : State) (p : Nat) (f : TxFrame) {k : Nat} (counter : k ≠ Obj.txLinkDownDiscards p)
    (completed : ∀ q, k ≠ hqKey q 0x20) : (s.discardTx p f).cell k = s.cell k := by
  unfold State.discardTx
  extract_lets u
  have counted : u.cell k = s.cell k := s.bump_cell counter
  split
  · exact (State.hqCompleteAt_cell u _ _ _ _ _ _ _ _ _ (completed _)).trans counted
  · exact counted

/-- The state of a part one of whose links has gone down. -/
theorem State.linkDown_effect {s : State} {p : Nat} {x : Port} (port : s.ports[p]? = some x) (up : x.up = true)
    (room : s.nat (Obj.linkDowns p) < 4294967295) :
    ((s.linkDown p).ports[p]?).map (fun y => (y.up, y.arriving, y.tx, y.rx, y.pausedUntil)) = some (false, none, [], x.rx, none) ∧
      (s.linkDown p).get (Obj.linkDowns p) = (s.nat (Obj.linkDowns p) + 1 : Nat) := by
  have key : Unrecorded (Obj.linkDowns p) := unrecorded_port p (by decide) (by decide)
  have counter : Obj.linkDowns p ≠ Obj.txLinkDownDiscards p := by
    unfold Obj.linkDowns Obj.txLinkDownDiscards
    omega
  unfold State.linkDown
  rw [port]
  dsimp only
  rw [if_neg (by simp [up])]
  generalize link : s.modPort p _ = s1
  generalize gone : List.foldl _ s1 x.tx = s2
  have ports : s2.ports = s1.ports := gone ▸ Part.of_foldl .ports _ _ _ fun u f => u.discardTx_frame p f (by decide)
  have cells : s2.cell (Obj.linkDowns p) = s.cell (Obj.linkDowns p) := by
    rw [← gone, State.foldl_cell (fun u f => u.discardTx_cell p f counter fun q => key.ne_hqKey q _), ← link]
    rfl
  have still := State.nat_of_cell cells
  refine ⟨?_, ?_⟩
  · rw [State.map_of_ports ((State.logOp_frame _ _ _ _ (by decide)).trans (State.bump_frame _ _ (by decide))), ports, ← link,
      State.modPort_self port]
    rfl
  · refine (State.logOp_cell _ _ _ _ key).trans ((State.bump_cell_self _ (by rw [still]; exact room)).trans ?_)
    rw [still]

/-! ### Frames received (R272 to R276) -/

/-- A whole frame that the port accepts, no filter matching it, stands behind the others. -/
theorem State.rxEnter_unfiltered {s : State} {p : Nat} {x : Port} {f : EthRx} (forwards : s.tcForwards p f false = false)
    (accepts : s.rxAccepts p f = true) (filters : x.filters = none) :
    s.rxEnter p x f false = s.modPort p fun y => { y with
      rx := y.rx ++ [{
        frame := f
        queue := s.nat (Obj.defaultQueue p)
        filter := 0xFF
        truncated := false
        tcCopy := false
        stamp := x.arrivalStamp }]
      headNs := if y.rx.isEmpty then s.now else y.headNs } := by
  simp only [State.rxEnter, forwards, accepts, filters, Bool.false_eq_true, if_false, Bool.false_or, Bool.not_true, Option.getD_none,
    List.zip_nil_left, List.find?_nil, Option.map_none]

theorem EthRx.pause_none {f : EthRx} (other : f.macControl = false) : f.pause = none := by simp [EthRx.pause, other]

/-- A frame as it leaves a port (R278). -/
def State.sentFrame (s : State) (p : Nat) (f : TxFrame) : SentFrame :=
  { frame := f
    time := s.now
    stamp := s.time.short
    correction := s.correction p f
    data := f.data.map fun d => if f.ptp = 1 then ({ length := f.length, data := d } : EthRx).corrected (s.correction p f) else d }

/-- The owner of a ring follows the host interface. -/
theorem State.ringOwner_of_hif {s t : State} (h : Part.of .hif t = Part.of .hif s) (kind port queue : Nat) :
    t.ringOwner kind port queue = s.ringOwner kind port queue := by
  unfold State.ringOwner
  simp only [State.hqOf_of_hif h]

/-- A frame of the firmware that leaves is the last one sent, while no host ring feeds its port. -/
theorem State.sendFrame_firmware (s : State) {p : Nat} {f : TxFrame} (idle : ∀ k, k < 7 → s.ringOwner 5 p k = none)
    (firmware : f.hq = 16) (plain : f.kind = 0) :
    s.sendFrame p f = (s.modPort p fun x => { x with
      tx := x.tx.erase f
      lastTx := some (s.sentFrame p f) }).bump (Obj.ethTxFrames p) := by
  unfold State.sendFrame
  rw [firmware, plain]
  extract_lets add sent s1 s2 s3 s4 s5
  have still : s5 = s2 := by
    unfold s5 s4 s3
    simp
  rw [still]
  refine (State.fillTx_idle fun k hk => ?_).trans rfl
  exact (State.ringOwner_of_hif (State.bump_frame s1 _ (by decide)) 5 p k).trans (idle k hk)

/-- Settles O39. -/
theorem ethernetPorts : Obligations.EthernetPorts := by
  refine ⟨?_, ?_, ?_, ?_, ?_, ?_, ?_, ?_, ?_⟩
  · intro s p auto_ partner x runs on port
    have run : s.linkUp p auto_ partner = (s.modPort p fun x => { x with
        up := true
        aneg := auto_ && s.negotiates p
        partnerPause := partner && s.negotiates p }).fillTx p := if_pos (by simp [runs, on])
    refine ⟨_, congrArg Host.Outcome.next run, ?_⟩
    refine (State.fillTx_map _ p (fun _ _ => rfl) p).trans ?_
    rw [State.modPort_self port]
    rfl
  · exact fun s p x port up room => ⟨_, rfl, State.linkDown_effect port up room⟩
  · intro s p x port runs on up idle room
    have go : (!(s.netRuns && s.portOn p && x.up && x.arriving.isNone)) = false := by simp [runs, on, up, idle]
    refine ⟨s.rxSfd p, rfl, fun fits => ?_, fun full => ?_⟩
    · simp only [State.rxSfd, port, go, Bool.false_eq_true, if_false, if_neg (Nat.not_lt.mpr fits)]
      refine (State.flowControl_map _ p (fun _ _ _ _ => rfl) p).trans ?_
      rw [State.modPort_self port]
      rfl
    · simp only [State.rxSfd, port, go, Bool.false_eq_true, if_false, if_pos full]
      exact ⟨State.bump_frame (p := .ports) _ _ (by decide), s.bump_cell_self room⟩
  · intro s p n f x port arriving long fits fcs other forwards accepts filters
    have run : s.rxEnd p f =
        ((s.modPort p fun x => { x with arriving := none }).rxEnter p x f false).flowControl p := by
      have there : x.arriving.isNone = false := by rw [arriving]; rfl
      simp only [State.rxEnd, port, there, Bool.false_eq_true, if_false, if_neg (Nat.not_lt.mpr long), fcs, Bool.not_true, other,
        EthRx.pause_none other]
      rw [if_neg]
      exact Nat.not_lt.mpr fits
    refine ⟨_, congrArg Host.Outcome.next run, ?_⟩
    refine (State.flowControl_map _ p (fun _ _ _ _ => rfl) p).trans ?_
    rw [State.rxEnter_unfiltered (s := s.modPort p fun x => { x with arriving := none }) forwards accepts filters,
      State.modPort_self (State.modPort_self port _)]
    simp
    rfl
  · intro s p n f x port arriving short room
    have there : x.arriving.isNone = false := by rw [arriving]; rfl
    have run : s.rxEnd p f = ((s.modPort p fun x => { x with arriving := none }).bump (Obj.rxRunts p)).flowControl p := by
      simp only [State.rxEnd, port, there, Bool.false_eq_true, if_false, if_pos short]
    refine ⟨_, congrArg Host.Outcome.next run, ?_, ?_⟩
    · refine (State.flowControl_map _ p (fun _ _ _ _ => rfl) p).trans ?_
      rw [State.bump_port _ (State.modPort_self port _)]
      rfl
    · exact (State.flowControl_cell _ _ _).trans (State.modPort_bump p _ room)
  · intro s p x g port head runs unowned whole room
    have at_ : (s.ports[p]?).bind (·.rx.head?) = some g := by rw [port]; exact head
    have run : s.rxDispatch p = (s.bump (Obj.rxFrames p)).rxDrop p := by
      simp only [State.rxDispatch, State.dispatch, runs, at_, unowned, whole, Bool.false_eq_true, if_false, if_true, Option.getD_some]
    exact ⟨_, congrArg Host.Outcome.next run, State.rxDrop_rx (State.bump_port _ port),
      (State.rxDrop_cell _ _ _).trans (s.bump_cell_self room)⟩
  · intro s p q x g h port head runs owned queue host master running short due room
    have at_ : (s.ports[p]?).bind (·.rx.head?) = some g := by rw [port]; exact head
    have waits : s.dispatch p = none := by
      simp only [State.dispatch, at_, owned, queue, host, master, running, short, Bool.and_self, Bool.not_true, Bool.false_eq_true,
        if_false, Option.map_none]
    have waited : (!(s.netRuns && ((s.ports[p]?).map fun x => Nat.ble (x.headNs + 1000 * s.nat (Obj.rxStarveWaitUs p)) s.now).getD
        false)) = false := by
      rw [runs, port]
      simpa using due
    have run : s.rxStarve p = ((s.bump (Obj.rxStarved p)).hqStarve q).rxDrop p := by
      simp only [State.rxStarve, waited, at_, owned, waits, Bool.false_eq_true, if_false]
    have stay : s.rxDispatch p = s := by simp only [State.rxDispatch, runs, waits, if_true, Option.getD_none]
    refine ⟨_, congrArg Host.Outcome.next run, congrArg Host.Outcome.next stay, ?_, ?_, ?_⟩
    · refine State.rxDrop_rx (Eq.trans ?_ port)
      rw [State.ports_of_part (State.hqStarve_frame _ _ (by decide)), State.ports_of_part (State.bump_frame _ _ (by decide))]
    · have apart : Obj.rxStarved p ≠ hqKey q 0x24 := by
        unfold Obj.rxStarved hqKey
        omega
      exact (State.rxDrop_cell _ _ _).trans ((State.hqStarve_cell _ _ apart).trans (s.bump_cell_self room))
    · rw [State.hqOf_of_hif (State.rxDrop_frame _ _ (by decide)), State.hqStarve, State.raise_hqOf, State.bump_hqOf,
        State.modHq_hqOf_self, State.bump_hqOf, queue]
      rfl
  · intro s p x f port idle runs on up unpaused calm one firmware plain room
    have run := s.sendFrame_firmware idle firmware plain
    have go : (!(s.netRuns && s.portOn p && x.up && x.pausedUntil.isNone && s.pw.cause == 0)) = false := by
      simp [runs, on, up, unpaused, calm]
    have next : nextTx x.tx = some f := by simp [one, nextTx]
    have sends : s.txSent p = s.sendFrame p f := by
      unfold State.txSent
      rw [State.fillTx_idle idle]
      dsimp only
      rw [port]
      dsimp only
      rw [go, next]
      exact if_neg (by decide)
    rw [run] at sends
    generalize hz : s.sentFrame p f = z at sends
    refine ⟨_, congrArg Host.Outcome.next sends, ?_, State.modPort_bump p _ room⟩
    rw [State.bump_port _ (State.modPort_self port _), ← hz]
    simp [one, State.sentFrame]
  · intro s p d x z port ptp runs tc profile near up
    obtain ⟨answer, run⟩ : ∃ answer, s.pdelayReq p d = (s.modPtp p fun x => { x with linkDelay := d }).firmwareTx p answer :=
      ⟨_, if_pos (by simp [runs, tc, profile, near, port, up])⟩
    refine ⟨_, congrArg Host.Outcome.next run, ?_, ?_⟩
    · show (lmod s.time.ptp p _)[p]? = _
      rw [lmod_getElem?_self, ptp]
      rfl
    · have queued := State.modPort_self (s := s.modPtp p fun x => { x with linkDelay := d }) port fun y : Port => { y with tx := y.tx ++
        [answer] }
      rw [State.firmwareTx, queued]
      simp

end Sys2Proof.Machine

set_option autoImplicit false
namespace Sys2Proof.Machine

set_option Elab.async false

/-! ### What a legal record leaves of Casket (R315, R316) -/

section
variable {β : Type} {g : Casket → β}

theorem State.cask_proj_of_part {s t : State} (h : Part.of .cask t = Part.of .cask s) : g t.cask = g s.cask := congrArg g h

/-- A legal record takes room in the reserve at most. -/
theorem State.takeReserve_cask (s : State) (h : ∀ c n, g { c with reserveBytes := n } = g c) : g s.takeReserve.2.cask = g s.cask := by
  unfold State.takeReserve
  split
  · exact h _ _
  · split
    · rfl
    · exact h _ _

theorem State.legalAt_cask (s : State) (code tenant payload : Nat) (rtc : Bool) (tai : Nat)
    (h : ∀ c n, g { c with reserveBytes := n } = g c) : g (s.legalAt code tenant payload rtc tai).cask = g s.cask := by
  have appended (u : State) : g ((u.appendLegal code tenant payload rtc tai).pumpLog 0).cask = g u.cask :=
    State.cask_proj_of_part ((State.pumpLog_frame _ _ (by decide)).trans (State.appendLegal_frame _ _ _ _ _ _ (by decide)))
  have ringed (u : State) : g (u.ringLegal code tenant payload rtc tai).cask = g u.cask :=
    State.cask_proj_of_part (State.ringLegal_frame _ _ _ _ _ _ (by decide))
  have held (u : State) : g (u.holdLegal code tenant payload rtc tai).cask = g u.cask :=
    State.cask_proj_of_part (State.holdLegal_frame _ _ _ _ _ _ (by decide))
  unfold State.legalAt
  extract_lets u
  have started : g u.cask = g s.cask := by
    unfold u
    split
    · exact State.cask_proj_of_part (State.breakFreeze_frame _ (by decide))
    · rfl
  have reserved := u.takeReserve_cask h
  rw [started] at reserved
  split
  · split
    · exact (held u).trans started
    · split
      · split <;> rename_i e <;> rw [e] at reserved
        · exact (appended _).trans reserved
        · exact (ringed _).trans reserved
      · exact (appended u).trans started
  · split <;> rename_i e <;> rw [e] at reserved
    · split
      · exact (held _).trans reserved
      · exact (appended _).trans reserved
    · exact (ringed _).trans reserved
  · exact (ringed u).trans started

/-- A block retired: its state in the list of blocks, a record in the journal and in the reserve. -/
theorem State.retireBlock_cask (s : State) (b : Nat) (h : ∀ c n, g { c with reserveBytes := n } = g c) :
    g (s.retireBlock b).cask = g ((s.modBlock b fun x => { x with state := 4 }).journal 1).cask := by
  unfold State.retireBlock
  extract_lets s1 s2
  have counted : g s2.cask = g s1.cask := State.cask_proj_of_part (State.setPaired_frame _ _ _ (by decide))
  rw [← counted]
  unfold State.mediaReadOnly
  split
  · exact (State.legalAt_cask _ _ _ _ _ _ h).trans rfl
  · rfl

end

theorem State.mediaReadOnly_cell (s : State) {k : Nat} (h : Unrecorded k) : s.mediaReadOnly.cell k = s.cell k := by
  unfold State.mediaReadOnly
  split
  · exact (State.logLegal_cell _ _ _ _ h).trans (s.set_cell _ (h.ne _))
  · rfl

/-- A retired block counts among the grown bad ones (R300). -/
theorem State.retireBlock_counts (s : State) (b : Nat) :
    (s.retireBlock b).cell Obj.grownBadBlocks = s.cell Obj.grownBadBlocks + 1 := by
  unfold State.retireBlock
  rw [State.mediaReadOnly_cell _ (by decide), State.set_cell _ _ (by decide), State.setPaired_cell_self _ _ _ (by decide)]
  rfl

/-! ### A unit placed in an open block (R307) -/

theorem State.ensureOpen_blocks (s : State) (stream chan : Nat) : ∃ bs, (s.ensureOpen stream chan).2 = { s with cask.blocks := bs } := by
  unfold State.ensureOpen
  split
  · exact ⟨s.cask.blocks, rfl⟩
  · split
    · exact ⟨_, rfl⟩
    · exact ⟨s.cask.blocks, rfl⟩

/-- Where the stream has an open block on the channel, a unit is placed; the blocks and their order of filling alone change. -/
theorem State.placeUnit_open {s : State} {stream chan : Nat} (h : (s.openBlock stream chan).isSome = true) :
    ∃ unit bs n, s.placeUnit stream chan = (some unit, { s with
      cask.blocks := bs
      cask.fillSeq := n }) := by
  obtain ⟨b, opened⟩ := Option.isSome_iff_exists.mp h
  have taken : s.ensureOpen stream chan = (some b, s) := by rw [State.ensureOpen, opened]
  unfold State.placeUnit
  simp only [taken]
  split
  · exact ⟨_, _, s.cask.fillSeq, rfl⟩
  · obtain ⟨bs, next⟩ := State.ensureOpen_blocks
      ({ s with cask.fillSeq := s.cask.fillSeq + 1 }.modBlock b fun x =>
        { x with
          state := 2
          used := ((tget s.cask.blocks b).map fun y : Block => y.used).getD 0 + 1
          filled := s.cask.fillSeq + 1 }) stream chan
    rw [next]
    exact ⟨_, bs, s.cask.fillSeq + 1, rfl⟩

/-- The channel that a program uses is one of the two. -/
theorem State.drawChannel_le (s : State) : s.drawChannel.1 ≤ 1 := by
  unfold State.drawChannel
  dsimp only
  split <;> omega

/-- The relocation of a victim with at most one unit to copy starts, while stream 4 has an open block on each channel (R309). -/
theorem State.relocate_starts {s : State} {b : Nat} (why : Nat) (opened : ∀ ch, ch ≤ 1 → (s.openBlock 4 ch).isSome = true)
    (few : ((s.cask.validIn b).filter fun v => !(s.cask.hinted.contains v.1)).length ≤ 1) :
    ∃ f bs n us cs, s.relocate b why = { s with
      free := f
      cask.blocks := bs
      cask.fillSeq := n
      cask.units := us
      cask.reloc := some { victim := b, phase := 1, copies := cs, why } } := by
  have channel : (s.drawChannel.2.openBlock 4 s.drawChannel.1).isSome = true := opened _ s.drawChannel_le
  obtain ⟨unit, bs, n, placed⟩ := State.placeUnit_open channel
  have valid : s.drawChannel.2.cask = s.cask := rfl
  unfold State.relocate
  simp only [valid]
  cases live : (s.cask.validIn b).filter fun v => !(s.cask.hinted.contains v.1) with
  | nil => exact ⟨_, s.cask.blocks, s.cask.fillSeq, s.cask.units, [], rfl⟩
  | cons v rest =>
    rw [live] at few
    obtain rfl : rest = [] := List.eq_nil_of_length_eq_zero (by simpa using few)
    simp only [State.copyUnits, placed, Option.map_some]
    exact ⟨_, bs, n, _, _, rfl⟩

/-! ### Programs (R302) -/

theorem State.storeKeys_cask (s : State) : s.storeKeys.cask = s.cask := State.storeKeys_frame (p := .cask) s (by decide)

theorem State.allProgrammed_cask (s : State) : s.allProgrammed.cask = { s.cask with dirty := 0 } := by
  unfold State.allProgrammed
  exact State.storeKeys_cask _

theorem State.allProgrammed_nandProg (s : State) : s.allProgrammed.nandProg = s.allProgrammed.nand := rfl

/-- One unit of buffer data programmed, while its stream has an open block on the channel. -/
theorem State.programUnit_maps {s : State} {p chan : Nat} (u : Nat) (opened : (s.openBlock (streamOf p) chan).isSome = true) :
    (tget (s.programUnit p chan u).cask.map (mapKey p u)).isSome = true ∧
      (s.cask.dirty ≤ 4096 → (s.programUnit p chan u).cask.dirty = 0 ∧ (s.programUnit p chan u).nandProg = (s.programUnit p chan u).nand)
          ∧
      (4096 < s.cask.dirty → (s.programUnit p chan u).cask.dirty = s.cask.dirty - 4096) := by
  obtain ⟨unit, bs, n, placed⟩ := State.placeUnit_open opened
  unfold State.programUnit
  rw [placed]
  dsimp only
  split
  next low =>
    have low : s.cask.dirty ≤ 4096 := Nat.ble_eq.mp low
    rw [State.allProgrammed_cask, State.allProgrammed_nandProg]
    exact ⟨by simp [State.writeMeta], fun _ => ⟨rfl, rfl⟩, fun high => absurd high (Nat.not_lt.mpr low)⟩
  next high =>
    have high : ¬s.cask.dirty ≤ 4096 := fun low => high (Nat.ble_eq.mpr low)
    exact ⟨by simp [State.writeMeta], fun low => absurd low high, fun _ => rfl⟩

/-! ### The root (R305) -/

/-- The first of two objects committed together. -/
theorem State.commitPaired_cell_first (s : State) {j k : Nat} (v w : Int) (apart : j ≠ k) (writes : j ≠ Obj.storeWrites) :
    (s.commitPaired [(j, v), (k, w)]).cell j = v := by
  have shown (c : Tab Int) : catGet ([(j, v), (k, w)].foldl (fun c e => catPut c e.1 e.2) c) j = v :=
    (catGet_catPut_ne _ _ apart).trans (by simp)
  unfold State.commitPaired
  split
  · exact shown s.cat
  · exact (State.bumpBy_cell _ _ _ writes).trans (shown s.cat)

theorem State.relocGroup_phase (s : State) (r : Reloc) : (s.relocGroup r).cask.reloc = some { r with phase := 2 } := by
  unfold State.relocGroup
  dsimp only
  exact List.foldlRecOn (motive := fun t : State => t.cask.reloc = some { r with phase := 2 }) _ _ rfl fun t ht e _ => ht

/-- The group of a relocation moves a unit that still lies where it was copied from (R309 step 2). -/
theorem State.relocGroup_moves {s : State} {r : Reloc} {k old new : Nat} (copies : r.copies = [(k, old, new)])
    (hinted : s.cask.hinted = []) :
    tget (s.relocGroup r).cask.map k = if tget s.cask.map k = some old then some new else tget s.cask.map k := by
  have none_ : ((s.cask.validIn r.victim).filter fun e => s.cask.hinted.contains e.1 && !(r.copies.any fun c => c.1 == e.1)) = [] := by
    simp [hinted]
  unfold State.relocGroup
  dsimp only
  rw [none_, copies]
  show tget (if tget s.cask.map k = some old then tput s.cask.map k new else s.cask.map) k = _
  split
  · exact tget_tput_self _ _ _
  · rfl

/-- A block erased is free, once more erased, and nothing is relocated (R309 step 5). -/
theorem State.freeErased_victim (s : State) {n : Nat} {b : Block} (there : tget s.cask.blocks n = some b) :
    (s.freeErased n).cask.reloc = s.cask.reloc ∧
      (tget (s.freeErased n).cask.blocks n).map (fun x => (x.state, x.erases)) = some (0, b.erases + 1) := by
  refine ⟨rfl, ?_⟩
  show (tget (tmod s.cask.blocks n _) n).map _ = _
  rw [tget_tmod_self, there]
  rfl

theorem State.archive_of_part {s t : State} (h : Part.of .records t = Part.of .records s) : t.nand.archive = s.nand.archive :=
  congrArg (fun r : Part.Val .records => r.2.2.2.2.1) h

/-- What stays of the archive was there, and is not older than its retention (R301). -/
theorem State.archiveDiscard_keeps (s : State) (go : (!(s.mounted && s.pw.cause == 0 && s.nat Obj.mediaState == 0)) = false) :
    ∀ x ∈ s.archiveDiscard.nand.archive,
      x ∈ s.nand.archive ∧ s.tai ≤ x.time + s.nat Obj.archiveRetentionDays * 86400 := by
  have kept (u : State) (n payload : Nat) : ((u.bumpBy Obj.archiveEarlyDiscards n).logOp 0x300B 0xFF payload).nand.archive =
      u.nand.archive :=
    State.archive_of_part ((State.logOp_frame _ _ _ _ (by decide)).trans (State.bumpBy_frame _ _ _ (by decide)))
  intro x hx
  have young : x ∈ s.nand.archive.filter fun x => Nat.ble s.tai (x.time + s.nat Obj.archiveRetentionDays * 86400) := by
    unfold State.archiveDiscard at hx
    rw [go] at hx
    simp only [Bool.false_eq_true, if_false] at hx
    split at hx
    · exact hx
    · rw [kept] at hx
      exact (List.mem_filter.mp hx).1
  exact ⟨(List.mem_filter.mp young).1, Nat.ble_eq.mp (List.mem_filter.mp young).2⟩

/-- Settles O42. -/
theorem nandAndRelocation : Obligations.NandAndRelocation := by
  refine ⟨?_, ?_, ?_, ?_, ?_, ?_, ?_, ?_, ?_, ?_, ?_⟩
  · intro s p u mounted small opened
    have go : (!(s.mounted && Nat.ble p 6)) = false := by simp [mounted, small]
    have run : s.programComplete p [u] true = s.drawChannel.2.programUnit p s.drawChannel.1 u := by
      simp only [State.programComplete, go, Bool.false_eq_true, if_false, if_true, List.foldl_cons, List.foldl_nil]
    refine ⟨_, congrArg Host.Outcome.next run, ?_⟩
    exact State.programUnit_maps (s := s.drawChannel.2) u (opened _ s.drawChannel_le)
  · intro s e background cool low victim opened few room
    have go : (!(s.background && decide ((s.cask.inState 0).length * 1000 < s.nat Obj.gcLowPermille * s.cask.blocks.length) &&
        (!s.governed || decide ((s.cask.inState 0).length * 1000 < s.nat Obj.gcCriticalPermille * s.cask.blocks.length)))) = false := by
      simp [background, cool, low]
    have run : s.collect = (s.relocate e.1 0).bump Obj.gcVictims := by
      simp only [State.collect, go, victim, Bool.false_eq_true, if_false]
    obtain ⟨f, bs, n, us, cs, started⟩ := State.relocate_starts 0 opened few
    have cask : (s.collect).cask = (s.relocate e.1 0).cask := run ▸ State.bump_frame (p := .cask) _ _ (by decide)
    have count : (s.relocate e.1 0).nat Obj.gcVictims = s.nat Obj.gcVictims :=
      State.nat_of_cell (State.cell_of_cat (State.relocate_frame _ _ _ (by decide)) _)
    refine ⟨s.collect, rfl, ?_, ?_, ?_⟩
    · rw [cask, started]
      rfl
    · rw [run]
      exact (State.bump_cell_self _ (by rw [count]; exact room)).trans (by rw [count])
    · rw [cask, started]
  · intro s r there
    refine ⟨s.relocGroup r, ?_, s.relocGroup_phase r, fun k old new copies hinted => State.relocGroup_moves copies hinted⟩
    show Host.Outcome.next (match s.relocAt 1 with | some r => s.relocGroup r | none => s) = _
    rw [there]
  · intro s r b there victim
    refine ⟨_, rfl, ?_⟩
    simp only [State.erasePending, there]
    refine ⟨rfl, ?_, rfl⟩
    show tget (tmod s.cask.blocks r.victim _) r.victim = _
    rw [tget_tmod_self, victim]
    rfl
  · intro s r there
    show Host.Outcome.next (match s.relocAt 3 with | some r => { s with cask.reloc := some { r with phase := 4 } } | none => s) = _
    rw [there]
  · intro s r b there victim
    refine ⟨_, _, rfl, rfl, ?_⟩
    simp only [State.eraseDone, there, Bool.false_eq_true, if_false, if_true]
    obtain ⟨freed, out⟩ := State.freeErased_victim { s with cask.reloc := none } victim
    refine ⟨freed, ?_, out, ?_, State.retireBlock_counts _ _⟩
    · exact State.retireBlock_cask (g := Casket.reloc) _ _ fun _ _ => rfl
    · rw [State.retireBlock_cask (g := Casket.blocks) _ _ fun _ _ => rfl]
      show (tget (tmod s.cask.blocks r.victim _) r.victim).map (·.state) = _
      rw [tget_tmod_self, victim]
      rfl
  · intro s n b there background marked full opened few
    obtain ⟨f, bs, m, us, cs, started⟩ := State.relocate_starts 1 opened few
    have run : s.refresh n = s.relocate n 1 := by
      simp only [State.refresh, there, background, marked, full, BEq.rfl, Bool.and_self, if_true]
    refine ⟨_, congrArg Host.Outcome.next run, ?_⟩
    rw [started]
    rfl
  · intro s e background cool worn hour moves victim opened few
    have go : (!(s.background && !s.governed && decide (s.nat Obj.wearSpreadLimit < s.nat Obj.eraseCountSpread) &&
        decide ((if s.cask.wearHour = s.tai / 3600 then s.cask.wearMoves else 0) < s.nat Obj.wearMovesPerHour))) = false := by
      simp [background, cool, worn, hour, moves]
    obtain ⟨f, bs, m, us, cs, started⟩ := State.relocate_starts (s := { s with
      cask.wearMoves := 1
      cask.wearHour := s.tai / 3600 }) 2 opened few
    have run : s.levelWear = State.relocate { s with
        cask.wearMoves := 1
        cask.wearHour := s.tai / 3600 } e.1 2 := by
      unfold State.levelWear
      dsimp only
      rw [go, victim, if_neg hour]
      exact if_neg (by decide)
    refine ⟨_, congrArg Host.Outcome.next run, ?_⟩
    rw [started]
    exact ⟨rfl, rfl, rfl⟩
  · intro s mounted calm none_ due
    have go : (s.mounted && s.pw.cause == 0 && s.cask.ckpt.isNone &&
        Nat.ble (s.nat Obj.checkpointJournalMiB * 1048576) s.cask.journal) = true := by simp [mounted, calm, none_, due]
    exact ⟨_, congrArg Host.Outcome.next (if_pos go), rfl, rfl, rfl⟩
  · intro s q written mounted calm
    have run : s.rootUpdate = { s.writeRoot q q with
        cask.ckpt := none
        cask.journal := 32 * ((s.writeRoot q q).cask.journalSeq + 1 - q) } := by
      simp only [State.rootUpdate, written, mounted, calm, BEq.rfl, Bool.and_self, if_true]
    have cask : (s.writeRoot q q).cask = s.cask := State.writeRoot_frame (p := .cask) _ _ _ (by decide)
    refine ⟨_, congrArg Host.Outcome.next run, rfl, ?_, ?_⟩
    · rw [cask]
    · exact s.commitPaired_cell_first _ _ (by decide) (by decide)
  · intro s mounted calm media
    have go : (!(s.mounted && s.pw.cause == 0 && s.nat Obj.mediaState == 0)) = false := by simp [mounted, calm, media]
    refine ⟨_, rfl, s.archiveDiscard_keeps go, fun fits => ?_⟩
    have shorter : (s.nand.archive.filter fun x => Nat.ble s.tai (x.time + s.nat Obj.archiveRetentionDays * 86400)).length -
        s.archiveRoom = 0 := Nat.sub_eq_zero_of_le (Nat.le_trans (List.length_filter_le _ _) fits)
    unfold State.archiveDiscard
    rw [go]
    exact congrArg (fun u : State => u.nand.archive) ((if_neg (by decide)).trans (if_pos shorter))

end Sys2Proof.Machine

namespace Sys2Proof.Machine

set_option Elab.async false

/-! ## What the checks of a write read (R353, R354) -/

/-- Two states that agree on all that the checks of a write read: the catalogue but for the count of requests, the stores and what they
wait for, NAND, the time, and the values in force. -/
structure State.Alike (s t : State) : Prop where
  get : ∀ {k : Nat}, k ≠ Obj.capRequests → t.get k = s.get k
  stores : t.stores = s.stores
  nand : t.nand = s.nand
  time : t.time = s.time
  inForce : t.inForce = s.inForce

theorem State.taken_alike (s : State) (r : CapReq) (ses : Session) : s.Alike (s.taken r ses) where
  get h := s.taken_cell r ses h
  stores := (s.bump_fields Obj.capRequests).2.2.2.1
  nand := s.taken_nand r ses
  time := s.taken_time r ses
  inForce := s.taken_frame (p := .inForce) r ses (by decide)

theorem State.executing_alike (s : State) (r : CapReq) (ses : Session) : s.Alike (s.executing r ses) := by
  obtain ⟨-, -, time, -, -, nand, -, -, -, -, -, -, -, -, -, -, -, -, stores, inForce, -⟩ := s.executing_fields r ses
  exact ⟨fun h => s.executing_cell r ses h, stores, nand, time, inForce⟩

/-- The keys of the calendars lie beyond those of the diagnostics. -/
theorem calendarKeys_ne (n : Nat) :
    Obj.calendarActive n ≠ Obj.capRequests ∧ Obj.calendarPassive n ≠ Obj.capRequests ∧ Obj.calendarRetired n ≠ Obj.capRequests := by
  unfold Obj.calendarActive Obj.calendarPassive Obj.calendarRetired Obj.capRequests
  omega

section
variable {s t : State} (a : s.Alike t)
include a

theorem State.Alike.nat {k : Nat} (h : k ≠ Obj.capRequests) : t.nat k = s.nat k := congrArg Int.toNat (a.get h)

theorem State.Alike.forced (k : Nat) : t.forced k = s.forced k := by rw [State.forced, a.inForce, State.forced]

theorem State.Alike.ahead {k : Nat} (h : k ≠ Obj.capRequests) : t.ahead k = s.ahead k := by
  rw [State.ahead, State.ahead, a.stores, a.get h]

theorem State.Alike.aheadNat {k : Nat} (h : k ≠ Obj.capRequests) : t.aheadNat k = s.aheadNat k := congrArg Int.toNat (a.ahead h)

/-- The objects summed lie apart from the count of requests. -/
theorem State.Alike.sumWith {first step n : Nat} (k v : Nat) (h : ∀ i < n, first + step * i ≠ Obj.capRequests) :
    t.sumWith first step n k v = s.sumWith first step n k v := by
  unfold State.sumWith
  refine congrArg List.sum (List.map_congr_left fun i hi => ?_)
  rw [a.aheadNat (h i (List.mem_range.mp hi))]

theorem State.Alike.now : t.now = s.now := State.now_of_time a.time

theorem State.Alike.billSec : t.billSec = s.billSec := by
  unfold State.billSec State.billNow State.billAt State.lagNs
  rw [a.now, a.time]

theorem State.Alike.offsetAt (x : Nat) : t.offsetAt x = s.offsetAt x := by
  unfold State.offsetAt State.offsetKnown State.pendingLeap
  simp (disch := decide) only [a.get, a.nat]

theorem State.Alike.utcOf (x : Nat) : t.utcOf x = s.utcOf x := by
  unfold State.utcOf
  simp only [a.offsetAt]

theorem State.Alike.localAt (g x : Nat) : t.localAt g x = s.localAt g x := by rw [State.localAt, a.utcOf, State.localAt]

theorem State.Alike.suits (g active x : Nat) : t.suits g active x = s.suits g active x := by
  simp only [State.suits, State.onL, a.localAt]

theorem State.Alike.fiveMinutes (n x : Nat) : t.fiveMinutes n x = s.fiveMinutes n x := by
  induction n generalizing x with
  | zero => rfl
  | succ n ih => simp only [State.fiveMinutes, a.utcOf, ih]

theorem State.Alike.nextSuits (g active n x : Nat) : t.nextSuits g active n x = s.nextSuits g active n x := by
  induction n generalizing x with
  | zero => rfl
  | succ n ih => simp only [State.nextSuits, a.fiveMinutes, a.suits, ih]

theorem State.Alike.image (bank c : Nat) : t.image bank c = s.image bank c := by
  obtain ⟨active, passive, retired⟩ := calendarKeys_ne c
  rw [State.image, State.image, a.nat active, a.nat passive, a.nat retired]

theorem State.Alike.imageAt (c x : Nat) : t.imageAt c x = s.imageAt c x := by
  unfold State.imageAt
  simp only [a.image]

theorem State.Alike.marksAt (c x : Nat) : t.marksAt c x = s.marksAt c x := by
  unfold State.marksAt
  simp only [a.imageAt, a.localAt]

theorem State.Alike.activationOk (g : Nat) : t.activationOk g = s.activationOk g := by
  unfold State.activationOk
  rw [a.billSec, a.image, a.suits]

theorem State.Alike.rulesBase (k n : Nat) (v : Int) : t.rulesBase k n v = s.rulesBase k n v := by
  have sum := a.sumWith (first := 0x102201) (step := 1) (n := 96) k n fun i hi => by unfold Obj.capRequests; omega
  unfold State.rulesBase State.bitOf State.fitsField
  simp (disch := decide) only [a.nat, a.get, a.aheadNat, a.forced, a.nand, sum]

theorem State.Alike.rulesTime (k n : Nat) : t.rulesTime k n = s.rulesTime k n := by
  unfold State.rulesTime
  simp (disch := decide) only [a.aheadNat]

theorem State.Alike.rulesRadio (k n : Nat) : t.rulesRadio k n = s.rulesRadio k n := by
  unfold State.rulesRadio
  rw [a.sumWith k n fun i hi => by unfold Obj.capRequests; omega]

theorem State.Alike.rulesLine (k n : Nat) : t.rulesLine k n = s.rulesLine k n := by
  have profile (l : Nat) : Obj.laneProfile l ≠ Obj.capRequests := by unfold Obj.laneProfile Obj.capRequests; omega
  have chain (l : Nat) : Obj.chainEnable l ≠ Obj.capRequests := by unfold Obj.chainEnable Obj.capRequests; omega
  have mask (l : Nat) : Obj.toneMask l ≠ Obj.capRequests := by unfold Obj.toneMask Obj.capRequests; omega
  unfold State.rulesLine
  simp only [a.aheadNat (profile _), a.aheadNat (chain _), a.aheadNat (mask _), a.aheadNat (k := Obj.lqGood) (by decide),
    a.aheadNat (k := Obj.lqMin) (by decide)]

theorem State.Alike.rulesNet (k n : Nat) : t.rulesNet k n = s.rulesNet k n := by
  have xon (p : Nat) : Obj.pauseXonBytes p ≠ Obj.capRequests := by unfold Obj.pauseXonBytes Obj.capRequests; omega
  have xoff (p : Nat) : Obj.pauseXoffBytes p ≠ Obj.capRequests := by unfold Obj.pauseXoffBytes Obj.capRequests; omega
  unfold State.rulesNet
  simp only [a.aheadNat (xon _), a.aheadNat (xoff _)]

theorem State.Alike.rulesCalendar (k g : Nat) : t.rulesCalendar k g = s.rulesCalendar k g := by
  unfold State.rulesCalendar
  simp only [a.activationOk, a.nextSuits, a.image, a.billSec]

theorem State.Alike.rulesRest (k n : Nat) : t.rulesRest k n = s.rulesRest k n := by
  have admission := a.sumWith (first := 0x800101) (step := 1) (n := 8) k n fun i hi => by unfold Obj.capRequests; omega
  have tenants := a.sumWith (first := 0x800201) (step := 1) (n := 8) k n fun i hi => by unfold Obj.capRequests; omega
  unfold State.rulesRest State.numbered State.priceOk
  dsimp only
  rw [a.nand, a.rulesCalendar, a.billSec, a.marksAt, admission, tenants, a.aheadNat (k := Obj.stormExitCount) (by decide),
    a.aheadNat (k := Obj.stormEnterCount) (by decide), a.aheadNat (k := Obj.gcCriticalPermille) (by decide),
    a.aheadNat (k := Obj.gcLowPermille) (by decide), a.nat (k := Obj.registryLimit) (by decide)]

theorem State.Alike.rules (k : Nat) (v : Int) : t.rules k v = s.rules k v := by
  unfold State.rules
  dsimp only
  rw [a.rulesBase, a.rulesTime, a.rulesRadio, a.rulesLine, a.rulesNet, a.rulesRest]

theorem State.Alike.writeAccess (k : Nat) (r : ObjRow) : t.writeAccess k r = s.writeAccess k r := by
  rw [State.writeAccess, State.sealedAgainst, a.nat (by decide), State.writeAccess, State.sealedAgainst]

theorem State.Alike.checkValue (k : Nat) (r : ObjRow) (length raw : Nat) : t.checkValue k r length raw = s.checkValue k r length raw := by
  unfold State.checkValue
  dsimp only
  rw [a.rules]

theorem State.Alike.writeCheck (ses : Session) (i n length raw : Nat) :
    t.writeCheck ses i n length raw = s.writeCheck ses i n length raw := by
  unfold State.writeCheck
  simp only [a.writeAccess, a.checkValue]

/-- The check of a bundle of one entry is that of its write. -/
theorem State.Alike.bundleCheck (b : BundleEntry) : t.bundleCheck 0 [b] = s.bundleCheck 0 [b] := by
  simp only [State.bundleCheck, a.writeCheck]

end

end Sys2Proof.Machine

namespace Sys2Proof.Machine

set_option Elab.async false

/-! ## Reads, writes, bundles and the images of the paired stores (R353 to R371) -/

/-- A message that CAP takes and whose body answers nothing has the body's effect alone. -/
theorem State.capMessage_waits {s u : State} {r : CapReq} {m : CapMsg} {kind : Nat} {ses : Session}
    {body : Session → State → Option CapOut × State} (takes : s.Takes r kind m.index m.sub ses) (version : m.version = 1)
    (length : m.lengthAgrees = true) (act : body ses (s.taken r ses) = (none, u)) : s.capMessage r m kind body = u := by
  obtain ⟨opened, closing, mail, fresh, room, ready⟩ := takes
  have run := s.capRun_takes r kind m.index m.sub (fun _ => true) body ses opened closing mail fresh room ready rfl
  rw [act] at run
  have runs : (ses.closing || (r.sess == 0 && !s.hif.mb.busy)) = false := by
    by_cases z : r.sess = 0
    · simp [closing, mail z]
    · simp [closing, z]
  unfold State.capMessage
  rw [opened]
  dsimp only
  rw [runs, if_neg Bool.false_ne_true, length, if_neg (by decide), if_neg (by simp [version]), run]

/-- What a write that passes its checks names. -/
theorem State.writeCheck_ok {s : State} {ses : Session} {i n length raw : Nat} {row : ObjRow} {v : Int}
    (h : s.writeCheck ses i n length raw = .ok (row, v)) : findObject i n = .ok row ∧ (row.acc = .rw ∨ row.acc = .rws) := by
  unfold State.writeCheck at h
  dsimp only at h
  iterate 5 (split at h; · exact nomatch h)
  split at h
  · exact nomatch h
  · next found =>
    split at h
    · exact nomatch h
    · next access =>
      split at h
      · exact nomatch h
      · obtain ⟨rfl, rfl⟩ := Prod.mk.inj (Except.ok.inj h)
        refine ⟨found, ?_⟩
        unfold State.writeAccess at access
        split at access
        · exact nomatch access
        · next may =>
          by_contra neither
          obtain ⟨notRw, notRws⟩ := not_or.mp neither
          simp [notRw, notRws] at may

/-- The row that is found is that of the catalogue. -/
theorem findObject_row {i n : Nat} {row : ObjRow} (h : findObject i n = .ok row) : Cat.row (256 * i + n) = some row ∧ n < 256 := by
  unfold findObject at h
  split at h
  · exact nomatch h
  · split at h
    · next found =>
      split at h
      · next low => exact ⟨Except.ok.inj h ▸ found, low⟩
      · exact nomatch h
    · exact nomatch h

/-- The count of requests is no object that a principal writes. -/
theorem key_ne_capRequests {i n : Nat} {row : ObjRow} (found : findObject i n = .ok row) (acc : row.acc = .rw ∨ row.acc = .rws) :
    256 * i + n ≠ Obj.capRequests := by
  intro same
  have counted : (Cat.row Obj.capRequests).map (fun r => r.acc) = some .rc := by decide
  rw [← same, (findObject_row found).1] at counted
  have rc : row.acc = .rc := Option.some.inj counted
  rw [rc] at acc
  exact acc.elim nofun nofun

/-- An image's change of a tenant object has no further effect (R359). -/
theorem State.landed_tenant (s : State) {k : Nat} (old new : Int) (low : 0x5000 ≤ k / 256) (high : k / 256 < 0x6000) :
    s.landed k old new = s := by
  have apart {j : Nat} (out : j < 0x500000 ∨ 0x600000 ≤ j) : k ≠ j := by omega
  unfold State.landed
  dsimp only
  rw [if_neg (by omega)]
  split
  · rfl
  · unfold State.landedClasp
    rw [if_neg (apart (by decide)), if_neg (apart (by decide)), if_neg (by omega), if_neg (by omega), if_neg (by omega),
      if_neg (by omega), if_neg (apart (by decide)), if_neg (by omega), if_neg (by omega), if_neg (apart (by decide))]

/-- The tenant objects are none that the recorder or CAP writes. -/
theorem tenantKey_unrecorded {k : Nat} (low : 0x5000 ≤ k / 256) (high : k / 256 < 0x6000) :
    Unrecorded k ∧ k ≠ Obj.capErrors ∧ k ≠ Obj.capRequests ∧ k ≠ Obj.catalogueBundleCounter := by
  have apart {j : Nat} (out : j < 0x500000 ∨ 0x600000 ≤ j) : k ≠ j := by omega
  refine ⟨⟨.inl (by omega), fun mem => ?_⟩, apart (by decide), apart (by decide), apart (by decide)⟩
  have out : ∀ j ∈ recorderCells, j < 0x500000 ∨ 0x600000 ≤ j := by decide
  exact apart (out k mem) rfl

/-- A chain of choices is none wherever each of its parts is. -/
theorem ite_none_mono {α : Type} {c : Prop} [Decidable c] {o p x y : Option α} (head : o = none → p = none) (rest : x = none → y = none) :
    (if c then o else x) = none → (if c then p else y) = none := by
  split
  · exact head
  · exact rest

/-- A view is none in a state that agrees on the stores and the tamper sources. -/
theorem State.taken_shown {s : State} {k : Nat} (r : CapReq) (ses : Session) (low : s.shownLow k = none) (high : s.shownHigh k = none)
    (apart : k ≠ Obj.capRequests) : (s.taken r ses).shown k = s.get k := by
  have a := s.taken_alike r ses
  have bat : (s.taken r ses).bat = s.bat := s.taken_frame (p := .bat) r ses (by decide)
  have lower : (s.taken r ses).shownLow k = none := by
    revert low
    unfold State.shownLow
    dsimp only
    rw [a.stores]
    repeat' apply ite_none_mono
    all_goals simp
  have upper : (s.taken r ses).shownHigh k = none := by
    revert high
    unfold State.shownHigh
    dsimp only
    rw [bat]
    repeat' apply ite_none_mono
    all_goals simp
  unfold State.shown
  rw [lower, upper, ite_self]
  exact a.get apart

/-- A Read answers an object kept in the catalogue (R354, R357). -/
theorem State.readObject_kept {s : State} {ses x : Session} {m : CapMsg} {row : ObjRow} (r : CapReq) (sub : 1 ≤ m.sub)
    (found : findObject m.index m.sub = .ok row) (acc : row.acc = .rw) (may : ses.mayRead (256 * m.index + m.sub) = true)
    (offset : m.offset = 0) (index : m.index < 0xF000) (count : (Cat.count m.index).isSome = true)
    (low : s.shownLow (256 * m.index + m.sub) = none) (high : s.shownHigh (256 * m.index + m.sub) = none) :
    (s.taken r x).readObject ses m =
      (capVal row.ty.size (enc row.ty.size (s.get (256 * m.index + m.sub))), s.taken r x) := by
  obtain ⟨n, counted⟩ := Option.isSome_iff_exists.mp count
  have shown := State.taken_shown r x low high (key_ne_capRequests found (.inl acc))
  unfold State.readObject
  dsimp only
  rw [if_neg (Nat.not_le.mpr index), counted]
  dsimp only
  rw [if_neg (Nat.ne_of_gt sub), found]
  dsimp only
  rw [may, if_neg (by decide), acc, if_neg (by decide), State.wire, shown, offset, State.clearRead, acc, if_neg (by decide), capFrom,
    Nat.pow_zero, Nat.div_one, Nat.sub_zero, capVal]

/-- A paired object's write that finds room joins the image of its store, whatever waits there (R371). -/
theorem State.writeNow_paired {s u : State} {ses : Session} {r : CapReq} {kind i n length raw : Nat} {row : ObjRow} {w : Int} {p : PStore}
    (a : s.Alike u) (check : s.writeCheck ses i n length raw = .ok (row, w)) (paired : row.pers = .paired)
    (store : s.stores[storeOf (256 * i + n)]? = some p) (room : p.overflows [(256 * i + n, w)] = false) :
    u.writeNow ses r kind i n length raw = (none, { u with
      stores := lmod s.stores (storeOf (256 * i + n)) (·.take ⟨r.sess, r.tag, kind, 256 * i + n, w⟩) }) := by
  unfold State.writeNow
  rw [a.writeCheck, check]
  dsimp only
  unfold State.writeObject
  rw [paired]
  dsimp only
  rw [a.stores, store]
  dsimp only
  rw [room, if_neg (by decide)]

/-- A Write of a paired object that passes its checks waits in its store (R355, R371). -/
theorem State.capWrite_waits {s : State} {r : CapReq} {m : CapMsg} {ses : Session} {row : ObjRow} {p : PStore} {n : Nat} {v w : Int}
    (takes : s.Takes r 2 m.index m.sub ses) (version : m.version = 1) (agrees : m.lengthAgrees = true) (offset : m.offset = 0)
    (check : s.writeCheck ses m.index m.sub n (enc n v) = .ok (row, w)) (paired : row.pers = .paired)
    (store : s.stores[storeOf (256 * m.index + m.sub)]? = some p) (room : p.overflows [(256 * m.index + m.sub, w)] = false) :
    (s.capWrite r m n v false).get (256 * m.index + m.sub) = s.get (256 * m.index + m.sub) ∧
      (s.capWrite r m n v false).stores[storeOf (256 * m.index + m.sub)]? =
        some (p.take { sess := r.sess, tag := r.tag, kind := 2, key := 256 * m.index + m.sub, val := w }) := by
  obtain ⟨found, acc⟩ := State.writeCheck_ok check
  have run : s.capWrite r m n v false = { s.taken r ses with
      stores := lmod s.stores (storeOf (256 * m.index + m.sub)) (·.take ⟨r.sess, r.tag, 2, 256 * m.index + m.sub, w⟩) } := by
    refine State.capMessage_waits takes version agrees ?_
    dsimp only
    rw [if_neg (not_not.mpr offset), if_neg (by decide)]
    exact State.writeNow_paired (s.taken_alike r ses) check paired store room
  rw [run]
  refine ⟨s.taken_cell r ses (key_ne_capRequests found acc), ?_⟩
  show (lmod s.stores _ _)[_]? = _
  rw [lmod_getElem?_self, store]
  rfl

/-- A Write that a check refuses is answered with the error of the check, and changes nothing (R354). -/
theorem State.capWrite_refused {s : State} {r : CapReq} {m : CapMsg} {ses : Session} {n : Nat} {v : Int} {o : CapOut}
    (takes : s.Takes r 2 m.index m.sub ses) (version : m.version = 1) (agrees : m.lengthAgrees = true) (offset : m.offset = 0)
    (check : s.writeCheck ses m.index m.sub n (enc n v) = .error o) :
    s.capWrite r m n v false = (s.taken r ses).respond r.sess (o.toResp r.tag 2 m.index m.sub) true := by
  refine State.capMessage_answers takes version agrees ?_
  dsimp only
  rw [if_neg (not_not.mpr offset), if_neg (by decide), State.writeNow, (s.taken_alike r ses).writeCheck, check]

/-- An Administrator's Write of an object that no seal guards is checked as its value is. -/
theorem State.writeCheck_open {s : State} {ses : Session} {i n length raw : Nat} {row : ObjRow} {v : Int} (role : ses.role = 0)
    (index : i < 0xF000) (count : (Cat.count i).isNone = false) (sub : n ≠ 0) (found : findObject i n = .ok row) (acc : row.acc = .rw)
    (key : (256 * i + n == Obj.logCapacity 0) = false) (value : s.checkValue (256 * i + n) row length raw = .ok v) :
    s.writeCheck ses i n length raw = .ok (row, v) := by
  have exists_ : ¬(n ≠ 0 ∧ (Cat.row (256 * i + n)).isNone = true) := by simp [(findObject_row found).1]
  have may : ses.mayWrite (256 * i + n) = true := by simp only [Session.mayWrite, role]
  have access : s.writeAccess (256 * i + n) row = none := by
    rw [State.writeAccess, State.sealedAgainst, acc, key, if_neg (by decide), if_neg (by simp)]
  unfold State.writeCheck
  dsimp only
  rw [if_neg (Nat.not_le.mpr index), count, if_neg (by decide), if_neg exists_, may, if_neg (by decide), if_neg sub, found]
  dsimp only
  rw [access]
  dsimp only
  rw [value]

/-- The row of ServoOwner. -/
def servoOwnerRow : ObjRow := ⟨0x1800, 0x1800, 1, 1, .u 1, .rw, .paired, 0, some (0, 1)⟩

/-- The row of TaiUtcOffsetS. -/
def taiUtcOffsetRow : ObjRow := ⟨0x1803, 0x1803, 4, 4, .i 2, .rw, .paired, (-32768), some (0, 255)⟩

/-- What makes a value pass its checks: its length, its type's and its range's bounds, its rules (R353, R354). -/
theorem State.checkValue_ok {s : State} {k : Nat} {row : ObjRow} {length raw : Nat} {v : Int} (size : length = row.ty.size)
    (read : row.ty.decode raw = v) (plain : (Nat.ble 0x610000 k && Nat.blt k 0x610400) = false) (whole : usedBits k = none)
    (type : row.ty.breaks v = false) (range : (row.range.map fun b => decide (v < b.1) || decide (b.2 < v)).getD false = false)
    (rules : s.rules k v = none) : s.checkValue k row length raw = .ok v := by
  have used : usedValue k v = v := by rw [usedValue, whole]
  unfold State.checkValue
  simp only [read, plain, used, type, range, rules, size, ne_eq, not_true_eq_false, Bool.false_eq_true, if_false]

theorem State.servoOwner_check (s : State) {ses : Session} {owner : Nat} (role : ses.role = 0) (h : owner ≤ 1) :
    s.writeCheck ses 0x1800 1 1 (enc 1 owner) = .ok (servoOwnerRow, (owner : Int)) := by
  refine State.writeCheck_open role (by decide) (by decide) (by decide) (by decide) (by decide) (by decide) ?_
  have rules : s.rules 0x180001 owner = none := by
    unfold State.rules
    dsimp only
    rw [if_neg (by decide), if_pos (by decide), State.rulesTime, if_neg (by decide), if_neg (by decide), if_neg (by decide)]
  obtain rfl | rfl : owner = 0 ∨ owner = 1 := by omega
  · exact State.checkValue_ok rfl (by decide) (by decide) (by decide) (by decide) (by decide) rules
  · exact State.checkValue_ok rfl (by decide) (by decide) (by decide) (by decide) (by decide) rules

theorem State.taiUtcOffset_check (s : State) {ses : Session} {off : Nat} (role : ses.role = 0) (h : off ≤ 255) :
    s.writeCheck ses 0x1803 4 2 (enc 2 off) = .ok (taiUtcOffsetRow, (off : Int)) := by
  refine State.writeCheck_open role (by decide) (by decide) (by decide) (by decide) (by decide) (by decide) ?_
  have rules : s.rules 0x180304 off = none := by
    unfold State.rules
    dsimp only
    rw [if_neg (by decide), if_pos (by decide), State.rulesTime, if_neg (by decide), if_neg (by decide), if_neg (by decide)]
  have read : taiUtcOffsetRow.ty.decode (enc 2 off) = off := by
    simp only [taiUtcOffsetRow, Ty.decode, sgn, enc]
    omega
  refine State.checkValue_ok rfl read (by decide) (by decide) ?_ ?_ rules
  · have low : ¬(off : Int) < -(256 ^ 2 / 2 : Nat) := by omega
    have high : ¬((256 ^ 2 / 2 : Nat) - 1 : Int) < off := by omega
    exact congrArg₂ (· || ·) (congrArg₂ (· || ·) (decide_eq_false low) (decide_eq_false high)) rfl
  · simp [taiUtcOffsetRow]
    omega

/-- A bundle of one paired object of a tenant, applied: its counter and its value are shown, and no session moves (R367). -/
theorem State.bundleApply_one (s : State) (counter : Nat) {k : Nat} {row : ObjRow} (v : Int) (paired : row.pers = .paired)
    (low : 0x5000 ≤ k / 256) (high : k / 256 < 0x6000) :
    (s.bundleApply counter [(k, row, v)]).get Obj.catalogueBundleCounter = (counter : Int) ∧
      (s.bundleApply counter [(k, row, v)]).get k = v ∧
      Part.of .sessions (s.bundleApply counter [(k, row, v)]) = Part.of .sessions s := by
  obtain ⟨plain, -, -, apart⟩ := tenantKey_unrecorded low high
  have run : s.bundleApply counter [(k, row, v)] = ({ s with
      hall.writes := s.hall.writes + ([(k, row, v)].filter fun e => e.2.1.acc == .rws).length } : State).commitPaired
      [(Obj.catalogueBundleCounter, (counter : Int)), (k, v)] := by
    have unsealed : (Pers.paired == Pers.seal) = false := rfl
    unfold State.bundleApply
    simp only [List.filter_cons, List.filter_nil, paired, beq_self_eq_true, if_true, List.map_cons, List.map_nil, List.zip_cons_cons,
      List.zip_nil_right, List.foldl_cons, List.foldl_nil, reduceCtorEq, if_false, State.landed_tenant _ _ _ low high,
      unsealed, Bool.false_eq_true]
  have writes : k ≠ Obj.storeWrites := plain.ne _
  exact ⟨run ▸ State.commitPaired_cell_first _ _ _ apart.symm (by decide), run ▸ State.commitPaired_cell_last _ [_] k v writes,
    State.bundleApply_frame _ _ _ (by decide)⟩

/-- A bundle whose image failed twice leaves the objects but those of the recorder and the stores' count (R371). -/
theorem State.bundleFails_cell (s : State) (n : Nat) (l : List (Nat × ObjRow × Int)) {k : Nat} (h : Unrecorded k) :
    (s.bundleFails n l).cell k = s.cell k :=
  (State.logOpFree_cell _ _ _ h).trans (State.bumpBy_cell _ _ _ (h.ne _))

/-- A bundle of one entry that passes its checks names that entry. -/
theorem State.bundleSubmit_passes {s : State} {r : CapReq} {ses : Session} {e : Epmeir} {b : BundleEntry} {row : ObjRow} {v : Int}
    (admits : s.Admits r Obj.catalogueBundleSubmit ses) (container : s.containerCheck e 5 true = none)
    (signed : s.anchorHas 2 0 e.signer = true) (fresh : s.nat Obj.catalogueBundleCounter < e.counter)
    (check : s.bundleCheck 0 [b] = .ok [(256 * b.index + b.sub, row, v)]) (paired : row.pers = .paired)
    (room : s.bundleRoom [(256 * b.index + b.sub, v)] = none) (failed : Option Nat) {o : CapOut} {u : State}
    (act : (match failed.filter (bundleStores [(256 * b.index + b.sub, row, v)]).contains with
      | some n => (capErr 21 n, (s.executing r ses).bundleFails n [(256 * b.index + b.sub, row, v)])
      | none => (capOk, (s.executing r ses).bundleApply e.counter [(256 * b.index + b.sub, row, v)])) = (o, u))
    (kept : Part.of .sessions u = Part.of .sessions (s.executing r ses)) :
    ∃ t, exec (.catalogueBundleSubmit r e [b] failed) s = .next t ∧ t.Answers u r Obj.catalogueBundleSubmit o := by
  have a := s.executing_alike r ses
  have signed' : (s.executing r ses).anchorHas 2 0 e.signer = true := by
    rwa [State.anchorHas, s.executing_anchors r ses]
  have room' : (s.executing r ses).bundleRoom ([(256 * b.index + b.sub, row, v)].map fun x => (x.1, x.2.2)) = none := by
    rw [State.bundleRoom, a.stores]
    exact room
  have unsealed : (Pers.paired == Pers.seal) = false := rfl
  have run : ∃ t, s.bundleSubmit r e [b] failed = t ∧ t.Answers u r Obj.catalogueBundleSubmit o := by
    unfold State.bundleSubmit
    refine State.capExec_answers admits ?_ kept
    dsimp only
    rw [s.executing_containerCheck, container]
    dsimp only
    rw [signed', if_neg (by decide), a.nat (by decide), if_neg (Nat.not_le.mpr fresh), a.bundleCheck, check]
    dsimp only
    rw [room']
    dsimp only
    rw [List.any_cons, List.any_nil, paired, unsealed, if_neg (by decide)]
    exact act
  obtain ⟨t, run, answers⟩ := run
  exact ⟨t, congrArg Host.Outcome.next run, answers⟩

/-- The store of a tenant object is among those that its bundle rewrites. -/
theorem bundleStores_tenant {k : Nat} {row : ObjRow} (v : Int) (paired : row.pers = .paired) (low : 0x5000 ≤ k / 256)
    (high : k / 256 < 0x6000) : (bundleStores [(k, row, v)]).contains (storeOf k) = true := by
  have store : storeOf k = 8 := by
    unfold storeOf
    dsimp only
    rw [if_neg (by omega), if_neg (by omega), if_neg (by omega), if_neg (by omega), if_neg (by omega), if_neg (by omega),
      if_neg (by omega), if_neg (by omega), if_pos high]
  have same : (Pers.paired == Pers.paired) = true := rfl
  simp [bundleStores, paired, store, same]

/-- A write that lands on a tenant object is shown, and answered on its session (R371). -/
theorem State.landWrite_tenant {s : State} {w : Waiter} {ses : Session} (low : 0x5000 ≤ w.key / 256) (high : w.key / 256 < 0x6000)
    (opened : tget s.sessions w.sess = some ses) (closing : ses.closing = false) :
    (s.landWrite w).get w.key = w.val ∧
      (s.landWrite w).Replied { sess := w.sess, tag := w.tag } w.kind (w.key / 256) (w.key % 256) capOk := by
  obtain ⟨-, errors, -⟩ := tenantKey_unrecorded low high
  unfold State.landWrite
  dsimp only
  rw [State.landed_tenant _ _ _ low high]
  have counted : (if ((Cat.row w.key).map fun r => r.acc == .rws).getD false then
      { s with hall.writes := s.hall.writes + 1 } else s).sessions = s.sessions := by split <;> rfl
  generalize (if ((Cat.row w.key).map fun r => r.acc == .rws).getD false then
      { s with hall.writes := s.hall.writes + 1 } else s) = u at counted
  have shown : (u.set w.key w.val).get w.key = w.val := u.set_cell_self w.key w.val
  have opened' : tget (u.set w.key w.val).sessions w.sess = some ses := (congrArg (fun x => tget x w.sess) counted).trans opened
  exact ⟨(State.respond_cell _ _ _ _ errors).trans shown, State.respond_replied _ _ _ _ opened' closing⟩

/-- An image of one write that passes commits it (R371). -/
theorem State.storeProgrammed_passes {s : State} {n : Nat} {p : PStore} {w : Waiter} {ses : Session} (store : s.stores[n]? = some p)
    (prog : p.prog = [w]) (awake : s.awake = true) (late : s.lateRefusal w = none) (low : 0x5000 ≤ w.key / 256)
    (high : w.key / 256 < 0x6000) (opened : tget s.sessions w.sess = some ses) (closing : ses.closing = false) :
    (s.storeProgrammed n true).get w.key = w.val ∧
      (s.storeProgrammed n true).Replied { sess := w.sess, tag := w.tag } w.kind (w.key / 256) (w.key % 256) capOk := by
  have good : (p.prog.filter fun w => (s.lateRefusal w).isNone) = [w] := by
    rw [prog, List.filter_cons_of_pos (by rw [late]; rfl), List.filter_nil]
  have bad : (p.prog.filterMap fun w => (s.lateRefusal w).map fun o => (w, o)) = [] := by
    rw [prog, List.filterMap_cons_none (by rw [late]; rfl), List.filterMap_nil]
  unfold State.storeProgrammed
  rw [store]
  dsimp only
  rw [good, bad, prog, awake, if_neg (by simp), if_pos rfl]
  have opened' (q : PStore) : tget (({ s with stores := s.stores.set n q } : State).bump Obj.storeWrites).sessions w.sess = some ses := by
    rw [(State.bump_fields _ _).2.2.2.2.2.1]
    exact opened
  exact State.landWrite_tenant low high (opened' _) closing

/-- An image of one write that fails once is programmed again; the second failure refuses the write (R371). -/
theorem State.storeProgrammed_fails {s : State} {n : Nat} {p : PStore} {w : Waiter} {ses : Session} (store : s.stores[n]? = some p)
    (prog : p.prog = [w]) (awake : s.awake = true) (power : s.pins.pfi = false) (cause : s.pw.cause = 0)
    (opened : tget s.sessions w.sess = some ses) (closing : ses.closing = false) :
    (p.tries = 0 → s.storeProgrammed n false = { s with stores := s.stores.set n { p with tries := 1 } }) ∧
      (p.tries ≠ 0 → 0x5000 ≤ w.key / 256 → w.key / 256 < 0x6000 → (s.storeProgrammed n false).get w.key = s.get w.key ∧
        (s.storeProgrammed n false).Replied { sess := w.sess, tag := w.tag } w.kind (w.key / 256) (w.key % 256) (capErr 21 n)) := by
  have runs : (s.pins.pfi || s.pw.cause != 0) = false := by rw [power, cause]; rfl
  unfold State.storeProgrammed
  rw [store]
  dsimp only
  rw [runs, prog, awake, if_neg (by simp), if_neg (by decide), if_neg (by decide)]
  refine ⟨fun first => if_pos first, fun second low high => ?_⟩
  obtain ⟨plain, errors, -⟩ := tenantKey_unrecorded low high
  rw [if_neg second]
  generalize p.next false = q
  have kept : (({ s with stores := s.stores.set n q } : State).logOpFree 8 n).sessions = s.sessions :=
    State.logOpFree_frame (p := .sessions) _ _ _ (by decide)
  have opened' : tget (({ s with stores := s.stores.set n q } : State).logOpFree 8 n).sessions w.sess = some ses :=
    (congrArg (fun x => tget x w.sess) kept).trans opened
  exact ⟨(State.respond_cell _ _ _ _ errors).trans (State.logOpFree_cell _ _ _ plain), State.respond_replied _ _ _ _ opened' closing⟩

/-- Settles O48. -/
theorem catalogueAccess : Obligations.CatalogueAccess := by
  unfold Obligations.CatalogueAccess
  refine ⟨?read, ?write, ?refused, ?owner, ?offset, ?bundle, ?passes, ?fails⟩
  case read =>
    intro s r m ses row takes version agrees sub found acc may offset index count low high
    have run := State.capMessage_answers (body := fun ses s => (some (s.readObject ses m).1, (s.readObject ses m).2))
      (o := capVal row.ty.size (enc row.ty.size (s.get (256 * m.index + m.sub)))) (u := s.taken r ses) takes version agrees
      (by rw [State.readObject_kept r sub found acc may offset index count low high])
    refine ⟨_, congrArg Host.Outcome.next run, (State.respond_nand _ _ _ _).trans (s.taken_nand r ses), State.respond_answers takes rfl⟩
  case write =>
    intro s r m ses row p n v w takes version agrees offset check paired store room
    exact ⟨_, rfl, State.capWrite_waits takes version agrees offset check paired store room⟩
  case refused =>
    intro s r m ses n v o takes version agrees offset check
    have run := State.capWrite_refused takes version agrees offset check
    refine ⟨_, congrArg Host.Outcome.next run, State.respond_answers takes rfl, ?_, ?_⟩
    · exact (State.respond_frame (p := .stores) _ _ _ _ (by decide)).trans (s.taken_alike r ses).stores
    · rw [State.respond_nand, s.taken_nand]
  case owner =>
    intro s r ses p owner takes role low store room
    exact ⟨_, rfl, State.capWrite_waits takes rfl rfl rfl (s.servoOwner_check role low) rfl store room⟩
  case offset =>
    intro s r ses p off takes role low store room
    exact ⟨_, rfl, State.capWrite_waits takes rfl rfl rfl (s.taiUtcOffset_check role low) rfl store room⟩
  case bundle =>
    intro s r ses e b row v admits container signed fresh check paired low high sub room
    have low' : 0x5000 ≤ (256 * b.index + b.sub) / 256 := by omega
    have high' : (256 * b.index + b.sub) / 256 < 0x6000 := by omega
    obtain ⟨plain, errors, requests, -⟩ := tenantKey_unrecorded low' high'
    have counter : Unrecorded Obj.catalogueBundleCounter := ⟨.inl (by decide), by decide⟩
    obtain ⟨shownCounter, shown, kept⟩ := (s.executing r ses).bundleApply_one e.counter v paired low' high'
    obtain ⟨t, run, done⟩ := State.bundleSubmit_passes admits container signed fresh check paired room none rfl kept
    have failed : (some (storeOf (256 * b.index + b.sub))).filter (bundleStores [(256 * b.index + b.sub, row, v)]).contains =
        some (storeOf (256 * b.index + b.sub)) := by
      rw [Option.filter_some, bundleStores_tenant v paired low' high', if_pos rfl]
    obtain ⟨u, run', failed⟩ := State.bundleSubmit_passes admits container signed fresh check paired room
      (some (storeOf (256 * b.index + b.sub))) (by rw [failed]) (State.bundleFails_frame _ _ _ (by decide))
    refine ⟨t, u, run, done.answered, ?_, ?_, run', failed.answered, ?_, ?_⟩
    · rw [done.cells _ (by decide), shownCounter]
    · rw [done.cells _ errors, shown]
    · exact (failed.cells _ (by decide)).trans ((State.bundleFails_cell _ _ _ counter).trans (s.executing_cell r ses (by decide)))
    · exact (failed.cells _ errors).trans ((State.bundleFails_cell _ _ _ plain).trans (s.executing_cell r ses requests))
  case passes =>
    intro s n p w ses store prog awake late low high opened closing
    exact ⟨_, rfl, State.storeProgrammed_passes store prog awake late low high opened closing⟩
  case fails =>
    intro s n p w ses store prog awake power cause opened closing
    exact ⟨_, rfl, State.storeProgrammed_fails store prog awake power cause opened closing⟩

end Sys2Proof.Machine

namespace Sys2Proof.Machine

set_option Elab.async false

/-! ## Broadcasts and campaigns (R99 to R103) -/

/-- A counter below its limit is raised by 1 without a free value. -/
theorem State.countUp_room {s : State} {n : Nat} (room : n < 4294967295) : s.countUp n = (n + 1, s) :=
  if_pos (Nat.add_lt_add_right room 1)

/-- A transmission's air time is charged to its port and sub-band (R96). -/
theorem State.chargeAir_used (s : State) (port i us : Nat) : (s.chargeAir port i us).dutyUsed port i = s.dutyUsed port i + us := by
  unfold State.chargeAir
  dsimp only
  split
  · next none => rw [none, Nat.add_zero]
  · unfold State.dutyUsed
    dsimp only
    rw [tget_tput_self, Option.getD_some]
    split
    · next empty => rw [empty, List.sum_singleton, List.sum_nil, Nat.zero_add]
    · next b l shown => rw [shown, List.sum_cons, List.sum_cons, Nat.add_right_comm]

/-- Charging air time leaves the modulators. -/
theorem State.chargeAir_mods (s : State) (port i us : Nat) : (s.chargeAir port i us).dl.mods = s.dl.mods := by
  unfold State.chargeAir
  dsimp only
  split <;> rfl

theorem State.chargeAir_casts (s : State) (port i us : Nat) : (s.chargeAir port i us).dl.castCounters = s.dl.castCounters := by
  unfold State.chargeAir
  dsimp only
  split <;> rfl

theorem State.chargeAir_repeats (s : State) (port i us : Nat) : (s.chargeAir port i us).dl.repeats = s.dl.repeats := by
  unfold State.chargeAir
  dsimp only
  split <;> rfl

/-- The effect of a time broadcast that starts (R86, R96, R101). -/
structure State.CastStarted (s t : State) (n b us : Nat) : Prop where
  sending : (t.modulator (s.planPort n)).bind (·.sending) = some (s.castContent n)
  counted : (tget t.dl.castCounters (16 * byteAt (s.planEntry n) 3 + s.planPort n)).getD 0 =
    (tget s.dl.castCounters (16 * byteAt (s.planEntry n) 3 + s.planPort n)).getD 0 + 1
  repeats : t.dl.repeats = s.dl.repeats
  used : t.dutyUsed (s.planPort n) b = s.dutyUsed (s.planPort n) b + us
  cat : t.cat = s.cat
  time : t.time = s.time

/-- A broadcast of a class other than firmware starts on a free modulator, in its sub-band's budget (R86, R96). -/
theorem State.castStart_starts {s : State} {c : Cast} {b : Nat} {m : Modulator} (cls : s.planClass c.entry = 1)
    (band : s.castBand c = some b) (budget : s.dutyOk (s.planPort c.entry) b c.airUs true = true)
    (mod : s.modulator (s.planPort c.entry) = some m)
    (room : (tget s.dl.castCounters (16 * byteAt (s.planEntry c.entry) 3 + s.planPort c.entry)).getD 0 < 4294967295) :
    s.CastStarted (s.castStart c) c.entry b c.airUs := by
  have charged := s.chargeAir_mods (s.planPort c.entry) b c.airUs
  have counters := s.chargeAir_casts (s.planPort c.entry) b c.airUs
  have repeats := s.chargeAir_repeats (s.planPort c.entry) b c.airUs
  have used := s.chargeAir_used (s.planPort c.entry) b c.airUs
  have cat : (s.chargeAir (s.planPort c.entry) b c.airUs).cat = s.cat := State.chargeAir_frame (p := .cat) _ _ _ _ (by decide)
  have time : (s.chargeAir (s.planPort c.entry) b c.airUs).time = s.time := by
    unfold State.chargeAir
    dsimp only
    split <;> rfl
  unfold State.castStart
  dsimp only
  rw [band]
  dsimp only
  rw [cls, show ((1 : Nat) != 4) = true from rfl, budget, if_neg (by decide)]
  generalize s.chargeAir (s.planPort c.entry) b c.airUs = u at charged counters repeats used cat time
  have entry : (u.modMod (s.planPort c.entry) fun m => { m with sending := some (s.castContent c.entry) }).planEntry c.entry =
      s.planEntry c.entry := congrArg (fun x : Tab Int => ({ s with cat := x } : State).planEntry c.entry) cat
  have counters' : (u.modMod (s.planPort c.entry) fun m => { m with sending := some (s.castContent c.entry) }).dl.castCounters =
      s.dl.castCounters := counters
  rw [entry, counters', State.countUp_room room]
  dsimp only
  rw [if_neg (by decide)]
  refine ⟨?_, ?_, repeats, used, cat, time⟩
  · show ((lmod u.dl.mods _ _)[_]?).bind _ = _
    rw [lmod_getElem?_self, charged, show s.dl.mods[s.planPort c.entry]? = some m from mod]
    rfl
  · exact congrArg (fun o : Option Nat => o.getD 0) (tget_tput_self _ _ _)

/-- A broadcast that is due starts at once where its sub-band asks for no listen, its port is free and nothing else is due there (R88). -/
theorem State.castDue_launches {s : State} {c : Cast} {b : Nat} {m : Modulator} (accepts : s.accepting = true) (opened : s.castOpen c =
    true)
    (ready : s.planReady c.entry = true) (block : s.hasBlock c.entry = true) (mod : s.modulator (s.planPort c.entry) = some m)
    (free : m.sending = none) (band : s.castBand c = some b) (silent : s.bandLbt b = false)
    (sends : s.canSend (s.planPort c.entry) (s.castHz c) c.widthHz = true) (apart : s.respDue (s.planPort c.entry) false = false) :
    s.castDue c = s.castStart c := by
  unfold State.castDue
  dsimp only
  rw [mod, band, Option.filter_some, silent, if_neg (by decide)]
  dsimp only
  unfold State.castLaunch
  dsimp only
  rw [mod]
  dsimp only
  rw [accepts, opened, ready, block, sends, if_neg (by decide), free, apart, if_neg (by decide)]

/-- A time broadcast that falls due starts (R88, R100). -/
theorem State.broadcast_starts {s : State} {n us width b : Nat} {m : Modulator} (accepts : s.accepting = true) (low : n < 16)
    (ready : s.planReady n = true) (opened : s.planOpen n = true) (due : s.repeatDue n = true) (cls : s.planClass n = 1)
    (mod : s.modulator (s.planPort n) = some m) (free : m.sending = none)
    (band : s.castBand { entry := n, airUs := us, widthHz := width, alt := 0, fin := some (s.windowEnd n) } = some b)
    (silent : s.bandLbt b = false) (sends : s.canSend (s.planPort n) (bytesAt (s.planEntry n) 4 4) width = true)
    (apart : s.respDue (s.planPort n) false = false) (budget : s.dutyOk (s.planPort n) b us true = true)
    (room : (tget s.dl.castCounters (16 * byteAt (s.planEntry n) 3 + s.planPort n)).getD 0 < 4294967295) :
    ({ s with dl.repeats := tput s.dl.repeats n (s.windowStart n, s.repeatsOf n + 1) } : State).CastStarted (s.broadcast n us width) n b
      us := by
  have block : s.hasBlock n = true := by rw [State.hasBlock, cls]; rfl
  have inWindow : s.castOpen { entry := n, airUs := us, widthHz := width, alt := 0, fin := some (s.windowEnd n) } = true := by
    obtain ⟨-, before⟩ := (Bool.and_eq_true _ _).mp opened
    exact before
  unfold State.broadcast
  rw [if_pos (by simp [accepts, low, ready, opened, due, block])]
  have launched := State.castDue_launches
    (s := { s with dl.repeats := tput s.dl.repeats n (s.windowStart n, s.repeatsOf n + 1) })
    (c := { entry := n, airUs := us, widthHz := width, alt := 0, fin := some (s.windowEnd n) }) accepts inWindow ready block mod free band
    silent sends apart
  have started := State.castStart_starts
    (s := { s with dl.repeats := tput s.dl.repeats n (s.windowStart n, s.repeatsOf n + 1) })
    (c := { entry := n, airUs := us, widthHz := width, alt := 0, fin := some (s.windowEnd n) }) cls band budget mod room
  exact launched ▸ started

/-- What CampaignStart does with an argument whose fields are right (R103). -/
def State.campaignBody (s : State) (a : CampaignArg) (image : Nat) : CapOut × State :=
  if ((tget s.dl.campaigns a.campaign).map (·.state)) == some 2 && !bit a.flags 0 then (capErr 6 0, s)
  else if crcOf a.imageLength image ≠ a.imageCrc then (capErr 5 28, s.campaignRefused a)
  else (capOk, { s with dl.campaigns := tput s.dl.campaigns a.campaign (s.newCampaign a 1 image) })

theorem State.campaignBody_starts {s : State} {a : CampaignArg} {image : Nat} (crc : crcOf a.imageLength image = a.imageCrc)
    (free : ((tget s.dl.campaigns a.campaign).map (·.state)) ≠ some 2 ∨ bit a.flags 0 = true) :
    s.campaignBody a image = (capOk, { s with dl.campaigns := tput s.dl.campaigns a.campaign (s.newCampaign a 1 image) }) := by
  have idle : (((tget s.dl.campaigns a.campaign).map (·.state)) == some 2 && !bit a.flags 0) = false := by
    rcases free with other | abort
    · rw [beq_false_of_ne other, Bool.false_and]
    · rw [abort, Bool.not_true, Bool.and_false]
  unfold State.campaignBody
  rw [idle, if_neg Bool.false_ne_true, if_neg (not_not.mpr crc)]

theorem State.campaignBody_wrong {s : State} {a : CampaignArg} {image : Nat} (low : a.campaign ≤ 3)
    (crc : crcOf a.imageLength image ≠ a.imageCrc) (free : ((tget s.dl.campaigns a.campaign).map (·.state)) ≠ some 2) :
    s.campaignBody a image =
      (capErr 5 28, { s with dl.campaigns := tput s.dl.campaigns a.campaign (s.newCampaign a 5 0) }) := by
  unfold State.campaignBody
  rw [beq_false_of_ne free, Bool.false_and, if_neg Bool.false_ne_true, if_pos crc, State.campaignRefused, beq_false_of_ne free,
    if_neg (by simpa using low)]

theorem State.campaignBody_runs {s : State} {a : CampaignArg} {image : Nat}
    (runs : ((tget s.dl.campaigns a.campaign).map (·.state)) = some 2) (keeps : bit a.flags 0 = false) :
    s.campaignBody a image = (capErr 6 0, s) := by
  unfold State.campaignBody
  rw [runs, keeps, if_pos (by decide)]

/-- A campaign start that CAP carries out has the effect of its body and answers the body's outcome (R103). -/
theorem State.campaignStart_answers {s u : State} {r : CapReq} {ses : Session} {a : CampaignArg} {image : Nat} {o : CapOut}
    (admits : s.Admits r Obj.campaignStart ses) (ok : campaignArgOk a = true)
    (act : (s.executing r ses).campaignBody a image = (o, u))
    (kept : Part.of .sessions u = Part.of .sessions (s.executing r ses)) :
    ∃ t, exec (.campaignStart r a image) s = .next t ∧ t.Answered r Obj.campaignStart o ∧ t.dl = u.dl := by
  have run : ∃ t, s.campaignStart r a image = t ∧ t.Answers u r Obj.campaignStart o := by
    unfold State.campaignStart
    refine State.capExec_answers admits ?_ kept
    dsimp only
    rw [ok, if_neg (by decide)]
    exact act
  obtain ⟨t, run, answers⟩ := run
  exact ⟨t, congrArg Host.Outcome.next run, answers.answered, answers.parts .dl (by decide)⟩

/-- Settles O24. -/
theorem broadcastsAndCampaigns : Obligations.BroadcastsAndCampaigns := by
  unfold Obligations.BroadcastsAndCampaigns
  refine ⟨?window, ?start, ?wrong, ?running, ?begins, ?ends⟩
  case window =>
    intro s n us width b m accepts low ready opened due cls mod free band silent sends apart budget room
    have started := State.broadcast_starts accepts low ready opened due cls mod free band silent sends apart budget room
    refine ⟨_, rfl, started.sending, started.counted, ?_, started.used, started.cat⟩
    have window : (s.broadcast n us width).windowStart n = s.windowStart n := by
      have cat := started.cat
      have time := started.time
      generalize s.broadcast n us width = t at cat time
      unfold State.windowStart State.planEntry State.tai State.nat State.get
      rw [cat, time]
    unfold State.repeatsOf
    rw [window, started.repeats, tget_tput_self]
    exact if_pos rfl
  case start =>
    intro s r ses a image admits ok crc free
    have dl : (s.executing r ses).dl = s.dl := s.executing_frame (p := .dl) r ses (by decide)
    rw [← dl] at free
    obtain ⟨t, run, answered, effect⟩ := State.campaignStart_answers admits ok (State.campaignBody_starts crc free) rfl
    refine ⟨t, run, answered, ?_⟩
    rw [effect]
    exact congrArg (Option.map fun c : Campaign => (c.header, c.image, c.state, c.sent)) (tget_tput_self _ _ _)
  case wrong =>
    intro s r ses a image admits ok free crc
    have low : a.campaign ≤ 3 := by
      simp only [campaignArgOk, Bool.and_eq_true, Nat.ble_eq] at ok
      omega
    have dl : (s.executing r ses).dl = s.dl := s.executing_frame (p := .dl) r ses (by decide)
    rw [← dl] at free
    obtain ⟨t, run, answered, effect⟩ := State.campaignStart_answers admits ok (State.campaignBody_wrong low crc free) rfl
    refine ⟨t, run, answered, ?_⟩
    rw [effect]
    exact congrArg (Option.map fun c : Campaign => c.state) (tget_tput_self _ _ _)
  case running =>
    intro s r ses a image admits ok runs keeps
    have dl : (s.executing r ses).dl = s.dl := s.executing_frame (p := .dl) r ses (by decide)
    rw [← dl] at runs
    obtain ⟨t, run, answered, effect⟩ := State.campaignStart_answers admits ok (State.campaignBody_runs runs keeps) rfl
    exact ⟨t, run, answered, effect.trans dl⟩
  case begins =>
    intro s n c held serving loaded due
    have run : s.campaignBegin n = { s with dl.campaigns := tput s.dl.campaigns n { c with
        state := 2
        addressed := (s.nand.recs.filter fun e => campaignAddresses c.header e.2).map (·.1)
        changed := s.tai } } := by
      unfold State.campaignBegin
      rw [held]
      dsimp only
      rw [serving, loaded, if_pos (by simpa using due)]
    exact ⟨_, congrArg Host.Outcome.next run,
      congrArg (Option.map fun d : Campaign => (d.state, d.changed, d.addressed)) (tget_tput_self _ _ _), rfl, rfl⟩
  case ends =>
    intro s n c held serving runs due
    have run : s.campaignEnd n = { s with dl.campaigns := tput s.dl.campaigns n { c with
        state := if c.addressed.all c.complete.contains then 3 else 4
        changed := s.tai } } := by
      unfold State.campaignEnd
      rw [held]
      dsimp only
      rw [serving, runs, if_pos (by simpa using due)]
      simp
    exact ⟨_, congrArg Host.Outcome.next run, tget_tput_self _ _ _, rfl, rfl⟩

end Sys2Proof.Machine

namespace Sys2Proof.Machine

set_option Elab.async false

/-! ## The fast path: composition, hand-over and launch of responses (R86 to R98) -/

theorem State.owesAck_owed (s : State) (tag : Nat) : (s.owesAck tag).dl.ackDue.contains tag = true := by
  unfold State.owesAck
  split
  · next owed => exact owed
  · simp

theorem State.owesAck_responses (s : State) (tag : Nat) : (s.owesAck tag).dl.responses = s.dl.responses := by
  unfold State.owesAck
  split <;> rfl

theorem State.owesAck_mods (s : State) (tag : Nat) : (s.owesAck tag).dl.mods = s.dl.mods := by
  unfold State.owesAck
  split <;> rfl

theorem State.owesAck_waiting (s : State) (tag : Nat) : (s.owesAck tag).dl.waiting = s.dl.waiting := by
  unfold State.owesAck
  split <;> rfl

/-! ### A response that is missed (R90) -/

theorem State.settleResponse_settled (s : State) (n : Nat) (missed : Bool) :
    ((s.settleResponse n missed).frames.any fun f => f.id == n && f.resp) = false := by
  unfold State.settleResponse
  dsimp only
  rw [List.any_eq_false]
  intro f hf
  obtain ⟨g, -, rfl⟩ := List.mem_map.mp (List.mem_filter.mp hf).1
  by_cases same : (g.id == n) = true
  · simp [same]
  · simp [same]

theorem State.missResponse_dl (s : State) (f : Frame) :
    (s.missResponse f).dl = (if Nat.ble 4 f.stage then s.owesAck f.tag else s).dl := by
  unfold State.missResponse
  dsimp only
  have purged : (s.purgeSlot f.id).dl = s.dl := s.purgeSlot_frame (p := .dl) _ (by decide)
  have settled (u : State) : (u.settleResponse f.id (!Nat.ble 4 f.stage)).dl = u.dl := u.settleResponse_frame (p := .dl) _ _ (by decide)
  rw [settled]
  split
  · unfold State.owesAck
    rw [purged]
    split
    · exact purged
    · rfl
  · exact purged

theorem State.missResponse_cell (s : State) (f : Frame) (k : Nat) : (s.missResponse f).cell k = s.cell k :=
  State.cell_of_cat (s.missResponse_frame f (by decide)) k

/-- A response missed after the ingest commit: counted, its acknowledgement owed, its frame without a response (R90). -/
theorem State.missed_effect {s : State} {f : Frame} (room : s.nat (Obj.responsesMissed f.port) < 4294967295) :
    let t := (s.missResponse f).bump (Obj.responsesMissed f.port)
    t.get (Obj.responsesMissed f.port) = (s.nat (Obj.responsesMissed f.port) + 1 : Nat) ∧ t.dl.responses = s.dl.responses ∧
      (4 ≤ f.stage → t.dl.ackDue.contains f.tag = true) ∧ (t.frames.any fun g => g.id == f.id && g.resp) = false := by
  have same : (s.missResponse f).nat (Obj.responsesMissed f.port) = s.nat (Obj.responsesMissed f.port) :=
    congrArg Int.toNat (s.missResponse_cell f _)
  have dl : ((s.missResponse f).bump (Obj.responsesMissed f.port)).dl = _ :=
    (State.bump_frame (p := .dl) _ _ (by decide)).trans (s.missResponse_dl f)
  have frames : ((s.missResponse f).bump (Obj.responsesMissed f.port)).frames = (s.missResponse f).frames :=
    frames_of_part (State.bump_frame _ _ (by decide))
  refine ⟨?_, ?_, fun durable => ?_, ?_⟩
  · exact (State.bump_cell_self _ (same ▸ room)).trans (by rw [same])
  · rw [dl]
    split
    · exact s.owesAck_responses f.tag
    · rfl
  · rw [dl, if_pos (by simpa using durable)]
    exact s.owesAck_owed f.tag
  · rw [frames]
    exact State.settleResponse_settled _ _ _

/-! ### A response that is not sent (R27) -/

/-- With nothing waiting, a gap goes to nothing (R88). -/
theorem State.gap_idle {s : State} (p : Nat) (idle : s.dl.waiting = []) : s.gap p = s := by
  have same : ({ s with dl.waiting := [] } : State) = s := by
    have same : ({ s with dl.waiting := s.dl.waiting } : State) = s := rfl
    rwa [idle] at same
  have none : s.nextCast p = none := by rw [State.nextCast, idle]; rfl
  unfold State.gap
  rw [idle, List.filter_nil, same]
  dsimp only
  rw [none, ite_self]

/-- A response that is refused at its launch, with nothing waiting: gone, counted, its acknowledgement owed (R27, R88). -/
theorem State.refuseLaunch_effect {s : State} {r : Response} {k : Nat} (idle : s.dl.waiting = []) (room : s.nat k < 4294967295) :
    ((s.refuseLaunch r k).dl.responses.any fun x => x.frame == r.frame) = false ∧
      (s.refuseLaunch r k).dl.ackDue.contains r.tag = true ∧ (s.refuseLaunch r k).dl.mods = s.dl.mods ∧
      (s.refuseLaunch r k).get k = (s.nat k + 1 : Nat) := by
  have cells : Part.of .cat (s.dropResponse r) = Part.of .cat s := s.dropResponse_frame r (by decide)
  have same : (s.dropResponse r).nat k = s.nat k := congrArg Int.toNat (State.cell_of_cat cells k)
  have dl : ((s.dropResponse r).bump k).dl = (s.dropResponse r).dl := State.bump_frame (p := .dl) _ _ (by decide)
  have waiting : (s.dropResponse r).dl.waiting = [] := (State.owesAck_waiting _ _).trans idle
  unfold State.refuseLaunch
  rw [State.gap_idle _ (by rw [dl, waiting]), dl]
  refine ⟨?_, State.owesAck_owed _ _, State.owesAck_mods _ _, ?_⟩
  · rw [show (s.dropResponse r).dl.responses = s.dl.responses.filter fun x => x.frame != r.frame from State.owesAck_responses _ _]
    simp [List.any_filter]
  · exact (State.bump_cell_self _ (same ▸ room)).trans (by rw [same])

/-! ### Composition (R89 to R92) -/

/-- A working slot and the response's request are given back (R90, R151): responses, frames and NAND stay, the frame has no slot. -/
theorem State.slot_purged (u : State) (f : Frame) :
    ((u.takeAsk f).purgeSlot f.id).dl = u.dl ∧ ((u.takeAsk f).purgeSlot f.id).frames = u.frames ∧
      ((u.takeAsk f).purgeSlot f.id).nand = u.nand ∧ ((u.takeAsk f).purgeSlot f.id).loc.responding.contains f.id = false := by
  have parts {p : Part} (h : p ∉ [Part.loc, .queues]) : p.of ((u.takeAsk f).purgeSlot f.id) = p.of u := by
    simp only [List.mem_cons, List.not_mem_nil, or_false, not_or] at h
    exact (State.purgeSlot_frame _ _ (by simp [h])).trans (State.takeAsk_frame _ _ (by simp [h]))
  refine ⟨parts (p := .dl) (by decide), frames_of_part (parts (by decide)), State.nand_of_parts fun _ hp => parts (Part.apart hp), ?_⟩
  show ((u.takeAsk f).loc.responding.filter (· != f.id)).contains f.id = false
  simp

/-- A frame whose response was composed keeps its counter and loses its working slot (R92, R151). -/
theorem State.composeFor_composes {s : State} {f : Frame} {x : Record} {length us width b : Nat} (held : s.frame f.id = some f)
    (journal : f.stage ≤ 8) (band : s.bandAbout (s.responseHz f) width = some b)
    (budget : s.dutyOk f.port b (s.responseAir f length us) false = true) (first : ∀ g ∈ s.frames, g.tag = f.tag → g.down = 0) :
    let t := s.composeFor f x length us width
    (∃ r, t.dl.responses = s.dl.responses ++ [r] ∧
      (r.frame, r.tag, r.counter, r.handed, r.launch) = (f.id, f.tag, x.downCounter + 1, false, s.launchAt f)) ∧
      (t.frame f.id).map (·.down) = some (x.downCounter + 1) ∧ t.nand = s.nand ∧ t.loc.responding.contains f.id = false := by
  have counter : (s.frames.filter fun g => g.tag == f.tag).foldl (fun m g => Nat.max m g.down) x.downCounter = x.downCounter := by
    have zero : ∀ g ∈ s.frames.filter fun g => g.tag == f.tag, g.down = 0 := fun g hg =>
      first g (List.mem_filter.mp hg).1 (beq_iff_eq.mp (List.mem_filter.mp hg).2)
    generalize (s.frames.filter fun g => g.tag == f.tag) = l at zero
    induction l with
    | nil => rfl
    | cons g l ih =>
      rw [List.foldl_cons, zero g List.mem_cons_self, Nat.max_eq_max, Nat.max_zero]
      exact ih fun g hg => zero g (List.mem_cons_of_mem _ hg)
  unfold State.composeFor
  dsimp only
  rw [band]
  dsimp only
  rw [budget, if_neg (by decide), counter, if_pos (Nat.ble_eq_true_of_le journal)]
  have framed : ((s.frames.map fun (g : Frame) => if g.id == f.id then ({ g with down := x.downCounter + 1 } : Frame) else g).find?
      fun g => g.id == f.id).map (·.down) = some (x.downCounter + 1) := by
    rw [List.find?_map]
    have keeps : ((fun g : Frame => g.id == f.id) ∘ fun g => if g.id == f.id then { g with down := x.downCounter + 1 } else g) =
        fun g => g.id == f.id := by
      funext g
      by_cases same : (g.id == f.id) = true
      · rw [Function.comp_apply, if_pos same]
      · rw [Function.comp_apply, if_neg same]
    rw [keeps, show s.frames.find? (fun g => g.id == f.id) = some f from held]
    simp
  exact ⟨⟨_, congrArg (fun d : Downlink => d.responses) (State.slot_purged _ f).1, rfl⟩,
    (congrArg (fun l : List Frame => (l.find? fun g => g.id == f.id).map (·.down)) (State.slot_purged _ f).2.1).trans framed,
    (State.slot_purged _ f).2.2.1, (State.slot_purged _ f).2.2.2⟩

/-- A frame past its ingest commit and next of its endpoint is composed for until its deadline, and is missed past it (R89, R90). -/
theorem State.compose_eq {s : State} {n length us width : Nat} {f : Frame} (held : (s.frames.find? fun f => f.id == n) = some f)
    (accepts : s.accepting = true) (asks : f.resp = true) (durable : 4 ≤ f.stage) (next : s.isNext f = true)
    (slot : s.loc.responding.contains n = true) (fresh : (s.dl.responses.any fun r => r.frame == n) = false) :
    (s.deadlineOf f < s.now → s.compose n length us width = (s.missResponse f).bump (Obj.responsesMissed f.port)) ∧
      (∀ x, s.now ≤ s.deadlineOf f → s.record f.tag = some x → s.compose n length us width = s.composeFor f x length us width) := by
  unfold State.compose
  rw [held]
  dsimp only
  rw [if_neg (by rw [accepts, asks, Nat.ble_eq_true_of_le durable, next, slot, fresh]; decide)]
  refine ⟨fun late => if_pos late, fun x early found => ?_⟩
  rw [if_neg (Nat.not_lt.mpr early), found]

/-! ### Hand-over and launch (R86, R89, R96 to R98) -/

/-- The first response of a frame, once those of the frame are changed. -/
theorem State.modResponse_find (s : State) (n : Nat) (f : Response → Response) (keeps : ∀ r, (f r).frame = r.frame) :
    ((s.modResponse n f).dl.responses.find? fun r => r.frame == n) = (s.dl.responses.find? fun r => r.frame == n).map f := by
  show (s.dl.responses.map _).find? _ = _
  induction s.dl.responses with
  | nil => rfl
  | cons r l ih =>
    by_cases same : (r.frame == n) = true
    · have kept : ((f r).frame == n) = true := keeps r ▸ same
      rw [List.map_cons, if_pos same, List.find?_cons_of_pos (p := fun r : Response => r.frame == n) kept,
        List.find?_cons_of_pos (p := fun r : Response => r.frame == n) same, Option.map_some]
    · rw [List.map_cons, if_neg same, List.find?_cons_of_neg (p := fun r : Response => r.frame == n) same,
        List.find?_cons_of_neg (p := fun r : Response => r.frame == n) same, ih]

/-- A response handed over at its deadline (R89). -/
theorem State.launchDeadline_hands {s : State} {n : Nat} {r : Response} (held : (s.dl.responses.find? fun r => r.frame == n) = some r)
    (waits : r.handed = false) :
    (((s.launchDeadline n).dl.responses.find? fun r => r.frame == n).map (·.handed)) = some true ∧ (s.launchDeadline n).cat = s.cat := by
  unfold State.launchDeadline
  rw [held]
  dsimp only
  rw [waits, if_neg (by decide)]
  generalize (r.items.filter fun n => s.gate.confirmed.contains n || !(s.nand.items.any fun i => i.seq == n && i.cls == 2)) = emit
  have found := s.modResponse_find n (fun r => { r with items := emit, handed := true }) fun _ => rfl
  have cat : (s.modResponse n fun r => { r with items := emit, handed := true }).cat = s.cat := rfl
  generalize (s.modResponse n fun r => { r with items := emit, handed := true }) = u at found cat
  have parts {p : Part} (h : p ∉ [Part.frames, .queues, .gate, .items]) : p.of ((State.holdItems { u with
      gate.confirmed := u.gate.confirmed.filter fun n => !emit.contains n } emit true).settleResponse n false) = p.of u := by
    simp only [List.mem_cons, List.not_mem_nil, or_false, not_or] at h
    refine (State.settleResponse_frame _ _ _ (by simp [h])).trans ((State.holdItems_frame _ _ _ (by simp [h])).trans ?_)
    simp only [↓Part.of_set, Part.outside, h, not_false_eq_true, and_self, ne_eq]
  have dl := parts (p := .dl) (by decide)
  refine ⟨?_, (parts (p := .cat) (by decide)).trans cat⟩
  rw [show ((State.holdItems { u with gate.confirmed := u.gate.confirmed.filter fun n => !emit.contains n } emit true).settleResponse n
    false).dl = u.dl from dl, found, held]
  rfl

/-- A response without items on air (R86, R92, R96): its modulator sends it, it waits no longer, its air time is charged. -/
theorem State.respond__sends {s : State} {r : Response} {b : Nat} {m : Modulator} (mod : s.modulator r.port = some m) (bare : r.items =
    [])
    (room : s.nat (Obj.responsesSent r.port) < 4294967295) :
    ((s.respond_ r b).modulator r.port).bind (·.sending) = some (.response r.pendant r.counter) ∧
      ((s.respond_ r b).dl.responses.any fun x => x.frame == r.frame) = false ∧
      (s.respond_ r b).get (Obj.responsesSent r.port) = (s.nat (Obj.responsesSent r.port) + 1 : Nat) ∧
      (s.respond_ r b).dutyUsed r.port b = s.dutyUsed r.port b + r.airUs := by
  unfold State.respond_
  dsimp only
  rw [bare, List.foldl_nil]
  have gone : ((s.dl.responses.filter fun x => x.frame != r.frame).any fun x => x.frame == r.frame) = false := by
    simp [List.any_filter]
  generalize started : ({ s with
    dl.responses := s.dl.responses.filter fun x => x.frame != r.frame
    dl.ackDue := s.dl.ackDue.filter (· != r.tag) } : State) = v
  have responses : v.dl.responses = s.dl.responses.filter fun x => x.frame != r.frame := by rw [← started]
  have mods : v.dl.mods = s.dl.mods := by rw [← started]
  have cat : v.cat = s.cat := by rw [← started]
  have duty : v.dutyUsed r.port b = s.dutyUsed r.port b := by rw [← started]; rfl
  have used := v.chargeAir_used r.port b r.airUs
  have charged := v.chargeAir_mods r.port b r.airUs
  have kept : (v.chargeAir r.port b r.airUs).dl.responses = v.dl.responses := by
    unfold State.chargeAir
    dsimp only
    split <;> rfl
  have same : (v.chargeAir r.port b r.airUs).cat = v.cat := State.chargeAir_frame (p := .cat) _ _ _ _ (by decide)
  generalize v.chargeAir r.port b r.airUs = u at used charged kept same
  have dl : ((u.modMod r.port fun m => { m with sending := some (.response r.pendant r.counter) }).bump (Obj.responsesSent r.port)).dl =
      (u.modMod r.port fun m => { m with sending := some (.response r.pendant r.counter) }).dl := State.bump_frame (p := .dl) _ _ (by
          decide)
  have nat : (u.modMod r.port fun m => { m with sending := some (.response r.pendant r.counter) }).nat (Obj.responsesSent r.port) =
      s.nat (Obj.responsesSent r.port) := congrArg (fun c => (catGet c (Obj.responsesSent r.port)).toNat) (same.trans cat)
  refine ⟨?_, ?_, ?_, ?_⟩
  · refine (congrArg (fun d : Downlink => (d.mods[r.port]?).bind (·.sending)) dl).trans ?_
    show ((lmod u.dl.mods _ _)[_]?).bind _ = _
    rw [lmod_getElem?_self, charged, mods, show s.dl.mods[r.port]? = some m from mod]
    rfl
  · refine (congrArg (fun d : Downlink => d.responses.any fun x => x.frame == r.frame) dl).trans ?_
    show (u.dl.responses.any _) = false
    rw [kept, responses, gone]
  · exact (State.bump_cell_self _ (nat ▸ room)).trans (by rw [nat])
  · refine (congrArg (fun d : Downlink => ((tget d.duty (16 * r.port + b)).getD []).sum) dl).trans ?_
    exact used.trans (by rw [duty])

/-- A response that may start is launched (R86, R89). -/
theorem State.launch_sends {s : State} {n b : Nat} {p : Bool} {r : Response}
    (held : (s.dl.responses.find? fun x => x.frame == n && x.pendant == p) = some r) (accepts : s.accepting = true)
    (handed : r.handed = true) (due : r.launch ≤ s.now + 1000) (free : s.busyFor r = false)
    (sends : s.canSend r.port r.centreHz r.widthHz = true) (band : s.bandAbout r.centreHz r.widthHz = some b)
    (clear : s.bandLbt b = false ∨ r.listened = true) (budget : s.dutyOk r.port b r.airUs false = true) :
    s.launch n p = s.respond_ r b := by
  have listened : (s.bandLbt b && !r.listened) = false := by
    rcases clear with silent | heard
    · rw [silent, Bool.false_and]
    · rw [heard, Bool.not_true, Bool.and_false]
  unfold State.launch
  rw [held]
  dsimp only
  rw [accepts, handed, Nat.ble_eq_true_of_le due, if_neg (by decide), free, sends, if_neg (by decide), band]
  dsimp only
  rw [listened, if_neg Bool.false_ne_true, budget, if_neg (by decide)]

/-- A response whose modulator is busy is abandoned at its launch (R88, R89). -/
theorem State.launch_busy {s : State} {n : Nat} {p : Bool} {r : Response}
    (held : (s.dl.responses.find? fun x => x.frame == n && x.pendant == p) = some r) (accepts : s.accepting = true)
    (handed : r.handed = true) (due : r.launch ≤ s.now + 1000) (busy : s.busyFor r = true) :
    s.launch n p = s.refuseLaunch r (Obj.responsesMissed r.port) := by
  unfold State.launch
  rw [held]
  dsimp only
  rw [accepts, handed, Nat.ble_eq_true_of_le due, if_neg (by decide), busy, Bool.true_or, if_pos rfl]

/-- A response outside the sub-bands is refused at its launch (R96). -/
theorem State.launch_outside {s : State} {n : Nat} {p : Bool} {r : Response}
    (held : (s.dl.responses.find? fun x => x.frame == n && x.pendant == p) = some r) (accepts : s.accepting = true)
    (handed : r.handed = true) (due : r.launch ≤ s.now + 1000) (free : s.busyFor r = false)
    (sends : s.canSend r.port r.centreHz r.widthHz = true) (band : s.bandAbout r.centreHz r.widthHz = none) :
    s.launch n p = s.refuseLaunch r (Obj.txNoSubband r.port) := by
  unfold State.launch
  rw [held]
  dsimp only
  rw [accepts, handed, Nat.ble_eq_true_of_le due, if_neg (by decide), free, sends, if_neg (by decide), band]

/-- The end of a transmission frees its modulator (R86). -/
theorem State.txEnd_frees {s : State} {p : Nat} {m : Modulator} (mod : s.modulator p = some m) (idle : s.dl.waiting = []) :
    (s.txEnd p).modulator p = some { m with sending := none } ∧ (s.txEnd p).cat = s.cat := by
  have run : s.txEnd p = s.modMod p fun m => { m with sending := none } := State.gap_idle p idle
  rw [run]
  refine ⟨?_, rfl⟩
  show (lmod s.dl.mods _ _)[_]? = _
  rw [lmod_getElem?_self, show s.dl.mods[p]? = some m from mod]
  rfl

/-! ### The buckets of the duty cycle (R96) -/

/-- A table without a key holds nothing under it. -/
theorem tget_none_of_ne {α : Type} (t : Tab α) {k : Nat} (h : ∀ e ∈ t, e.1 ≠ k) : tget t k = none := by
  induction t with
  | nil => rfl
  | cons e t ih =>
    obtain ⟨j, w⟩ := e
    have apart : j ≠ k := h _ List.mem_cons_self
    simpa [tget, apart] using ih fun e he => h e (List.mem_cons_of_mem _ he)

/-- What a rising table holds under a key, once its values are changed and some taken out. -/
theorem tget_map_filter {α : Type} (t : Tab α) (f : α → α) (q : α → Bool) {k : Nat} {v : α} (rising : Tab.rising t = true)
    (held : tget t k = some v) :
    tget ((t.map fun e => (e.1, f e.2)).filter fun e => q e.2) k = if q (f v) then some (f v) else none := by
  have absent : ∀ u : Tab α, Tab.above k u → tget ((u.map fun e => (e.1, f e.2)).filter fun e => q e.2) k = none := by
    intro u above
    refine tget_none_of_ne _ fun e he => ?_
    obtain ⟨g, hg, rfl⟩ := List.mem_map.mp (List.mem_filter.mp he).1
    exact Nat.ne_of_gt (above g hg)
  induction t with
  | nil => exact nomatch held
  | cons e t ih =>
    obtain ⟨above, rest⟩ := (Tab.rising_cons e t).mp rising
    obtain ⟨j, w⟩ := e
    by_cases same : j = k
    · subst same
      obtain rfl : w = v := by simpa [tget] using held
      by_cases kept : q (f w) = true
      · simp [kept, tget]
      · simp only [List.map_cons, List.filter_cons, kept, Bool.false_eq_true, if_false]
        exact absent t above
    · have held : tget t k = some v := by simpa [tget, same] using held
      by_cases kept : q (f w) = true
      · simpa [kept, tget, same] using ih rest held
      · simpa [kept] using ih rest held

/-- A full list of buckets loses its oldest, and gains an empty one. -/
theorem sum_rolled {l : List Nat} (full : l.length = 60) : ((0 :: l).take 60).sum + l.getLast?.getD 0 = l.sum := by
  have filled : l ≠ [] := fun empty => by rw [empty] at full; exact nomatch full
  have taken : (0 :: l).take 60 = 0 :: l.dropLast := by
    rw [List.take_succ_cons, List.dropLast_eq_take, full]
  rw [taken, List.sum_cons, Nat.zero_add, List.getLast?_eq_getLast_of_ne_nil filled, Option.getD_some]
  conv_rhs => rw [← List.dropLast_append_getLast filled]
  rw [List.sum_append, List.sum_singleton]

/-- The oldest bucket of a port and sub-band leaves its budget (R96). -/
theorem State.dutyRoll_used {s : State} {port i : Nat} {l : List Nat} (up : s.up = true) (held : tget s.dl.duty (16 * port + i) = some l)
    (full : l.length = 60) (rising : Tab.rising s.dl.duty = true) :
    s.dutyRoll.dutyUsed port i + l.getLast?.getD 0 = s.dutyUsed port i := by
  have rolled := tget_map_filter s.dl.duty (fun l => (0 :: l).take 60) (fun l => l.any (· != 0)) rising held
  have used : s.dutyRoll.dutyUsed port i = ((0 :: l).take 60).sum := by
    unfold State.dutyRoll
    rw [up, if_neg (by decide)]
    unfold State.dutyUsed
    dsimp only
    rw [rolled]
    split
    · rfl
    · next zero =>
      refine (List.sum_eq_zero fun x hx => ?_).symm
      by_contra other
      exact zero (List.any_eq_true.mpr ⟨x, hx, by simpa using other⟩)
  rw [used, sum_rolled full, State.dutyUsed, held, Option.getD_some]

/-- Settles O23. -/
theorem fastPathResponses : Obligations.FastPathResponses := by
  unfold Obligations.FastPathResponses
  refine ⟨?compose, ?late, ?hands, ?missed, ?launch, ?busy, ?outside, ?ends, ?heard, ?clear, ?roll⟩
  case compose =>
    intro s n length us width b f x held same accepts asks durable journal next slot fresh early found band budget first
    have run := (State.compose_eq (length := length) (us := us) (width := width) held accepts asks durable next slot fresh).2 x early
        found
    obtain ⟨⟨r, responses, fields⟩, down, nand, purged⟩ :=
      State.composeFor_composes (length := length) (us := us) (x := x) (same.symm ▸ held) journal band budget first
    subst same
    refine ⟨_, congrArg Host.Outcome.next run, ?_, ?_, down, nand, purged⟩
    · rw [responses, List.length_append, List.length_singleton]
    · rw [responses, List.getLast?_append_of_ne_nil _ (by simp)]
      exact congrArg some fields
  case late =>
    intro s n length us width f held same accepts asks durable next slot fresh late room
    have run := (State.compose_eq (length := length) (us := us) (width := width) held accepts asks durable next slot fresh).1 late
    obtain ⟨counted, responses, owed, -⟩ := State.missed_effect room
    exact ⟨_, congrArg Host.Outcome.next run, responses, counted, owed durable⟩
  case hands =>
    intro s n r held waits
    exact ⟨_, rfl, State.launchDeadline_hands held waits⟩
  case missed =>
    intro s n f none held late room
    have run : s.launchDeadline n = (s.missResponse f).bump (Obj.responsesMissed f.port) := by
      unfold State.launchDeadline
      rw [none]
      dsimp only
      rw [held]
      exact if_neg (Nat.not_lt.mpr late)
    obtain ⟨counted, -, owed, settled⟩ := State.missed_effect room
    have same : f.id = n := by
      have both := List.find?_some held
      simp only [Bool.and_eq_true, beq_iff_eq] at both
      exact both.1
    subst same
    exact ⟨_, congrArg Host.Outcome.next run, counted, settled, owed⟩
  case launch =>
    intro s n b p r m held accepts handed bare due mod free sends band clear budget room
    have run := State.launch_sends held accepts handed due free sends band clear budget
    exact ⟨s.respond_ r b, fun h => congrArg Host.Outcome.next (h ▸ run), fun h => congrArg Host.Outcome.next (h ▸ run),
      State.respond__sends mod bare room⟩
  case busy =>
    intro s n p r held accepts handed due busy idle room
    have run := State.launch_busy held accepts handed due busy
    obtain ⟨gone, owed, mods, counted⟩ := State.refuseLaunch_effect idle room
    exact ⟨_, fun h => congrArg Host.Outcome.next (h ▸ run), fun h => congrArg Host.Outcome.next (h ▸ run), gone, owed, mods, counted⟩
  case outside =>
    intro s n r m held accepts handed _ due mod free sends band idle room
    have plain : r.pendant = false := by
      have both := List.find?_some held
      simp only [Bool.and_eq_true, beq_iff_eq] at both
      exact both.2
    have open_ : s.busyFor r = false := by
      rw [State.busyFor, mod, plain, Bool.false_and, Bool.or_false]
      exact congrArg Option.isSome free
    have run := State.launch_outside held accepts handed due open_ sends band
    obtain ⟨-, owed, mods, counted⟩ := State.refuseLaunch_effect idle room
    exact ⟨_, congrArg Host.Outcome.next run, counted, mods, owed⟩
  case ends =>
    intro s p m mod idle
    exact ⟨_, rfl, State.txEnd_frees mod idle⟩
  case heard =>
    intro s p power r b held band loud idle room
    have run : s.listenEnd p power = s.refuseLaunch r (Obj.lbtBusy r.port) := by
      unfold State.listenEnd
      rw [held]
      dsimp only
      rw [State.lbtResponse, band]
      exact if_pos loud
    obtain ⟨gone, owed, -, counted⟩ := State.refuseLaunch_effect idle room
    exact ⟨_, congrArg Host.Outcome.next run, counted, owed, gone⟩
  case clear =>
    intro s p power r b held band quiet
    have run : s.listenEnd p power = s.modResponse r.frame fun r => { r with listened := true } := by
      unfold State.listenEnd
      rw [held]
      dsimp only
      rw [State.lbtResponse, band]
      exact if_neg (Int.not_lt.mpr quiet)
    refine ⟨_, congrArg Host.Outcome.next run, ?_, rfl⟩
    rw [State.modResponse_find s r.frame (fun r => { r with listened := true }) fun _ => rfl]
    have present : (s.dl.responses.find? fun x => x.frame == r.frame).isSome = true :=
      List.find?_isSome.mpr ⟨r, List.mem_of_find?_eq_some held, beq_self_eq_true _⟩
    obtain ⟨x, found⟩ := Option.isSome_iff_exists.mp present
    rw [found]
    rfl
  case roll =>
    intro s up
    exact ⟨_, rfl, s.dutyRoll_frame (p := .cat) (by decide), fun port i l held full rising => State.dutyRoll_used up held full rising⟩

end Sys2Proof.Machine

namespace Sys2Proof.Machine

set_option Elab.async false

/-! ## The lanes of Tightrope (R105 to R143) -/

/-! ### A lane changed -/

theorem State.modLane_lane {s : State} {l : Nat} {x : Lane} (f : Lane → Lane) (h : s.lane l = some x) :
    (s.modLane l f).lane l = some (f x) :=
  (lmod_getElem?_self s.lanes l f).trans (congrArg (Option.map f) h)

theorem State.lane_of_part {s t : State} (l : Nat) (h : Part.of .lanes t = Part.of .lanes s) : t.lane l = s.lane l :=
  congrArg (fun ls : List Lane => ls[l]?) h

theorem State.modLane_cell (s : State) (l : Nat) (f : Lane → Lane) (k : Nat) : (s.modLane l f).cell k = s.cell k := rfl

theorem State.bump_lane (s : State) (k l : Nat) : (s.bump k).lane l = s.lane l := State.lane_of_part l (s.bump_frame k (by decide))

theorem State.onLane_eq {s : State} {l : Nat} {x : Lane} (f : Lane → State) (h : s.lane l = some x) (on : s.laneOn l = true) :
    s.onLane l f = f x := by
  unfold State.onLane
  rw [h]
  exact if_pos on

theorem State.onMedium_eq {s : State} {l : Nat} {x : Lane} (f : Lane → State) (h : s.lane l = some x) (on : s.laneOn l = true) :
    s.onMedium l f = (f x).settle l x.idle := State.onLane_eq _ h on

theorem State.laneOn_le {s : State} {l : Nat} (on : s.laneOn l = true) : l ≤ 2 := by
  simp only [State.laneOn, Bool.and_eq_true, Nat.ble_eq] at on
  exact on.1.2

/-! ### Contention (R131, R136) -/

/-- A frame of the part that waits or contends on a lane. -/
def Lane.holds (x : Lane) (p : PlcOut) : Prop := p ∈ x.queue ∨ x.contending = some p

/-- What contention may change of a lane (R131, R136): the idle instant and what it puts into force,
the queue, the frame that contends and its slot. No frame is lost. -/
structure Lane.Settles (x y : Lane) : Prop where
  rest : y = { x with
    timing := y.timing, idleAt := y.idleAt, queue := y.queue, contending := y.contending, drawn := y.drawn }
  kept : ∀ p, x.holds p → y.holds p

theorem Lane.Settles.refl (x : Lane) : x.Settles x := ⟨rfl, fun _ h => h⟩

theorem Lane.Settles.trans {x y z : Lane} (a : x.Settles y) (b : y.Settles z) : x.Settles z :=
  ⟨by rw [b.rest, a.rest], fun p h => b.kept p (a.kept p h)⟩

theorem mem_requeue {o p : PlcOut} {q : List PlcOut} : p ∈ requeue o q ↔ p = o ∨ p ∈ q := by
  unfold requeue
  simp only [List.mem_append, List.mem_filter, List.mem_singleton, Nat.blt_eq, Nat.ble_eq]
  constructor
  · rintro ((⟨h, -⟩ | h) | ⟨h, -⟩)
    · exact .inr h
    · exact .inl h
    · exact .inr h
  · rintro (h | h)
    · exact .inl (.inr h)
    · by_cases low : plcClass p.t < plcClass o.t
      · exact .inl (.inl ⟨h, low⟩)
      · exact .inr ⟨h, Nat.not_lt.mp low⟩

/-- A draw changes the slot of the frame that contends alone (R131). -/
theorem State.drawSlot_lane {s : State} {l : Nat} {x : Lane} (h : s.lane l = some x) :
    ∃ d, (s.drawSlot l).lane l = some { x with drawn := d } := by
  unfold State.drawSlot
  rw [h]
  dsimp only
  split
  · exact ⟨x.drawn, h⟩
  · split
    · exact ⟨x.drawn, h⟩
    · exact ⟨_, State.modLane_lane (s := (s.draw).2) _ h⟩

/-- The first frame by class is one of the queue (R136). -/
theorem mem_of_firstClass {chain : Bool} {q : List PlcOut} {o : PlcOut} (h : firstClass chain q = some o) : o ∈ q := by
  have rank {c : Nat} : ∀ x, (q.find? fun o => plcClass o.t == c && (chain || o.t.kind != 0)) = some x → x ∈ q :=
    fun _ found => List.mem_of_find?_eq_some found
  unfold firstClass at h
  dsimp only at h
  cases one : q.find? fun o => plcClass o.t == 1 && (chain || o.t.kind != 0) with
  | some x =>
    rw [one] at h
    exact Option.some.inj h ▸ rank x one
  | none =>
    rw [one] at h
    cases two : q.find? fun o => plcClass o.t == 2 && (chain || o.t.kind != 0) with
    | some x =>
      rw [two] at h
      exact Option.some.inj h ▸ rank x two
    | none =>
      rw [two] at h
      exact rank o h

/-- A frame taken to contend (R136). -/
theorem State.takeToContend_lane {s : State} {l : Nat} {x : Lane} (o : PlcOut) (q : List PlcOut) (draws : Bool) (h : s.lane l = some x) :
    ∃ d, (if draws then (s.modLane l fun x => { x with contending := some o, queue := q, drawn := none }).drawSlot l
      else s.modLane l fun x => { x with contending := some o, queue := q, drawn := none }).lane l =
        some { x with contending := some o, queue := q, drawn := d } := by
  have taken := State.modLane_lane (fun x => { x with contending := some o, queue := q, drawn := none }) h
  split
  · exact State.drawSlot_lane taken
  · exact ⟨none, taken⟩

/-- A selection moves frames between the queue and contention (R136). -/
theorem State.select_lane {s : State} {l : Nat} {x : Lane} (h : s.lane l = some x) :
    ∃ y, (s.select l).lane l = some y ∧ x.Settles y ∧ y.timing = x.timing ∧ y.idleAt = x.idleAt := by
  unfold State.select
  rw [h]
  dsimp only
  split
  · exact ⟨x, h, .refl x, rfl, rfl⟩
  · next o first =>
    have inQueue := mem_of_firstClass first
    split
    · next nobody =>
      obtain ⟨d, taken⟩ := State.takeToContend_lane o (x.queue.erase o) x.idle h
      refine ⟨_, taken, ⟨rfl, fun p held => ?_⟩, rfl, rfl⟩
      rcases held with waits | contends
      · by_cases same : p = o
        · exact .inr (congrArg some same.symm)
        · exact .inl ((List.mem_erase_of_ne same).mpr waits)
      · rw [nobody] at contends
        exact nomatch contends
    · next c somebody =>
      split
      · obtain ⟨d, taken⟩ := State.takeToContend_lane o (requeue c (x.queue.erase o)) x.idle h
        refine ⟨_, taken, ⟨rfl, fun p held => ?_⟩, rfl, rfl⟩
        rcases held with waits | contends
        · by_cases same : p = o
          · exact .inr (congrArg some same.symm)
          · exact .inl (mem_requeue.mpr (.inr ((List.mem_erase_of_ne same).mpr waits)))
        · rw [somebody] at contends
          exact .inl (mem_requeue.mpr (.inl (Option.some.inj contends).symm))
      · exact ⟨x, h, .refl x, rfl, rfl⟩

/-- The idle instant is noted, and puts the timing that waits into force (R129, R143). -/
theorem State.idleInstant_lane {s : State} {l : Nat} {x : Lane} (h : s.lane l = some x) :
    ∃ y, (s.idleInstant l).lane l = some y ∧ x.Settles y ∧ y.timing = none ∧ y.idleAt = s.now := by
  have noted := State.modLane_lane (fun x => { x with idleAt := s.now, timing := none }) h
  have settles : x.Settles { x with idleAt := s.now, timing := none } := ⟨rfl, fun _ held => held⟩
  unfold State.idleInstant
  dsimp only
  split
  · obtain ⟨y, selected, rest, timing, idleAt⟩ := State.select_lane noted
    exact ⟨y, selected, settles.trans rest, timing, idleAt⟩
  · obtain ⟨d, drawn⟩ := State.drawSlot_lane noted
    exact ⟨_, drawn, ⟨rfl, fun _ held => held⟩, rfl, rfl⟩

/-- A deferral takes the slot drawn, and nothing else of the lane (R131). -/
theorem State.deferChain_lane {s : State} {l : Nat} {x : Lane} (h : s.lane l = some x) :
    (s.deferChain l).lane l = some { x with drawn := none } := by
  unfold State.deferChain
  rw [h]
  dsimp only [Option.bind_some]
  split
  · next none =>
    rw [h]
    exact congrArg (fun d => some { x with drawn := d }) none
  · exact (State.bump_lane _ _ _).trans (State.modLane_lane _ h)

/-! ### The medium after a command (R129) -/

/-- A medium as idle as before is left alone. -/
theorem State.settle_same {s : State} {l : Nat} {x : Lane} {was : Bool} (h : s.lane l = some x) (same : x.idle = was) :
    s.settle l was = s := by
  unfold State.settle
  rw [h]
  dsimp only
  subst same
  cases x.idle <;> rfl

/-- A medium that became idle has its idle instant. -/
theorem State.settle_idle {s : State} {l : Nat} {x : Lane} (h : s.lane l = some x) (idle : x.idle = true) :
    s.settle l false = s.idleInstant l := by
  unfold State.settle
  rw [h]
  dsimp only
  rw [idle]
  rfl

/-- A medium that became busy defers. -/
theorem State.settle_busy {s : State} {l : Nat} {x : Lane} (h : s.lane l = some x) (busy : x.idle = false) :
    s.settle l true = s.deferChain l := by
  unfold State.settle
  rw [h]
  dsimp only
  rw [busy]
  rfl

theorem State.settle_lane {s : State} {l : Nat} {x : Lane} (was : Bool) (h : s.lane l = some x) :
    ∃ y, (s.settle l was).lane l = some y ∧ x.Settles y := by
  cases was with
  | false =>
    cases idle : x.idle with
    | false => exact ⟨x, by rw [State.settle_same h idle, h], .refl x⟩
    | true =>
      obtain ⟨y, found, settles, -⟩ := State.idleInstant_lane h
      exact ⟨y, by rw [State.settle_idle h idle, found], settles⟩
  | true =>
    cases idle : x.idle with
    | true => exact ⟨x, by rw [State.settle_same h idle, h], .refl x⟩
    | false => exact ⟨_, (congrArg (fun t : State => t.lane l) (State.settle_busy h idle)).trans (State.deferChain_lane h),
        ⟨rfl, fun _ held => held⟩⟩

theorem State.drawSlot_cat (s : State) (l : Nat) : (s.drawSlot l).cat = s.cat := s.drawSlot_frame (p := .cat) l (by decide)

theorem State.select_cat (s : State) (l : Nat) : (s.select l).cat = s.cat := s.select_frame (p := .cat) l (by decide)

theorem State.idleInstant_cat (s : State) (l : Nat) : (s.idleInstant l).cat = s.cat := s.idleInstant_frame (p := .cat) l (by decide)

/-- A medium that was not idle is settled without a count. -/
theorem State.settle_cat {s : State} {l : Nat} {x : Lane} (h : s.lane l = some x) : (s.settle l false).cat = s.cat := by
  cases idle : x.idle with
  | false => rw [State.settle_same h idle]
  | true => rw [State.settle_idle h idle, State.idleInstant_cat]

theorem State.settle_cell {s : State} {l : Nat} {x : Lane} (was : Bool) {k : Nat} (h : s.lane l = some x)
    (apart : k ≠ Obj.contentionDeferrals l) : (s.settle l was).cell k = s.cell k := by
  cases was with
  | false => exact congrArg (fun c => catGet c k) (State.settle_cat h)
  | true =>
    cases idle : x.idle with
    | true => rw [State.settle_same h idle]
    | false =>
      rw [State.settle_busy h idle]
      unfold State.deferChain
      split
      · rfl
      · exact (State.bump_cell _ apart).trans rfl

end Sys2Proof.Machine

namespace Sys2Proof.Machine

set_option Elab.async false

/-! ## The driver, the zero crossings and the noise map of a lane (R107, R109, R122, R123, R126) -/

/-- The objects of the lanes are none of the recorder's. -/
theorem laneKey_unrecorded {k : Nat} (low : 0x240000 ≤ k) (high : k < 0x250000) : Unrecorded k := by
  refine ⟨.inl (by omega), fun mem => ?_⟩
  have out : ∀ j ∈ recorderCells, j < 0x240000 ∨ 0x250000 ≤ j := by decide
  have := out k mem
  omega

/-! ### The retry of a degraded frame (R126) -/

/-- A degraded frame before its next attempt (R126). -/
def State.degradedOut (s : State) (l : Nat) (o : PlcOut) : PlcOut :=
  { o with
    retries := o.retries + 1
    degraded := true
    force := some (robustMode o.t.kind o.modulation)
    modulation := robustMode o.t.kind o.modulation
    atten := Nat.min (s.nat (Obj.txAttenDb l) + 3) (s.nat (Obj.txAttenMaxDb l)) }

/-- A degraded Chain frame below its limit goes back to the head of its class (R126). -/
theorem State.degradedRetry_chain {s : State} {l : Nat} {o : PlcOut} (chain : o.t.kind = 0) (room : o.retries < s.nat
    Obj.chainRetryLimit) :
    s.degradedRetry l o = s.modLane l fun x => { x with queue := requeue (s.degradedOut l o) x.queue } := by
  unfold State.degradedRetry
  rw [if_pos chain]
  dsimp only
  exact if_neg (Nat.not_le.mpr room)

/-! ### The thermal trip (R107) -/

/-- A lane that is held does not drive. -/
theorem State.driving_held {s : State} {l : Nat} {x : Lane} (h : s.lane l = some x) (held : x.hold = some none) : s.driving l = false :=
    by
  unfold State.driving
  rw [h]
  dsimp only
  rw [held]
  simp

/-- The state after the hardware's part of a thermal trip (R107). -/
def State.tripped (s : State) (l : Nat) : State :=
  ({ s with pins.therm := s.pins.therm.set l true } : State).modLane l fun x => { x.txOff s.now 0 with hold := some none, tail := 0 }

/-- The trip counted and logged (R107). -/
def State.tripLogged (s : State) (l : Nat) : State :=
  ((s.tripped l).bump (Obj.thermalTrips l)).logOp 0x3004 0xFF (pack [(1, l), (1, 1)])

theorem State.thermalTrip_eq {s : State} {l : Nat} {x : Lane} (h : s.lane l = some x) (low : l ≤ 2) :
    s.thermalTrip l = if s.laneOn l then
      (match x.onAir with
        | none => s.tripLogged l
        | some o => if o.t.kind = 2 then s.tripLogged l else (s.tripLogged l).degradedRetry l o).settle l x.idle
      else s.tripped l := by
  have there : ({ s with pins.therm := s.pins.therm.set l true } : State).lane l = some x := h
  unfold State.thermalTrip
  rw [if_neg (Nat.not_lt.mpr low)]
  dsimp only
  rw [there]
  dsimp only
  have on : (s.tripped l).laneOn l = s.laneOn l := rfl
  change (if !(s.tripped l).laneOn l then s.tripped l else (match x.onAir with
    | none => s.tripLogged l
    | some o => if o.t.kind = 2 then s.tripLogged l else (s.tripLogged l).degradedRetry l o).settle l x.idle) = _
  rw [on]
  cases s.laneOn l <;> rfl

theorem State.tripped_lane {s : State} {l : Nat} {x : Lane} (h : s.lane l = some x) :
    (s.tripped l).lane l = some { x.txOff s.now 0 with hold := some none, tail := 0 } :=
  State.modLane_lane (s := { s with pins.therm := s.pins.therm.set l true }) _ h

theorem State.tripLogged_lane {s : State} {l : Nat} {x : Lane} (h : s.lane l = some x) :
    (s.tripLogged l).lane l = some { x.txOff s.now 0 with hold := some none, tail := 0 } :=
  (State.lane_of_part l (State.logOp_frame _ _ _ _ (by decide))).trans ((State.bump_lane _ _ _).trans (State.tripped_lane h))

theorem State.tripLogged_pins (s : State) (l : Nat) : (s.tripLogged l).pins.therm = s.pins.therm.set l true := by
  have pins : (s.tripLogged l).pins = (s.tripped l).pins :=
    (State.logOp_frame (p := .pins) _ _ _ _ (by decide)).trans (State.bump_frame (p := .pins) _ _ (by decide))
  rw [pins]
  rfl

theorem State.tripLogged_cell (s : State) (l : Nat) {k : Nat} (plain : Unrecorded k) (apart : k ≠ Obj.thermalTrips l) :
    (s.tripLogged l).cell k = s.cell k :=
  (State.logOp_cell _ _ _ _ plain).trans (State.bump_cell _ apart)

/-- A lane that does not transmit trips: its driver is off, and it is held (R107). -/
theorem State.thermalTrip_silent {s : State} {l : Nat} {x : Lane} (h : s.lane l = some x) (low : l ≤ 2) (silent : x.onAir = none)
    (room : s.nat (Obj.thermalTrips l) < 4294967295) :
    (s.thermalTrip l).pins.therm = s.pins.therm.set l true ∧ (s.thermalTrip l).lane l = some { x with hold := some none, tail := 0 } ∧
      (s.laneOn l = true → (s.thermalTrip l).get (Obj.thermalTrips l) = (s.nat (Obj.thermalTrips l) + 1 : Nat)) := by
  have off : x.txOff s.now 0 = x := by rw [Lane.txOff, silent]
  have tripped := State.tripped_lane h
  have logged := State.tripLogged_lane h
  rw [off] at tripped logged
  have settled : (s.tripLogged l).settle l x.idle = s.tripLogged l := State.settle_same logged rfl
  have run := State.thermalTrip_eq h low
  rw [silent] at run
  dsimp only at run
  rw [settled] at run
  rw [run]
  cases s.laneOn l with
  | false =>
    rw [if_neg Bool.false_ne_true]
    exact ⟨rfl, tripped, nofun⟩
  | true =>
    rw [if_pos rfl]
    refine ⟨s.tripLogged_pins l, logged, fun _ => ?_⟩
    exact (State.logOp_cell _ _ _ _ (laneKey_unrecorded (by unfold Obj.thermalTrips; omega) (by unfold Obj.thermalTrips; omega))).trans
      (State.bump_cell_self (s.tripped l) room)

/-- A Chain frame that a trip aborts is retried as degraded, 3 dB down in BPSK (R107, R126). -/
theorem State.thermalTrip_aborts {s : State} {l : Nat} {x : Lane} {o : PlcOut} (h : s.lane l = some x) (on : s.laneOn l = true)
    (sends : x.onAir = some o) (chain : o.t.kind = 0) (room : o.retries < s.nat Obj.chainRetryLimit) :
    ∃ y p, (s.thermalTrip l).lane l = some y ∧ y.onAir = none ∧ y.hold = some none ∧ y.holds p ∧ p.t = o.t ∧
      p.retries = o.retries + 1 ∧ p.degraded = true ∧ p.force = some 0 ∧
      p.atten = Nat.min (s.nat (Obj.txAttenDb l) + 3) (s.nat (Obj.txAttenMaxDb l)) := by
  have low := State.laneOn_le on
  have nat {k : Nat} (plain : Unrecorded k) (apart : k ≠ Obj.thermalTrips l) : (s.tripLogged l).nat k = s.nat k :=
    congrArg Int.toNat (s.tripLogged_cell l plain apart)
  have limit : (s.tripLogged l).nat Obj.chainRetryLimit = s.nat Obj.chainRetryLimit :=
    nat (laneKey_unrecorded (by decide) (by decide)) (by unfold Obj.chainRetryLimit Obj.thermalTrips; omega)
  have atten : (s.tripLogged l).nat (Obj.txAttenDb l) = s.nat (Obj.txAttenDb l) :=
    nat (laneKey_unrecorded (by unfold Obj.txAttenDb; omega) (by unfold Obj.txAttenDb; omega))
      (by unfold Obj.txAttenDb Obj.thermalTrips; omega)
  have most : (s.tripLogged l).nat (Obj.txAttenMaxDb l) = s.nat (Obj.txAttenMaxDb l) :=
    nat (laneKey_unrecorded (by unfold Obj.txAttenMaxDb; omega) (by unfold Obj.txAttenMaxDb; omega))
      (by unfold Obj.txAttenMaxDb Obj.thermalTrips; omega)
  have logged := State.tripLogged_lane h
  have retried := State.modLane_lane (fun x => { x with queue := requeue ((s.tripLogged l).degradedOut l o) x.queue }) logged
  rw [State.thermalTrip_eq h low, on, if_pos rfl, sends]
  dsimp only
  rw [if_neg (by omega), State.degradedRetry_chain chain (limit.symm ▸ room)]
  obtain ⟨y, found, settles⟩ := State.settle_lane x.idle retried
  refine ⟨y, (s.tripLogged l).degradedOut l o, found, ?_, ?_, settles.kept _ (.inl (mem_requeue.mpr (.inl rfl))), rfl, rfl, rfl, ?_, ?_⟩
  · refine (congrArg (fun z : Lane => z.onAir) settles.rest).trans ?_
    show (x.txOff s.now 0).onAir = none
    rw [Lane.txOff, sends]
  · exact congrArg (fun z : Lane => z.hold) settles.rest
  · show some (robustMode o.t.kind o.modulation) = some 0
    rw [robustMode, if_pos chain]
  · show Nat.min _ _ = _
    rw [atten, most]

/-! ### Zero crossings (R122) -/

/-- An edge on a lane that is locked (R122). -/
theorem State.zcEdge_locked {s : State} {l a : Nat} {rising : Bool} {x : Lane} (h : s.lane l = some x) (on : s.tightropeOn = true)
    (locked : x.zc.locked = true) :
    let d := Nat.max (a - 1000 * s.nat (Obj.zcDelayUs l) - x.zc.predicted) (x.zc.predicted - (a - 1000 * s.nat (Obj.zcDelayUs l)))
    s.zcEdge l a rising = if 1000000 < d then (s.modLane l fun x => { x with zc.stamp := s.shortAt a }).bump (Obj.zcIgnored l)
      else (s.modLane l fun x => { x with zc.stamp := s.shortAt a }).modLane l fun x => { x with
        zc := x.zc.accept (a - 1000 * s.nat (Obj.zcDelayUs l)) rising } := by
  unfold State.zcEdge
  rw [h]
  dsimp only
  rw [on, if_neg (by decide), if_pos locked]

/-- An edge on a lane that has lost its tracking (R122). -/
theorem State.zcEdge_acquires {s : State} {l a : Nat} {rising : Bool} {x : Lane} (h : s.lane l = some x) (on : s.tightropeOn = true)
    (lost : x.zc.locked = false) :
    (s.zcEdge l a rising).lane l = some { x with
      zc := ({ x.zc with stamp := s.shortAt a } : Zc).acquire (a - 1000 * s.nat (Obj.zcDelayUs l)) rising
      frozen := x.frozen && !(({ x.zc with stamp := s.shortAt a } : Zc).acquire (a - 1000 * s.nat (Obj.zcDelayUs l)) rising).locked } :=
          by
  have stamped := State.modLane_lane (fun x : Lane => { x with zc.stamp := s.shortAt a }) h
  unfold State.zcEdge
  rw [h]
  dsimp only
  rw [on, if_neg (by decide), if_neg (by rw [lost]; decide)]
  exact (State.modLane_lane _ stamped).trans rfl

/-- Two edges 7.1 to 12.5 ms apart lock the tracking (R122). -/
theorem Zc.acquire_locks {z : Zc} {t : Nat} (rising : Bool) (first : z.last ≠ 0) (low : z.last + 7100000 ≤ t)
    (high : t ≤ z.last + 12500000) : (z.acquire t rising).locked = true ∧ (z.acquire t rising).half = t - z.last := by
  unfold Zc.acquire
  dsimp only
  rw [if_pos ⟨first, by omega, by omega⟩]
  refine ⟨rfl, ?_⟩
  show [t - z.last].sum / Nat.max 1 1 = t - z.last
  rw [List.sum_singleton, Nat.max_eq_max, Nat.max_self, Nat.div_one]

/-- A missing edge is filled in at its prediction, until the eighth in a row loses the tracking (R122). -/
theorem State.zcMissing_lane {s : State} {l : Nat} {x : Lane} (h : s.lane l = some x) (on : s.tightropeOn = true)
    (locked : x.zc.locked = true) (due : x.zc.predicted ≤ s.now) :
    (x.zc.filled + 1 < 8 → (s.zcMissing l).lane l = some { x with
        zc := { x.zc with last := x.zc.predicted, filled := x.zc.filled + 1 } }) ∧
      (8 ≤ x.zc.filled + 1 → (s.zcMissing l).lane l = some { x with
        zc := { x.zc with last := 0, halves := [], filled := 0, locked := false }
        frozen := true }) := by
  unfold State.zcMissing
  rw [h]
  dsimp only
  rw [if_neg (by rw [on, locked, Nat.ble_eq_true_of_le due]; decide)]
  constructor
  · intro more
    rw [if_pos more]
    exact (State.modLane_lane _ h).trans rfl
  · intro eighth
    rw [if_neg (by omega)]
    exact (State.lane_of_part l (State.logOp_frame _ _ _ _ (by decide))).trans ((State.bump_lane _ _ _).trans
      ((State.modLane_lane _ h).trans rfl))

/-! ### The half-cycle (R109, R123, R128) -/

/-- The noise map of a lane after a half-cycle (R123). -/
def State.noiseAfter (s : State) (l : Nat) (power : List Nat) (x : Lane) : List Nat :=
  if x.frozen || !x.zc.locked then x.noise
  else (List.range 64).map fun i =>
    match power[i]? with
    | some m => if x.sendsIn (x.zc.last - s.halfPeriod x + i * s.halfPeriod x / 64) (x.zc.last - s.halfPeriod x + (i + 1) * s.halfPeriod
        x / 64)
        then x.noise.getD i 0 else noiseStep (s.nat (Obj.noiseMapTau l)) (x.noise.getD i 0) m
    | none => x.noise.getD i 0

/-- The gain of a lane after a half-cycle (R109). -/
def State.gainAfter (s : State) (l : Nat) (rms : Int) (x : Lane) : Nat :=
  if s.nat (Obj.rxGainFixedDb l) ≠ 0xFF then s.nat (Obj.rxGainFixedDb l)
  else if x.bound = 0 ∧ x.onAir.isNone then autoGain rms else x.gain

theorem State.halfCycle_lane {s : State} {l : Nat} {power : List Nat} {rms : Int} {x : Lane} (h : s.lane l = some x)
    (on : s.laneOn l = true) :
    ∃ y, (s.halfCycle l power rms).lane l = some y ∧ y.held = none ∧ y.noise = s.noiseAfter l power x ∧ y.gain = s.gainAfter l rms x ∧
      (s.halfCycle l power rms).cat = s.cat := by
  have run : s.halfCycle l power rms = (s.modLane l fun z => { z with
      noise := s.noiseAfter l power x, gain := s.gainAfter l rms x, held := none
      sent := z.sent.filter fun p => Nat.blt z.zc.last p.2 }).select l := State.onLane_eq _ h on
  obtain ⟨y, found, settles, -⟩ := State.select_lane (State.modLane_lane (fun z : Lane => { z with
    noise := s.noiseAfter l power x, gain := s.gainAfter l rms x, held := none
    sent := z.sent.filter fun p => Nat.blt z.zc.last p.2 }) h)
  rw [run]
  exact ⟨y, found, congrArg (fun z : Lane => z.held) settles.rest, congrArg (fun z : Lane => z.noise) settles.rest,
    congrArg (fun z : Lane => z.gain) settles.rest, State.select_cat _ _⟩

/-- A slot measured while the map follows the mains takes one step of its average, unless the lane transmitted in it (R123). -/
theorem State.noiseAfter_slot (s : State) (l : Nat) {power : List Nat} {x : Lane} {i m : Nat} (thawed : x.frozen = false)
    (locked : x.zc.locked = true) (low : i < 64) (measured : power[i]? = some m) :
    (s.noiseAfter l power x)[i]? = some
      (if x.sendsIn (x.zc.last - x.zc.half + i * x.zc.half / 64) (x.zc.last - x.zc.half + (i + 1) * x.zc.half / 64) then x.noise.getD i 0
        else noiseStep (s.nat (Obj.noiseMapTau l)) (x.noise.getD i 0) m) := by
  have half : s.halfPeriod x = x.zc.half := by rw [State.halfPeriod, if_pos locked]
  unfold State.noiseAfter
  rw [thawed, locked, half, if_neg (by decide), List.getElem?_map, List.getElem?_range low, Option.map_some, measured]

/-- Settles O25. -/
theorem laneDriver : Obligations.LaneDriver := by
  unfold Obligations.LaneDriver
  refine ⟨?silent, ?aborts, ?release, ?holdoff, ?edge, ?acquires, ?missing, ?half⟩
  case silent =>
    intro s l x h low silent room
    obtain ⟨pins, found, counted⟩ := State.thermalTrip_silent h low silent room
    exact ⟨_, rfl, pins, State.driving_held found rfl, found, counted⟩
  case aborts =>
    intro s l x o h on sends chain room
    obtain ⟨y, p, found, silent, held, rest⟩ := State.thermalTrip_aborts h on sends chain room
    exact ⟨_, y, p, rfl, State.driving_held found held, found, silent, held, rest⟩
  case release =>
    intro s l x h low
    have run : s.thermRelease l = ({ s with pins.therm := s.pins.therm.set l false } : State).modLane l fun x =>
        { x with hold := x.hold.map fun _ => some s.now } := if_neg (Nat.not_lt.mpr low)
    refine ⟨_, congrArg Host.Outcome.next run, rfl, ?_⟩
    exact State.modLane_lane (s := { s with pins.therm := s.pins.therm.set l false }) _ h
  case holdoff =>
    intro s l a x h held awake
    have run : s.holdoffEnd l = if (s.awake && Nat.ble (a + s.nat (Obj.thermalHoldoffMs l) * 1000000) s.now) = true then
        s.modLane l fun x => { x with hold := none } else s := by
      unfold State.holdoffEnd
      rw [h, Option.bind_some, held]
    rw [awake, Bool.true_and] at run
    refine ⟨_, congrArg Host.Outcome.next run, ?_, fun past => ?_, fun soon => ?_⟩
    · split <;> rfl
    · rw [if_pos (Nat.ble_eq_true_of_le past)]
      exact State.modLane_lane _ h
    · rw [if_neg (by simpa using soon)]
  case edge =>
    intro s l a rising x h on locked room _
    have run := State.zcEdge_locked (a := a) (rising := rising) h on locked
    have stamped := State.modLane_lane (fun x : Lane => { x with zc.stamp := s.shortAt a }) h
    refine ⟨_, congrArg Host.Outcome.next run, fun near => ?_, fun far => ?_⟩
    · rw [if_neg (Nat.not_lt.mpr near)]
      exact ⟨State.modLane_lane _ stamped, rfl⟩
    · rw [if_pos far]
      exact ⟨(State.bump_lane _ _ _).trans stamped, State.bump_cell_self (s.modLane l _) room⟩
  case acquires =>
    intro s l a rising x h on lost first low high
    have found := State.zcEdge_acquires (a := a) (rising := rising) h on lost
    obtain ⟨locks, half⟩ := Zc.acquire_locks (z := { x.zc with stamp := s.shortAt a }) rising first low high
    exact ⟨_, _, rfl, found, locks, by rw [locks]; exact Bool.and_false _, half⟩
  case missing =>
    intro s l x h on locked due
    obtain ⟨fills, loses⟩ := State.zcMissing_lane h on locked due
    refine ⟨_, rfl, fun more => ?_, fun eighth => ?_⟩
    · exact (congrArg (Option.map fun y : Lane => (y.zc.last, y.zc.filled, y.zc.locked)) (fills more)).trans (by rw [Option.map_some,
        locked])
    · exact congrArg (Option.map fun y : Lane => (y.zc.locked, y.frozen)) (loses eighth)
  case half =>
    intro s l power rms x h on
    obtain ⟨y, found, held, noise, gain, cat⟩ := State.halfCycle_lane (power := power) (rms := rms) h on
    refine ⟨_, y, rfl, found, held, cat, fun fixed => ?_, fun auto free silent => ?_, fun still => ?_,
        fun thawed locked i m low measured => ?_⟩
    · rw [gain, State.gainAfter, if_pos fixed]
    · rw [gain, State.gainAfter, if_neg (not_not.mpr auto), if_pos ⟨free, by rw [silent]; rfl⟩]
    · rw [noise, State.noiseAfter, if_pos (by rcases still with frozen | lost <;> simp [*])]
    · rw [noise]
      exact s.noiseAfter_slot l thawed locked low measured

end Sys2Proof.Machine

namespace Sys2Proof.Machine

set_option Elab.async false

/-! ## Chain headers (R113) -/

/-- Two numbers with the same low bits have the same bits. -/
theorem lsbBits_mod (n a : Nat) : lsbBits n (a % 2 ^ n) = lsbBits n a := by
  unfold lsbBits
  refine List.map_congr_left fun i hi => ?_
  rw [Nat.testBit_mod_two_pow, decide_eq_true (List.mem_range.mp hi), Bool.true_and]

/-- The CRC of a header covers its 40 low bits. -/
theorem headerCrc_mod (w : Nat) : headerCrc (w % 2 ^ 40) = headerCrc w := by
  unfold headerCrc msbBits
  rw [lsbBits_mod]

theorem crcBit_lt (r : Nat) (b : Bool) : crcBit 8 0x07 r b < 256 := by
  unfold crcBit
  dsimp only
  have low : 2 * r % 2 ^ 8 < 2 ^ 8 := Nat.mod_lt _ (by decide)
  split
  · exact Nat.xor_lt_two_pow low (by decide)
  · exact low

theorem headerCrc_lt (w : Nat) : headerCrc w < 256 := by
  unfold headerCrc
  generalize msbBits 40 w = bs
  have fold : ∀ (bs : List Bool) (r : Nat), r < 256 → bs.foldl (crcBit 8 0x07) r < 256 := by
    intro bs
    induction bs with
    | nil => exact fun _ h => h
    | cons b bs ih => exact fun r _ => ih _ (crcBit_lt r b)
  exact fold bs 0 (by decide)

/-- A header's word before its CRC (R113). -/
def ChainFields.low (f : ChainFields) : Nat :=
  f.priority % 4 * 4 + f.modulation % 2 * 16 + f.blocksMinusOne % 8 * 32 + f.burstPeriodUs % 16384 * 256 +
    f.firstGapUs % 16384 * 4194304 + b2n f.sourceRouted * 2 ^ 36

theorem ChainFields.word_eq (f : ChainFields) : f.word = f.low + headerCrc f.low * 2 ^ 40 := rfl

theorem ChainFields.low_lt (f : ChainFields) : f.low < 2 ^ 37 := by
  have flag : b2n f.sourceRouted ≤ 1 := by cases f.sourceRouted <;> decide
  unfold ChainFields.low
  omega

/-- The fields that a header's word holds, each within its bits (R113). -/
theorem chainFields_word (f : ChainFields) :
    chainFields f.word = ⟨f.sourceRouted, f.firstGapUs % 16384, f.burstPeriodUs % 16384, f.blocksMinusOne % 8, f.modulation % 2,
      f.priority % 4⟩ := by
  have crc := headerCrc_lt f.low
  have small := f.low_lt
  have routed : bit f.word 36 = f.sourceRouted := by
    unfold bit
    rw [Nat.testBit_eq_decide_div_mod_eq, f.word_eq]
    cases flag : f.sourceRouted <;>
    · unfold ChainFields.low at *
      rw [flag] at *
      simp only [b2n, Bool.false_eq_true, if_false, if_true] at *
      simp
      omega
  unfold chainFields bits
  rw [routed, f.word_eq]
  have flag : b2n f.sourceRouted ≤ 1 := by cases f.sourceRouted <;> decide
  unfold ChainFields.low at *
  congr 1 <;> omega

end Sys2Proof.Machine

namespace Sys2Proof.Machine

set_option Elab.async false

/-! ## Acknowledgement, retry and routes (R134 to R137) -/

/-- A message of the lane's own is queued, or contends (R111, R137). -/
theorem State.standardMessage_lane {s : State} {l : Nat} {x : Lane} (dest prio : Nat) (h : s.lane l = some x) :
    ∃ y p, (s.standardMessage l dest prio).lane l = some y ∧ x.Settles y ∧ y.holds p ∧ p.t.kind = 1 ∧ p.t.dest = dest := by
  unfold State.standardMessage
  dsimp only
  generalize made : freshOut _ _ _ = o
  have kind : o.t.kind = 1 := by rw [← made]; rfl
  have same : o.t.dest = dest := by rw [← made]; rfl
  have there : s.draw.2.draw.2.draw.2.lane l = some x := h
  have queued := State.modLane_lane (fun x => { x with queue := x.queue ++ [o] }) there
  obtain ⟨y, found, settles, -⟩ := State.select_lane queued
  have grows : x.Settles { x with queue := x.queue ++ [o] } :=
    ⟨rfl, fun p held => held.imp_left (List.mem_append_left [o])⟩
  exact ⟨y, o, found, grows.trans settles, settles.kept o (.inl (by simp)), kind, same⟩

/-! ### Acknowledgements (R134) -/

/-- An acknowledgement owed whose gap has passed (R134). -/
theorem State.ackSend_eq {s : State} {l crc prio due : Nat} {x : Lane} (h : s.lane l = some x) (on : s.laneOn l = true)
    (owed : x.ackFor = some (crc, prio, due)) :
    s.ackSend l = (if !(Nat.ble due s.now) then s
      else if x.onAir.isSome || x.bound != 0 || !(s.laneCfg l x).chain || !s.mayStart x then
        s.modLane l fun x => { x with ackFor := none }
      else (s.modLane l fun x => { x with ackFor := none }).onAir l
        ((s.modLane l fun x => { x with ackFor := none }).ackOut l (s.laneCfg l x) crc prio)).settle l x.idle := by
  unfold State.ackSend
  rw [State.onMedium_eq _ h on, owed]
  rfl

/-- The acknowledgement goes on air without contention (R134). -/
theorem State.ackSend_sends {s : State} {l crc prio due : Nat} {x : Lane} (h : s.lane l = some x) (on : s.laneOn l = true)
    (owed : x.ackFor = some (crc, prio, due)) (past : due ≤ s.now) (silent : x.onAir = none) (free : x.bound = 0)
    (chain : (s.laneCfg l x).chain = true) (starts : s.mayStart x = true) :
    ∃ y o, (s.ackSend l).lane l = some y ∧ y.ackFor = none ∧ y.onAir = some o ∧ o.t.kind = 2 ∧
      (chainFields o.header).firstGapUs = crc % 16384 ∧ (chainFields o.header).burstPeriodUs = 0 ∧
      (chainFields o.header).priority = prio % 4 := by
  have cleared := State.modLane_lane (fun x : Lane => { x with ackFor := none }) h
  rw [State.ackSend_eq h on owed, Nat.ble_eq_true_of_le past, if_neg (by decide), silent, free, chain, starts, if_neg (by decide)]
  generalize sent : (s.modLane l fun x => { x with ackFor := none }).ackOut l (s.laneCfg l x) crc prio = o
  have aired : ((s.modLane l fun x => { x with ackFor := none }).onAir l o).lane l = some { x with ackFor := none, onAir := some o } :=
    (State.modLane_lane (fun x : Lane => { x with onAir := some o }) cleared :)
  obtain ⟨y, found, settles⟩ := State.settle_lane x.idle aired
  have fields : chainFields o.header = ⟨false, crc % 16384, 0, 0, 0, prio % 4⟩ := by
    rw [← sent]
    exact chainFields_word _
  refine ⟨y, o, found, congrArg (fun z : Lane => z.ackFor) settles.rest, congrArg (fun z : Lane => z.onAir) settles.rest, ?_, ?_, ?_, ?_⟩
  · rw [← sent]
    rfl
  · rw [fields]
  · rw [fields]
  · rw [fields]

/-- A lane that sends or receives when its acknowledgement is due sends none (R134). -/
theorem State.ackSend_busy {s : State} {l crc prio due : Nat} {x : Lane} (h : s.lane l = some x) (on : s.laneOn l = true)
    (owed : x.ackFor = some (crc, prio, due)) (past : due ≤ s.now) (busy : x.bound ≠ 0 ∨ x.onAir ≠ none) :
    ∃ y, (s.ackSend l).lane l = some y ∧ y.ackFor = none ∧ y.onAir = x.onAir := by
  have engaged : (x.onAir.isSome || x.bound != 0 || !(s.laneCfg l x).chain || !s.mayStart x) = true := by
    rcases busy with bound | sends
    · simp [bound]
    · simp [Option.isSome_iff_ne_none.mpr sends]
  have cleared := State.modLane_lane (fun x : Lane => { x with ackFor := none }) h
  rw [State.ackSend_eq h on owed, Nat.ble_eq_true_of_le past, if_neg (by decide), engaged, if_pos rfl]
  obtain ⟨y, found, settles⟩ := State.settle_lane x.idle cleared
  exact ⟨y, found, congrArg (fun z : Lane => z.ackFor) settles.rest, (congrArg (fun z : Lane => z.onAir) settles.rest :)⟩

/-- An acknowledgement that matches a frame awaiting it ends its wait (R135). -/
theorem State.ackReceived_ends {s : State} {l w : Nat} {x : Lane} {a : Await} (h : s.lane l = some x) (on : s.laneOn l = true)
    (heard : x.bound = 2) (header : x.header = some w) (awaits : a ∈ x.awaiting) (mine : a.o.crc % 16384 = (chainFields w).firstGapUs)
    (bare : ∀ b ∈ x.awaiting, b.o.t.stage = 0) :
    ∃ y, (s.ackReceived l).lane l = some y ∧ y.bound = 0 ∧ (s.ackReceived l).cat = s.cat ∧
      y.awaiting = (x.unmarkAwaited.awaiting.filter fun b => !(b.o.crc % 16384 == (chainFields w).firstGapUs)) := by
  have present : (x.awaiting.find? fun a => a.o.crc % 16384 == (chainFields w).firstGapUs).isSome = true :=
    List.find?_isSome.mpr ⟨a, awaits, by simpa using mine⟩
  obtain ⟨b, first⟩ := Option.isSome_iff_exists.mp present
  have none : b.o.t.stage = 0 := bare b (List.mem_of_find?_eq_some first)
  have busy : x.idle = false := by rw [Lane.idle, heard]; rfl
  have released := State.modLane_lane (fun x : Lane => x.unmarkAwaited.release) h
  have ended := State.modLane_lane (fun x : Lane =>
    { x with awaiting := x.awaiting.filter fun b => !(b.o.crc % 16384 == (chainFields w).firstGapUs) }) released
  have run : s.ackReceived l = ((s.modLane l fun x => x.unmarkAwaited.release).modLane l fun x =>
      { x with awaiting := x.awaiting.filter fun b => !(b.o.crc % 16384 == (chainFields w).firstGapUs) }).settle l false := by
    unfold State.ackReceived
    rw [State.onMedium_eq _ h on, busy, header]
    dsimp only
    rw [if_neg (not_not.mpr heard), first]
    dsimp only
    rw [if_pos none]
  obtain ⟨y, found, settles⟩ := State.settle_lane false ended
  rw [run]
  exact ⟨y, found, congrArg (fun z : Lane => z.bound) settles.rest, State.settle_cat ended,
    congrArg (fun z : Lane => z.awaiting) settles.rest⟩

/-! ### Timeouts (R135) -/

/-- A frame that carries no item is abandoned without trace. -/
theorem State.abandonPlc_bare {s : State} {o : PlcOut} (bare : o.t.stage = 0) : s.abandonPlc o = s := by
  have none : (s.nand.items.find? fun i => i.seq == o.t.stage && o.t.stage != 0) = none :=
    List.find?_eq_none.mpr fun i _ => by simp [bare]
  unfold State.abandonPlc
  rw [none]

/-- A frame unacknowledged for too long is retried, or abandoned at its limit (R135). -/
theorem State.ackTimeout_ends {s : State} {l : Nat} {x : Lane} {a : Await} (h : s.lane l = some x) (on : s.laneOn l = true)
    (waited : x.awaiting.find? ((s.laneTiming x).waited s.now) = some a) (bare : a.o.t.stage = 0)
    (timeouts : s.nat (Obj.ackTimeouts l) < 4294967295) (exhausted : s.nat (Obj.retriesExhausted l) < 4294967295) :
    ∃ y, (s.ackTimeout l).lane l = some y ∧ y.awaiting = x.awaiting.erase a ∧
      (s.ackTimeout l).get (Obj.ackTimeouts l) = (s.nat (Obj.ackTimeouts l) + 1 : Nat) ∧
      (a.o.retries < s.nat Obj.chainRetryLimit → ∃ p, y.holds p ∧ p.t = a.o.t ∧ p.retries = a.o.retries + 1) ∧
      (s.nat Obj.chainRetryLimit ≤ a.o.retries → y = { x with awaiting := x.awaiting.erase a } ∧
        (s.ackTimeout l).get (Obj.retriesExhausted l) = (s.nat (Obj.retriesExhausted l) + 1 : Nat)) := by
  have run : s.ackTimeout l = s.unacked l a := by
    unfold State.ackTimeout
    rw [State.onLane_eq _ h on, waited]
  have erased : ((s.modLane l fun x => { x with awaiting := x.awaiting.erase a }).bump (Obj.ackTimeouts l)).lane l =
      some { x with awaiting := x.awaiting.erase a } :=
    (State.bump_lane _ _ _).trans (State.modLane_lane (fun x : Lane => { x with awaiting := x.awaiting.erase a }) h)
  have counted : ((s.modLane l fun x => { x with awaiting := x.awaiting.erase a }).bump (Obj.ackTimeouts l)).get (Obj.ackTimeouts l) =
      (s.nat (Obj.ackTimeouts l) + 1 : Nat) := State.bump_cell_self (s.modLane l _) timeouts
  have limit : ((s.modLane l fun x => { x with awaiting := x.awaiting.erase a }).bump (Obj.ackTimeouts l)).nat Obj.chainRetryLimit =
      s.nat Obj.chainRetryLimit :=
    congrArg Int.toNat (State.bump_cell (s.modLane l _) (by unfold Obj.chainRetryLimit Obj.ackTimeouts; omega))
  have others : ((s.modLane l fun x => { x with awaiting := x.awaiting.erase a }).bump (Obj.ackTimeouts l)).nat (Obj.retriesExhausted l) =
      s.nat (Obj.retriesExhausted l) :=
    congrArg Int.toNat (State.bump_cell (s.modLane l _) (by unfold Obj.retriesExhausted Obj.ackTimeouts; omega))
  rw [run]
  unfold State.unacked
  generalize (s.modLane l fun x => { x with awaiting := x.awaiting.erase a }).bump (Obj.ackTimeouts l) = u at erased counted limit others
  dsimp only
  rw [limit]
  by_cases spent : s.nat Obj.chainRetryLimit ≤ a.o.retries
  · rw [if_pos spent, State.abandonPlc_bare bare]
    refine ⟨_, (State.bump_lane _ _ _).trans erased, rfl, ?_, fun more => absurd more (Nat.not_lt.mpr spent), fun _ => ⟨rfl, ?_⟩⟩
    · exact (State.bump_cell _ (by unfold Obj.retriesExhausted Obj.ackTimeouts; omega)).trans counted
    · exact (State.bump_cell_self _ (others.symm ▸ exhausted)).trans (by rw [others])
  · rw [if_neg spent]
    generalize made : ({ a.o with
      retries := a.o.retries + 1
      penalties := (hopsOf (a.o.route.getD [])).foldl (addPenalty (u.nat Obj.retryPenalty)) a.o.penalties
      degraded := false
      force := none
      atten := u.nat (Obj.txAttenDb l) } : PlcOut) = o
    have queued := State.modLane_lane (fun x : Lane => { x with queue := requeue o x.queue }) erased
    obtain ⟨y, found, settles, -⟩ := State.select_lane queued
    refine ⟨y, found, congrArg (fun z : Lane => z.awaiting) settles.rest, ?_,
      fun _ => ⟨o, settles.kept o (.inl (mem_requeue.mpr (.inl rfl))), ?_, ?_⟩, fun full => absurd full spent⟩
    · exact (congrArg (fun c => catGet c (Obj.ackTimeouts l)) (State.select_cat _ _)).trans counted
    · rw [← made]
    · rw [← made]

/-! ### LOADng and bootstrapping (R137) -/

/-- A route reply for the part installs its route, a route error for it removes its own (R137). -/
theorem State.loadng_own {s : State} {l origin next cost : Nat} {x : Lane} (h : s.lane l = some x) (on : s.laneOn l = true) :
    (s.loadng l 1 origin selfShort next cost).lane l = some { x with routes := installRoute { dest := origin, next, cost } x.routes } ∧
      (s.loadng l 2 origin selfShort next cost).lane l =
        some { x with routes := x.routes.filter fun r => !(r.dest == origin && r.next == next) } := by
  have installed := State.modLane_lane (fun x : Lane => { x with routes := installRoute { dest := origin, next, cost } x.routes }) h
  have removed := State.modLane_lane (fun x : Lane =>
    { x with routes := x.routes.filter fun r => !(r.dest == origin && r.next == next) }) h
  constructor
  · have run : s.loadng l 1 origin selfShort next cost =
        (s.modLane l fun x => { x with routes := installRoute { dest := origin, next, cost } x.routes }).settle l x.idle :=
      (State.onMedium_eq _ h on).trans (congrArg (fun t : State => t.settle l x.idle) (if_pos rfl))
    exact (congrArg (fun t : State => t.lane l) (run.trans (State.settle_same installed rfl))).trans installed
  · have run : s.loadng l 2 origin selfShort next cost =
        (s.modLane l fun x => { x with routes := x.routes.filter fun r => !(r.dest == origin && r.next == next) }).settle l x.idle :=
      (State.onMedium_eq _ h on).trans (congrArg (fun t : State => t.settle l x.idle) (if_pos rfl))
    exact (congrArg (fun t : State => t.lane l) (run.trans (State.settle_same removed rfl))).trans removed

/-- A route request installs the way back, and is answered or passed on (R137). -/
theorem State.loadng_request {s : State} {l origin target next cost : Nat} {x : Lane} (h : s.lane l = some x) (on : s.laneOn l = true) :
    ∃ y p, (s.loadng l 0 origin target next cost).lane l = some y ∧
      y.routes = installRoute { dest := origin, next, cost } x.routes ∧ y.holds p ∧ p.t.kind = 1 ∧
      p.t.dest = if target = selfShort then next else 0xFFFF := by
  have installed := State.modLane_lane (fun x : Lane => { x with routes := installRoute { dest := origin, next, cost } x.routes }) h
  have run : s.loadng l 0 origin target next cost =
      ((s.modLane l fun x => { x with routes := installRoute { dest := origin, next, cost } x.routes }).standardMessage l
        (if target = selfShort then next else 0xFFFF) 1).settle l x.idle := by
    refine (State.onMedium_eq _ h on).trans (congrArg (fun t : State => t.settle l x.idle) ?_)
    exact (apply_ite (fun d => (s.modLane l fun x =>
      { x with routes := installRoute { dest := origin, next, cost } x.routes }).standardMessage l d 1) _ _ _).symm
  obtain ⟨y, p, queued, settles, holds, kind, dest⟩ :=
    State.standardMessage_lane (if target = selfShort then next else 0xFFFF) 1 installed
  obtain ⟨z, found, settled⟩ := State.settle_lane x.idle queued
  rw [run]
  exact ⟨z, p, found, (congrArg (fun z : Lane => z.routes) (settles.trans settled).rest :), settled.kept p holds, kind, dest⟩

/-- An endpoint whose PSK opens joins (R137, R165). -/
theorem State.bootstrap_joins {s : State} {l tag : Nat} {x : Lane} {r : Record} (h : s.lane l = some x) (on : s.laneOn l = true)
    (known : s.lookupTag tag = some r) (live : r.live = true) (typed : typeOnCell r.ntype (l + 4) = true)
    (master : (tget s.loc.keys.proto (32 * r.tenant + 4 + l)).isSome = true) (psk : s.pskOpens r = true) :
    ∃ y d, (s.bootstrap l tag true).lane l = some y ∧ (s.bootstrap l tag true).nand = s.nand ∧
      tget y.joined tag = some (if r.ntype = 4 then r.naddr % 65536 else d % 65536) := by
  have run : s.bootstrap l tag true = s.draw.2.modLane l fun x => { x with
      joined := tput x.joined tag (if r.ntype = 4 then r.naddr % 65536 else s.draw.1 % 65536) } := by
    refine (State.onLane_eq _ h on).trans ?_
    rw [known]
    dsimp only
    rw [live, typed, master, psk, if_pos (by decide)]
  rw [run]
  exact ⟨_, s.draw.1, State.modLane_lane (s := s.draw.2) _ h, rfl, tget_tput_self _ _ _⟩

/-- Settles O28. -/
theorem acknowledgementsAndRoutes : Obligations.AcknowledgementsAndRoutes := by
  unfold Obligations.AcknowledgementsAndRoutes
  refine ⟨?send, ?received, ?timeout, ?own, ?request, ?joins⟩
  case send =>
    intro s l crc prio due x h on owed
    refine ⟨_, rfl, fun past silent free chain accepts hold => ?_, fun past busy => ?_, fun early => ?_⟩
    · have starts : s.mayStart x = true := by rw [State.mayStart, accepts, hold]; rfl
      obtain ⟨y, o, found, cleared, sends, kind, gap, period, priority⟩ := State.ackSend_sends h on owed past silent free chain starts
      refine (congrArg (Option.map _) found).trans ?_
      rw [Option.map_some, cleared, sends, Option.map_some, kind, gap, period, priority]
    · obtain ⟨y, found, cleared, same⟩ := State.ackSend_busy h on owed past busy
      refine (congrArg (Option.map _) found).trans ?_
      rw [Option.map_some, cleared, same]
    · refine (State.ackSend_eq h on owed).trans ?_
      have late : Nat.ble due s.now = false := Bool.eq_false_iff.mpr fun le => Nat.not_lt.mpr (Nat.le_of_ble_eq_true le) early
      rw [late, if_pos (by decide)]
      exact State.settle_same h rfl
  case received =>
    intro s l w x a h on heard header awaits mine bare
    obtain ⟨y, found, bound, cat, left⟩ := State.ackReceived_ends h on heard header awaits mine bare
    refine ⟨_, y, rfl, found, bound, cat, fun b hb => ?_, fun b hb other => ?_⟩
    · rw [left] at hb
      simpa using (List.mem_filter.mp hb).2
    · rw [left]
      exact List.mem_filter.mpr ⟨List.mem_map.mpr ⟨b, hb, rfl⟩, by simpa using other⟩
  case timeout =>
    intro s l x a h on waited bare timeouts exhausted
    obtain ⟨y, found, rest⟩ := State.ackTimeout_ends h on waited bare timeouts exhausted
    exact ⟨_, y, rfl, found, rest⟩
  case own =>
    intro s l origin next cost x h on
    exact ⟨_, _, rfl, rfl, State.loadng_own h on⟩
  case request =>
    intro s l origin target next cost x h on
    obtain ⟨y, p, found, rest⟩ := State.loadng_request (origin := origin) (target := target) (next := next) (cost := cost) h on
    exact ⟨_, y, p, rfl, found, rest⟩
  case joins =>
    intro s l tag x r h on known live typed master psk
    obtain ⟨y, d, found, nand, joined⟩ := State.bootstrap_joins h on known live typed master psk
    exact ⟨_, y, rfl, found, by rw [joined]; rfl, nand, fun short => by rw [joined, if_pos short]⟩

end Sys2Proof.Machine

namespace Sys2Proof.Machine

set_option Elab.async false

/-! ## Carrier sense, contention and transmissions (R126, R129 to R136) -/

/-! ### What a lane's transmission needs (R107, R128) -/

/-- Whether a lane is enabled follows from the pins, the power and two objects. -/
theorem State.laneOn_of {s t : State} (l : Nat) (pins : t.pins = s.pins) (pw : t.pw = s.pw)
    (power : t.cell Obj.powerState = s.cell Obj.powerState) (enable : t.cell Obj.tightropeEnable = s.cell Obj.tightropeEnable) :
    t.laneOn l = s.laneOn l := by
  have state : t.nat Obj.powerState = s.nat Obj.powerState := congrArg Int.toNat power
  have lanes : t.nat Obj.tightropeEnable = s.nat Obj.tightropeEnable := congrArg Int.toNat enable
  unfold State.laneOn State.tightropeOn State.serving State.awake State.bitOf
  rw [pins, pw, state, lanes]

/-- A lane with a frame on air drives, where nothing holds it (R107). -/
theorem State.driving_sends {s : State} {l : Nat} {x : Lane} {o : PlcOut} (h : s.lane l = some x) (on : s.laneOn l = true)
    (cool : s.pins.therm.getD l false = false) (free : x.hold = none) (sends : x.onAir = some o)
    (span : o.endNs = none ∨ ∃ e, (s.now, e) ∈ o.spans ∧ s.now ≤ e) : s.driving l = true := by
  have air : (o.endNs.isNone || o.spans.any (driverSpan (1000 * s.nat (Obj.drvLeadUs l)) s.now)) = true := by
    rcases span with endless | ⟨e, spans, later⟩
    · rw [endless]
      rfl
    · have covers : driverSpan (1000 * s.nat (Obj.drvLeadUs l)) s.now (s.now, e) = true := by
        simp only [driverSpan, Bool.and_eq_true, Nat.ble_eq]
        omega
      rw [List.any_eq_true.mpr ⟨_, spans, covers⟩, Bool.or_true]
  unfold State.driving
  rw [h]
  dsimp only
  rw [on, cool, free, sends]
  dsimp only
  rw [air]
  rfl

/-! ### Deferral (R131) -/

theorem State.deferChain_none {s : State} {l : Nat} {x : Lane} (h : s.lane l = some x) (none : x.drawn = none) : s.deferChain l = s := by
  unfold State.deferChain
  rw [h, Option.bind_some, none]

theorem State.deferChain_drawn {s : State} {l d : Nat} {x : Lane} (h : s.lane l = some x) (drawn : x.drawn = some d) :
    s.deferChain l = (s.modLane l fun x => { x with drawn := none }).bump (Obj.contentionDeferrals l) := by
  unfold State.deferChain
  rw [h, Option.bind_some, drawn]

/-! ### Carrier sense (R129, R130) -/

theorem State.mediumIdle_eq {s : State} {l power : Nat} {x : Lane} (h : s.lane l = some x) (on : s.laneOn l = true) :
    s.mediumIdle l power = if s.sensed x power then s else (s.modLane l fun x => { x with power := false }).settle l x.idle := by
  unfold State.mediumIdle
  rw [State.onMedium_eq _ h on]
  split
  · exact State.settle_same h rfl
  · rfl

theorem State.mediumBusy_eq {s : State} {l power : Nat} {x : Lane} (h : s.lane l = some x) (on : s.laneOn l = true) :
    s.mediumBusy l power = if s.sensed x power then (s.modLane l fun x => { x with power := true }).settle l x.idle else s := by
  unfold State.mediumBusy
  rw [State.onMedium_eq _ h on]
  split
  · rfl
  · exact State.settle_same h rfl

/-- A medium whose power falls with nothing else keeping it busy has its idle instant (R129). -/
theorem State.mediumIdle_instant {s : State} {l power : Nat} {x : Lane} (h : s.lane l = some x) (on : s.laneOn l = true)
    (free : x.bound = 0) (over_ : x.virtual = none) (silent : x.onAir = none) (was : x.power = true) (quiet : s.sensed x power = false) :
    ∃ y, (s.mediumIdle l power).lane l = some y ∧ y.power = false ∧ y.idleAt = s.now ∧ y.timing = none ∧
      (s.mediumIdle l power).cat = s.cat := by
  have fell := State.modLane_lane (fun x : Lane => { x with power := false }) h
  have busy : x.idle = false := by simp [Lane.idle, was]
  have idle : ({ x with power := false } : Lane).idle = true := by simp [Lane.idle, free, over_, silent]
  obtain ⟨y, found, settles, timing, idleAt⟩ := State.idleInstant_lane fell
  have run : s.mediumIdle l power = (s.modLane l fun x => { x with power := false }).idleInstant l := by
    rw [State.mediumIdle_eq h on, quiet, if_neg (by decide), busy, State.settle_idle fell idle]
  rw [run]
  exact ⟨y, found, congrArg (fun z : Lane => z.power) settles.rest, idleAt, timing, State.idleInstant_cat _ _⟩

/-- A power that rises on an idle medium defers the frame whose slot has not started (R131). -/
theorem State.mediumBusy_defers {s : State} {l d power : Nat} {x : Lane} (h : s.lane l = some x) (on : s.laneOn l = true)
    (drawn : x.drawn = some d) (was : x.idle = true) (loud : s.sensed x power = true) :
    s.mediumBusy l power =
      ((s.modLane l fun x => { x with power := true }).modLane l fun x => { x with drawn := none }).bump (Obj.contentionDeferrals l) := by
  have rose := State.modLane_lane (fun x : Lane => { x with power := true }) h
  have busy : ({ x with power := true } : Lane).idle = false := by simp [Lane.idle]
  rw [State.mediumBusy_eq h on, loud, if_pos rfl, was, State.settle_busy rose busy, State.deferChain_drawn rose drawn]

/-! ### A frame queued (R132, R136) -/

/-- The only frame of a queue is first, where its mode runs (R136). -/
theorem firstClass_one {chain : Bool} {o : PlcOut} (runs : (chain || o.t.kind != 0) = true) : firstClass chain [o] = some o := by
  have cls : plcClass o.t = 1 ∨ plcClass o.t = 2 ∨ plcClass o.t = 3 := by
    unfold plcClass
    repeat' split
    all_goals simp
  unfold firstClass
  dsimp only
  rcases cls with one | two | three
  · simp [one, runs]
  · simp [two, runs]
  · simp [three, runs]

/-- A frame that comes to an empty lane contends (R136). -/
theorem State.select_one {s : State} {l : Nat} {x : Lane} {o : PlcOut} (h : s.lane l = some x) (one : x.queue = [o])
    (nobody : x.contending = none) (runs : ((s.laneCfg l x).chain || o.t.kind != 0) = true) :
    ∃ y, (s.select l).lane l = some y ∧ y.queue = [] ∧ y.contending = some o ∧ y.idle = x.idle := by
  have empty : x.queue.erase o = [] := by rw [one, List.erase_cons_head]
  unfold State.select
  rw [h]
  dsimp only
  rw [one, firstClass_one runs]
  dsimp only
  rw [nobody]
  dsimp only
  rw [← one, empty]
  obtain ⟨d, taken⟩ := State.takeToContend_lane o [] x.idle h
  exact ⟨_, taken, rfl, rfl, rfl⟩

/-- The frame that a queued one becomes (R132, R139). -/
def State.queuedTx (s : State) (p : PlcTx) : PlcTx :=
  { p with prio := if p.kind = 0 then s.plcPriority p else p.prio, dest := s.plcDest p }

/-- The state in which a frame is queued: its item held, its confirmation used (R132, R400). -/
def State.queueHeld (s : State) (p : PlcTx) : State :=
  if p.stage = 0 then { s.draw.2 with gate.confirmed := s.gate.confirmed.filter (· != p.stage) }
  else ({ s.draw.2 with gate.confirmed := s.gate.confirmed.filter (· != p.stage) } : State).holdItems [p.stage] true

theorem State.queueHeld_lane (s : State) (p : PlcTx) (l : Nat) : (s.queueHeld p).lane l = s.lane l := by
  unfold State.queueHeld
  split <;> rfl

theorem State.queueHeld_cat (s : State) (p : PlcTx) : (s.queueHeld p).cat = s.cat := by
  unfold State.queueHeld
  split <;> rfl

/-- The modulation that a queued frame starts with (R126). -/
def State.queuedModulation (s : State) (l : Nat) (p : PlcTx) : Nat :=
  if p.kind = 0 then s.nat (Obj.chainModulationDefault l) else s.draw.1 % 5

/-- A frame that no route is missing for joins the queue of its lane (R136). -/
theorem State.plcQueue_eq {s : State} {l : Nat} {p : PlcTx} {x : Lane} (h : s.lane l = some x) (on : s.laneOn l = true)
    (carries : s.mayCarry p.stage = true) (kind : p.kind = 1 ∨ (p.kind = 0 ∧ s.flag (Obj.chainEnable l) = true))
    (routed : x.wantsRoute (s.queuedTx p) = false) :
    ∃ o, o.t = s.queuedTx p ∧
      s.plcQueue l p = (((s.queueHeld p).modLane l fun x => { x with queue := x.queue ++ [o] }).select l).settle l x.idle := by
  have may : (s.mayCarry p.stage && (p.kind == 1 || (p.kind == 0 && s.flag (Obj.chainEnable l)))) = true := by
    rcases kind with standard | ⟨chain, enabled⟩
    · simp [carries, standard]
    · simp [carries, chain, enabled]
  refine ⟨freshOut (s.queuedTx p) (s.queuedModulation l p) ((s.queueHeld p).nat (Obj.txAttenDb l)), rfl, ?_⟩
  unfold State.plcQueue
  rw [State.onMedium_eq _ h on, may, if_neg (by decide)]
  exact congrArg (fun v : State => ((v.modLane l fun x => { x with
    queue := x.queue ++ [freshOut (s.queuedTx p) (s.queuedModulation l p) (v.nat (Obj.txAttenDb l))] }).select l).settle l x.idle)
    (if_neg fun wants => Bool.false_ne_true (routed.symm.trans wants))

/-- A frame queued on an empty lane contends (R136). -/
theorem State.plcQueue_contends {s : State} {l : Nat} {p : PlcTx} {x : Lane} (h : s.lane l = some x) (on : s.laneOn l = true)
    (carries : s.mayCarry p.stage = true) (kind : p.kind = 1 ∨ (p.kind = 0 ∧ s.flag (Obj.chainEnable l) = true))
    (routed : x.wantsRoute (s.queuedTx p) = false) (runs : ((s.laneCfg l x).chain || p.kind != 0) = true) (empty : x.queue = [])
    (nobody : x.contending = none) :
    ∃ y o, (s.plcQueue l p).lane l = some y ∧ y.queue = [] ∧ y.contending = some o ∧ o.t = s.queuedTx p := by
  obtain ⟨o, tx, run⟩ := State.plcQueue_eq h on carries kind routed
  have queued := State.modLane_lane (fun x : Lane => { x with queue := x.queue ++ [o] }) ((s.queueHeld_lane p l).trans h)
  have cfg : (((s.queueHeld p).modLane l fun x => { x with queue := x.queue ++ [o] }).laneCfg l
      ({ x with queue := x.queue ++ [o] } : Lane)) = s.laneCfg l x :=
    congrArg (fun c => ({ s with cat := c } : State).laneCfg l x) (s.queueHeld_cat p)
  obtain ⟨y, found, none, contends, same⟩ := State.select_one queued (by rw [empty]; rfl) nobody
    (by rw [cfg, tx]; exact runs)
  refine ⟨y, o, ?_, none, contends, tx⟩
  rw [run]
  exact (congrArg (fun t : State => t.lane l) (State.settle_same found same)).trans found

/-! ### Transmissions (R107, R126, R131, R136) -/

/-- What looking for a route leaves of a frame and of the state (R139). -/
theorem State.route_keeps (s : State) (l : Nat) (links : List Link) (o : PlcOut) : (s.route l links o).1.t = o.t := by
  unfold State.route
  split
  · rfl
  · split <;> rfl

theorem State.route_cell (s : State) (l : Nat) (links : List Link) (o : PlcOut) {k : Nat} (unrouted : k ≠ Obj.noRoute l)
    (changed : k ≠ Obj.routeChanges l) : (s.route l links o).2.cell k = s.cell k := by
  have round (u : State) (p : List Nat) (same : u.cell k = s.cell k) :
      (match o.route with
        | some q => if q = p then u else u.bump (Obj.routeChanges l)
        | none => u).cell k = s.cell k := by
    split
    · split
      · exact same
      · exact (u.bump_cell changed).trans same
    · exact same
  unfold State.route
  split
  · rfl
  · split
    · rfl
    · cases s.bestPath o.penalties links o.t.dest with
      | some p => exact round s p rfl
      | none => exact round _ _ (s.bump_cell unrouted)

/-- A frame that goes on air on an idle medium defers nothing: it was the one that contended (R131). -/
theorem State.onAir_settled {s : State} {l : Nat} {x : Lane} (o : PlcOut) (h : s.lane l = some x) (none : x.drawn = none) :
    (s.onAir l o).settle l true = s.onAir l o ∧ (s.onAir l o).lane l = some { x with onAir := some o } := by
  have aired : (s.onAir l o).lane l = some { x with onAir := some o } := State.modLane_lane (fun x : Lane => { x with onAir := some o }) h
  have busy : ({ x with onAir := some o } : Lane).idle = false := by simp [Lane.idle]
  exact ⟨(State.settle_busy aired busy).trans (State.deferChain_none aired none), aired⟩

/-- A Chain frame starts in the slot drawn, on a medium that has stayed idle (R131). -/
theorem State.slotStart_starts {s : State} {l d : Nat} {x : Lane} {o : PlcOut} (h : s.lane l = some x) (on : s.laneOn l = true)
    (contends : x.contending = some o) (drawn : x.drawn = some d) (due : d ≤ s.now) (kind : o.t.kind = 0)
    (chain : (s.laneCfg l x).chain = true) (idle : x.idle = true) (accepts : s.accepting = true) (free : x.hold = none)
    (cool : s.pins.therm.getD l false = false) :
    (s.slotStart l).driving l = true ∧ ∃ y p, (s.slotStart l).lane l = some y ∧ y.onAir = some p ∧ p.t = o.t ∧ y.contending = none ∧
      y.drawn = none := by
  have starts : s.mayStart x = true := by rw [State.mayStart, accepts, free]; rfl
  have low := State.laneOn_le on
  have cell {k : Nat} (unrouted : k ≠ Obj.noRoute l) (changed : k ≠ Obj.routeChanges l) := s.route_cell l x.links o unrouted changed
  have part {p : Part} (hp : p ∉ [Part.free, .cat]) : p.of (s.route l x.links o).2 = p.of s := s.route_frame l x.links o hp
  have power := cell (k := Obj.powerState) (by unfold Obj.powerState Obj.noRoute; omega)
    (by unfold Obj.powerState Obj.routeChanges; omega)
  have enable := cell (k := Obj.tightropeEnable) (by unfold Obj.tightropeEnable Obj.noRoute; omega)
    (by unfold Obj.tightropeEnable Obj.routeChanges; omega)
  have on' := State.laneOn_of l (part (p := .pins) (by decide)) (part (p := .pw) (by decide)) power enable
  have pins : (s.route l x.links o).2.pins = s.pins := part (p := .pins) (by decide)
  have there := (State.lane_of_part l (part (p := .lanes) (by decide))).trans h
  have tx := s.route_keeps l x.links o
  have run : s.slotStart l = (((s.route l x.links o).2.modLane l fun x => { x with contending := none, drawn := none }).onAir l
      ((s.route l x.links o).2.placed l x (s.route l x.links o).1)).settle l true := by
    unfold State.slotStart
    rw [State.onMedium_eq _ h on, contends, drawn]
    dsimp only
    rw [kind, idle, starts, chain, Nat.ble_eq_true_of_le due, if_neg (by decide)]
  generalize (s.route l x.links o).1 = p at run tx
  generalize (s.route l x.links o).2 = u at run on' pins there
  have cleared := State.modLane_lane (fun x : Lane => { x with contending := none, drawn := none }) there
  obtain ⟨settled, aired⟩ := State.onAir_settled (u.placed l x p) cleared rfl
  rw [run, settled]
  refine ⟨State.driving_sends aired (on'.trans on) ?_ free rfl (.inr ⟨_, List.mem_cons_self, ?_⟩), _, _, aired, rfl, tx, rfl, rfl⟩
  · exact (congrArg (fun q : Pins => q.therm.getD l false) pins).trans cool
  · exact (Nat.le_add_right _ _).trans (Nat.le_add_right _ _)

/-- A standard frame starts on an idle medium, its samples DrvLeadUs after its driver (R107, R136). -/
theorem State.csmaTx_starts {s : State} {l : Nat} {x : Lane} {o : PlcOut} (h : s.lane l = some x) (on : s.laneOn l = true)
    (contends : x.contending = some o) (kind : o.t.kind = 1) (idle : x.idle = true) (accepts : s.accepting = true) (free : x.hold = none)
    (cool : s.pins.therm.getD l false = false) :
    (s.csmaTx l).driving l = true ∧ (s.csmaTx l).cat = s.cat ∧ ∃ y p, (s.csmaTx l).lane l = some y ∧ y.onAir = some p ∧ p.t = o.t ∧
      p.spans = [(s.now + 1000 * s.nat (Obj.drvLeadUs l), s.now + 1000 * s.nat (Obj.drvLeadUs l))] ∧ p.endNs = none ∧
      y.contending = none ∧ y.drawn = none ∧ y.routes = useRoute o.t.dest x.routes := by
  have starts : s.mayStart x = true := by rw [State.mayStart, accepts, free]; rfl
  have run : ∃ p : PlcOut, s.csmaTx l = ((s.modLane l fun y => { y with
        contending := none
        drawn := none
        routes := useRoute o.t.dest y.routes }).onAir l p).settle l true ∧ p.t = o.t ∧
      p.spans = [(s.now + 1000 * s.nat (Obj.drvLeadUs l), s.now + 1000 * s.nat (Obj.drvLeadUs l))] ∧ p.endNs = none := by
    unfold State.csmaTx
    rw [State.onMedium_eq _ h on, contends]
    dsimp only
    rw [kind, idle, starts, if_neg (by decide)]
    refine ⟨_, rfl, ?_, ?_, ?_⟩
    · rfl
    · rfl
    · rfl
  obtain ⟨p, run, tx, spans, endless⟩ := run
  have cleared := State.modLane_lane (fun y : Lane => { y with
    contending := none
    drawn := none
    routes := useRoute o.t.dest y.routes }) h
  obtain ⟨settled, aired⟩ := State.onAir_settled p cleared rfl
  rw [run, settled]
  exact ⟨State.driving_sends aired on cool free rfl (.inl endless), rfl, _, p, aired, rfl, tx, spans, endless, rfl, rfl, rfl⟩

/-! ### The end of a transmission (R107, R126) -/

theorem State.degradedRetry_lane {s : State} {l : Nat} {x : Lane} {o : PlcOut} (h : s.lane l = some x) (chain : o.t.kind = 0) :
    ∃ y, (s.degradedRetry l o).lane l = some y ∧ x.Settles y ∧
      (o.retries < s.nat Obj.chainRetryLimit → y.holds (s.degradedOut l o)) := by
  by_cases room : o.retries < s.nat Obj.chainRetryLimit
  · have retried := State.modLane_lane (fun x : Lane => { x with queue := requeue (s.degradedOut l o) x.queue }) h
    rw [State.degradedRetry_chain chain room]
    exact ⟨_, retried, ⟨rfl, fun p held => held.imp_left fun waits => mem_requeue.mpr (.inr waits)⟩,
      fun _ => .inl (mem_requeue.mpr (.inl rfl))⟩
  · refine ⟨x, ?_, .refl x, fun more => absurd more room⟩
    unfold State.degradedRetry
    rw [if_pos chain]
    dsimp only
    rw [if_pos (Nat.not_lt.mp room)]
    exact (State.lane_of_part l (State.abandonPlc_frame _ _ (by decide))).trans ((s.bump_lane _ l).trans h)

theorem State.abandonPlc_cell (s : State) (o : PlcOut) {k : Nat} (plain : Unrecorded k) (staged : k ≠ Obj.stagedItems) :
    (s.abandonPlc o).cell k = s.cell k := by
  unfold State.abandonPlc
  split
  · rfl
  · split
    · exact s.dropItem_cell _ _ plain staged
    · rfl

theorem State.degradedRetry_cell {s : State} {l : Nat} {o : PlcOut} {k : Nat} (chain : o.t.kind = 0) (plain : Unrecorded k)
    (staged : k ≠ Obj.stagedItems) (exhausted : k ≠ Obj.retriesExhausted l) : (s.degradedRetry l o).cell k = s.cell k := by
  unfold State.degradedRetry
  rw [if_pos chain]
  dsimp only
  split
  · exact (State.abandonPlc_cell _ _ plain staged).trans (s.bump_cell exhausted)
  · rfl

/-- The part of the end of a transmission that comes before its counts: it is off air (R107). -/
theorem Lane.txOff_fields {x : Lane} {o : PlcOut} (e tail : Nat) (sends : x.onAir = some o) :
    (x.txOff e tail).onAir = none ∧ (x.txOff e tail).awaiting = x.awaiting := by
  rw [Lane.txOff, sends]
  exact ⟨rfl, rfl⟩

/-- The state of a transmission's end, counted (R126). -/
def State.txCounted (s : State) (l e : Nat) : State :=
  (s.modLane l fun x => x.txOff e (e + 10000)).bump (Obj.plcTxFrames l)

/-- The end of a Chain unicast frame's transmission (R107, R126, R135). -/
theorem State.plcTxEnd_eq {s : State} {l : Nat} {isense : List Nat} {x : Lane} {o : PlcOut} (h : s.lane l = some x)
    (on : s.laneOn l = true) (sends : x.onAir = some o) (kind : o.t.kind = 0) (unicast : o.t.dest ≠ 0xFFFF)
    (past : o.endNs.getD s.now ≤ s.now) :
    s.plcTxEnd l isense =
      ((if Nat.blt (s.nat (Obj.clipThreshold l)) (s.overCurrent l isense)
        then ((s.txCounted l (o.endNs.getD s.now)).bump (Obj.txDegraded l)).degradedRetry l o
        else (s.txCounted l (o.endNs.getD s.now)).modLane l fun x =>
          { x with awaiting := x.awaiting ++ [{ o := o, seen := false }] }).select
        l).settle l false := by
  have low := State.laneOn_le on
  have busy : x.idle = false := by simp [Lane.idle, sends]
  have nat {k : Nat} (apart : k ≠ Obj.plcTxFrames l) : (s.txCounted l (o.endNs.getD s.now)).nat k = s.nat k :=
    congrArg Int.toNat (State.bump_cell (s.modLane l _) apart)
  have clip : (s.txCounted l (o.endNs.getD s.now)).nat (Obj.clipThreshold l) = s.nat (Obj.clipThreshold l) :=
    nat (by unfold Obj.clipThreshold Obj.plcTxFrames; omega)
  have sense : (s.txCounted l (o.endNs.getD s.now)).overCurrent l isense = s.overCurrent l isense := by
    unfold State.overCurrent
    rw [nat (by unfold Obj.isenseThresholdMv Obj.plcTxFrames; omega)]
  unfold State.plcTxEnd
  rw [State.onMedium_eq _ h on, busy, sends]
  dsimp only
  rw [Nat.ble_eq_true_of_le past, if_neg (by decide)]
  change ((if o.t.kind = 2 then _ else _ : State).select l).settle l false = _
  rw [if_neg (by omega)]
  refine congrArg (fun t : State => (t.select l).settle l false) ?_
  rw [show (s.modLane l fun x => x.txOff (o.endNs.getD s.now) (o.endNs.getD s.now + 10000)).bump (Obj.plcTxFrames l) =
    s.txCounted l (o.endNs.getD s.now) from rfl, clip, sense]
  cases Nat.blt (s.nat (Obj.clipThreshold l)) (s.overCurrent l isense) with
  | true => rfl
  | false =>
    simp only [Bool.false_eq_true, if_false]
    exact if_pos ⟨kind, unicast⟩

/-- After the end of a transmission, whatever became of its frame (R107, R126): off air, counted. -/
theorem State.txCounted_counts {s : State} {l e : Nat} {x : Lane} (h : s.lane l = some x)
    (room : s.nat (Obj.plcTxFrames l) < 4294967295) :
    (s.txCounted l e).lane l = some (x.txOff e (e + 10000)) ∧
      (s.txCounted l e).get (Obj.plcTxFrames l) = (s.nat (Obj.plcTxFrames l) + 1 : Nat) ∧
      ∀ k, k ≠ Obj.plcTxFrames l → (s.txCounted l e).nat k = s.nat k :=
  ⟨(State.bump_lane _ _ _).trans (State.modLane_lane _ h), State.bump_cell_self (s.modLane l _) room,
    fun _ apart => congrArg Int.toNat (State.bump_cell (s.modLane l _) apart)⟩

/-- What a selection and the settling of a medium that was busy leave (R129, R136). -/
theorem State.select_settle {s : State} {l : Nat} {x : Lane} (h : s.lane l = some x) :
    ∃ y, ((s.select l).settle l false).lane l = some y ∧ x.Settles y ∧ ((s.select l).settle l false).cat = s.cat := by
  obtain ⟨y, selected, settles, -⟩ := State.select_lane h
  obtain ⟨z, found, settled⟩ := State.settle_lane false selected
  exact ⟨z, found, settles.trans settled, (State.settle_cat selected).trans (s.select_cat l)⟩

/-- A transmission within its current limit awaits its acknowledgement (R135). -/
theorem State.plcTxEnd_awaits {s : State} {l : Nat} {isense : List Nat} {x : Lane} {o : PlcOut} (h : s.lane l = some x)
    (on : s.laneOn l = true) (sends : x.onAir = some o) (kind : o.t.kind = 0) (unicast : o.t.dest ≠ 0xFFFF)
    (past : o.endNs.getD s.now ≤ s.now) (room : s.nat (Obj.plcTxFrames l) < 4294967295)
    (within_ : s.overCurrent l isense ≤ s.nat (Obj.clipThreshold l)) :
    ∃ y, (s.plcTxEnd l isense).lane l = some y ∧ y.onAir = none ∧
      (s.plcTxEnd l isense).get (Obj.plcTxFrames l) = (s.nat (Obj.plcTxFrames l) + 1 : Nat) ∧
      y.awaiting = x.awaiting ++ [{ o := o, seen := false }] := by
  obtain ⟨counted, frames, -⟩ := State.txCounted_counts (e := o.endNs.getD s.now) h room
  obtain ⟨off, waits⟩ := Lane.txOff_fields (o.endNs.getD s.now) (o.endNs.getD s.now + 10000) sends
  have few : Nat.blt (s.nat (Obj.clipThreshold l)) (s.overCurrent l isense) = false :=
    Bool.eq_false_iff.mpr fun more => Nat.not_lt.mpr within_ (Nat.blt_eq.mp more)
  have run := State.plcTxEnd_eq (isense := isense) h on sends kind unicast past
  rw [few, if_neg Bool.false_ne_true] at run
  have awaits := State.modLane_lane (fun x : Lane => { x with awaiting := x.awaiting ++ [{ o := o, seen := false }] }) counted
  obtain ⟨y, found, settles, cat⟩ := State.select_settle awaits
  rw [run]
  refine ⟨y, found, (congrArg (fun z : Lane => z.onAir) settles.rest).trans off, ?_, ?_⟩
  · exact (congrArg (fun c => catGet c (Obj.plcTxFrames l)) cat).trans frames
  · exact (congrArg (fun z : Lane => z.awaiting) settles.rest).trans (by rw [waits])

/-- A transmission beyond its current limit is degraded, and retried below its limit (R126). -/
theorem State.plcTxEnd_degraded {s : State} {l : Nat} {isense : List Nat} {x : Lane} {o : PlcOut} (h : s.lane l = some x)
    (on : s.laneOn l = true) (sends : x.onAir = some o) (kind : o.t.kind = 0) (unicast : o.t.dest ≠ 0xFFFF)
    (past : o.endNs.getD s.now ≤ s.now) (room : s.nat (Obj.plcTxFrames l) < 4294967295)
    (degraded : s.nat (Obj.txDegraded l) < 4294967295) (beyond : s.nat (Obj.clipThreshold l) < s.overCurrent l isense) :
    ∃ y, (s.plcTxEnd l isense).lane l = some y ∧ y.onAir = none ∧
      (s.plcTxEnd l isense).get (Obj.plcTxFrames l) = (s.nat (Obj.plcTxFrames l) + 1 : Nat) ∧ y.awaiting = x.awaiting ∧
      (s.plcTxEnd l isense).get (Obj.txDegraded l) = (s.nat (Obj.txDegraded l) + 1 : Nat) ∧
      (o.retries < s.nat Obj.chainRetryLimit → ∃ p, y.holds p ∧ p.t = o.t ∧ p.retries = o.retries + 1 ∧ p.degraded = true) := by
  have low := State.laneOn_le on
  obtain ⟨counted, frames, nats⟩ := State.txCounted_counts (e := o.endNs.getD s.now) h room
  obtain ⟨off, waits⟩ := Lane.txOff_fields (o.endNs.getD s.now) (o.endNs.getD s.now + 10000) sends
  have many : Nat.blt (s.nat (Obj.clipThreshold l)) (s.overCurrent l isense) = true := Nat.blt_eq.mpr beyond
  have run := State.plcTxEnd_eq (isense := isense) h on sends kind unicast past
  rw [many, if_pos rfl] at run
  generalize s.txCounted l (o.endNs.getD s.now) = u at counted frames nats run
  have there : (u.bump (Obj.txDegraded l)).lane l = some (x.txOff (o.endNs.getD s.now) (o.endNs.getD s.now + 10000)) :=
    (u.bump_lane _ l).trans counted
  have limit : (u.bump (Obj.txDegraded l)).nat Obj.chainRetryLimit = s.nat Obj.chainRetryLimit :=
    (congrArg Int.toNat (u.bump_cell (by unfold Obj.chainRetryLimit Obj.txDegraded; omega))).trans
      (nats _ (by unfold Obj.chainRetryLimit Obj.plcTxFrames; omega))
  have many' : (u.bump (Obj.txDegraded l)).get (Obj.txDegraded l) = (s.nat (Obj.txDegraded l) + 1 : Nat) := by
    have same := nats (Obj.txDegraded l) (by unfold Obj.txDegraded Obj.plcTxFrames; omega)
    exact (u.bump_cell_self (same.symm ▸ degraded)).trans (by rw [same])
  have sent : (u.bump (Obj.txDegraded l)).get (Obj.plcTxFrames l) = (s.nat (Obj.plcTxFrames l) + 1 : Nat) :=
    (u.bump_cell (by unfold Obj.txDegraded Obj.plcTxFrames; omega)).trans frames
  obtain ⟨z, retried, kept, holds⟩ := State.degradedRetry_lane there kind
  obtain ⟨y, found, settles, cat⟩ := State.select_settle retried
  have rest := (kept.trans settles).rest
  have cell {k : Nat} (lane : 0x241000 ≤ k ∧ k < 0x241300) :
      (((u.bump (Obj.txDegraded l)).degradedRetry l o).select l |>.settle l false).get k = (u.bump (Obj.txDegraded l)).get k :=
    (congrArg (fun c => catGet c k) cat).trans (State.degradedRetry_cell kind (laneKey_unrecorded (by omega) (by omega))
      (by unfold Obj.stagedItems; omega) (by unfold Obj.retriesExhausted; omega))
  rw [run]
  refine ⟨y, found, (congrArg (fun z : Lane => z.onAir) rest).trans off, ?_, (congrArg (fun z : Lane => z.awaiting) rest).trans waits, ?_,
    fun more => ?_⟩
  · exact (cell (by unfold Obj.plcTxFrames; omega)).trans sent
  · exact (cell (by unfold Obj.txDegraded; omega)).trans many'
  · exact ⟨_, settles.kept _ (holds (limit.symm ▸ more)), rfl, rfl, rfl⟩

/-- Settles O27. -/
theorem mediumAccess : Obligations.MediumAccess := by
  unfold Obligations.MediumAccess
  refine ⟨?idle, ?defers, ?senses, ?virtual, ?queued, ?staged, ?slot, ?csma, ?ends⟩
  case idle =>
    intro s l power x h on free over_ silent was quiet
    obtain ⟨y, found, fell, idleAt, timing, cat⟩ := State.mediumIdle_instant h on free over_ silent was quiet
    refine ⟨_, rfl, ?_, cat⟩
    exact (congrArg (Option.map _) found).trans (by rw [Option.map_some, fell, idleAt, timing])
  case defers =>
    intro s l d power x h on drawn was loud room
    have rose := State.modLane_lane (fun x : Lane => { x with power := true }) h
    refine ⟨_, congrArg Host.Outcome.next (State.mediumBusy_defers h on drawn was loud), ?_, ?_⟩
    · exact (State.bump_lane _ _ _).trans (State.modLane_lane (fun x : Lane => { x with drawn := none }) rose)
    · exact State.bump_cell_self ((s.modLane l _).modLane l _) room
  case senses =>
    intro s l power x h on
    refine ⟨_, _, congrArg Host.Outcome.next (State.mediumBusy_eq h on), congrArg Host.Outcome.next (State.mediumIdle_eq h on),
      fun loud => ?_, fun quiet => ?_⟩
    · obtain ⟨y, found, settles⟩ := State.settle_lane x.idle (State.modLane_lane (fun x : Lane => { x with power := true }) h)
      rw [loud, if_pos rfl, if_pos rfl]
      exact ⟨(congrArg (Option.map _) found).trans (congrArg (fun z : Lane => some z.power) settles.rest), rfl⟩
    · obtain ⟨y, found, settles⟩ := State.settle_lane x.idle (State.modLane_lane (fun x : Lane => { x with power := false }) h)
      rw [quiet, if_neg Bool.false_ne_true, if_neg Bool.false_ne_true]
      exact ⟨rfl, (congrArg (Option.map _) found).trans (congrArg (fun z : Lane => some z.power) settles.rest)⟩
  case virtual =>
    intro s l e x h on busy
    have run : s.virtualEnd l = (if Nat.ble e s.now then s.modLane l fun x => { x with virtual := none } else s).settle l x.idle := by
      unfold State.virtualEnd
      rw [State.onMedium_eq _ h on, busy]
      rfl
    refine ⟨_, congrArg Host.Outcome.next run, fun past => ?_, fun early => ?_⟩
    · obtain ⟨y, found, settles⟩ := State.settle_lane x.idle (State.modLane_lane (fun x : Lane => { x with virtual := none }) h)
      rw [Nat.ble_eq_true_of_le past, if_pos rfl]
      exact (congrArg (Option.map _) found).trans (congrArg (fun z : Lane => some z.virtual) settles.rest)
    · have late : Nat.ble e s.now = false := Bool.eq_false_iff.mpr fun le => Nat.not_lt.mpr (Nat.le_of_ble_eq_true le) early
      rw [late, if_neg Bool.false_ne_true]
      exact State.settle_same h rfl
  case queued =>
    intro s l p x h on bare kind empty nobody
    have none : (s.nand.items.find? fun i => i.seq == p.stage && p.stage != 0) = none :=
      List.find?_eq_none.mpr fun i _ => by simp [bare]
    have tx : s.queuedTx p = p := by
      unfold State.queuedTx State.plcPriority State.plcDest
      rw [none]
      dsimp only
      rw [ite_self]
    obtain ⟨y, o, found, left, contends, same⟩ := State.plcQueue_contends (p := p) h on (by simp [State.mayCarry, bare])
      (kind.imp And.left fun k => ⟨k.1, k.2.1⟩)
      (by rw [tx]; rcases kind with ⟨-, known⟩ | ⟨chain, -⟩; exacts [known, by simp [Lane.wantsRoute, chain]])
      (by rcases kind with ⟨standard, -⟩ | ⟨-, -, chain⟩ <;> simp [*]) empty nobody
    refine ⟨_, rfl, (congrArg (Option.map _) found).trans ?_⟩
    rw [Option.map_some, left, contends, Option.map_some, same, tx]
  case staged =>
    intro s l p x i h on _ carries item kind enabled chain empty nobody
    have prio : (s.queuedTx p).prio = s.plcPriority p := if_pos kind
    obtain ⟨y, o, found, -, contends, same⟩ := State.plcQueue_contends (p := p) h on carries (.inr ⟨kind, enabled⟩)
      (by simp [Lane.wantsRoute, State.queuedTx, kind]) (by rw [chain]; rfl) empty nobody
    refine ⟨_, y, o, rfl, found, contends, by rw [same]; rfl, fun cls => ?_, fun cls shed => ?_, fun cls other => ?_⟩
    all_goals
      rw [same, prio, State.plcPriority, item]
      dsimp only
    · rw [if_pos cls]
    · rw [if_neg (by omega), if_pos ⟨cls, shed⟩]
    · rw [if_neg (by omega), if_neg fun both => other both.2]
  case slot =>
    intro s l d x o h on contends drawn due kind chain idle accepts free cool
    obtain ⟨drives, y, p, found, sends, tx, left, slot⟩ :=
      State.slotStart_starts h on contends drawn due kind chain idle accepts free cool
    refine ⟨_, rfl, drives, (congrArg (Option.map _) found).trans ?_⟩
    rw [Option.map_some, sends, Option.map_some, tx, left, slot]
  case csma =>
    intro s l x o h on contends kind idle accepts free cool
    obtain ⟨drives, cat, y, p, found, sends, tx, spans, endless, left, slot, routes⟩ :=
      State.csmaTx_starts h on contends kind idle accepts free cool
    refine ⟨_, rfl, drives, cat, (congrArg (Option.map _) found).trans ?_⟩
    rw [Option.map_some, sends, Option.map_some, tx, spans, endless, left, slot, routes]
  case ends =>
    intro s l isense x o h on sends kind unicast past room degraded
    by_cases beyond : s.nat (Obj.clipThreshold l) < s.overCurrent l isense
    · obtain ⟨y, found, off, counted, waits, many, retried⟩ :=
        State.plcTxEnd_degraded h on sends kind unicast past room degraded beyond
      exact ⟨_, y, rfl, found, off, counted, fun few => absurd beyond (Nat.not_lt.mpr few), fun _ more => ⟨waits, many, retried more⟩⟩
    · obtain ⟨y, found, off, counted, waits⟩ :=
        State.plcTxEnd_awaits h on sends kind unicast past room (Nat.not_lt.mp beyond)
      exact ⟨_, y, rfl, found, off, counted, fun _ => waits, fun more => absurd more beyond⟩

end Sys2Proof.Machine

namespace Sys2Proof.Machine

set_option Elab.async false

/-! ## Reception on a lane (R110 to R130, R138, R143) -/

/-- The word of a header whose fields hold no reserved value may be followed (R113). -/
theorem headerOk_word (f : ChainFields) (prio : f.priority < 3) : headerOk f.word = true := by
  have crc := headerCrc_lt f.low
  have small := f.low_lt
  have own : headerCrc f.word = headerCrc f.low := by
    rw [← headerCrc_mod f.word, show f.word % 2 ^ 40 = f.low by rw [f.word_eq]; omega]
  have check : bits f.word 47 40 = headerCrc f.low := by
    unfold bits
    rw [f.word_eq]
    omega
  have reserved : bits f.word 39 37 = 0 := by
    unfold bits
    rw [f.word_eq]
    omega
  have priority : bits f.word 3 2 = f.priority := (congrArg ChainFields.priority (chainFields_word f)).trans (by dsimp only; omega)
  have tail : bits f.word 1 0 = 0 := by
    unfold bits
    rw [f.word_eq]
    unfold ChainFields.low
    omega
  have legal : Nat.beq f.priority 3 = false := by
    cases hit : Nat.beq f.priority 3 with
    | false => rfl
    | true =>
      have := Nat.eq_of_beq_eq_true hit
      omega
  unfold headerOk
  rw [own, check, reserved, priority, tail, legal, Nat.beq_refl]
  rfl

theorem ChainFields.word_lt (f : ChainFields) : f.word < 2 ^ 48 := by
  have crc := headerCrc_lt f.low
  have small := f.low_lt
  rw [f.word_eq]
  omega

/-- A bound lane's medium is not idle (R129). -/
theorem Lane.idle_bound {x : Lane} (bound : x.bound ≠ 0) : x.idle = false := by
  unfold Lane.idle
  rw [show (x.bound == 0) = false from beq_false_of_ne bound]
  rfl

/-- A lane of a bound medium changed and settled keeps its counters. -/
theorem State.released_counts {s : State} {l k : Nat} {x : Lane} (f : Lane → Lane) (h : s.lane l = some x)
    (room : s.nat k < 4294967295) :
    ∃ y, (((s.modLane l f).bump k).settle l false).lane l = some y ∧ (f x).Settles y ∧
      (((s.modLane l f).bump k).settle l false).get k = (s.nat k + 1 : Nat) := by
  have changed : ((s.modLane l f).bump k).lane l = some (f x) := (State.bump_lane _ _ _).trans (State.modLane_lane f h)
  obtain ⟨y, found, settles⟩ := State.settle_lane false changed
  have counts : ((s.modLane l f).bump k).get k = (s.nat k + 1 : Nat) := State.bump_cell_self (s.modLane l f) room
  exact ⟨y, found, settles, (congrArg (fun c => catGet c k) (State.settle_cat changed)).trans counts⟩

theorem State.settle_frames (s : State) (l : Nat) (was : Bool) : (s.settle l was).frames = s.frames :=
  s.settle_frame (p := .frames) l was (by decide)

/-! ### Preambles and headers (R113, R121) -/

/-- A preamble binds a lane that neither transmits nor is bound (R121). -/
theorem State.preamble_binds {s : State} {l : Nat} {chain : Bool} {x : Lane} (h : s.lane l = some x) (on : s.laneOn l = true)
    (silent : x.onAir = none) (free : x.bound = 0) (kind : chain = true → (s.laneCfg l x).chain = true) :
    ((s.preamble l chain).lane l).map (fun y => (y.bound, y.header, y.soft)) = some (if chain then 2 else 1, none, []) := by
  have hears : (x.onAir.isSome || x.bound != 0 || (chain && !(s.laneCfg l x).chain)) = false := by
    rw [silent, free]
    cases chain with
    | false => rfl
    | true => rw [kind rfl]; rfl
  unfold State.preamble
  rw [State.onMedium_eq _ h on, hears, if_neg (by decide)]
  obtain ⟨y, found, settles⟩ := State.settle_lane x.idle (State.modLane_lane _ h)
  rw [found, settles.rest]
  cases chain <;> rfl

/-- A lane that follows a data frame from its header on, up to the frame's end (R121, R130). -/
def Lane.followed (x : Lane) (c : LaneCfg) (sync w : Nat) : Lane :=
  { x.unmarkAwaited with
    bound := 3, header := some w, syncNs := sync,
    virtual := some (Nat.max (x.virtual.getD 0) (chainEndNs c.profile c.carriers sync (chainFields w))) }

/-- What a lane bound to a preamble makes of the header (R113, R121, R130). -/
theorem State.chainHeader_eq {s : State} {l sync : Nat} {soft : List Int} {x : Lane} (h : s.lane l = some x) (on : s.laneOn l = true)
    (bound : x.bound = 2) :
    s.chainHeader l sync soft =
      (if !headerOk (headerDecode soft) then (s.modLane l fun x => x.unmarkAwaited.release).bump (Obj.plcCrcFail l)
      else if (chainFields (headerDecode soft)).burstPeriodUs = 0 then
        s.modLane l fun x => { x with header := some (headerDecode soft) }
      else s.modLane l fun y => y.followed (s.laneCfg l x) sync (headerDecode soft)).settle l false := by
  unfold State.chainHeader
  rw [State.onMedium_eq _ h on, Lane.idle_bound (by omega)]
  exact congrArg (fun t : State => t.settle l false) (if_neg (not_not.mpr bound))

/-- A header of data is followed (R121, R130). -/
theorem State.chainHeader_follows {s : State} {l sync : Nat} {soft : List Int} {x : Lane} (h : s.lane l = some x)
    (on : s.laneOn l = true) (bound : x.bound = 2) (ok : headerOk (headerDecode soft) = true)
    (data : (chainFields (headerDecode soft)).burstPeriodUs ≠ 0) :
    (s.chainHeader l sync soft).cat = s.cat ∧
      (s.chainHeader l sync soft).lane l = some (x.followed (s.laneCfg l x) sync (headerDecode soft)) := by
  have followed := State.modLane_lane (fun y => y.followed (s.laneCfg l x) sync (headerDecode soft)) h
  rw [State.chainHeader_eq h on bound, ok, if_neg (by decide), if_neg data,
    State.settle_same followed (Lane.idle_bound (by decide : (3 : Nat) ≠ 0))]
  exact ⟨rfl, followed⟩

/-- The header of an acknowledgement is noted (R113, R134). -/
theorem State.chainHeader_notes {s : State} {l sync : Nat} {soft : List Int} {x : Lane} (h : s.lane l = some x)
    (on : s.laneOn l = true) (bound : x.bound = 2) (ok : headerOk (headerDecode soft) = true)
    (ack : (chainFields (headerDecode soft)).burstPeriodUs = 0) :
    (s.chainHeader l sync soft).cat = s.cat ∧
      (s.chainHeader l sync soft).lane l = some { x with header := some (headerDecode soft) } := by
  have noted := State.modLane_lane (fun x : Lane => { x with header := some (headerDecode soft) }) h
  have busy : ({ x with header := some (headerDecode soft) } : Lane).idle = false := Lane.idle_bound (by dsimp only; omega)
  rw [State.chainHeader_eq h on bound, ok, if_neg (by decide), if_pos ack, State.settle_same noted busy]
  exact ⟨rfl, noted⟩

/-- A header that fails its checks releases the lane (R121). -/
theorem State.chainHeader_bad {s : State} {l sync : Nat} {soft : List Int} {x : Lane} (h : s.lane l = some x)
    (on : s.laneOn l = true) (bound : x.bound = 2) (bad : headerOk (headerDecode soft) = false)
    (room : s.nat (Obj.plcCrcFail l) < 4294967295) :
    (s.chainHeader l sync soft).get (Obj.plcCrcFail l) = (s.nat (Obj.plcCrcFail l) + 1 : Nat) ∧
      ((s.chainHeader l sync soft).lane l).map (fun y => (y.bound, y.header)) = some (0, none) := by
  obtain ⟨y, found, settles, counts⟩ := State.released_counts (fun x => x.unmarkAwaited.release) h room
  rw [State.chainHeader_eq h on bound, bad, Bool.not_false, if_pos rfl, found, settles.rest]
  exact ⟨counts, rfl⟩

/-! ### Bursts (R121, R124) -/

/-- A lane with one more burst of its frame: the soft values of its symbols, with what was erased of them (R124). -/
def Lane.withBurst (x : Lane) (pilots : Bool) (window : List Int) (out : List (List Int × Nat)) : Lane :=
  { x with
    bursts := x.bursts + 1, missed := if pilots then 0 else x.missed + 1, window := window,
    soft := x.soft ++ out.map (·.1), erased := x.erased + (out.map (·.2)).sum }

/-- A burst that a followed frame still announces: kept with its erasures, or, the second in a row without pilots, the release of its
lane. -/
theorem State.chainBurst_eq {s : State} {l w : Nat} {x : Lane} (before : List Int) (syms : List BurstSymbol)
    (h : s.lane l = some x) (on : s.laneOn l = true) (bound : x.bound = 3) (header : x.header = some w)
    (more : x.bursts < (s.laneCfg l x).announced (chainFields w)) :
    ∃ (out : List (List Int × Nat)) (window : List Int) (k : Nat), out.length = syms.length ∧ k ≤ syms.length ∧
      ∀ pilots, s.chainBurst l pilots before syms =
        (if !pilots && Nat.ble 1 x.missed then (s.modLane l Lane.release).bump (Obj.plcCrcFail l)
        else (s.modLane l fun x => x.withBurst pilots window out).bumpBy (Obj.erasedSymbols l) k).settle l false := by
  have listens : ¬(x.bound ≠ 3 ∨ (s.laneCfg l x).announced (chainFields w) ≤ x.bursts) := by omega
  rcases blanks : burstImpulses (s.nat (Obj.impulseFactorDeci l)) x.window before syms with ⟨counts, window⟩
  refine ⟨?out, window, ?k, ?length, ?few, fun pilots => ?run⟩
  case run =>
    unfold State.chainBurst
    rw [State.onMedium_eq _ h on, header]
    dsimp only
    rw [if_neg listens, Lane.idle_bound (by omega), blanks]
    rfl
  case length => exact (List.length_map _).trans List.length_range
  case few => exact (List.length_filter_le _ _).trans (le_of_eq ((List.length_map _).trans List.length_range))

/-- A burst with pilots, or the first without, is kept (R121, R124). -/
theorem State.burst_kept {s : State} {l k : Nat} {pilots : Bool} {window : List Int} {out : List (List Int × Nat)} {x : Lane}
    (h : s.lane l = some x) (bound : x.bound = 3) :
    (((s.modLane l fun x => x.withBurst pilots window out).bumpBy (Obj.erasedSymbols l) k).settle l false).lane l =
      some (x.withBurst pilots window out) ∧
    (s.nat (Obj.erasedSymbols l) + k < 4294967296 →
      (((s.modLane l fun x => x.withBurst pilots window out).bumpBy (Obj.erasedSymbols l) k).settle l false).get (Obj.erasedSymbols l) =
        (s.nat (Obj.erasedSymbols l) + k : Nat)) := by
  have kept : ((s.modLane l fun x => x.withBurst pilots window out).bumpBy (Obj.erasedSymbols l) k).lane l =
      some (x.withBurst pilots window out) :=
    (State.lane_of_part l (State.bumpBy_frame _ _ _ (by decide))).trans (State.modLane_lane _ h)
  have busy : (x.withBurst pilots window out).idle = false := Lane.idle_bound (show x.bound ≠ 0 by omega)
  rw [State.settle_same kept busy]
  refine ⟨kept, fun room => ?_⟩
  unfold State.bumpBy
  rw [if_pos (show (s.modLane l _).nat (Obj.erasedSymbols l) + k < 4294967296 from room)]
  exact State.set_cell_self _ _ _

/-! ### Delivery (R127) -/

theorem State.cellOpen_of_parts {s t : State} (cell : Nat) (cat : t.cat = s.cat) (pins : t.pins = s.pins) (pw : t.pw = s.pw)
    (fw : t.fw = s.fw) (frames : t.frames = s.frames) : t.cellOpen cell = s.cellOpen cell := by
  have nat (k : Nat) : t.nat k = s.nat k := congrArg (fun c => (catGet c k).toNat) cat
  simp only [State.cellOpen, State.accepting, State.serving, State.awake, State.bitOf, nat, pins, pw, fw, frames]

/-- A frame that its cell accepts enters the path at step 1 (R127). -/
theorem State.plcArrive_enters {s u : State} {l : Nat} {i : RxInfo} {profile mode erased : Nat} {clipped : Bool}
    (frames : u.frames = s.frames) (next : u.nextFrame = s.nextFrame) (accepts : u.cellOpen (l + 4) = true) :
    ∃ f, (u.plcArrive l i profile mode erased clipped).frames = s.frames ++ [f] ∧ f.id = s.nextFrame ∧ f.stage = 1 ∧
      f.cell = l + 4 ∧ f.native = i.native ∧ f.inPlc = true ∧ f.bytes = i.frame := by
  obtain ⟨⟨x, d, entered⟩, -⟩ := State.arrive_frames (s := u)
    (f := { u.newFrame (4 + l) i with
      mode := mode, inPlc := true, port := l + 4, desc := u.plcDescriptor l i profile mode erased clipped })
    (by rwa [Nat.add_comm] at accepts)
  rw [frames, next] at entered
  exact ⟨_, entered, rfl, rfl, Nat.add_comm 4 l, rfl, rfl, rfl⟩

theorem State.cellOpen_delivered (s : State) (l cell : Nat) : (s.bump (Obj.plcDelivered l)).cellOpen cell = s.cellOpen cell :=
  s.cellOpen_bump cell (by unfold Obj.cellEnable Obj.plcDelivered; omega) (by unfold Obj.powerState Obj.plcDelivered; omega)

theorem State.plcArrive_lane (s : State) (l : Nat) (i : RxInfo) (profile mode erased : Nat) (clipped : Bool) (j : Nat) :
    (s.plcArrive l i profile mode erased clipped).lane j = s.lane j :=
  State.lane_of_part j (s.plcArrive_frame l i profile mode erased clipped (by decide))

/-- What a frame says of links changes the lane's table alone (R138). -/
theorem State.refreshLinks_lane {s : State} {l : Nat} {x : Lane} (q sender : Nat) (hops : List (Nat × Nat × Nat))
    (h : s.lane l = some x) : ∃ links, (s.refreshLinks l q sender hops).lane l = some { x with links := links } :=
  ⟨_, State.modLane_lane _ h⟩

/-! #### Chain frames (R121, R134) -/

/-- A Chain frame all of whose bursts have passed is decoded, and leaves its lane unbound (R121). -/
theorem State.chainDelivery_eq {s : State} {l w : Nat} {x : Lane} (i : RxInfo) (clipped : Bool) (h : s.lane l = some x)
    (on : s.laneOn l = true) (bound : x.bound = 3) (header : x.header = some w)
    (whole : (s.laneCfg l x).announced (chainFields w) ≤ x.bursts) :
    s.chainDelivery l i clipped =
      ((x.chainDecoded (s.laneCfg l x) (chainFields w)).elim ((s.modLane l Lane.release).bump (Obj.plcCrcFail l)) fun d =>
        (s.modLane l Lane.release).chainArrives l (s.laneCfg l x) (chainFields w) i x clipped d.1 d.2.1 d.2.2).settle l false := by
  have ready : ¬(x.bound ≠ 3 ∨ x.bursts < (s.laneCfg l x).announced (chainFields w)) := by omega
  unfold State.chainDelivery
  rw [State.onMedium_eq _ h on, header]
  dsimp only
  rw [if_neg ready, Lane.idle_bound (by omega)]
  cases x.chainDecoded (s.laneCfg l x) (chainFields w) <;> rfl

/-- What an arrived Chain frame leaves of its lane: the acknowledgement owed and the virtual busy time it extends (R130, R134). -/
def Lane.owing (y : Lane) (c : LaneCfg) (f : ChainFields) (x : Lane) (gap : Nat) (m : ChainMpdu) (crc : Nat) : Lane :=
  let e := chainEndNs c.profile c.carriers x.syncNs f
  { y with
    ackFor := if m.endsAt selfShort then some (crc % 16384, f.priority, e + gap) else y.ackFor,
    virtual := if m.dest = 0xFFFF then y.virtual
      else some (Nat.max (y.virtual.getD 0) (e + gap + ackNs c.profile c.carriers)) }

/-- A frame that came over several hops is no observation of its sender's phase (R141). -/
theorem State.observePhase_relayed (s : State) (l sync : Nat) {m : ChainMpdu} (relayed : 1 < m.hops) : s.observePhase l sync m = s :=
  if_pos (.inl relayed)

/-- A Chain frame for the part or for everyone that came over several hops enters its cell's queue (R127, R134, R141). -/
theorem State.chainArrives_enters {s : State} {l crc : Nat} {c : LaneCfg} {f : ChainFields} {i : RxInfo} {x y : Lane} {clipped : Bool}
    {m : ChainMpdu} {mpdu : List Nat} (h : s.lane l = some y) (mine : m.dest = selfShort ∨ m.dest = 0xFFFF)
    (accepts : s.cellOpen (l + 4) = true) (relayed : 1 < m.hops) :
    (∃ g, (s.chainArrives l c f i x clipped m mpdu crc).frames = s.frames ++ [g] ∧ g.id = s.nextFrame ∧ g.stage = 1 ∧
      g.cell = l + 4 ∧ g.native = m.native ∧ g.inPlc = true ∧ g.bytes = ofBytes mpdu) ∧
    ∃ links, (s.chainArrives l c f i x clipped m mpdu crc).lane l =
      some { y.owing c f x (1000 * (s.laneTiming x).ackGapUs) m crc with links := links } := by
  unfold State.chainArrives
  dsimp only
  rw [State.observePhase_relayed _ _ _ relayed, if_pos mine]
  constructor
  · exact State.plcArrive_enters (State.bump_frame (p := .frames) _ _ (by decide)) (State.bump_frame (p := .nextFrame) _ _ (by decide))
      ((State.cellOpen_delivered (State.refreshLinks _ _ _ _ _) l (l + 4)).trans accepts)
  · obtain ⟨links, heard⟩ := State.refreshLinks_lane (linkQuality i.esn0) m.sender m.links
      (State.modLane_lane (fun y => y.owing c f x (1000 * (s.laneTiming x).ackGapUs) m crc) h)
    exact ⟨links, (State.plcArrive_lane _ _ _ _ _ _ _ _).trans ((State.bump_lane _ _ _).trans heard)⟩

/-- A lane whose Chain frame is through (R121, R127). -/
structure Lane.Through (s : State) (l w : Nat) (x : Lane) : Prop where
  here : s.lane l = some x
  on : s.laneOn l = true
  bound : x.bound = 3
  header : x.header = some w
  whole : (s.laneCfg l x).announced (chainFields w) ≤ x.bursts

/-- A Chain frame that its lane decodes for the part enters the path, its acknowledgement owed (R127, R134). -/
theorem State.chainDelivery_enters {s : State} {l w crc : Nat} {i : RxInfo} {m : ChainMpdu} {mpdu : List Nat} {x : Lane}
    (clipped : Bool) (through : Lane.Through s l w x)
    (decoded : x.chainDecoded (s.laneCfg l x) (chainFields w) = some (m, mpdu, crc)) (mine : m.dest = selfShort ∨ m.dest = 0xFFFF)
    (accepts : s.cellOpen (l + 4) = true) (relayed : 1 < m.hops) :
    (∃ g, (s.chainDelivery l i clipped).frames = s.frames ++ [g] ∧ g.id = s.nextFrame ∧ g.stage = 1 ∧
      g.cell = l + 4 ∧ g.native = m.native ∧ g.inPlc = true ∧ g.bytes = ofBytes mpdu) ∧
    ∃ y, (s.chainDelivery l i clipped).lane l = some y ∧ y.bound = 0 ∧ (m.endsAt selfShort = true →
      y.ackFor = some (crc % 16384, (chainFields w).priority,
        chainEndNs (s.laneCfg l x).profile (s.laneCfg l x).carriers x.syncNs (chainFields w) + 1000 * (s.laneTiming x).ackGapUs)) := by
  obtain ⟨entered, links, heard⟩ := State.chainArrives_enters (s := s.modLane l Lane.release) (i := i) (clipped := clipped)
    (c := s.laneCfg l x) (f := chainFields w) (x := x) (crc := crc) (mpdu := mpdu) (State.modLane_lane Lane.release through.here) mine
    accepts relayed
  obtain ⟨y, found, settles⟩ := State.settle_lane false heard
  rw [State.chainDelivery_eq i clipped through.here through.on through.bound through.header through.whole, decoded, Option.elim_some,
    State.settle_frames]
  refine ⟨entered, y, found, (congrArg (fun z : Lane => z.bound) settles.rest :), fun ends => ?_⟩
  exact (congrArg (fun z : Lane => z.ackFor) settles.rest).trans (if_pos ends)

/-- A Chain frame that does not decode is counted as a CRC failure (R121). -/
theorem State.chainDelivery_fails {s : State} {l w : Nat} {i : RxInfo} {x : Lane} (clipped : Bool) (through : Lane.Through s l w x)
    (decoded : x.chainDecoded (s.laneCfg l x) (chainFields w) = none) (room : s.nat (Obj.plcCrcFail l) < 4294967295) :
    ((s.chainDelivery l i clipped).lane l).map (·.bound) = some 0 ∧ (s.chainDelivery l i clipped).frames = s.frames ∧
      (s.chainDelivery l i clipped).get (Obj.plcCrcFail l) = (s.nat (Obj.plcCrcFail l) + 1 : Nat) := by
  obtain ⟨y, found, settles, counts⟩ := State.released_counts Lane.release through.here room
  rw [State.chainDelivery_eq i clipped through.here through.on through.bound through.header through.whole, decoded, Option.elim_none,
    found, settles.rest]
  exact ⟨rfl, (State.settle_frames _ _ _).trans ((s.modLane l Lane.release).bump_frame (p := .frames) _ (by decide)), counts⟩

/-! #### Standard frames (R111) -/

/-- The tone map that a frame brings, and the answer to its request, leave what a lane received (R111). -/
theorem State.toneMaps_lane {s : State} {l : Nat} {x : Lane} (p : PlcInfo) (h : s.lane l = some x) :
    ∃ y, (s.toneMaps l p).lane l = some y ∧ y.bound = x.bound ∧ y.virtual = x.virtual := by
  have kept : ∃ maps, (match p.toneMap with
      | none => s
      | some m => s.modLane l fun x => { x with toneMaps := tput x.toneMaps p.sender m }).lane l =
        some { x with toneMaps := maps } := by
    cases p.toneMap with
    | none => exact ⟨x.toneMaps, h⟩
    | some m => exact ⟨_, State.modLane_lane _ h⟩
  obtain ⟨maps, kept⟩ := kept
  unfold State.toneMaps
  dsimp only
  split
  · obtain ⟨y, -, found, settles, -⟩ := State.standardMessage_lane p.sender 2 kept
    exact ⟨y, found, (congrArg (fun z : Lane => z.bound) settles.rest :), (congrArg (fun z : Lane => z.virtual) settles.rest :)⟩
  · exact ⟨_, kept, rfl, rfl⟩

theorem State.toneMaps_part {part : Part} (s : State) (l : Nat) (p : PlcInfo) (apart : part ∉ [Part.free, .lanes]) :
    part.of (s.toneMaps l p) = part.of s := by
  have away : part ∉ [Part.lanes] := fun inside => apart (List.mem_cons_of_mem _ inside)
  unfold State.toneMaps
  dsimp only
  have kept : part.of (match p.toneMap with
      | none => s
      | some m => s.modLane l fun x => { x with toneMaps := tput x.toneMaps p.sender m }) = part.of s := by
    cases p.toneMap with
    | none => rfl
    | some m => exact s.modLane_frame l _ away
  split
  · exact (State.standardMessage_frame _ l p.sender 2 apart).trans kept
  · exact kept

/-- A standard frame heard to its end leaves its lane unbound, and is taken, or counted as what is wrong with it (R111, R127). -/
theorem State.standardDelivery_eq {s : State} {l : Nat} {x : Lane} (ok : Bool) (i : RxInfo) (p : PlcInfo) (h : s.lane l = some x)
    (on : s.laneOn l = true) (bound : x.bound = 1) :
    s.standardDelivery l ok i p =
      (if !modulationSupported p.modulation then (s.modLane l Lane.release).bump (Obj.plcUnsupportedFormat l)
      else if !ok then (s.modLane l Lane.release).bump (Obj.plcCrcFail l)
      else (((((s.modLane l Lane.release).bump (Obj.plcDelivered l)).modLane l fun y =>
          { y with virtual := some (Nat.max (y.virtual.getD 0) (i.endNs + p.busyNs)) }).refreshLinks l
            (linkQuality i.esn0) p.sender []).toneMaps l p).plcArrive l { i with modeParam := p.modulation } (s.laneCfg l x).profile
              (plcMode (s.laneCfg l x).profile (s.laneCfg l x).standard false) 0 p.clipped).settle l false := by
  unfold State.standardDelivery
  rw [State.onMedium_eq _ h on, Lane.idle_bound (by omega)]
  exact congrArg (fun t : State => t.settle l false) (if_neg (not_not.mpr bound))

/-- A standard frame whose checks pass enters the path, and the medium is taken as busy as it says (R111, R130). -/
theorem State.standardDelivery_enters {s : State} {l : Nat} {i : RxInfo} {p : PlcInfo} {x : Lane} (h : s.lane l = some x)
    (on : s.laneOn l = true) (bound : x.bound = 1) (accepts : s.cellOpen (l + 4) = true)
    (supported : modulationSupported p.modulation = true) :
    (∃ g, (s.standardDelivery l true i p).frames = s.frames ++ [g] ∧ g.id = s.nextFrame ∧ g.stage = 1 ∧ g.cell = l + 4 ∧
      g.native = i.native ∧ g.inPlc = true ∧ g.bytes = i.frame) ∧
    ∃ y, (s.standardDelivery l true i p).lane l = some y ∧ y.bound = 0 ∧
      y.virtual = some (Nat.max (x.virtual.getD 0) (i.endNs + p.busyNs)) := by
  rw [State.standardDelivery_eq true i p h on bound, supported, Bool.not_true, if_neg (by decide), if_neg (by decide),
    State.settle_frames]
  have released : ((s.modLane l Lane.release).bump (Obj.plcDelivered l)).lane l = some x.release :=
    (State.bump_lane _ _ _).trans (State.modLane_lane Lane.release h)
  have opened : ((s.modLane l Lane.release).bump (Obj.plcDelivered l)).cellOpen (l + 4) = true :=
    ((s.modLane l Lane.release).cellOpen_delivered l (l + 4)).trans accepts
  have frames : ((s.modLane l Lane.release).bump (Obj.plcDelivered l)).frames = s.frames :=
    State.bump_frame (p := .frames) _ _ (by decide)
  have next : ((s.modLane l Lane.release).bump (Obj.plcDelivered l)).nextFrame = s.nextFrame :=
    State.bump_frame (p := .nextFrame) _ _ (by decide)
  generalize (s.modLane l Lane.release).bump (Obj.plcDelivered l) = u at released opened frames next
  obtain ⟨links, heard⟩ := State.refreshLinks_lane (linkQuality i.esn0) p.sender []
    (State.modLane_lane (fun y => { y with virtual := some (Nat.max (y.virtual.getD 0) (i.endNs + p.busyNs)) }) released)
  have part {q : Part} (apart : q ∉ [Part.free, .lanes]) := State.toneMaps_part (part := q)
    ((u.modLane l fun y => { y with virtual := some (Nat.max (y.virtual.getD 0) (i.endNs + p.busyNs)) }).refreshLinks l
      (linkQuality i.esn0) p.sender []) l p apart
  obtain ⟨y, mapped, unbound, busy⟩ := State.toneMaps_lane p heard
  constructor
  · refine State.plcArrive_enters ((part (q := .frames) (by decide)).trans frames) ((part (q := .nextFrame) (by decide)).trans next) ?_
    exact (State.cellOpen_of_parts (l + 4) (part (q := .cat) (by decide)) (part (q := .pins) (by decide)) (part (q := .pw) (by decide))
      (part (q := .fw) (by decide)) (part (q := .frames) (by decide))).trans opened
  · obtain ⟨z, found, settles⟩ := State.settle_lane false ((State.plcArrive_lane _ l { i with modeParam := p.modulation }
      (s.laneCfg l x).profile (plcMode (s.laneCfg l x).profile (s.laneCfg l x).standard false) 0 p.clipped l).trans mapped)
    exact ⟨z, found, (congrArg (fun z : Lane => z.bound) settles.rest).trans unbound,
      (congrArg (fun z : Lane => z.virtual) settles.rest).trans busy⟩

/-- A standard frame of a format that is not supported, or whose checks fail, is counted and leaves its lane unbound (R111, R127). -/
theorem State.standardDelivery_fails {s : State} {l k : Nat} {i : RxInfo} {p : PlcInfo} {x : Lane} {ok : Bool} (h : s.lane l = some x)
    (on : s.laneOn l = true) (bound : x.bound = 1) (room : s.nat k < 4294967295)
    (why : (modulationSupported p.modulation = false ∧ k = Obj.plcUnsupportedFormat l) ∨
      (modulationSupported p.modulation = true ∧ ok = false ∧ k = Obj.plcCrcFail l)) :
    ((s.standardDelivery l ok i p).lane l).map (·.bound) = some 0 ∧ (s.standardDelivery l ok i p).frames = s.frames ∧
      (s.standardDelivery l ok i p).get k = (s.nat k + 1 : Nat) := by
  have run : s.standardDelivery l ok i p = ((s.modLane l Lane.release).bump k).settle l false := by
    rw [State.standardDelivery_eq ok i p h on bound]
    rcases why with ⟨unknown, rfl⟩ | ⟨supported, rfl, rfl⟩
    · rw [unknown]
      rfl
    · rw [supported]
      rfl
  obtain ⟨y, found, settles, counts⟩ := State.released_counts Lane.release h room
  rw [run, found, settles.rest]
  exact ⟨rfl, (State.settle_frames _ _ _).trans ((s.modLane l Lane.release).bump_frame (p := .frames) _ (by decide)), counts⟩

/-! ### The link-quality table (R138, R143) -/

/-- A link that has aged by no whole hour stays as it is; one that has aged by one loses 8 (R138). -/
theorem Link.age_fresh {now : Nat} {e : Link} (fresh : now < e.aged + 3600) : e.age now = e := by
  have hours : (now - e.aged) / 3600 = 0 := by omega
  unfold Link.age
  rw [hours]
  rfl

theorem Link.age_hour {now : Nat} {e : Link} (from_ : e.aged + 3600 ≤ now) (to_ : now < e.aged + 7200) :
    e.age now = { e with q := e.q - 8, aged := e.aged + 3600 } := by
  have hours : (now - e.aged) / 3600 = 1 := by omega
  unfold Link.age
  rw [hours]

/-- The links of a lane after ageing (R138). -/
def State.agedLinks (s : State) (ls : List Link) : List Link :=
  (ls.map (Link.age s.tai)).filter fun e => e.q != 0 && Nat.ble s.tai (e.at_ + 3600 * s.nat Obj.lqtMaxAgeH)

theorem State.mem_agedLinks {s : State} {ls : List Link} {e : Link} :
    e ∈ s.agedLinks ls ↔ (∃ d ∈ ls, d.age s.tai = e) ∧ e.q ≠ 0 ∧ s.tai ≤ e.at_ + 3600 * s.nat Obj.lqtMaxAgeH := by
  rw [State.agedLinks, List.mem_filter, List.mem_map, Bool.and_eq_true, Nat.ble_eq, bne_iff_ne]

theorem State.lqtAgeing_lane {s : State} {l : Nat} {x : Lane} (on : s.tightropeOn = true) (h : s.lane l = some x) :
    s.lqtAgeing.lane l = some { x with links := s.agedLinks x.links } := by
  unfold State.lqtAgeing
  rw [on, Bool.not_true, if_neg (by decide)]
  exact (List.getElem?_map ..).trans (congrArg _ h)

theorem State.lqtAgeing_cat (s : State) : s.lqtAgeing.cat = s.cat := by
  unfold State.lqtAgeing
  split <;> rfl

/-- The links of an address, read (R143). -/
theorem State.linkQualityRead_answers {s : State} {r : CapReq} {ses : Session} {l short : Nat} {x : Lane}
    (admits : s.Admits r Obj.linkQualityRead ses) (h : s.lane l = some x) :
    (s.linkQualityRead r l short).lanes = s.lanes ∧ (s.linkQualityRead r l short).Answered r Obj.linkQualityRead
      (capVal (6 * (sortLinks (x.links.filter fun e => e.src == short || e.dst == short)).length)
        (pack ((sortLinks (x.links.filter fun e => e.src == short || e.dst == short)).map fun e => (6, e.pack)))) := by
  have lanes : (s.executing r ses).lanes = s.lanes := s.executing_frame (p := .lanes) r ses (by decide)
  have here : (s.executing r ses).lane l = some x := (congrArg (·[l]?) lanes).trans h
  obtain ⟨t, run, answers⟩ := State.capExec_answers (u := s.executing r ses)
    (body := fun _ s => match s.lane l with
      | none => (capErr 5 0, s)
      | some x =>
        let ls := sortLinks (x.links.filter fun e => e.src == short || e.dst == short)
        (capVal (6 * ls.length) (pack (ls.map fun e => (6, e.pack))), s)) admits (by dsimp only; rw [here]) rfl
  rw [show s.linkQualityRead r l short = t from run]
  exact ⟨(answers.parts .lanes (by decide)).trans lanes, answers.answered⟩

/-! ### What a lane hears (R127) -/

theorem exec_plcFrameDelivery_chain {s : State} {l : Nat} {ok : Bool} {i : RxInfo} {p : PlcInfo} (chain : p.chain = true) :
    exec (.plcFrameDelivery l ok i p) s = .next (s.chainDelivery l i p.clipped) :=
  congrArg Host.Outcome.next (if_pos chain)

theorem exec_plcFrameDelivery_standard {s : State} {l : Nat} {ok : Bool} {i : RxInfo} {p : PlcInfo} (standard : p.chain = false) :
    exec (.plcFrameDelivery l ok i p) s = .next (s.standardDelivery l ok i p) :=
  congrArg Host.Outcome.next (if_neg (by simp [standard]))

/-- Settles O26. -/
theorem laneReception : Obligations.LaneReception := by
  refine ⟨fun f gap period blocks modulation prio => ?_, fun s l chain x h on silent free kind => ?_,
    fun s l sync soft x h on bound room => ?_, fun s l w before syms x h on bound header more few room => ?_,
    fun s l w crc ok i p m mpdu x h on chain bound header whole decoded mine accepts relayed => ?_,
    fun s l w ok i p x h on chain bound header whole decoded room => ?_,
    fun s l i p x h on standard bound accepts supported => ?_,
    fun s l ok i p x h on standard bound format crc fails => ?_, fun s on => ?_, fun s r ses l short x admits h => ?_⟩
  · refine ⟨?_, headerOk_word f prio, f.word_lt⟩
    rw [chainFields_word, Nat.mod_eq_of_lt gap, Nat.mod_eq_of_lt period, Nat.mod_eq_of_lt blocks, Nat.mod_eq_of_lt modulation,
      Nat.mod_eq_of_lt (by omega : f.priority < 4)]
  · exact ⟨_, rfl, State.preamble_binds h on silent free kind⟩
  · exact ⟨_, rfl, fun ok data => State.chainHeader_follows h on bound ok data,
      fun ok ack => State.chainHeader_notes h on bound ok ack, fun bad => State.chainHeader_bad h on bound bad room⟩
  · obtain ⟨out, window, k, length, small, run⟩ := State.chainBurst_eq before syms h on bound header more
    obtain ⟨kept, counts⟩ := State.burst_kept (k := k) (pilots := true) (window := window) (out := out) h bound
    refine ⟨_, _, k, congrArg Host.Outcome.next (run true), congrArg Host.Outcome.next (run false), ?_, small, counts (by omega),
      fun first => ?_, fun second => ?_⟩
    · rw [Bool.not_true, Bool.false_and, if_neg (by decide), kept, Option.map_some]
      simp [Lane.withBurst, bound, length]
    · obtain ⟨kept, -⟩ := State.burst_kept (k := k) (pilots := false) (window := window) (out := out) h bound
      rw [first, if_neg (by decide), kept, Option.map_some]
      simp [Lane.withBurst, bound, first]
    · obtain ⟨y, found, settles, released⟩ := State.released_counts Lane.release h room
      rw [Nat.ble_eq_true_of_le second, Bool.not_false, Bool.true_and, if_pos rfl, found, settles.rest]
      exact ⟨rfl, released⟩
  · obtain ⟨⟨g, entered, id, stage, cell, native, plc, bytes⟩, y, found, unbound, owed⟩ :=
      State.chainDelivery_enters (i := i) p.clipped ⟨h, on, bound, header, whole⟩ decoded mine accepts relayed
    refine ⟨_, y, exec_plcFrameDelivery_chain chain, found, unbound, ?_, ?_, owed⟩
    · rw [entered, List.length_append, List.length_singleton]
    · rw [entered, List.getLast?_concat, Option.map_some, id, stage, cell, native, plc, bytes]
  · exact ⟨_, exec_plcFrameDelivery_chain chain,
      State.chainDelivery_fails p.clipped ⟨h, on, bound, header, whole⟩ decoded room⟩
  · obtain ⟨⟨g, entered, id, stage, cell, native, plc, -⟩, y, found, unbound, busy⟩ :=
      State.standardDelivery_enters (i := i) h on bound accepts supported
    refine ⟨_, y, exec_plcFrameDelivery_standard standard, found, unbound, busy, ?_, ?_⟩
    · rw [entered, List.length_append, List.length_singleton]
    · rw [entered, List.getLast?_concat, Option.map_some, id, stage, cell, native, plc]
  · refine ⟨_, exec_plcFrameDelivery_standard standard, ?_⟩
    cases supported : modulationSupported p.modulation with
    | false => exact State.standardDelivery_fails h on bound format (.inl ⟨supported, rfl⟩)
    | true =>
      have bad : ok = false := fails.resolve_left (by simp [supported])
      exact State.standardDelivery_fails h on bound crc (.inr ⟨supported, bad, rfl⟩)
  · refine ⟨_, rfl, s.lqtAgeing_cat, fun l x h => ⟨_, State.lqtAgeing_lane on h, ?_, ?_, ?_⟩⟩
    · exact fun e kept => (State.mem_agedLinks.mp kept).2
    · exact fun e there fresh lives young => State.mem_agedLinks.mpr ⟨⟨e, there, Link.age_fresh fresh⟩, lives, young⟩
    · exact fun e there from_ to_ strong young => State.mem_agedLinks.mpr ⟨⟨e, there, Link.age_hour from_ to_⟩,
        by dsimp only; omega, young⟩
  · exact ⟨_, rfl, State.linkQualityRead_answers admits h⟩

end Sys2Proof.Machine
